-- ==== Sys2Proof/Word.lean ====
section
/-! DEFINITION. Sys2Proof/Word.lean: the plain containers and words every other file uses: a quality byte, and a
sparse table by key in one canonical form. -/

namespace Sys2Proof

/-- The quality byte of a sample or estimate (00 R18). -/
abbrev Quality := BitVec 8

/-- A sparse table by a natural key. Canonical form: keys strictly rising and no entry equal to the value an
absent key reads as, so that equal tables are equal data. -/
structure Table (α : Type) where
  /-- The entries, by rising key. -/
  entries : List (Nat × α) := []
deriving DecidableEq, Repr

namespace Table

/-- Reading a key of an entry list; `d` is what an absent key reads as. -/
def look {α : Type} (d : α) (k : Nat) : List (Nat × α) → α
  | [] => d
  | (k', v) :: r => if k' = k then v else look d k r

/-- Entry list without a key. -/
def drop {α : Type} (k : Nat) : List (Nat × α) → List (Nat × α)
  | [] => []
  | (k', v) :: r => if k' = k then drop k r else (k', v) :: drop k r

/-- Entry list with a key set, keys kept rising. -/
def insert {α : Type} (k : Nat) (v : α) : List (Nat × α) → List (Nat × α)
  | [] => [(k, v)]
  | (k', v') :: r =>
    if k < k' then (k, v) :: (k', v') :: r
    else if k = k' then (k, v) :: r
    else (k', v') :: insert k v r

/-- The value of a key; `d` is what an absent key reads as. -/
def get {α : Type} (t : Table α) (k : Nat) (d : α) : α := look d k t.entries

/-- The table with a key set; setting the value an absent key reads as removes the entry. -/
def put {α : Type} [DecidableEq α] (t : Table α) (k : Nat) (d v : α) : Table α :=
  if v = d then ⟨drop k t.entries⟩ else ⟨insert k v t.entries⟩

/-- The table with the value of one key updated. -/
def upd {α : Type} [DecidableEq α] (t : Table α) (k : Nat) (d : α) (f : α → α) : Table α :=
  t.put k d (f (t.get k d))

/-- The table with every listed value updated; entries that come to the default leave it. -/
def mapAll {α : Type} [DecidableEq α] (t : Table α) (d : α) (f : Nat → α → α) : Table α :=
  ⟨(t.entries.map fun e => (e.1, f e.1 e.2)).filter fun e => !decide (e.2 = d)⟩

/-- The keys listed. -/
def keys {α : Type} (t : Table α) : List Nat := t.entries.map Prod.fst

/-- The canonical form of an entry list: keys strictly rising, no default value. -/
def wfList {α : Type} [DecidableEq α] (d : α) : List (Nat × α) → Bool
  | [] => true
  | [(_, v)] => !decide (v = d)
  | (k, v) :: (k', v') :: r => !decide (v = d) && decide (k < k') && wfList d ((k', v') :: r)

/-- The canonical form of a table whose absent keys read as `d`. -/
def wf {α : Type} [DecidableEq α] (d : α) (t : Table α) : Bool := wfList d t.entries

end Table

end Sys2Proof
end

