-- ==== Sys2Proof/Config.lean ====
section
/-! DEFINITION. Sys2Proof/Config.lean: the names the spec fixes (states, roles, actions, events), the records of a
configuration image, and the free values and functions the spec leaves open (opaque: no proof can see what they
are). -/

namespace Sys2Proof

/-- Admission state of a node at the module (04 R117), and of the node itself (04 R116 to R118). -/
inductive AdmState where
  | unadmitted | challenged | keying | pending | admitted
deriving DecidableEq, Repr

/-- The module states (19 R461). -/
inductive ModState where
  | off | starting | unconfigured | watch | run | enteringHib | hibernate | flushing | resetLocked
deriving DecidableEq, Repr

/-- The time states of Thyme (02 R49, R50). -/
inductive TimeState where
  | unset | acquiring | locked | holdover | freeRunning | unaligned
deriving DecidableEq, Repr

/-- The protection actions (11 R288): none, hold, branch disconnect, string disconnect. -/
inductive Action where
  | none | hold | bd | sd
deriving DecidableEq, Repr

/-- Phase of a coil output (12 R315, R316). -/
inductive CoilPhase where
  | off | waiting | pullIn | hold
deriving DecidableEq, Repr

/-- The string's state (12 R324, R334). -/
inductive StrState where
  | opened | closingFirst | preCharging | closingMain | connected | disconnecting
deriving DecidableEq, Repr

/-- A branch's state (12 R328 to R330, R334). -/
inductive BrState where
  | opened | blocked | pending | joining | joined | leaving
deriving DecidableEq, Repr

/-- Roles within a twin pair (14 R363). -/
inductive Role where
  | starting | syncing | follower | leader | withdrawn | absent
deriving DecidableEq, Repr

/-- Agreement state of a cell (07 R198). -/
inductive AgreeState where
  | agree | countEmpty | voltageEmpty
deriving DecidableEq, Repr

/-- Sensor state of a node sensor (10 R269). -/
inductive SensorState where
  | healthy | suspect | broken
deriving DecidableEq, Repr

/-- Level state of a privileged channel (10 R273). -/
inductive LevelState where
  | normal | warning | throttle | shutDown
deriving DecidableEq, Repr

/-- Confinement state of a CAN channel (18 R454, R459). -/
inductive CanState where
  | disabled | active | passive | busOff | stopped | asleep | restricted
deriving DecidableEq, Repr

/-- PTP message types the module distinguishes (02 R52). -/
inductive PtpKind where
  | announce | syncOneStep | syncTwoStep | followUp | pdelayReq | pdelayResp | pdelayRespFollowUp | unsupported
deriving DecidableEq, Repr

/-- The events the spec says are recorded; those without a stated number carry an open code (log 11). -/
inductive Ev where
  /-- a protection decision of group 0x07: 0x0700 + the function code (22 R534, 11 R292) -/
  | prot (fn : Nat)
  /-- 0x0D01 recorder started (22 R540) -/
  | recorderStarted
  /-- 0x0D02 store wrapped (22 R539) -/
  | storeWrapped
  /-- 0x0D03 write ceiling reached (22 R535) -/
  | writeCeiling
  /-- 0x0D04 erase block retired (22 R539) -/
  | blockRetired
  /-- 0x0D05 records lost (22 R538) -/
  | recordsLost
  /-- 0x0D06 suppressions before stop (22 R600) -/
  | suppressionsBeforeStop
  /-- 0x0C01 monitor limit exceeded (22 R546) -/
  | monitorLimit
  /-- 0x0110 self-test deferred (23 R556) -/
  | selfTestDeferred
  /-- 0x0910 plant delivery below assumption (23 R559) -/
  | plantDelivery
  /-- Thyme goes to locked (02 R50) -/
  | thymeLocked
  /-- Thyme goes to free-running (02 R50) -/
  | thymeFree
  /-- Thyme goes to unaligned (02 R50) -/
  | thymeUnaligned
  /-- Thyme steps (02 R51) -/
  | thymeStep
  /-- Thyme failure declared (02 R57; function 0x0A is its protection decision) -/
  | thymeFailure
  /-- a measured propagation delay differs from the installation value (02 R60) -/
  | delayDeviation
  /-- twin link and heartbeat-edge offsets differ (02 R63) -/
  | offsetDisagreement
  /-- a once pulse starts too early after arming (02 R66) -/
  | pulseMissed
  /-- "alarm energy without source" (03 R83) -/
  | energyNoSource
  /-- a relay or direct service is announced (03 R90) -/
  | relayChange
  /-- a relay or relayed report is lost (03 R91) -/
  | relayLost
  /-- "radio interference above assumption", set or cleared (03 R93) -/
  | interference
  /-- "node authentication lost" (04 R115) -/
  | authLost
  /-- "node unresponsive" (04 R111) -/
  | nodeUnresponsive
  /-- "wrong class or position" (04 R117) -/
  | wrongClass
  /-- "position conflict" (04 R117) -/
  | positionConflict
  /-- "stranger" (04 R117) -/
  | stranger
  /-- "unlisted node, replacements disabled" (04 R117) -/
  | unlisted
  /-- no challenge tag after the repeats (04 R117) -/
  | noTag
  /-- "node lost admission" (04 R117) -/
  | lostAdmission
  /-- "adjacent balancing on unconverged tap" (05 R139) -/
  | adjacentTap
  /-- "branch voltage mismatch" (05 R141) -/
  | branchMismatch
  /-- "current principle mismatch" (05 R142) -/
  | currentMismatch
  /-- shunt offset out of bounds (05 R143) -/
  | shuntOffset
  /-- spare path fault (05 R144) -/
  | spareFault
  /-- channel converter fault (05 R144) -/
  | channelFault
  /-- "calibration fault" (05 R147) -/
  | calFault
  /-- calibration committed (05 R149) -/
  | calCommitted
  /-- "Hall sensor supply lost" (25 R576) -/
  | hallLost
  /-- "tone amplitude exceeded" (06 R162) -/
  | toneExceeded
  /-- "plating indicator" (06 R177) -/
  | plating
  /-- "contact degradation" (06 R178) -/
  | contactDegraded
  /-- "count empty, voltage not" (07 R198) -/
  | countEmpty
  /-- "voltage empty, count not" (07 R198) -/
  | voltageEmpty
  /-- "capacity fade confirmed" (07 R200) -/
  | fadeConfirmed
  /-- "leakage confirmed" (07 R200) -/
  | leakConfirmed
  /-- "disagreement unexplained" (07 R200) -/
  | unexplained
  /-- "capacity step limited" (07 R202) -/
  | capStep
  /-- "leakage elevated" (07 R206) -/
  | leakElevated
  /-- "internal-short precursor" (07 R206) -/
  | shortPrecursor
  /-- "learned-state updates not written" (07 R212) -/
  | itemsUnwritten
  /-- "learned-state update lost" (07 R213) -/
  | updateLost
  /-- "learned state lost" (07 R213) -/
  | stateLost
  /-- "balancing set uncertain" (09 R254) -/
  | setUncertain
  /-- "compensation input lost" (10 R276) -/
  | compLost
  /-- "valve stall" (10 R279) -/
  | valveStall
  /-- "valve fault" (10 R279) -/
  | valveFault
  /-- "loop input lost" (10 R282) -/
  | loopInputLost
  /-- cooling lost (10 R275) -/
  | coolingLost
  /-- "local hot spot" (10 R269) -/
  | hotSpot
  /-- "temperature sensor broken" (10 R269) -/
  | sensorBroken
  /-- "temperature sensor suspect" (10 R269) -/
  | sensorSuspect
  /-- "internal temperature disagreement" (10 R269) -/
  | intTempCross
  /-- "temperature sensor restored" (10 R269) -/
  | sensorRestored
  /-- "thermal rise" (10 R271) -/
  | thermalRise
  /-- "temperature warning" (10 R273) -/
  | tempWarning
  /-- "thermal throttle" (10 R273) -/
  | tempThrottle
  /-- 0x0540 of group 0x05 (11 R297) -/
  | energySlots
  /-- "current with contactors open" (11 R302) -/
  | openCurrent
  /-- a protection function is reset (11 R309) -/
  | protReset
  /-- the insulation monitor couples (11 R306) -/
  | monitorCoupled
  /-- "connection aborted" (12 R323) -/
  | connectAborted
  /-- "leave abandoned" (12 R330) -/
  | leaveAbandoned
  /-- "safe output test interrupted by demand" (13 R343) -/
  | testInterrupted
  /-- "follower driver fault" (13 R345) -/
  | followerDriver
  /-- an entry of the safety change log (13 R352) -/
  | safetyChange
  /-- "twin discrete lost" (14 R360) -/
  | discreteLost
  /-- "twin link lost" (14 R360) -/
  | twinLinkLost
  /-- "twin mismatch" (14 R372) -/
  | twinMismatch
  /-- a takeover (14 R364) -/
  | takeover
  /-- "takeover while not ready" (14 R365) -/
  | takeoverNotReady
  /-- a withdrawal with its cause (14 R362) -/
  | withdrawal
  /-- a handover (14 R367) -/
  | handover
  /-- "safety configuration reduced" (14 R368) -/
  | safetyReduced
  /-- a leadership conflict (14 R370) -/
  | conflict
  /-- "plant set-point expired" (15 R387) -/
  | setpointExpired
  /-- "plant master lost" (15 R383) -/
  | masterLost
  /-- "master role lost" (15 R404) -/
  | masterRoleLost
  /-- the plant master role is taken (15 R403) -/
  | masterTaken
  /-- "Rantus delay change" (16 R417) -/
  | delayChange
  /-- "plant network lost" (17 R423) -/
  | networkLost
  /-- "plant port down" (17 R423) -/
  | portDown
  /-- "GOOSE trip subscription silent" (17 R441) -/
  | gooseSilent
  /-- "CAN bus load above assumption", set or cleared (18 R453) -/
  | canLoad
  /-- a change of CAN confinement state (18 R454) -/
  | canChange
  /-- "CAN channel off" (18 R455) -/
  | canOff
  /-- "CAN identifier conflict" (18 R456) -/
  | canConflict
  /-- "start complete" (19 R461) -/
  | startComplete
  /-- "reset-locked" (19 R461) -/
  | resetLocked
  /-- "flush ended, reset-locked" (19 R461) -/
  | flushLocked
  /-- "reset refused, reset-locked" (19 R461) -/
  | resetRefused
  /-- the Bay plug outcome of a start (19 R461) -/
  | plugOutcome
  /-- "feed lost" (19 R462) -/
  | feedLost
  /-- "Bay plug removed" (19 R465) -/
  | plugRemoved
  /-- "reset deferred, partner not ready" (19 R478) -/
  | resetDeferred
  /-- "reset button held" (19 R480) -/
  | buttonHeld
  /-- "reset button released" (19 R480) -/
  | buttonReleased
  /-- "hold-up reduced" (19 R484) -/
  | holdUpReduced
  /-- "power lost" (22 R538, 19 R482) -/
  | powerLost
  /-- "configuration rejected" (20 R499) -/
  | configRejected
  /-- "configuration trial failed, previous restored" (20 R500) -/
  | trialFailed
  /-- "configuration activation abandoned" (20 R503) -/
  | activationAbandoned
  /-- "committed slot corrupt" (21 R516) -/
  | slotCorrupt
  /-- "firmware rollback" (21 R516) -/
  | rollback
  /-- "activation lapsed" (21 R518) -/
  | lapsed
  /-- "configuration trial reverted" (21 R520) -/
  | reverted
  /-- "image committed" (21 R520) -/
  | committed
  /-- "follow activation waiting" (21 R523) -/
  | followWaiting
  /-- "staggered activation abandoned" (21 R524) -/
  | staggered
  /-- "cross-hold fault" (14 R369) -/
  | crossHoldFault
  /-- the fault bit or fault code of a chiller or HVAC status changes (18 R448) -/
  | equipFault
  /-- a change of the converter fault code (16 R416) -/
  | convFault
  /-- an over-temperature alarm from broken sensors is disregarded (11 R301) -/
  | alarmDisregarded
  /-- an alarm names absent positions only (04 R122) -/
  | alarmAbsent
deriving DecidableEq, Repr

/-- A plant time as a field carries it (00 R8): 48-bit seconds and 32-bit nanoseconds -/
structure PTime where
  /-- seconds -/
  secs : Nat := 0
  /-- nanoseconds -/
  nanos : Nat := 0
deriving DecidableEq, Repr

/-- One valve drive entry of record 0x0605 (10) -/
structure CfgValve where
  /-- enable -/
  enable : Bool := false
  /-- loop -/
  loop : Nat := 0
  /-- twin -/
  twin : Nat := 0
  /-- travel, microsteps; required when enabled -/
  travel : Nat := 0
  /-- maximum velocity word -/
  maxVel : Nat := 0
  /-- homing velocity word -/
  homeVel : Nat := 0
  /-- acceleration, microsteps/s^2 -/
  accel : Nat := 128000
  /-- run current, mA -/
  runMa : Nat := 1000
  /-- hold current, mA -/
  holdMa : Nat := 300
  /-- hold time, ms -/
  holdMs : Nat := 2000
  /-- stall angle, 0.1 deg -/
  stallAngle : Nat := 700
  /-- stall minimum speed, microsteps/s -/
  stallMin : Nat := 2000
  /-- deadband, microsteps -/
  deadband : Nat := 640
  /-- minimum opening, 0.1 % -/
  minOpen : Nat := 100
deriving DecidableEq, Repr

/-- One coolant loop entry of record 0x0606 (10) -/
structure CfgLoop where
  /-- set-point, 0.01 degC -/
  setpoint : Int := 3000
  /-- Kp, 0.1 %/K -/
  kp : Nat := 50
  /-- Ki, 0.01 %/(K s) -/
  ki : Nat := 20
  /-- chiller set-point minimum, 0.01 degC -/
  chMin : Int := 1200
  /-- chiller set-point maximum, 0.01 degC -/
  chMax : Int := 2500
  /-- chiller step, 0.01 K -/
  chStep : Nat := 50
deriving DecidableEq, Repr

/-- A privileged channel entry of record 0x0604 (10) -/
structure CfgPriv where
  /-- channel number of R264 -/
  chan : Nat := 0
  /-- warning level W, 0.01 degC -/
  w : Int := 0
  /-- throttle level Th, 0.01 degC -/
  th : Int := 0
  /-- shut-down level S, 0.01 degC -/
  shut : Int := 0
  /-- hysteresis H, 0.01 K -/
  h : Nat := 300
  /-- directions: bit 0 discharge, bit 1 charge -/
  dirs : Nat := 3
  /-- missing factor, 0.0001 -/
  missing : Nat := 5000
deriving DecidableEq, Repr

/-- A balance bus entry of record 0x0413 (09) -/
structure CfgBus where
  /-- rating, W -/
  rating : Nat := 0
  /-- member node indices -/
  nodes : List Nat := []
deriving DecidableEq, Repr

/-- A node table entry of record 0x0507 (04) -/
structure CfgNode where
  /-- node index -/
  index : Nat := 0
  /-- identifier, 64 bits -/
  ident : Nat := 0
  /-- class, 0x10 -/
  cls : Nat := 16
  /-- branch -/
  branch : Nat := 0
  /-- stack -/
  stack : Nat := 0
deriving DecidableEq, Repr

/-- A dispatch client entry of record 0x0B03 (15) -/
structure CfgClient where
  /-- source address -/
  addr : Nat := 0
  /-- bit 0 plant set-point, bit 1 operations, bit 2 exclude and include -/
  rights : Nat := 0
  /-- rate per s -/
  rate : Nat := 0
  /-- depth -/
  depth : Nat := 0
deriving DecidableEq, Repr

/-- A telemetry client entry of record 0x0902 (17) -/
structure CfgTele where
  /-- source address -/
  addr : Nat := 0
  /-- bit 0 subscribe, bit 1 commands -/
  rights : Nat := 0
  /-- rate, octets/s -/
  rate : Nat := 0
  /-- depth, octets -/
  depth : Nat := 0
  /-- request rate per s -/
  reqRate : Nat := 0
deriving DecidableEq, Repr

/-- A GOOSE dataset entry of record 0x0904 (17) -/
structure CfgGoosePub where
  /-- APPID -/
  appid : Nat := 0
  /-- destination MAC -/
  mac : Nat := 0
  /-- VLAN identifier -/
  vlan : Nat := 0
  /-- VLAN priority -/
  prio : Nat := 4
  /-- GoID text -/
  goId : List Nat := []
  /-- confRev -/
  confRev : Nat := 0
  /-- maximum time, ms -/
  maxMs : Nat := 1000
deriving DecidableEq, Repr

/-- A GOOSE subscription entry of record 0x0905 (17) -/
structure CfgGooseSub where
  /-- APPID -/
  appid : Nat := 0
  /-- gocbRef text -/
  cbRef : List Nat := []
  /-- datSet text -/
  datSet : List Nat := []
  /-- confRev -/
  confRev : Nat := 0
  /-- member index -/
  member : Nat := 1
  /-- use: 0 trip, 1 coupling status -/
  coupling : Bool := false
  /-- string index -/
  string : Nat := 0
deriving DecidableEq, Repr

/-- A CAN channel entry of record 0x0F01 (18) -/
structure CfgCan where
  /-- enable -/
  enable : Bool := true
  /-- nominal rate, kbit/s -/
  nominal : Nat := 1000
  /-- data rate, kbit/s -/
  data : Nat := 2000
  /-- nominal sample point, 0.1 % -/
  spNom : Nat := 800
  /-- data sample point, 0.1 % -/
  spData : Nat := 760
  /-- termination for twin position 0 -/
  term0 : Bool := true
  /-- termination for twin position 1 -/
  term1 : Bool := false
  /-- wake mode -/
  wake : Nat := 1
  /-- wake identifier -/
  wakeId : Nat := 0
  /-- wake identifier format -/
  wakeExt : Bool := false
  /-- wake mask -/
  wakeMask : Nat := 0
  /-- wake data, 8 octets -/
  wakeData : Nat := 0
  /-- wake data mask -/
  wakeDataMask : Nat := 0
deriving DecidableEq, Repr

/-- A CAN message entry of record 0x0F02 (18) -/
structure CfgMsg where
  /-- function code -/
  fn : Nat := 0
  /-- loop -/
  loop : Nat := 0
  /-- channels: 1 A, 2 B, 3 both -/
  chans : Nat := 1
  /-- identifier -/
  ident : Nat := 0
  /-- format: 0 base, 1 extended -/
  ext : Bool := false
  /-- 0 classical, 1 FD without switching, 2 FD with switching -/
  ftype : Nat := 0
  /-- period, ms -/
  period : Nat := 1000
  /-- equipment timeout, ms -/
  timeout : Nat := 3000
deriving DecidableEq, Repr

/-- A monitor entry of record 0x0C01 (22) -/
structure CfgMon where
  /-- monitor number -/
  number : Nat := 0
  /-- window length, s -/
  window : Nat := 60
  /-- L; none: R544 -/
  l : Option Int := none
  /-- W; none: R544 -/
  w : Option Int := none
  /-- limit, 0 none -/
  limit : Int := 0
deriving DecidableEq, Repr

/-- An update server entry of record 0x0E01 (21) -/
structure CfgServer where
  /-- source address -/
  addr : Nat := 0
  /-- rate, octets/s -/
  rate : Nat := 0
  /-- depth, octets -/
  depth : Nat := 0
deriving DecidableEq, Repr

/-- Record 0x0101: Power states (19 R485 table). -/
structure CfgPower where
  /-- Hibernate enable -/
  hibEnable : Bool := false
  /-- Hibernate delay, s -/
  hibDelay : Nat := 3600
  /-- Watch current, mA -/
  watchCurrent : Nat := 2000
  /-- Run dwell, s -/
  runDwell : Nat := 60
  /-- self-discharge interval, s -/
  selfDischarge : Nat := 21600
  /-- current wake level, mA -/
  wakeCurrent : Nat := 2000
  /-- its time, ms -/
  wakeCurrentMs : Nat := 10
  /-- enabled wake sources of 1 and 4 to 7 -/
  wakeEnables : List Nat := [1, 4, 5, 6, 7]
deriving DecidableEq, Repr

/-- Record 0x0201: String (20 R498); the defaults are "none; required". -/
structure CfgString where
  /-- string index -/
  index : Nat := 0
  /-- plant identifier -/
  plantId : Nat := 0
  /-- rated power P_rated, W -/
  rated : Nat := 0
  /-- minimum bus voltage, mV -/
  busMin : Nat := 0
  /-- maximum bus voltage, mV -/
  busMax : Nat := 0
  /-- description text -/
  text : List Nat := []
deriving DecidableEq, Repr

/-- Record 0x0202: Branches (20 R498); required. -/
structure CfgBranches where
  /-- maximum cell voltage, uV -/
  maxCellUv : Nat := 0
  /-- cell count per configured branch -/
  cells : List Nat := []
deriving DecidableEq, Repr

/-- Record 0x0210: Converter link (16). -/
structure CfgConverter where
  /-- converter stop time, ms -/
  stopMs : Nat := 20
  /-- sync fibre delay, 2^-8 ns -/
  fibre : Nat := 0
deriving DecidableEq, Repr

/-- Record 0x0301: Shunts (05); required per branch. -/
structure CfgShunts where
  /-- resistance per branch, nOhm -/
  rNano : List Nat := []
  /-- temperature coefficient per branch, ppm/K -/
  tcPpm : List Int := []
deriving DecidableEq, Repr

/-- Record 0x0302: Hall sensor (05); required. -/
structure CfgHall where
  /-- sensitivity, uV/A -/
  sens : Nat := 0
  /-- offset, uV -/
  offset : Int := 0
  /-- direction inverted -/
  inverted : Bool := false
deriving DecidableEq, Repr

/-- Record 0x0304: Cross-checks (05); shares in 0.01 %. -/
structure CfgCross where
  /-- branch voltage share -/
  vShare : Nat := 20
  /-- branch voltage fixed part, mV -/
  vFixed : Nat := 1000
  /-- branch voltage windows -/
  vWindows : Nat := 10
  /-- current share -/
  iShare : Nat := 100
  /-- current fixed part, mA -/
  iFixed : Nat := 4000
  /-- current windows -/
  iWindows : Nat := 10
deriving DecidableEq, Repr

/-- Record 0x0306: Limit behaviour (08). -/
structure CfgLimBeh where
  /-- sharing margin, 0.1 % -/
  sharing : Nat := 50
  /-- ramp rate, 0.1 % of the branch rating per second -/
  ramp : Nat := 100
  /-- plating factor, 0.01 -/
  plating : Nat := 50
deriving DecidableEq, Repr

/-- Record 0x0307: Coil drive (12). -/
structure CfgCoil where
  /-- pull-in time per output, ms; absent 100 -/
  pullMs : List Nat := []
  /-- pull-in power per output, W; absent 40 -/
  pullW : List Nat := []
  /-- hold current per output, mA; absent 500 -/
  holdMa : List Nat := []
  /-- coil budget, W -/
  budget : Nat := 120
  /-- pull-in minimum, mV -/
  pullMin : Nat := 20000
  /-- hold minimum, mV -/
  holdMin : Nat := 16000
deriving DecidableEq, Repr

/-- Record 0x0308: Contactor supervision (12). -/
structure CfgContSup where
  /-- close limit, ms -/
  closeMs : Nat := 150
  /-- drop-out limit, ms -/
  dropMs : Nat := 50
  /-- feedback debounce, sweeps -/
  debounce : Nat := 5
  /-- current-after-opening level, mA -/
  openMa : Nat := 2000
deriving DecidableEq, Repr

/-- Record 0x0309: Pre-charge (12). -/
structure CfgPre where
  /-- tau_min, ms -/
  tauMin : Nat := 100
  /-- tau_max, ms -/
  tauMax : Nat := 400
  /-- end fraction, 0.1 % -/
  endFrac : Nat := 20
  /-- time limit, ms -/
  limitMs : Nat := 3000
  /-- attempt limit -/
  attempts : Nat := 3
  /-- attempt window, s -/
  window : Nat := 1800
  /-- lockout, s -/
  lockout : Nat := 600
deriving DecidableEq, Repr

/-- Record 0x030A: Branch joining (12). -/
structure CfgJoin where
  /-- join window, mV -/
  windowMv : Nat := 5000
  /-- join hold, sweeps -/
  hold : Nat := 10
  /-- first-branch rule: 0 mid-range, 1 fixed order -/
  fixedOrder : Bool := false
  /-- fixed order -/
  order : List Nat := []
  /-- leave current, mA -/
  leaveMa : Nat := 20000
  /-- leave wait, ms -/
  leaveMs : Nat := 5000
  /-- leave break limit, mA -/
  leaveBreakMa : Nat := 200000
  /-- auto-connect flag -/
  autoConnect : Bool := false
deriving DecidableEq, Repr

/-- Record 0x0401: Sense taps (05). -/
structure CfgTaps where
  /-- nominal tap resistance, uOhm -/
  nominal : Nat := 5000
  /-- convergence bound, uOhm -/
  bound : Nat := 100
deriving DecidableEq, Repr

/-- Record 0x0402: Tone plan (06). -/
structure CfgTone where
  /-- frequency per slot, 0.1 Hz -/
  freqs : List Nat := [5, 20, 100, 800, 4000, 10000, 25000, 60000]
  /-- requestable slots -/
  requestable : List Nat := [2, 3, 4, 5, 6, 7]
  /-- requested amplitude per slot, mA rms -/
  amps : List Nat := [0, 0, 5000, 5000, 5000, 5000, 3000, 3000]
  /-- even balancing slot -/
  balEven : Option Nat := some 2
  /-- odd balancing slot -/
  balOdd : Option Nat := some 1
  /-- temperature tone slot -/
  tempSlot : Option Nat := some 4
  /-- excitation amplitude, 10 mA peak -/
  excitation : Nat := 50
deriving DecidableEq, Repr

/-- Record 0x0403: Estimator (06). -/
structure CfgEst where
  /-- minimum units, window band -/
  minWin : Nat := 8
  /-- minimum units, low band -/
  minLow : Nat := 5
  /-- excitation ratio, dB -/
  ratioDb : Nat := 20
  /-- rest current, mA -/
  restMa : Nat := 2000
  /-- rest time, s -/
  restS : Nat := 60
deriving DecidableEq, Repr

/-- Record 0x0404: Fit (06). -/
structure CfgFit where
  /-- alpha1 lower bound, 2^-16 -/
  alphaLo : Nat := 32768
  /-- alpha1 upper bound, 2^-16 -/
  alphaHi : Nat := 65536
  /-- iteration limit -/
  iters : Nat := 50
  /-- reduced chi squared limit, 0.01 -/
  chi : Nat := 400
deriving DecidableEq, Repr

/-- Record 0x0405: Derived quantities (06). -/
structure CfgDerived where
  /-- default b, K -/
  bDefault : Nat := 4200
  /-- cross-check limit, 0.01 K -/
  crossLimit : Nat := 800
  /-- plating temperature, 0.01 degC -/
  platingTemp : Int := 1000
  /-- plating threshold, 0.1 % -/
  platingThr : Nat := 150
  /-- plating fits -/
  platingFits : Nat := 3
  /-- contact threshold, nOhm -/
  contactThr : Nat := 50000
  /-- fallback R0, nOhm; required -/
  fallbackR0 : Nat := 0
  /-- R0 age limit, s -/
  ageS : Nat := 60
deriving DecidableEq, Repr

/-- Record 0x0406: Cell ratings (07). -/
structure CfgRating where
  /-- rated capacity, mA s; required -/
  capacity : Nat := 0
  /-- reference temperature, 0.01 degC -/
  refTemp : Int := 2500
  /-- reference rate, 0.01 C -/
  refRate : Nat := 50
  /-- node supply awake, uA -/
  awakeUa : Nat := 15000
  /-- node supply asleep, uA -/
  sleepUa : Nat := 200
deriving DecidableEq, Repr

/-- Record 0x0407: OCV table (07); required. -/
structure CfgOcv where
  /-- temperatures, 0.01 degC -/
  temps : List Int := []
  /-- SoC points, SoC format -/
  socs : List Int := []
  /-- discharge voltages by temperature, uV -/
  dis : List (List Nat) := []
  /-- charge voltages by temperature, uV -/
  chg : List (List Nat) := []
  /-- hysteresis charge, 0.1 % of Q -/
  hyst : Nat := 50
deriving DecidableEq, Repr

/-- Record 0x0408: Capacity factors (07); required. -/
structure CfgCapFac where
  /-- temperatures -/
  temps : List Int := []
  /-- rates, 0.01 C -/
  rates : List Nat := []
  /-- f by temperature and rate, 0.0001 -/
  f : List (List Nat) := []
deriving DecidableEq, Repr

/-- Record 0x0409: Anchors (07). -/
structure CfgAnchor where
  /-- rest current, mA -/
  restMa : Nat := 3000
  /-- rest time, s -/
  restS : Nat := 1800
  /-- rest model uncertainty, uV -/
  restUv : Nat := 2000
  /-- V_eoc, uV -/
  vEoc : Nat := 3600000
  /-- its band, uV -/
  vEocBand : Nat := 20000
  /-- V_eod, uV -/
  vEod : Nat := 2900000
  /-- its band, uV -/
  vEodBand : Nat := 30000
  /-- taper upper, 0.001 C -/
  taperHi : Nat := 50
  /-- taper lower, 0.001 C -/
  taperLo : Nat := 5
  /-- hold time, s -/
  holdS : Nat := 600
  /-- end-of-charge anchor SoC, 0.01 % -/
  socEoc : Int := 10000
  /-- end-of-discharge anchor SoC, 0.01 % -/
  socEod : Int := 0
  /-- taper anchor uncertainty, 0.01 % -/
  sigma : Nat := 50
deriving DecidableEq, Repr

/-- Record 0x040A: Empty curve (07); required. -/
structure CfgEmpty where
  /-- temperatures -/
  temps : List Int := []
  /-- rates, 0.01 C -/
  rates : List Nat := []
  /-- V_e by temperature and rate, uV -/
  v : List (List Nat) := []
deriving DecidableEq, Repr

/-- Record 0x040B: Disagreement (07). -/
structure CfgDisagree where
  /-- margin, uV -/
  margin : Nat := 150000
  /-- SoC floor, 0.01 % -/
  floor : Nat := 200
  /-- reverse threshold, 0.01 % -/
  reverse : Nat := 500
  /-- debounce, sweeps -/
  debounce : Nat := 10
  /-- recovery fraction, 0.01 % -/
  recovery : Nat := 100
  /-- check duration, d -/
  days : Nat := 7
deriving DecidableEq, Repr

/-- Record 0x040C: Capacity learning (07); 0.01 %. -/
structure CfgCapLearn where
  /-- minimum span -/
  minSpan : Nat := 7000
  /-- maximum anchor uncertainty -/
  maxSigma : Nat := 100
  /-- count gain uncertainty -/
  gain : Nat := 25
  /-- step limit -/
  step : Nat := 100
  /-- ageing drift per day -/
  drift : Nat := 1
  /-- initial uncertainty -/
  initial : Nat := 500
  /-- fade tolerance -/
  fade : Nat := 100
deriving DecidableEq, Repr

/-- Record 0x040D: Leakage (07). -/
structure CfgLeak where
  /-- L_nom at 25 degC, uA -/
  nom : Nat := 4000
  /-- doubling interval, 0.01 K -/
  doubling : Nat := 1200
  /-- window, h -/
  hours : Nat := 24
  /-- watch threshold, uA -/
  watch : Nat := 1000
  /-- alarm threshold, uA -/
  alarm : Nat := 3000
  /-- trend threshold, uA per 7 d -/
  trend : Nat := 500
deriving DecidableEq, Repr

/-- Record 0x040E: Filter (07). -/
structure CfgFilter where
  /-- default R1, nOhm -/
  r1 : Nat := 50000
  /-- default R2, nOhm -/
  r2 : Nat := 100000
  /-- default tau1, us -/
  tau1 : Nat := 5000
  /-- default tau2, us -/
  tau2 : Nat := 30000000
  /-- parameter age limit, s -/
  ageS : Nat := 600
  /-- measurement noise, uV -/
  noise : Nat := 1000
  /-- gate, sigma -/
  gate : Nat := 5
deriving DecidableEq, Repr

/-- Record 0x040F: Cell voltage limits (08); required. -/
structure CfgCellV where
  /-- temperatures -/
  temps : List Int := []
  /-- V_min, uV -/
  vMin : List Nat := []
  /-- V_max, uV -/
  vMax : List Nat := []
  /-- SoC margin m, 0.1 sigma -/
  margin : Nat := 10
deriving DecidableEq, Repr

/-- Record 0x0410: Cell current tables (08); required; 0.01 C. -/
structure CfgCellI where
  /-- temperatures -/
  temps : List Int := []
  /-- SoC points -/
  socs : List Int := []
  /-- peak discharge -/
  peakDis : List (List Nat) := []
  /-- peak charge -/
  peakChg : List (List Nat) := []
  /-- continuous discharge -/
  contDis : List (List Nat) := []
  /-- continuous charge -/
  contChg : List (List Nat) := []
deriving DecidableEq, Repr

/-- Record 0x0411: Converter model (09); losses in 0.01 %. -/
structure CfgConvModel where
  /-- l_c1 to l_c3 -/
  c : List Nat := [600, 800, 1100]
  /-- l_s1 to l_s3 -/
  st : List Nat := [400, 500, 700]
  /-- l_bus -/
  bus : Nat := 100
  /-- eta_ac, 0.0001 -/
  eta : Nat := 9000
  /-- droop gain, 0.1 W/V -/
  droop : Nat := 200
deriving DecidableEq, Repr

/-- Record 0x0412: Balancing (09). -/
structure CfgBal where
  /-- enable -/
  enable : Bool := true
  /-- mode -/
  mode : Nat := 3
  /-- upper switch level, SoC format -/
  upper : Int := 22000
  /-- lower switch level, SoC format -/
  lower : Int := 18000
  /-- start band, SoC format -/
  start : Nat := 200
  /-- stop band, SoC format -/
  stop : Nat := 40
  /-- tau, s -/
  tau : Nat := 7200
  /-- sigma(SoC) limit, SoC format -/
  sigma : Nat := 800
  /-- draw floor, uV -/
  floorUv : Nat := 3000000
  /-- feed ceiling, uV -/
  ceilUv : Nat := 3550000
  /-- learning current, mA -/
  learnMa : Nat := 1000
  /-- solver limit, ms -/
  solveMs : Nat := 1000
deriving DecidableEq, Repr

/-- Record 0x0501: Radio channels (03); required. -/
structure CfgRadio where
  /-- UWB channel per radio channel -/
  chan : List Nat := []
  /-- preamble code index per radio channel -/
  code : List Nat := []
  /-- transmit level, 0.5 dB below maximum -/
  level : List Nat := []
deriving DecidableEq, Repr

/-- Record 0x0503: Relaying (03). -/
structure CfgRelay where
  /-- enable flag -/
  enable : Bool := true
  /-- reserved relay slot pairs per channel -/
  pairs : Nat := 2
deriving DecidableEq, Repr

/-- Record 0x0505: Link thresholds (03). -/
structure CfgLink where
  /-- alarm energy detection threshold, dB -/
  energyDb : Nat := 8
  /-- relay threshold, 0.0001 -/
  relayLoss : Nat := 500
deriving DecidableEq, Repr

/-- Record 0x0506: Admission contention (03). -/
structure CfgContend where
  /-- contention ratio r -/
  ratio : Nat := 8
  /-- retry ceiling -/
  ceiling : Nat := 16
  /-- listening pause, s -/
  pause : Nat := 60
deriving DecidableEq, Repr

/-- Record 0x0508: Replacement (04). -/
structure CfgRepl where
  /-- enable flag -/
  enable : Bool := true
  /-- derating fraction, 0.01 -/
  fraction : Nat := 80
deriving DecidableEq, Repr

/-- Record 0x0601: Channel map (10). -/
structure CfgChanMap where
  /-- sensor of a cell channel, key 16 x node + channel; absent floor(j / 2) -/
  sensor : List (Nat × Nat) := []
  /-- per local input: 0 unused, 1 PT1000, 2 NTC -/
  localType : List Nat := []
  /-- per local input: B value, K -/
  localB : List Nat := []
  /-- per local input: wiring twin -/
  localTwin : List Nat := []
deriving DecidableEq, Repr

/-- Record 0x0602: Evaluation (10). -/
structure CfgEval where
  /-- band, 0.01 K -/
  band : Nat := 1000
  /-- fast-rise rate, 0.001 K/s -/
  fast : Nat := 100
  /-- rise limit, 0.001 K/s -/
  rise : Nat := 200
  /-- rise persistence -/
  persist : Nat := 3
  /-- stale limit, s -/
  staleS : Nat := 3
deriving DecidableEq, Repr

/-- Record 0x0605: Valve drives (10). -/
structure CfgValves where
  /-- per valve; absent: disabled -/
  list : List CfgValve := []
deriving DecidableEq, Repr

/-- Record 0x0606: Coolant loops (10). -/
structure CfgLoops where
  /-- loop per branch; absent 0 -/
  branchLoop : List Nat := []
  /-- per loop; absent: the defaults -/
  list : List CfgLoop := []
  /-- cooling-loss factor, 0.0001 -/
  factor : Nat := 5000
deriving DecidableEq, Repr

/-- Record 0x0701: Comparators (11); required. -/
structure CfgComp where
  /-- positive level per branch, mA -/
  pos : List Nat := []
  /-- negative level per branch, mA -/
  neg : List Nat := []
  /-- IS positive level, mA -/
  isPos : Nat := 0
  /-- IS negative level, mA -/
  isNeg : Nat := 0
deriving DecidableEq, Repr

/-- Record 0x0702: Cell voltage (11). -/
structure CfgCellProt where
  /-- V_ov, uV; required -/
  vOv : Nat := 0
  /-- V_uv, uV; required -/
  vUv : Nat := 0
  /-- balancing margin M, uV -/
  m : Nat := 60000
  /-- voltage hysteresis, uV -/
  hyst : Nat := 20000
  /-- debounce, sweeps -/
  debounce : Nat := 1
deriving DecidableEq, Repr

/-- Record 0x0703: Cell temperature (11). -/
structure CfgCellTemp where
  /-- over-temperature, 0.01 degC -/
  high : Int := 6000
  /-- under-temperature, 0.01 degC -/
  low : Int := (-2500)
  /-- hysteresis, 0.01 K -/
  hyst : Nat := 300
deriving DecidableEq, Repr

/-- Record 0x0704: Timed functions (11). -/
structure CfgTimed where
  /-- delay by function code, ms; absent as R292 -/
  delay : List (Nat × Nat) := []
  /-- clear time by function code, ms; absent as R292 -/
  clear : List (Nat × Nat) := []
  /-- overcurrent factor, 0.01 -/
  ocFactor : Nat := 110
  /-- mismatch trip factor, 0.1 -/
  mismatch : Nat := 40
  /-- break current, mA -/
  breakMa : Nat := 50000
  /-- break wait, ms -/
  breakMs : Nat := 200
  /-- precursor action: 0 BD, 1 H -/
  precursorHold : Bool := false
deriving DecidableEq, Repr

/-- Record 0x0705: Insulation (11). -/
structure CfgIns where
  /-- mode -/
  mode : Nat := 0
  /-- coupling list -/
  list : List Nat := []
  /-- warning, kOhm -/
  warn : Nat := 300
  /-- trip, kOhm -/
  trip : Nat := 100
  /-- period, ms -/
  period : Nat := 6000
  /-- maximum system capacitance, nF -/
  cap : Nat := 5000
  /-- action: 0 SD, 1 publish only -/
  publishOnly : Bool := false
  /-- pole-shift share, % -/
  poleShare : Nat := 20
deriving DecidableEq, Repr

/-- Record 0x0706: Safety inputs (13). -/
structure CfgSafeIn where
  /-- function per input; absent unused (0) -/
  fn : List Nat := []
  /-- pair channel per input -/
  pair : List Bool := []
  /-- 0 static, 1 T1, 2 T2 -/
  source : List Nat := []
  /-- filter time, us; absent 1000 -/
  filterUs : List Nat := []
  /-- discrepancy time per pair, ms; absent 100 -/
  discMs : List Nat := []
deriving DecidableEq, Repr

/-- Record 0x0707: Test pulses (13). -/
structure CfgTest where
  /-- period, us -/
  periodUs : Nat := 20000
  /-- width, us -/
  widthUs : Nat := 400
deriving DecidableEq, Repr

/-- Record 0x0708: Safe outputs (13). -/
structure CfgSafeOut where
  /-- function per output; absent unused (0) -/
  fn : List Nat := []
  /-- dark test interval, s; absent 60 -/
  darkS : List Nat := []
  /-- bright test enable; absent enabled -/
  brightOn : List Bool := []
  /-- bright test interval, s; absent 60 -/
  brightS : List Nat := []
deriving DecidableEq, Repr

/-- Record 0x0802: Time sources (02). -/
structure CfgSources where
  /-- sources in priority order, codes of R49 -/
  order : List Nat := [1, 2, 4]
deriving DecidableEq, Repr

/-- Record 0x0803: PTP (02). -/
structure CfgPtp where
  /-- mode: 0 ordinary slave-only, 1 boundary -/
  boundary : Bool := false
  /-- domain -/
  domain : Nat := 0
  /-- enabled ports -/
  ports : List Nat := [1, 2]
deriving DecidableEq, Repr

/-- Record 0x0804: Steering (02). -/
structure CfgSteer where
  /-- lock threshold, ns -/
  lockNs : Nat := 100
  /-- slew limit, ppm -/
  slewPpm : Nat := 20
  /-- step threshold, us -/
  stepUs : Nat := 1000
  /-- holdover window, s -/
  holdS : Nat := 600
deriving DecidableEq, Repr

/-- Record 0x0806: PPS out (02). -/
structure CfgPps where
  /-- width, ms -/
  widthMs : Nat := 100
  /-- squelch state (R64), coded as R49: 3 holdover -/
  squelch : Nat := 3
deriving DecidableEq, Repr

/-- Record 0x0807: TP1 (02). -/
structure CfgTp where
  /-- 0 off, 1 once, 2 periodic -/
  mode : Nat := 0
  /-- start, plant time -/
  start : PTime := {}
  /-- sub-nanosecond part, 2^-16 ns (R9) -/
  sub : Nat := 0
  /-- period, ns -/
  period : Nat := 0
  /-- width, ns -/
  width : Nat := 0
  /-- polarity: 0 high-active -/
  low : Bool := false
  /-- count -/
  count : Nat := 0
deriving DecidableEq, Repr

/-- Record 0x0901: Plant ports (17); per twin position. -/
structure CfgPlant where
  /-- IPv6 address per twin position; required -/
  addr : List Nat := []
  /-- IPv6 length of its network part per twin position; absent 64 -/
  pfx : List Nat := []
  /-- IPv4 address per twin position; absent or 0 none -/
  addr4 : List Nat := []
  /-- IPv4 length of its network part per twin position; 0 for none -/
  pfx4 : List Nat := []
  /-- VLAN identifier -/
  vlan : Nat := 0
  /-- PRP supervision interval, ms -/
  prpMs : Nat := 2000
deriving DecidableEq, Repr

/-- Record 0x0903: Maintenance port (17). -/
structure CfgMaint where
  /-- IPv4 address 192.168.250.10 -/
  addr : Nat := 3232299530
  /-- its length of its network part -/
  pfx : Nat := 24
  /-- rate, octets/s -/
  rate : Nat := 50000000
  /-- depth, octets -/
  depth : Nat := 1048576
deriving DecidableEq, Repr

/-- Record 0x0A01: Twin pair (14). -/
structure CfgTwin where
  /-- 0 single, 1 twin -/
  mode : Nat := 0
  /-- twin position -/
  position : Nat := 0
  /-- pairing wait, s -/
  waitS : Nat := 10
  /-- handover lead, us -/
  leadUs : Nat := 200
  /-- sync hold, s -/
  holdS : Nat := 1
deriving DecidableEq, Repr

/-- Record 0x0B04: Allocation (15). -/
structure CfgAlloc where
  /-- default horizon -/
  horizon : Nat := 1
  /-- master-loss hold, ms -/
  holdMs : Nat := 200
  /-- fallback ramp, W/s -/
  fallback : Nat := 500000
  /-- lifetime-expiry ramp, W/s -/
  expiry : Nat := 5000000
deriving DecidableEq, Repr

/-- Record 0x0B05: Interleaving (15). -/
structure CfgInter where
  /-- enable -/
  enable : Bool := true
  /-- interleave interval, s -/
  interval : Nat := 10
deriving DecidableEq, Repr

/-- Record 0x0B07: Localisation (15). -/
structure CfgLocal where
  /-- threshold, uV -/
  threshold : Nat := 20000
  /-- look-back, s -/
  lookback : Nat := 10
  /-- cells per record -/
  cells : Nat := 16
deriving DecidableEq, Repr

/-- Record 0x0B08: Election (15). -/
structure CfgElect where
  /-- master timeout, ms -/
  timeout : Nat := 20
  /-- stagger, ms -/
  stagger : Nat := 10
  /-- claim window, ms -/
  claim : Nat := 10
deriving DecidableEq, Repr

/-- Record 0x0E02: Update behaviour (21). -/
structure CfgUpBeh where
  /-- follow delay, s -/
  followS : Nat := 60
deriving DecidableEq, Repr

/-- Record 0x0D01: Event limits (22). -/
structure CfgEvents where
  /-- default rate per 10 s -/
  rate : Nat := 10
  /-- default depth -/
  depth : Nat := 16
  /-- event code, rate per 10 s, depth -/
  list : List (Nat × Nat × Nat) := []
deriving DecidableEq, Repr

/-- The default entries of record 0x0604 (10): BP1 and BP2 at 110, 118, 125 degC; the four dies at 130, 140, 150 degC. -/
def defaultPriv : List CfgPriv :=
  [1040, 1041].map (fun c => { chan := c, w := 11000, th := 11800, shut := 12500 })
    ++ [1042, 1043, 1044, 1045].map (fun c => { chan := c, w := 13000, th := 14000, shut := 15000 })

/-- The default entries of record 0x0F02: the message table of chapter 18 (18 R448, R460). -/
def defaultMsgs : List CfgMsg :=
  [{ fn := 1, ident := 0x180, period := 100 }, { fn := 2, loop := 0, ident := 0x200 }, { fn := 2, loop := 1, ident := 0x201 },
    { fn := 3, loop := 0, ident := 0x280 }, { fn := 3, loop := 1, ident := 0x281 }, { fn := 4, ident := 0x300 }]

/-- The records of a configuration image (20 R495 to R498); an absent record takes the defaults of its table (R497). -/
structure Cfg where
  /-- record 0x0101: Power states (19 R485 table) -/
  power : CfgPower := {}
  /-- record 0x0201: String (20 R498); the defaults are "none; required" -/
  string : CfgString := {}
  /-- record 0x0202: Branches (20 R498); required -/
  branches : CfgBranches := {}
  /-- record 0x0210: Converter link (16) -/
  conv : CfgConverter := {}
  /-- record 0x0301: Shunts (05); required per branch -/
  shunts : CfgShunts := {}
  /-- record 0x0302: Hall sensor (05); required -/
  hall : CfgHall := {}
  /-- record 0x0304: Cross-checks (05); shares in 0.01 % -/
  cross : CfgCross := {}
  /-- record 0x0306: Limit behaviour (08) -/
  limBeh : CfgLimBeh := {}
  /-- record 0x0307: Coil drive (12) -/
  coil : CfgCoil := {}
  /-- record 0x0308: Contactor supervision (12) -/
  contSup : CfgContSup := {}
  /-- record 0x0309: Pre-charge (12) -/
  pre : CfgPre := {}
  /-- record 0x030A: Branch joining (12) -/
  join : CfgJoin := {}
  /-- record 0x0401: Sense taps (05) -/
  taps : CfgTaps := {}
  /-- record 0x0402: Tone plan (06) -/
  tone : CfgTone := {}
  /-- record 0x0403: Estimator (06) -/
  est : CfgEst := {}
  /-- record 0x0404: Fit (06) -/
  fit : CfgFit := {}
  /-- record 0x0405: Derived quantities (06) -/
  derived : CfgDerived := {}
  /-- record 0x0406: Cell ratings (07) -/
  rating : CfgRating := {}
  /-- record 0x0407: OCV table (07); required -/
  ocv : CfgOcv := {}
  /-- record 0x0408: Capacity factors (07); required -/
  capFac : CfgCapFac := {}
  /-- record 0x0409: Anchors (07) -/
  anchor : CfgAnchor := {}
  /-- record 0x040A: Empty curve (07); required -/
  empty : CfgEmpty := {}
  /-- record 0x040B: Disagreement (07) -/
  dis : CfgDisagree := {}
  /-- record 0x040C: Capacity learning (07); 0.01 % -/
  capLearn : CfgCapLearn := {}
  /-- record 0x040D: Leakage (07) -/
  leak : CfgLeak := {}
  /-- record 0x040E: Filter (07) -/
  filter : CfgFilter := {}
  /-- record 0x040F: Cell voltage limits (08); required -/
  cellV : CfgCellV := {}
  /-- record 0x0410: Cell current tables (08); required; 0.01 C -/
  cellI : CfgCellI := {}
  /-- record 0x0411: Converter model (09); losses in 0.01 % -/
  convModel : CfgConvModel := {}
  /-- record 0x0412: Balancing (09) -/
  bal : CfgBal := {}
  /-- record 0x0501: Radio channels (03); required -/
  radio : CfgRadio := {}
  /-- record 0x0503: Relaying (03) -/
  relay : CfgRelay := {}
  /-- record 0x0505: Link thresholds (03) -/
  link : CfgLink := {}
  /-- record 0x0506: Admission contention (03) -/
  contend : CfgContend := {}
  /-- record 0x0508: Replacement (04) -/
  repl : CfgRepl := {}
  /-- record 0x0601: Channel map (10) -/
  chanMap : CfgChanMap := {}
  /-- record 0x0602: Evaluation (10) -/
  eval : CfgEval := {}
  /-- record 0x0605: Valve drives (10) -/
  valves : CfgValves := {}
  /-- record 0x0606: Coolant loops (10) -/
  loops : CfgLoops := {}
  /-- record 0x0701: Comparators (11); required -/
  comp : CfgComp := {}
  /-- record 0x0702: Cell voltage (11) -/
  cellProt : CfgCellProt := {}
  /-- record 0x0703: Cell temperature (11) -/
  cellTemp : CfgCellTemp := {}
  /-- record 0x0704: Timed functions (11) -/
  timed : CfgTimed := {}
  /-- record 0x0705: Insulation (11) -/
  ins : CfgIns := {}
  /-- record 0x0706: Safety inputs (13) -/
  safeIn : CfgSafeIn := {}
  /-- record 0x0707: Test pulses (13) -/
  test : CfgTest := {}
  /-- record 0x0708: Safe outputs (13) -/
  safeOut : CfgSafeOut := {}
  /-- record 0x0802: Time sources (02) -/
  sources : CfgSources := {}
  /-- record 0x0803: PTP (02) -/
  ptp : CfgPtp := {}
  /-- record 0x0804: Steering (02) -/
  steer : CfgSteer := {}
  /-- record 0x0806: PPS out (02) -/
  pps : CfgPps := {}
  /-- record 0x0807: TP1 (02) -/
  tp1 : CfgTp := {}
  /-- record 0x0901: Plant ports (17); per twin position -/
  plant : CfgPlant := {}
  /-- record 0x0903: Maintenance port (17) -/
  maint : CfgMaint := {}
  /-- record 0x0A01: Twin pair (14) -/
  twin : CfgTwin := {}
  /-- record 0x0B04: Allocation (15) -/
  alloc : CfgAlloc := {}
  /-- record 0x0B05: Interleaving (15) -/
  inter : CfgInter := {}
  /-- record 0x0B07: Localisation (15) -/
  local_ : CfgLocal := {}
  /-- record 0x0B08: Election (15) -/
  elect : CfgElect := {}
  /-- record 0x0E02: Update behaviour (21) -/
  upBeh : CfgUpBeh := {}
  /-- record 0x0D01: Event limits (22) -/
  events : CfgEvents := {}
  /-- record 0x0801: plant epoch, TAI seconds; required -/
  epoch : Nat := 0
  /-- record 0x0805: channel lock flag -/
  locked : Bool := true
  /-- record 0x0808: TP2 -/
  tp2 : CfgTp := {}
  /-- record 0x0809: start wait, s -/
  startWait : Nat := 30
  /-- record 0x0502: radio neighbours -/
  neighbours : List Nat := []
  /-- record 0x0504: active superframe ratio, 1 in 25 -/
  watchRatio : Nat := 25
  /-- record 0x0507: node table; required -/
  nodes : List CfgNode := []
  /-- record 0x0303: connection resistance per branch, uOhm; absent 0 -/
  rconn : List Nat := []
  /-- record 0x0305: discharge rating per branch, mA; required -/
  ratingDis : List Nat := []
  /-- record 0x0305: charge rating per branch, mA; required -/
  ratingChg : List Nat := []
  /-- record 0x0413: balance buses; required -/
  buses : List CfgBus := []
  /-- record 0x0603: neighbour limit, 0.01 K -/
  neighbourLimit : Nat := 800
  /-- record 0x0604: privileged channels -/
  priv : List CfgPriv := defaultPriv
  /-- record 0x0709: plant salt; required -/
  salt : Nat := 0
  /-- record 0x0B01: master-capable strings in priority order -/
  masters : List Nat := []
  /-- record 0x0B02: control, request and stream groups; required -/
  groups : List Nat := []
  /-- record 0x0B03: dispatch clients -/
  clients : List CfgClient := []
  /-- record 0x0B06: streaming enable -/
  streaming : Bool := false
  /-- record 0x0902: telemetry clients -/
  teleClients : List CfgTele := []
  /-- record 0x0904: GOOSE datasets; absent: the defaults -/
  goosePubs : List CfgGoosePub := []
  /-- record 0x0905: GOOSE subscriptions -/
  gooseSubs : List CfgGooseSub := []
  /-- record 0x0F01: CAN channels; absent: the defaults -/
  can : List CfgCan := []
  /-- record 0x0F02: CAN messages; absent: the message table of chapter 18 -/
  msgs : List CfgMsg := defaultMsgs
  /-- record 0x0C01: monitors -/
  monitors : List CfgMon := []
  /-- record 0x0E01: update servers -/
  servers : List CfgServer := []
  /-- keys section: plant root key, 32 octets (20 R494; 04 R100) -/
  rootKey : List Nat := []
  /-- keys section: safety key, 32 octets (20 R494; 13 R351) -/
  safetyKey : List Nat := []
deriving DecidableEq, Repr

/-- An image header (20 R491), with the outcome of each check that needs a key or a digest (the model takes those
outcomes with the image). -/
structure ImgHeader where
  /-- magic 0x414B5049 and header version 1 correct (20 R491) -/
  magicOk : Bool := true
  /-- image type: 1 firmware, 2 configuration -/
  kind : Nat := 1
  /-- product code, 0x2048 for this module -/
  product : Nat := 8264
  /-- hardware-compatibility mask -/
  hwMask : Nat := 1
  /-- version; the configuration epoch of a configuration image -/
  version : Nat := 0
  /-- anti-rollback counter -/
  antiRollback : Nat := 0
  /-- payload length, octets -/
  length : Nat := 0
  /-- minimum firmware version (configuration only) -/
  minFirmware : Nat := 0
  /-- plug identifier (configuration only) -/
  plug : Nat := 0
  /-- string index; 0xFF in firmware images -/
  string : Nat := 255
  /-- plant identifier -/
  plant : Nat := 0
  /-- safety hash (13 R350) -/
  safetyHash : Nat := 0
  /-- build time -/
  built : PTime := {}
  /-- digest of the header, 128 bits (21 R513) -/
  digest : Nat := 0
  /-- key usage: bit 0 configuration, bit 1 firmware -/
  usage : Nat := 3
  /-- the endorsement verifies (20 R492, 21 R511) -/
  endorseOk : Bool := true
  /-- the signature verifies (20 R492, 21 R511) -/
  sigOk : Bool := true
  /-- the payload hash is correct (20 R499 stage 10) -/
  hashOk : Bool := true
  /-- section order, lengths, padding and CRC-32 values are correct (20 R493, R499 stage 11) -/
  sectionsOk : Bool := true
  /-- the key unwrap passes (20 R494, R499 stage 12) -/
  unwrapOk : Bool := true
  /-- the rules hold that the model cannot check on the records (20 R499 stage 14): a contactor's drop-out time against the drop-out limit,
  the share of a CAN channel's bit time, the counts of 06 R161; the others the model checks itself (Machine/Check.lean) -/
  rulesOk : Bool := true
deriving DecidableEq, Repr

/-- A configuration image: its header and its records (20 R491 to R498). -/
structure Image where
  /-- header -/
  header : ImgHeader := {}
  /-- records section: tag and body of each record, in its order (20 R495) -/
  records : List (Nat × List Nat) := []
  /-- the configuration its fields spell (20 R496) -/
  cfg : Cfg := {}
deriving DecidableEq, Repr

/-- The session context of a maintenance command frame (17 R435): which client sent it, its session and sequence. -/
structure Maint where
  /-- client: 0 to 7 the entries of record 0x0902, 8 X13 -/
  key : Nat := 0
  /-- session number of the frame -/
  session : Nat := 0
  /-- sequence of the frame -/
  seq : Nat := 1
  /-- port it came in by: 1 P1, 2 P2, 3 X13 -/
  port : Nat := 1
deriving DecidableEq, Repr

/-- A PTP message as received, with what the protocol engine drew from it (02 R52, R53). -/
structure PtpMsg where
  /-- message type -/
  kind : PtpKind := .announce
  /-- domain number -/
  domain : Nat := 0
  /-- sequenceId -/
  seq : Nat := 0
  /-- the best master clock algorithm selects a foreign master on this port -/
  selected : Bool := false
  /-- the LAN of this port offers a better clock than the module's own (boundary mode) -/
  better : Bool := false
  /-- the timestamp the message carries, correction added, ns -/
  carried : Int := 0
  /-- receive timestamp of the message, ns (02 R68) -/
  rx : Int := 0
deriving DecidableEq, Repr

/-- A node's response as received (04 R107), with the outcome of its checks. -/
structure Resp where
  /-- node index -/
  node : Nat := 0
  /-- command echo -/
  code : Nat := 0
  /-- status -/
  status : Nat := 0
  /-- counter echo -/
  counter : Nat := 0
  /-- payload, 12 octets -/
  payload : List Nat := []
  /-- check value correct -/
  fcsOk : Bool := true
  /-- frame type supported (04 R99) -/
  typeOk : Bool := true
  /-- string index of the frame -/
  string : Nat := 0
  /-- CMAC verifies under the node's K_link -/
  linkOk : Bool := true
  /-- CMAC verifies under the zero key -/
  zeroOk : Bool := false
deriving DecidableEq, Repr

/-- An admission request as received (04 R109 code 0x01). -/
structure AdmReq where
  /-- node identifier -/
  ident : Nat := 0
  /-- class -/
  cls : Nat := 16
  /-- harness code -/
  harness : Nat := 0
  /-- firmware version -/
  fw : Nat := 0
  /-- check value correct -/
  fcsOk : Bool := true
  /-- frame type supported (04 R99) -/
  typeOk : Bool := true
  /-- string index of the frame -/
  string : Nat := 0
  /-- CMAC verifies under the zero key -/
  cmacOk : Bool := true
deriving DecidableEq, Repr

/-- A management frame as nodes receive it (04 R106). -/
structure Mgmt where
  /-- node index, 255 for none or contention -/
  target : Nat := 255
  /-- command counter -/
  counter : Nat := 0
  /-- acknowledgement bitmap -/
  ack : Nat := 0
  /-- poll bitmap -/
  poll : Nat := 0
  /-- the nodes that received it and whose checks it passed -/
  heard : List Nat := []
deriving DecidableEq, Repr

/-- A beacon as a node receives it, past its checks (04 R102, 02 R61). -/
structure BeaconRx where
  /-- superframe number -/
  superframe : Nat := 0
  /-- mode bit -/
  watch : Bool := false
  /-- retry ceiling carried -/
  ceiling : Nat := 16
  /-- listening pause carried -/
  pause : Nat := 60
  /-- transfer-quality figure after it, ns -/
  quality : Nat := 0
  /-- acknowledgement bitmap repeated -/
  ack : Nat := 0
  /-- T_tx of the time block, 2^-16 ns -/
  tx : Nat := 0
  /-- the free-running count of the node's clock at the STS, 2^-16 ns -/
  rx : Int := 0
  /-- the beacon passes under the new beacon key the node holds -/
  keyOk : Bool := true
deriving DecidableEq, Repr

/-- What a node measured in one sweep (04 R104, R122). -/
structure NodeIn where
  /-- the free-running count of the node's clock at the decision, 2^-16 ns -/
  clock : Int := 0
  /-- the 64 grid samples of the sweep by cell channel, uV; none without a conversion -/
  samples : List (List (Option Int)) := []
  /-- temperatures, 0.01 degC -/
  temps : List Int := []
  /-- mask of taps 0 to 16 whose sense wire is open -/
  openTaps : Nat := 0
  /-- mask of cell channels with a balancing converter fault -/
  convFault : Nat := 0
  /-- node supply fault -/
  supplyFault : Bool := false
  /-- balance bus voltage at the node, mV -/
  busMv : Int := 48000
deriving DecidableEq, Repr

/-- What the module's converters deliver in one sweep (05 R130, 25 R576, 12 R317). -/
structure SweepIn where
  /-- 64 input samples of each converter path: IB0 to IB3 (nV), IS (µV), HV0 to HV5 (mV), and the spares IBX (nV) and HVX (mV) -/
  samples : List (List Int) := []
  /-- coil supply, mV -/
  supply : Int := 0
  /-- both Hall sensor rails at 13.5 V or more in magnitude -/
  hallOk : Bool := true
  /-- mirror contacts of K1 to K12 as sampled: closed; one not given reads as before -/
  mirrors : List Bool := []
deriving DecidableEq, Repr

/-- A safety-change authorisation as offered (13 R351). -/
structure AuthIn where
  /-- the 16 octets equal the HMAC over the descriptor with `counter` -/
  ok : Bool := false
  /-- safety counter of the descriptor -/
  counter : Nat := 0
  /-- port: 1 P1, 2 P2, 3 X13 -/
  port : Nat := 3
deriving DecidableEq, Repr

/-- What the insulation monitor measured in one half-period (11 R307, R308). -/
structure InsIn where
  /-- mean of HV5 over the last quarter, mV; none where HV5 was not valid -/
  hv5 : Option Int := none
  /-- mean of HV4 over the last quarter, mV -/
  hv4 : Int := 0
  /-- change of HV4 within the half-period, mV, in magnitude -/
  change : Int := 0
  /-- mean of HV5 over the whole half-period, mV -/
  full5 : Int := 0
  /-- mean of HV4 over the whole half-period, mV -/
  full4 : Int := 0
deriving DecidableEq, Repr

/-- A directory entry of the Bay plug (20 R489). -/
structure DirEntry where
  /-- sequence, 32 bits -/
  seq : Nat := 0
  /-- active area, 1 bit -/
  active : Option Nat := none
  /-- state trial, 1 bit -/
  trial : Bool := false
  /-- state empty, 1 bit -/
  empty : Bool := true
  /-- staged area, 1 bit -/
  staged : Option Nat := none
  /-- active configuration epoch, 32 bits -/
  epoch : Nat := 0
  /-- highest anti-rollback counter, 32 bits -/
  antiRollback : Nat := 0
  /-- write time, plant time -/
  time : Nat := 0
  /-- plug identifier, 64 bits -/
  plug : Nat := 0
deriving DecidableEq, Repr

/-- The contents of a Bay plug (20 R487, R488). -/
structure PlugStore where
  /-- unique identifier -/
  ident : Nat := 0
  /-- directory copy A -/
  dirA : Option DirEntry := none
  /-- directory copy B -/
  dirB : Option DirEntry := none
  /-- image area 0 -/
  area0 : Option Image := none
  /-- image area 1 -/
  area1 : Option Image := none
deriving DecidableEq, Repr

/-- What a start or reset finds (21 R516, 19 R477, 05 R147, 20 R499): the outcomes of its checks, and the plug as fitted. -/
structure StartIn where
  /-- firmware slot A verifies as it is loaded -/
  okA : Bool := true
  /-- firmware slot B verifies as it is loaded -/
  okB : Bool := true
  /-- the check values of the copies in working memory are correct -/
  copyOk : Bool := true
  /-- the calibration block's magic, version and CRC-32 are correct -/
  calOk : Bool := true
  /-- the presence contact of X14 is closed -/
  present : Bool := true
  /-- SFDP table, vendor table and identifier can be read within 3 attempts -/
  readable : Bool := true
  /-- the plug fitted since the last read, if another one or one put back -/
  fitted : Option PlugStore := none
deriving DecidableEq, Repr

/-- The header of a twin-link frame as received (14 R374). -/
structure TwHdr where
  /-- CRC-32 correct -/
  crcOk : Bool := true
  /-- string index -/
  string : Nat := 0
  /-- sender's twin position -/
  position : Nat := 0
  /-- sender's role: 0 starting or syncing, 1 follower, 2 leader, 3 withdrawn -/
  role : Nat := 0
  /-- sender's ready bit -/
  ready : Bool := false
  /-- protocol version -/
  version : Nat := 1
  /-- leadership epoch -/
  epoch : Nat := 0
  /-- sequence of its frame type -/
  seq : Nat := 0
deriving DecidableEq, Repr

/-- A heartbeat frame as received (14 R375). -/
structure HbIn where
  /-- header -/
  hdr : TwHdr := {}
  /-- heartbeat number -/
  number : Nat := 0
  /-- coils commanded on -/
  coils : Nat := 0
  /-- coils in pull-in -/
  pull : Nat := 0
  /-- cross-hold closed -/
  xh : Nat := 0
  /-- health octet -/
  health : Nat := 0
  /-- last cause -/
  cause : Nat := 0
  /-- sweep number -/
  sweep : Nat := 0
deriving DecidableEq, Repr

/-- An island frame as received (14 R375, 11 R312). -/
structure IslandIn where
  /-- header -/
  hdr : TwHdr := {}
  /-- nodes whose reports the partner accepted -/
  heard : List Nat := []
  /-- alarm slots with energy, key 4 x channel + slot -/
  energy : List Nat := []
  /-- safety inputs in demand or fault at the partner -/
  demand : List Nat := []
  /-- protection decisions: function, group, subject, value -/
  decisions : List (Nat × Nat × Nat × Int) := []
deriving DecidableEq, Repr

/-- A CAN frame as received (18 R444, R450). -/
structure CanRx where
  /-- identifier -/
  ident : Nat := 0
  /-- extended format -/
  ext : Bool := false
  /-- remote frame -/
  remote : Bool := false
  /-- protocol exception: recessive reserved bit after FDF -/
  exception_ : Bool := false
  /-- data length code -/
  dlc : Nat := 8
  /-- data octets -/
  data : List Nat := []
deriving DecidableEq, Repr

/-- The header of a dispatch frame as received (15 R380). -/
structure DHdr where
  /-- CRC-32, protocol identifier, version and length correct -/
  ok : Bool := true
  /-- sender string -/
  sender : Nat := 0
  /-- time state byte of the sender -/
  timeState : Nat := 0
  /-- master epoch -/
  epoch : Nat := 0
  /-- sequence -/
  seq : Nat := 0
  /-- send time -/
  sent : PTime := {}
  /-- port it came in by -/
  port : Nat := 1
deriving DecidableEq, Repr

/-- An operation frame at the string leader (15 R395). -/
structure OpFrame where
  /-- header of the frame -/
  hdr : DHdr := {}
  /-- operation identifier -/
  ident : Nat := 0
  /-- start deadline, sweep number -/
  deadline : Nat := 0
  /-- branch of the request body -/
  branch : Nat := 0
  /-- the request body names a branch -/
  hasBranch : Bool := false
deriving DecidableEq, Repr

/-- An entry of a set-point multicast (15 R382). -/
structure McEntry where
  /-- set-point valid -/
  valid : Bool := false
  /-- carrier phase valid -/
  phaseValid : Bool := false
  /-- power set-point, W -/
  setpoint : Int := 0
  /-- carrier phase -/
  phase : Nat := 0
  /-- stream decimation, log2 D; 0xFF stream off -/
  decim : Nat := 255
deriving DecidableEq, Repr

/-- A set-point multicast as received (15 R382), with the entry of the receiving string. -/
structure McIn where
  /-- cycle sweep -/
  cycle : Nat := 0
  /-- entry of this string -/
  entry : Option McEntry := none
deriving DecidableEq, Repr

/-- A request frame as received (15 R380, R392). -/
structure ReqIn where
  /-- header checks passed -/
  ok : Bool := true
  /-- entry of record 0x0B03 of the source address -/
  client : Option Nat := none
  /-- session -/
  session : Nat := 0
  /-- sequence -/
  seq : Nat := 1
  /-- string index -/
  string : Nat := 255
  /-- branch -/
  branch : Nat := 255
  /-- horizon -/
  horizon : Nat := 0
  /-- target, W -/
  target : Int := 0
  /-- ramp rate, W/s -/
  ramp : Nat := 0
  /-- lifetime, ms -/
  life : Nat := 0
  /-- a reserved field is not zero; ignored (00 R4) -/
  reserved : Bool := false
  /-- port it came in by -/
  port : Nat := 1
deriving DecidableEq, Repr

/-- A stream frame as received (15 R398). -/
structure StreamIn where
  /-- first sweep -/
  sweep : Nat := 0
  /-- bit 7 of the decimation octet -/
  decimated : Bool := false
  /-- payload octets -/
  octets : Nat := 0
  /-- values present: sweep, cell, uV -/
  cells : List (Nat × Nat × Int) := []
deriving DecidableEq, Repr

/-- A GOOSE frame as received (17 R441). -/
structure GooseIn where
  /-- APPID -/
  appid : Nat := 0
  /-- gocbRef text -/
  cbRef : List Nat := []
  /-- datSet text -/
  datSet : List Nat := []
  /-- confRev -/
  confRev : Nat := 0
  /-- stNum -/
  stNum : Nat := 0
  /-- timeAllowedToLive, ms -/
  ttl : Nat := 0
  /-- test, simulation or ndsCom is TRUE -/
  flags : Bool := false
  /-- members; none for one that is not BOOLEAN -/
  members : List (Option Bool) := []
  /-- member count the dataset has -/
  count : Nat := 0
  /-- port it came in by -/
  port : Nat := 1
deriving DecidableEq, Repr

/-- A report as received in a slot (04 R103, R114), with the outcomes of its checks. -/
structure ReportRx where
  /-- check value correct -/
  fcsOk : Bool := true
  /-- frame type supported (04 R99) -/
  typeOk : Bool := true
  /-- string index -/
  string : Nat := 0
  /-- node index -/
  node : Nat := 0
  /-- CMAC verifies under the node's K_link -/
  macOk : Bool := true
  /-- begin of its SHR after the beacon start of its superframe, ns -/
  at_ : Nat := 0
  /-- first sweep -/
  first : Nat := 0
  /-- four sweep status octets -/
  status : List Nat := []
  /-- 64 voltages, uV, sweep by sweep; -8388608 without a conversion -/
  volts : List Int := []
  /-- temperature bank -/
  bank : Bool := false
  /-- four temperatures, 0.01 degC -/
  temps : List Int := []
  /-- transfer quality, ns -/
  tq : Nat := 0
  /-- node status octet -/
  nodeStatus : Nat := 0
  /-- tone plan identifier, fragment number, 32 octets -/
  tone : Option (Nat × Nat × List Nat) := none
  /-- alarm record: code, cell mask, first sweep of detection, sequence number -/
  alarm : Option (Nat × Nat × Nat × Nat) := none
  /-- first-path power, 0.25 dB -/
  power : Int := 0
deriving DecidableEq, Repr

/-- An alarm frame as received in an alarm slot (04 R108), with the outcomes of its checks. -/
structure AlarmRx where
  /-- check value correct -/
  fcsOk : Bool := true
  /-- frame type supported (04 R99) -/
  typeOk : Bool := true
  /-- string index -/
  string : Nat := 0
  /-- node index -/
  node : Nat := 0
  /-- alarm code -/
  code : Nat := 0
  /-- alarm sequence number modulo 16 -/
  seq : Nat := 0
  /-- CMAC verifies under the node's K_link -/
  macOk : Bool := true
deriving DecidableEq, Repr

/-- What a valve drive estimated of its motor last (10 R279, R280). -/
structure MotorIn where
  /-- load angle, 0.1 deg -/
  angle : Nat := 0
  /-- back-EMF amplitude, per cent of that expected at the present speed -/
  emf : Nat := 0
deriving DecidableEq, Repr

/-- A run of equal readings of a safety input (13 R337). -/
structure InputRun where
  /-- 0 to 7 for SI1 to SI8 -/
  input : Fin 8 := 0
  /-- how long every sample outside its pulse window has read so, us -/
  span : Nat := 0
deriving DecidableEq, Repr

/-- The output of a test-pulse source as measured (13 R338). -/
structure SourceIn where
  /-- least output outside its pulses, mV -/
  least : Nat := 0
  /-- greatest output inside this pulse, mV -/
  most : Nat := 0
deriving DecidableEq, Repr

/-! Free values and functions the spec leaves open or names from outside. -/

namespace Config

/-- The low octet of the event codes of the events the spec names without a number (22 R530; log 11); only its remainder modulo 256 is used. -/
opaque eventCode : Nat → Nat

/-- SHA-256 of FIPS 180-4 over octets, 256 bits (13 R350; log 6). -/
opaque sha256 : List Nat → Nat

/-- CRC-32 of IEEE 802.3 over octets (log 6). -/
opaque crc32 : List Nat → Nat

/-- The 16-bit frame check value of IEEE 802.15.4 over octets (04 R99; log 6). -/
opaque crc16 : List Nat → Nat

/-- HKDF-SHA-256 of RFC 5869: input key, salt, info; the first 16 octets (04 R100; log 6). -/
opaque hkdf : List Nat → List Nat → List Nat → List Nat

/-- AES-128 of one block: key, block (04 R109 area 0x04; log 6). -/
opaque aes128 : List Nat → List Nat → List Nat

/-- AES-CMAC of NIST SP 800-38B over octets, its 128 bits: key, octets (04 R101; log 6). -/
opaque cmac : List Nat → List Nat → Nat

/-- The choice a rounding takes where the spec states none (log 8): true rounds up. -/
opaque roundUp : Nat → Rat → Bool

/-- The natural exponential (log 9). -/
opaque exp : Rat → Rat

/-- The natural logarithm (log 9). -/
opaque ln : Rat → Rat

/-- The square root (log 9). -/
opaque sqrt : Rat → Rat

/-- The variance of a raw change, in uV^2, that the tap estimator takes: 05 R138 states no weighting (log 24). -/
opaque tapVariance : Rat

/-- The number pi (log 9). -/
opaque pi : Rat

/-- The parameters R0, sigma(R0), L, R1, tau1, alpha1, R2 and tau2, in SI units, at which the Levenberg-Marquardt fit of weighted points ends:
frequency in Hz, real part, imaginary part, weight; with the reduced model or not, within alpha bounds and an iteration limit (06 R171 names no
start and no damping; log 23). -/
opaque lmFit : List (Rat × Rat × Rat × Rat) → Bool → Rat → Rat → Nat → List Rat

/-- That fit converges within the iteration limit (log 23). -/
opaque lmConverges : List (Rat × Rat × Rat × Rat) → Bool → Rat → Rat → Nat → Bool

/-- The cosine of an angle in turns (log 9). -/
opaque cosTurn : Rat → Rat

/-- The sine of an angle in turns (log 9). -/
opaque sinTurn : Rat → Rat

/-- Installation value of a node's propagation delay, 2^-8 ns: the spec names it (02 R60) and no record holds it (log 14). -/
opaque installDelay : Nat → Nat

/-- Configured stream payload rate of a string, octets/s: no record of this module's image gives another string's (15 R399; log 38). -/
opaque streamRate : Nat → Nat

/-- A free number, fresh at each use: applied to the counter State.freeIdx (log 10). -/
opaque freeNat : Nat → Nat

/-- A free rational, fresh at each use (log 10). -/
opaque freeRat : Nat → Rat

/-- Light 6 blinks while both of its yellow conditions hold (25 R588 names no order; a free value, log 88). -/
opaque serviceBlinks : Bool

end Config

/-- The 16-bit event code of an event (22 R530). -/
def Ev.code : Ev → Nat
  | .prot fn => 1792 + fn
  | .recorderStarted => 3329
  | .storeWrapped => 3330
  | .writeCeiling => 3331
  | .blockRetired => 3332
  | .recordsLost => 3333
  | .suppressionsBeforeStop => 3334
  | .monitorLimit => 3073
  | .selfTestDeferred => 272
  | .plantDelivery => 2320
  | .thymeLocked => 2048 + Config.eventCode 0 % 256
  | .thymeFree => 2048 + Config.eventCode 1 % 256
  | .thymeUnaligned => 2048 + Config.eventCode 2 % 256
  | .thymeStep => 2048 + Config.eventCode 3 % 256
  | .thymeFailure => 2048 + Config.eventCode 4 % 256
  | .delayDeviation => 2048 + Config.eventCode 5 % 256
  | .offsetDisagreement => 2048 + Config.eventCode 6 % 256
  | .pulseMissed => 2048 + Config.eventCode 7 % 256
  | .energyNoSource => 1280 + Config.eventCode 8 % 256
  | .relayChange => 1280 + Config.eventCode 9 % 256
  | .relayLost => 1280 + Config.eventCode 10 % 256
  | .interference => 1280 + Config.eventCode 11 % 256
  | .authLost => 1280 + Config.eventCode 12 % 256
  | .nodeUnresponsive => 1280 + Config.eventCode 13 % 256
  | .wrongClass => 1280 + Config.eventCode 14 % 256
  | .positionConflict => 1280 + Config.eventCode 15 % 256
  | .stranger => 1280 + Config.eventCode 16 % 256
  | .unlisted => 1280 + Config.eventCode 17 % 256
  | .noTag => 1280 + Config.eventCode 18 % 256
  | .lostAdmission => 1280 + Config.eventCode 19 % 256
  | .adjacentTap => 1024 + Config.eventCode 20 % 256
  | .branchMismatch => 768 + Config.eventCode 21 % 256
  | .currentMismatch => 768 + Config.eventCode 22 % 256
  | .shuntOffset => 256 + Config.eventCode 23 % 256
  | .spareFault => 256 + Config.eventCode 24 % 256
  | .channelFault => 256 + Config.eventCode 25 % 256
  | .calFault => 256 + Config.eventCode 26 % 256
  | .calCommitted => 256 + Config.eventCode 27 % 256
  | .hallLost => 256 + Config.eventCode 28 % 256
  | .toneExceeded => 512 + Config.eventCode 29 % 256
  | .plating => 1024 + Config.eventCode 30 % 256
  | .contactDegraded => 1024 + Config.eventCode 31 % 256
  | .countEmpty => 1024 + Config.eventCode 32 % 256
  | .voltageEmpty => 1024 + Config.eventCode 33 % 256
  | .fadeConfirmed => 1024 + Config.eventCode 34 % 256
  | .leakConfirmed => 1024 + Config.eventCode 35 % 256
  | .unexplained => 1024 + Config.eventCode 36 % 256
  | .capStep => 1024 + Config.eventCode 37 % 256
  | .leakElevated => 1024 + Config.eventCode 38 % 256
  | .shortPrecursor => 1024 + Config.eventCode 39 % 256
  | .itemsUnwritten => 256 + Config.eventCode 40 % 256
  | .updateLost => 256 + Config.eventCode 41 % 256
  | .stateLost => 256 + Config.eventCode 42 % 256
  | .setUncertain => 1280 + Config.eventCode 43 % 256
  | .compLost => 1536 + Config.eventCode 44 % 256
  | .valveStall => 1536 + Config.eventCode 45 % 256
  | .valveFault => 1536 + Config.eventCode 46 % 256
  | .loopInputLost => 1536 + Config.eventCode 47 % 256
  | .coolingLost => 1536 + Config.eventCode 48 % 256
  | .hotSpot => 1536 + Config.eventCode 49 % 256
  | .sensorBroken => 1536 + Config.eventCode 50 % 256
  | .sensorSuspect => 1536 + Config.eventCode 51 % 256
  | .intTempCross => 1536 + Config.eventCode 52 % 256
  | .sensorRestored => 1536 + Config.eventCode 53 % 256
  | .thermalRise => 1536 + Config.eventCode 54 % 256
  | .tempWarning => 1536 + Config.eventCode 55 % 256
  | .tempThrottle => 1536 + Config.eventCode 56 % 256
  | .energySlots => 1344
  | .openCurrent => 1792 + Config.eventCode 57 % 256
  | .protReset => 1792 + Config.eventCode 58 % 256
  | .monitorCoupled => 1792 + Config.eventCode 59 % 256
  | .connectAborted => 512 + Config.eventCode 60 % 256
  | .leaveAbandoned => 768 + Config.eventCode 61 % 256
  | .testInterrupted => 1792 + Config.eventCode 62 % 256
  | .followerDriver => 1792 + Config.eventCode 63 % 256
  | .safetyChange => 1792 + Config.eventCode 64 % 256
  | .discreteLost => 2560 + Config.eventCode 65 % 256
  | .twinLinkLost => 2560 + Config.eventCode 66 % 256
  | .twinMismatch => 2560 + Config.eventCode 67 % 256
  | .takeover => 2560 + Config.eventCode 68 % 256
  | .takeoverNotReady => 2560 + Config.eventCode 69 % 256
  | .withdrawal => 2560 + Config.eventCode 70 % 256
  | .handover => 2560 + Config.eventCode 71 % 256
  | .safetyReduced => 2560 + Config.eventCode 72 % 256
  | .conflict => 2560 + Config.eventCode 73 % 256
  | .setpointExpired => 2816 + Config.eventCode 74 % 256
  | .masterLost => 2816 + Config.eventCode 75 % 256
  | .masterRoleLost => 2816 + Config.eventCode 76 % 256
  | .masterTaken => 2816 + Config.eventCode 77 % 256
  | .delayChange => 512 + Config.eventCode 78 % 256
  | .networkLost => 2304 + Config.eventCode 79 % 256
  | .portDown => 2304 + Config.eventCode 80 % 256
  | .gooseSilent => 2304 + Config.eventCode 81 % 256
  | .canLoad => 3840 + Config.eventCode 82 % 256
  | .canChange => 3840 + Config.eventCode 83 % 256
  | .canOff => 3840 + Config.eventCode 84 % 256
  | .canConflict => 3840 + Config.eventCode 85 % 256
  | .startComplete => 256 + Config.eventCode 86 % 256
  | .resetLocked => 256 + Config.eventCode 87 % 256
  | .flushLocked => 256 + Config.eventCode 88 % 256
  | .resetRefused => 256 + Config.eventCode 89 % 256
  | .plugOutcome => 256 + Config.eventCode 90 % 256
  | .feedLost => 256 + Config.eventCode 91 % 256
  | .plugRemoved => 256 + Config.eventCode 92 % 256
  | .resetDeferred => 256 + Config.eventCode 93 % 256
  | .buttonHeld => 256 + Config.eventCode 94 % 256
  | .buttonReleased => 256 + Config.eventCode 95 % 256
  | .holdUpReduced => 256 + Config.eventCode 96 % 256
  | .powerLost => 256 + Config.eventCode 97 % 256
  | .configRejected => 256 + Config.eventCode 98 % 256
  | .trialFailed => 256 + Config.eventCode 99 % 256
  | .activationAbandoned => 256 + Config.eventCode 100 % 256
  | .slotCorrupt => 3584 + Config.eventCode 101 % 256
  | .rollback => 3584 + Config.eventCode 102 % 256
  | .lapsed => 3584 + Config.eventCode 103 % 256
  | .reverted => 3584 + Config.eventCode 104 % 256
  | .committed => 3584 + Config.eventCode 105 % 256
  | .followWaiting => 3584 + Config.eventCode 106 % 256
  | .staggered => 3584 + Config.eventCode 107 % 256
  | .crossHoldFault => 2560 + Config.eventCode 108 % 256
  | .equipFault => 3840 + Config.eventCode 109 % 256
  | .convFault => 512 + Config.eventCode 110 % 256
  | .alarmDisregarded => 1792 + Config.eventCode 111 % 256
  | .alarmAbsent => 1280 + Config.eventCode 112 % 256

end Sys2Proof
end

