-- ==== Sys2Proof/Machine/StateTypes.lean ====
section
/-! DEFINITION. Sys2Proof/Machine/StateTypes.lean: the element types of State, each field with its width and the rule
of spec/ that names it. -/

namespace Sys2Proof.Machine

/-- What an emission is (the frame or signal that leaves the block). -/
inductive EmKind where
  | beacon | management | nodeReport | nodeAlarm | nodeRequest | nodeResponse | relayForward
  | ptp | ppsOut | timedPulse | rantusCommand | carrierSync
  | heartbeat | withdrawFrame | handoverFrame | twinTime | shadowFrame | bulkState | itemFrame | islandFrame
  | multicast | stringStatus | stream | operation | operationResult | response | claim | masterHandover
  | localisation | prpSupervision | icmpReply | addressReply | teleReady | teleReply | teleData | teleCommand
  | goose | can | update
deriving DecidableEq, Repr

/-- One frame or signal leaving the block: its kind, the port or channel it leaves by, and its octets (for a signal,
its parameters). -/
structure Emission where
  /-- kind -/
  kind : EmKind
  /-- port, channel or destination -/
  port : Nat := 0
  /-- octets or parameters -/
  bytes : List Nat := []
  /-- EtherType of the Ethernet frame it is the payload of; 0 where there is none, or an IP or address frame -/
  etherType : Nat := 0
  /-- VLAN tag of that frame: priority and identifier -/
  tag : Option (Nat × Nat) := none
  /-- multicast address of that frame, 48 bits; 0 for another -/
  mac : Nat := 0
deriving DecidableEq, Repr

/-- A balancing set, area 0x03 (R243). -/
structure BalSet where
  /-- cell currents by cell channel, positive draws (16 x 16 bits signed, 1 mA; 09 R243); reset: empty = all zero -/
  currents : List Int := []
  /-- stack-to-bus power, positive exports (16 bits signed, 10 mW; 09 R243); reset: 0 -/
  power : Int := 0
  /-- bit 0 learning current, bit 1 zero set (8 bits; 09 R243); reset: 0 -/
  flags : Nat := 0
deriving DecidableEq, Repr

/-- A node alarm as the module holds it (R108, R123, R297). -/
structure AlarmRec where
  /-- alarm code (8 bits; 04 R122); reset: 0 -/
  code : Nat := 0
  /-- cell mask, once a report carried the record (16 bits; 04 R123, 11 R297); reset: none -/
  mask : Option Nat := none
  /-- first sweep of detection (32 bits; 04 R123); reset: 0 -/
  firstSweep : Nat := 0
  /-- alarm sequence number (8 bits; 04 R123); reset: 0 -/
  seq : Nat := 0
  /-- sweep in which the alarm slot lay (32 bits; 09 R239); reset: 0 -/
  slotSweep : Nat := 0
deriving DecidableEq, Repr

/-- An addressed command to a node (R109). -/
structure NodeCmd where
  /-- command code (8 bits; 04 R109); reset: 0 -/
  code : Nat := 0
  /-- parameter octets (10 octets; 04 R106); reset: empty -/
  params : List Nat := []
deriving DecidableEq, Repr

/-- The addressed command in flight to a node (R111). -/
structure Inflight where
  /-- the command (11 octets; 04 R111); reset: none -/
  cmd : NodeCmd := {}
  /-- its counter (32 bits; 04 R111); reset: 0 -/
  counter : Nat := 0
  /-- repeats without a response (2 bits; 04 R111); reset: 0 -/
  repeats : Nat := 0
  /-- superframe of the last sending (32 bits; 04 R106); reset: 0 -/
  sentAt : Nat := 0
deriving DecidableEq, Repr

/-- What the module holds of one node index (R117, R112, R60, R90, R254). -/
structure NodeCtl where
  /-- admission state (3 bits; 04 R117); reset: unadmitted (R116) -/
  adm : AdmState := .unadmitted
  /-- admitted as a replacement (keying, pending) (1 bit; 04 R117, R119); reset: DESIGN CHOICE 0 (log 4) -/
  replacement : Bool := false
  /-- identifier of the node holding the index (64 bits; 04 R117); reset: DESIGN CHOICE 0 (log 4) -/
  ident : Nat := 0
  /-- harness code of its request (8 bits; 04 R117); reset: DESIGN CHOICE 0 (log 4) -/
  harness : Nat := 0
  /-- challenge nonce (128 bits; 04 R117); reset: DESIGN CHOICE 0 (log 4) -/
  nonce : Nat := 0
  /-- last command counter used (32 bits; 04 R112); reset: 0 (R112) -/
  counter : Nat := 0
  /-- addressed work pending, first in first out (queue; 03 R86); reset: empty (log 4) -/
  work : List NodeCmd := []
  /-- command sent and unanswered (one; 04 R111); reset: none (log 4) -/
  inflight : Option Inflight := none
  /-- consecutive reports that failed authentication (2 bits; 04 R115); reset: DESIGN CHOICE 0 (log 4) -/
  authFails : Nat := 0
  /-- consecutive (active) superframes without an accepted report (8 bits; 11 R300); reset: DESIGN CHOICE 0 (log 4) -/
  silence : Nat := 0
  /-- superframe of its last accepted report (32 bits; 03 R91); reset: none (log 4) -/
  heardIn : Option Nat := none
  /-- consecutive superframes with its relayed report lost (8 bits; 03 R91); reset: DESIGN CHOICE 0 (log 4) -/
  lostRun : Nat := 0
  /-- Commits of area 0x04 sent in this keying (3 bits; 04 R117); reset: DESIGN CHOICE 0 (log 4) -/
  keyCommits : Nat := 0
  /-- superframe of the key Commit (32 bits; 04 R117); reset: none (log 4) -/
  keyCommitAt : Option Nat := none
  /-- propagation delay in use (32 bits, 2^-8 ns; 02 R60); reset: DESIGN CHOICE 0 (log 4) -/
  propDelay : Nat := 0
  /-- latest transfer quality reported (8 bits, 1 ns; 02 R61); reset: DESIGN CHOICE 0 (log 4) -/
  quality : Nat := 0
  /-- its maximum over the last second (8 bits; 24 R568); reset: DESIGN CHOICE 0 (log 4) -/
  qualityMax : Nat := 0
  /-- latest report timing-degraded (1 bit; 05 R135); reset: DESIGN CHOICE 0 (log 4) -/
  degraded : Bool := false
  /-- 0 direct, 1 relay, 2 relayed (2 bits; 03 R88); reset: 0 direct (log 4) -/
  relayRole : Nat := 0
  /-- partner slot (5 bits; 03 R88); reset: DESIGN CHOICE 0 (log 4) -/
  relayPartner : Nat := 0
  /-- forward slot (5 bits; 03 R88); reset: DESIGN CHOICE 0 (log 4) -/
  forwardSlot : Nat := 0
  /-- route change waiting: role, partner, slot, effective superframe (one; 03 R90); reset: none (log 4) -/
  relayPending : Option (Nat × Nat × Nat × Nat) := none
  /-- lost direct reports of the last 250 superframes, newest first (250 bits; 03 R90); reset: empty (log 4) -/
  directHist : List Bool := []
  /-- superframe and loss of the direct link tests of the last 2500 superframes, newest first (list; 03 R90); reset: empty (log 4) -/
  testHist : List (Nat × Bool) := []
  /-- superframe of the last route change (32 bits; 03 R90); reset: DESIGN CHOICE 0 (log 4) -/
  routeAt : Nat := 0
  /-- superframe of its last authentic response (32 bits; 03 R87); reset: none (log 4) -/
  respAt : Option Nat := none
  /-- configuration epoch of its link key (32 bits; 04 R100); reset: DESIGN CHOICE 0 (log 4) -/
  linkEpoch : Nat := 0
  /-- direct reports lost in this 10 s period (32 bits; 03 R97); reset: DESIGN CHOICE 0 (log 4) -/
  directLost : Nat := 0
  /-- direct reports expected in this 10 s period (32 bits; 03 R97); reset: DESIGN CHOICE 0 (log 4) -/
  directSeen : Nat := 0
  /-- relayed reports lost in this 10 s period (32 bits; 03 R97); reset: DESIGN CHOICE 0 (log 4) -/
  relayLost : Nat := 0
  /-- relayed reports expected in this 10 s period (32 bits; 03 R97); reset: DESIGN CHOICE 0 (log 4) -/
  relaySeen : Nat := 0
  /-- first-path power of its reports (16 bits, 0.25 dB; 03 R97); reset: DESIGN CHOICE 0 (log 4) -/
  reportPower : Int := 0
  /-- beacon first-path power it reports (16 bits, 0.25 dB; 03 R97); reset: DESIGN CHOICE 0 (log 4) -/
  beaconPower : Int := 0
  /-- latest node status octet (8 bits; 04 R103); reset: DESIGN CHOICE 0 (log 4) -/
  statusBits : Nat := 0
  /-- latest sweep status octet (8 bits; 04 R103); reset: DESIGN CHOICE 0 (log 4) -/
  sweepStatus : Nat := 0
  /-- alarms decoded or reported and not yet absent (queue; 11 R297); reset: empty (log 4) -/
  alarms : List AlarmRec := []
  /-- alarm sequence number last acted on, modulo 16 (4 bits; 11 R297); reset: none (log 4) -/
  seqActed : Option Nat := none
  /-- balancing set the module takes as active (40 octets; 09 R254); reset: zero set (R240) -/
  activeSet : BalSet := {}
  /-- the set before it (40 octets; 05 R137); reset: zero set (R240) -/
  prevSet : BalSet := {}
  /-- activation sweep of the active set (32 bits; 05 R137); reset: DESIGN CHOICE 0 (log 4) -/
  activeFrom : Nat := 0
  /-- activation sweeps of the last 16 sets, newest first (16 entries of 32 bits; 06 R165); reset: DESIGN CHOICE empty (log 4) -/
  setSteps : List Nat := []
  /-- set loaded for the next activation (40 octets; 09 R253); reset: none (log 4) -/
  nextSet : Option BalSet := none
  /-- its Commit was sent before the deadline (1 bit; 09 R254); reset: DESIGN CHOICE 0 (log 4) -/
  commitSent : Bool := false
  /-- its Commit was answered (1 bit; 09 R254); reset: DESIGN CHOICE 0 (log 4) -/
  commitAcked : Bool := false
  /-- set-uncertain causes: bit 0 Commit, bit 1 alarm frame, bit 2 silence (3 bits; 09 R254, R239, R240); reset: 0 certain (log 4) -/
  uncertain : Nat := 0
  /-- first sweep of the set-uncertain state (32 bits; 09 R254); reset: DESIGN CHOICE 0 (log 4) -/
  uncertainFrom : Nat := 0
  /-- first sweep after the set-uncertain state last ended (32 bits; 09 R254); reset: DESIGN CHOICE 0 (log 4) -/
  uncertainTo : Nat := 0
  /-- converters taken as stopped; bit 16 stack-to-bus (17 bits; 09 R239); reset: 0 no converter stopped (log 4) -/
  guardMask : Nat := 0
  /-- converters stopped in the last sweep of the set before (17 bits; 09 R246); reset: DESIGN CHOICE 0 (log 4) -/
  guardLast : Nat := 0
  /-- instant at which a balancing converter fault was last held (time; 09 R246); reset: none (log 4) -/
  convFaultAt : Option Nat := none
  /-- sweep from which each guard acts, by converter; 16 stack-to-bus (17 x 32 bits; 09 R239); reset: empty (log 4) -/
  guardAt : Table Nat := {}
  /-- tone plan identifier of its last tone header (3 bits; 06 R153); reset: DESIGN CHOICE 0 (log 4) -/
  planId : Nat := 0
  /-- tone fragments received of the current block (25 bits; 04 R105); reset: DESIGN CHOICE 0 (log 4) -/
  toneFrags : Nat := 0
  /-- tone fragments of the current block by number (25 x 32 octets; 04 R105); reset: empty (log 4) -/
  toneBlock : Table (List Nat) := {}
  /-- node block waiting to be written (1 bit; 07 R212); reset: DESIGN CHOICE 0 (log 4) -/
  waiting : Bool := false
  /-- items 0x03 to 0x05 waiting to be written, bit item - 3 (3 bits; 07 R212); reset: none (log 4) -/
  waitItems : Nat := 0
  /-- last write of the tap block (time; 07 R214); reset: DESIGN CHOICE 0 (log 4) -/
  tapAt : Nat := 0
  /-- identifier of the node whose learned state its cells carry (64 bits; 07 R215); reset: none (log 4) -/
  blockIdent : Option Nat := none
  /-- link marginal in the last period (1 bit; 03 R97); reset: DESIGN CHOICE 0 (log 4) -/
  marginal : Bool := false
deriving DecidableEq, Repr

/-- An alarm a node holds (R123). -/
structure HeldAlarm where
  /-- alarm code (8 bits; 04 R122); reset: 0 -/
  code : Nat := 0
  /-- cell mask (16 bits; 04 R123); reset: 0 -/
  mask : Nat := 0
  /-- first sweep of detection (32 bits; 04 R123); reset: 0 -/
  firstSweep : Nat := 0
  /-- alarm sequence number (8 bits; 04 R123); reset: 0 -/
  seq : Nat := 0
  /-- acknowledged (1 bit; 04 R123); reset: no -/
  acked : Bool := false
deriving DecidableEq, Repr

/-- A node's stored response (R111, R107). -/
structure StoredResp where
  /-- command echo (8 bits; 04 R107); reset: 0 -/
  code : Nat := 0
  /-- status (8 bits; 04 R107); reset: 0 -/
  status : Nat := 0
  /-- counter echo (32 bits; 04 R107); reset: 0 -/
  counter : Nat := 0
  /-- payload (12 octets; 04 R107); reset: empty -/
  payload : List Nat := []
deriving DecidableEq, Repr

/-- The state of one cell node (R61, R76, R85, R109 to R123, R238 to R240). -/
structure NodeDev where
  /-- the node's own admission state (3 bits; 04 R116); reset: unadmitted (R116) -/
  adm : AdmState := .unadmitted
  /-- node index given at admission (7 bits; 03 R88); reset: DESIGN CHOICE 0 (log 4) -/
  index : Nat := 0
  /-- last command counter accepted (32 bits; 04 R111, R112); reset: 0 (R112) -/
  lastCounter : Nat := 0
  /-- stored response (one; 04 R111); reset: none (log 4) -/
  stored : Option StoredResp := none
  /-- admission attempt count a (8 bits; 03 R85); reset: 0 (R85) -/
  attempts : Nat := 0
  /-- open contention windows still to wait (6 bits; 03 R85); reset: DESIGN CHOICE 0 (log 4) -/
  backoff : Nat := 0
  /-- end of the listening pause (time; 03 R85); reset: none (log 4) -/
  listenUntil : Option Nat := none
  /-- an admission request awaits its answer (1 bit; 03 R85); reset: DESIGN CHOICE 0 (log 4) -/
  requestSent : Bool := false
  /-- retry ceiling last heard (8 bits; 03 R85); reset: 16 (R85) -/
  ceiling : Nat := 16
  /-- listening pause last heard (16 bits, s; 03 R85); reset: 60 s (R85) -/
  pause : Nat := 60
  /-- consecutive missed beacons (32 bits; 02 R61, 03 R76); reset: DESIGN CHOICE 0 (log 4) -/
  missed : Nat := 0
  /-- consecutive beacons leaving the figure at 50 or below (3 bits; 02 R61); reset: DESIGN CHOICE 0 (log 4) -/
  goodRun : Nat := 0
  /-- transfer-quality figure (8 bits, 1 ns; 02 R61); reset: DESIGN CHOICE 255 (log 4) -/
  tq : Nat := 255
  /-- samples marked timing-degraded (1 bit; 02 R61); reset: DESIGN CHOICE 0 (log 4) -/
  degraded : Bool := false
  /-- instant of the last good beacon (time; 03 R76); reset: DESIGN CHOICE 0 (log 4) -/
  lastBeacon : Nat := 0
  /-- transmissions stopped for missed beacons (1 bit; 03 R76); reset: DESIGN CHOICE 0 (log 4) -/
  silentTx : Bool := false
  /-- mode bit of the last beacon (1 bit; 04 R102); reset: DESIGN CHOICE 0 (log 4) -/
  watch : Bool := false
  /-- correction of the node's clock: plant time less its free-running count (2^-16 ns; 02 R61); reset: DESIGN CHOICE 0 (log 4) -/
  clockCorr : Int := 0
  /-- propagation delay given by command 0x08 (32 bits, 2^-8 ns; 04 R109); reset: DESIGN CHOICE 0 (log 4) -/
  propDelay : Nat := 0
  /-- beacons counted for a failed STS (32 bits; 03 R71); reset: DESIGN CHOICE 0 (log 4) -/
  beaconFails : Nat := 0
  /-- commands ignored for a lower counter (32 bits; 04 R111); reset: DESIGN CHOICE 0 (log 4) -/
  lowerCounters : Nat := 0
  /-- transmit level of Admit (8 bits; 04 R109); reset: DESIGN CHOICE 0 (log 4) -/
  txLevel : Nat := 0
  /-- replacement flag of Admit (1 bit; 04 R109); reset: DESIGN CHOICE 0 (log 4) -/
  replacement : Bool := false
  /-- served-channel mask (16 bits; 04 R109, R122); reset: DESIGN CHOICE 0 (log 4) -/
  served : Nat := 0
  /-- staging copies by area (4 areas; 04 R109); reset: empty (log 4) -/
  staging : Table (List Nat) := {}
  /-- active copies by area (4 areas; 04 R109); reset: empty (log 4) -/
  active : Table (List Nat) := {}
  /-- activation sweep of a committed staging copy, by area (4 x 32 bits; 04 R110); reset: empty (log 4) -/
  commitAt : Table Nat := {}
  /-- committed copies waiting for their activation sweep, by area (4 areas; 04 R110); reset: empty (log 4) -/
  committed : Table (List Nat) := {}
  /-- challenge nonce received (128 bits; 04 R109); reset: DESIGN CHOICE 0 (log 4) -/
  nonce : Nat := 0
  /-- own identifier (64 bits; 04 R109); reset: DESIGN CHOICE 0 (log 4) -/
  ident : Nat := 0
  /-- node key written at provisioning (16 octets; 04 R100); reset: DESIGN CHOICE empty (log 4) -/
  key : List Nat := []
  /-- configuration epoch of its link key (32 bits; 04 R100); reset: DESIGN CHOICE 0 (log 4) -/
  linkEpoch : Nat := 0
  /-- instant at which it was last addressed (time; 03 R84); reset: DESIGN CHOICE 0 (log 4) -/
  addressedAt : Nat := 0
  /-- superframe of the last good beacon (32 bits; 03 R94); reset: none (log 4) -/
  lastFrame : Option Nat := none
  /-- superframe of the last report sent (32 bits; 03 R75); reset: none (log 4) -/
  reportedIn : Option Nat := none
  /-- the last report sent (264 octets; 03 R88); reset: none (log 4) -/
  sentReport : List Nat := []
  /-- tone plan areas with the sweeps since the epoch at which they became active, newest first (4 areas; 04 R105); reset: none (log 4) -/
  planHist : List (Nat × List Nat) := []
  /-- tone count of the tone block's window (8 bits; 04 R105); reset: DESIGN CHOICE 0 (log 4) -/
  toneCount : Nat := 0
  /-- plan identifier of the tone block (3 bits; 04 R103); reset: DESIGN CHOICE 0 (log 4) -/
  tonePlan : Nat := 0
  /-- own harness code (8 bits; 04 R117); reset: DESIGN CHOICE 0 (log 4) -/
  harness : Nat := 0
  /-- own firmware version (16 bits; 04 R109); reset: DESIGN CHOICE 0 (log 4) -/
  fw : Nat := 0
  /-- sweep, values and sweep status of the latest decided sweeps, newest first (12 x (16 x 24 + 8) bits; 04 R103, R104); reset: empty (log 4) -/
  decided : List (Nat × List Int × Nat) := []
  /-- latest temperatures (8 x 16 bits; 04 R103); reset: empty (log 4) -/
  temps : List Int := []
  /-- the report of this superframe carried the alarm record (1 bit; 03 R82); reset: DESIGN CHOICE 0 (log 4) -/
  recordSent : Bool := false
  /-- holds a new K_beacon still to be checked (1 bit; 04 R118); reset: DESIGN CHOICE 0 (log 4) -/
  newKey : Bool := false
  /-- K_beacon checked: reports in its slot (1 bit; 04 R118); reset: DESIGN CHOICE 0 (log 4) -/
  keyed : Bool := false
  /-- output of the stack-to-bus converter (W; 09 R238); reset: 0 idle (log 4) -/
  busOut : Rat := 0
  /-- active balancing set (40 octets; 09 R238, R240); reset: zero set (R240) -/
  balSet : BalSet := {}
  /-- converters stopped by a local guard (17 bits; 09 R239); reset: 0 (log 4) -/
  stopped : Nat := 0
  /-- relay role (2 bits; 04 R109); reset: 0 direct (log 4) -/
  role : Nat := 0
  /-- relay partner slot (5 bits; 04 R109); reset: DESIGN CHOICE 0 (log 4) -/
  partner : Nat := 0
  /-- forward slot (5 bits; 04 R109); reset: DESIGN CHOICE 0 (log 4) -/
  fwdSlot : Nat := 0
  /-- effective superframe, low 16 bits (16 bits; 04 R109); reset: DESIGN CHOICE 0 (log 4) -/
  roleFrom : Nat := 0
  /-- relay role waiting for its effective superframe (one; 04 R109); reset: none (log 4) -/
  nextRole : Option (Nat × Nat × Nat × Nat) := none
  /-- the relayed frame last forwarded, empty where it was not received (frame; 03 R88, R91); reset: none (log 4) -/
  relayed : List Nat := []
  /-- alarms held (list; 04 R123); reset: empty (log 4) -/
  alarms : List HeldAlarm := []
  /-- last alarm sequence number given (8 bits; 04 R123); reset: DESIGN CHOICE 0 (log 4) -/
  alarmSeq : Nat := 0
  /-- alarm numbers sent since the last management frame (list; 04 R123); reset: empty (log 4) -/
  sentSeqs : List Nat := []
  /-- a poll stopped the repetition (1 bit; 03 R82); reset: DESIGN CHOICE 0 (log 4) -/
  polled : Bool := false
  /-- consecutive lost reports with the record (2 bits; 03 R82); reset: DESIGN CHOICE 0 (log 4) -/
  pollLost : Nat := 0
  /-- polls no longer stop the repetition (1 bit; 03 R82); reset: DESIGN CHOICE 0 (log 4) -/
  pollImmune : Bool := false
  /-- debounce counts, key 16 x code + cell (3 bits each; 04 R121, R122); reset: empty (log 4) -/
  counts : Table Nat := {}
  /-- temperature bank of the next report (1 bit; 04 R103); reset: DESIGN CHOICE 0 (log 4) -/
  tempBank : Nat := 0
  /-- node status bit 2 (1 bit; 04 R103); reset: DESIGN CHOICE 0 (log 4) -/
  selfTestFault : Bool := false
  /-- first sweep of the tone block's window (32 bits; 04 R105); reset: DESIGN CHOICE 0 (log 4) -/
  toneWindow : Nat := 0
  /-- voltage phasors, key 16 t + j (128 x 48 bits; 04 R105, 06 R155); reset: empty (log 4) -/
  tonePhasors : Table (Int × Int) := {}
  /-- window status octet (8 bits; 04 R105); reset: DESIGN CHOICE 0 (log 4) -/
  toneStatus : Nat := 0
  /-- timing-degraded seen in this window (1 bit; 04 R105); reset: DESIGN CHOICE 0 (log 4) -/
  windowDegraded : Bool := false
  /-- plan change seen in this window (1 bit; 04 R105); reset: DESIGN CHOICE 0 (log 4) -/
  windowPlanChange : Bool := false
deriving DecidableEq, Repr

/-- A transmit timestamp queue entry (R68). -/
structure TsEntry where
  /-- tag (16 bits; 02 R68); reset: 0 -/
  tag : Nat := 0
  /-- loss-before flag (1 bit; 02 R68); reset: no -/
  lossBefore : Bool := false
  /-- port code 1 to 5 (8 bits; 02 R68); reset: 0 -/
  port : Nat := 0
  /-- timestamp, whole ns (80 bits, kept in ns; 02 R68); reset: 0 -/
  at_ : Nat := 0
  /-- fraction of the timestamp (16 bits, 2^-16 ns; 02 R68); reset: 0 -/
  frac : Nat := 0
deriving DecidableEq, Repr

/-- One PTP port (R48, R52 to R54). -/
structure PtpPort where
  /-- foreign master selected and announced (1 bit; 02 R48); reset: DESIGN CHOICE 0 (log 4) -/
  available : Bool := false
  /-- receipt of the last Announce (time; 02 R52); reset: DESIGN CHOICE 0 (log 4) -/
  lastAnnounce : Nat := 0
  /-- acts as boundary master on this port (1 bit; 02 R53); reset: DESIGN CHOICE 0 (log 4) -/
  master : Bool := false
  /-- last offset measured on this port (ns; 02 R50); reset: DESIGN CHOICE 0 (log 4) -/
  offset : Int := 0
  /-- sequence of Sync sent (16 bits; 02 R52); reset: DESIGN CHOICE 0 (log 4) -/
  seqSync : Nat := 0
  /-- sequence of Announce sent (16 bits; 02 R52); reset: DESIGN CHOICE 0 (log 4) -/
  seqAnnounce : Nat := 0
  /-- sequence of Pdelay_Req sent (16 bits; 02 R52); reset: DESIGN CHOICE 0 (log 4) -/
  seqPdelay : Nat := 0
  /-- Sync awaiting its timestamp entry: tag and sending time (16 bits; 02 R69); reset: none (log 4) -/
  followUpDue : Option (Nat × Nat) := none
  /-- Pdelay_Resp awaiting its timestamp entry: tag and sending time (16 bits; 02 R69); reset: none (log 4) -/
  respFollowUpDue : Option (Nat × Nat) := none
  /-- receive timestamp of the Sync whose Follow_Up is awaited (ns; 02 R52); reset: DESIGN CHOICE 0 (log 4) -/
  syncRx : Int := 0
  /-- Pdelay_Resp received: sequence, request receipt at the peer, own receive timestamp (16 bits, ns; 02 R52); reset: none (log 4) -/
  peerResp : Option (Nat × Int × Int) := none
  /-- peer delay measured (ns; 02 R52); reset: DESIGN CHOICE 0 (log 4) -/
  pathDelay : Rat := 0
  /-- entries read from the queue before the one asked for (entries; 02 R69); reset: empty (log 4) -/
  stamps : List TsEntry := []
  /-- two-step Sync received whose Follow_Up is awaited (16 bits; 02 R52); reset: none (log 4) -/
  syncSeq : Option Nat := none
deriving DecidableEq, Repr

/-- A transmit timestamp queue of 64 entries (R68, R69). -/
structure TsQueue where
  /-- queue, first in first out (64 entries; 02 R68); reset: empty (log 4) -/
  entries : List TsEntry := []
  /-- overflow counter (32 bits, wraps; 02 R69); reset: DESIGN CHOICE 0 (log 4) -/
  overflow : Nat := 0
  /-- entries discarded unread (32 bits, wraps; 02 R69); reset: DESIGN CHOICE 0 (log 4) -/
  expired : Nat := 0
  /-- next stored entry carries loss-before (1 bit; 02 R69); reset: DESIGN CHOICE 0 (log 4) -/
  lossPending : Bool := false
deriving DecidableEq, Repr

/-- A pulse output TP1 or TP2 (R65 to R67). -/
structure PulseOut where
  /-- start of the armed once pulse (time; 02 R65); reset: none (log 4) -/
  armedAt : Option Nat := none
  /-- its fraction (16 bits, 2^-16 ns; 02 R65); reset: DESIGN CHOICE 0 (log 4) -/
  armedSub : Nat := 0
  /-- trailing edge of the pulse in progress (time; 02 R65); reset: DESIGN CHOICE 0 (log 4) -/
  fallAt : Nat := 0
  /-- next instant on the periodic lattice (time; 02 R66); reset: none (log 4) -/
  nextAt : Option Nat := none
  /-- pulses still to emit, none without end (32 bits; 02 R66); reset: none (log 4) -/
  left : Option Nat := none
  /-- pulse in progress (1 bit; 02 R66); reset: DESIGN CHOICE 0 (log 4) -/
  high : Bool := false
deriving DecidableEq, Repr

/-- One radio channel (R72, R79 to R83, R86, R92, R93). -/
structure RadioChan where
  /-- frame class counters in the order of R92 (6 x 32 bits; 03 R92); reset: zeros (log 4) -/
  counters : List Nat := []
  /-- energy results (32 bits, wraps; 24 R567); reset: DESIGN CHOICE 0 (log 4) -/
  energyCount : Nat := 0
  /-- alarm energy without source (32 bits, wraps; 24 R567); reset: DESIGN CHOICE 0 (log 4) -/
  noSource : Nat := 0
  /-- acknowledgements since the last management frame (32 bits; 03 R81); reset: DESIGN CHOICE 0 (log 4) -/
  ackBitmap : Nat := 0
  /-- bitmap the next beacon repeats (32 bits; 03 R81, 04 R102); reset: DESIGN CHOICE 0 (log 4) -/
  beaconAck : Nat := 0
  /-- an energy result awaits its poll (1 bit; 03 R82); reset: DESIGN CHOICE 0 (log 4) -/
  pollDue : Bool := false
  /-- candidates of the last poll (32 bits; 03 R83); reset: DESIGN CHOICE 0 (log 4) -/
  polled : Nat := 0
  /-- slot instant of the standing unidentified alarm (plant time, ns; 03 R80); reset: none (log 4) -/
  unidentified : Option Nat := none
  /-- a candidate reported an alarm since (1 bit; 03 R83); reset: DESIGN CHOICE 0 (log 4) -/
  namedSince : Bool := false
  /-- superframe whose close resolves it (32 bits; 03 R83); reset: none (log 4) -/
  resolveAt : Option Nat := none
  /-- number (4 k + a) of the last energy slot (34 bits; 11 R299); reset: none (log 4) -/
  lastEnergySlot : Option Nat := none
  /-- slot addressed last plus 1; 0 none (6 bits; 03 R86); reset: none (log 4) -/
  rotation : Nat := 0
  /-- superframe begun on this channel (32 bits; 03 R77); reset: none (log 4) -/
  superframe : Option Nat := none
  /-- a route change takes effect next superframe on this channel (1 bit; 04 R102); reset: DESIGN CHOICE 0 (log 4) -/
  routeChange : Bool := false
  /-- superframe of the last beacon window (32 bits; 03 R75); reset: none (log 4) -/
  beaconIn : Option Nat := none
  /-- superframe of the last management window (32 bits; 03 R75); reset: none (log 4) -/
  mgmtIn : Option Nat := none
  /-- numbers (4 k + a) of the latest energy slots, own and partner's (8 x 34 bits; 11 R299, R312); reset: empty (log 4) -/
  energyNums : List Nat := []
  /-- superframes last made active by an energy result, newest first (4 x 32 bits; 03 R94); reset: none (log 4) -/
  forcedIn : List Nat := []
  /-- last occupancy (16 bits, 0.1 %; 03 R93); reset: DESIGN CHOICE 0 (log 4) -/
  occupancy : Nat := 0
  /-- consecutive seconds above 40 % (4 bits; 03 R93); reset: DESIGN CHOICE 0 (log 4) -/
  overRun : Nat := 0
  /-- consecutive seconds at or below 40 % (4 bits; 03 R93, 23 R558); reset: DESIGN CHOICE 0 (log 4) -/
  underRun : Nat := 0
  /-- interference above assumption (1 bit; 03 R93); reset: DESIGN CHOICE 0 (log 4) -/
  interference : Bool := false
  /-- candidates whose report was lost, polled again (32 bits; 03 R82); reset: DESIGN CHOICE 0 (log 4) -/
  repoll : Nat := 0
  /-- index challenged through this channel's contention (7 bits; 04 R117); reset: none (log 4) -/
  contentionFor : Option Nat := none
deriving DecidableEq, Repr

/-- One cell value of one sweep in the sweep set (R133, R134). -/
structure Sample where
  /-- raw value (24 bits, 1 uV; 05 R133); reset: 0 -/
  raw : Int := 0
  /-- corrected value (24 bits, 1 uV; 05 R133); reset: 0 -/
  corr : Int := 0
  /-- quality byte (8 bits; 00 R18); reset: missing until entered (R40) -/
  quality : BitVec 8 := 4#8
  /-- excluded under R139 or set-uncertain (1 bit; 05 R139); reset: no -/
  excluded : Bool := false
deriving DecidableEq, Repr

/-- One module channel of one sweep (R130). -/
structure ChanValue where
  /-- average (32 bits; 05 R130); reset: DESIGN CHOICE 0 (log 4) -/
  avg : Int := 0
  /-- minimum (32 bits; 05 R130); reset: DESIGN CHOICE 0 (log 4) -/
  min : Int := 0
  /-- maximum (32 bits; 05 R130); reset: DESIGN CHOICE 0 (log 4) -/
  max : Int := 0
  /-- quality byte (8 bits; 05 R132); reset: DESIGN CHOICE missing (log 4) -/
  quality : BitVec 8 := 4#8
deriving DecidableEq, Repr

/-- A tap estimate (R138, R214). -/
structure Tap where
  /-- estimate (32 bits, 1 nOhm; 05 R138); reset: nominal of record 0x0401 when steps = 0 -/
  rho : Nat := 0
  /-- standard uncertainty (32 bits, 1 nOhm; 05 R138); reset: DESIGN CHOICE 0 (log 4) -/
  sigma : Nat := 0
  /-- steps entered (16 bits, saturating; 05 R138); reset: 0 unconverged (R138) -/
  steps : Nat := 0
  /-- converged (1 bit; 05 R138); reset: unconverged (R138) -/
  converged : Bool := false
  /-- estimate in the last written tap block (32 bits, 1 nOhm; 07 R214); reset: DESIGN CHOICE 0 (log 4) -/
  written : Nat := 0
deriving DecidableEq, Repr

/-- A cell's correction terms in the island's table (R140). -/
structure IslandTerm where
  /-- sweep of the change (32 bits; 05 R140); reset: 0 -/
  sweep : Nat := 0
  /-- term before it (uV; 05 R140); reset: 0 -/
  before : Int := 0
  /-- term in it (uV; 05 R137); reset: 0 -/
  ramp : Int := 0
  /-- term after it (uV; 05 R140); reset: 0 -/
  after : Int := 0
deriving DecidableEq, Repr

/-- A calibration set (R146). -/
structure CalSet where
  /-- magic, version and CRC-32 correct (magic, version, CRC; 05 R147); reset: DESIGN CHOICE a factory calibration (log 3) -/
  valid : Bool := true
  /-- origin (8 bits; 05 R146); reset: DESIGN CHOICE 0x01 factory (log 3) -/
  origin : Nat := 1
  /-- write time (48 bits; 05 R146); reset: DESIGN CHOICE 0 (log 3) -/
  date : Nat := 0
  /-- reference (8 octets; 05 R146); reset: empty (log 3) -/
  reference : List Nat := []
  /-- field mask (16 bits; 05 R146); reset: DESIGN CHOICE 0 (log 3) -/
  fieldMask : Nat := 0
  /-- gain corrections (13 x 32 bits, ppb; 05 R146); reset: zeros (log 3) -/
  gain : Table Int := {}
  /-- offsets (13 x 32 bits; 05 R146); reset: zeros (log 3) -/
  offset : Table Int := {}
  /-- delay trims (13 x 16 bits; 05 R146); reset: zeros (log 3) -/
  delayTrim : Table Int := {}
  /-- gain temperature coefficients (13 x 16 bits; 05 R146); reset: zeros (log 3) -/
  gainTemp : Table Int := {}
  /-- converter reference trims (8 x 16 bits; 05 R146); reset: zeros (log 3) -/
  refTrims : Table Int := {}
  /-- reference frequency table (64 x 32 bits, ppb; 05 R146, 02 R45); reset: zeros (log 3) -/
  freqTable : Table Int := {}
  /-- antenna delays (8 x 32 bits; 05 R146); reset: zeros (log 3) -/
  antenna : Table Int := {}
  /-- port latencies (5 x 32 bits; 05 R146); reset: zeros (log 3) -/
  latency : Table Int := {}
  /-- output delays (4 x 32 bits; 05 R146); reset: zeros (log 3) -/
  outDelay : Table Int := {}
deriving DecidableEq, Repr

/-- An open sweep set (R40). -/
structure Sweep4 where
  /-- first sweep, 4k (32 bits; 01 R40); reset: 0 -/
  first : Nat := 0
  /-- key 4 x cell + sweep i (8192 samples; 01 R40); reset: all missing -/
  samples : Table Sample := {}
deriving DecidableEq, Repr

/-- Branch voltage window of one branch (R141, R304). -/
structure MismatchWin where
  /-- sweeps in the window (7 bits; 05 R141); reset: DESIGN CHOICE 0 (log 4) -/
  count : Nat := 0
  /-- every present cell valid so far (1 bit; 05 R141); reset: DESIGN CHOICE yes (log 4) -/
  usable : Bool := true
  /-- sum of cell sums (uV; 05 R141); reset: DESIGN CHOICE 0 (log 4) -/
  sumCells : Int := 0
  /-- sum of HV averages (mV; 05 R141); reset: DESIGN CHOICE 0 (log 4) -/
  sumHv : Int := 0
  /-- sum of IB averages (mA; 05 R141); reset: DESIGN CHOICE 0 (log 4) -/
  sumIb : Int := 0
  /-- windows skipped (32 bits; 05 R141); reset: DESIGN CHOICE 0 (log 4) -/
  skipped : Nat := 0
  /-- consecutive windows beyond tolerance (7 bits; 05 R141); reset: DESIGN CHOICE 0 (log 4) -/
  overRun : Nat := 0
  /-- consecutive windows within tolerance (7 bits; 05 R141); reset: DESIGN CHOICE 0 (log 4) -/
  underRun : Nat := 0
  /-- mismatch reported (1 bit; 05 R141); reset: DESIGN CHOICE 0 (log 4) -/
  reported : Bool := false
  /-- last used window beyond the trip factor (2 bits; 11 R304); reset: none (log 4) -/
  tripOver : Option Bool := none
deriving DecidableEq, Repr

/-- A complex number of exact parts (model's own). -/
structure Cplx where
  /-- real part (exact; 06 R155); reset: 0 -/
  re : Rat := 0
  /-- imaginary part (exact; 06 R155); reset: 0 -/
  im : Rat := 0
deriving DecidableEq, Repr

/-- One unit of an estimate (R164 to R166). -/
structure ImpUnit where
  /-- first sweep of the unit (sweeps since the epoch; 06 R164); reset: 0 -/
  at_ : Nat := 0
  /-- corrected voltage phasor (phasor; 06 R159); reset: 0 -/
  v : Cplx := {}
  /-- excitation current (phasor; 06 R158); reset: 0 -/
  i : Cplx := {}
  /-- even-numbered unit (1 bit; 06 R166); reset: 0 -/
  even : Bool := false
  /-- source label of the unit (3 bits; 06 R160); reset: 0 -/
  src : Nat := 0
  /-- balancing-corrected (1 bit; 06 R159); reset: 0 -/
  bal : Bool := false
  /-- plan it was reported under (3 bits; 06 R153); reset: 0 -/
  ident : Nat := 0
  /-- voltage and current at the neighbour bins of a low-band unit (list; 06 R166); reset: empty -/
  bins : List (Cplx × Cplx) := []
  /-- mean squared current at the neighbour bins (A^2; 06 R166); reset: 0 -/
  ibin : Rat := 0
deriving DecidableEq, Repr

/-- Running estimate of one cell and slot (R166, R167). -/
structure ImpCell where
  /-- units of the interval not excluded (list; 06 R166); reset: empty (log 4) -/
  units : List ImpUnit := []
  /-- excluded units: first sweep, reason 1 timing-degraded, 2 under R139, 3 any other (list; 06 R165, R167); reset: empty (log 4) -/
  excl : List (Nat × Nat) := []
  /-- residual figures of the last 8 intervals (last 8; 06 R166); reset: empty (log 4) -/
  sv2 : List Rat := []
  /-- current noise figures of the last 8 intervals (last 8; 06 R166); reset: empty (log 4) -/
  si2 : List Rat := []
  /-- exponential mean of r (exact; 06 R166); reset: DESIGN CHOICE 0 (log 4) -/
  rMean : Rat := 0
  /-- eligible intervals entered (32 bits; 06 R167); reset: DESIGN CHOICE 0 (log 4) -/
  eligible : Nat := 0
  /-- last estimate (ohm; 06 R166); reset: DESIGN CHOICE 0 (log 4) -/
  z : Cplx := {}
  /-- B of the last estimate (ohm^2; 06 R166); reset: DESIGN CHOICE 0 (log 4) -/
  bound : Rat := 0
  /-- last status code (8 bits; 06 R167); reset: DESIGN CHOICE 0x03 (log 4) -/
  status : Nat := 3
  /-- latest valid estimate (ohm; 06 R171); reset: DESIGN CHOICE 0 (log 4) -/
  okZ : Cplx := {}
  /-- its B (ohm^2; 06 R171); reset: DESIGN CHOICE 0 (log 4) -/
  okBound : Rat := 0
  /-- its efficiency (exact; 06 R171); reset: DESIGN CHOICE 0 (log 4) -/
  okEta : Rat := 0
  /-- its frequency (0.1 Hz; 06 R171); reset: 0 none -/
  okFreq : Nat := 0
deriving DecidableEq, Repr

/-- Equivalent-circuit fit of one cell (R171, R172). -/
structure Fit where
  /-- fit status (3 bits; 06 R172); reset: DESIGN CHOICE 2 (log 4) -/
  status : Nat := 2
  /-- sweep at which the fit ran (32 bits; 06 R172); reset: DESIGN CHOICE 0 (log 4) -/
  sweep : Nat := 0
  /-- R0 (32 bits, nOhm; 06 R172); reset: DESIGN CHOICE 0 (log 4) -/
  r0 : Nat := 0
  /-- sigma(R0) (32 bits, nOhm; 06 R172); reset: DESIGN CHOICE 0 (log 4) -/
  sigmaR0 : Nat := 0
  /-- L (32 bits, pH; 06 R172); reset: DESIGN CHOICE 0 (log 4) -/
  l : Nat := 0
  /-- R1 (32 bits, nOhm; 06 R172); reset: DESIGN CHOICE 0 (log 4) -/
  r1 : Nat := 0
  /-- tau1 (32 bits, us; 06 R172); reset: DESIGN CHOICE 0 (log 4) -/
  tau1 : Nat := 0
  /-- alpha1 (16 bits; 06 R172); reset: DESIGN CHOICE 0 (log 4) -/
  alpha1 : Nat := 0
  /-- reduced chi squared (16 bits; 06 R172); reset: DESIGN CHOICE 0 (log 4) -/
  chi2 : Nat := 0
  /-- R2 (32 bits, nOhm; 06 R172); reset: DESIGN CHOICE 0 (log 4) -/
  r2 : Nat := 0
  /-- tau2 (32 bits, us; 06 R172); reset: DESIGN CHOICE 0 (log 4) -/
  tau2 : Nat := 0
  /-- cell temperature at which it was made (16 bits; 07 R190); reset: DESIGN CHOICE 0 (log 4) -/
  temp : Int := 0
  /-- a fit with status 0 or 1 stands (1 bit; 06 R172); reset: DESIGN CHOICE 0 (log 4) -/
  valid : Bool := false
  /-- R0 of the latest valid fit (32 bits; 06 R173); reset: DESIGN CHOICE 0 (log 4) -/
  validR0 : Nat := 0
  /-- its sigma(R0) (32 bits; 06 R173); reset: DESIGN CHOICE 0 (log 4) -/
  validSigma : Nat := 0
  /-- its sweep (32 bits; 06 R173); reset: DESIGN CHOICE 0 (log 4) -/
  validSweep : Nat := 0
  /-- its R1 (32 bits; 07 R190); reset: DESIGN CHOICE 0 (log 4) -/
  validR1 : Nat := 0
  /-- its tau1 (32 bits; 07 R190); reset: DESIGN CHOICE 0 (log 4) -/
  validTau1 : Nat := 0
  /-- its R2 (32 bits; 07 R190); reset: DESIGN CHOICE 0 (log 4) -/
  validR2 : Nat := 0
  /-- its tau2 (32 bits; 07 R190); reset: DESIGN CHOICE 0 (log 4) -/
  validTau2 : Nat := 0
  /-- cell temperature at which it was made (16 bits; 07 R190); reset: DESIGN CHOICE 0 (log 4) -/
  validTemp : Int := 0
deriving DecidableEq, Repr

/-- What one equilibrium of a cell taught (R175, R177, R178). -/
structure EqPoint where
  /-- sensor temperature (16 bits; 06 R175); reset: 0 -/
  temp : Int := 0
  /-- ln(dR), or R0 in nOhm (exact; 06 R175); reset: 0 -/
  y : Rat := 0
  /-- ln(R1) (exact; 06 R177); reset: 0 -/
  z : Rat := 0
deriving DecidableEq, Repr

/-- A cell's way to equilibrium (R175). -/
structure EqRef where
  /-- sensor temperature at the begin of the hour (16 bits; 06 R175); reset: 0 -/
  temp : Int := 0
  /-- begin of the hour (time; 06 R175); reset: 0 -/
  hourAt : Nat := 0
  /-- begin of the time within 0.5 K/h (time; 06 R175); reset: 0 -/
  since : Nat := 0
deriving DecidableEq, Repr

/-- Temperature coefficients of one cell and SoC band (R175, R177, R214). -/
structure Coef where
  /-- a (32 bits, 1e-6; 07 R214); reset: unlearned -/
  a : Int := 0
  /-- b (32 bits, 0.01 K; 07 R214); reset: default of record 0x0405 until learned -/
  b : Nat := 0
  /-- Arrhenius intercept of R1_ref (32 bits, 1e-6; 07 R214); reset: unlearned -/
  intercept : Int := 0
  /-- Arrhenius slope of R1_ref (32 bits, 0.01 K; 07 R214); reset: unlearned -/
  slope : Nat := 0
  /-- sensor temperature of the first equilibrium (16 bits; 07 R214); reset: none -/
  firstTemp : Int := 0
  /-- a, b, intercept, slope learned (4 bits; 07 R214); reset: none learned (R214) -/
  flags : Nat := 0
  /-- the coldest equilibrium held (1 equilibrium; 06 R175); reset: none -/
  lo : Option EqPoint := none
  /-- the warmest equilibrium held (1 equilibrium; 06 R175); reset: none -/
  hi : Option EqPoint := none
deriving DecidableEq, Repr

/-- R0 baseline of one cell (R178, R214). -/
structure Baseline where
  /-- baseline (32 bits; 07 R214); reset: collecting -/
  r0 : Nat := 0
  /-- temperature coefficient, ppm/K (32 bits; 07 R214); reset: collecting -/
  tempCo : Int := 0
  /-- running median (32 bits; 07 R214); reset: collecting -/
  running : Nat := 0
  /-- days collected (16 bits; 07 R214); reset: collecting -/
  days : Nat := 0
  /-- baseline fixed (1 bit; 07 R214); reset: collecting (R178) -/
  fixed : Bool := false
  /-- begin of the present day of service (time; 07 R214); reset: DESIGN CHOICE 0 (log 4) -/
  dayAt : Nat := 0
  /-- the coldest equilibrium held (1 equilibrium; 06 R178); reset: none -/
  lo : Option EqPoint := none
  /-- the warmest equilibrium held (1 equilibrium; 06 R178); reset: none -/
  hi : Option EqPoint := none
  /-- R0 of the valid fits collected, each with the number of fits it stands for (list; 06 R178); reset: empty (log 4) -/
  samples : List (Nat × Nat) := []
deriving DecidableEq, Repr

/-- A tone plan (R151, R152). -/
structure TonePlan where
  /-- plan identifier (3 bits; 06 R152); reset: 0 -/
  ident : Nat := 0
  /-- tone count (4 bits; 06 R152); reset: 0 -/
  count : Nat := 0
  /-- balancing slots (8 bits; 06 R152); reset: none (0xF, 0xF) -/
  slots : Nat := 255
  /-- excitation amplitude, 10 mA (8 bits; 06 R152); reset: 0 -/
  amplitude : Nat := 0
  /-- frequencies in 0.1 Hz (8 x 32 bits; 06 R152); reset: unused -/
  freqs : List Nat := []
  /-- excitation mask per node (128 x 16 bits; 06 R152); reset: zero -/
  masks : Table Nat := {}
  /-- activation sweep (32 bits; 06 R153); reset: 0 -/
  fromSweep : Nat := 0
deriving DecidableEq, Repr

/-- The last anchor of a cell (R193). -/
structure Anchor where
  /-- anchor type (3 bits; 07 R193); reset: 0 none (R209) -/
  kind : Nat := 0
  /-- combined value (SoC fraction; 07 R193); reset: DESIGN CHOICE 0 (log 4) -/
  value : Rat := 0
  /-- uncertainty sigma_a (SoC fraction; 07 R193); reset: DESIGN CHOICE 0 (log 4) -/
  sigma : Rat := 0
  /-- sweep number (32 bits; 07 R193); reset: DESIGN CHOICE 0 (log 4) -/
  sweep : Nat := 0
  /-- anchor value a (SoC fraction; 07 R202); reset: DESIGN CHOICE 0 (log 4) -/
  a : Rat := 0
  /-- instant (time; 07 R202); reset: DESIGN CHOICE 0 (log 4) -/
  atNs : Nat := 0
deriving DecidableEq, Repr

/-- Charge and health state of one cell (chapter 07). -/
structure CellEst where
  /-- the filter has been started (1 bit; 07 R189); reset: DESIGN CHOICE 0 (log 4) -/
  live : Bool := false
  /-- filter SoC (fraction; 07 R189); reset: DESIGN CHOICE 0 (log 4) -/
  soc : Rat := 0
  /-- first relaxation voltage (V; 07 R189, R215); reset: 0 (R215) -/
  u1 : Rat := 0
  /-- second relaxation voltage (V; 07 R189, R215); reset: 0 (R215) -/
  u2 : Rat := 0
  /-- hysteresis state (-1 to 1; 07 R189, R216); reset: 0 (R216) -/
  h : Rat := 0
  /-- covariance P by rows (4 x 4; 07 R189); reset: DESIGN CHOICE zero (log 4) -/
  cov : List Rat := []
  /-- count since the last anchor (uA s; 07 R188); reset: DESIGN CHOICE 0 (log 4) -/
  count : Int := 0
  /-- count degraded since the anchor (1 bit; 07 R187); reset: DESIGN CHOICE 0 (log 4) -/
  degraded : Bool := false
  /-- sweeps gated (32 bits; 07 R189); reset: DESIGN CHOICE 0 (log 4) -/
  gated : Nat := 0
  /-- prediction only in the last sweep (1 bit; 07 R209); reset: DESIGN CHOICE 1 (log 4) -/
  predOnly : Bool := true
  /-- instant of the last admitted voltage (time; 07 R208); reset: DESIGN CHOICE 0 (log 4) -/
  lastAdmit : Nat := 0
  /-- last anchor (one; 07 R193); reset: none (R209) -/
  anchor : Anchor := {}
  /-- agreement state (2 bits; 07 R198, R216); reset: agree (R216) -/
  agree : AgreeState := .agree
  /-- learning suspended (1 bit; 07 R198); reset: DESIGN CHOICE 0 (log 4) -/
  learnOff : Bool := false
  /-- charge counted in since entry of the state (uA s; 07 R198); reset: DESIGN CHOICE 0 (log 4) -/
  chargedIn : Int := 0
  /-- consecutive sweeps at empty voltage (10 bits; 07 R198); reset: DESIGN CHOICE 0 (log 4) -/
  emptyRun : Nat := 0
  /-- sweeps at or below the rest current (ms; 07 R194); reset: DESIGN CHOICE 0 (log 4) -/
  restRun : Nat := 0
  /-- admitted corrected values of the rest with their sweeps, newest first (last 1000 sweeps; 07 R194); reset: empty (log 4) -/
  restVolts : List (Nat × Int) := []
  /-- latest admitted value since the last Watch filter run, with its sweep (sweep and 24 bits; 07 R217); reset: none (log 4) -/
  watchV : Option (Nat × Int) := none
  /-- count degraded in the last sweep (1 bit; 07 R187, R204); reset: DESIGN CHOICE 0 (log 4) -/
  degNow : Bool := false
  /-- learned capacity (mA s; 07 R216); reset: rated capacity (R216): default of cell in default learned state -/
  q : Rat := 0
  /-- uncertainty of Q (relative; 07 R216); reset: initial uncertainty of record 0x040C (R216) -/
  qSigma : Rat := 0
  /-- instant of the last update (time; 07 R202); reset: DESIGN CHOICE 0 (log 4) -/
  qAt : Nat := 0
  /-- capacity learned at least once (1 bit; 07 R214); reset: no (R216) -/
  learned : Bool := false
  /-- default learned state (1 bit; 07 R216); reset: default learned state (R216) -/
  defaultState : Bool := true
  /-- relative leakage (mA; 07 R216); reset: 0 (R216) -/
  lRel : Rat := 0
  /-- its uncertainty (mA; 07 R205); reset: DESIGN CHOICE 0 (log 4) -/
  sigmaRel : Rat := 0
  /-- relative leakage seven days earlier (mA; 07 R214); reset: 0 (log 4) -/
  lRelOld : Rat := 0
  /-- leakage estimate valid (1 bit; 07 R205, R216); reset: not valid (R216) -/
  leakValid : Bool := false
  /-- samples of the leakage window, newest first: instant, cumulative balancing charge, D_c, S_b, weight (window; 07 R204); reset: empty (log 4) -/
  leakData : List (Nat × Rat × Rat × Rat × Rat) := []
  /-- cumulative balancing charge at the instants of the leakage window, newest first (window; 07 R204); reset: empty (log 4) -/
  balHist : List (Nat × Rat) := []
  /-- relative leakage of the last 7 days with its instants, newest first (7 d; 07 R206); reset: empty (log 4) -/
  lHist : List (Nat × Rat) := []
  /-- cumulative balancing charge (mA s; 07 R204, 09 R262); reset: 0 since start (R262) -/
  balCharge : Rat := 0
  /-- precursor level (2 bits; 07 R206); reset: 0 none (log 4) -/
  precursor : Nat := 0
  /-- instant from which its condition is absent (time; 07 R206); reset: none (log 4) -/
  precursorClear : Option Nat := none
  /-- equivalent full cycles (cycles; 07 R216); reset: 0 (R216) -/
  efc : Rat := 0
  /-- fade-and-leakage check open (1 bit; 07 R200); reset: no (log 4) -/
  checkOpen : Bool := false
  /-- instant it opened (time; 07 R200); reset: DESIGN CHOICE 0 (log 4) -/
  checkAt : Nat := 0
  /-- Q when it opened (mA s; 07 R200); reset: DESIGN CHOICE 0 (log 4) -/
  checkQ : Rat := 0
  /-- relative leakage when it opened (mA; 07 R200); reset: DESIGN CHOICE 0 (log 4) -/
  checkL : Rat := 0
  /-- cell current of the last sweep (mA; 07 R186); reset: DESIGN CHOICE 0 (log 4) -/
  current : Rat := 0
  /-- cell currents of the last 60 000 sweeps, newest first (60 s of sweeps, mA; 07 R185); reset: empty (log 4) -/
  rateHist : List Rat := []
  /-- their sum (mA; 07 R185); reset: 0 (log 4) -/
  rateSum : Rat := 0
  /-- count-empty, or a reset or Off, since the last anchor (1 bit; 07 R198, R201); reset: DESIGN CHOICE 0 (log 4) -/
  broken : Bool := false
deriving DecidableEq, Repr

/-- A taper window of one branch (R195 to R197). -/
structure TaperWin where
  /-- sweeps the window has held (ms; 07 R195); reset: DESIGN CHOICE 0 (log 4) -/
  run : Nat := 0
  /-- sweeps its conditions have lapsed (ms; 07 R197); reset: DESIGN CHOICE 60 s, free to begin (log 4) -/
  lapse : Nat := 60000
  /-- completed and not yet lapsed (1 bit; 07 R197); reset: DESIGN CHOICE 0 (log 4) -/
  done : Bool := false
  /-- sum of IB in the window (mA; 07 R196); reset: DESIGN CHOICE 0 (log 4) -/
  sumI : Int := 0
deriving DecidableEq, Repr

/-- Limits at the five horizons (R221). -/
structure Lim5 where
  /-- limits (5 x 32 bits; 08 R221); reset: zeros (R229) -/
  vals : List Int := []
  /-- cause codes (5 octets; 08 R230); reset: zeros -/
  causes : List Nat := []
  /-- binding cells (5 cells; 08 R226); reset: zeros -/
  cells : List Nat := []
deriving DecidableEq, Repr

/-- Discharge and charge limits of a branch or string (R221, R232). -/
structure LimSet where
  /-- discharge current (5 x 32 bits; 08 R221); reset: 0 (R229) -/
  dis : Lim5 := {}
  /-- charge current (5 x 32 bits; 08 R221); reset: 0 (R229) -/
  chg : Lim5 := {}
  /-- discharge power (5 x 32 bits; 08 R228); reset: 0 (R229) -/
  disW : Lim5 := {}
  /-- charge power (5 x 32 bits; 08 R228); reset: 0 (R229) -/
  chgW : Lim5 := {}
  /-- last sweep of the set (32 bits; 08 R232); reset: DESIGN CHOICE 0 (log 4) -/
  sweep : Nat := 0
deriving DecidableEq, Repr

/-- A cell's part in the balancing plan (R245, R246). -/
structure PlanCell where
  /-- deviation (fraction; 09 R244); reset: DESIGN CHOICE 0 (log 4) -/
  dev : Rat := 0
  /-- active (1 bit; 09 R245); reset: DESIGN CHOICE 0 (log 4) -/
  active : Bool := false
  /-- reason code (4 bits; 09 R246); reset: 0 participating -/
  reason : Nat := 0
  /-- carries a learning current (1 bit; 09 R252); reset: DESIGN CHOICE 0 (log 4) -/
  learning : Bool := false
  /-- demand (mW; 09 R245); reset: DESIGN CHOICE 0 (log 4) -/
  demand : Rat := 0
  /-- sign of the next learning current (1 bit; 09 R252); reset: DESIGN CHOICE positive first (log 4) -/
  signNeg : Bool := false
  /-- blocked by the tap rule (1 bit; 09 R251); reset: DESIGN CHOICE 0 (log 4) -/
  blocked : Bool := false
deriving DecidableEq, Repr

/-- A temperature channel (R264 to R274). -/
structure TempChan where
  /-- last value (16 bits, 0.01 K; 10 R267); reset: DESIGN CHOICE 0 (log 4) -/
  value : Int := 0
  /-- quality (8 bits; 10 R268); reset: missing without a value (R268) -/
  quality : BitVec 8 := 4#8
  /-- values since the previous evaluation (list; 10 R267); reset: empty (log 4) -/
  acc : List Int := []
  /-- accepted values of the last 2 s with their instants (2 s; 10 R268); reset: empty (log 4) -/
  hist : List (Nat × Int) := []
  /-- slope (16 bits, 0.001 K/s; 10 R268); reset: DESIGN CHOICE 0 (log 4) -/
  slope : Int := 0
  /-- rate class (2 bits; 10 R267); reset: 0 (log 4) -/
  rateClass : Nat := 0
  /-- instant from which the slope is below half the fast rate (time; 10 R267); reset: none (log 4) -/
  slowSince : Option Nat := none
  /-- the report it came in held a node alarm in its last sweep (log 109) (1 bit; 05 R134); reset: no (log 4) -/
  alarmed : Bool := false
  /-- instant of the last new value (time; 10 R268); reset: DESIGN CHOICE 0 (log 4) -/
  lastNew : Nat := 0
  /-- sensor state (2 bits; 10 R269); reset: DESIGN CHOICE healthy (log 4) -/
  sensor : SensorState := .healthy
  /-- the sensor's own last value, under a substitute too (16 bits, 0.01 K; 10 R267, R270); reset: DESIGN CHOICE 0 (log 4) -/
  raw : Int := 0
  /-- its quality (8 bits; 10 R268, R270); reset: missing without a value (R268) -/
  rawQ : BitVec 8 := 4#8
  /-- disagreement found by the last check: 1 hot spot, 2 both, 3 no internal temperature, 4 internal only, 5 suspect and internal (3 bits; 10 R269); reset: 0 (log 4) -/
  caseCode : Nat := 0
  /-- seconds that disagreement has lasted (s; 10 R269); reset: DESIGN CHOICE 0 (log 4) -/
  caseRun : Nat := 0
  /-- seconds it has agreed: with the median while suspect, with both references while broken (s; 10 R269); reset: DESIGN CHOICE 0 (log 4) -/
  agreeRun : Nat := 0
  /-- seconds out of range unconfirmed (s; 10 R269); reset: DESIGN CHOICE 0 (log 4) -/
  rangeRun : Nat := 0
  /-- entries to broken in the last 30 days (list of times; 10 R269); reset: empty (log 4) -/
  brokenAt : List Nat := []
  /-- learned offset (0.01 K; 10 R270); reset: 0 after a reset (R270) -/
  learnedOff : Rat := 0
  /-- last neighbour median (16 bits; 10 R269); reset: none (log 4) -/
  median : Option Int := none
  /-- source of the value (2 bits; 10 R285); reset: 0 sensor -/
  source : Nat := 0
  /-- level state (2 bits; 10 R273); reset: DESIGN CHOICE normal (log 4) -/
  level : LevelState := .normal
  /-- channel factor (0 to 1; 10 R274); reset: 1 -/
  factor : Rat := 1
  /-- consecutive evaluations above the rise limit (7 bits; 10 R271); reset: DESIGN CHOICE 0 (log 4) -/
  riseRun : Nat := 0
  /-- consecutive evaluations at or below it (7 bits; 10 R271); reset: DESIGN CHOICE 0 (log 4) -/
  calmRun : Nat := 0
  /-- thermal rise reported (1 bit; 10 R271); reset: DESIGN CHOICE 0 (log 4) -/
  rise : Bool := false
deriving DecidableEq, Repr

/-- A coolant valve drive (R277 to R281). -/
structure Valve where
  /-- phase accumulator (32 bits; 10 R277); reset: DESIGN CHOICE 0 (log 4) -/
  acc : Nat := 0
  /-- velocity word (32 bits; 10 R277); reset: DESIGN CHOICE 0 (log 4) -/
  vel : Nat := 0
  /-- direction bit (1 bit; 10 R277); reset: DESIGN CHOICE opening (log 4) -/
  opening : Bool := true
  /-- position in microsteps (32 bits; 10 R277); reset: DESIGN CHOICE 0 (log 3) -/
  pos : Int := 0
  /-- phase index (8 bits; 10 R277); reset: DESIGN CHOICE 0 (log 3) -/
  phase : Nat := 0
  /-- target (32 bits; 10 R278); reset: DESIGN CHOICE 0 (log 4) -/
  target : Int := 0
  /-- move in progress (1 bit; 10 R278); reset: DESIGN CHOICE 0 (log 4) -/
  moving : Bool := false
  /-- 0 off, 1 hold current, 2 run current (2 bits; 10 R278); reset: 0 de-energised (R282) -/
  energy : Nat := 0
  /-- end of the hold time (time; 10 R278); reset: none (log 4) -/
  holdUntil : Option Nat := none
  /-- position uncertain (1 bit; 10 R280); reset: DESIGN CHOICE 0 (log 4) -/
  uncertain : Bool := false
  /-- valve fault (1 bit; 10 R279); reset: DESIGN CHOICE 0 (log 4) -/
  fault : Bool := false
  /-- homed at least once (1 bit; 10 R280); reset: DESIGN CHOICE 0 (log 4) -/
  homed : Bool := false
  /-- homing run (1 bit; 10 R281); reset: DESIGN CHOICE 0 (log 4) -/
  homing : Bool := false
  /-- travel of the homing run (microsteps; 10 R281); reset: DESIGN CHOICE 0 (log 4) -/
  homeTravel : Nat := 0
  /-- stalls within the move (2 bits; 10 R279); reset: DESIGN CHOICE 0 (log 4) -/
  stalls : Nat := 0
  /-- consecutive ms that show a stall (3 bits, 0 to 8 ms; 10 R279); reset: none (log 4) -/
  stallRun : Nat := 0
  /-- instant of the retry (time; 10 R279); reset: none (log 4) -/
  retryAt : Option Nat := none
  /-- retry at half the maximum velocity (1 bit; 10 R279); reset: DESIGN CHOICE 0 (log 4) -/
  halfSpeed : Bool := false
  /-- load angle (16 bits, 0.1 deg; 10 R286); reset: DESIGN CHOICE 0 (log 4) -/
  loadAngle : Nat := 0
  /-- a home valve command awaits its final response (1 bit; 17 R436); reset: DESIGN CHOICE 0 (log 4) -/
  homeCmd : Bool := false
  /-- homing recorded as deferred (1 bit; 10 R281); reset: DESIGN CHOICE 0 (log 4) -/
  homeDeferred : Bool := false
deriving DecidableEq, Repr

/-- A coolant loop (R275, R282, R283). -/
structure Loop where
  /-- integral I (%; 10 R282); reset: DESIGN CHOICE 0 (log 4) -/
  integ : Rat := 0
  /-- output u (%; 10 R282); reset: DESIGN CHOICE 0 (log 4) -/
  u : Rat := 0
  /-- 95th percentile temperature (16 bits; 10 R282); reset: none (log 4) -/
  tc : Option Int := none
  /-- the last output was clamped (1 bit; 10 R282); reset: DESIGN CHOICE 0 (log 4) -/
  clamped : Bool := false
  /-- chiller supply set-point (16 bits; 10 R283); reset: maximum of record 0x0606 at start: DESIGN CHOICE (log 31) -/
  chiller : Int := 0
  /-- seconds u stands at 90 % or more (s; 10 R283); reset: DESIGN CHOICE 0 (log 4) -/
  highRun : Nat := 0
  /-- seconds u stands at 30 % or less (s; 10 R283); reset: DESIGN CHOICE 0 (log 4) -/
  lowRun : Nat := 0
  /-- instant of the last change (time; 10 R283); reset: none (log 4) -/
  changeAt : Option Nat := none
  /-- instant from which valves or equipment are out (time; 10 R275); reset: none (log 4) -/
  outSince : Option Nat := none
  /-- loop input lost (1 bit; 10 R282); reset: DESIGN CHOICE 0 (log 4) -/
  inputLost : Bool := false
  /-- cooling lost (1 bit; 10 R275); reset: DESIGN CHOICE 0 (log 4) -/
  lost : Bool := false
deriving DecidableEq, Repr

/-- One protection function on one branch or the string (R288 to R310). -/
structure Fn where
  /-- function code (8 bits; 11 R292); reset: 0 -/
  code : Nat := 0
  /-- branch 0 to 3, 4 string (3 bits; 11 R290); reset: string -/
  group : Nat := 4
  /-- action (2 bits; 11 R288); reset: none -/
  action : Action := .none
  /-- condition present (1 bit; 11 R313); reset: absent (log 4) -/
  condition : Bool := false
  /-- latched, awaiting R309 (1 bit; 11 R309); reset: no (log 3) -/
  latched : Bool := false
  /-- demands its action (1 bit; 11 R290); reset: no (log 4) -/
  demanding : Bool := false
  /-- consecutive evaluations with the condition absent (7 bits; 11 R309, R310); reset: 0 (R310) -/
  absent : Nat := 0
  /-- instant from which the condition is absent (time; 11 R310); reset: none (R310) -/
  absentSince : Option Nat := none
  /-- first evaluation meeting the condition (time; 11 R292); reset: none (log 4) -/
  delaySince : Option Nat := none
  /-- instant of the decision (time; 11 R313); reset: DESIGN CHOICE 0 (log 4) -/
  decidedAt : Nat := 0
  /-- subject of the decision (32 bits; 22 R531); reset: DESIGN CHOICE 0 (log 4) -/
  subject : Nat := 0
  /-- deciding value (32 bits; 11 R291); reset: 0 -/
  value : Int := 0
  /-- cells named by the alarm or condition (list; 11 R297); reset: empty (log 4) -/
  cells : List Nat := []
deriving DecidableEq, Repr

/-- A class C disconnect waiting for the current (R289). -/
structure OpenWait where
  /-- branch, or 4 the string (3 bits; 11 R289); reset: string -/
  group : Nat := 4
  /-- begin of the hold (time; 11 R289); reset: 0 -/
  since : Nat := 0
  /-- first complete sweep that counts (32 bits; 11 R289); reset: 0 -/
  sinceSweep : Nat := 0
deriving DecidableEq, Repr

/-- One coil output with its mirror contact (R315 to R320). -/
structure Coil where
  /-- off, pull-in, hold or waiting (2 bits; 12 R315); reset: off (R463) -/
  phase : CoilPhase := .off
  /-- instant of the request (time; 12 R316); reset: DESIGN CHOICE 0 (log 4) -/
  requestedAt : Nat := 0
  /-- instant of the command (time; 12 R320); reset: DESIGN CHOICE 0 (log 4) -/
  commandAt : Nat := 0
  /-- begin of the pull-in in progress (time; 12 R315, 14 R358); reset: DESIGN CHOICE 0 (log 4) -/
  pullAt : Nat := 0
  /-- waits for the coil supply (1 bit; 12 R317); reset: DESIGN CHOICE 0 (log 4) -/
  supplyWait : Bool := false
  /-- own series trip switch closed (1 bit; 14 R357); reset: open while unpowered (R357) -/
  tripClosed : Bool := false
  /-- consecutive sweeps in the state as read (5 bits, 0 to 20; 12 R319); reset: none (log 4) -/
  mirrorRun : Nat := 0
  /-- mirror contact as read (1 bit; 12 R319); reset: DESIGN CHOICE closed: contactor open (log 3) -/
  mirrorClosed : Bool := true
  /-- accepted mirror state (2 bits; 12 R319, R322); reset: not yet accepted (R322) -/
  accepted : Option Bool := none
  /-- confirmed in the commanded state since the command (1 bit; 12 R321); reset: DESIGN CHOICE 0 (log 4) -/
  confirmed : Bool := false
  /-- coil current (8 bits of 20 mA; 12 R334); reset: DESIGN CHOICE 0 (log 4) -/
  currentMa : Nat := 0
  /-- bits 0x20, 0x21, 0x22, 0x23 (4 bits; 12 R334); reset: DESIGN CHOICE 0 (log 4) -/
  failed : Nat := 0
  /-- last driver test passed (1 bit; 13 R345); reset: DESIGN CHOICE passed (log 4) -/
  driverPass : Bool := true
  /-- last trip switch test passed (1 bit; 13 R345); reset: DESIGN CHOICE passed (log 4) -/
  tripPass : Bool := true
  /-- last cross-hold test passed (1 bit; 14 R369); reset: DESIGN CHOICE passed (log 4) -/
  xhPass : Bool := true
deriving DecidableEq, Repr

/-- A safety input (R336 to R340). -/
structure SafeIn where
  /-- in demand (1 bit; 13 R337); reset: DESIGN CHOICE 0 (log 4) -/
  demand : Bool := false
  /-- fault code (2 bits; 13 R339); reset: 0 none -/
  fault : Nat := 0
  /-- consecutive pulses read high throughout (2 bits; 13 R339); reset: DESIGN CHOICE 0 (log 4) -/
  missRun : Nat := 0
  /-- consecutive expected pulses seen (4 bits; 13 R340); reset: DESIGN CHOICE 0 (log 4) -/
  goodPulses : Nat := 0
  /-- instant from which it is in permit (time; 13 R340); reset: none (log 4) -/
  permitSince : Option Nat := none
  /-- both channels of its pair have been in demand together (1 bit; 13 R340); reset: DESIGN CHOICE 0 (log 4) -/
  bothDemand : Bool := false
  /-- a demand or fault has begun and its function has not reset since (1 bit; 13 R340); reset: DESIGN CHOICE 0 (log 4) -/
  episode : Bool := false
  /-- instant from which the pair disagrees (time; 13 R339); reset: none (log 4) -/
  disSince : Option Nat := none
deriving DecidableEq, Repr

/-- A safe output (R341 to R344). -/
structure SafeOut where
  /-- energised (1 bit; 13 R341); reset: de-energised (R463) -/
  energised : Bool := false
  /-- function 0x32 on this output (1 bit; 13 R344); reset: DESIGN CHOICE 0 (log 4) -/
  fault : Bool := false
  /-- bits: A failed, B failed (2 bits; 13 R344); reset: none -/
  failedSwitch : Nat := 0
  /-- switches that passed a test after the failure (2 bits; 13 R344); reset: none -/
  passedSince : Nat := 0
  /-- 0 none, 1 dark, 2 bright test in progress (2 bits; 13 R342); reset: none -/
  testing : Nat := 0
  /-- instant at which an interrupted test runs again (time; 13 R343); reset: none (log 4) -/
  rerunAt : Option Nat := none
  /-- an interrupted test is to run again (1 bit; 13 R343); reset: DESIGN CHOICE 0 (log 4) -/
  rerunWait : Bool := false
  /-- the interrupted test is the dark test (1 bit; 13 R343); reset: DESIGN CHOICE 0 (log 4) -/
  rerunDark : Bool := false
deriving DecidableEq, Repr

/-- An entry of the safety change log (R352). -/
structure LogEntry where
  /-- entry sequence (32 bits; 13 R352); reset: 0 -/
  seq : Nat := 0
  /-- time (48 bits; 13 R352); reset: 0 -/
  time : Nat := 0
  /-- operation (8 bits; 13 R352); reset: 0 -/
  op : Nat := 0
  /-- result (8 bits; 13 R352); reset: 0 -/
  result : Nat := 0
  /-- port (8 bits; 13 R352); reset: 0 -/
  port : Nat := 0
  /-- safety counter as offered (32 bits; 13 R352); reset: 0 -/
  counter : Nat := 0
  /-- safety hash before (64 bits; 13 R352); reset: 0 -/
  before : Nat := 0
  /-- safety hash after (64 bits; 13 R352); reset: 0 -/
  after : Nat := 0
deriving DecidableEq, Repr

/-- A heartbeat path (R359, R360). -/
structure HbPath where
  /-- path lost (1 bit; 14 R360); reset: DESIGN CHOICE lost until heard (log 4) -/
  lost : Bool := true
  /-- consecutive missed heartbeats (8 bits; 14 R360); reset: DESIGN CHOICE 0 (log 4) -/
  missed : Nat := 0
  /-- consecutive received heartbeats (8 bits; 14 R360); reset: DESIGN CHOICE 0 (log 4) -/
  received : Nat := 0
deriving DecidableEq, Repr

/-- The latest status of one string at the plant master (R384, R385). -/
structure StringStat where
  /-- receipt (time; 15 R385); reset: DESIGN CHOICE 0 (log 4) -/
  at_ : Nat := 0
  /-- flags (8 bits; 15 R384); reset: 0 -/
  flags : Nat := 0
  /-- string state code (8 bits; 15 R384); reset: 0 -/
  strState : Nat := 0
  /-- string action code (8 bits; 15 R384); reset: 0 -/
  action : Nat := 0
  /-- branch action octet (8 bits; 15 R400); reset: 0 -/
  branchActions : Nat := 0
  /-- time state byte of the header (8 bits; 15 R380); reset: 0 -/
  timeState : Nat := 0
  /-- decimation in force (8 bits; 15 R384); reset: 0 -/
  decimation : Nat := 0
  /-- applied set-point (32 bits, W; 15 R384); reset: 0 -/
  applied : Int := 0
  /-- applied cycle (32 bits; 15 R384); reset: 0 -/
  appliedCycle : Nat := 0
  /-- carrier frequency (32 bits, mHz; 15 R384); reset: 0 -/
  carrier : Nat := 0
  /-- sweep of its limit record (32 bits; 15 R385); reset: 0 -/
  limitSweep : Nat := 0
  /-- discharge dispatch power limits (5 x 32 bits; 15 R386); reset: 0 -/
  disW : List Int := []
  /-- charge dispatch power limits (5 x 32 bits; 15 R386); reset: 0 -/
  chgW : List Int := []
  /-- available charge (64 bits; 15 R386); reset: 0 -/
  charge : Int := 0
  /-- headroom (64 bits; 15 R386); reset: 0 -/
  headroom : Int := 0
deriving DecidableEq, Repr

/-- A client session with its bucket (R390, R391, R397, R429, R434). -/
structure Client where
  /-- current session number (32 bits; 15 R390); reset: 0 no session -/
  session : Nat := 0
  /-- last sequence accepted (32 bits; 15 R391); reset: 0: the first sequence is 1 (R391) -/
  lastSeq : Nat := 0
  /-- stored response (octets; 15 R391); reset: none -/
  stored : List Nat := []
  /-- frame type of the stored response (8 bits; 17 R429); reset: DESIGN CHOICE 9 command response (log 4) -/
  storedType : Nat := 9
  /-- tokens in the bucket (tokens; 15 R397); reset: DESIGN CHOICE 0 until first filled (log 32) -/
  tokens : Rat := 0
  /-- instant the bucket was last filled (time; 15 R397); reset: none (log 32) -/
  filledAt : Option Nat := none
  /-- bucket of the BUSY answers (tokens; 15 R397); reset: DESIGN CHOICE 0 (log 32) -/
  busyTokens : Rat := 0
  /-- instant that bucket was last filled (time; 15 R397); reset: none (log 32) -/
  busyAt : Option Nat := none
  /-- lower sequences ignored (32 bits; 15 R391); reset: 0 -/
  lower : Nat := 0
  /-- frames discarded without a response (32 bits; 15 R397); reset: 0 -/
  dropped : Nat := 0
deriving DecidableEq, Repr

/-- An operation in flight at the plant master (R394, R395). -/
structure Operation where
  /-- operation identifier (32 bits; 15 R395); reset: 0 -/
  ident : Nat := 0
  /-- string index (7 bits; 15 R394); reset: 0 -/
  string : Nat := 0
  /-- request type (8 bits; 15 R392); reset: 0 -/
  kind : Nat := 0
  /-- branch (8 bits; 15 R392); reset: 0 -/
  branch : Nat := 0
  /-- start deadline (32 bits; 15 R395); reset: 0 -/
  deadline : Nat := 0
  /-- client entry (3 bits; 15 R396); reset: 0 -/
  client : Nat := 0
  /-- session of the request (32 bits; 15 R406); reset: 0 -/
  session : Nat := 0
  /-- request body (16 octets; 15 R395); reset: empty -/
  body : List Nat := []
  /-- receipt (time; 15 R396); reset: 0 -/
  receivedAt : Nat := 0
  /-- last sending of its frame (time; 15 R395); reset: 0 -/
  sentAt : Nat := 0
deriving DecidableEq, Repr

/-- Stream ingest of one string (R399). -/
structure Stream where
  /-- bucket (octets; 15 R399); reset: DESIGN CHOICE 0 until first filled (log 32) -/
  tokens : Rat := 0
  /-- instant last filled (time; 15 R399); reset: none (log 32) -/
  filledAt : Option Nat := none
  /-- log2 D (3 bits; 15 R399); reset: 0: D = 1 -/
  decim : Nat := 0
  /-- last discard or halving (time; 15 R399); reset: DESIGN CHOICE 0 (log 4) -/
  lastDiscard : Nat := 0
  /-- a discard since the last allocation: D doubles in the next multicast (1 bit; 15 R399); reset: no -/
  pend : Bool := false
  /-- kept sweeps: sweep, cell, value (10 s; 15 R400); reset: empty -/
  kept : List (Nat × Nat × Int) := []
deriving DecidableEq, Repr

/-- A plant set-point request waiting for its cycle (R387). -/
structure SpRequest where
  /-- client entry (3 bits; 15 R387); reset: 0 -/
  client : Nat := 0
  /-- session of the request (32 bits; 15 R391); reset: 0 -/
  session : Nat := 0
  /-- receipt (time; 15 R387); reset: 0 -/
  at_ : Nat := 0
  /-- target (32 bits, W; 15 R387); reset: 0 -/
  target : Int := 0
  /-- ramp rate (32 bits, W/s; 15 R387); reset: 0 -/
  ramp : Nat := 0
  /-- lifetime (16 bits, ms; 15 R387); reset: 0 -/
  life : Nat := 0
  /-- horizon (8 bits; 15 R387); reset: 0 -/
  horizon : Nat := 0
deriving DecidableEq, Repr

/-- The content of a master handover frame (R405). -/
structure Handover where
  /-- new master epoch (32 bits; 15 R405); reset: 0 -/
  epoch : Nat := 0
  /-- handover cycle sweep (32 bits; 15 R405); reset: 0 -/
  cycle : Nat := 0
  /-- plant target (32 bits, W; 15 R405); reset: 0 -/
  target : Int := 0
  /-- set-point in force (32 bits, W; 15 R405); reset: 0 -/
  inForce : Int := 0
  /-- ramp rate (32 bits, W/s; 15 R405); reset: 0 -/
  ramp : Nat := 0
  /-- remaining lifetime (16 bits, ms; 15 R405); reset: 0 -/
  life : Nat := 0
  /-- horizon (3 bits; 15 R405); reset: 0 -/
  horizon : Nat := 0
  /-- excluded strings (128 bits; 15 R405); reset: none -/
  excluded : List Nat := []
deriving DecidableEq, Repr

/-- The converter as last reported (R415, R416). -/
structure ConvStatus where
  /-- ready (1 bit; 16 R415); reset: DESIGN CHOICE not ready (log 4) -/
  ready : Bool := false
  /-- running (1 bit; 16 R415); reset: DESIGN CHOICE 0 (log 4) -/
  running : Bool := false
  /-- accepting tones (1 bit; 16 R415); reset: DESIGN CHOICE 0 (log 4) -/
  accepting : Bool := false
  /-- carrier locked to sync (1 bit; 16 R415); reset: DESIGN CHOICE 0 (log 4) -/
  locked : Bool := false
  /-- held by stop-request (1 bit; 16 R415); reset: DESIGN CHOICE 0 (log 4) -/
  held : Bool := false
  /-- converter fault (1 bit; 16 R415); reset: DESIGN CHOICE 0 (log 4) -/
  fault : Bool := false
  /-- tones active (8 bits; 16 R415); reset: DESIGN CHOICE 0 (log 4) -/
  tones : Nat := 0
  /-- carrier frequency (32 bits, mHz; 16 R415); reset: DESIGN CHOICE 0 (log 4) -/
  carrier : Nat := 0
  /-- DC current, telemetry only (32 bits, mA; 16 R415); reset: DESIGN CHOICE 0 (log 4) -/
  current : Int := 0
  /-- DC voltage, telemetry only (32 bits, mV; 16 R415); reset: DESIGN CHOICE 0 (log 4) -/
  voltage : Int := 0
  /-- discharge current rating (32 bits, mA; 16 R415); reset: DESIGN CHOICE 0 (log 4) -/
  disA : Int := 0
  /-- charge current rating (32 bits, mA; 16 R415); reset: DESIGN CHOICE 0 (log 4) -/
  chgA : Int := 0
  /-- discharge power rating (32 bits, W; 16 R415); reset: DESIGN CHOICE 0 (log 4) -/
  disW : Int := 0
  /-- charge power rating (32 bits, W; 16 R415); reset: DESIGN CHOICE 0 (log 4) -/
  chgW : Int := 0
  /-- converter fault code (16 bits; 16 R415); reset: DESIGN CHOICE 0 (log 4) -/
  faultCode : Nat := 0
  /-- leadership epoch obeyed (32 bits; 16 R415); reset: DESIGN CHOICE 0 (log 4) -/
  epoch : Nat := 0
deriving DecidableEq, Repr

/-- A plant port (R423). -/
structure Port where
  /-- link up (1 bit; 17 R423); reset: DESIGN CHOICE 0 (log 3) -/
  up : Bool := false
  /-- frames received (32 bits, wraps; 17 R423); reset: DESIGN CHOICE 0 (log 4) -/
  received : Nat := 0
  /-- frames sent (32 bits, wraps; 17 R423); reset: DESIGN CHOICE 0 (log 4) -/
  sent : Nat := 0
  /-- duplicates discarded (32 bits, wraps; 17 R423); reset: DESIGN CHOICE 0 (log 4) -/
  duplicates : Nat := 0
  /-- wrong-LAN frames (32 bits, wraps; 17 R423); reset: DESIGN CHOICE 0 (log 4) -/
  wrongLan : Nat := 0
  /-- errored frames (32 bits, wraps; 17 R423); reset: DESIGN CHOICE 0 (log 4) -/
  errored : Nat := 0
  /-- frames discarded under R425 (32 bits, wraps; 17 R425); reset: DESIGN CHOICE 0 (log 4) -/
  discarded : Nat := 0
deriving DecidableEq, Repr

/-- A subscription selector (R431). -/
structure Selector where
  /-- base identifier (32 bits; 17 R431); reset: 0 -/
  base : Nat := 0
  /-- last instance (16 bits; 17 R431); reset: 0 -/
  last : Nat := 0
  /-- log2 D_sel (3 bits; 17 R431); reset: 0 -/
  decim : Nat := 0
  /-- include change-driven publications (1 bit; 17 R431); reset: 0 -/
  change : Bool := false
deriving DecidableEq, Repr

/-- A telemetry session (R429 to R435). -/
structure TeleSession where
  /-- session number, sequence and request bucket (one; 17 R429); reset: none -/
  client : Client := {}
  /-- destination port (16 bits; 17 R431); reset: 0 -/
  port : Nat := 0
  /-- subscriptions (64; 17 R431); reset: empty -/
  selectors : List Selector := []
  /-- data bucket (octets; 17 R434); reset: DESIGN CHOICE 0 until first filled (log 32) -/
  octets : Rat := 0
  /-- instant last filled (time; 17 R434); reset: none (log 32) -/
  octetsAt : Option Nat := none
  /-- log2 S (3 bits; 17 R434); reset: 0: S = 1 -/
  shed : Nat := 0
  /-- last drop or halving (time; 17 R434); reset: DESIGN CHOICE 0 (log 4) -/
  lastDrop : Nat := 0
  /-- data octets since then (octets; 17 R434); reset: DESIGN CHOICE 0 (log 4) -/
  sent10 : Nat := 0
  /-- frames dropped since the last data frame (32 bits; 17 R432); reset: 0 -/
  dropped : Nat := 0
  /-- command in flight: code, sequence (one; 17 R435); reset: none -/
  inFlight : Option (Nat × Nat) := none
deriving DecidableEq, Repr

/-- A published GOOSE dataset (R439, R440). -/
structure GooseSet where
  /-- stNum (32 bits; 17 R440); reset: DESIGN CHOICE 0 (log 4) -/
  stNum : Nat := 0
  /-- sqNum (32 bits; 17 R440); reset: DESIGN CHOICE 0 (log 4) -/
  sqNum : Nat := 0
  /-- interval to the next repetition (ms; 17 R440); reset: DESIGN CHOICE 0 (log 4) -/
  interval : Nat := 0
  /-- next repetition (time; 17 R440); reset: none (log 4) -/
  nextAt : Option Nat := none
  /-- last published members (members; 17 R439); reset: none (log 4) -/
  members : List Int := []
deriving DecidableEq, Repr

/-- A GOOSE subscription (R441, R442). -/
structure GooseSub where
  /-- last accepted stNum (32 bits; 17 R441); reset: none (log 4) -/
  stNum : Option Nat := none
  /-- expiry of timeAllowedToLive (time; 17 R441); reset: none (log 4) -/
  until_ : Option Nat := none
  /-- silent (1 bit; 17 R441); reset: DESIGN CHOICE 0 (log 4) -/
  silent : Bool := false
  /-- member of the last accepted frame (1 bit; 17 R442); reset: DESIGN CHOICE 0 (log 4) -/
  value : Bool := false
  /-- frames counted and ignored (32 bits; 17 R441); reset: DESIGN CHOICE 0 (log 4) -/
  rejected : Nat := 0
deriving DecidableEq, Repr

/-- A CAN transmit object on one channel (R451, R456). -/
structure TxObj where
  /-- frame pending (1 bit; 18 R451); reset: DESIGN CHOICE 0 (log 4) -/
  pending : Bool := false
  /-- alive counter (8 bits; 18 R448); reset: DESIGN CHOICE 0 (log 4) -/
  alive : Nat := 0
  /-- consecutive post-arbitration bit errors (4 bits; 18 R456); reset: DESIGN CHOICE 0 (log 4) -/
  conflict : Nat := 0
  /-- identifier conflict declared (1 bit; 18 R456); reset: DESIGN CHOICE 0 (log 4) -/
  withdrawn : Bool := false
  /-- content last sent, alive counter left out (8 octets; 18 R451); reset: none (log 4) -/
  last : List Nat := []
deriving DecidableEq, Repr

/-- A CAN receive object on one channel (R450). -/
structure RxObj where
  /-- data (8 octets; 18 R450); reset: empty (log 4) -/
  data : List Nat := []
  /-- receive time (time; 18 R450); reset: none (log 4) -/
  at_ : Option Nat := none
  /-- lost flag (1 bit; 18 R450); reset: DESIGN CHOICE 0 (log 4) -/
  lost : Bool := false
  /-- its alive counter differed from the one before (1 bit; 18 R449); reset: DESIGN CHOICE 0 (log 4) -/
  fresh : Bool := false
  /-- not read since it arrived (1 bit; 18 R450); reset: DESIGN CHOICE 0 (log 4) -/
  unread : Bool := false
deriving DecidableEq, Repr

/-- A CAN channel (R453 to R459). -/
structure CanChan where
  /-- confinement state (3 bits; 18 R459); reset: DESIGN CHOICE disabled before a configuration (log 4) -/
  state : CanState := .disabled
  /-- transmit error counter (8 bits; 18 R454); reset: DESIGN CHOICE 0 (log 4) -/
  tec : Nat := 0
  /-- receive error counter (8 bits; 18 R454); reset: DESIGN CHOICE 0 (log 4) -/
  recv : Nat := 0
  /-- bus-offs of the last 60 s (list of times; 18 R455); reset: empty (log 4) -/
  busOffs : List Nat := []
  /-- bus load of the last window (16 bits, 0.1 %; 18 R453); reset: DESIGN CHOICE 0 (log 4) -/
  load : Nat := 0
  /-- consecutive windows above 70 % (4 bits; 18 R453); reset: DESIGN CHOICE 0 (log 4) -/
  loadRun : Nat := 0
  /-- consecutive windows at or below 70 % (4 bits; 18 R453); reset: DESIGN CHOICE 0 (log 4) -/
  calmRun : Nat := 0
  /-- object in arbitration or transmission, with the content it took (object and 8 octets; 18 R451, R452); reset: no frame pending (log 4) -/
  arb : Option (Nat × List Nat) := none
  /-- termination switched on (1 bit; 18 R446); reset: DESIGN CHOICE off before a configuration (log 4) -/
  term : Bool := false
  /-- load above assumption (1 bit; 18 R453); reset: DESIGN CHOICE 0 (log 4) -/
  loadHigh : Bool := false
  /-- frames received (32 bits, wraps; 18 R459); reset: DESIGN CHOICE 0 (log 4) -/
  received : Nat := 0
  /-- frames sent (32 bits, wraps; 18 R459); reset: DESIGN CHOICE 0 (log 4) -/
  sent : Nat := 0
  /-- unknown, malformed, remote and exception frames (32 bits, wraps; 18 R459); reset: DESIGN CHOICE 0 (log 4) -/
  unknown : Nat := 0
  /-- lost overwrites (32 bits, wraps; 18 R459); reset: DESIGN CHOICE 0 (log 4) -/
  lostCount : Nat := 0
  /-- error frames (32 bits, wraps; 18 R459); reset: DESIGN CHOICE 0 (log 4) -/
  errors : Nat := 0
  /-- transmit objects by message (16 objects; 18 R451); reset: none (log 4) -/
  tx : Table TxObj := {}
  /-- receive objects by message (16 objects; 18 R450); reset: none (log 4) -/
  rx : Table RxObj := {}
deriving DecidableEq, Repr

/-- The boot-selection record (R515). -/
structure BootRec where
  /-- sequence (32 bits; 21 R515); reset: DESIGN CHOICE 0 (log 3) -/
  seq : Nat := 0
  /-- committed slot (1 bit; 21 R515); reset: DESIGN CHOICE slot A (log 3) -/
  committed : Nat := 0
  /-- state trial (1 bit; 21 R515); reset: committed (log 3) -/
  trial : Bool := false
  /-- trial slot (1 bit; 21 R515); reset: none (log 3) -/
  trialSlot : Option Nat := none
  /-- attempts remaining (2 bits; 21 R515); reset: 0 (log 3) -/
  attempts : Nat := 0
  /-- committed version (32 bits; 21 R515); reset: DESIGN CHOICE 0 (log 3) -/
  version : Nat := 0
  /-- trial version (32 bits; 21 R515); reset: 0 none -/
  trialVersion : Nat := 0
  /-- anti-rollback counter (32 bits; 21 R515); reset: DESIGN CHOICE 0 (log 3) -/
  antiRollback : Nat := 0
deriving DecidableEq, Repr

/-- An activation schedule (R517). -/
structure Schedule where
  /-- image type (8 bits; 21 R517); reset: 0 -/
  kind : Nat := 0
  /-- activation instant (plant time ns; 21 R517); reset: 0 -/
  a0 : Nat := 0
  /-- deadline (plant time ns; 21 R517); reset: 0 -/
  deadline : Nat := 0
  /-- follow activation, deadline void (1 bit; 21 R523); reset: no -/
  follow : Bool := false
  /-- commit instant plus follow delay (time; 21 R523); reset: 0 -/
  followAt : Nat := 0
  /-- instant from which it waits for its partner (time; 21 R523); reset: none -/
  waitSince : Option Nat := none
  /-- the wait has been recorded (1 bit; 21 R523); reset: no -/
  waitRecorded : Bool := false
  /-- placed by the plant source (1 bit; 21 R508); reset: no -/
  plantSource : Bool := false
deriving DecidableEq, Repr

/-- An event record (R530). -/
structure EvRecord where
  /-- event, its code under Ev.code (16 bits; 22 R530); reset: 0x0D01 -/
  ev : Ev := .recorderStarted
  /-- sequence (32 bits; 22 R530); reset: 0 -/
  seq : Nat := 0
  /-- plant time of the first occurrence (plant time ns; 22 R530); reset: 0 -/
  time : Nat := 0
  /-- time state byte (8 bits; 22 R530); reset: 0 -/
  timeState : Nat := 0
  /-- flags (8 bits; 22 R530); reset: 0 -/
  flags : Nat := 0
  /-- operating time (32 bits; 22 R530); reset: 0 -/
  opTime : Nat := 0
  /-- power-cycle count (32 bits; 22 R530); reset: 0 -/
  cycles : Nat := 0
  /-- sweep number (32 bits; 22 R530); reset: 0 -/
  sweep : Nat := 0
  /-- repeat count (16 bits; 22 R533); reset: 0 -/
  repeats : Nat := 0
  /-- suppressed count (16 bits; 22 R534); reset: 0 -/
  suppressed : Nat := 0
  /-- last repeat after the first occurrence (32 bits, ms; 22 R530); reset: 0 -/
  lastRepeat : Nat := 0
  /-- the module sweep record at the first occurrence (log 110) (148 octets; 05 R132); reset: empty -/
  capture : List Nat := []
  /-- full-rate samples at a protection event (log 110) (1 sweep; 05 R132); reset: empty -/
  wave : List (Nat × List (List Int)) := []
  /-- subject (32 bits; 22 R531); reset: 0 -/
  subject : Nat := 0
  /-- data after the subject (952 octets; 22 R531); reset: empty -/
  data : List Nat := []
  /-- instant of the first occurrence (time; 22 R533); reset: 0 -/
  firstAt : Nat := 0
  /-- instant of the last occurrence (time; 22 R533); reset: 0 -/
  lastAt : Nat := 0
deriving DecidableEq, Repr

/-- A block of the event store (R537). -/
structure EvBlock where
  /-- block number (32 bits; 22 R537); reset: 0 -/
  number : Nat := 0
  /-- records, oldest first (1008 octets; 22 R537); reset: empty -/
  records : List EvRecord := []
deriving DecidableEq, Repr

/-- A token bucket (R534). -/
structure Bucket where
  /-- tokens (tokens; 22 R534); reset: full at start (R600) -/
  tokens : Rat := 0
  /-- instant last filled (time; 22 R534); reset: 0 -/
  filledAt : Nat := 0
deriving DecidableEq, Repr

/-- A set of monitor figures (R543). -/
structure MonSet where
  /-- set start (32 bits; 22 R545); reset: 0 -/
  start : Nat := 0
  /-- sample count (32 bits, saturating; 22 R543); reset: 0 -/
  count : Nat := 0
  /-- minimum (32 bits; 22 R543); reset: 0 -/
  min : Int := 0
  /-- maximum (32 bits; 22 R543); reset: 0 -/
  max : Int := 0
  /-- sum for the mean (exact; 22 R543); reset: 0 -/
  sum : Int := 0
  /-- bins (32 x 32 bits; 22 R543); reset: zeros -/
  bins : Table Nat := {}
  /-- limit exceeded in this window (1 bit; 22 R546); reset: no -/
  exceeded : Bool := false
deriving DecidableEq, Repr

/-- One copy of a learned-state item (R211). -/
structure StoreCopy where
  /-- sequence number (32 bits; 07 R211); reset: 0 -/
  seq : Nat := 0
  /-- write time (48 bits; 07 R211); reset: 0 -/
  time : Nat := 0
  /-- payload (at most 16400 octets; 07 R211); reset: empty -/
  payload : List Nat := []
  /-- CRC-32 correct (CRC-32; 07 R213); reset: blank (R213) -/
  valid : Bool := false
  /-- every octet zero (all octets zero; 07 R213); reset: blank, as delivered (R213) -/
  blank : Bool := true
deriving DecidableEq, Repr

/-- A learned-state item with its two copies (R211 to R213). -/
structure StoreItem where
  /-- copy A (copy; 07 R211); reset: blank (R213) -/
  a : StoreCopy := {}
  /-- copy B (copy; 07 R211); reset: blank (R213) -/
  b : StoreCopy := {}
deriving DecidableEq, Repr

/-- Module state, feeds, resets, wake (chapter 19). -/
structure Power where
  /-- module state (9 values; 19 R461); reset: off: DESIGN CHOICE, power not yet applied (log 3) -/
  state : ModState := .off
  /-- feed 1 present (1 bit; 19 R462); reset: DESIGN CHOICE 0 (log 3) -/
  feed1 : Bool := false
  /-- feed 2 present (1 bit; 19 R462); reset: DESIGN CHOICE 0 (log 3) -/
  feed2 : Bool := false
  /-- instant the first feed became present (time; 19 R463); reset: none (log 3) -/
  p0 : Option Nat := none
  /-- a firmware slot was selected in this start (1 bit; 19 R463); reset: DESIGN CHOICE 0 (log 4) -/
  bootDone : Bool := false
  /-- island runs in lockstep (1 bit; 19 R463); reset: DESIGN CHOICE 0 (log 4) -/
  islandUp : Bool := false
  /-- learned-state items have been read in this start (1 bit; 19 R463, R483); reset: DESIGN CHOICE 0 (log 4) -/
  itemsRead : Bool := false
  /-- plant ports and Chive beacons up (1 bit; 19 R463); reset: DESIGN CHOICE 0 (log 4) -/
  portsUp : Bool := false
  /-- protection functions armed (1 bit; 19 R463, 11 R311); reset: DESIGN CHOICE 0 (log 4) -/
  armed : Bool := false
  /-- start complete (1 bit; 19 R463); reset: DESIGN CHOICE 0 (log 4) -/
  startDone : Bool := false
  /-- last reset level (2 bits; 19 R485); reset: 0 start after Off (R485) -/
  resetLevel : Nat := 0
  /-- last reset cause (8 bits; 19 R479); reset: 0x01 power-on (R479) -/
  resetCause : Nat := 1
  /-- cause of R362 recorded alongside cause 0x03 (8 bits; 19 R479); reset: DESIGN CHOICE 0 (log 4) -/
  withdrawCause : Nat := 0
  /-- power-cycle count (32 bits; 19 R475, R485); reset: DESIGN CHOICE 0 (log 4) -/
  powerCycles : Nat := 0
  /-- operating time (32 bits of 1 s, kept in ns; 00 R5, 19 R485); reset: DESIGN CHOICE 0 (log 4) -/
  opTimeNs : Nat := 0
  /-- wake latches, bit source - 1 (7 bits; 19 R471); reset: DESIGN CHOICE 0 (log 4) -/
  latches : Nat := 0
  /-- last wake source (8 bits; 19 R485); reset: 0 none since the start (R485) -/
  lastWake : Nat := 0
  /-- level wake sources asserted, bit source - 1 (7 bits; 19 R470); reset: DESIGN CHOICE 0 (log 4) -/
  levels : Nat := 0
  /-- instants of the counted fault resets (list of times; 19 R479); reset: empty (log 4) -/
  faultResets : List Nat := []
  /-- reset deferred for the partner: level, cause, since (one; 19 R478); reset: none (log 4) -/
  resetWait : Option (Nat × Nat × Nat) := none
  /-- reset in preparation: level, cause, since (one; 19 R476); reset: none (log 4) -/
  resetHold : Option (Nat × Nat × Nat) := none
  /-- begin of the press in progress (time; 19 R480); reset: none (log 4) -/
  pressAt : Option Nat := none
  /-- the press is disregarded (1 bit; 19 R480); reset: DESIGN CHOICE 0 (log 4) -/
  pressDead : Bool := false
  /-- end of the last disregarded press (time; 19 R480); reset: DESIGN CHOICE 0 (log 4) -/
  buttonOpenAt : Nat := 0
  /-- presses shorter than 100 ms (32 bits; 19 R480); reset: DESIGN CHOICE 0 (log 4) -/
  shortPresses : Nat := 0
  /-- releases counted in the 5 s after P0 (2 bits; 19 R481); reset: DESIGN CHOICE 0 (log 4) -/
  recoveryReleases : Nat := 0
  /-- recovery ROM runs (1 bit; 21 R526); reset: DESIGN CHOICE 0 (log 4) -/
  recovery : Bool := false
  /-- service-enable asserted (1 bit; 25 R588); reset: DESIGN CHOICE 0 (log 4) -/
  serviceEnable : Bool := false
  /-- module state in which the flush began (9 values; 19 R461); reset: none (log 4) -/
  flushFrom : Option ModState := none
  /-- F0 (time; 19 R482); reset: DESIGN CHOICE 0 (log 4) -/
  flushAt : Nat := 0
  /-- W0 of the pending Run request (time; 19 R466); reset: none (log 4) -/
  runRequestAt : Option Nat := none
  /-- instant from which the Watch conditions have held (time; 19 R468); reset: none (log 4) -/
  watchSince : Option Nat := none
  /-- instant from which the Hibernate conditions have held (time; 19 R469); reset: none (log 4) -/
  hibSince : Option Nat := none
  /-- interrupts masked for step 5 of the entry (1 bit; 19 R471); reset: DESIGN CHOICE 0 (log 4) -/
  coresMasked : Bool := false
  /-- instant of Hibernate entry (time; 07 R218); reset: DESIGN CHOICE 0 (log 4) -/
  hibAt : Nat := 0
  /-- self-discharge visit in progress (1 bit; 07 R218); reset: DESIGN CHOICE 0 (log 4) -/
  visit : Bool := false
  /-- hold-up measured at 58 W (16 bits, 1 ms; 19 R484); reset: DESIGN CHOICE 0 (log 4) -/
  holdUpMs : Nat := 0
  /-- hold-up available (1 bit; 19 R484); reset: DESIGN CHOICE 0 (log 4) -/
  holdUpReady : Bool := false
  /-- instant of the last hold-up measurement (time; 19 R484); reset: DESIGN CHOICE 0 (log 4) -/
  lastHoldUp : Nat := 0
  /-- consecutive sweeps above the Watch current (2 bits; 19 R466); reset: DESIGN CHOICE 0 (log 4) -/
  overCurrentRun : Nat := 0
  /-- presence contact of X14 closed (1 bit; 19 R464); reset: DESIGN CHOICE 0 (log 3) -/
  plugPresent : Bool := false
  /-- application cluster stopped (1 bit; 01 R35); reset: DESIGN CHOICE 0 (log 4) -/
  haltedApp : Bool := false
  /-- what the reset in preparation will find (model's own) (-; 19 R476); reset: none (log 4) -/
  resetIn : StartIn := {}
  /-- level and cause of the reset that a handover or withdrawal leads to (one; 14 R362, 19 R476); reset: none (log 4) -/
  resetNext : Option (Nat × Nat) := none
  /-- first complete sweep of the reset in preparation (32 bits; 19 R476); reset: DESIGN CHOICE 0 (log 4) -/
  resetSweep : Nat := 0
  /-- hardware variant of the factory data (5 bits; 20 R491); reset: DESIGN CHOICE 0 (log 3) -/
  variant : Nat := 0
  /-- island halted and silent (1 bit; 14 R362); reset: DESIGN CHOICE 0 (log 4) -/
  haltedIsland : Bool := false
deriving DecidableEq, Repr

/-- Time base (chapter 02). -/
structure Thyme where
  /-- time state (4 bits; 02 R49, R50); reset: unset (R50) -/
  state : TimeState := .unset
  /-- source code (4 bits; 02 R49); reset: DESIGN CHOICE 0 none (log 4) -/
  source : Nat := 0
  /-- plant time reading (48 bits s, 32 bits ns, kept in ns; 02 R44); reset: DESIGN CHOICE 0 (log 4) -/
  reading : Nat := 0
  /-- fraction of the reading: what the addend has left below 1 ns (2^-32 / 10 ns; 02 R44, 00 R9); reset: DESIGN CHOICE 0 (log 4) -/
  phase : Nat := 0
  /-- rate addend (64 bits, 2^-32 ns; 02 R44); reset: nominal 10 ns per cycle (R44) -/
  addend : Nat := 42949672960
  /-- temperature compensation in force (32 bits, 1 ppb; 02 R45); reset: DESIGN CHOICE 0 (log 4) -/
  compPpb : Int := 0
  /-- reference temperature (16 bits, 0.01 K; 02 R45); reset: DESIGN CHOICE 0 (log 4) -/
  oscTemp : Int := 0
  /-- seconds labelled (1 bit; 02 R48); reset: no: lost at a start after Off (R48) -/
  labelled : Bool := false
  /-- last 8 offset measurements (8 x ns; 02 R50); reset: empty (log 4) -/
  offsets : List Int := []
  /-- consecutive measurements within the lock threshold (5 bits; 02 R50); reset: DESIGN CHOICE 0 (log 4) -/
  lockRun : Nat := 0
  /-- consecutive measurements beyond it (5 bits; 02 R50); reset: DESIGN CHOICE 0 (log 4) -/
  unlockRun : Nat := 0
  /-- end of the start wait (time; 02 R50); reset: none (log 4) -/
  startWaitAt : Option Nat := none
  /-- end of the holdover window (time; 02 R56); reset: none (log 4) -/
  holdoverAt : Option Nat := none
  /-- last instant locked (time; 24 R568); reset: DESIGN CHOICE 0 (log 4) -/
  lockedAt : Nat := 0
  /-- PTP instances of P1 and P2 (2 ports; 02 R54); reset: empty (log 4) -/
  ports : Table PtpPort := {}
  /-- twin link source available (1 bit; 02 R48); reset: DESIGN CHOICE 0 (log 4) -/
  twinAvail : Bool := false
  /-- PPS edges received (1 bit; 02 R48); reset: DESIGN CHOICE 0 (log 4) -/
  ppsAvail : Bool := false
  /-- PTP messages of unsupported types (32 bits; 02 R52); reset: DESIGN CHOICE 0 (log 4) -/
  ptpIgnored : Nat := 0
  /-- consecutive island windows beyond 300 counts (2 bits; 02 R57); reset: DESIGN CHOICE 0 (log 4) -/
  badWindows : Nat := 0
  /-- Thyme failure declared (1 bit; 02 R57); reset: DESIGN CHOICE 0 (log 4) -/
  failure : Bool := false
  /-- second of the last rise of PPS out (48 bits; 02 R64); reset: none (log 4) -/
  ppsSecond : Option Nat := none
  /-- PPS out high (1 bit; 02 R64); reset: DESIGN CHOICE 0 (log 4) -/
  ppsHigh : Bool := false
  /-- TP1 and TP2 (2 outputs; 02 R65); reset: empty (log 4) -/
  tp : Table PulseOut := {}
  /-- timestamp queues by port code (5 queues; 02 R68); reset: empty (log 4) -/
  queues : Table TsQueue := {}
  /-- offset to the leader over the link (32 bits, 2^-8 ns; 02 R63, 14 R377); reset: DESIGN CHOICE 0 (log 4) -/
  twinOffset : Int := 0
  /-- offset from the heartbeat edges (2^-8 ns; 02 R63); reset: DESIGN CHOICE 0 (log 4) -/
  edgeOffset : Int := 0
  /-- instant from which the two differ by more than 50 ns (time; 02 R63); reset: none (log 4) -/
  disagreeSince : Option Nat := none
  /-- sweep of the last step plus 1; 0 none (32 bits; 06 R165); reset: DESIGN CHOICE 0 (log 4) -/
  stepAge : Nat := 0
  /-- instant, since the epoch plus 1, of the last run of each operation that runs once per interval of plant time (64 bits each; 01 R38); reset: none (log 93) -/
  turns : Table Nat := {}
deriving DecidableEq, Repr

/-- Chive and node admission (chapters 03, 04). -/
structure Radio where
  /-- superframe begun last on any channel (32 bits; 01 R38); reset: DESIGN CHOICE 0 (log 4) -/
  superframe : Nat := 0
  /-- schedule version (8 bits, wraps; 04 R102); reset: DESIGN CHOICE 0 (log 4) -/
  schedule : Nat := 0
  /-- radio channels (4 channels; 03 R72); reset: empty (log 4) -/
  chans : Table RadioChan := {}
  /-- module-side node table (128 nodes; 04 R117); reset: empty (log 4) -/
  nodes : Table NodeCtl := {}
  /-- the cell nodes themselves (128 nodes; 04 R99); reset: empty (log 4) -/
  devs : Table NodeDev := {}
  /-- end of the hold-out by identifier (list of times; 04 R117, R120); reset: empty (log 4) -/
  holdOuts : Table Nat := {}
  /-- events of R117 by identifier (16 bits each; 24 R567); reset: empty (log 4) -/
  strangers : Table Nat := {}
  /-- transmitters enabled (1 bit; 03 R96); reset: DESIGN CHOICE 0 (log 4) -/
  transmit : Bool := false
  /-- radio epoch of K_beacon in use (32 bits; 21 R525); reset: DESIGN CHOICE 0 (log 4) -/
  keyEpoch : Nat := 0
  /-- epoch of the key roll in hand (32 bits; 21 R525); reset: none (log 4) -/
  rollEpoch : Option Nat := none
  /-- roll sweep named (32 bits; 21 R525); reset: none (log 4) -/
  rollSweep : Option Nat := none
  /-- postponements of the roll (2 bits; 21 R525); reset: DESIGN CHOICE 0 (log 4) -/
  rollPostponed : Nat := 0
  /-- nodes that confirmed the roll Commit (list; 21 R525); reset: empty (log 4) -/
  rollConfirmed : List Nat := []
  /-- step of the key roll: 1 admitting, 2 loading, 3 committed (2 bits; 21 R525); reset: 0 none (log 4) -/
  rollStage : Nat := 0
  /-- nodes of the key roll (128 nodes; 21 R525); reset: empty (log 4) -/
  rollList : List Nat := []
deriving DecidableEq, Repr

/-- Acquisition (chapter 05). -/
structure Acq where
  /-- first sweep of the last closed set on the present numbering (32 bits; 01 R40); reset: none (log 4) -/
  closedTo : Option Nat := none
  /-- the last sweep whose end has come on the present numbering (32 bits; 01 R38); reset: none (log 4) -/
  endedAt : Option Nat := none
  /-- number of the last sweep ended (32 bits; 00 R14); reset: DESIGN CHOICE 0 (log 4) -/
  sweep : Nat := 0
  /-- last sweep of IB0-3, IS, HV0-5 (keys 0-10) (11 channels; 05 R130); reset: missing (log 4) -/
  chans : Table ChanValue := {}
  /-- latest sweep in which HV4 was valid, and its average (sweep and 32 bits; 16 R412); reset: none (log 4) -/
  lastHv4 : Option (Nat × Int) := none
  /-- open sweep sets (open sets; 01 R40); reset: empty (log 4) -/
  sets : List Sweep4 := []
  /-- last closed set (one set; 01 R40); reset: none (log 4) -/
  closed : Sweep4 := {}
  /-- reports after the set had closed (32 bits; 01 R40); reset: DESIGN CHOICE 0 (log 4) -/
  late : Nat := 0
  /-- latest entered sample per cell (2048 samples; 05 R133); reset: missing (log 4) -/
  latest : Table Sample := {}
  /-- latest admitted corrected value per cell (2048 x 24 bits; 09 R242); reset: none (log 4) -/
  lastAdmitted : Table Int := {}
  /-- results of a closed set published since the start or wake (1 bit; 02 R50, R58); reset: none yet (log 4) -/
  published : Bool := false
  /-- closed sets since the last admitted value, per cell (2048 counts; 08 R225); reset: 0 (log 4) -/
  noAdmitSets : Table Nat := {}
  /-- tap estimates, key 17 x node + tap (128 x 17; 05 R138); reset: unconverged, nominal (R138) -/
  taps : Table Tap := {}
  /-- branch voltage windows (4 branches; 05 R141); reset: empty (log 4) -/
  mismatch : Table MismatchWin := {}
  /-- sweeps in the current window (4 bits; 05 R142); reset: DESIGN CHOICE 0 (log 4) -/
  xCount : Nat := 0
  /-- sum of IS (mA; 05 R142); reset: DESIGN CHOICE 0 (log 4) -/
  xSumIs : Int := 0
  /-- sum of the IB sums (mA; 05 R142); reset: DESIGN CHOICE 0 (log 4) -/
  xSumIb : Int := 0
  /-- consecutive windows beyond tolerance (7 bits; 05 R142); reset: DESIGN CHOICE 0 (log 4) -/
  xRun : Nat := 0
  /-- current principle mismatch reported (1 bit; 05 R142); reset: DESIGN CHOICE 0 (log 4) -/
  xReported : Bool := false
  /-- consecutive sweeps, at most 1 000, with both contactors of a branch confirmed open (4 x 10 bits; 05 R143); reset: zeros (log 4) -/
  openRun : Table Nat := {}
  /-- running shunt offsets (4 x nV; 05 R143); reset: zeros (log 4) -/
  offsets : Table Int := {}
  /-- next HV channel under self-test (3 bits; 05 R144); reset: DESIGN CHOICE HV0 (log 4) -/
  testHv : Nat := 0
  /-- next shunt channel under self-test (2 bits; 05 R144); reset: DESIGN CHOICE IB0 (log 4) -/
  testIb : Nat := 0
  /-- sweep at which the HV swap began (sweep; 05 R144); reset: none (log 4) -/
  swapHv : Option Nat := none
  /-- sweep at which the shunt swap began (sweep; 05 R144); reset: none (log 4) -/
  swapIb : Option Nat := none
  /-- sweep n comparison of the HV swap within bounds (1 bit; 05 R144); reset: DESIGN CHOICE passed (log 4) -/
  cmpHv : Bool := true
  /-- sweep n comparison of the shunt swap within bounds (1 bit; 05 R144); reset: DESIGN CHOICE passed (log 4) -/
  cmpIb : Bool := true
  /-- channels held on the spare (11 channels; 05 R144); reset: none (log 4) -/
  faulty : List Nat := []
  /-- HVX faulty (1 bit; 05 R144); reset: DESIGN CHOICE 0 (log 4) -/
  spareFaultHv : Bool := false
  /-- IBX faulty (1 bit; 05 R144); reset: DESIGN CHOICE 0 (log 4) -/
  spareFaultIb : Bool := false
  /-- instant from which the IB sum is below 2 A (time; 05 R145); reset: none (log 4) -/
  zeroSince : Option Nat := none
  /-- last IS offset test or deferral (time; 05 R145); reset: DESIGN CHOICE 0 (log 4) -/
  lastIsTest : Nat := 0
  /-- time in Run since the last IS offset test (ns; 05 R145); reset: DESIGN CHOICE 0 (log 4) -/
  runNs : Nat := 0
  /-- set in the calibration block (1024 octets; 05 R146); reset: DESIGN CHOICE a factory calibration without corrections (log 3) -/
  cal : CalSet := {}
  /-- set applied at analog initialisation (1024 octets; 05 R147); reset: none (log 4) -/
  applied : CalSet := {}
  /-- calibration fault (1 bit; 05 R147); reset: DESIGN CHOICE 0 (log 4) -/
  calFault : Bool := false
  /-- channel mask of the recalibration in hand (16 bits; 05 R148); reset: none (log 4) -/
  calMask : Option Nat := none
  /-- points needed: channel entry and value (26 points; 24 R565); reset: empty (log 4) -/
  calPoints : List (Nat × Int) := []
  /-- point being captured (5 bits; 17 R436); reset: none (log 4) -/
  calCapture : Option Nat := none
  /-- sweep averages of the point being captured (2000 averages; 05 R149); reset: empty (log 4) -/
  calSweeps : List Rat := []
  /-- mean and noise per captured point (26 results; 17 R436); reset: empty (log 4) -/
  calMeans : Table (Int × Nat) := {}
  /-- sweeps within tolerance since the loss (7 bits; 25 R576); reset: DESIGN CHOICE 0 (log 4) -/
  hallOkRun : Nat := 0
  /-- Hall sensor supply lost (1 bit; 25 R576); reset: DESIGN CHOICE 0 (log 4) -/
  hallLost : Bool := false
  /-- gain compensation in force (13 x ppb; 10 R276); reset: zeros (log 4) -/
  compGain : Table Int := {}
  /-- compensation input lost (1 bit; 10 R276); reset: DESIGN CHOICE 0 (log 4) -/
  compLost : Bool := false
  /-- coil supply (16 bits, 1 mV; 12 R317, R334); reset: DESIGN CHOICE 0 (log 3) -/
  coilSupply : Int := 0
  /-- full-rate samples of IB0 to IB3 and IS of the last 10 s, by sweep, newest first (10 s; 05 R132); reset: empty (log 4) -/
  ring : List (Nat × List (List Int)) := []
  /-- channel values of the last 10 100 sweeps with their sweep numbers, newest first (10100 sweeps; 05 R130); reset: empty (log 4) -/
  hist : List (Nat × List ChanValue) := []
  /-- island tap-correction table by cell (2048 entries; 05 R140); reset: zeros (log 4) -/
  islandCorr : Table IslandTerm := {}
deriving DecidableEq, Repr

/-- Impedance spectroscopy and Sage time (chapter 06). -/
structure Sage where
  /-- tone plans, newest first (last 8; 06 R153); reset: empty (log 4) -/
  plans : List TonePlan := []
  /-- sweep at which the last plan was started (32 bits; 06 R153); reset: DESIGN CHOICE 0 (log 4) -/
  lastPlanAt : Nat := 0
  /-- the newest plan waits for its first Load (1 bit; 06 R153); reset: DESIGN CHOICE 0 (log 4) -/
  planOpen : Bool := false
  /-- estimates, key 8 x cell + slot (2048 x 8; 06 R166); reset: empty (log 4) -/
  imp : Table ImpCell := {}
  /-- low-band sub-block excluded by shedding (1 bit; 06 R180); reset: DESIGN CHOICE 0 (log 4) -/
  excludedSub : Bool := false
  /-- interval estimates shed (1 bit; 06 R180); reset: DESIGN CHOICE 0 (log 4) -/
  shedInterval : Bool := false
  /-- fits (2048 cells; 06 R172); reset: none (log 4) -/
  fits : Table Fit := {}
  /-- R0, sigma and sweep in island memory (2048 cells; 06 R173); reset: none (log 4) -/
  islandR0 : Table (Nat × Nat × Nat) := {}
  /-- coefficients, key 4 x cell + band (2048 x 4; 06 R175); reset: unlearned (R214) -/
  coefs : Table Coef := {}
  /-- R0 baselines (2048 cells; 06 R178); reset: collecting (R214) -/
  bases : Table Baseline := {}
  /-- the ways of the cells to equilibrium (2048 cells; 06 R175); reset: none (log 4) -/
  eqRefs : Table (Option EqRef) := {}
  /-- instant from which IB of a branch stays below 2 A (4 x time; 06 R175); reset: none (log 4) -/
  ibLow : Table (Option Nat) := {}
  /-- internal temperatures (2048 x 16 bits; 06 R174); reset: missing (log 4) -/
  tInt : Table Int := {}
  /-- consecutive seconds of disagreement (2048 counts; 06 R176); reset: 0 (log 4) -/
  tIntDis : Table Nat := {}
  /-- plating indicators, 0.1 % (2048 x 16 bits; 06 R177); reset: 0 (log 4) -/
  plating : Table Int := {}
  /-- consecutive fits above the plating threshold (2048 counts; 06 R177); reset: 0 (log 4) -/
  platingRun : Table Nat := {}
  /-- contact indicators, nOhm (2048 x 32 bits; 06 R178); reset: 0 (log 4) -/
  contactInd : Table Int := {}
  /-- cell temperature and SoC at the begin of the interval (2048 cells; 06 R167); reset: zeros (log 4) -/
  winBegin : Table (Int × Rat) := {}
  /-- the same at the last 6 sub-block ends, newest first (2048 x 6; 06 R167); reset: empty (log 4) -/
  lowBegin : Table (List (Int × Rat)) := {}
  /-- per tone window the slots requested and reported active throughout, newest first (200 windows; 06 R160); reset: empty (log 4) -/
  unitTones : List (Nat × Nat) := []
  /-- instant from which the IB sum stays below the rest current (time; 06 R163); reset: none (log 4) -/
  restSince : Option Nat := none
  /-- string at rest (1 bit; 06 R163); reset: DESIGN CHOICE 0 (log 4) -/
  rest : Bool := false
  /-- last swap of the excitation (time; 06 R163); reset: DESIGN CHOICE 0 (log 4) -/
  lastSwap : Nat := 0
  /-- even and odd slots swapped (1 bit; 06 R163); reset: DESIGN CHOICE 0 (log 4) -/
  swapped : Bool := false
  /-- requested amplitudes by slot (8 x 16 bits, mA; 06 R161); reset: none (log 4) -/
  toneReq : Table Nat := {}
  /-- no further request until a warm reset (1 bit; 06 R162); reset: DESIGN CHOICE 0 (log 4) -/
  toneBan : Bool := false
  /-- consecutive windows above 1.2 times (8 counts; 06 R162); reset: 0 (log 4) -/
  toneOver : Table Nat := {}
  /-- closed sweep sets of the last 10.4 s, newest first (2600 sets; 06 R157); reset: empty (log 4) -/
  subSets : List Sweep4 := []
  /-- cycles the present work has been carried (32 bits; 06 R180); reset: DESIGN CHOICE 0 (log 4) -/
  carried : Nat := 0
  /-- foreground work carried (us; 06 R179); reset: DESIGN CHOICE 0 (log 4) -/
  fgLeft : Nat := 0
  /-- background time of the last cycles, newest first (99 x us; 06 R179); reset: empty (log 4) -/
  bgHist : List Nat := []
  /-- carried cycles counted by Dill (32 bits; 06 R180); reset: DESIGN CHOICE 0 (log 4) -/
  carries : Nat := 0
  /-- plant-wide correlation shed (1 bit; 06 R180); reset: DESIGN CHOICE 0 (log 4) -/
  corrDecimated : Bool := false
deriving DecidableEq, Repr

/-- Charge, capacity and health (chapter 07). -/
structure Charge where
  /-- cell states (2048 cells; 07 R189); reset: default learned state (R216) -/
  cells : Table CellEst := {}
  /-- end-of-charge windows (4 branches; 07 R195); reset: none (log 4) -/
  eoc : Table TaperWin := {}
  /-- end-of-discharge windows (4 branches; 07 R196); reset: none (log 4) -/
  eod : Table TaperWin := {}
  /-- cumulative count of IB per branch (4 x mA ms; 07 R204); reset: 0 (log 4) -/
  ibCount : Table Int := {}
  /-- last sweep counted (32 bits; 07 R189, R217); reset: none (log 4) -/
  lastSweep : Option Nat := none
  /-- IB the count used in the last sweep, per branch (4 x 32 bits; 07 R187); reset: zeros (log 4) -/
  ibUsed : Table Int := {}
  /-- sweeps counted since the last Watch filter run (10 bits; 07 R217); reset: DESIGN CHOICE 0 (log 4) -/
  watchSweeps : Nat := 0
  /-- string median SoC (fraction; 07 R204); reset: DESIGN CHOICE 0 (log 4) -/
  medianSoc : Rat := 0
  /-- median balancing charge (mA s; 07 R204); reset: DESIGN CHOICE 0 (log 4) -/
  medianBal : Rat := 0
deriving DecidableEq, Repr

/-- Power and current limits (chapter 08). -/
structure Limits where
  /-- branch hard limits (4 branches; 08 R226); reset: 0 (R229) -/
  branch : Table LimSet := {}
  /-- string hard limits (one; 08 R222); reset: 0 (R229) -/
  hard : LimSet := {}
  /-- string dispatch limits (one; 08 R222); reset: 0 (R229) -/
  dispatch : LimSet := {}
  /-- tone reserve (32 bits, mA; 08 R232); reset: 0 while no request (R229) -/
  reserve : Int := 0
  /-- flags of the last string record (16 bits; 08 R232); reset: DESIGN CHOICE 0 (log 4) -/
  flags : Nat := 0
  /-- instant of the last computation (time; 08 R229); reset: DESIGN CHOICE 0 (log 4) -/
  lastAt : Nat := 0
  /-- instant at which the last limits arrived in the frames (time; 08 R234); reset: DESIGN CHOICE 0 (log 4) -/
  freshAt : Nat := 0
  /-- island watchdog holds stop-request (1 bit; 08 R234); reset: DESIGN CHOICE 0 (log 4) -/
  stale : Bool := false
  /-- w_b at the 2 s horizon (4 branches; 08 R227); reset: none (log 4) -/
  weights : Table Rat := {}
  /-- computations made since the restart (32 bits; 08 R231); reset: DESIGN CHOICE 0 (log 4) -/
  disCount : Nat := 0
deriving DecidableEq, Repr

/-- Active balancing (chapter 09). -/
structure Basil where
  /-- plan number in hand (32 bits; 09 R253); reset: DESIGN CHOICE 0 (log 4) -/
  plan : Nat := 0
  /-- activation sweep of the plan (32 bits; 09 R253); reset: DESIGN CHOICE 0 (log 4) -/
  activation : Nat := 0
  /-- plans solved, counted for R251 in Watch (32 bits; 09 R256); reset: DESIGN CHOICE 0 (log 4) -/
  solved : Nat := 0
  /-- plan status (8 bits; 09 R260); reset: DESIGN CHOICE 0 (log 4) -/
  status : Nat := 0
  /-- a solve is running (1 bit; 09 R250); reset: DESIGN CHOICE 0 (log 4) -/
  solving : Bool := false
  /-- instant the solve began (time; 09 R250); reset: DESIGN CHOICE 0 (log 4) -/
  startedAt : Nat := 0
  /-- adaptive mode in force per bus (16 buses; 09 R244); reset: DESIGN CHOICE 2 top (log 30) -/
  mode : Table Nat := {}
  /-- cells of the plan (2048 cells; 09 R246); reset: none (log 4) -/
  cells : Table PlanCell := {}
  /-- net flow cell to stack, by cell (mW; 09 R248); reset: none (log 4) -/
  flow : Table Int := {}
  /-- net flow stack to bus, by node (mW; 09 R248); reset: none (log 4) -/
  busFlow : Table Int := {}
  /-- planned flow (mW; 09 R260); reset: DESIGN CHOICE 0 (log 4) -/
  totalFlow : Int := 0
  /-- planned loss (mW; 09 R260); reset: DESIGN CHOICE 0 (log 4) -/
  loss : Rat := 0
  /-- solve time (16 bits; 09 R260); reset: DESIGN CHOICE 0 (log 4) -/
  solveMs : Nat := 0
  /-- sum of positive demands (mW; 09 R260); reset: DESIGN CHOICE 0 (log 4) -/
  sourceDemand : Rat := 0
  /-- nodes loaded (16 bits; 09 R260); reset: DESIGN CHOICE 0 (log 4) -/
  nodesLoaded : Nat := 0
  /-- instant of the last sweep set close (time; 09 R255); reset: DESIGN CHOICE 0 (log 4) -/
  lastClose : Nat := 0
  /-- return current per node, last sweep (128 x mA; 09 R242); reset: 0 (log 4) -/
  iRet : Table Rat := {}
  /-- the plan that has begun last (plan number; 09 R253); reset: none (log 4) -/
  begun : Option Nat := none
  /-- its Commit deadline has passed (1 bit; 09 R253); reset: DESIGN CHOICE 0 (log 4) -/
  deadlineDone : Bool := false
  /-- its activation sweep has come (1 bit; 09 R253); reset: DESIGN CHOICE 0 (log 4) -/
  activated : Bool := false
  /-- the plan's sets were derived (1 bit; 09 R253); reset: DESIGN CHOICE 0 (log 4) -/
  solvedOk : Bool := false
deriving DecidableEq, Repr

/-- Thermal management and valves (chapter 10). -/
structure Therm where
  /-- temperature channels by number (1047 channels; 10 R264); reset: missing (R268) -/
  chans : Table TempChan := {}
  /-- V1 and V2 (2 valves; 10 R277); reset: de-energised (log 3) -/
  valves : Table Valve := {}
  /-- coolant loops (2 loops; 10 R282); reset: zero (log 4) -/
  loops : Table Loop := {}
  /-- discharge thermal factor (0 to 1; 10 R275); reset: 1 -/
  factorDis : Rat := 1
  /-- charge thermal factor (0 to 1; 10 R275); reset: 1 -/
  factorChg : Rat := 1
  /-- binding channel, discharge (16 bits; 10 R286); reset: DESIGN CHOICE 0 (log 4) -/
  bindDis : Nat := 0
  /-- binding channel, charge (16 bits; 10 R286); reset: DESIGN CHOICE 0 (log 4) -/
  bindChg : Nat := 0
  /-- node sensors held broken, in island memory (1024 bits; 11 R301); reset: empty -/
  brokenMask : List Nat := []
  /-- sweep number of the mask (32 bits; 11 R301); reset: none (log 4) -/
  brokenSweep : Option Nat := none
  /-- loop outputs of the leader received over the twin link (2 x 16 bits, %; 10 R284); reset: empty (log 4) -/
  leaderU : Table Rat := {}
  /-- channels whose shut-down demand stands (list; 10 R273); reset: empty (log 4) -/
  shutdowns : List Nat := []
deriving DecidableEq, Repr

/-- Protection (chapter 11). -/
structure Prot where
  /-- functions with a condition, a latch or a demand (table; 11 R292); reset: none standing (log 3) -/
  fns : List Fn := []
  /-- class C disconnects waiting (table; 11 R289); reset: none (log 4) -/
  waits : List OpenWait := []
  /-- branches whose BD still holds the string (4 bits; 11 R290); reset: none (log 4) -/
  holdBranches : List Nat := []
  /-- consecutive sweeps at or beyond V_ov (2048 counts; 11 R295); reset: 0 (log 4) -/
  ovRun : Table Nat := {}
  /-- consecutive sweeps at or beyond V_uv (2048 counts; 11 R295); reset: 0 (log 4) -/
  uvRun : Table Nat := {}
  /-- consecutive sets meeting function 0x0F (2 bits; 11 R305); reset: DESIGN CHOICE 0 (log 4) -/
  predRun : Nat := 0
  /-- R_iso (32 bits, kOhm; 11 R307); reset: DESIGN CHOICE 0 (log 4) -/
  riso : Nat := 0
  /-- its quality (8 bits; 11 R313); reset: DESIGN CHOICE missing (log 4) -/
  risoQuality : BitVec 8 := 4#8
  /-- polarity of the present half-period (1 bit; 11 R307); reset: DESIGN CHOICE positive first (log 4) -/
  injPlus : Bool := true
  /-- mean of HV5 of the previous half-period (mV; 11 R307); reset: none (log 4) -/
  hv5Prev : Option Int := none
  /-- mean of HV4 of the previous half-period (mV; 11 R307); reset: none (log 4) -/
  hv4Prev : Option Int := none
  /-- instant of the last half-period's end (64 bits, ns; 11 R307); reset: none (log 4) -/
  halfAt : Option Nat := none
  /-- HV5 and HV4 means of the period's halves, HV5 valid (two halves; 11 R308); reset: none (log 4) -/
  poleSum : List (Int × Int × Bool) := []
  /-- per earlier string: instant from which it is uncoupled or silent (128 times; 11 R306); reset: none (log 4) -/
  couple : Table Nat := {}
  /-- per earlier string: instant monitor coupled was seen (128 times; 11 R306); reset: none (log 4) -/
  coupledSeen : Table Nat := {}
  /-- plant time of the latest decision (plant time; 17 R439); reset: DESIGN CHOICE 0 (log 4) -/
  lastDecision : Nat := 0
  /-- trip subscriptions whose condition is present (16 bits; 17 R442); reset: none (log 4) -/
  gooseTrip : List Nat := []
  /-- nodes the partner received in its last superframe (128 bits; 11 R312); reset: none (log 4) -/
  partnerHeard : List Nat := []
  /-- alarm slots with energy at the partner (16 bits; 11 R312); reset: none (log 4) -/
  partnerEnergy : List Nat := []
  /-- protection decisions of the partner in its last island frame: function, group, subject, value (list; 14 R375); reset: none (log 4) -/
  partnerFns : List (Nat × Nat × Nat × Int) := []
  /-- last island frame of the partner (time; 11 R312); reset: none (log 4) -/
  partnerAt : Option Nat := none
deriving DecidableEq, Repr

/-- Contactors, pre-charge, joining (chapter 12). -/
structure Cont where
  /-- K1 to K12 (keys 1-12) (12 coils; 12 R315); reset: off (R463) -/
  coils : Table Coil := {}
  /-- coil-ons the sequence issues at the next sweep start (list; 12 R324); reset: empty (log 4) -/
  due : List Nat := []
  /-- coils waiting for budget, in order of request (list; 12 R316); reset: empty (log 4) -/
  queue : List Nat := []
  /-- string state (3 bits; 12 R324); reset: open (R463) -/
  stage : StrState := .opened
  /-- step of the connection: 1 negative, 2 positive, 3 K10, 4 K11, 5 K9, 6 K11 off (4 bits; 12 R324); reset: DESIGN CHOICE 0 (log 4) -/
  step : Nat := 0
  /-- first branch (2 bits; 12 R325); reset: none (R334) -/
  first : Option Nat := none
  /-- branch states (4 branches; 12 R328); reset: open (R334) -/
  branches : Table BrState := {}
  /-- branches held out by a leave (4 bits; 12 R602); reset: none (log 4) -/
  heldOut : List Nat := []
  /-- consecutive sweeps in the join window (4 counts; 12 R328); reset: 0 (log 4) -/
  inWindow : Table Nat := {}
  /-- 0 none, 1 negative commanded, 2 positive commanded (2 bits; 12 R328); reset: DESIGN CHOICE 0 (log 4) -/
  joinStep : Nat := 0
  /-- begin of the leave in hand (time; 12 R330); reset: none (log 4) -/
  leaveAt : Option Nat := none
  /-- first complete sweep of the leave (32 bits; 12 R330); reset: DESIGN CHOICE 0 (log 4) -/
  leaveSweep : Nat := 0
  /-- begin of the disconnect in hand (time; 12 R331); reset: none (log 4) -/
  discAt : Option Nat := none
  /-- first complete sweep of the disconnect (32 bits; 12 R331); reset: DESIGN CHOICE 0 (log 4) -/
  discSweep : Nat := 0
  /-- K9 to K11 commanded off by the disconnect (1 bit; 12 R331); reset: DESIGN CHOICE 0 (log 4) -/
  mainsOff : Bool := false
  /-- D0 (mV; 12 R326); reset: DESIGN CHOICE 0 (log 4) -/
  d0 : Int := 0
  /-- HV4 at the K11 command (mV; 12 R326); reset: DESIGN CHOICE 0 (log 4) -/
  hv4Start : Int := 0
  /-- K11 command instant (time; 12 R326); reset: DESIGN CHOICE 0 (log 4) -/
  k11At : Nat := 0
  /-- P0 (32 bits; 12 R326); reset: none (log 4) -/
  p0Sweep : Option Nat := none
  /-- measured tau (16 bits, ms; 12 R334); reset: 0 none (R334) -/
  tau : Nat := 0
  /-- 63.2 % reached (1 bit; 12 R326); reset: DESIGN CHOICE 0 (log 4) -/
  tauDone : Bool := false
  /-- consecutive sweeps in the end window (2 bits; 12 R326); reset: DESIGN CHOICE 0 (log 4) -/
  endRun : Nat := 0
  /-- pre-charge start instants in operating time (list of operating times, s; 12 R327); reset: empty (log 3) -/
  attempts : List Nat := []
  /-- end of the pre-charge lockout (operating time, s; 12 R327); reset: none (log 3) -/
  lockout : Option Nat := none
  /-- auto-connect armed (1 bit; 12 R324); reset: DESIGN CHOICE 0 (log 4) -/
  autoArmed : Bool := false
  /-- sweeps of 0x27 (4 counts; 12 R321); reset: 0 (log 4) -/
  ibOpenRun : Table Nat := {}
  /-- sweeps of 0x28 (4 counts; 12 R321); reset: 0 (log 4) -/
  ibOddRun : Table Nat := {}
  /-- instant from which the supply is below the hold minimum (time; 12 R317); reset: none (log 4) -/
  lowSupplySince : Option Nat := none
  /-- the start feedback check has been made (1 bit; 12 R322); reset: DESIGN CHOICE 0 (log 4) -/
  fbChecked : Bool := false
  /-- the disconnect or reset holds the string (1 bit; 12 R331); reset: DESIGN CHOICE 0 (log 4) -/
  reopenHold : Bool := false
  /-- operations executed here: identifier, status, reason, start sweep (list; 15 R395); reset: empty (log 4) -/
  done : List (Nat × Nat × Nat × Nat) := []
deriving DecidableEq, Repr

/-- Safety inputs, outputs and authorisation (chapter 13). -/
structure Safety where
  /-- SI1 to SI8 (keys 1-8) (8 inputs; 13 R336); reset: permit, no fault (log 4) -/
  inputs : Table SafeIn := {}
  /-- test-pulse sources with fault code 3 (2 bits; 13 R339); reset: none (log 4) -/
  srcFault : List Nat := []
  /-- consecutive bad pulses of T1 and T2 (2 counts; 13 R339); reset: 0 (log 4) -/
  srcRun : Table Nat := {}
  /-- consecutive good pulses of T1 and T2 while their fault stands (2 counts; 13 R340); reset: 0 (log 4) -/
  srcGood : Table Nat := {}
  /-- SO1, SO2 (keys 1, 2) (2 outputs; 13 R341); reset: de-energised (R463) -/
  outputs : Table SafeOut := {}
  /-- safety counter (32 bits; 13 R351); reset: DESIGN CHOICE 0 (log 3) -/
  counter : Nat := 0
  /-- instants of the rejected authorisations (list of times; 13 R351); reset: empty (log 3) -/
  rejects : List Nat := []
  /-- end of the authorisation lockout (time; 13 R351); reset: none (log 3) -/
  lockUntil : Option Nat := none
  /-- safety change log, newest first (64 entries; 13 R352); reset: empty (log 3) -/
  log : List LogEntry := []
  /-- entry sequence (32 bits; 13 R352); reset: 0 never reset (R352) -/
  logSeq : Nat := 0
  /-- inputs in demand at the partner (8 bits; 13 R347); reset: none (log 4) -/
  partnerDemand : List Nat := []
  /-- safety configuration reduced (1 bit; 14 R368); reset: DESIGN CHOICE 0 (log 4) -/
  reduced : Bool := false
deriving DecidableEq, Repr

/-- Twin pair (chapter 14). -/
structure Twin where
  /-- instant from which this module leads (time; 03 R96); reset: DESIGN CHOICE 0 (log 4) -/
  leadAt : Nat := 0
  /-- own role (3 bits; 14 R363); reset: starting (R363) -/
  role : Role := .starting
  /-- ready follower (1 bit; 14 R363); reset: DESIGN CHOICE 0 (log 4) -/
  ready : Bool := false
  /-- leadership epoch (32 bits; 14 R363); reset: DESIGN CHOICE 0 (log 3) -/
  epoch : Nat := 0
  /-- highest epoch seen (32 bits; 14 R363); reset: DESIGN CHOICE 0 (log 4) -/
  highEpoch : Nat := 0
  /-- 0 link, 1 discrete A, 2 discrete B (3 paths; 14 R359); reset: lost (log 4) -/
  paths : Table HbPath := {}
  /-- partner state (3 bits; 14 R377); reset: absent (log 4) -/
  partner : Role := .absent
  /-- partner's ready bit (1 bit; 14 R374); reset: DESIGN CHOICE 0 (log 4) -/
  partnerReady : Bool := false
  /-- partner declared failed (1 bit; 14 R377); reset: DESIGN CHOICE 0 (log 4) -/
  partnerFailed : Bool := false
  /-- coils commanded on at the partner (12 bits; 14 R375); reset: DESIGN CHOICE 0 (log 4) -/
  partnerCoils : Nat := 0
  /-- coils in pull-in at the partner (12 bits; 14 R375); reset: DESIGN CHOICE 0 (log 4) -/
  partnerPull : Nat := 0
  /-- cross-hold closed at the partner (12 bits; 14 R375); reset: DESIGN CHOICE 0 (log 4) -/
  partnerXh : Nat := 0
  /-- health octet of the partner (5 bits; 14 R375); reset: DESIGN CHOICE 0 (log 4) -/
  partnerHealth : Nat := 0
  /-- own cross-hold switches closed (12 bits; 14 R356); reset: open while unpowered (R356) -/
  crossHold : Nat := 0
  /-- twin mismatch (1 bit; 14 R372); reset: DESIGN CHOICE 0 (log 4) -/
  mismatch : Bool := false
  /-- last withdrawal or takeover cause (8 bits; 14 R362); reset: 0 none (R375) -/
  cause : Nat := 0
  /-- takeover while not ready (1 bit; 14 R377); reset: DESIGN CHOICE 0 (log 4) -/
  notReadyTakeover : Bool := false
  /-- driver and cross-hold tests passed (1 bit; 14 R345, R369); reset: DESIGN CHOICE available (log 4) -/
  rideThrough : Bool := true
  /-- takeovers (32 bits; 14 R377); reset: DESIGN CHOICE 0 (log 4) -/
  takeovers : Nat := 0
  /-- handovers (32 bits; 14 R377); reset: DESIGN CHOICE 0 (log 4) -/
  handovers : Nat := 0
  /-- last takeover duration (16 bits, 10 ns; 14 R377); reset: DESIGN CHOICE 0 (log 4) -/
  lastTakeover : Nat := 0
  /-- heartbeat number (32 bits; 14 R375); reset: DESIGN CHOICE 0 (log 4) -/
  hbNumber : Nat := 0
  /-- level of both discretes (1 bit; 14 R359); reset: DESIGN CHOICE low (log 4) -/
  discretes : Bool := false
  /-- liveness word (word; 14 R362); reset: DESIGN CHOICE 0 (log 4) -/
  liveness : Nat := 0
  /-- liveness word at the last instant (word; 14 R362); reset: DESIGN CHOICE 0 (log 4) -/
  liveSeen : Nat := 0
  /-- instants without an advance (2 bits; 14 R362); reset: DESIGN CHOICE 0 (log 4) -/
  stallRun : Nat := 0
  /-- end of the pairing wait (time; 14 R363); reset: none (log 4) -/
  pairUntil : Option Nat := none
  /-- T_h (time; 14 R367); reset: none (log 4) -/
  handoverAt : Option Nat := none
  /-- the follower acknowledged (1 bit; 14 R367); reset: DESIGN CHOICE 0 (log 4) -/
  handoverAck : Bool := false
  /-- cause for which the handover runs (8 bits; 14 R362); reset: DESIGN CHOICE 0 (log 4) -/
  handoverCause : Nat := 0
  /-- begin of an immediate withdrawal (time; 14 R362); reset: none (log 4) -/
  withdrawAt : Option Nat := none
  /-- last island refresh of the trip switches (time; 14 R357); reset: DESIGN CHOICE 0 (log 4) -/
  lastRefresh : Nat := 0
  /-- frame sequence per type but 0x04 and 0x05 (8 x 32 bits; 14 R374); reset: 0 (log 4) -/
  seqs : Table Nat := {}
  /-- gaps and discarded frames counted (32 bits; 14 R374); reset: DESIGN CHOICE 0 (log 4) -/
  gaps : Nat := 0
  /-- every learned-state item written in this sync (1 bit; 14 R371); reset: DESIGN CHOICE 0 (log 4) -/
  itemsSynced : Bool := false
  /-- bulk state received in this sync (1 bit; 14 R371); reset: DESIGN CHOICE 0 (log 4) -/
  bulkSynced : Bool := false
  /-- instant from which the offset is within 5 ns (time; 14 R371); reset: none (log 4) -/
  lockHeldSince : Option Nat := none
  /-- partner's staged version (32 bits; 21 R522); reset: DESIGN CHOICE 0 (log 4) -/
  partnerVersion : Nat := 0
  /-- partner's A0 (plant time; 21 R522); reset: DESIGN CHOICE 0 (log 4) -/
  partnerA0 : Nat := 0
  /-- partner's staged image type (8 bits; 21 R522); reset: DESIGN CHOICE 0 (log 4) -/
  partnerType : Nat := 0
  /-- partner committed its activation (1 bit; 21 R523); reset: DESIGN CHOICE 0 (log 4) -/
  partnerCommitted : Bool := false
  /-- partner's safety hash (64 bits; 14 R372); reset: none (log 4) -/
  partnerHash : Option Nat := none
  /-- protocol version of the partner (8 bits; 14 R374); reset: DESIGN CHOICE 1 (log 4) -/
  partnerProto : Nat := 1
  /-- partner in trial with our version as fallback (1 bit; 21 R524); reset: DESIGN CHOICE 0 (log 4) -/
  partnerTrial : Bool := false
  /-- a leadership conflict was lost: transmission stopped (1 bit; 14 R370); reset: DESIGN CHOICE 0 (log 4) -/
  conflictLost : Bool := false
  /-- partner's configuration epoch (32 bits; 14 R372); reset: DESIGN CHOICE 0 (log 4) -/
  flowEpoch : Nat := 0
  /-- own series trip switches held closed by the island (1 bit; 14 R357); reset: open while unpowered (R357) -/
  trips : Bool := false
  /-- last partner heartbeat, or request instant of the handover in hand (time; 14 R377); reset: DESIGN CHOICE 0 (log 4) -/
  f0 : Nat := 0
  /-- the takeover duration ends at the next heartbeat as leader (1 bit; 14 R377); reset: DESIGN CHOICE 0 (log 4) -/
  durPending : Bool := false
  /-- configuration epoch or safety hash of the partner differs (1 bit; 14 R372); reset: DESIGN CHOICE 0 (log 4) -/
  mismatchId : Bool := false
  /-- accepted mirror states at the leader, bit k - 1 closed mirror (12 bits; 14 R371); reset: DESIGN CHOICE 0 (log 4) -/
  partnerMirror : Nat := 0
  /-- partner agrees to Hibernate (1 bit; 19 R469); reset: DESIGN CHOICE 0 (log 4) -/
  hibAgree : Bool := false
deriving DecidableEq, Repr

/-- Plant master role (chapter 15). -/
structure Master where
  /-- holds the plant master role (1 bit; 15 R402); reset: DESIGN CHOICE 0 (log 4) -/
  holds : Bool := false
  /-- own or highest master epoch seen (32 bits; 15 R402); reset: DESIGN CHOICE 0 (log 3) -/
  epoch : Nat := 0
  /-- plant target (32 bits, W; 15 R387); reset: DESIGN CHOICE 0 (log 4) -/
  target : Int := 0
  /-- plant set-point in force (W; 15 R387); reset: DESIGN CHOICE 0 (log 4) -/
  inForce : Rat := 0
  /-- ramp rate (32 bits, W/s; 15 R387); reset: DESIGN CHOICE 0 (log 4) -/
  ramp : Nat := 0
  /-- ramping after a lifetime expiry (1 bit; 15 R387); reset: DESIGN CHOICE 0 (log 4) -/
  expiryRamp : Bool := false
  /-- end of the lifetime (time; 15 R387); reset: none (log 4) -/
  lifeUntil : Option Nat := none
  /-- horizon in force (3 bits; 15 R387); reset: 1, the default of record 0x0B04 (R387) -/
  horizon : Nat := 1
  /-- plant allocated (32 bits, W; 15 R382); reset: DESIGN CHOICE 0 (log 4) -/
  allocated : Int := 0
  /-- allocation limited (1 bit; 15 R386); reset: DESIGN CHOICE 0 (log 4) -/
  limited : Bool := false
  /-- set-points of valid entries by string (128 x 32 bits; 15 R386); reset: none (log 4) -/
  setpoints : List (Nat × Int) := []
  /-- latest string statuses (128 strings; 15 R385); reset: none (log 4) -/
  stats : Table StringStat := {}
  /-- excluded strings (128 bits; 15 R385); reset: none (log 4) -/
  excluded : List Nat := []
  /-- carrier phases by string (128 x 16 bits; 15 R388); reset: none (log 4) -/
  phases : Table Nat := {}
  /-- carrier frequency of the group last used (128 x 32 bits; 15 R389); reset: none (log 4) -/
  groupOf : Table Nat := {}
  /-- last recomputation of the phases by carrier frequency (times; 15 R389); reset: none (log 4) -/
  phasesAt : Table Nat := {}
  /-- clients by entry of record 0x0B03 (8 clients; 15 R390); reset: no sessions (R404) -/
  clients : Table Client := {}
  /-- next session number (32 bits; 15 R390); reset: DESIGN CHOICE 1 (log 33) -/
  nextSession : Nat := 1
  /-- set-point requests waiting (list; 15 R381); reset: empty (log 4) -/
  spRequests : List SpRequest := []
  /-- exclusions waiting: client, session, string, include (list; 15 R396); reset: empty (log 4) -/
  exRequests : List (Nat × Nat × Nat × Bool) := []
  /-- operations in flight (256; 15 R394); reset: none (log 4) -/
  ops : List Operation := []
  /-- next operation identifier (32 bits; 15 R395); reset: DESIGN CHOICE 1 (log 33) -/
  nextOp : Nat := 1
  /-- stream ingest (128 strings; 15 R399); reset: none (log 4) -/
  streams : Table Stream := {}
  /-- master handover waiting: target string, since (one; 15 R405); reset: none (log 4) -/
  draining : Option (Nat × Nat) := none
  /-- handover announced: target string, cycle sweep (one; 15 R405); reset: none (log 4) -/
  handover : Option (Nat × Nat) := none
  /-- handover frame taken as target (one; 15 R405); reset: none (log 4) -/
  incoming : Option Handover := none
  /-- L0 (time; 15 R403); reset: DESIGN CHOICE 0 (log 4) -/
  l0 : Nat := 0
  /-- own claim stands (1 bit; 15 R403); reset: DESIGN CHOICE 0 (log 4) -/
  claiming : Bool := false
  /-- first claim sent (time; 15 R403); reset: DESIGN CHOICE 0 (log 4) -/
  claimAt : Nat := 0
  /-- last claim sent (time; 15 R403); reset: DESIGN CHOICE 0 (log 4) -/
  claimSent : Nat := 0
  /-- epoch of the claim (32 bits; 15 R403); reset: DESIGN CHOICE 0 (log 4) -/
  claimEpoch : Nat := 0
  /-- candidate (1 bit; 15 R402); reset: DESIGN CHOICE 0 (log 4) -/
  candidate : Bool := false
  /-- send sequence per frame type (10 x 32 bits; 15 R380); reset: 0 (log 4) -/
  seqs : Table Nat := {}
  /-- counted occurrences of the last second: instant, kind (0 request admitted, 1 BUSY reason 2, 2 discarded without response, 3 stream frame ingested, 4 stream frame discarded), payload octets (list; 24 R569); reset: empty (log 4) -/
  recent : List (Nat × Nat × Nat) := []
  /-- last dispatch cycle allocated, counted from the plant epoch (cycle; 15 R381); reset: none (log 4) -/
  cycle : Option Nat := none
  /-- last dispatch cycle whose multicast was sent (cycle; 15 R381); reset: none (log 4) -/
  sent : Option Nat := none
  /-- available discharge and charge power by horizon (5 x 2 x 32 bits; 24 R569); reset: none (log 4) -/
  avail : List (Int × Int) := []
  /-- eligible strings (8 bits; 24 R569); reset: DESIGN CHOICE 0 (log 4) -/
  eligible : Nat := 0
  /-- interleaved strings (8 bits; 24 R569); reset: DESIGN CHOICE 0 (log 4) -/
  interleaved : Nat := 0
  /-- master work shed (1 bit; 24 R569); reset: DESIGN CHOICE 0 (log 4) -/
  shedding : Bool := false
  /-- lifetime expired (1 bit; 24 R569); reset: DESIGN CHOICE 0 (log 4) -/
  expired : Bool := false
deriving DecidableEq, Repr

/-- The string's side of dispatch (chapter 15). -/
structure Dispatch where
  /-- highest master epoch seen (32 bits; 15 R383); reset: DESIGN CHOICE 0 (log 4) -/
  masterEpoch : Nat := 0
  /-- sender string taken as plant master (7 bits; 15 R383); reset: none (log 4) -/
  master : Option Nat := none
  /-- entry set-point (32 bits, W; 15 R383); reset: DESIGN CHOICE 0 (log 4) -/
  setpoint : Int := 0
  /-- set-point valid of the entry taken (1 bit; 15 R383); reset: DESIGN CHOICE 0 (log 4) -/
  entryValid : Bool := false
  /-- applied set-point (W; 15 R383); reset: DESIGN CHOICE 0 (log 4) -/
  applied : Rat := 0
  /-- the leader applies a set-point (1 bit; 16 R412); reset: DESIGN CHOICE 0 (log 4) -/
  applying : Bool := false
  /-- fallback ramp in progress (1 bit; 15 R383); reset: DESIGN CHOICE 0 (log 4) -/
  ramping : Bool := false
  /-- instant of the last ramp step (time; 15 R383); reset: DESIGN CHOICE 0 (log 4) -/
  rampAt : Nat := 0
  /-- receipt of the last accepted multicast (time; 15 R383); reset: none (log 4) -/
  heardAt : Option Nat := none
  /-- first instant the entry may be applied (time; 15 R381); reset: DESIGN CHOICE 0 (log 4) -/
  applyFrom : Nat := 0
  /-- the entry last accepted has been applied (1 bit; 15 R381); reset: DESIGN CHOICE nothing waiting (log 4) -/
  taken : Bool := true
  /-- cycle sweep of the multicast last accepted (32 bits; 15 R384); reset: DESIGN CHOICE 0 (log 4) -/
  nextCycle : Nat := 0
  /-- set-point of the entry in force, before the clamp (32 bits, W; 15 R383); reset: DESIGN CHOICE 0 (log 4) -/
  power : Int := 0
  /-- cycle sweep of the multicast applied (32 bits; 15 R384); reset: DESIGN CHOICE 0 (log 4) -/
  cycle : Nat := 0
  /-- stale master multicasts (32 bits; 15 R383); reset: DESIGN CHOICE 0 (log 4) -/
  stale : Nat := 0
  /-- multicasts discarded as invalid (32 bits; 15 R383); reset: DESIGN CHOICE 0 (log 4) -/
  invalid : Nat := 0
  /-- multicasts received late (32 bits; 15 R381); reset: DESIGN CHOICE 0 (log 4) -/
  late : Nat := 0
  /-- frames failing the header checks (32 bits; 15 R380); reset: DESIGN CHOICE 0 (log 4) -/
  badFrames : Nat := 0
  /-- plant master lost recorded (1 bit; 15 R383); reset: DESIGN CHOICE 0 (log 4) -/
  masterLost : Bool := false
  /-- carrier phase waiting: phase, receipt (one; 15 R389); reset: none (log 4) -/
  newPhase : Option (Nat × Nat) := none
  /-- carrier phase applied (16 bits; 16 R411); reset: DESIGN CHOICE 0 (log 4) -/
  phase : Nat := 0
  /-- carrier phase valid (1 bit; 16 R411); reset: DESIGN CHOICE 0 (log 4) -/
  phaseValid : Bool := false
  /-- carrier apply sweep (32 bits; 16 R411); reset: DESIGN CHOICE 0 (log 4) -/
  phaseSweep : Nat := 0
  /-- decimation in force (8 bits; 15 R384); reset: DESIGN CHOICE stream off (log 4) -/
  decim : Nat := 255
  /-- sequence of the last multicast accepted (32 bits; 23 R559); reset: none (log 4) -/
  mcastSeq : Option Nat := none
  /-- late frame or loss in this 1 s window (1 bit; 23 R559); reset: DESIGN CHOICE 0 (log 4) -/
  lateRun : Bool := false
  /-- consecutive windows without one (4 bits; 23 R559); reset: DESIGN CHOICE 0 (log 4) -/
  cleanWindows : Nat := 0
  /-- sender of the last late or lost frame (7 bits; 23 R559); reset: DESIGN CHOICE 0 (log 4) -/
  lateFrom : Nat := 0
deriving DecidableEq, Repr

/-- Converter link (chapter 16). -/
structure Rantus where
  /-- last cycle sent: 10 x sweep + cycle (32 bits x 10; 16 R411); reset: DESIGN CHOICE 0 (log 4) -/
  cycle : Nat := 0
  /-- stop-request field written by the island (1 bit; 16 R409, 01 R33); reset: DESIGN CHOICE 0 (log 4) -/
  islandStop : Bool := false
  /-- last command frame (100 octets; 16 R411); reset: none (log 4) -/
  frame : List Nat := []
  /-- I_set of the last frame (32 bits, mA; 11 R305); reset: DESIGN CHOICE 0 (log 4) -/
  setA : Int := 0
  /-- set-point valid of the last frame (1 bit; 16 R412); reset: DESIGN CHOICE 0 (log 4) -/
  setValid : Bool := false
  /-- converter (56 octets; 16 R415); reset: not ready (log 4) -/
  conv : ConvStatus := {}
  /-- consecutive missed cycles (8 bits; 16 R419); reset: DESIGN CHOICE 0 (log 4) -/
  missed : Nat := 0
  /-- consecutive cycles with a used status frame (32 bits; 16 R419); reset: DESIGN CHOICE 0 (log 4) -/
  used : Nat := 0
  /-- status of the present cycle used (1 bit; 16 R419); reset: DESIGN CHOICE 0 (log 4) -/
  answered : Bool := false
  /-- the miss of the present cycle has been counted (1 bit; 16 R419); reset: DESIGN CHOICE 0 (log 4) -/
  judged : Bool := false
  /-- link lost (1 bit; 16 R419); reset: DESIGN CHOICE 0 (log 4) -/
  linkLost : Bool := false
  /-- status frames discarded (32 bits; 16 R416); reset: DESIGN CHOICE 0 (log 4) -/
  badFrames : Nat := 0
  /-- status frames after the deadline (32 bits; 16 R410); reset: DESIGN CHOICE 0 (log 4) -/
  lateFrames : Nat := 0
  /-- sum of one-way delays (2^-8 ns; 16 R417); reset: DESIGN CHOICE 0 (log 4) -/
  delaySum : Int := 0
  /-- cycles in the sum (10 bits; 16 R417); reset: DESIGN CHOICE 0 (log 4) -/
  delayCount : Nat := 0
  /-- mean one-way delay (32 bits, 2^-8 ns; 16 R417); reset: DESIGN CHOICE 0 (log 4) -/
  delay : Nat := 0
  /-- a mean has been formed (1 bit; 16 R417); reset: DESIGN CHOICE 0 (log 4) -/
  delayKnown : Bool := false
  /-- transmit timestamp of the last command (2^-8 ns; 16 R417); reset: DESIGN CHOICE 0 (log 4) -/
  sentAt : Int := 0
  /-- carrier-sync pulses emitted (32 bits; 16 R414); reset: DESIGN CHOICE 0 (log 4) -/
  pulses : Nat := 0
  /-- tones active in every used cycle of the unit (8 bits; 16 R416); reset: DESIGN CHOICE all (log 4) -/
  toneUnit : Nat := 255
  /-- sweep number of the limits last framed (32 bits; 08 R234); reset: DESIGN CHOICE 0 (log 4) -/
  limitSweep : Nat := 0
deriving DecidableEq, Repr

/-- Plant network, telemetry, GOOSE (chapters 17, 24). -/
structure Net where
  /-- P1, P2, X13 (keys 1-3) (3 ports; 17 R423); reset: down (log 3) -/
  ports : Table Port := {}
  /-- both plant ports down (1 bit; 17 R423); reset: DESIGN CHOICE 0 (log 4) -/
  netLost : Bool := false
  /-- keys 0-7 plant clients, 8 X13 (9 sessions; 17 R429); reset: none -/
  sessions : Table TeleSession := {}
  /-- next session number (32 bits; 17 R429); reset: DESIGN CHOICE 1 (log 33) -/
  nextSession : Nat := 1
  /-- latest publication by identifier (objects; 24 R564); reset: nothing published (R564) -/
  store : Table (List Nat) := {}
  /-- echo rate limit (tokens; 17 R424); reset: DESIGN CHOICE 0 until first filled (log 32) -/
  echoTokens : Rat := 0
  /-- instant last filled (time; 17 R424); reset: none (log 32) -/
  echoAt : Option Nat := none
  /-- echo requests discarded (32 bits; 17 R424); reset: DESIGN CHOICE 0 (log 4) -/
  echoDropped : Nat := 0
  /-- 0 trip, 1 interlock, 2 status (3 datasets; 17 R439); reset: none (log 4) -/
  pubs : Table GooseSet := {}
  /-- subscriptions by entry (16 subscriptions; 17 R441); reset: none (log 4) -/
  subs : Table GooseSub := {}
  /-- PRP sequence (16 bits; 17 R422); reset: DESIGN CHOICE 0 (log 4) -/
  prpSeq : Nat := 0
  /-- telemetry frames failing the header checks (32 bits; 17 R428); reset: DESIGN CHOICE 0 (log 4) -/
  teleBad : Nat := 0
deriving DecidableEq, Repr

/-- Auxiliary CAN (chapter 18). -/
structure Can where
  /-- AUX-A, AUX-B (keys 0, 1) (2 channels; 18 R444); reset: disabled (log 4) -/
  chans : Table CanChan := {}
  /-- begin of the wait for the final frames (time; 18 R457); reset: none (log 4) -/
  sleepAt : Option Nat := none
  /-- equipment available: loop, 8 HVAC (bits; 18 R449); reset: none available (log 4) -/
  equip : List Nat := []
deriving DecidableEq, Repr

/-- Bay plug and configuration (chapter 20). -/
structure Plug where
  /-- unique identifier of the fitted plug (64 bits; 20 R487); reset: DESIGN CHOICE 0 (log 3) -/
  ident : Nat := 0
  /-- directory copy A (64 octets; 20 R489); reset: erased (log 3) -/
  dirA : Option DirEntry := none
  /-- directory copy B (64 octets; 20 R489); reset: erased (log 3) -/
  dirB : Option DirEntry := none
  /-- image area 0 (16 MiB; 20 R488); reset: erased (log 3) -/
  area0 : Option Image := none
  /-- image area 1 (16 MiB; 20 R488); reset: erased (log 3) -/
  area1 : Option Image := none
  /-- header of the running image in working memory (its records stand in State.cfg) (512 octets; 20 R500); reset: none (log 4) -/
  running : Option ImgHeader := none
  /-- outcome of the last read (3 bits; 19 R464); reset: DESIGN CHOICE 1 absent (log 4) -/
  outcome : Nat := 1
  /-- last failed stage (4 bits; 20 R506); reset: 0 none -/
  failedStage : Nat := 0
  /-- plug removed since the read (1 bit; 20 R506); reset: DESIGN CHOICE 0 (log 4) -/
  removed : Bool := false
  /-- fallback used at the last start (1 bit; 20 R506); reset: DESIGN CHOICE 0 (log 4) -/
  fallback : Bool := false
deriving DecidableEq, Repr

/-- Firmware and configuration update (chapter 21). -/
structure Update where
  /-- 0 none, 1 plant, 2 X13 (2 bits; 21 R528); reset: 0 none -/
  session : Nat := 0
  /-- telemetry session key that carries it (3 bits; 21 R507); reset: DESIGN CHOICE 0 (log 4) -/
  server : Nat := 0
  /-- header of the image in download (512 octets; 21 R510); reset: none (log 4) -/
  offer : Option ImgHeader := none
  /-- next offset (32 bits; 21 R510); reset: DESIGN CHOICE 0 (log 4) -/
  offset : Nat := 0
  /-- checkpoint offset (32 bits; 21 R513); reset: DESIGN CHOICE 0 (log 3) -/
  checkpoint : Nat := 0
  /-- image type and header digest of the checkpoint item (17 octets; 21 R513); reset: none (log 3) -/
  checkDigest : Option (Nat × Nat) := none
  /-- verification runs (1 bit; 21 R514); reset: DESIGN CHOICE 0 (log 4) -/
  verifying : Bool := false
  /-- instant it was started (time; 21 R514); reset: DESIGN CHOICE 0 (log 4) -/
  verifyAt : Nat := 0
  /-- last update frame (time; 21 R507); reset: DESIGN CHOICE 0 (log 4) -/
  lastFrame : Nat := 0
  /-- octet bucket of each source, with the instant last filled; X13's is that of its session (9 sources; 21 R510); reset: full (log 32) -/
  buckets : Table (Rat × Nat) := {}
  /-- staged firmware (header; 21 R514); reset: none (log 3) -/
  stagedFw : Option ImgHeader := none
  /-- its slot (1 bit; 21 R514); reset: none (log 3) -/
  stagedSlot : Option Nat := none
  /-- staged configuration (header; 21 R514); reset: none (log 3) -/
  stagedCfg : Option ImgHeader := none
  /-- staged firmware came from the plant (1 bit; 21 R508); reset: DESIGN CHOICE 0 (log 4) -/
  stagedFwPlant : Bool := false
  /-- staged configuration came from the plant (1 bit; 21 R508); reset: DESIGN CHOICE 0 (log 4) -/
  stagedCfgPlant : Bool := false
  /-- version cancelled, firmware (32 bits; 21 R509); reset: none (log 3) -/
  cancelFw : Option Nat := none
  /-- version cancelled, configuration (32 bits; 21 R509); reset: none (log 3) -/
  cancelCfg : Option Nat := none
  /-- schedule (one; 21 R517); reset: none (log 3) -/
  schedule : Option Schedule := none
  /-- image type and begin of probation (one; 21 R520); reset: none (log 3) -/
  probation : Option (Nat × Nat) := none
  /-- image type in trial (8 bits; 21 R520); reset: 0 none (log 3) -/
  trialKind : Nat := 0
  /-- by when the start or ready state must be reached (time; 21 R520); reset: none (log 4) -/
  trialDeadline : Option Nat := none
  /-- last result (8 bits; 21 R528); reset: 0 none -/
  lastResult : Nat := 0
  /-- last failed stage (8 bits; 21 R528); reset: 0 none -/
  failedStage : Nat := 0
  /-- boot-selection copy A (32 octets; 21 R515); reset: DESIGN CHOICE committed slot A (log 3) -/
  bootA : Option BootRec := some {}
  /-- boot-selection copy B (32 octets; 21 R515); reset: erased (log 3) -/
  bootB : Option BootRec := none
  /-- firmware slot A (255 MiB; 21 R515); reset: DESIGN CHOICE factory image (log 3) -/
  slotA : Option ImgHeader := some {}
  /-- firmware slot B (255 MiB; 21 R515); reset: erased (log 3) -/
  slotB : Option ImgHeader := none
  /-- running firmware version (32 bits; 21 R528); reset: DESIGN CHOICE 0 (log 3) -/
  runVersion : Nat := 0
  /-- slot booted (1 bit; 21 R516); reset: DESIGN CHOICE slot A (log 4) -/
  bootSlot : Nat := 0
  /-- twin-link protocol versions the staged firmware speaks (list; 21 R514); reset: none (log 4) -/
  stagedVersions : List Nat := []
  /-- a key roll is due (1 bit; 21 R525); reset: DESIGN CHOICE 0 (log 4) -/
  keyRollDue : Bool := false
  /-- this twin committed its activation (1 bit; 21 R523); reset: DESIGN CHOICE 0 (log 4) -/
  committedSelf : Bool := false
  /-- session key and sequence of the pending verify answer (one; 21 R514); reset: none (log 4) -/
  reply : Option (Nat × Nat) := none
deriving DecidableEq, Repr

/-- Event recorder (chapter 22). -/
structure Rosemary where
  /-- next sequence to assign (32 bits; 22 R532); reset: DESIGN CHOICE 0 (log 3) -/
  nextSeq : Nat := 0
  /-- sequence reservation (32 bits; 22 R532); reset: DESIGN CHOICE 0 (log 3) -/
  reservation : Nat := 0
  /-- open records, oldest first (64 records; 22 R533); reset: empty (log 3) -/
  opened : List EvRecord := []
  /-- token buckets by event code (per code; 22 R534); reset: full (R600) -/
  buckets : List (Ev × Bucket) := []
  /-- suppressed tallies by event code (16 bits each; 22 R534); reset: 0 (R600) -/
  tallies : List (Ev × Nat) := []
  /-- open block (1024 octets; 22 R537); reset: empty, number 0 (log 3) -/
  openBlock : EvBlock := {}
  /-- instant the first record entered it (time; 22 R538); reset: none (log 4) -/
  openSince : Option Nat := none
  /-- committed blocks, newest first (1835008 blocks; 22 R537); reset: none (log 3) -/
  held : List EvBlock := []
  /-- blocks in the ring (21 bits; 22 R537, R539); reset: 1 835 008 (R537) -/
  ringSize : Nat := 1835008
  /-- spare erase blocks left (16 bits; 22 R539); reset: DESIGN CHOICE 0 (log 3) -/
  spares : Nat := 0
  /-- octets accepted in the present window (32 bits; 22 R535); reset: DESIGN CHOICE 0 (log 4) -/
  windowOctets : Nat := 0
  /-- a discard happened in the present window (1 bit; 22 R535); reset: DESIGN CHOICE 0 (log 4) -/
  discardWindow : Bool := false
  /-- write ceiling reached in the last window (1 bit; 22 R542); reset: DESIGN CHOICE 0 (log 4) -/
  ceiling : Bool := false
  /-- store wrapped (1 bit; 22 R542); reset: DESIGN CHOICE 0 (log 3) -/
  wrapped : Bool := false
  /-- store fault (1 bit; 22 R542); reset: DESIGN CHOICE 0 (log 3) -/
  fault : Bool := false
  /-- suppressed total (32 bits, wraps; 22 R542); reset: DESIGN CHOICE 0 (log 3) -/
  suppressedTotal : Nat := 0
deriving DecidableEq, Repr

/-- Monitors and guarantees (chapters 22, 23). -/
structure Dill where
  /-- window sets (15 monitors; 22 R543); reset: empty (R545) -/
  windows : Table MonSet := {}
  /-- cumulative sets (15 monitors; 22 R543); reset: empty (R545) -/
  cumulative : Table MonSet := {}
  /-- deferred task codes (6 bits; 23 R556); reset: none (log 4) -/
  deferred : List Nat := []
  /-- plant delivery below assumption (1 bit; 23 R559); reset: DESIGN CHOICE 0 (log 4) -/
  delivery : Bool := false
  /-- time state assumption failed (1 bit; 23 R558); reset: DESIGN CHOICE 0 (log 4) -/
  timeBad : Bool := false
  /-- correctable errors counted by the scrub (32 bits; 23 R555); reset: DESIGN CHOICE 0 (log 4) -/
  corrected : Nat := 0
  /-- last working memory scrub (time; 23 R555); reset: DESIGN CHOICE 0 (log 4) -/
  lastScrub : Nat := 0
  /-- last scrub of the stores (time; 23 R555); reset: DESIGN CHOICE 0 (log 4) -/
  lastStoreScrub : Nat := 0
deriving DecidableEq, Repr

/-- Learned-state store (R211 to R214). -/
structure Learned where
  /-- items by key: group x 2^24 + item x 2^16 + instance (2 MiB; 07 R211); reset: blank, as delivered (R213) -/
  items : Table StoreItem := {}
  /-- sequence of the twin-link frames of types 0x04 and 0x05 (2 x 32 bits; 14 R374); reset: 0 (log 4) -/
  linkSeqs : Table Nat := {}
  /-- instant of the last snapshot (time; 07 R212); reset: DESIGN CHOICE 0 (log 4) -/
  snapAt : Nat := 0
deriving DecidableEq, Repr

/-- State that a twin-link frame carries (14 R371, R374; 12 R333; 08 R235; 09 R259; 10 R284). -/
structure TwinView where
  /-- contactor and sequence states -/
  cont : Option Cont := none
  /-- set-point state -/
  di : Option Dispatch := none
  /-- plant master shadow -/
  ma : Option Master := none
  /-- balancing plan and loads -/
  ba : Option Basil := none
  /-- valve states -/
  valves : Option (Table Valve) := none
  /-- values of the sender's local inputs: channel and 0.01 degC -/
  locals : List (Nat × Int) := []
  /-- loop outputs -/
  loopU : Option (Table Rat) := none
  /-- key nonces, command counters, routes and work of the nodes -/
  nodes : Option (Table NodeCtl) := none
  /-- filter states -/
  cells : Option (Table CellEst) := none
  /-- GOOSE state numbers -/
  pubs : Option (Table GooseSet) := none
  /-- CAN transmit objects, alive counters and conflict declarations -/
  can : Option Can := none
  /-- tone plans and the sweep at which the newest was started -/
  plans : Option (List TonePlan × Nat) := none
  /-- radio epoch under which the leader admitted the nodes -/
  keyEpoch : Option Nat := none
deriving DecidableEq, Repr

/-- A shadow, learned-state item or bulk-state frame as received (14 R371, R374; 21 R522). -/
structure ShadowIn where
  /-- header -/
  hdr : TwHdr := {}
  /-- partner's configuration epoch -/
  cfgEpoch : Nat := 0
  /-- partner's safety hash -/
  hash : Nat := 0
  /-- state carried -/
  view : TwinView := {}
  /-- learned-state item: key, sequence number, write time, payload -/
  item : Option (Nat × Nat × Nat × List Nat) := none
  /-- the last item of a sync -/
  lastItem : Bool := false
  /-- the last bulk-state frame of a sync -/
  lastBulk : Bool := false
  /-- image type staged at the partner, 0 none -/
  stagedKind : Nat := 0
  /-- its version -/
  stagedVersion : Nat := 0
  /-- its activation instant, plant time in ns -/
  stagedA0 : Nat := 0
  /-- the partner is in trial with this twin's running version as its fallback -/
  trial : Bool := false
  /-- image type whose trial the partner committed with this frame, 0 none -/
  committed : Nat := 0
  /-- the partner rolled back or reverted -/
  abandoned : Bool := false
  /-- the partner agrees to Hibernate -/
  hibAgree : Bool := false
deriving DecidableEq, Repr

/-- A converter status frame as received (16 R415, R416). -/
structure StatusIn where
  /-- CRC-32 and frame control correct -/
  ok : Bool := true
  /-- string index -/
  string : Nat := 0
  /-- echo sweep -/
  echoSweep : Nat := 0
  /-- echo cycle -/
  echoCycle : Nat := 0
  /-- content -/
  conv : ConvStatus := {}
  /-- turnaround, ns -/
  turnaround : Nat := 0
  /-- receive timestamp of the status /S/, corrected by the calibrated port latency, 2^-8 ns -/
  received : Nat := 0
deriving DecidableEq, Repr

end Sys2Proof.Machine
end

