-- ==== Sys2Proof/Syntax.lean ====
section
/-! DEFINITION. Sys2Proof/Syntax.lean: the commands of the block, one constructor per row of spec/opcode_table.json. The
first operand `t` of each is the local elapsed time in ns at which the step happens (log 1); the other operands are
what the step takes from outside. -/

namespace Sys2Proof

/-- A command: one row of the table of operations and events. -/
inductive Instr where
  /-- R52: A supported PTP message arrives on P1 or P2 and yields an offset measurement for that port's instance. Operands: port 0 is P1, 1 is P2 -/
  | ptpMessageReceived (t : Nat) (port : Fin 2) (m : PtpMsg)
  /-- R48: Announce messages stop arriving within the timeout, so the port's PTP source becomes unavailable and Thyme may enter holdover. -/
  | announceReceiptTimeout (t : Nat) (port : Fin 2)
  /-- R50: No source becomes available within the start wait, so Thyme goes from acquiring to free-running. -/
  | startWaitExpiry (t : Nat)
  /-- R56: The holdover window expires, so Thyme goes from holdover to free-running. -/
  | holdoverWindowExpiry (t : Nat)
  /-- R50: The step-safe condition begins while Thyme is unaligned, so Thyme steps to the source and returns to acquiring. -/
  | stepSafeConditionBegins (t : Nat)
  /-- R48: A rising edge on PPS in steers Thyme's phase while the seconds are labelled and no PTP or twin source is available. Operands: offset of the edge against Thyme's whole second, ns -/
  | ppsInEdge (t : Nat) (offset : Int)
  /-- R45: Every 100 ms the reference frequency table is applied at the oscillator's temperature. Operands: oscillator temperature, 0.01 degC -/
  | temperatureCompensationUpdate (t : Nat) (temp : Int)
  /-- R276: Every 100 ms the converter gain temperature coefficients are applied from the baseplate channel. -/
  | converterCompensationUpdate (t : Nat)
  /-- R57: At the end of each 10 ms island window, the count of 100 MHz reference cycles is compared with 1 000 000. Operands: 100 MHz cycles counted in the window; what a reset that follows finds -/
  | thymeSupervisionWindow (t : Nat) (count : Nat) (i : StartIn)
  /-- R64: PPS out rises at each whole second of plant time unless it is squelched by the time state. Operands: the rising or the falling edge -/
  | ppsOutPulse (t : Nat) (rise : Bool)
  /-- R66: A pulse edge of TP1 or TP2 falls due on its once or periodic lattice. Operands: TP1 or TP2, its leading or trailing edge -/
  | timedOutputPulse (t : Nat) (output : Fin 2) (rise : Bool)
  /-- R65: Maintenance command 0x0801 arms a once pulse on TP1 or TP2, or is refused for a periodic output. Operands: output 1 or 2 of the parameter, start in s and ns of plant time, and its 2^-16 ns -/
  | armPulse (t : Nat) (m : Maint) (output : Nat) (start : PTime) (sub : Nat)
  /-- R69: A queue entry not read within 10 ms of its timestamp is discarded and counted. Operands: queue 0 is P1 to 4 Rantus -/
  | timestampEntryExpiry (t : Nat) (queue : Fin 5)
  /-- R63: Every 125 µs the twins exchange round-trip time messages, and the follower steers its Thyme to the leader. Operands: offset to the leader over the link and from the heartbeat edges, 2^-8 ns -/
  | twinTimeExchange (t : Nat) (offset edge : Int)
  /-- R63: The link and heartbeat-edge offsets have differed by more than 50 ns for 1 s, and the event is recorded. -/
  | twinOffsetDisagreement (t : Nat)
  /-- R60: Every 10 s a node's propagation delay is measured from its fixed-turnaround response, and any deviation from the installation value is recorded. Operands: measured delay, 2^-8 ns -/
  | propagationDelayMeasurement (t : Nat) (node : Fin 128) (delay : Nat)
  /-- R59: At each superframe start the leader sends the beacon, with its time block, acknowledgement bitmap and STS, on each radio channel. Operands: chan is used while the channels are unlocked (02 R62); locked ones share the instant and all four send -/
  | beaconTransmit (t : Nat) (chan : Fin 4)
  /-- R114: A report slot ends: the report is checked and its values are entered, or the node's values are marked missing. Operands: node to which the slot belongs, whether it is its relay's forward slot, the report received, and the reported links: node, candidate relay, first-path power (log 17) -/
  | reportSlotClose (t : Nat) (node : Fin 128) (forward : Bool) (r : Option ReportRx) (links : List (Nat × Nat × Int))
  /-- R79: Chive closes an alarm slot as quiet, decoded or energy, and writes the result into island memory. Operands: received preamble energy above the noise floor in 0.1 dB, alarm frame received, and the time of the island's action after the write, 0.1 us -/
  | alarmSlotClose (t : Nat) (chan : Fin 4) (slot : Fin 4) (energy : Int) (a : Option AlarmRx) (act : Nat)
  /-- R106: The leader sends the management frame of a window: an addressed command or contention, with the acknowledgement and poll bitmaps. Operands: the channel of the window -/
  | managementFrameTransmit (t : Nat) (chan : Fin 4)
  /-- R107: A node's response arrives in the response sub-window and is checked against its command. Operands: the response as received -/
  | responseReceived (t : Nat) (chan : Fin 4) (r : Resp)
  /-- R111: An addressed command gets no authentic response, so the leader repeats it with the same counter in the node's next addressed window. Operands: the channel whose response sub-window closed without an authentic response -/
  | noResponse (t : Nat) (chan : Fin 4)
  /-- R40: A sweep set closes at the end of its superframe, and the values it lacks are marked missing. Operands: time of the limit publication after the close, us -/
  | sweepSetClose (t : Nat) (limitUs : Nat)
  /-- R83: At its resolution instant an unidentified alarm is replaced by the named alarms, or cleared and recorded as energy without source. Operands: the channel -/
  | unidentifiedAlarmResolution (t : Nat) (chan : Fin 4)
  /-- R117: An admission request is received in contention and leads to a challenge or to a record of wrong class, position conflict or hold-out. Operands: the request as received -/
  | admissionRequestReceived (t : Nat) (chan : Fin 4) (r : AdmReq)
  /-- R117: A challenged node's tag is checked, and the node is admitted, admitted as pending, or rejected as a stranger or unlisted node. Operands: tagOk: the tag equals the CMAC of 04 R117; frameOk: the frame passed FCS, string and CMAC checks -/
  | challengeTagReceived (t : Nat) (chan : Fin 4) (node : Fin 128) (tagOk frameOk : Bool)
  /-- R117: No authentic report arrives within 25 superframes of the key Commit, so the node is released. Operands: the node -/
  | keyingTimeout (t : Nat) (node : Fin 128)
  /-- R120: The 60 s hold-out of a stranger's identifier ends. Operands: the identifier -/
  | strangerHoldOutExpiry (t : Nat) (ident : Nat)
  /-- R90: At a superframe boundary the link losses of the last 250 superframes move nodes to a relay or back to direct service. Operands: reported links: node, candidate relay, first-path power (log 17) -/
  | relayEvaluation (t : Nat) (links : List (Nat × Nat × Int))
  /-- R93: Each second a channel's occupancy is reported, and crossing 40 % for 10 s records the interference event. Operands: occupancy in 0.1 % -/
  | occupancyMeasurement (t : Nat) (chan : Fin 4) (occupancy : Nat)
  /-- R109: A node receives a management frame with command 0x00, which carries only the bitmaps and gets no response. Operands: the frame as received -/
  | commandNone (t : Nat) (m : Mgmt)
  /-- R86: Command 0x01 opens contention, and an unadmitted node whose backoff has run out sends an admission request. Operands: the frame as received -/
  | contentionOpen (t : Nat) (m : Mgmt)
  /-- R109: Command 0x02: the node answers at the fixed turnaround with beacon power and the turnaround check. Operands: beacon first-path power in 0.25 dB, turnaround check -/
  | linkTest (t : Nat) (m : Mgmt) (power : Int) (turn : Nat)
  /-- R109: Command 0x03 delivers one nonce part, and part 1 is answered with the node's challenge tag. Operands: nonce: the 8 octets of the part -/
  | challenge (t : Nat) (m : Mgmt) (part : Fin 2) (nonce : Nat)
  /-- R109: Command 0x04 admits the node with its transmit level, replacement flag and served-channel mask. Operands: parameters of the command -/
  | admitNode (t : Nat) (m : Mgmt) (level flags served : Nat)
  /-- R109: Command 0x05 writes 8 octets into the staging copy of a parameter area. Operands: parameters of the command -/
  | load (t : Nat) (m : Mgmt) (area offset : Nat) (data : List Nat)
  /-- R110: Command 0x06 checks the staging CRC and schedules the staging copy to become active at the activation sweep. Operands: the area, the CRC-32 carried, the activation sweep named -/
  | commit (t : Nat) (m : Mgmt) (area : Nat) (crc activation : Nat)
  /-- R109: Command 0x07 sets the node's relay role, partner and forward slots from an effective superframe. Operands: parameters of the command -/
  | relayAssign (t : Nat) (m : Mgmt) (role partner slot effective : Nat)
  /-- R109: Command 0x08 gives the node its propagation delay, which it adds to T_tx. Operands: 2^-8 ns -/
  | propagationDelay (t : Nat) (m : Mgmt) (delay : Nat)
  /-- R109: Command 0x09 returns the node to unadmitted, and the node zeroes its converters. Operands: the frame as received -/
  | release (t : Nat) (m : Mgmt)
  /-- R61: A node receives a beacon that passes its checks, steers its clock and updates its transfer quality. Operands: the beacon as received -/
  | nodeBeaconReceived (t : Nat) (node : Fin 128) (b : BeaconRx)
  /-- R76: An expected beacon is missed, and at the thresholds the node marks its samples timing-degraded or stops transmitting. Operands: failed: a beacon arrived and failed its CMAC or STS -/
  | nodeMissedBeacon (t : Nat) (node : Fin 128) (failed : Bool)
  /-- R76: For 10 s the node has received no beacon that passes its checks, so it returns to unadmitted. -/
  | nodeBeaconSilence (t : Nat) (node : Fin 128)
  /-- R122: 40 µs after a sweep ends, the node's threshold decision for that sweep is ready and may raise a new alarm. Operands: what the node measured -/
  | nodeAlarmDecision (t : Nat) (node : Fin 128) (m : NodeIn)
  /-- R78: At an alarm slot a node with an unacknowledged, unpolled alarm sends its alarm frame. Operands: the alarm slot -/
  | nodeAlarmSlot (t : Nat) (node : Fin 128) (slot : Fin 4)
  /-- R103: In its own slot a node sends its report of four sweeps. -/
  | nodeReportTransmit (t : Nat) (node : Fin 128)
  /-- R88: A relay forwards its relayed node's report unchanged in the forward slot. Operands: the relay; whether it received the relayed frame -/
  | relayForward (t : Nat) (node : Fin 128) (heard : Bool)
  /-- R110: At the activation sweep start a node makes a committed staging copy active. -/
  | nodeSetActivation (t : Nat) (node : Fin 128)
  /-- R85: An unanswered admission request raises the attempt count, and at the retry ceiling the node only listens. -/
  | nodeAdmissionBackoff (t : Nat) (node : Fin 128)
  /-- R85: The listening pause ends, and the node seeks admission again from attempt count 0. -/
  | listeningPauseExpiry (t : Nat) (node : Fin 128)
  /-- R155: At each tone window end a node forms its voltage phasors into the tone block. Operands: raw samples of the 6 400 grid instants per cell channel, µV -/
  | nodeToneWindowEnd (t : Nat) (node : Fin 128) (samples : List (List (Option Int)))
  /-- R130: At each sweep end the module forms the average, minimum and maximum of its own channels and publishes the module sweep record. Operands: what the converters delivered -/
  | sweepEnd (t : Nat) (x : SweepIn)
  /-- R141: After each window of 100 sweeps the branch voltage is compared with the cell sum, and a mismatch is reported or cleared. Operands: branch -/
  | branchVoltageCrossCheck (t : Nat) (b : Fin 4)
  /-- R142: After each window of 10 sweeps IS is compared with the IB sum of the joined branches. -/
  | currentCrossCheck (t : Nat)
  /-- R143: Each second with a branch open, the running shunt offset is updated, or an offset out of bounds is recorded. Operands: branch -/
  | shuntOffsetUpdate (t : Nat) (b : Fin 4)
  /-- R144: At a sweep start the background self-test swaps a channel onto its spare, returns it, or judges a fault. Operands: hv: the HV group, else the shunt group; the channel passed its internal zero; it passed its + and - reference points -/
  | spareSelfTestStep (t : Nat) (hv zeroOk refsOk : Bool)
  /-- R145: The IS offset test runs in a zero-current interval, or after 24 h of Run without one it is deferred. -/
  | isOffsetTest (t : Nat)
  /-- R148: Command 0x0101 checks the recalibration conditions and publishes the points that are needed. Operands: channel mask -/
  | calibrationBegin (t : Nat) (m : Maint) (mask : Nat)
  /-- R436: Command 0x0102 starts averaging 2 000 sweeps at the applied point and is answered STARTED. Operands: point index -/
  | capturePoint (t : Nat) (m : Maint) (point : Nat)
  /-- R436: The capture averaging ends, and the mean and noise are returned, or the point is refused for excess noise. Operands: the point whose averaging ends, and its channel entry -/
  | capturePointComplete (t : Nat) (point entry : Nat)
  /-- R149: Command 0x0103 checks the authorisation and limits, then writes and switches to the new calibration set. Operands: reference, authorisation -/
  | calibrationCommit (t : Nat) (m : Maint) (ref : List Nat) (a : AuthIn)
  /-- R351: The 1 800 s authorisation lockout ends. -/
  | authorisationLockoutExpiry (t : Nat)
  /-- R166: At each 1 s interval end the window-band impedance estimates, their bounds and efficiencies are computed and published. -/
  | impedanceIntervalEnd (t : Nat)
  /-- R157: At each 10 s sub-block end the low-band phasors are fitted and the low-band estimates are published. -/
  | lowBandSubblockEnd (t : Nat)
  /-- R153: A new tone plan gets the next identifier and is loaded into every node with one activation sweep at a tone window start. -/
  | tonePlanChange (t : Nat)
  /-- R163: Every 60 s at rest a plan swaps the even and odd balancing slots, and when rest ends a plan with an empty mask is issued. -/
  | restExcitationSwap (t : Nat)
  /-- R161: At a tone window start the module starts requested tones within the amplitude bound. -/
  | toneRequestStart (t : Nat)
  /-- R171: Every 10 s the equivalent-circuit fit runs per cell, and R0 is written to the island. -/
  | equivalentCircuitFit (t : Nat)
  /-- R174: Each second each cell's internal temperature is derived from its temperature-tone estimate. -/
  | internalTemperatureUpdate (t : Nat)
  /-- R175: A cell reaches equilibrium, and its temperature coefficients a and b are learned. Operands: cell that has reached equilibrium -/
  | equilibriumLearning (t : Nat) (cell : Fin 2048)
  /-- R179: Each 1 ms Sage cycle divides time among foreground, credit, master work and background. Operands: foreground work that arises in the cycle, µs -/
  | sageCycle (t : Nat) (work : Nat)
  /-- R194: A cell has stayed at rest current for the rest time, and a rest anchor is taken. Operands: cell -/
  | restAnchor (t : Nat) (cell : Fin 2048)
  /-- R195: The end-of-charge window has held for the hold time, and the branch's qualifying cells take an anchor. Operands: branch -/
  | endOfChargeAnchor (t : Nat) (b : Fin 4)
  /-- R196: The end-of-discharge window has held for the hold time, and the qualifying cells take an anchor. Operands: branch -/
  | endOfDischargeAnchor (t : Nat) (b : Fin 4)
  /-- R200: The fade-and-leakage check closes at its duration or at a learning pair and records its finding. Operands: cell -/
  | fadeAndLeakageCheckClose (t : Nat) (cell : Fin 2048)
  /-- R204: Every 10 s the relative leakage and precursor level of each cell are estimated. -/
  | leakageEstimate (t : Nat)
  /-- R208: At every sweep divisible by 100 the branch and string charge summaries and the cell charge records are published. -/
  | chargeSummaryPublication (t : Nat)
  /-- R562: A periodic telemetry object falls due and is published instance by instance. Operands: object identifier with instance 0 -/
  | periodicPublication (t : Nat) (oid : Nat)
  /-- R212: Every 1 s the snapshot item is written to the learned-state store. -/
  | snapshotWrite (t : Nat)
  /-- R212: A waiting node block or learned item is written in node-index order within 1 s of its change. -/
  | nodeBlockWrite (t : Nat)
  /-- R234: No new limits have arrived for 20 ms in Run, so the island sets stop-request until fresh limits arrive. -/
  | limitWatchdogExpiry (t : Nat)
  /-- R253: Every 10 s Basil takes the cell states and forms deviations, demands and capacities. -/
  | balancingPlanStart (t : Nat)
  /-- R249: The transport solve completes, sets are derived, and loads and commits begin. Operands: number of the plan solved -/
  | balancingSolveComplete (t : Nat) (plan : Nat)
  /-- R250: The solve exceeds the solver limit and is abandoned with status 0x03. -/
  | solverLimitExpiry (t : Nat)
  /-- R253: The Commit deadline 40 superframes before activation passes, and the plan and bus records are published. -/
  | commitDeadline (t : Nat)
  /-- R254: At the activation sweep the committed sets take effect, and unconfirmed nodes become set-uncertain. -/
  | planActivation (t : Nat)
  /-- R267: A temperature channel is evaluated at its rate class and yields its value, slope and staleness. Operands: channel number of 10 R264; the module channel's conversions since the last evaluation, 0.01 degC (a node sensor takes its reports); a local input reads open or short -/
  | temperatureChannelEvaluation (t : Nat) (chan : Nat) (conv : List Int) (openShort : Bool)
  /-- R269: Each second each node sensor is checked against the neighbour median and the internal temperature, which moves its sensor state. -/
  | sensorCrossCheck (t : Nat)
  /-- R275: A loop's valves or cooling equipment have been out for 60 s, so cooling is lost and the factor applies. Operands: the loop -/
  | coolingLoss (t : Nat) (loop : Fin 2)
  /-- R282: Each second the loop controller computes its output and the valve targets. -/
  | coolantLoopEvaluation (t : Nat)
  /-- R278: Each 1 ms the drive changes its velocity word within the acceleration and takes a new target. Operands: the drive, V1 or V2; what it estimated of its motor last -/
  | valveVelocityUpdate (t : Nat) (v : Fin 2) (m : MotorIn)
  /-- R278: A move reaches its target on a full step, the item is written, and the hold begins. Operands: the drive -/
  | valveMoveEnd (t : Nat) (v : Fin 2)
  /-- R278: The hold time after a move ends, and the drive de-energises. Operands: the drive -/
  | valveHoldTimeExpiry (t : Nat) (v : Fin 2)
  /-- R279: A stall persists for 8 ms, so the drive stops and marks its position uncertain, or declares valve fault on a second stall. Operands: the drive -/
  | valveStall (t : Nat) (v : Fin 2)
  /-- R279: 1 s after a stall the drive retries toward the target at half velocity. Operands: the drive -/
  | valveStallRetry (t : Nat) (v : Fin 2)
  /-- R281: Command 0x0602 starts homing a valve while service-enable is asserted. Operands: valve parameter: 0 V1, 1 V2 -/
  | homeValve (t : Nat) (m : Maint) (valve : Nat)
  /-- R269: Command 0x0601 returns a broken sensor to healthy. Operands: channel number -/
  | clearSensor (t : Nat) (m : Maint) (chan : Nat)
  /-- R302: A window comparator crossing on IB or IS opens the affected contactors within 10 µs, or in Hibernate records it and wakes. Operands: 0 to 3 IB, 4 IS; the current, mA -/
  | currentComparatorCrossing (t : Nat) (chan : Fin 5) (value : Int)
  /-- R292: A class C function's delay expires with its condition met, and it decides its action. Operands: function code; 0 to 3 the branch, 4 the string -/
  | classCDelayExpiry (t : Nat) (code group : Nat)
  /-- R289: The break wait expires, and coil-off is issued regardless of current. Operands: 0 to 3 the branch, 4 the string -/
  | breakWaitExpiry (t : Nat) (group : Fin 5)
  /-- R310: An automatic function's condition has been absent for its clear time, and the function resets. Operands: function code; 0 to 3 the branch, 4 the string, 5 closing permits -/
  | automaticReset (t : Nat) (code group : Nat)
  /-- R309: Command 0x0701 resets a named latched function whose condition has been absent, or is refused BUSY. Operands: function code, 0xFF for all -/
  | protectionReset (t : Nat) (m : Maint) (code : Nat)
  /-- R307: Each injection half-period ends, R_iso is computed, and functions 0x13 and 0x16 are evaluated. Operands: what the monitor measured -/
  | insulationHalfPeriod (t : Nat) (x : InsIn)
  /-- R306: Earlier strings of the coupling list have been uncoupled or silent for 2 s, so this module energises K12. -/
  | monitorCouplingWaitExpiry (t : Nat)
  /-- R315: A coil-on starts the pull-in phase, subject to the coil budget and supply. Operands: output number 1 to 12 -/
  | coilOn (t : Nat) (k : Nat)
  /-- R316: A waiting coil-on finds room in the coil budget and starts its pull-in. -/
  | coilBudgetAvailable (t : Nat)
  /-- R317: The coil supply reaches the pull-in minimum, and a waiting coil-on starts. Operands: coil supply, mV -/
  | coilSupplyRecovered (t : Nat) (supply : Int)
  /-- R317: The supply has not recovered within 500 ms, so the step is refused under condition 8 and the sequence ends. Operands: output -/
  | coilSupplyWaitExpiry (t : Nat) (k : Nat)
  /-- R315: The pull-in time ends, and the coil goes to current-regulated hold. Operands: output -/
  | pullInEnd (t : Nat) (k : Nat)
  /-- R315: A coil-off turns off the driver and opens the trip switch together. Operands: output -/
  | coilOff (t : Nat) (k : Nat)
  /-- R317: The coil supply has stayed below the hold minimum for 20 ms, so function 0x26 holds the string. Operands: coil supply, mV -/
  | coilSupplyLow (t : Nat) (supply : Int)
  /-- R318: An open coil or a driver cut-out raises function 0x23. Operands: output, measured current in mA, greatest current the driver saw since the last measurement in mA -/
  | coilCircuitFault (t : Nat) (k current peak : Nat)
  /-- R319: A mirror contact's new state is accepted after the debounce count, and the contactor is confirmed and the sequence advances. Operands: output; the state of the mirror contact that is to be accepted -/
  | feedbackAccepted (t : Nat) (k : Nat) (closed : Bool)
  /-- R320: A contactor is not confirmed closed within the close limit, so function 0x21 acts. Operands: output -/
  | closeLimitExpiry (t : Nat) (k : Nat)
  /-- R320: A contactor is not confirmed open within the drop-out limit, so function 0x20 acts. Operands: output -/
  | dropOutLimitExpiry (t : Nat) (k : Nat)
  /-- R326: Pre-charge is not complete within its time limit, or no P0 occurs within 100 ms, so function 0x24 acts. -/
  | prechargeTimeLimitExpiry (t : Nat)
  /-- R327: The pre-charge fault lockout ends, and function 0x24 resets. -/
  | prechargeLockoutExpiry (t : Nat)
  /-- R324: With auto-connect armed, a connection begins at the first sweep start at which R323 holds. -/
  | autoConnect (t : Nat)
  /-- R330: The leave wait expires, and the branch opens if below the leave break limit, or the leave is abandoned. -/
  | leaveWaitExpiry (t : Nat)
  /-- R602: A connect operation at the string starts the connection sequence, or is answered DONE, BUSY or REFUSED. Operands: the operation frame -/
  | connectOperation (t : Nat) (o : OpFrame)
  /-- R331: A disconnect operation holds the string and opens it in order, ending any sequence in hand. Operands: the operation frame -/
  | disconnectOperation (t : Nat) (o : OpFrame)
  /-- R602: A join operation returns a held-out branch to pending, or is answered DONE or REFUSED. Operands: the operation frame -/
  | joinBranchOperation (t : Nat) (o : OpFrame)
  /-- R330: A leave operation marks a joined branch as leaving, or holds out the branch, or is refused for the last branch. Operands: the operation frame -/
  | leaveBranchOperation (t : Nat) (o : OpFrame)
  /-- R337: An input has read low for its filter time, so it enters demand and the island issues its function's action. Operands: the input, and for how long it has read low in every sample outside its pulse window -/
  | safetyInputDemand (t : Nat) (x : InputRun)
  /-- R337: An input has read high for its filter time and returns to permit. Operands: the input, and for how long it has read high in every sample outside its pulse window -/
  | safetyInputPermit (t : Nat) (x : InputRun)
  /-- R338: T1 or T2 emits its pulse, and the inputs fed by it are checked for pulse, short and source faults. Operands: T1 or T2; inputs 1 to 8 that read high through the whole pulse window; what the source itself was measured at -/
  | testPulse (t : Nat) (src : Fin 2) (high : List Nat) (volts : SourceIn)
  /-- R339: The channels of a pair have disagreed beyond the discrepancy time, so fault code 2 raises function 0x30. Operands: pair -/
  | discrepancyTimeExpiry (t : Nat) (p : Fin 4)
  /-- R342: An energised safe output's switches are each opened for 200 µs and read back. Operands: SO1 or SO2; none when the test begins, else the verdicts of switches A and B at its end -/
  | darkTest (t : Nat) (o : Fin 2) (verdict : Option (Bool × Bool))
  /-- R342: A de-energised output's switches are each closed for 200 µs and read back. Operands: as for the dark test -/
  | brightTest (t : Nat) (o : Fin 2) (verdict : Option (Bool × Bool))
  /-- R343: 1 s after the output's state allows it, an interrupted test runs again in full. Operands: SO1 or SO2 -/
  | safeOutputTestRerun (t : Nat) (o : Fin 2)
  /-- R345: Every 600 s the driver of each coil in hold is opened for 50 µs and the clamp response is checked. Operands: output; the clamp was reached in time -/
  | driverDipTest (t : Nat) (k : Nat) (pass : Bool)
  /-- R345: 300 s after a driver test the coil's trip switch is opened for 50 µs and checked. Operands: output; the verdict; the partner's test, in which this twin tests its cross-hold switch -/
  | tripSwitchDipTest (t : Nat) (k : Nat) (pass partner : Bool)
  /-- R345: Every 600 s a follower briefly drives each coil in hold and checks its own current rises and falls. Operands: output; the verdict -/
  | followerDriverTest (t : Nat) (k : Nat) (pass : Bool)
  /-- R359: Every 5 µs a twin sends its heartbeat frame and toggles both discretes, and the island checks liveness. -/
  | heartbeatInstant (t : Nat)
  /-- R375: A partner heartbeat arrives on a path and updates path status and shadowed coil state. Operands: path 0 link, 1 discrete A, 2 discrete B; the frame (link only); arrival after the due instant in ns -/
  | heartbeatReceived (t : Nat) (path : Fin 3) (hb : HbIn) (late : Nat)
  /-- R360: Nothing arrives within 1 µs after a heartbeat's due instant, and after 3 misses the path is lost. Operands: the path -/
  | heartbeatMissed (t : Nat) (path : Fin 3)
  /-- R361: A withdraw frame from the partner declares it failed. Operands: header and cause -/
  | withdrawFrameReceived (t : Nat) (hdr : TwHdr) (cause : Nat)
  /-- R362: After the partner's cross-hold or 100 µs, the withdrawing twin opens its trip switches and warm-resets. Operands: what the reset that follows finds -/
  | withdrawTripHoldExpiry (t : Nat) (i : StartIn)
  /-- R436: Command 0x0A01 requests a role swap by handover. Operands: session context -/
  | handOver (t : Nat) (m : Maint)
  /-- R367: The leader sends a handover frame naming the instant T_h, if the follower is ready. Operands: cause of R362 -/
  | handoverRequest (t : Nat) (cause : Nat)
  /-- R367: The follower receives the handover frame and acknowledges it in its next heartbeat. Operands: header, acknowledge octet, T_h -/
  | handoverFrameReceived (t : Nat) (hdr : TwHdr) (ack : Bool) (sweep cycle : Nat)
  /-- R367: At T_h the follower sends the streams and becomes leader, and the old leader stops. -/
  | handoverInstant (t : Nat)
  /-- R371: A syncing twin completes its state transfer and lock, closes its trip switches and becomes ready follower. -/
  | syncComplete (t : Nat)
  /-- R363: The pairing wait expires in starting, and the twin leads alone or waits according to the partner's discretes. Operands: the instant at which the wait was to end, local ns -/
  | pairingWaitExpiry (t : Nat) (end_ : Nat)
  /-- R374: A shadow, bulk-state or learned-state item frame from the partner updates the shadowed state or writes the item. Operands: the frame -/
  | twinShadowFrame (t : Nat) (f : Machine.ShadowIn)
  /-- R312: Once per superframe the partner's island frame brings its reception, safety inputs and decisions for union evaluation. Operands: the frame -/
  | islandFrame (t : Nat) (f : IslandIn)
  /-- R386: 400 µs before a cycle start the plant master allocates the plant set-point over the eligible strings. Operands: what the master's load makes it shed: 0 nothing, 1 localisation records, 2 stream ingest too -/
  | dispatchAllocation (t : Nat) (shed : Fin 3)
  /-- R381: At each dispatch cycle start the plant master multicasts the set-points and phases. -/
  | setpointMulticastSend (t : Nat)
  /-- R383: A leader accepts a multicast by epoch and applies its own entry, or ramps to zero. Operands: header and content -/
  | setpointMulticastReceived (t : Nat) (h : DHdr) (m : McIn)
  /-- R383: No multicast has been accepted for the master-loss hold, so the leader ramps to zero. -/
  | masterLossHoldExpiry (t : Nat)
  /-- R389: At a sweep divisible by 1 000, at least 20 ms after its multicast, a string applies a changed carrier phase. -/
  | carrierPhaseApply (t : Nat)
  /-- R385: The plant master takes a string status for eligibility and allocation. Operands: header and content -/
  | stringStatusReceived (t : Nat) (h : DHdr) (x : Machine.StringStat)
  /-- R390: A client's interface reset frame opens a new dispatch session. Operands: the frame; only header, client and port count -/
  | dispatchInterfaceReset (t : Nat) (q : ReqIn)
  /-- R387: Request type 0x01 sets the plant target, ramp, lifetime and horizon, and is answered in the cycle that takes it. Operands: the frame -/
  | plantSetpointRequest (t : Nat) (q : ReqIn)
  /-- R394: Request type 0x02 becomes a connect operation for the named string. Operands: the frame -/
  | connectRequest (t : Nat) (q : ReqIn)
  /-- R394: Request type 0x03 becomes a disconnect operation. Operands: the frame -/
  | disconnectRequest (t : Nat) (q : ReqIn)
  /-- R394: Request type 0x04 becomes a join operation. Operands: the frame -/
  | joinBranchRequest (t : Nat) (q : ReqIn)
  /-- R394: Request type 0x05 becomes a leave operation. Operands: the frame -/
  | leaveBranchRequest (t : Nat) (q : ReqIn)
  /-- R396: Request type 0x06 excludes a string from allocation from the next cycle. Operands: the frame -/
  | excludeString (t : Nat) (q : ReqIn)
  /-- R396: Request type 0x07 includes a string again from the next cycle. Operands: the frame -/
  | includeString (t : Nat) (q : ReqIn)
  /-- R387: No later set-point request arrives within the lifetime, so the target becomes 0. -/
  | setpointLifetimeExpiry (t : Nat)
  /-- R395: Every 20 ms without a result the plant master repeats the operation frame. Operands: operation identifier -/
  | operationFrameRepeat (t : Nat) (ident : Nat)
  /-- R396: At 450 ms after receipt without a result the request is answered TIMEOUT. Operands: operation identifier -/
  | operationTimeout (t : Nat) (ident : Nat)
  /-- R395: A string's operation result arrives and is forwarded as the response. Operands: header and result -/
  | operationResultReceived (t : Nat) (h : DHdr) (ident status reason sweep : Nat)
  /-- R399: The plant master takes a stream frame against its token bucket, or discards it and doubles the decimation. Operands: header and content -/
  | streamFrameIngest (t : Nat) (h : DHdr) (f : StreamIn)
  /-- R399: After 10 s without a discard a string's decimation halves. Operands: string index -/
  | streamDecimationRelax (t : Nat) (string : Nat)
  /-- R403: After the master timeout plus its stagger, a candidate sends a claim with a new epoch. -/
  | claimSend (t : Nat)
  /-- R403: Every 2 ms a claimant repeats its claim. -/
  | claimRepeat (t : Nat)
  /-- R403: A claim is received, and a candidate hearing a better claim abandons its own. Operands: header, claim epoch, rank and flag -/
  | claimReceived (t : Nat) (h : DHdr) (epoch rank : Nat) (abandoned : Bool)
  /-- R403: The claim window passes with no better claim, so the candidate becomes plant master. -/
  | claimWindowExpiry (t : Nat)
  /-- R405: Command 0x0B01 starts a planned master handover to a named candidate. Operands: session context and candidate string -/
  | masterHandOver (t : Nat) (m : Maint) (string : Nat)
  /-- R405: No operation is in flight, so the handover frame is sent, or the command is refused when the 500 ms wait expires. -/
  | masterHandoverDrained (t : Nat)
  /-- R405: The target takes the latest handover frame's set-point state and exclusions. Operands: header, target string and content -/
  | masterHandoverFrameReceived (t : Nat) (h : DHdr) (target : Nat) (f : Machine.Handover)
  /-- R405: At the handover cycle the target sends the multicast and the old master stops. -/
  | masterHandoverCycle (t : Nat)
  /-- R411: At each converter cycle start the framer sends the Rantus command frame. -/
  | commandFrameTransmit (t : Nat)
  /-- R416: A converter status frame of the present cycle is checked and used. Operands: the frame -/
  | statusFrameReceived (t : Nat) (f : Machine.StatusIn)
  /-- R419: No usable status frame arrives by the deadline, and after 3 misses the converter counts as not ready. -/
  | statusDeadlineMissed (t : Nat)
  /-- R414: A carrier-sync pulse is emitted for a carrier reference instant while carrier phase valid is set. -/
  | carrierSyncPulse (t : Nat)
  /-- R423: A plant port has lost link for 100 ms, and the loss of the port or of the plant network is recorded. Operands: 0 P1, 1 P2, 2 X13 -/
  | plantPortDown (t : Nat) (port : Fin 3)
  /-- R422: PRP supervision frames are sent at the configured interval. -/
  | prpSupervisionTransmit (t : Nat)
  /-- R424: An echo request is answered within the rate limit, or discarded and counted. Operands: port; the source lies in the own unicast prefix; identifier and sequence -/
  | icmpEchoRequest (t : Nat) (port : Fin 3) (own : Bool) (ident : Nat)
  /-- R424: An ARP or neighbour discovery request is answered. Operands: port; an own address is asked for -/
  | addressResolutionRequest (t : Nat) (port : Fin 3) (own : Bool)
  /-- R425: A frame outside the accepted set is discarded and counted. Operands: port; 0 outside the accepted set, 1 duplicate, 2 wrong LAN, 3 errored -/
  | unacceptedFrameDiscard (t : Nat) (port : Fin 3) (why : Fin 4)
  /-- R429: A telemetry client's interface reset opens a new session and ends its previous subscriptions. Operands: client, sequence and port; header checks passed -/
  | telemetryInterfaceReset (t : Nat) (m : Maint) (ok : Bool)
  /-- R431: A subscribe frame replaces the session's subscriptions, or is rejected at the first bad selector. Operands: session context; header checks passed; destination port and selectors; a reserved bit is set, which the module ignores (00 R4) -/
  | subscribe (t : Nat) (m : Maint) (ok : Bool) (dest : Nat) (sels : List Machine.Selector) (reserved : Bool)
  /-- R430: A read frame returns the latest publication of up to 8 objects. Operands: client, sequence and port; header checks passed; object identifiers -/
  | read (t : Nat) (m : Maint) (ok : Bool) (ids : List Nat)
  /-- R432: A publication is delivered to its selectors in data frames within the session's token bucket. Operands: session; object (identifier with instance 0), instances of a change-driven publication; sweeps since the plant epoch, for a periodic publication; change-driven -/
  | dataPublication (t : Nat) (key : Fin 9) (object first last sweep : Nat) (change : Bool)
  /-- R434: After 10 s without a dropped frame and within 45 % of the bucket rate, a session's shed factor halves. Operands: session -/
  | shedFactorRelax (t : Nat) (key : Fin 9)
  /-- R436: A command with a reserved code is answered INVALID. Operands: session context and command code -/
  | unknownCommand (t : Nat) (m : Maint) (code : Nat)
  /-- R117: Command 0x0501 confirms a pending node, clears replacement-pending and removes the derating. Operands: session context and node index -/
  | confirmReplacement (t : Nat) (m : Maint) (node : Nat)
  /-- R440: A GOOSE frame is repeated at the doubling interval up to the maximum time. Operands: dataset: 0 trip, 1 interlock, 2 status -/
  | gooseRepetition (t : Nat) (set : Fin 3)
  /-- R441: A subscribed GOOSE frame is checked and feeds function 0x15 or the coupling status. Operands: the frame -/
  | gooseFrameReceived (t : Nat) (f : GooseIn)
  /-- R441: timeAllowedToLive expires without a further accepted frame, so the subscription is silent. Operands: entry of record 0x0905 -/
  | gooseSubscriptionSilent (t : Nat) (sub : Fin 16)
  /-- R451: A periodic or change-driven transmission falls due, and the transmit object becomes pending. Operands: channel (0 AUX-A, 1 AUX-B) and message entry of record 0x0F02 -/
  | canTransmissionDue (t : Nat) (chan : Fin 2) (msg : Fin 16)
  /-- R451: A pending frame is transmitted successfully, and its alive counter advances. Operands: channel and message entry -/
  | canTransmissionSuccess (t : Nat) (chan : Fin 2) (msg : Fin 16)
  /-- R456: A transmission ends in an error, and the error counters and the identifier-conflict count are updated. Operands: channel and message entry; a bit error after the arbitration field; the error counts in the transmit error counter under ISO 11898-1 -/
  | canTransmitError (t : Nat) (chan : Fin 2) (msg : Fin 16) (afterArb counts : Bool)
  /-- R455: After 128 × 11 recessive bits a bus-off channel recovers, or stays off after a third bus-off in 60 s. Operands: channel -/
  | canBusOffRecovery (t : Nat) (chan : Fin 2)
  /-- R450: A received frame replaces its receive object, or is counted as unknown or malformed. Operands: channel and frame -/
  | canFrameReceived (t : Nat) (chan : Fin 2) (f : CanRx)
  /-- R453: Each 1 s window's bus load is measured, and 10 windows above or below 70 % are recorded. Operands: channel and bus load of the window, 0.1 % -/
  | canLoadWindow (t : Nat) (chan : Fin 2) (load : Nat)
  /-- R449: Equipment status is not fresh within its timeout, so the equipment becomes unavailable. -/
  | equipmentTimeout (t : Nat)
  /-- R457: On Hibernate entry the final status frames succeed, or 20 ms pass, and the transceivers sleep. -/
  | canSleep (t : Nat)
  /-- R462: A 24 V feed has stood above 18 V for 10 ms and becomes present. Operands: the feed, and what a start finds -/
  | feedPresent (t : Nat) (feed : Fin 2) (i : StartIn)
  /-- R462: A feed has stood below 16.5 V for 500 µs, and its loss is recorded. Operands: the feed -/
  | feedLost (t : Nat) (feed : Fin 2)
  /-- R482: The second feed is lost, so the brown-out flush begins. -/
  | bothFeedsLost (t : Nat)
  /-- R482: The brown-out flush ends, and the module goes to Off, Reset-locked or a warm reset. Operands: what a reset finds -/
  | flushEnd (t : Nat) (i : StartIn)
  /-- R463: Every start row, hold-up and arming is complete, and the module enters Watch. -/
  | startComplete (t : Nat)
  /-- R464: In Unconfigured an image accepted on X13 is written to the plug, followed by a cold reset. Operands: the image, and what the cold reset finds -/
  | configurationAcceptedOnX13 (t : Nat) (img : Image) (i : StartIn)
  /-- R466: A non-zero set-point, current above the Watch current, or a master role raises a Run request and starts the fast clocks. -/
  | runRequest (t : Nat)
  /-- R466: The first regular superframe after the clocks are stable begins Run. -/
  | runEntry (t : Nat)
  /-- R468: The Watch conditions have held for the Run dwell, so the module enters Watch at the next superframe divisible by 25. -/
  | runDwellExpiry (t : Nat)
  /-- R469: The Hibernate conditions have held for the delay, so Hibernate entry begins. -/
  | hibernateDelayExpiry (t : Nat)
  /-- R469: Entry completes, and only the always-on domain and comparators stay on. -/
  | hibernateEntryComplete (t : Nat)
  /-- R471: An enabled wake source sets its latch, which aborts an entry or starts a wake. Operands: the source, code less 1 -/
  | wakeLatchSet (t : Nat) (source : Fin 7)
  /-- R473: The module wakes from Hibernate, checks its memory copies and enters Watch. Operands: what the wake finds -/
  | wakeSequence (t : Nat) (i : StartIn)
  /-- R472: Level wake sources are re-sampled when entry would begin again. Operands: the level sources asserted -/
  | wakeServiceComplete (t : Nat) (levels : List Nat)
  /-- R475: A warm reset holds and opens the string if needed, then restarts the cores and stacks. Operands: the cause of R479, and what the reset finds -/
  | warmReset (t : Nat) (cause : Nat) (i : StartIn)
  /-- R475: A cold reset additionally re-initialises analog, calibration and the plug read. Operands: the cause of R479, and what the reset finds -/
  | coldReset (t : Nat) (cause : Nat) (i : StartIn)
  /-- R475: A network stack fault restarts every dispatch and telemetry session only. -/
  | interfaceLevelReset (t : Nat)
  /-- R475: The application-cluster watchdog expires, and a warm reset with cause 0x04 follows. Operands: what the reset finds -/
  | applicationClusterWatchdog (t : Nat) (i : StartIn)
  /-- R478: A command reset has waited 60 s for a partner that is not ready, and proceeds with withdrawal. -/
  | resetDeferralExpiry (t : Nat)
  /-- R480: A press of the reset pushbutton is released, causing a warm reset, a cold reset or nothing by its length. Operands: length of the press in ms, and what a reset finds -/
  | resetPushbuttonRelease (t : Nat) (heldMs : Nat) (i : StartIn)
  /-- R480: A press reaches 10 s, so it is recorded as held and disregarded. -/
  | resetButtonHeld (t : Nat)
  /-- R588: The service-enable input has been closed or open for 50 ms, and it is asserted or deasserted. Operands: whether it is asserted -/
  | serviceEnableChange (t : Nat) (asserted : Bool)
  /-- R484: Every 24 h the hold-up store is measured, and reduced hold-up is recorded. Operands: hold-up measured at 58 W -/
  | holdUpMeasurement (t : Nat) (ms : Nat)
  /-- R484: In Hibernate without feeds the store falls to its minimum, and the module is Off. -/
  | alwaysOnMinimumReached (t : Nat)
  /-- R512: Update frame 0x20 offers an image header, which is checked in 9 stages and opens a session or resumes. Operands: session context and header -/
  | updateOffer (t : Nat) (m : Maint) (h : ImgHeader)
  /-- R510: Update frame 0x22 stores data at the next offset, within the source's bucket. Operands: session context, offset and length -/
  | updateData (t : Nat) (m : Maint) (offset len : Nat)
  /-- R514: Update frame 0x24 starts verification of the complete payload and is answered STARTED. Operands: session context -/
  | updateVerify (t : Nat) (m : Maint)
  /-- R514: Verification ends, and the image is staged or refused. Operands: the image's records and the outcomes of its checks; twin-link versions it speaks -/
  | verificationComplete (t : Nat) (img : Image) (versions : List Nat)
  /-- R517: Update frame 0x26 schedules activation of a staged image, checking the authorisation. Operands: session context, image type, activation instant and deadline, authorisation -/
  | updateSchedule (t : Nat) (m : Maint) (kind : Nat) (a0 deadline : PTime) (auth : AuthIn)
  /-- R509: Update frame 0x28 removes a staged image and its schedule. Operands: session context and image type -/
  | updateCancel (t : Nat) (m : Maint) (kind : Nat)
  /-- R507: 60 s without an update frame ends the update session. -/
  | updateSessionTimeout (t : Nat)
  /-- R518: From A0 the first sweep start at which the activation conditions hold activates the staged image. Operands: the plug as found, and whether the directory write passes its read-back -/
  | activation (t : Nat) (i : StartIn) (dirOk : Bool)
  /-- R518: The deadline passes before activation, so the schedule lapses. -/
  | activationLapsed (t : Nat)
  /-- R520: 600 s of probation pass without failure, and the image is committed. -/
  | probationEnd (t : Nat)
  /-- R520: The start or ready state is not reached in time during probation, causing rollback or revert. Operands: what the reset finds -/
  | probationStartTimeout (t : Nat) (i : StartIn)
  /-- R523: The partner activates at the commit instant plus the follow delay, by handover. Operands: as ACTIVATION -/
  | followActivation (t : Nat) (i : StartIn) (dirOk : Bool)
  /-- R523: A follow activation has waited 600 s for its partner, and the wait is recorded. -/
  | followActivationWaiting (t : Nat)
  /-- R525: At the roll sweep the beacons switch to the new K_beacon, or the roll is postponed. -/
  | rollSweep (t : Nat)
  /-- R527: The recovery ROM writes the verified image as trial or committed and resets. Operands: the outcomes of the checks, and what the reset finds -/
  | recoveryVerificationComplete (t : Nat) (h : ImgHeader) (i : StartIn)
  /-- R533: 1 s after its last occurrence a record closes and enters the open block. Operands: event and subject of the open record -/
  | eventRecordClose (t : Nat) (ev : Ev) (subject : Nat)
  /-- R538: The open block is committed when full or 1 s after its first record, and read back. Operands: read-back passed; else the physical erase block and the ring blocks it held -/
  | eventBlockCommit (t : Nat) (good : Bool) (eraseBlock blocks : Nat)
  /-- R535: Each 1 s window of the write ceiling starts anew. -/
  | writeCeilingWindow (t : Nat)
  /-- R545: At each capture window end the window and cumulative monitor records are published. Operands: monitor number - 1 -/
  | monitorWindowEnd (t : Nat) (mon : Fin 15)
  /-- R559: Each 1 s window of dispatch delivery is judged for late or lost frames. -/
  | plantDeliveryWindow (t : Nat)
  /-- R555: The scrub reads and corrects memories on its schedule. Operands: working memory or the stores; errors corrected; an uncorrectable error in working memory, and what the reset finds -/
  | memoryScrub (t : Nat) (stores : Bool) (corrected : Nat) (uncorrectable : Bool) (i : StartIn)
  /-- R362: The island's own checks find a fault, such as a lockstep mismatch: the twin withdraws at once with cause 0x03, or its island halts and falls silent. Operands: whether the island halted and falls silent; what a reset finds -/
  | islandFault (t : Nat) (halted : Bool) (i : StartIn)
  /-- R357: With no island refresh, a twin's series trip switches open 8 µs to 12 µs after the last refresh. -/
  | tripSwitchRefreshExpiry (t : Nat)
  /-- R35: The application cluster stops; Chive keeps its last schedule and sends only bitmap management frames, and the liveness word stops advancing. -/
  | applicationClusterHalt (t : Nat)
  /-- R465: The presence contact of X14 opens while the module runs, and the removal is recorded with no change of behaviour. -/
  | bayPlugRemoved (t : Nat)
  /-- R240: A cell node starts or restarts, zeroes its converters, discards its sets and is unadmitted. -/
  | nodeStart (t : Nat) (node : Fin 128)
  /-- R402: A plant port regains link, which can restore candidacy and PTP on that port. Operands: 0 P1, 1 P2, 2 X13 -/
  | plantPortUp (t : Nat) (port : Fin 3)
  /-- R52: At its 1 s intervals the module sends Pdelay_Req, and as boundary master Sync and Announce, then the Follow_Up from the timestamp entry. -/
  | ptpMessageTransmit (t : Nat) (port : Fin 2) (kind : PtpKind)
  /-- R454: A channel detects an error while receiving, updates its receive error counter and may change confinement state. Operands: channel; the error counts 8 under ISO 11898-1, else 1 -/
  | canReceiveError (t : Nat) (chan : Fin 2) (eight : Bool)
deriving DecidableEq, Repr

end Sys2Proof
end

