-- ==== Sys2Proof/Machine/State.lean ====
section
/-! DEFINITION. Sys2Proof/Machine/State.lean: the machine's state as plain data, its reset, and the reasons a step can
stop. Every field is listed, with its rule and reset value, under State in INVENTORY.md. -/

namespace Sys2Proof.Machine

/-- The whole block. -/
structure State where
  /-- Module state, feeds, resets, wake (chapter 19) -/
  pw : Power := {}
  /-- Time base (chapter 02) -/
  th : Thyme := {}
  /-- Chive and node admission (chapters 03, 04) -/
  ra : Radio := {}
  /-- Acquisition (chapter 05) -/
  acq : Acq := {}
  /-- Impedance spectroscopy and Sage time (chapter 06) -/
  sg : Sage := {}
  /-- Charge, capacity and health (chapter 07) -/
  ch : Charge := {}
  /-- Power and current limits (chapter 08) -/
  lim : Limits := {}
  /-- Active balancing (chapter 09) -/
  ba : Basil := {}
  /-- Thermal management and valves (chapter 10) -/
  tm : Therm := {}
  /-- Protection (chapter 11) -/
  pr : Prot := {}
  /-- Contactors, pre-charge, joining (chapter 12) -/
  ct : Cont := {}
  /-- Safety inputs, outputs and authorisation (chapter 13) -/
  sf : Safety := {}
  /-- Twin pair (chapter 14) -/
  tw : Twin := {}
  /-- Plant master role (chapter 15) -/
  ma : Master := {}
  /-- The string's side of dispatch (chapter 15) -/
  di : Dispatch := {}
  /-- Converter link (chapter 16) -/
  rt : Rantus := {}
  /-- Plant network, telemetry, GOOSE (chapters 17, 24) -/
  nt : Net := {}
  /-- Auxiliary CAN (chapter 18) -/
  cn : Can := {}
  /-- Bay plug and configuration (chapter 20) -/
  pg : Plug := {}
  /-- Firmware and configuration update (chapter 21) -/
  up : Update := {}
  /-- Event recorder (chapter 22) -/
  ro : Rosemary := {}
  /-- Monitors and guarantees (chapters 22, 23) -/
  dl : Dill := {}
  /-- Learned-state store (R211 to R214) -/
  ls : Learned := {}
  /-- running configuration records (20 R500); the defaults while no image runs (log 5) -/
  cfg : Cfg := {}
  /-- local elapsed time, ns: the latest time operand seen (model's own; log 1) -/
  now : Nat := 0
  /-- what the last command emitted (model's own view of the outputs) -/
  out : List Emission := []
  /-- index of the next free value (model's own; log 10; DESIGN CHOICE 0) -/
  freeIdx : Nat := 0
  /-- commands waiting, first in first out -/
  pending : List Instr := []
deriving DecidableEq, Repr

/-- The state before any feed has been present (log 3): Off, nothing stored, and every register at the value its
field's line names. -/
def State.reset : State := {}

/-- Reasons a step stops with a fault. No command of this block faults: the constructor is raised by nobody. -/
inductive Fault where
  /-- Raised by no meaning: the spec gives every command an effect. Safe. -/
  | none
deriving DecidableEq, Repr

/-- Reasons a step refuses. -/
inductive Refusal where
  /-- Raised by Dispatch alone, for a command without a meaning yet. Safe. -/
  | notModelled (mnemonic : String)
deriving DecidableEq, Repr

/-- Module state, feeds, resets, wake (chapter 19): an update of this part of the state alone. -/
def State.onPower (s : State) (f : Power → Power) : State := { s with pw := f s.pw }

/-- Time base (chapter 02): an update of this part of the state alone. -/
def State.onThyme (s : State) (f : Thyme → Thyme) : State := { s with th := f s.th }

/-- Chive and node admission (chapters 03, 04): an update of this part of the state alone. -/
def State.onRadio (s : State) (f : Radio → Radio) : State := { s with ra := f s.ra }

/-- Acquisition (chapter 05): an update of this part of the state alone. -/
def State.onAcq (s : State) (f : Acq → Acq) : State := { s with acq := f s.acq }

/-- Impedance spectroscopy and Sage time (chapter 06): an update of this part of the state alone. -/
def State.onSage (s : State) (f : Sage → Sage) : State := { s with sg := f s.sg }

/-- Charge, capacity and health (chapter 07): an update of this part of the state alone. -/
def State.onCharge (s : State) (f : Charge → Charge) : State := { s with ch := f s.ch }

/-- Power and current limits (chapter 08): an update of this part of the state alone. -/
def State.onLimits (s : State) (f : Limits → Limits) : State := { s with lim := f s.lim }

/-- Active balancing (chapter 09): an update of this part of the state alone. -/
def State.onBasil (s : State) (f : Basil → Basil) : State := { s with ba := f s.ba }

/-- Thermal management and valves (chapter 10): an update of this part of the state alone. -/
def State.onTherm (s : State) (f : Therm → Therm) : State := { s with tm := f s.tm }

/-- Protection (chapter 11): an update of this part of the state alone. -/
def State.onProt (s : State) (f : Prot → Prot) : State := { s with pr := f s.pr }

/-- Contactors, pre-charge, joining (chapter 12): an update of this part of the state alone. -/
def State.onCont (s : State) (f : Cont → Cont) : State := { s with ct := f s.ct }

/-- Safety inputs, outputs and authorisation (chapter 13): an update of this part of the state alone. -/
def State.onSafety (s : State) (f : Safety → Safety) : State := { s with sf := f s.sf }

/-- Twin pair (chapter 14): an update of this part of the state alone. -/
def State.onTwin (s : State) (f : Twin → Twin) : State := { s with tw := f s.tw }

/-- Plant master role (chapter 15): an update of this part of the state alone. -/
def State.onMaster (s : State) (f : Master → Master) : State := { s with ma := f s.ma }

/-- The string's side of dispatch (chapter 15): an update of this part of the state alone. -/
def State.onDispatch (s : State) (f : Dispatch → Dispatch) : State := { s with di := f s.di }

/-- Converter link (chapter 16): an update of this part of the state alone. -/
def State.onRantus (s : State) (f : Rantus → Rantus) : State := { s with rt := f s.rt }

/-- Plant network, telemetry, GOOSE (chapters 17, 24): an update of this part of the state alone. -/
def State.onNet (s : State) (f : Net → Net) : State := { s with nt := f s.nt }

/-- Auxiliary CAN (chapter 18): an update of this part of the state alone. -/
def State.onCan (s : State) (f : Can → Can) : State := { s with cn := f s.cn }

/-- Bay plug and configuration (chapter 20): an update of this part of the state alone. -/
def State.onPlug (s : State) (f : Plug → Plug) : State := { s with pg := f s.pg }

/-- Firmware and configuration update (chapter 21): an update of this part of the state alone. -/
def State.onUpdate (s : State) (f : Update → Update) : State := { s with up := f s.up }

/-- Event recorder (chapter 22): an update of this part of the state alone. -/
def State.onRosemary (s : State) (f : Rosemary → Rosemary) : State := { s with ro := f s.ro }

/-- Monitors and guarantees (chapters 22, 23): an update of this part of the state alone. -/
def State.onDill (s : State) (f : Dill → Dill) : State := { s with dl := f s.dl }

/-- Learned-state store (R211 to R214): an update of this part of the state alone. -/
def State.onLearned (s : State) (f : Learned → Learned) : State := { s with ls := f s.ls }

end Sys2Proof.Machine
end

