-- ==== Sys2Proof/Machine/Ops.lean ====
section
/-! DEFINITION. Sys2Proof/Machine/Ops.lean: the operations every command's meaning is built from: time, ordering of
sweeps, big-endian encoding, clamping and rounding, emissions, free values, and access to the tables of State. -/

namespace Sys2Proof.Machine

open Sys2Proof

/-! ### Numbers -/

/-- 2^32. -/
def two32 : Nat := 4294967296

/-- Octets of a natural number, most significant first, in `w` octets (00 R3). -/
def octetsOf : Nat → Nat → List Nat
  | 0, _ => []
  | w + 1, n => (n / 256 ^ w) % 256 :: octetsOf w n

/-- The two's complement image of an integer in `w` octets. -/
def wrapInt (w : Nat) (v : Int) : Nat := (v % (256 ^ w : Int)).toNat

/-- Octets of a list of fields, each a width in octets and a value, most significant octet first. -/
def enc (fs : List (Nat × Int)) : List Nat := fs.flatMap fun f => octetsOf f.1 (wrapInt f.1 f.2)

/-- A natural-number field. -/
def fN (w n : Nat) : Nat × Int := (w, (n : Int))

/-- A flag octet from flags, bit 0 first. -/
def bitsOf : List Bool → Nat
  | [] => 0
  | b :: r => (if b then 1 else 0) + 2 * bitsOf r

/-- A bit mask from bit numbers below a width. -/
def maskOf (width : Nat) (l : List Nat) : Nat := bitsOf ((List.range width).map fun i => decide (i ∈ l))

/-- The set bits of a mask. -/
def bitsIn (width mask : Nat) : List Nat := (List.range width).filter fun i => mask.testBit i

/-- Clamp to a range. -/
def clampInt (lo hi v : Int) : Int := max lo (min hi v)

/-- Clamp to a signed width in bits (00 R7). -/
def clampS (bits : Nat) (v : Int) : Int := clampInt (-(2 ^ (bits - 1))) (2 ^ (bits - 1) - 1) v

/-- Clamp to an unsigned width in bits (00 R7). -/
def clampU (bits : Nat) (v : Int) : Int := clampInt 0 (2 ^ bits - 1) v

/-- Saturating increment of a counter of a given width. -/
def satInc (bits n : Nat) : Nat := min (n + 1) (2 ^ bits - 1)

/-- Wrapping increment of a 32-bit counter. -/
def wrapInc (n : Nat) : Nat := (n + 1) % two32

/-- Rounding where the spec states none: exact for an integer, else down or up by an open choice (log 8). -/
def roundOpen (tag : Nat) (x : Rat) : Int :=
  if x.den = 1 then x.num else if Config.roundUp tag x then x.floor + 1 else x.floor

/-- A kept estimator quantity at the resolution the model keeps it, 2^-96 of its unit, of open rounding direction (log 27). -/
def fine (x : Rat) : Rat := (roundOpen 45 (x * 79228162514264337593543950336) : Rat) / 79228162514264337593543950336

/-- Rounding to the nearest integer, halves away from zero. -/
def roundNear (x : Rat) : Int := if 0 ≤ x then (x + 1 / 2).floor else -((-x + 1 / 2).floor)

/-- Rounding toward zero. -/
def roundZero (x : Rat) : Int := if 0 ≤ x then x.floor else -((-x).floor)

/-- Absolute value of a rational. -/
def absR (x : Rat) : Rat := if x < 0 then -x else x

/-- Sum of rationals. -/
def sumR (l : List Rat) : Rat := l.foldl (· + ·) 0

/-- The mean of exact numbers, 0 of none. -/
def avgR (l : List Rat) : Rat := if l.isEmpty then 0 else sumR l / (l.length : Rat)

/-- Sum of integers. -/
def sumI (l : List Int) : Int := l.foldl (· + ·) 0

/-- Mean of integers, exact; 0 of none. -/
def meanR (l : List Int) : Rat := if l.isEmpty then 0 else (sumI l : Rat) / (l.length : Rat)

/-- Insert into a rising list of integers. -/
def insertI (x : Int) : List Int → List Int
  | [] => [x]
  | y :: r => if x ≤ y then x :: y :: r else y :: insertI x r

/-- A rising list of the same integers. -/
def sortI (l : List Int) : List Int := l.foldr insertI []

/-- Insert into a rising list of naturals without repeats. -/
def insertN (x : Nat) : List Nat → List Nat
  | [] => [x]
  | y :: r => if x < y then x :: y :: r else if x = y then y :: r else y :: insertN x r

/-- Median of integers: the middle one, or the mean of the two middle ones; none of none. -/
def medianI (l : List Int) : Option Rat :=
  let s := sortI l
  let n := s.length
  if n = 0 then none
  else if n % 2 = 1 then some ((s.getD (n / 2) 0 : Int) : Rat)
  else some (((s.getD (n / 2 - 1) 0 + s.getD (n / 2) 0 : Int) : Rat) / 2)

/-- Insert into a rising list of rationals. -/
def insertR (x : Rat) : List Rat → List Rat
  | [] => [x]
  | y :: r => if x ≤ y then x :: y :: r else y :: insertR x r

/-- Median of rationals. -/
def medianR (l : List Rat) : Option Rat :=
  let s := l.foldr insertR []
  let n := s.length
  if n = 0 then none
  else if n % 2 = 1 then some (s.getD (n / 2) 0)
  else some ((s.getD (n / 2 - 1) 0 + s.getD (n / 2) 0) / 2)

/-- Least and greatest of a list of integers, `d` of none. -/
def minI (d : Int) (l : List Int) : Int := match l with | [] => d | x :: r => r.foldl min x
def maxI (d : Int) (l : List Int) : Int := match l with | [] => d | x :: r => r.foldl max x

/-- Linear interpolation over rising points, held constant beyond the outermost (08 R223, 07 R189). -/
def interp : List (Int × Rat) → Rat → Rat
  | [], _ => 0
  | [(_, y)], _ => y
  | (x0, y0) :: (x1, y1) :: r, x =>
    if x ≤ (x0 : Rat) then y0
    else if x ≤ (x1 : Rat) then y0 + (y1 - y0) * (x - x0) / ((x1 : Rat) - x0)
    else interp ((x1, y1) :: r) x

/-- Interpolation over two dimensions, rows by the first. -/
def interp2 (xs ys : List Int) (rows : List (List Rat)) (x y : Rat) : Rat :=
  interp (xs.zip (rows.map fun r => interp (ys.zip r) y)) x

/-! ### Sweeps and plant time (00 R8, R14; 01 R38) -/

/-- Sweep a is later than sweep b (00 R14): the difference modulo 2^32 lies from 1 to 2^31 - 1. -/
def laterThan (a b : Nat) : Bool :=
  let d := (a + two32 - b % two32) % two32
  decide (1 ≤ d ∧ d ≤ 2147483647)

/-- a is b or later than b. -/
def notBefore (a b : Nat) : Bool := decide (a % two32 = b % two32) || laterThan a b

/-- The plant epoch in ns. -/
def State.epochNs (s : State) : Nat := s.cfg.epoch * 1000000000

/-- A span in ns that is a whole number of 2³² of every interval of plant time. -/
def wrapSpan : Nat := two32 * 6300000000000000

/-- Plant time since the epoch in ns. `wrapSpan` is added, so that the intervals go on back before the epoch; it changes no number modulo
2³² and no phase of an interval (log 92). -/
def State.sinceEpoch (s : State) : Nat := wrapSpan + s.th.reading - s.epochNs

/-- Sweeps since the plant epoch, not wrapped (log 92). -/
def State.sweepAbs (s : State) : Nat := s.sinceEpoch / 1000000

/-- The superframe of a number, the one nearest to the present on the lattice of 01 R38, not wrapped. -/
def State.frameAbs (s : State) (k : Nat) : Nat :=
  let a := s.sweepAbs / 4
  let d := (k + two32 - a % two32) % two32
  if d < two32 / 2 then a + d else a + d - two32

/-- The sweep number of the present instant (00 R14). -/
def State.sweepNo (s : State) : Nat := s.sweepAbs % two32

/-- Plant time as 6 octets of seconds and 4 of nanoseconds (00 R8). -/
def timeFields (ns : Nat) : List (Nat × Int) := [fN 6 (ns / 1000000000), fN 4 (ns % 1000000000)]

/-- The module is a powered state: its operating time counts in all states except Off (19 R485). -/
def State.powered (s : State) : Bool := !decide (s.pw.state = .off)

/-- The 100 MHz reference runs (01 R37): in Hibernate only the always-on timer does. -/
def State.thymeRuns (s : State) : Bool := !decide (s.pw.state = .off ∨ s.pw.state = .hibernate)

/-- 1 ns in the unit of the clock's phase, 2⁻³² / 10 ns: the nominal addend per cycle (02 R44). -/
def nsPhase : Nat := 42949672960

/-- The fraction of the reading, 2⁻¹⁶ ns (00 R9; 02 R44). -/
def State.fine16 (s : State) : Nat := s.th.phase * 65536 / nsPhase

/-- The step begins at local elapsed time `t`, ns of the 100 MHz reference: plant time advances by the addend per 10 ns cycle (02 R44), operating
time by the time passed, and the list of emissions starts afresh (log 1). A `t` before the latest one seen counts as the latest one. -/
def State.begin (s : State) (t : Nat) : State :=
  let dt := t - s.now
  let adv := s.th.phase + dt * (if s.thymeRuns then s.th.addend else nsPhase)
  { s with
    now := max s.now t
    th.reading := s.th.reading + adv / nsPhase
    th.phase := adv % nsPhase
    pw.opTimeNs := if s.powered then s.pw.opTimeNs + dt else s.pw.opTimeNs
    acq.runNs := if s.pw.state = .run then s.acq.runNs + dt else s.acq.runNs
    out := [] }

/-- Operating time in s (00 R5). -/
def State.opTime (s : State) : Nat := (s.pw.opTimeNs / 1000000000) % two32

/-- Time in ms. -/
def ms (n : Nat) : Nat := n * 1000000

/-- Time in s. -/
def sec (n : Nat) : Nat := n * 1000000000

/-- A deadline has been reached. -/
def State.due (s : State) (d : Option Nat) : Bool := match d with | some t => decide (t ≤ s.now) | none => false

/-- A condition held since `d` has held for `span`. -/
def State.heldFor (s : State) (d : Option Nat) (span : Nat) : Bool :=
  match d with | some t => decide (t + span ≤ s.now) | none => false

/-- Keep the start of a condition while it holds. -/
def since (now : Nat) (cond : Bool) (d : Option Nat) : Option Nat :=
  if cond then (match d with | some t => some t | none => some now) else none

/-- An operation that runs once in each interval of `span` ns of plant time from E + `off` on (01 R38) has not run in the one that stands
(log 93): `k` tells the operations apart. -/
def State.turnOpen (s : State) (k span off : Nat) : Bool :=
  let a := s.th.turns.get k 0
  decide (a = 0 ∨ a ≤ (s.sinceEpoch - off) / span * span + off ∨ s.sinceEpoch + 1 < a)

/-- The operation `k` runs now. -/
def State.turnTaken (s : State) (k : Nat) : State := s.onThyme fun h => { h with turns := h.turns.put k 0 (s.sinceEpoch + 1) }

/-- Run an operation where its turn is open (log 93). -/
def State.turnFrom (k span off : Nat) (f : State → State) (s : State) : State := if s.turnOpen k span off then f (s.turnTaken k) else s

/-- The same for intervals that begin at the epoch. -/
def State.turn (k span : Nat) (f : State → State) (s : State) : State := s.turnFrom k span 0 f

/-! ### Emissions and free values -/

/-- The tag of plant traffic other than GOOSE: none, or priority 0 with the identifier of record 0x0901 (17 R426). -/
def plantTag (c : Cfg) : Option (Nat × Nat) := if c.plant.vlan = 0 then none else some (0, c.plant.vlan)

/-- The Ethernet frame that carries an emission: EtherType, VLAN tag, multicast address. A twin-link frame has EtherType 0x88B5 and no tag
(14 R373); GOOSE 0x88B8 and the tag and destination of record 0x0904 (17 R425, R426); PTP the address of 02 R52 (its EtherType and that of
PRP supervision: log 107); X13 carries no tag (17 R427). -/
def linkOf (c : Cfg) (k : EmKind) (port : Nat) : Nat × Option (Nat × Nat) × Nat :=
  match k with
  | .heartbeat | .withdrawFrame | .handoverFrame | .twinTime | .shadowFrame | .bulkState | .itemFrame | .islandFrame => (0x88B5, none, 0)
  | .goose => let g := c.goosePubs.getD port {}; (0x88B8, some (g.prio, g.vlan), g.mac)
  | .ptp => (0x88F7, plantTag c, 0x011B19000000)
  | .prpSupervision => (0x88FB, plantTag c, 0)
  | .multicast | .stringStatus | .stream | .operation | .operationResult | .response | .claim | .masterHandover => (0, plantTag c, 0)
  | .teleReady | .teleReply | .teleData | .teleCommand | .update => (0, if port = 8 then none else plantTag c, 0)
  | .icmpReply | .addressReply => (0, if port = 3 then none else plantTag c, 0)
  | _ => (0, none, 0)

/-- Emit a frame or signal. -/
def State.emit (s : State) (k : EmKind) (port : Nat) (bytes : List Nat) : State :=
  let l := linkOf s.cfg k port
  { s with out := s.out ++ [{ kind := k, port := port, bytes := bytes, etherType := l.1, tag := l.2.1, mac := l.2.2 }] }

/-- The role field of the twin-link header: 0 starting or syncing, 1 follower, 2 leader, 3 withdrawn (14 R374). -/
def hdrRole : Role → Nat
  | .starting | .syncing | .absent => 0 | .follower => 1 | .leader => 2 | .withdrawn => 3

/-- A twin-link frame of a type and sequence (14 R374). -/
def State.twinFrame (s : State) (ftype seq : Nat) (payload : List Nat) : List Nat :=
  let h := enc [fN 1 ftype, fN 1 (bitsOf [decide (s.cfg.twin.position = 1)] + 2 * hdrRole s.tw.role + if s.tw.ready then 8 else 0), fN 1 1,
    fN 1 s.cfg.string.index, fN 4 s.tw.epoch, fN 4 seq, fN 2 payload.length] ++ payload
  h ++ octetsOf 4 (Config.crc32 h)

/-- Send a twin-link frame that follows what a command changed or writes: a shadow or an item frame (14 R371, R374; 07 R219). -/
def State.followSend (s : State) (kind : EmKind) (ftype : Nat) (payload : List Nat) : State :=
  let q := s.ls.linkSeqs.get ftype 0
  (s.onLearned fun l => { l with linkSeqs := l.linkSeqs.put ftype 0 (wrapInc q) }).emit kind 0 (s.twinFrame ftype q payload)

/-- Take a fresh free number (log 10). -/
def State.freshNat (s : State) : Nat × State := (Config.freeNat s.freeIdx, { s with freeIdx := s.freeIdx + 1 })

/-- Take a fresh free rational (log 10). -/
def State.freshRat (s : State) : Rat × State := (Config.freeRat s.freeIdx, { s with freeIdx := s.freeIdx + 1 })

end Sys2Proof.Machine

namespace Sys2Proof

/-- The state field of the time state byte (02 R49). -/
def TimeState.code : TimeState → Nat
  | .unset => 0 | .acquiring => 1 | .locked => 2 | .holdover => 3 | .freeRunning => 4 | .unaligned => 5

/-- Events exempt from the buckets: the protection function codes (22 R534). -/
def Ev.exempt : Ev → Bool
  | .prot _ => true
  | _ => false

/-- A plant time in ns. -/
def PTime.ns (p : PTime) : Nat := p.secs * 1000000000 + p.nanos

/-- A plant time whose nanoseconds carry into its seconds is invalid (00 R8). -/
def PTime.ok (p : PTime) : Bool := decide (p.nanos < 1000000000) && decide (p.secs < 281474976710656)

/-! ### Configuration look-ups -/

/-- Number of configured branches (20 R498, record 0x0202). -/
def Cfg.branchCount (c : Cfg) : Nat := c.branches.cells.length

/-- A configured branch. -/
def Cfg.hasBranch (c : Cfg) (b : Nat) : Bool := decide (b < c.branchCount)

/-- The configured branches in order. -/
def Cfg.branchList (c : Cfg) : List Nat := List.range c.branchCount

/-- The cells of a branch that are present (00 R10, R11). -/
def Cfg.branchCells (c : Cfg) (b : Nat) : List Nat :=
  (List.range (min 512 (c.branches.cells.getD b 0))).map fun p => 512 * b + p

/-- Every present cell (00 R11). -/
def Cfg.allCells (c : Cfg) : List Nat := c.branchList.flatMap c.branchCells

/-- A cell position is present. -/
def Cfg.cellPresent (c : Cfg) (cell : Nat) : Bool :=
  c.hasBranch (cell / 512) && decide (cell % 512 < c.branches.cells.getD (cell / 512) 0)

/-- The node table entry of an index (04 R117, record 0x0507). -/
def Cfg.nodeEntry (c : Cfg) (n : Nat) : Option CfgNode := c.nodes.find? fun e => decide (e.index = n)

/-- The node that serves a cell: the one configured for its branch and stack (01 R28). -/
def Cfg.nodeOfCell (c : Cfg) (cell : Nat) : Option Nat :=
  (c.nodes.find? fun e => decide (e.branch = cell / 512 ∧ e.stack = cell % 512 / 16)).map fun e => e.index

/-- The cell index of channel `j` of a node (01 R28). -/
def Cfg.cellOfNode (c : Cfg) (n j : Nat) : Nat :=
  match c.nodeEntry n with | some e => 512 * e.branch + 16 * e.stack + j | none => 0

/-- The branch of a node. -/
def Cfg.branchOfNode (c : Cfg) (n : Nat) : Nat := match c.nodeEntry n with | some e => e.branch | none => 0

/-- The present cells of a node, by channel. -/
def Cfg.cellsOfNode (c : Cfg) (n : Nat) : List Nat :=
  match c.nodeEntry n with
  | some e => ((List.range 16).map fun j => 512 * e.branch + 16 * e.stack + j).filter c.cellPresent
  | none => []

/-- The configured nodes of one radio channel (00 R12). -/
def Cfg.nodesOfChan (c : Cfg) (ch : Nat) : List Nat :=
  (c.nodes.map fun e => e.index).filter fun n => decide (n / 32 = ch)

/-- A default-carrying list look-up. -/
def atD {α : Type} (l : List α) (i : Nat) (d : α) : α := l.getD i d

end Sys2Proof

namespace Sys2Proof.Machine

open Sys2Proof

/-! ### Access to the tables of State -/

/-- Node control entry (04 R117). -/
def State.node (s : State) (n : Nat) : NodeCtl := s.ra.nodes.get n {}

/-- Update of one node control entry. -/
def State.onNode (s : State) (n : Nat) (f : NodeCtl → NodeCtl) : State :=
  s.onRadio fun r => { r with nodes := r.nodes.upd n {} f }

/-- The cell node itself. -/
def State.dev (s : State) (n : Nat) : NodeDev := s.ra.devs.get n {}

/-- Update of one cell node. -/
def State.onDev (s : State) (n : Nat) (f : NodeDev → NodeDev) : State :=
  s.onRadio fun r => { r with devs := r.devs.upd n {} f }

/-- Radio channel. -/
def State.rchan (s : State) (c : Nat) : RadioChan := s.ra.chans.get c {}

/-- Update of one radio channel. -/
def State.onChan (s : State) (c : Nat) (f : RadioChan → RadioChan) : State :=
  s.onRadio fun r => { r with chans := r.chans.upd c {} f }

/-- Cell estimate (07 R189). -/
def State.cell (s : State) (c : Nat) : CellEst := s.ch.cells.get c {}

/-- Update of one cell estimate. -/
def State.onCell (s : State) (c : Nat) (f : CellEst → CellEst) : State :=
  s.onCharge fun h => { h with cells := h.cells.upd c {} f }

/-- Temperature channel (10 R264). -/
def State.tchan (s : State) (c : Nat) : TempChan := s.tm.chans.get c {}

/-- Update of one temperature channel. -/
def State.onTchan (s : State) (c : Nat) (f : TempChan → TempChan) : State :=
  s.onTherm fun h => { h with chans := h.chans.upd c {} f }

/-- Valve (10 R277). -/
def State.valve (s : State) (v : Nat) : Valve := s.tm.valves.get v {}

/-- Update of one valve. -/
def State.onValve (s : State) (v : Nat) (f : Valve → Valve) : State :=
  s.onTherm fun h => { h with valves := h.valves.upd v {} f }

/-- Coil output K1 to K12 (12 R315). -/
def State.coil (s : State) (k : Nat) : Coil := s.ct.coils.get k {}

/-- Update of one coil output. -/
def State.onCoil (s : State) (k : Nat) (f : Coil → Coil) : State :=
  s.onCont fun h => { h with coils := h.coils.upd k {} f }

/-- State of a branch (12 R328). -/
def State.branch (s : State) (b : Nat) : BrState := s.ct.branches.get b .opened

/-- Set the state of a branch. -/
def State.setBranch (s : State) (b : Nat) (x : BrState) : State :=
  s.onCont fun h => { h with branches := h.branches.put b .opened x }

/-- CAN channel (18 R444). -/
def State.can (s : State) (c : Nat) : CanChan := s.cn.chans.get c {}

/-- Update of one CAN channel. -/
def State.onCanChan (s : State) (c : Nat) (f : CanChan → CanChan) : State :=
  s.onCan fun h => { h with chans := h.chans.upd c {} f }

/-- Module channel of the last sweep: IB0 to IB3 keys 0 to 3, IS 4, HV0 to HV5 keys 5 to 10 (05 R130). -/
def State.achan (s : State) (c : Nat) : ChanValue := s.acq.chans.get c {}

/-- Average of branch current b in the last sweep. -/
def State.ib (s : State) (b : Nat) : Int := (s.achan b).avg

/-- Average of high-voltage input h in the last sweep. -/
def State.hv (s : State) (h : Nat) : Int := (s.achan (5 + h)).avg

/-- Sum of the branch currents over the configured branches. -/
def State.ibSum (s : State) : Int := sumI (s.cfg.branchList.map s.ib)

/-- A coil is commanded on: it waits, pulls in or holds (12 R315). -/
def State.coilOn (s : State) (k : Nat) : Bool := !decide ((s.coil k).phase = .off)

/-- A coil carries current: it pulls in or holds (12 R315). -/
def State.energised (s : State) (k : Nat) : Bool := decide ((s.coil k).phase = .pullIn ∨ (s.coil k).phase = .hold)

/-- A contactor is confirmed open: its accepted mirror state is closed mirror, open main (12 R319). -/
def State.confirmedOpen (s : State) (k : Nat) : Bool := decide ((s.coil k).accepted = some true)

/-- A contactor is confirmed closed. -/
def State.confirmedClosed (s : State) (k : Nat) : Bool := decide ((s.coil k).accepted = some false)

/-- The joined branches (12 R328): joined or leaving ones still carry current. -/
def State.joined (s : State) : List Nat :=
  s.cfg.branchList.filter fun b => decide (s.branch b = .joined ∨ s.branch b = .leaving)

/-- This module leads its string (14 R363): a single module leads from its start on. -/
def State.leads (s : State) : Bool := decide (s.tw.role = .leader)

/-- Twin configuration (14 record 0x0A01). -/
def State.isTwin (s : State) : Bool := decide (s.cfg.twin.mode = 1)

end Sys2Proof.Machine
end

