-- ==== Sys2Proof/Machine/Flags.lean ====
section
/-! DEFINITION. Sys2Proof/Machine/Flags.lean: the quality byte of samples and estimates, every bit with its rule. -/

namespace Sys2Proof.Machine

open Sys2Proof

/-- Quality byte from its flags, and the exclusions of 00 R19: missing and stale exclude each other, and each of them,
and out-of-range, clears valid (00 R18, R19). -/
def mkQuality (valid stale missing degraded balancing alarm replacement outOfRange : Bool) : Quality :=
  let st := stale && !missing
  let v := valid && !st && !missing && !outOfRange
  BitVec.ofNat 8 (bitsOf [v, st, missing, degraded, balancing, alarm, replacement, outOfRange])

/-- valid (00 R18 bit 0). -/
def qValid (q : Quality) : Bool := q.getLsbD 0
/-- stale (00 R18 bit 1). -/
def qStale (q : Quality) : Bool := q.getLsbD 1
/-- missing (00 R18 bit 2). -/
def qMissing (q : Quality) : Bool := q.getLsbD 2
/-- timing-degraded (00 R18 bit 3). -/
def qDegraded (q : Quality) : Bool := q.getLsbD 3
/-- balancing-corrected (00 R18 bit 4). -/
def qBalancing (q : Quality) : Bool := q.getLsbD 4
/-- node-alarm (00 R18 bit 5). -/
def qAlarm (q : Quality) : Bool := q.getLsbD 5
/-- replacement-pending (00 R18 bit 6). -/
def qReplacement (q : Quality) : Bool := q.getLsbD 6
/-- out-of-range (00 R18 bit 7). -/
def qRange (q : Quality) : Bool := q.getLsbD 7

/-- The byte valid alone. -/
def qGood : Quality := mkQuality true false false false false false false false

/-- The byte missing alone (00 R18). -/
def qAbsent : Quality := mkQuality false false true false false false false false

/-- valid or missing. -/
def qIf (b : Bool) : Quality := if b then qGood else qAbsent

/-- Add stale to a byte, which clears valid; a missing one stays missing (00 R19, 10 R268). -/
def qMarkStale (q : Quality) : Quality :=
  mkQuality (qValid q) true (qMissing q) (qDegraded q) (qBalancing q) (qAlarm q) (qReplacement q) (qRange q)

/-- A value clamped to its format carries out-of-range (00 R7): the clamped value and whether it was clamped. -/
def clampQ (bits : Nat) (v : Int) : Int × Bool := (clampS bits v, !decide (clampS bits v = v))

/-- A value does not fit its signed, its unsigned format (00 R7). -/
def overS (bits : Nat) (v : Int) : Bool := !decide (clampS bits v = v)
def overU (bits : Nat) (v : Int) : Bool := !decide (clampU bits v = v)

/-- The byte of a value clamped at its format: out-of-range, which clears valid (00 R7, R18, R19). -/
def qOver (beyond : Bool) (q : Quality) : Quality :=
  if beyond then mkQuality false (qStale q) (qMissing q) (qDegraded q) (qBalancing q) (qAlarm q) (qReplacement q) true else q

/-- A quality byte as a field. -/
def fQ (q : Quality) : Nat × Int := fN 1 q.toNat

end Sys2Proof.Machine
end

