-- ==== Sys2Proof/Machine/Recorder.lean ====
section
/-! DEFINITION. Sys2Proof/Machine/Recorder.lean: the learned-state items (07 R211 to R213), the publication store
(24 R563, R564), the event recorder (22 R530 to R540, R600) and the monitors (22 R543 to R546). -/

namespace Sys2Proof.Machine

open Sys2Proof

/-! ### Learned-state items -/

/-- The key of an item: group, item number, index (07 R211). -/
def itemKey (group item idx : Nat) : Nat := group * 16777216 + item * 65536 + idx

/-- The newer valid copy of an item, if any (07 R212, R213). -/
def StoreItem.newer (i : StoreItem) : Option StoreCopy :=
  match i.a.valid, i.b.valid with
  | true, true => if laterThan i.b.seq i.a.seq then some i.b else some i.a
  | true, false => some i.a
  | false, true => some i.b
  | false, false => none

/-- Copy A holds the newer valid sequence number. -/
def StoreItem.newerIsA (i : StoreItem) : Bool :=
  i.a.valid && !(i.b.valid && laterThan i.b.seq i.a.seq)

/-- Write an item: to the copy that does not hold the newer valid sequence number, with that number plus one
(07 R212). The leader of a twin sends the write over the twin link before it makes it (07 R219). -/
def State.writeItem (s : State) (key : Nat) (payload : List Nat) : State :=
  let i := s.ls.items.get key {}
  let n := (((i.newer.map fun c => c.seq).getD 0) + 1) % two32
  let time := s.th.reading / 1000000000
  let s := if s.isTwin && s.leads then s.followSend .itemFrame 5 (octetsOf 4 key ++ octetsOf 4 n ++ octetsOf 6 time ++ octetsOf 2 payload.length ++ payload) else s
  s.onLearned fun l => { l with items := l.items.upd key {} fun i =>
    let c : StoreCopy := { seq := n, time := time, payload := payload, valid := true, blank := false }
    if i.newerIsA then { i with b := c } else { i with a := c } }

/-- The payload an item gives at a start, none where the defaults apply (07 R213). -/
def StoreItem.read (i : StoreItem) : Option (List Nat) := i.newer.map StoreCopy.payload

/-- Which event a start records for an item: 0 none, 1 "learned-state update lost", 2 "learned state lost"
(07 R213). -/
def StoreItem.loss (i : StoreItem) : Nat :=
  match i.a.valid, i.b.valid with
  | true, true => 0
  | true, false => if i.b.blank then 0 else 1
  | false, true => if i.a.blank then 0 else 1
  | false, false => if i.a.blank && i.b.blank then 0 else 2

/-! ### Publications -/

/-- Publications happen in every powered state but Hibernate (24 R564). -/
def State.publishes (s : State) : Bool := !decide (s.pw.state = .off) && !decide (s.pw.state = .hibernate)

/-- The identifier a module publishes under: a follower publishes groups 0x02 to 0x07 but the valve record under the
shadow identifier (24 R563). -/
def State.objectId (s : State) (oid : Nat) : Nat :=
  let g := oid / 16777216
  if decide (s.tw.role = .follower ∨ s.tw.role = .syncing) && decide (2 ≤ g ∧ g ≤ 7) && !decide (oid / 4096 = 0x06002)
  then oid + 0x800000 else oid

/-- Publish an object: the latest complete publication replaces the one before (24 R564). -/
def State.publish (s : State) (oid : Nat) (bytes : List Nat) : State :=
  if s.publishes && (!s.pw.recovery || decide (oid = 0x0E001000)) then s.onNet fun n => { n with store := n.store.put (s.objectId oid) [] bytes } else s

/-! ### Event records -/

/-- Pad octets to a multiple of 4. -/
def pad4 (l : List Nat) : List Nat := l ++ List.replicate ((4 - l.length % 4) % 4) 0

/-- The octets of an event record (22 R530, R531): its data, subject first, are cut at 956 octets. -/
def EvRecord.bytes (r : EvRecord) : List Nat :=
  let data := (octetsOf 4 r.subject ++ r.data).take 956
  let len := 40 + (pad4 data).length + 4
  let body := enc ([fN 2 len, fN 2 r.ev.code, fN 4 r.seq] ++ timeFields r.time ++
    [fN 1 r.timeState, fN 1 r.flags, fN 4 r.opTime, fN 4 r.cycles, fN 4 r.sweep, fN 2 r.repeats, fN 2 r.suppressed,
     fN 4 r.lastRepeat]) ++ pad4 data
  body ++ octetsOf 4 (Config.crc32 body)

/-- The length of an event record (22 R530). -/
def EvRecord.length (r : EvRecord) : Nat :=
  40 + (pad4 ((octetsOf 4 r.subject ++ r.data).take 956)).length + 4

/-- The time state byte (02 R49). -/
def State.timeByte (s : State) : Nat := s.th.state.code + 16 * s.th.source

/-- Rate per 10 s and depth of an event's bucket (22 R534, record 0x0D01). -/
def State.bucketOf (s : State) (ev : Ev) : Nat × Nat :=
  match s.cfg.events.list with
  | [] => (s.cfg.events.rate, s.cfg.events.depth)
  | l => match l.find? fun e => decide (e.1 = ev.code) with
    | some e => e.2
    | none => (s.cfg.events.rate, s.cfg.events.depth)

/-- Tokens an event has at present; a bucket never used is full (22 R534, R600). -/
def State.evTokens (s : State) (ev : Ev) : Rat :=
  let (rate, depth) := s.bucketOf ev
  match s.ro.buckets.lookup ev with
  | none => (depth : Rat)
  | some b => min (depth : Rat) (b.tokens + (rate : Rat) * ((s.now - b.filledAt : Nat) : Rat) / 10000000000)

/-- Set an entry of an event-keyed list. -/
def setEv {α : Type} (ev : Ev) (v : α) : List (Ev × α) → List (Ev × α)
  | [] => [(ev, v)]
  | (e, w) :: r => if e = ev then (ev, v) :: r else (e, w) :: setEv ev v r

/-- Add one to an event's suppressed tally, and to the suppressed total (22 R534, R542). -/
def State.tally (s : State) (ev : Ev) : State :=
  s.onRosemary fun r => { r with
    tallies := setEv ev ((r.tallies.lookup ev).getD 0 + 1) r.tallies
    suppressedTotal := wrapInc r.suppressedTotal }

/-- Commit the open block: it counts as held, and the newest overwrites the oldest when the ring is full
(22 R538, R539). -/
def Rosemary.commit (r : Rosemary) : Rosemary :=
  { r with
    held := (r.openBlock :: r.held).take r.ringSize
    openBlock := { number := wrapInc r.openBlock.number }
    openSince := none
    wrapped := r.wrapped || decide (r.ringSize ≤ r.held.length) }

/-- Octets of the records in a block (22 R537). -/
def EvBlock.used (b : EvBlock) : Nat := (b.records.map EvRecord.length).foldl (· + ·) 0

/-- A closed record enters the store (22 R533, R535, R537): discarded beyond the write ceiling unless exempt, else
into the open block, which is committed first when the record does not fit. Answers the octets offered in the window at the first
discard after a window without one, else 0. -/
def State.enterStore (s : State) (er : EvRecord) : State × Nat :=
  let len := er.length
  if s.ro.fault then (s, 0)
  else if decide (65536 < s.ro.windowOctets + len) && !er.ev.exempt && !decide (er.ev = .suppressionsBeforeStop) then
    let first := !s.ro.discardWindow && !s.ro.ceiling
    ((s.tally er.ev).onRosemary fun r => { r with discardWindow := true }, if first then s.ro.windowOctets + len else 0)
  else
    let s1 := if 1008 < s.ro.openBlock.used + len then s.onRosemary fun r => r.commit else s
    (s1.onRosemary fun r => { r with
      windowOctets := r.windowOctets + len
      openBlock := { r.openBlock with records := r.openBlock.records ++ [er] }
      openSince := some (r.openSince.getD s.now) }, 0)

/-- Publish the event record object (22 R536). -/
def State.publishEvent (s : State) (er : EvRecord) : State := s.publish 0x0D001000 er.bytes

/-- Close a record: it takes the closed flag, is published again when it has repeats, and enters the store
(22 R533, R536). -/
def State.closeRecord (s : State) (er : EvRecord) : State × Nat :=
  let er' := { er with flags := er.flags ||| 4 }
  let s1 := s.onRosemary fun r => { r with opened := r.opened.filter fun x => !decide (x.ev = er.ev ∧ x.subject = er.subject) }
  let s2 := if er'.repeats = 0 then s1 else s1.publishEvent er'
  s2.enterStore er'

/-- The learned-state item of the sequence reservation: the reservation and the suppressed total (22 R532, R600). -/
def State.writeReservation (s : State) (v : Nat) : State :=
  (s.onRosemary fun r => { r with reservation := v }).writeItem (itemKey 0x0D 1 0)
    (octetsOf 4 v ++ octetsOf 4 s.ro.suppressedTotal)

/-- Assign the next sequence; before the reserved one is assigned, a new reservation 65 536 higher is written
(22 R532). -/
def State.assignSeq (s : State) : Nat × State :=
  let n := s.ro.nextSeq
  let s1 := if n = s.ro.reservation then s.writeReservation ((n + 65536) % two32) else s
  (n, s1.onRosemary fun r => { r with nextSeq := wrapInc n })

/-- The module sweep record (05 R132). -/
def State.sweepRecord (s : State) : List Nat :=
  enc (fN 4 s.acq.sweep :: ((List.range 11).flatMap fun c =>
    let v := s.achan c
    [(4, v.avg), (4, v.min), (4, v.max), fQ v.quality]) ++ [fN 1 0])

/-- Open a record with its captures (05 R132; 22 R530 to R534, R536): it takes a sequence and the tally of its event; a 65th record closes the
oldest open one first. Answers as that closing. -/
def State.openRecord (s : State) (ev : Ev) (subject : Nat) (data : List Nat) : State × Nat :=
  let (s0, d) := match s.ro.opened with
    | r :: _ => if 64 ≤ s.ro.opened.length then s.closeRecord r else (s, 0)
    | [] => (s, 0)
  let (n, s1) := s0.assignSeq
  let er : EvRecord :=
    { ev := ev, seq := n, time := s.th.reading, timeState := s.timeByte,
      flags := bitsOf [decide (s.cfg.twin.position = 1), s.leads], opTime := s.opTime, cycles := s.pw.powerCycles,
      sweep := s.sweepNo, suppressed := min 65535 ((s.ro.tallies.lookup ev).getD 0), subject := subject, data := data,
      firstAt := s.now, lastAt := s.now, capture := s.sweepRecord
      wave := if ev.code / 256 = 6 then s.acq.ring.take 1 else [] }
  let s2 := s1.onRosemary fun r => { r with
    opened := r.opened ++ [er]
    tallies := r.tallies.filter fun e => !decide (e.1 = ev) }
  (s2.publishEvent er, d)

/-- A repeat of an open record (22 R533). -/
def State.repeated (s : State) (r : EvRecord) : EvRecord :=
  { r with repeats := r.repeats + 1, lastRepeat := (s.now - r.firstAt) / 1000000, lastAt := s.now }

/-- Take a record's latest form in place of the open one. -/
def State.replaceOpen (s : State) (r : EvRecord) : State :=
  s.onRosemary fun o => { o with opened := o.opened.map fun x => if x.ev = r.ev ∧ x.subject = r.subject then r else x }

/-- Take a token of an event, where it has one left (22 R534). -/
def State.spendToken (s : State) (ev : Ev) : State :=
  s.onRosemary fun o => { o with buckets := setEv ev { tokens := s.evTokens ev - 1, filledAt := s.now } o.buckets }

/-- Record 0x0D03, write ceiling reached (22 R533 to R535), with the octets offered in the window. -/
def State.ceilingReached (s : State) (n : Nat) : State :=
  match s.ro.opened.find? fun r => decide (r.ev = .writeCeiling ∧ r.subject = 0) with
  | some r => s.replaceOpen (s.repeated r)
  | none =>
    if 1 ≤ s.evTokens .writeCeiling then ((s.spendToken .writeCeiling).openRecord .writeCeiling 0 (octetsOf 4 n)).1
    else s.tally .writeCeiling

/-- Open a record, and record 0x0D03 on a first discard (22 R535). -/
def State.openAndReport (s : State) (ev : Ev) (subject : Nat) (data : List Nat) : State :=
  match s.openRecord ev subject data with
  | (s1, 0) => s1
  | (s1, n) => s1.ceilingReached n

/-- Close a record, and record 0x0D03 on a first discard (22 R533, R535). -/
def State.closeAndReport (s : State) (er : EvRecord) : State :=
  match s.closeRecord er with
  | (s1, 0) => s1
  | (s1, n) => s1.ceilingReached n

/-- An occurrence of an event: a repeat of an open record with its event and subject, else an opening where a token is left or the event is exempt,
else a suppression (22 R533, R534). -/
def State.occur (s : State) (ev : Ev) (subject : Nat) (data : List Nat) : State :=
  match s.ro.opened.find? fun r => decide (r.ev = ev ∧ r.subject = subject) with
  | some r =>
    let r' := s.repeated r
    let s1 := s.replaceOpen r'
    if 65535 ≤ r'.repeats then s1.closeAndReport { r' with flags := r'.flags ||| 8 } else s1
  | none =>
    if ev.exempt then s.openAndReport ev subject data
    else
      if 1 ≤ s.evTokens ev then (s.spendToken ev).openAndReport ev subject data
      else s.tally ev

/-- A record of this event and subject whose last occurrence lies 1 s back has closed (22 R533). -/
def State.closeOld (s : State) (ev : Ev) (subject : Nat) : State :=
  match s.ro.opened.find? fun r => decide (r.ev = ev ∧ r.subject = subject) with
  | some r => if r.lastAt + sec 1 ≤ s.now then s.closeAndReport r else s
  | none => s

/-- An occurrence of an event that the record takes whatever the power state (11 R302; 22 R533, R534). -/
def State.recordAlways (s : State) (ev : Ev) (subject : Nat) (data : List Nat) : State := (s.closeOld ev subject).occur ev subject data

/-- An occurrence of an event while Rosemary runs (01 R37; 22 R533, R534). -/
def State.record (s : State) (ev : Ev) (subject : Nat := 0) (data : List Nat := []) : State :=
  if !s.publishes then s else s.recordAlways ev subject data

/-- Close every open record, oldest first (22 R533). -/
def closeList : List EvRecord → State → State
  | [], s => s
  | r :: l, s => closeList l (s.closeAndReport r)

/-- Close every open record (22 R533). -/
def State.closeAll (s : State) : State := closeList s.ro.opened s

/-- Write the suppressions before a committing stop: one record of code 0x0D06 per tally (22 R600). -/
def suppressionList : List (Ev × Nat) → State → State
  | [], s => s
  | (ev, n) :: l, s => suppressionList l (s.openAndReport .suppressionsBeforeStop ev.code (octetsOf 2 (min 65535 n)))

/-- What a stop that commits the store does (22 R532, R533, R538, R600): suppressions, closing of the open records,
commit of the open block, and the reservation at the next sequence. -/
def State.commitStop (s : State) : State :=
  let s1 := suppressionList s.ro.tallies s
  let s2 := s1.closeAll
  let s3 := s2.onRosemary fun r => if r.openBlock.records.isEmpty then r else r.commit
  s3.writeReservation s3.ro.nextSeq

/-- The highest sequence held in the store, if any (22 R532). -/
def Rosemary.highest (r : Rosemary) : Option Nat :=
  (r.held.flatMap fun b => b.records.map EvRecord.seq).foldl
    (fun m q => match m with | none => some q | some x => if laterThan q x then some q else some x) none

/-- The recorder starts (22 R532, R538, R540, R600): buckets full and tallies zero, the sequence continued from the
larger of the highest held plus one and the reservation, a new reservation 65 536 above, records 0x0D01 and, after a
gap, 0x0D05. -/
def State.recorderStart (s : State) : State :=
  let r := s.ro
  let afterHeld := match r.highest with | some h => wrapInc h | none => 0
  let res := match (s.ls.items.get (itemKey 0x0D 1 0) {}).read with
    | some p => ((p.take 4).foldl (fun a o => 256 * a + o) 0)
    | none => afterHeld
  let start := if laterThan res afterHeld then res else afterHeld
  let gap := laterThan start afterHeld
  let s1 := s.onRosemary fun r => { r with
    buckets := []
    tallies := []
    nextSeq := start
    windowOctets := 0
    discardWindow := false
    ceiling := false }
  let s2 := s1.writeReservation ((start + 65536) % two32)
  let s3 := s2.record .recorderStarted 0 (octetsOf 4 (r.highest.getD 0) ++ octetsOf 4 r.held.length)
  if gap then s3.record .recordsLost 0 (octetsOf 4 afterHeld ++ octetsOf 4 ((start + two32 - 1) % two32)) else s3

/-! ### Monitors -/

/-- Default lower edge and bin width of a monitor (22 R544). -/
def monitorEdges : Nat → Int × Int
  | 1 => (0, 50) | 2 => (0, 1) | 3 => (0, 50) | 4 => (-150, 10) | 5 => (0, 2) | 6 => (0, 10) | 7 => (0, 35)
  | 8 => (0, 2) | 9 => (0, 20) | 10 => (0, 20) | 11 => (0, 35) | 12 => (0, 320) | 13 => (0, 2) | 14 => (16000, 500)
  | 15 => (-4000, 550) | _ => (0, 1)

/-- The configured entry of a monitor (record 0x0C01). -/
def State.monCfg (s : State) (n : Nat) : CfgMon :=
  match s.cfg.monitors.find? fun m => decide (m.number = n) with
  | some m => m
  | none => { number := n }

/-- The bin of a sample (22 R543). -/
def binOf (l w v : Int) : Nat := if v < l then 0 else if l + 30 * w ≤ v then 31 else ((v - l) / w).toNat + 1

/-- A set with one more sample (22 R543): its counts saturate. -/
def MonSet.add (m : MonSet) (l w v : Int) : MonSet :=
  { m with count := satInc 32 m.count
           min := if m.count = 0 then v else Min.min m.min v
           max := if m.count = 0 then v else Max.max m.max v
           sum := m.sum + v
           bins := m.bins.upd (binOf l w v) 0 (satInc 32) }

/-- A monitor takes a sample (22 R543, R546): both sets, and the limit record at the first sample above the limit in
a window. -/
def State.sample (s : State) (n : Nat) (v : Int) : State :=
  let c := s.monCfg n
  let l := c.l.getD (monitorEdges n).1
  let w := c.w.getD (monitorEdges n).2
  let above := decide (c.limit ≠ 0 ∧ c.limit < v) && !(s.dl.windows.get n {}).exceeded
  let s1 := s.onDill fun d => { d with
    windows := d.windows.upd n {} fun m => { m.add l w v with exceeded := m.exceeded || above }
    cumulative := d.cumulative.upd n {} fun m => m.add l w v }
  if above then s1.record .monitorLimit n (octetsOf 4 (wrapInt 4 v)) else s1

end Sys2Proof.Machine
end

