-- ==== Sys2Proof/Machine/Protect.lean ====
section
/-! DEFINITION. Sys2Proof/Machine/Protect.lean: the operations every protection decision is built from: coils and
trip switches (12 R315 to R317), the trip matrix (11 R292, 12 R321, 13 R346, 16 R419), decisions and their actions
(11 R288 to R291), the conditions for closing (12 R323), and the ends of sequences (12 R324 to R332). -/

namespace Sys2Proof.Machine

open Sys2Proof

/-! ### Coils -/

/-- Pull-in power of an output in W (12 record 0x0307). -/
def State.pullW (s : State) (k : Nat) : Nat := s.cfg.coil.pullW.getD (k - 1) 40

/-- Pull-in time of an output in ms. -/
def State.pullMs (s : State) (k : Nat) : Nat := s.cfg.coil.pullMs.getD (k - 1) 100

/-- Hold current of an output in mA. -/
def State.holdMa (s : State) (k : Nat) : Nat := s.cfg.coil.holdMa.getD (k - 1) 500

/-- Outputs K1 to K12. -/
def allK : List Nat := (List.range 12).map (· + 1)

/-- Outputs K1 to K11. -/
def mainK : List Nat := (List.range 11).map (· + 1)

/-- An output whose branch is not configured is unused and stays de-energised (01 R31). -/
def State.usedK (s : State) (k : Nat) : Bool :=
  if k ≤ 4 then s.cfg.hasBranch (k - 1) else if k ≤ 8 then s.cfg.hasBranch (k - 5) else decide (k ≤ 12)

/-- Pull-in power in use (12 R316). -/
def State.pullInUse (s : State) : Nat :=
  ((allK.filter fun k => decide ((s.coil k).phase = .pullIn)).map s.pullW).foldl (· + ·) 0

/-- A coil-off: driver off and trip switch open together; never delayed (12 R315, R316). A request that waits is
dropped, the coil having been off all along (12 R320). A coil already off stays off; a follower, whose drivers are off, opens its trip switch (11 R312). -/
def State.coilOff (s : State) (k : Nat) : State :=
  if (s.coil k).phase = .off then
    (s.onCoil k fun c => { c with tripClosed := false }).onCont fun c => { c with due := c.due.filter fun x => !decide (x = k) }
  else (s.onCoil k fun c => { c with phase := .off, tripClosed := false,
                                     commandAt := if c.phase = .waiting then c.commandAt else s.now,
                                     confirmed := decide (c.phase = .waiting) && c.confirmed,
                                     supplyWait := false, currentMa := 0 }).onCont fun c =>
    { c with queue := c.queue.filter fun x => !decide (x = k), due := c.due.filter fun x => !decide (x = k) }

/-- Coil-off of several outputs. -/
def State.coilsOff (s : State) (ks : List Nat) : State := ks.foldl State.coilOff s

/-- The coil supply allows a pull-in (12 R317). -/
def State.supplyOk (s : State) : Bool := decide ((s.cfg.coil.pullMin : Int) ≤ s.acq.coilSupply)

/-- Begin the pull-in phase (12 R315); the command instant of 12 R320 is this instant. -/
def State.startPullIn (s : State) (k : Nat) : State :=
  (s.onCoil k fun c => { c with phase := .pullIn, commandAt := s.now, pullAt := s.now, tripClosed := true, confirmed := false,
                                supplyWait := false }).onCont fun c => { c with queue := c.queue.filter fun x => !decide (x = k) }

/-- The waiting coils among some outputs go off: a sequence that ends takes its requests with it (12 R323, R332). -/
def State.dropWaiting (s : State) (ks : List Nat) : State :=
  s.coilsOff (ks.filter fun k => decide ((s.coil k).phase = .waiting))

/-- A coil may start: within the budget, with the supply up, and with the start check of the feedback done (12 R316,
R317, R322). -/
def State.mayPullIn (s : State) (k : Nat) : Bool :=
  s.ct.fbChecked && s.supplyOk && decide (s.pullInUse + s.pullW k ≤ s.cfg.coil.budget)

/-- A coil-on (12 R315 to R317): it starts at once, or waits in order of request. An unused output stays off
(01 R31), and an output already on stays as it is. -/
def State.coilOnReq (s : State) (k : Nat) : State :=
  if !s.usedK k || s.coilOn k then s
  else if s.ct.queue.isEmpty && s.mayPullIn k then
    (s.onCoil k fun c => { c with requestedAt := s.now }).startPullIn k
  else (s.onCoil k fun c => { c with phase := .waiting, requestedAt := s.now, supplyWait := !s.supplyOk }).onCont
    fun c => { c with queue := c.queue ++ [k] }

/-! ### The trip matrix -/

/-- Class, action, latching, delay and clear time of a function. -/
structure FnInfo where
  /-- class: 0 A, 1 B, 2 C, 3 D -/
  cls : Nat
  /-- action -/
  action : Action
  /-- resets under 11 R309 rather than R310 -/
  latched : Bool
  /-- delay, ms -/
  delay : Nat := 0
  /-- clear time, ms -/
  clear : Nat := 0
deriving DecidableEq, Repr

/-- Group 4 is the string; 0 to 3 are the branches. -/
def strGroup : Nat := 4

/-- Group 5 holds the functions of safety inputs and outputs without an action: closing permits (13 R339, R346) and outputs of
function 3 (13 R344). -/
def permitGroup : Nat := 5

/-- The functions of the trip matrix (11 R292, 12 R321, 13 R346, 16 R419); none for a reserved code. -/
def State.fnBase (s : State) (code group : Nat) : Option FnInfo :=
  let bs : Action := if group < 4 then .bd else .sd
  match code with
  | 0x01 => some ⟨0, .bd, true, 0, 0⟩
  | 0x02 => some ⟨0, .sd, true, 0, 0⟩
  | 0x03 | 0x04 | 0x05 | 0x06 | 0x07 | 0x08 => some ⟨1, .bd, true, 0, 0⟩
  | 0x09 => some ⟨1, .hold, false, 0, 0⟩
  | 0x0A | 0x0B => some ⟨1, .sd, true, 0, 0⟩
  | 0x0C => some ⟨2, .hold, false, 10000, 60000⟩
  | 0x0D => some ⟨2, .bd, true, 1000, 0⟩
  | 0x0E => some ⟨2, .bd, true, 10000, 0⟩
  | 0x0F => some ⟨2, .hold, false, 0, 1000⟩
  | 0x10 => some ⟨2, .sd, true, 0, 0⟩
  | 0x11 => some ⟨2, .hold, false, 5000, 60000⟩
  | 0x12 => some ⟨2, if s.cfg.timed.precursorHold then .hold else .bd, true, 0, 0⟩
  | 0x13 => if s.cfg.ins.publishOnly then some ⟨3, .none, false, 10000, 0⟩ else some ⟨2, .sd, true, 10000, 0⟩
  | 0x14 => some ⟨2, .bd, true, 10000, 0⟩
  | 0x15 => some ⟨2, .sd, true, 0, 0⟩
  | 0x16 | 0x17 | 0x18 | 0x19 | 0x1A => some ⟨3, .none, false, 0, 0⟩
  | 0x20 | 0x21 | 0x22 | 0x23 => some ⟨2, bs, true, 0, 0⟩
  | 0x24 => some ⟨2, .sd, false, 0, 1000 * s.cfg.pre.lockout⟩
  | 0x25 => some ⟨2, .sd, true, 0, 0⟩
  | 0x26 => some ⟨2, .hold, false, 0, 1000⟩
  | 0x27 => some ⟨2, .sd, true, 0, 0⟩
  | 0x28 => some ⟨3, .none, false, 0, 60000⟩
  | 0x30 | 0x31 => if group = permitGroup then some ⟨1, .none, false, 0, 100⟩ else some ⟨1, .sd, true, 0, 0⟩
  | 0x32 => some ⟨1, if group = permitGroup then .none else .sd, true, 0, 0⟩
  | 0x33 => some ⟨2, bs, true, 0, 0⟩
  | 0x34 => some ⟨2, .sd, false, 0, 1000⟩
  | _ => none

/-- The function with the delay and clear time of record 0x0704 where it names them (11 R292, R314). -/
def State.fnInfo (s : State) (code group : Nat) : Option FnInfo :=
  (s.fnBase code group).map fun i => { i with
    delay := (s.cfg.timed.delay.lookup code).getD i.delay
    clear := (s.cfg.timed.clear.lookup code).getD i.clear }

/-- The codes of the trip matrix. -/
def fnCodes : List Nat :=
  (List.range 0x1A).map (· + 1) ++ (List.range 9).map (· + 0x20) ++ [0x30, 0x31, 0x32, 0x33, 0x34]

/-- A function's entry, if it stands. -/
def State.fn (s : State) (code group : Nat) : Option Fn :=
  s.pr.fns.find? fun f => decide (f.code = code ∧ f.group = group)

/-- Some entry of a code stands in a way. -/
def State.fnAny (s : State) (code : Nat) (p : Fn → Bool) : Bool :=
  s.pr.fns.any fun f => decide (f.code = code) && p f

/-- Set a function's entry; one with no condition, latch, demand or delay leaves the table. -/
def State.setFn (s : State) (f : Fn) : State :=
  s.onProt fun p =>
    let rest := p.fns.filter fun g => !decide (g.code = f.code ∧ g.group = f.group)
    if f.condition || f.latched || f.demanding || f.delaySince.isSome then { p with fns := rest ++ [f] }
    else { p with fns := rest }

/-- A latched function stands somewhere. -/
def State.latchedCodes (s : State) : List (Nat × Nat) :=
  (s.pr.fns.filter fun f => f.latched).map fun f => (f.code, f.group)

/-- The latched functions are kept as item 0x01 of group 0x07 (11 R310). -/
def State.writeLatches (s : State) : State :=
  s.writeItem (itemKey 7 1 0) (s.latchedCodes.flatMap fun x => [x.1, x.2])

/-- Some demanding function asks for an action on a branch or the string. -/
def State.demands (s : State) (a : Action) (group : Nat) : Bool :=
  s.pr.fns.any fun f => f.demanding && decide (f.action = a ∧ f.group = group)

/-- An SD action is in progress (11 R290). -/
def State.sdActive (s : State) : Bool := s.pr.fns.any fun f => f.demanding && decide (f.action = .sd)

/-- A BD action is in progress on a branch (11 R290). -/
def State.bdActive (s : State) (b : Nat) : Bool := s.demands .bd b

/-- An H action is in progress (11 R290). -/
def State.holdActive (s : State) : Bool := s.pr.fns.any fun f => f.demanding && decide (f.action = .hold)

/-- An action is in progress on the string: an SD, an H, or the hold that a BD includes (11 R290). -/
def State.stringAction (s : State) : Bool := s.sdActive || s.holdActive || !s.pr.holdBranches.isEmpty

/-- Some H, BD or SD action is in progress (11 R290, 13 R341). -/
def State.anyAction (s : State) : Bool :=
  s.stringAction || s.cfg.branchList.any s.bdActive

/-- The function code of the earliest action in progress, 0 for none (11 R313). -/
def State.firstFn (s : State) : Nat :=
  match ((s.pr.fns.filter fun f => f.demanding && !decide (f.action = .none)).foldl (fun (m : Option Fn) f => match m with
    | none => some f
    | some g => if f.decidedAt < g.decidedAt then some f else some g) none) with
  | some f => f.code
  | none => 0

/-- The string's hold: the stop-request field of every frame (01 R33, 11 R288), set by an action, by a disconnect or
reset in hand (12 R331, 19 R476), or by the limit watchdog (08 R234). -/
def State.holdDemand (s : State) : Bool := s.stringAction || s.ct.reopenHold || s.lim.stale || s.pw.resetHold.isSome

/-! ### Conditions for closing (12 R323) -/

/-- Condition 2: no latched function stands for the string or the group, and neither 0x24 nor 0x28. -/
def State.noLatch (s : State) (group : Nat) : Bool :=
  !(s.pr.fns.any fun f => (f.latched && decide (f.group = strGroup ∨ f.group = group)) ||
    (decide (f.code = 0x24 ∨ f.code = 0x28) && (f.condition || f.demanding) && decide (f.group = strGroup ∨ f.group = group)))

/-- An input is in demand or has a fault, which counts as a demand (13 R337, R339). -/
def State.inputDemand (s : State) (i : Nat) : Bool :=
  let x := s.sf.inputs.get i {}
  let src := s.cfg.safeIn.source.getD (i - 1) 0
  x.demand || !decide (x.fault = 0) || decide (src ∈ s.sf.srcFault) || decide (i ∈ s.sf.partnerDemand)

/-- The safety inputs SI1 to SI8 of a function (13 R336). -/
def State.inputsOf (s : State) (f : Nat) : List Nat :=
  ((List.range 8).map (· + 1)).filter fun i => decide (s.cfg.safeIn.fn.getD (i - 1) 0 = f)

/-- Condition 4: no emergency stop or external trip in demand or fault, every closing permit permits. -/
def State.inputsPermit (s : State) : Bool :=
  !((s.inputsOf 1 ++ s.inputsOf 2 ++ s.inputsOf 3).any s.inputDemand)

/-- Emergency stop or external trip in demand (13 R336, R341). -/
def State.tripInput (s : State) : Bool := (s.inputsOf 1 ++ s.inputsOf 2).any s.inputDemand

/-- Condition 5: every used contactor of K1 to K11 outside the step is where its coil commands it, and confirmed. -/
def State.contactorsAsExpected (s : State) (step : List Nat) : Bool :=
  mainK.all fun k => decide (k ∈ step) || !s.usedK k ||
    (if s.coilOn k then s.confirmedClosed k else s.confirmedOpen k)

/-- A node is silent (11 R300): 3 consecutive superframes without an accepted report. -/
def State.nodeSilent (s : State) (n : Nat) : Bool := decide (3 ≤ (s.node n).silence)

/-- The configured nodes of a branch. -/
def State.branchNodes (s : State) (b : Nat) : List Nat :=
  (s.cfg.nodes.filter fun e => decide (e.branch = b)).map fun e => e.index

/-- Condition 6: every configured node of the branch is admitted or pending, and none silent. -/
def State.nodesReady (s : State) (b : Nat) : Bool :=
  (s.branchNodes b).all fun n => decide ((s.node n).adm = .admitted ∨ (s.node n).adm = .pending) && !s.nodeSilent n

/-- Condition 7: HV_b and HV4 are valid. -/
def State.hvValid (s : State) (b : Nat) : Bool := qValid (s.achan (5 + b)).quality && qValid (s.achan 9).quality

/-- Condition 9: the converter reports itself ready and not running. -/
def State.convIdle (s : State) : Bool := s.rt.conv.ready && !s.rt.conv.running

/-- Branch-bound conditions 2, 6 and 7: a branch is eligible or not blocked by them (12 R325, R328). -/
def State.branchClear (s : State) (b : Nat) : Bool := s.noLatch b && s.nodesReady b && s.hvValid b

/-- The first absent condition of 12 R323 for a step of branch `b`, none when all hold. `step` lists the outputs of the
present step, `conn` says that the step belongs to a connection before the mains are confirmed closed. -/
def State.absentCondition (s : State) (b : Nat) (step : List Nat) (conn : Bool) : Option Nat :=
  if !s.leads then some 1
  else if !s.noLatch b then some 2
  else if s.acq.calFault || s.th.failure then some 3
  else if !s.inputsPermit then some 4
  else if !s.contactorsAsExpected step then some 5
  else if !s.nodesReady b then some 6
  else if !s.hvValid b then some 7
  else if !s.supplyOk then some 8
  else if conn && !s.convIdle then some 9
  else if !decide (s.pw.state = .run ∨ s.pw.state = .watch) then some 10
  else none

/-- The first absent condition of 12 R323 other than condition 8, which only makes a coil wait. -/
def State.absentNow (s : State) (b : Nat) (step : List Nat) (conn : Bool) : Option Nat :=
  match s.absentCondition b step conn with
  | some 8 =>
    if conn && !s.convIdle then some 9
    else if !decide (s.pw.state = .run ∨ s.pw.state = .watch) then some 10
    else none
  | x => x

/-! ### Ends of sequences -/

/-- A connection is in hand. -/
def State.connecting (s : State) : Bool :=
  decide (s.ct.stage = .closingFirst ∨ s.ct.stage = .preCharging ∨ s.ct.stage = .closingMain)

/-- Every used contactor of K1 to K11 is confirmed open with its coil off (12 R324). -/
def State.allOpen (s : State) : Bool := mainK.all fun k => !s.usedK k || (!s.coilOn k && s.confirmedOpen k)

/-- Begin the order of 12 R331: hold, every sequence in hand ends, the mains open when the current allows. A disconnect
already in hand runs on with its waits. -/
def State.beginDisconnect (s : State) : State :=
  (s.dropWaiting mainK).onCont fun c => { c with
    stage := .disconnecting
    step := 0
    due := []
    joinStep := 0
    leaveAt := none
    reopenHold := true
    discAt := if c.stage = .disconnecting then some (c.discAt.getD s.now) else some s.now
    discSweep := if decide (c.stage = .disconnecting) && c.discAt.isSome then c.discSweep else s.sweepNo + 1
    mainsOff := decide (c.stage = .disconnecting) && c.mainsOff
    autoArmed := false
    branches := c.branches.mapAll .opened fun _ b => if b = .leaving then .joined else b }

/-- Coil-off for the mains K9, K10 and K11 (12 R331). -/
def State.mainsOffNow (s : State) : State :=
  (s.coilsOff [9, 10, 11]).onCont fun c => { c with mainsOff := true }

/-- End a connection with an absent condition (12 R323): the order of R331 from the present states, and the record. -/
def State.abortConnection (s : State) (cond : Nat) : State :=
  (s.record .connectAborted 0 [cond]).beginDisconnect

/-- End a join (12 R323, R332): its coils go off and the branch is pending or blocked again. -/
def State.abortJoin (s : State) (b : Nat) : State :=
  ((s.coilsOff [b + 5, b + 1]).onCont fun c => { c with joinStep := 0, due := [] }).setBranch b
    (if s.branchClear b then .pending else .blocked)

/-- The string opens by an SD (11 R288, R290; 12 R324): coil-off to K1 to K11, every sequence in hand ends. -/
def State.openString (s : State) : State :=
  let s1 := s.coilsOff mainK
  s1.onCont fun c => { c with
    stage := if c.stage = .opened then .opened else .disconnecting
    step := 0
    due := []
    joinStep := 0
    leaveAt := none
    discAt := none
    mainsOff := true
    branches := {} }

/-- A branch opens by a BD (11 R288, R290; 12 R332): its contactors go off; before the string is connected a BD on the
first branch opens K9 to K11 as well and ends the connection; the branch is blocked. -/
def State.openBranch (s : State) (b : Nat) : State :=
  let s1 := s.coilsOff [b + 1, b + 5]
  let s2 := s1.onCont fun c => { c with
    joinStep := if decide (s.branch b = .joining) then 0 else c.joinStep
    leaveAt := if decide (s.branch b = .leaving) then none else c.leaveAt }
  if !decide (s.ct.stage = .opened ∨ s.ct.stage = .connected) && decide (s.ct.first = some b ∧ s.branch b = .opened) then
    ((s2.coilsOff [9, 10, 11]).onCont fun c => { c with stage := .disconnecting, step := 0, due := [], mainsOff := true })
  else if decide (s.ct.stage = .connected) then s2.setBranch b .blocked else s2

/-- A class C BD ends the connection or join of its branch at the decision; its coil-off follows (11 R289, R290). -/
def State.endSequenceOf (s : State) (b : Nat) : State :=
  if s.connecting && decide (s.ct.first = some b) then
    (s.dropWaiting mainK).onCont fun c => { c with stage := .disconnecting, step := 0, due := [] }
  else if s.branch b = .joining then (s.dropWaiting [b + 1, b + 5]).onCont fun c => { c with joinStep := 0, due := [] }
  else s

/-! ### Decisions -/

/-- The octets a decision record carries after its subject: the branch (0xFF for none) and the deciding value, signed
32-bit (22 R531, 11 R291). -/
def decisionData (group : Nat) (value : Int) : List Nat :=
  (if group < 4 then group else 255) :: octetsOf 4 (wrapInt 4 value)

/-- A demand ends a safe output test in progress at once, without a verdict; it runs again later (13 R343). -/
def State.interruptTest (s : State) (o : Nat) : State :=
  let x := s.sf.outputs.get o {}
  if x.testing = 0 then s
  else
    (s.onSafety fun f => { f with outputs := f.outputs.put o {} { x with
      testing := 0, rerunWait := true, rerunAt := none, rerunDark := decide (x.testing = 1) } }).record .testInterrupted o []

/-- A demand ends the tests of both outputs. -/
def State.interruptTests (s : State) : State := (s.interruptTest 1).interruptTest 2

/-- Record a decision (11 R291) and note its instant; it is a demand to the safe output tests (13 R343). -/
def State.noteDecision (s : State) (code group subject : Nat) (value : Int) : State :=
  ((s.record (.prot code) subject (decisionData group value)).onProt fun p => { p with
    lastDecision := s.th.reading }).interruptTests

/-- A protection decision of a function on a group (11 R288 to R292). The record is written; a class A or B action
issues coil-off and hold together, a class C disconnect holds and waits for the current, a class D function takes no
action. A function that already demands its action decides nothing anew. -/
def State.decideFn (s : State) (code group subject : Nat) (value : Int) (cells : List Nat := []) : State :=
  match s.fnInfo code group with
  | none => s
  | some i =>
    let old := s.fn code group
    let fresh := match old with | some f => !(f.demanding || f.latched || f.condition) | none => true
    let named := ((old.map fun f => f.cells).getD []).filter fun c => !decide (c ∈ cells)
    let f : Fn :=
      { code := code, group := group, action := i.action, condition := true, latched := i.latched
        demanding := !decide (i.action = .none) || decide (0 < i.clear)
        decidedAt := if fresh then s.now else (old.map fun f => f.decidedAt).getD s.now, subject := subject, value := value, cells := cells ++ named }
    let s1 := if fresh then s.noteDecision code group subject value else s
    let s2 := s1.setFn f
    let s3 := if i.latched && fresh then s2.writeLatches else s2
    if !fresh then s3
    else match i.action with
      | .none => s3
      | .hold => s3
      | .bd =>
        let s4 := s3.onProt fun p => { p with holdBranches := insertN group p.holdBranches }
        if i.cls ≤ 1 then s4.openBranch group
        else (s4.endSequenceOf group).onProt fun p => { p with
          waits := p.waits ++ [{ group := group, since := s.now, sinceSweep := s.sweepNo + 1 }] }
      | .sd =>
        if i.cls ≤ 1 then s3.openString
        else
          let s4 := (s3.dropWaiting mainK).onCont fun c => { c with
            step := 0
            due := []
            joinStep := 0
            leaveAt := none
            stage := if c.stage = .opened then .opened else .disconnecting }
          s4.onProt fun p => { p with waits := p.waits ++ [{ group := strGroup, since := s.now, sinceSweep := s.sweepNo + 1 }] }

/-- The coil-off of a waiting class C disconnect (11 R289). -/
def State.breakNow (s : State) (group : Nat) : State :=
  let s1 := s.onProt fun p => { p with waits := p.waits.filter fun w => !decide (w.group = group) }
  if group < 4 then s1.openBranch group else s1.openString

/-- The group of an output (12 R321): its branch for K1 to K8, the string for the others. -/
def groupOfK (k : Nat) : Nat := if k ≤ 4 then k - 1 else if k ≤ 8 then k - 5 else strGroup

/-- The failure bits of the outputs of a group fall with their function (12 R334). -/
def State.clearFailed (s : State) (bit group : Nat) : State :=
  let f := fun (k : Nat) (x : Coil) => if groupOfK k = group ∧ x.failed.testBit bit then { x with failed := x.failed - 2 ^ bit } else x
  s.onCont fun c => { c with coils := c.coils.mapAll {} f }

/-- A function resets (11 R309, R310): its entry leaves the table. -/
def State.resetFn (s : State) (code group : Nat) : State :=
  let was := match s.fn code group with | some f => f.latched | none => false
  let s1 := s.onProt fun p => { p with fns := p.fns.filter fun f => !decide (f.code = code ∧ f.group = group) }
  let s1 := if 0x20 ≤ code ∧ code ≤ 0x23 then s1.clearFailed (code - 0x20) group else s1
  let s2 := s1.record .protReset (code * 8 + group) []
  if was then s2.writeLatches else s2

/-- An evaluation of a function's condition (11 R292, R309, R310): the count of absent evaluations and the start of the
absence are kept for a standing function; a delay starts, runs on or is given up. -/
def State.evalFn (s : State) (code group : Nat) (present : Bool) : State :=
  match s.fn code group with
  | none =>
    if present then s.setFn { code := code, group := group, action := .none, delaySince := some s.now } else s
  | some f =>
    if f.latched || f.demanding || f.condition then
      s.setFn { f with condition := present
                       absent := if present then 0 else min 127 (f.absent + 1)
                       absentSince := if present then none else some (f.absentSince.getD s.now) }
    else s.setFn { f with delaySince := if present then some (f.delaySince.getD s.now) else none }

/-- A function with its condition evaluated, deciding at once where its delay is over (11 R292). -/
def State.evalAndDecide (s : State) (code group : Nat) (present : Bool) (subject : Nat) (value : Int)
    (cells : List Nat := []) : State :=
  let s0 := s.evalFn code group present
  let s1 := match s0.fn code group with
    | some f => if present && f.delaySince.isSome && !f.condition then s0.setFn { f with subject := subject, value := value, cells := cells } else s0
    | none => s0
  let delay := match s.fnInfo code group with | some i => i.delay | none => 0
  match s1.fn code group with
  | some f => if present && !f.latched && !f.demanding && !f.condition && s1.heldFor f.delaySince (ms delay)
      then s1.decideFn code group subject value cells else s1
  | none => s1

end Sys2Proof.Machine
end

