-- ==== Sys2Proof/Machine/Records.lean ====
section
/-! DEFINITION. Sys2Proof/Machine/Records.lean: the change-driven telemetry records (24 R562), the GOOSE datasets
(17 R439, R440), and what follows every command at once: the island's stop-request, the safe outputs and the
publications of what changed. -/

namespace Sys2Proof.Machine

open Sys2Proof

/-- A record body from its sweep number and fields. -/
def State.body (s : State) (fs : List (Nat × Int)) : List Nat := enc (fN 4 s.sweepNo :: fs)

/-- A flag octet as a field. -/
def fB (l : List Bool) : Nat × Int := fN 1 (bitsOf l)

/-- A list of constant octets. -/
def fL (l : List Nat) : List (Nat × Int) := l.map (fN 1)

/-! ### Module state record (19 R485) -/

/-- The code of a module state (19 R485). -/
def modCode : ModState → Nat
  | .starting => 1 | .unconfigured => 2 | .watch => 3 | .run => 4 | .enteringHib => 5 | .flushing => 6
  | .resetLocked => 7 | .off => 0 | .hibernate => 0

/-- Fields of the module state record but the counters, whose change publishes it (19 R485). -/
def State.modKey (s : State) : List (Nat × Int) :=
  [fN 1 (modCode s.pw.state), fN 1 s.pw.resetLevel, fN 1 s.pw.resetCause, fN 1 s.pg.outcome,
   fB [s.pw.feed1, s.pw.feed2, s.supplyOk, s.pw.serviceEnable, s.pw.pressAt.isSome], fN 1 s.pw.lastWake]

/-- Fault resets within the last 600 s (19 R479). -/
def State.faultCount (s : State) : Nat := (s.pw.faultResets.filter fun t => decide (s.now < t + sec 600)).length

/-- The module state record (19 R485). -/
def State.modRecord (s : State) : List Nat :=
  s.body (s.modKey ++ [fN 2 s.pw.holdUpMs, fN 4 s.pw.powerCycles, fN 4 s.opTime, fN 2 s.faultCount, fQ qGood, fN 1 0])

/-- The module state record is published only while the plant ports or X13 are up (19 R485). -/
def State.portUp (s : State) (p : Nat) : Bool := (s.nt.ports.get p {}).up

/-- The ports run (01 R26). -/
def State.netOn (s : State) : Bool := s.pw.portsUp

/-- Some port is up. -/
def State.anyPort (s : State) : Bool := s.portUp 1 || s.portUp 2 || s.portUp 3

/-! ### Configuration status record (20 R506) -/

/-- The directory entry in force: the valid copy with the later sequence (20 R490). -/
def Plug.dir (p : Plug) : Option DirEntry :=
  match p.dirA, p.dirB with
  | some a, some b =>
    if a.plug = p.ident ∧ b.plug = p.ident then (if laterThan b.seq a.seq then some b else some a)
    else if a.plug = p.ident then some a else if b.plug = p.ident then some b else none
  | some a, none => if a.plug = p.ident then some a else none
  | none, some b => if b.plug = p.ident then some b else none
  | none, none => none

/-- An area code: 0, 1 or 0xFF none. -/
def areaCode (a : Option Nat) : Nat := a.getD 255

/-- Fields of the configuration status record after its sweep number (20 R506). -/
def State.cfgKey (s : State) : List (Nat × Int) :=
  let h := s.pg.running.getD { version := 0, antiRollback := 0, safetyHash := 0 }
  let d := s.pg.dir.getD {}
  let ep := match s.pg.running with | some h => h.version | none => 0
  [fN 4 ep, fN 8 s.pg.ident, fN 8 h.safetyHash, fN 4 h.antiRollback,
   fN 1 (if d.empty then 2 else if d.trial then 1 else 0), fN 1 (areaCode d.active), fN 1 (areaCode d.staged),
   fN 1 s.pg.outcome, fN 1 s.pg.failedStage, fB [s.pg.removed, s.up.schedule.isSome, s.pg.fallback],
   fQ (qIf s.pg.running.isSome), fN 1 0]

/-! ### Guarantee status record (23 R560) -/

/-- The assumptions that fail, bit (code - 1) (23 R560). -/
def State.failedAssumptions (s : State) : List Bool :=
  [s.sf.reduced, (List.range 4).any fun c => (s.rchan c).interference, s.dl.delivery,
   (List.range 2).any fun c => (s.can c).loadHigh, s.dl.timeBad]

/-- The guarantees void (23 R558): bit 0 dispatch, 1 radio, 2 election, 3 twin takeover, 4 CAN, 5 update, 6 availability. -/
def State.voidGuarantees (s : State) : List Bool :=
  match s.failedAssumptions with
  | [p, r, d, c, t] => [d, r, d || t, p, c, d, p || r]
  | _ => []

/-- Fields of the guarantee status record after its sweep number (23 R560). -/
def State.guaranteeKey (s : State) : List (Nat × Int) :=
  [fB s.failedAssumptions, fB s.voidGuarantees, fN 1 (maskOf 6 (s.dl.deferred.map fun c => c - 1)),
   fB ((List.range 4).map fun c => (s.rchan c).interference), fB ((List.range 2).map fun c => (s.can c).loadHigh),
   fQ qGood, fN 2 0]

/-! ### Contactor status record (12 R334) -/

/-- Code of the string state (12 R334). -/
def strCode : StrState → Nat
  | .opened => 0 | .closingFirst => 1 | .preCharging => 2 | .closingMain => 3 | .connected => 4 | .disconnecting => 5

/-- Code of a branch state (12 R334). -/
def brCode : BrState → Nat
  | .opened => 0 | .blocked => 1 | .pending => 2 | .joining => 3 | .joined => 4 | .leaving => 5

/-- The state a branch is reported in: the first branch is joining until the string is connected (12 R601), and while
connected a branch that is not joined is pending or blocked (12 R328). -/
def State.branchReported (s : State) (b : Nat) : BrState :=
  if s.connecting && decide (s.ct.first = some b) then .joining else s.branch b

/-- Code of a coil phase (12 R334). -/
def phaseCode : CoilPhase → Nat
  | .off => 0 | .pullIn => 1 | .hold => 2 | .waiting => 3

/-- Direction that closes the gap of a pending branch (12 R329, R334). -/
def State.joinDir (s : State) (b : Nat) : Nat :=
  if s.branch b = .pending then (if s.hv 4 < s.hv b then 1 else if s.hv b < s.hv 4 then 2 else 0) else 0

/-- Pre-charge attempts within the window, in operating time (12 R327). -/
def State.preAttempts (s : State) : Nat :=
  (s.ct.attempts.filter fun t => decide (s.opTime < t + s.cfg.pre.window)).length

/-- Mask of coils with a failure bit: 0 welded, 1 failed to close, 2 discrepant, 3 circuit fault (12 R334). -/
def State.failMask (s : State) (bit : Nat) : Nat :=
  maskOf 12 ((allK.filter fun k => (s.coil k).failed.testBit bit).map fun k => k - 1)

/-- A function of a code is active or latched (12 R334). -/
def State.fnStands (s : State) (code : Nat) : Bool := s.fnAny code fun f => f.condition || f.latched || f.demanding

/-- The two octets of an output in the contactor status record (12 R334): zeros, the report of an unused one, where its branch is not
configured (01 R31; log 105). `current` is its current in 20 mA. -/
def State.coilOctets (s : State) (k current : Nat) : List (Nat × Int) :=
  if s.usedK k then
    [fN 1 (phaseCode (s.coil k).phase + bitsOf [false, false, (s.coil k).mirrorClosed, (s.coil k).accepted.isSome]), fN 1 current]
  else [fN 1 0, fN 1 0]

/-- The change-driven fields of the contactor status record (12 R334). -/
def State.contKey (s : State) : List (Nat × Int) :=
  [fN 1 (strCode s.ct.stage), fN 1 (areaCode s.ct.first),
   fN 2 (((List.range 4).map fun b => brCode (s.branchReported b) * 16 ^ b).foldl (· + ·) 0)] ++
  (allK.flatMap fun k => s.coilOctets k (bitsOf [(s.coil k).confirmed])) ++
  [fN 2 (s.failMask 0), fN 2 (s.failMask 1), fN 2 (s.failMask 2), fN 2 (s.failMask 3),
   fN 2 (bitsOf ((List.range 9).map fun i => s.fnStands (0x20 + i)))]

/-- The contactor status record (12 R334). -/
def State.contRecord (s : State) : List Nat :=
  let hv4 := qValid (s.achan 9).quality
  let diff := fun b => if hv4 then s.hv b - s.hv 4 else 0
  let beyond := overU 16 s.acq.coilSupply || (List.range 4).any fun b => overS 32 (diff b)
  s.body ([fN 1 (strCode s.ct.stage), fN 1 (areaCode s.ct.first),
    fN 2 (((List.range 4).map fun b => brCode (s.branchReported b) * 16 ^ b).foldl (· + ·) 0),
    fN 1 s.preAttempts, fN 1 (((List.range 4).map fun b => s.joinDir b * 4 ^ b).foldl (· + ·) 0), fN 2 s.ct.tau] ++
    (allK.flatMap fun k => s.coilOctets k (min 255 ((s.coil k).currentMa / 20))) ++
    [fN 2 (s.failMask 0), fN 2 (s.failMask 1), fN 2 (s.failMask 2), fN 2 (s.failMask 3),
     (2, clampU 16 s.acq.coilSupply), fN 2 (bitsOf ((List.range 9).map fun i => s.fnStands (0x20 + i)))] ++
    ((List.range 4).map fun b => (4, clampS 32 (diff b))) ++
    [fQ (qOver beyond (qIf hv4)), fN 3 0])

/-! ### Protection status record (11 R313) -/

/-- The bit of a function code in the status words (11 R313). -/
def fnBit (code : Nat) : Nat := if code = 0x34 then 31 else code - 1

/-- A word of the functions that meet a test (11 R313). -/
def State.fnWord (s : State) (p : Fn → Bool) : Nat :=
  maskOf 32 (((List.range 0x1A).map (· + 1) ++ [0x34]).filter (fun c => s.fnAny c p) |>.map fnBit)

/-- Action in progress on a branch: 0 none, 1 H, 2 BD (11 R313). -/
def State.branchActionCode (s : State) (b : Nat) : Nat := if s.bdActive b then 2 else if s.demands .hold b then 1 else 0

/-- Action in progress on the string: 0 none, 1 H, 2 SD (11 R313). -/
def State.stringActionCode (s : State) : Nat := if s.sdActive then 2 else if s.stringAction then 1 else 0

/-- The module's own monitor is coupled: K12 energised and confirmed closed, or welded (11 R306, 12 R321). -/
def State.monitorCoupled (s : State) : Bool :=
  (s.coilOn 12 && s.confirmedClosed 12) || (s.coil 12).failed.testBit 0

/-- Insulation state: 0 not coupled, 1 measuring, 2 warning, 3 fault, 4 no valid value (11 R313). -/
def State.insulationState (s : State) : Nat :=
  if !s.monitorCoupled then 0
  else if s.fnStands 0x13 then 3
  else if s.fnStands 0x16 then 2
  else if qValid s.pr.risoQuality then 1 else 4

/-- R_iso as it is reported: the value field of a missing value is zero (00 R18). -/
def State.risoShown (s : State) : Nat := if qMissing s.pr.risoQuality then 0 else s.pr.riso

/-- The change-driven fields of the protection status record (11 R313). -/
def State.protKey (s : State) : List (Nat × Int) :=
  [fN 4 (s.fnWord fun f => f.condition), fN 4 (s.fnWord fun f => f.latched), fN 1 s.stringActionCode,
   fN 1 (((List.range 4).map fun b => s.branchActionCode b * 4 ^ b).foldl (· + ·) 0), fN 1 s.firstFn,
   fN 1 s.insulationState]

/-- The protection status record (11 R313). -/
def State.protRecord (s : State) : List Nat :=
  s.body (s.protKey ++ [fN 4 s.risoShown, fQ s.pr.risoQuality, fN 3 0])

/-! ### Safety I/O status record (13 R353) -/

/-- The authorisation lockout stands (13 R351). -/
def State.authLocked (s : State) : Bool := match s.sf.lockUntil with | some t => decide (s.now < t) | none => false

/-- Fields of the safety I/O status record after its sweep number (13 R353). -/
def State.safetyKey (s : State) : List (Nat × Int) :=
  let ins := (List.range 8).map (· + 1)
  let o := fun n => s.sf.outputs.get n {}
  [fB (ins.map fun i => !(s.sf.inputs.get i {}).demand), fB (ins.map fun i => !decide ((s.sf.inputs.get i {}).fault = 0)),
   fB [decide (1 ∈ s.sf.srcFault), decide (2 ∈ s.sf.srcFault)],
   fB [(o 1).energised, (o 1).fault, false, false, (o 2).energised, (o 2).fault],
   fB ((List.range 4).map fun i => s.fnStands (0x30 + i)), fB [s.sf.reduced, s.sf.lockUntil.isSome, s.inputsPermit],
   fN 2 0, fN 4 s.sf.counter, fN 8 ((s.pg.running.map fun h => h.safetyHash).getD 0), fQ qGood, fN 3 0]

/-! ### Time status record (24 R568) -/

/-- Filtered offset in ns: the mean of the last 8 measurements (02 R50; log 12). -/
def State.filtered (s : State) : Rat := meanR s.th.offsets

/-- The time status record (24 R568). -/
def State.timeRecord (s : State) : List Nat :=
  let off := if s.th.source = 0 then 0 else roundZero s.filtered
  s.body ([fN 1 s.timeByte, fQ (qOver (overS 32 off) (qIf (!decide (s.th.source = 0)))), fN 2 0, (4, clampS 32 off), fN 8 s.th.addend,
    fN 4 (if s.th.state = .locked then 0 else (s.now - s.th.lockedAt) / 1000000000)] ++
    ((List.range 5).flatMap fun p =>
      let q := s.th.queues.get (p + 1) {}
      [fN 4 q.overflow, fN 4 q.expired]))

/-! ### Twin status record (14 R377) -/

/-- Code of a role (14 R377). -/
def roleCode : Role → Nat
  | .starting => 0 | .syncing => 1 | .follower => 2 | .leader => 3 | .withdrawn => 4 | .absent => 7

/-- Paths held (14 R360). -/
def State.path (s : State) (p : Nat) : HbPath := s.tw.paths.get p {}

/-- Fields of the twin status record after its sweep number, the offset apart (14 R377). -/
def State.twinKey (s : State) : List (Nat × Int) :=
  [fN 1 (bitsOf [decide (s.cfg.twin.position = 1)] + 2 * roleCode s.tw.role + if s.tw.ready then 16 else 0),
   fN 1 (roleCode s.tw.partner + if s.tw.partnerFailed then 8 else 0),
   fB ((List.range 3).map fun p => !(s.path p).lost),
   fB [s.sf.reduced, s.tw.rideThrough, s.tw.mismatch, s.tw.notReadyTakeover],
   fN 2 s.tw.crossHold, fN 1 s.tw.cause, fN 1 0, fN 4 s.tw.epoch, fN 4 s.tw.takeovers, fN 4 s.tw.handovers,
   fN 2 s.tw.lastTakeover, fN 2 0]

/-- The twin status record (14 R377). -/
def State.twinRecord (s : State) : List Nat :=
  let off := if s.th.twinAvail then s.th.twinOffset else 0
  s.body ((s.twinKey.set 6 (fQ (qOver (overS 32 off) (qIf s.th.twinAvail)))) ++ [(4, clampS 32 off)])

/-! ### Recorder status record (22 R542) -/

/-- The recorder status record (22 R542). -/
def State.recorderRecord (s : State) : List Nat :=
  let r := s.ro
  s.body [fN 4 ((r.nextSeq + two32 - 1) % two32), fN 4 ((r.held.getLast?.map fun b => b.number).getD r.openBlock.number),
    fN 4 r.openBlock.number, fN 4 r.suppressedTotal, fN 2 r.spares, fN 1 r.opened.length,
    fB [r.wrapped, r.ceiling, r.fault], fQ qGood, fN 3 0]

/-- What publishes the recorder status record: a wrap, a retirement or a change of the ceiling flag (22 R542). -/
def State.recorderKey (s : State) : List (Nat × Int) :=
  [fB [s.ro.wrapped, s.ro.ceiling, s.ro.fault], fN 2 s.ro.spares, fN 4 s.ro.ringSize]

/-! ### Update status record (21 R528) -/

/-- The boot-selection record in force (21 R515). -/
def Update.boot (u : Update) : BootRec :=
  match u.bootA, u.bootB with
  | some a, some b => if laterThan b.seq a.seq then b else a
  | some a, none => a
  | none, some b => b
  | none, none => {}

/-- The phase of an update (21 R528): 0 idle, 1 downloading, 2 verifying, 3 scheduled, 4 waiting for partner,
5 probation, 6 key roll. -/
def State.updatePhase (s : State) : Nat :=
  let u := s.up
  if u.verifying then 2 else if u.offer.isSome then 1
  else if s.ra.rollEpoch.isSome then 6
  else if u.probation.isSome then 5
  else match u.schedule with
    | some x => if x.follow then 4 else 3
    | none => 0

/-- Fields of the update status record but the offsets (21 R528). -/
def State.updateKey (s : State) : List (Nat × Int) :=
  let u := s.up
  let t := match u.offer with | some h => h.kind | none => 0
  let b := u.boot
  let rem := match u.probation with | some (_, t0) => (t0 + sec 600 - s.now) / 1000000000 | none => 0
  let sch := u.schedule.getD {}
  [fN 1 (u.session + 4 * t + if s.pw.recovery then 16 else 0), fN 1 s.updatePhase, fN 1 u.lastResult, fN 1 u.failedStage,
   fN 4 b.version, fN 4 (if b.trial then b.trialVersion else (u.stagedFw.map fun h => h.version).getD 0),
   fN 4 ((u.stagedCfg.map fun h => h.version).getD 0)] ++ timeFields sch.a0 ++ timeFields sch.deadline ++
  [fN 2 rem, fN 1 b.attempts, fQ qGood]

/-- The update status record (21 R528). -/
def State.updateRecord (s : State) : List Nat :=
  s.body (s.updateKey.take 4 ++ [fN 4 s.up.offset, fN 4 s.up.checkpoint] ++ s.updateKey.drop 4)

/-! ### CAN channel status record (18 R459) -/

/-- Code of a confinement state (18 R459). -/
def canCode : CanState → Nat
  | .disabled => 0 | .active => 1 | .passive => 2 | .busOff => 3 | .stopped => 4 | .asleep => 5 | .restricted => 6

/-- Conflict mask of a channel (18 R459). -/
def State.canConflicts (s : State) (c : Nat) : Nat :=
  maskOf 32 ((List.range 16).filter fun i => ((s.can c).tx.get i {}).withdrawn)

/-- What publishes a CAN channel status record: confinement state and conflicts (18 R459). -/
def State.canKey (s : State) (c : Nat) : List (Nat × Int) := [fN 1 (canCode (s.can c).state), fN 4 (s.canConflicts c)]

/-- The CAN channel status record (18 R459). -/
def State.canRecord (s : State) (c : Nat) : List Nat :=
  let x := s.can c
  s.body [fN 1 c, fN 1 (canCode x.state), fN 1 (min 255 x.tec), fN 1 (if 127 < x.recv then 128 else x.recv), fN 2 x.load,
    fN 1 (x.busOffs.filter fun t => decide (s.now < t + sec 60)).length, fQ qGood, fN 4 x.received, fN 4 x.sent,
    fN 4 x.unknown, fN 4 x.lostCount, fN 4 x.errors, fN 4 (s.canConflicts c), fN 2 (maskOf 16 s.cn.equip), fN 2 0]

/-! ### GOOSE datasets (17 R439, R440) -/

/-- Plant-time quality: good, or questionable while free-running or unaligned (17 R439): 0 good, 1 questionable. -/
def State.gooseQuality (s : State) : Int := if s.th.state = .freeRunning ∨ s.th.state = .unaligned then 1 else 0

/-- Conditions 2, 3, 4 and 8 of 12 R323 for the string (17 R439). -/
def State.closingPermitted (s : State) : Bool :=
  s.noLatch strGroup && !s.acq.calFault && !s.th.failure && s.inputsPermit && s.supplyOk

/-- Converter enable (13 R341 function 1). -/
def State.converterEnable (s : State) : Bool := s.leads && !s.anyAction

/-- A Boolean member. -/
def mB (b : Bool) : Int := if b then 1 else 0

/-- The members of dataset 0 trip, 1 interlock, 2 status (17 R439). -/
def State.gooseMembers (s : State) : Nat → List Int
  | 0 => [mB s.sdActive, mB (s.holdActive || !s.pr.holdBranches.isEmpty), bitsOf ((List.range 4).map s.bdActive), s.firstFn, s.pr.lastDecision, s.gooseQuality]
  | 1 => [mB (decide (s.ct.stage = .connected)), mB s.closingPermitted, mB s.converterEnable,
          bitsOf (allK.map s.confirmedClosed), s.gooseQuality]
  | _ => [roleCode s.tw.role, mB s.sf.reduced, mB s.monitorCoupled, s.insulationState, s.risoShown, s.timeByte,
          if s.pw.state = .run then 2 else 1, s.gooseQuality]

/-- The publication entry of a dataset, with the defaults of record 0x0904 (17 R443). -/
def State.gooseCfg (s : State) (d : Nat) : CfgGoosePub :=
  match s.cfg.goosePubs[d]? with
  | some g => g
  | none => { appid := if d = 0 then 0x8000 + s.cfg.string.index else 2 * s.cfg.string.index + (d - 1) }

/-- The octets of a GOOSE frame as the model carries them: APPID, stNum, sqNum, timeAllowedToLive in ms, members
(17 R438 to R440; the BER wrapping is that of IEC 61850-8-1, log 13). -/
def State.gooseFrame (s : State) (d : Nat) (g : GooseSet) : List Nat :=
  enc ([fN 2 (s.gooseCfg d).appid, fN 4 g.stNum, fN 4 g.sqNum, fN 4 (2 * g.interval)] ++ g.members.map fun m => (8, m))

/-- A change of a dataset (17 R440): stNum up, sqNum reset, the first frame, and repetitions from 2 ms. -/
def State.gooseChange (s : State) (d : Nat) : State :=
  let old := s.nt.pubs.get d {}
  let m := s.gooseMembers d
  if old.members = m then s
  else
    let g : GooseSet := { stNum := wrapInc old.stNum, sqNum := 0, interval := 2, nextAt := some (s.now + ms 2), members := m }
    (s.onNet fun n => { n with pubs := n.pubs.put d {} g }).emit .goose d (s.gooseFrame d g)

/-- GOOSE is published by the leader in Watch and Run (17 R440, 01 R37). -/
def State.gooseOn (s : State) : Bool := s.leads && decide (s.pw.state = .run ∨ s.pw.state = .watch)

/-- Publish the datasets that changed. -/
def State.goosePublish (s : State) : State :=
  if s.gooseOn then ((s.gooseChange 0).gooseChange 1).gooseChange 2 else s

/-! ### What follows every command -/

/-- Holds of BDs whose contactors are confirmed open fall (11 R290); a disconnect whose contactors are all confirmed
open ends in open (12 R324, R331). -/
def State.settleHolds (s : State) : State :=
  let s1 := s.onProt fun p => { p with holdBranches := p.holdBranches.filter fun b =>
    !(s.confirmedOpen (b + 1) && s.confirmedOpen (b + 5)) && s.bdActive b }
  if decide (s1.ct.stage = .disconnecting) && s1.allOpen then
    s1.onCont fun c => { c with stage := .opened, first := none, discAt := none, mainsOff := false, reopenHold := false, branches := {} }
  else s1

/-- The island writes the stop-request field (01 R33, 11 R288). -/
def State.settleStop (s : State) : State := s.onRantus fun r => { r with islandStop := s.holdDemand }

/-- The condition of a safe output's function (13 R341). -/
def State.outCondition (s : State) (o : Nat) : Bool :=
  match s.cfg.safeOut.fn.getD (o - 1) 0 with
  | 1 => s.converterEnable
  | 2 => !s.sdActive && !s.tripInput
  | 3 => !((List.range 4).any fun i => s.fnStands (0x30 + i)) && !s.sf.reduced
  | _ => false

/-- The module drives its safe outputs from the island's start on (19 R463). -/
def State.islandOn (s : State) : Bool :=
  s.pw.islandUp && !decide (s.pw.state = .off ∨ s.pw.state = .hibernate) && !s.pw.haltedIsland && !decide (s.tw.role = .withdrawn) && s.pw.resetHold.isNone &&
    !(decide (s.pw.state = .enteringHib) && decide (s.ct.stage = .opened)) && !decide (s.pw.state = .resetLocked ∨ s.pw.state = .unconfigured)

/-- The output's state allows the test that is to run again (13 R342 to R344). -/
def State.rerunAllowed (s : State) (o : Nat) (x : SafeOut) : Bool :=
  if x.rerunDark then x.energised else !x.energised && (s.cfg.safeOut.brightOn.getD (o - 1) true || x.fault) &&
    !decide (s.cfg.safeOut.fn.getD (o - 1) 0 = 0)

/-- A safe output follows its condition at once; one held off by 0x32 stays de-energised; a change during a test
ends the test; an interrupted test runs again in full 1 s after the output's state next allows it (13 R341, R343, R344). -/
def State.settleOut (s : State) (o : Nat) : State :=
  let want := s.islandOn && s.outCondition o && !(s.sf.outputs.get o {}).fault
  let s1 := if (s.sf.outputs.get o {}).energised = want then s else s.interruptTest o
  let x := { s1.sf.outputs.get o {} with energised := want }
  let at_ := if x.rerunWait && s.rerunAllowed o x then some (x.rerunAt.getD (s.now + sec 1)) else none
  s1.onSafety fun f => { f with outputs := f.outputs.put o {} { x with rerunAt := at_ } }

/-- Publish a record when its key fields changed (24 R562 C). -/
def State.pubIf (s : State) (changed : Bool) (oid : Nat) (bytes : State → List Nat) : State :=
  if changed then s.publish oid (bytes s) else s

/-- The change-driven publications: each record whose fields differ from those before the command. -/
def State.pubChanges (old s : State) : State :=
  let s := s.pubIf (s.anyPort && !(decide (s.modKey = old.modKey) && decide (s.pw.holdUpMs = old.pw.holdUpMs))) 0x01001000 State.modRecord
  let s := s.pubIf (!decide (s.cfgKey = old.cfgKey)) 0x01002000 fun s => s.body s.cfgKey
  let s := s.pubIf (!decide (s.guaranteeKey = old.guaranteeKey)) 0x01003000 fun s => s.body s.guaranteeKey
  let s := s.pubIf (!decide (s.contKey = old.contKey)) 0x02003000 State.contRecord
  let s := s.pubIf (!decide (s.protKey = old.protKey)) 0x07001000 State.protRecord
  let s := s.pubIf (!decide (s.safetyKey = old.safetyKey)) 0x07002000 fun s => s.body s.safetyKey
  let s := s.pubIf (!decide (s.timeByte = old.timeByte)) 0x08001000 State.timeRecord
  let s := s.pubIf (s.isTwin && !decide (s.twinKey = old.twinKey)) 0x0A001000 State.twinRecord
  let s := s.pubIf (!decide (s.recorderKey = old.recorderKey)) 0x0D002000 State.recorderRecord
  let s := s.pubIf (!decide (s.updateKey = old.updateKey)) 0x0E001000 State.updateRecord
  let s := s.pubIf (!decide (s.canKey 0 = old.canKey 0)) 0x0F001000 fun s => s.canRecord 0
  s.pubIf (!decide (s.canKey 1 = old.canKey 1)) 0x0F001001 fun s => s.canRecord 1

/-! ### Cross-hold switches and the reduced safety configuration (14 R356, R363, R366, R368, R370) -/

/-- The coils commanded on: those pulling in or held (14 R358, R375). -/
def State.coilMask (s : State) : Nat :=
  maskOf 12 ((allK.filter fun k => decide ((s.coil k).phase = .pullIn ∨ (s.coil k).phase = .hold)).map fun k => k - 1)

/-- The partner's trip switches read closed, and it stands ready beside this twin. -/
def State.partnerStands (s : State) : Bool :=
  decide (s.tw.partner = .follower) && s.tw.partnerReady && !s.tw.partnerFailed && s.tw.partnerHealth.testBit 3 && !s.tw.mismatch

/-- The cross-hold switches this twin's island closes (14 R356): a leader holds its coils across the switches of a partner that does not
stand ready beside it; a twin that lost a conflict keeps them closed until the winner's trip switches read closed. -/
def State.crossWanted (s : State) : Nat :=
  match s.tw.role with
  | .leader => if s.partnerStands then 0 else s.coilMask
  | .withdrawn => s.tw.crossHold
  | _ => if s.tw.conflictLost && !s.tw.partnerHealth.testBit 3 then s.tw.crossHold else 0

/-- The partner's safety hash differs from the running one (21 R524). -/
def State.hashesDiffer (s : State) : Bool :=
  match s.tw.partnerHash, s.pg.running with
  | some h, some r => !decide (h = r.safetyHash)
  | _, _ => false

/-- The safety configuration is reduced (14 R368; 21 R524). -/
def State.reducedNow (s : State) : Bool :=
  !decide (s.tw.crossHold = 0) || s.tw.partnerFailed || s.hashesDiffer || decide (s.tw.partner = .withdrawn ∨ s.tw.partner = .absent ∨ s.tw.partner = .syncing)

/-- The cross-hold switches and the reduced configuration follow a twin's state, with a record on entry and exit (14 R368). -/
def State.settleTwin (s : State) : State :=
  if s.isTwin && s.pw.islandUp && !s.pw.haltedIsland then
    let s1 := s.onTwin fun w => { w with crossHold := s.crossWanted, conflictLost := w.conflictLost && !w.partnerHealth.testBit 3 }
    let r := s1.reducedNow
    if s1.sf.reduced = r then s1 else (s1.onSafety fun f => { f with reduced := r }).record .safetyReduced 0 [if r then 1 else 0]
  else s

/-- The CAN channels of a twin follow its role (18 R458): restricted operation unless it leads; a new leader changes to normal operation and
continues each alive counter from the shadow plus 1. -/
def State.settleCan (s : State) : State :=
  let lead := fun (_ : Nat) (x : CanChan) =>
    if x.state = .restricted then { x with state := .active, tx := x.tx.mapAll {} fun _ o => { o with alive := (o.alive + 1) % 256 } } else x
  let follow := fun (_ : Nat) (x : CanChan) => if x.state = .active ∨ x.state = .passive then { x with state := .restricted } else x
  if s.isTwin && !(s.cn.chans.entries.all fun e => if s.leads then !decide (e.2.state = .restricted)
      else !decide (e.2.state = .active ∨ e.2.state = .passive)) then
    s.onCan fun c => { c with chans := c.chans.mapAll {} (if s.leads then lead else follow) }
  else s

/-- A leader sends its partner the state that changed, in a shadow frame (14 R371, R375; what a shadow frame holds octet by octet is
left open, log 34: the model emits which parts changed). -/
def State.settleShadow (s old : State) : State :=
  if s.isTwin && s.leads then
    let m := bitsOf [!decide (s.ct = old.ct), !decide (s.di = old.di), !decide (s.ma = old.ma), !decide (s.lim = old.lim), !decide (s.ba = old.ba),
      !decide (s.tm.valves = old.tm.valves), !decide (s.tm.loops = old.tm.loops), !decide (s.ra.nodes = old.ra.nodes), !decide (s.ch.cells = old.ch.cells),
      !decide (s.up.schedule = old.up.schedule), !decide (s.cn.chans = old.cn.chans)]
    if m = 0 then s else s.followSend .shadowFrame 4 (octetsOf 2 m)
  else s

/-! ### Candidacy (15 R402) and the ports' frame counts (17 R423) -/

/-- Rank of this string among the master-capable ones (15 R402). -/
def State.masterRank (s : State) : Option Nat := s.cfg.masters.idxOf? s.cfg.string.index

/-- The module is a candidate (15 R402). -/
def State.isCandidate (s : State) : Bool :=
  s.masterRank.isSome && s.leads && decide (s.th.state = .locked ∨ s.th.state = .acquiring ∨ s.th.state = .holdover) &&
    (s.portUp 1 || s.portUp 2) && decide (s.pw.state = .run ∨ s.pw.state = .watch)

/-- Candidacy follows its conditions; without an accepted multicast L0 is the instant it began (15 R403). -/
def State.settleCandidate (s : State) : State :=
  let c := s.isCandidate
  if c = s.ma.candidate then s
  else s.onMaster fun m => { m with
    candidate := c
    claiming := m.claiming && c
    l0 := if c && s.di.heardAt.isNone then s.now else m.l0 }

/-- The ports a kind of frame leaves by: both plant ports, X13, or none of them (17 R422, R427). -/
def portsOf (e : Emission) : List Nat :=
  match e.kind with
  | .multicast | .stringStatus | .stream | .operation | .operationResult | .response | .claim | .masterHandover | .prpSupervision | .goose => [1, 2]
  | .teleReady | .teleReply | .teleData | .teleCommand | .update => if e.port = 8 then [3] else [1, 2]
  | .icmpReply | .addressReply => if e.port = 3 then [3] else [1, 2]
  | .ptp => [e.port]
  | _ => []

/-- The class an emission is sent in: on the twin link heartbeat and island frames first (14 R373); on a port GOOSE, PTP, dispatch, telemetry and
the rest (17 R426). -/
def sendClass (e : Emission) : Nat :=
  match e.kind with
  | .heartbeat | .islandFrame => 0
  | .goose => 2
  | .ptp => 3
  | .multicast | .stringStatus | .stream | .operation | .operationResult | .response | .claim | .masterHandover => 4
  | .teleReady | .teleReply | .teleData | .teleCommand | .update | .prpSupervision | .icmpReply | .addressReply => 5
  | _ => 1

/-- Emissions in the order they are sent: by class, in the order they arose within one (14 R373; 17 R426). -/
def sendOrder (l : List Emission) : List Emission := (List.range 6).flatMap fun c => l.filter fun e => decide (sendClass e = c)

/-- Frames leave in their order and are counted at each port that is up; a PTP message leaves by its own port alone (02 R54; 17 R423, R426). -/
def State.settlePorts (s : State) : State :=
  let s := { s with out := sendOrder s.out }
  let f := fun (s : State) (p : Nat) => if s.portUp p then s.onNet fun n => { n with ports := n.ports.upd p {} fun x => { x with sent := wrapInc x.sent } } else s
  s.out.foldl (fun s e => (portsOf e).foldl f s) s

/-- A frame received by a port is counted (17 R423). -/
def State.received (s : State) (p : Nat) : State :=
  s.onNet fun n => { n with ports := n.ports.upd p {} fun x => { x with received := wrapInc x.received } }

/-- What follows every command at once: falling holds, the stop-request, the safe outputs, the GOOSE datasets and the
change-driven publications; and the record of the first overwrite of the event store (22 R539). `old` is the state before the command. -/
def State.settle (old s : State) : State :=
  let s := if s.ro.wrapped && !old.ro.wrapped then s.record .storeWrapped 0 [] else s
  let s1 := ((s.settleTwin.settleCan.settleHolds.settleCandidate).settleShadow old).settleStop
  let s2 := (s1.settleOut 1).settleOut 2
  (old.pubChanges s2.goosePublish).settlePorts

/-- A command's whole effect: it begins at its time, acts, and settles; the queue of waiting commands and the time of the step are no
command's to change. -/
def State.run (s : State) (t : Nat) (f : State → State) : Host.Outcome State Fault Refusal :=
  .next (s.settle { f (s.begin t) with
    pending := s.pending
    now := max s.now t })

end Sys2Proof.Machine
end

