-- ==== Sys2Proof/Machine/Frames.lean ====
section
/-! DEFINITION. Sys2Proof/Machine/Frames.lean: the frame header of dispatch and telemetry (15 R380, 17 R428), token
buckets (15 R397, 17 R434), sessions and sequences (15 R390, R391), and the answering of maintenance commands
(17 R435, R436). -/

namespace Sys2Proof.Machine

open Sys2Proof

/-- A frame with the header of 15 R380: protocol identifier, type, sender string, time state, length, epoch, session,
sequence, send time, payload, CRC-32. -/
def State.frame (s : State) (proto ftype epoch session seq : Nat) (payload : List Nat) : List Nat :=
  let h := enc ([fN 2 proto, fN 1 1, fN 1 ftype, fN 1 s.cfg.string.index, fN 1 s.timeByte, fN 2 payload.length,
    fN 4 epoch, fN 4 session, fN 4 seq] ++ timeFields s.th.reading ++ [fN 2 0]) ++ payload
  h ++ octetsOf 4 (Config.crc32 h)

/-- Protocol identifier of dispatch (15 R380). -/
def protoDispatch : Nat := 0xD5A1

/-- Protocol identifier of telemetry (17 R428). -/
def protoTele : Nat := 0xD5A2

/-- Status codes of 15 R393. -/
def stDone : Nat := 0
/-- STARTED (15 R393). -/
def stStarted : Nat := 1
/-- LIMITED (15 R393). -/
def stLimited : Nat := 2
/-- BUSY (15 R393). -/
def stBusy : Nat := 3
/-- REFUSED (15 R393). -/
def stRefused : Nat := 4
/-- TIMEOUT (15 R393). -/
def stTimeout : Nat := 5
/-- UNKNOWN SESSION (15 R393). -/
def stUnknown : Nat := 6
/-- NOT ALLOWED (15 R393). -/
def stNotAllowed : Nat := 7
/-- INVALID (15 R393). -/
def stInvalid : Nat := 8

/-- Tokens of a bucket now: filled at a rate per second up to its depth; one never used is full (15 R397; log 32). -/
def bucketNow (rate depth : Nat) (tokens : Rat) (filledAt : Option Nat) (now : Nat) : Rat :=
  match filledAt with
  | none => (depth : Rat)
  | some t => min (depth : Rat) (tokens + (rate : Rat) * ((now - t : Nat) : Rat) / 1000000000)

/-- The highest master epoch this module has seen (15 R380, R383, R402). -/
def State.seenEpoch (s : State) : Nat := max s.di.masterEpoch s.ma.epoch

/-- Send a dispatch frame under the next sequence of its type (15 R380). -/
def State.dispatchSend (s : State) (kind : EmKind) (port ftype epoch : Nat) (payload : List Nat) : State :=
  let q := wrapInc (s.ma.seqs.get ftype 0)
  (s.onMaster fun m => { m with seqs := m.seqs.put ftype 0 q }).emit kind port (s.frame protoDispatch ftype epoch 0 q payload)

/-- A dispatch frame that fails its header checks is counted (15 R380). -/
def State.badDispatch (s : State) : State := s.onDispatch fun d => { d with badFrames := wrapInc d.badFrames }

/-- The header checks of 15 R380, and its enumerated and bounded fields without a reserved value (00 R4, R8, R13; 02 R49). -/
def hdrGood (h : DHdr) : Bool :=
  h.ok && decide (h.sender ≤ 127) && decide (h.timeState % 16 ≤ 5 ∧ h.timeState / 16 ≤ 4) && h.sent.ok

/-- An accepted dispatch frame is judged for lateness while both time states are locked (23 R559). -/
def State.acceptedDispatch (s : State) (h : DHdr) : State :=
  if decide (h.timeState % 16 = 2) && decide (s.th.state = .locked) && decide (h.sent.ns + 2000000 < s.th.reading) then
    s.onDispatch fun d => { d with lateRun := true, lateFrom := h.sender }
  else s

/-! ### Twin-link frames (14 R374) -/

/-- Send a twin-link frame of a type with the header of 14 R374. -/
def State.twinSend (s : State) (kind : EmKind) (ftype : Nat) (payload : List Nat) : State :=
  let q := s.tw.seqs.get ftype 0
  (s.onTwin fun w => { w with seqs := w.seqs.put ftype 0 (wrapInc q) }).emit kind 0 (s.twinFrame ftype q payload)

/-! ### Telemetry sessions -/

/-- A telemetry session by client key (17 R429). -/
def State.tele (s : State) (k : Nat) : TeleSession := s.nt.sessions.get k {}

/-- Update of one telemetry session. -/
def State.onTele (s : State) (k : Nat) (f : TeleSession → TeleSession) : State :=
  s.onNet fun n => { n with sessions := n.sessions.upd k {} f }

/-- The client's entry of record 0x0902; X13 has all rights and the bucket of record 0x0903 (17 R427). -/
def State.teleCfg (s : State) (k : Nat) : Option CfgTele :=
  if k = 8 then some { addr := 0, rights := 3, rate := s.cfg.maint.rate, depth := s.cfg.maint.depth, reqRate := 1000 }
  else s.cfg.teleClients[k]?

/-- Send a telemetry frame to a client (17 R428). -/
def State.teleSend (s : State) (k : EmKind) (key ftype seq : Nat) (payload : List Nat) : State :=
  s.emit k key (s.frame protoTele ftype 0 0 seq payload)

/-- The port of a client answers (17 R430; 19 R464, R479; 21 R526): with the ports up everything; X13 reads and update sessions in Unconfigured
and in the recovery ROM; reads alone in Reset-locked. Level 0 is a read, 1 an interface reset or update frame, 2 anything else. -/
def State.reach (s : State) (key level : Nat) : Bool :=
  s.pw.portsUp || (decide (key = 8 ∧ level ≤ 1) && (s.pw.recovery || decide (s.pw.state = .unconfigured))) ||
    (decide (s.pw.state = .resetLocked) && decide (level = 0))

/-- Payload of a command response: code, status, reason, 16 octets of result (17 R435). -/
def cmdReply (code status reason : Nat) (result : List Nat) : List Nat :=
  octetsOf 2 code ++ [status, reason] ++ (result ++ List.replicate (16 - result.length) 0).take 16

/-- Answer a command and store the answer for a repeated sequence (17 R435, 15 R391). -/
def State.cmdAnswer (s : State) (m : Maint) (code status reason : Nat) (result : List Nat) : State :=
  let p := cmdReply code status reason result
  (s.teleSend .teleCommand m.key 9 m.seq p).onTele m.key fun x =>
    { x with client := { x.client with stored := p, storedType := 9 }
             inFlight := if status = stStarted then some (code, m.seq) else none }

/-- The final response of a command answered STARTED, unsolicited, with the same sequence (17 R435). -/
def State.cmdFinal (s : State) (code status reason : Nat) (result : List Nat) : State :=
  (List.range 9).foldl (fun s k =>
    match (s.tele k).inFlight with
    | some (c, q) => if c = code then s.cmdAnswer { key := k, session := 0, seq := q } code status reason result else s
    | none => s) s

/-- A maintenance command frame (17 R435): session, sequence and right are checked, a second command in flight is
answered BUSY with reason 3, a repeated sequence is answered again and not executed, a lower one is ignored and
counted. `body` answers the state after the command with status, reason and result. -/
def State.maint (s : State) (m : Maint) (code : Nat) (body : State → State × Nat × Nat × List Nat) : State :=
  if !s.reach m.key 2 then s
  else
  let s := s.received (if m.key = 8 then 3 else m.port)
  let x := s.tele m.key
  match s.teleCfg m.key with
  | none => s
  | some c =>
    if m.session = 0 ∨ x.client.session ≠ m.session then
      s.teleSend .teleCommand m.key 9 m.seq (cmdReply code stUnknown 0 [])
    else if m.seq = x.client.lastSeq then s.teleSend .teleCommand m.key x.client.storedType m.seq x.client.stored
    else if m.seq < x.client.lastSeq then
      s.onTele m.key fun y => { y with client := { y.client with lower := wrapInc y.client.lower } }
    else if x.inFlight.isSome then
      (s.onTele m.key fun y => { y with client := { y.client with lastSeq := m.seq, stored := cmdReply code stBusy 3 [], storedType := 9 } }).teleSend
        .teleCommand m.key 9 m.seq (cmdReply code stBusy 3 [])
    else
      let s1 := s.onTele m.key fun y => { y with client := { y.client with lastSeq := m.seq } }
      if !c.rights.testBit 1 then s1.cmdAnswer m code stNotAllowed 0 []
      else
        let r := body s1
        r.1.cmdAnswer m code r.2.1 r.2.2.1 r.2.2.2

/-- The answer REFUSED with a reason, nothing changed. -/
def refuse (reason : Nat) (s : State) : State × Nat × Nat × List Nat := (s, stRefused, reason, [])

/-- The answer DONE. -/
def done (s : State) : State × Nat × Nat × List Nat := (s, stDone, 0, [])

end Sys2Proof.Machine
end

