-- ==== Sys2Proof/Machine/Thyme.lean ====
section
/-! DEFINITION. Sys2Proof/Machine/Thyme.lean: the time base (chapter 02): sources, time states, steps and slews, timed
outputs and transmit timestamp queues. -/

namespace Sys2Proof.Machine

open Sys2Proof

/-! ### Shared operations -/

/-- PTP port state; port 1 is P1, 2 is P2. -/
def State.ptp (s : State) (p : Nat) : PtpPort := s.th.ports.get p {}

/-- Update of one PTP port. -/
def State.onPtp (s : State) (p : Nat) (f : PtpPort → PtpPort) : State :=
  s.onThyme fun h => { h with ports := h.ports.upd p {} f }

/-- A PTP or twin-link source is available, the twin link where it is a source at all: in a follower (02 R48, R63). -/
def State.labelSource (s : State) : Bool :=
  (s.th.twinAvail && decide (s.tw.role = .follower ∨ s.tw.role = .syncing)) || (s.ptp 1).available || (s.ptp 2).available

/-- A source of the configured list is available; PPS only while the seconds are labelled and after every PTP and
twin-link source (02 R48). -/
def State.sourceUp (s : State) (c : Nat) : Bool :=
  match c with
  | 1 => (s.ptp 1).available
  | 2 => (s.ptp 2).available
  | 3 => s.th.twinAvail
  | 4 => s.th.ppsAvail && s.th.labelled && !s.labelSource
  | _ => false

/-- The source in use by priority: in a follower the twin link first, then the configured list (02 R48). -/
def State.bestSource (s : State) : Nat :=
  let l := if decide (s.tw.role = .follower ∨ s.tw.role = .syncing) then 3 :: s.cfg.sources.order else s.cfg.sources.order
  (l.find? s.sourceUp).getD 0

/-- Enter a time state; the assumption on the time state fails while free-running or unaligned and is restored at
re-entry to locked (23 R558 code 5). -/
def State.setTime (s : State) (x : TimeState) : State :=
  (s.onThyme fun h => { h with state := x, lockRun := 0, unlockRun := 0
                               lockedAt := if h.state = .locked then s.now else h.lockedAt }).onDill
    fun d => { d with timeBad := match x with | .freeRunning | .unaligned => true | .locked => false | _ => d.timeBad }

/-- Enter acquiring, with the start wait running from now (02 R50). -/
def State.toAcquiring (s : State) : State :=
  (s.setTime .acquiring).onThyme fun h => { h with startWaitAt := some (s.now + sec s.cfg.startWait), holdoverAt := none }

/-- K1 to K10 all de-energised and the results of the last closed set published (02 R50); before the first set of a start or wake has closed
there are none (02 R58). -/
def State.stepSafe (s : State) : Bool :=
  s.acq.published && ((List.range 10).map (· + 1)).all fun k => !s.energised k

/-- A pulse on X16 is in progress (02 R51). -/
def State.pulsing (s : State) : Bool := s.th.ppsHigh || (s.th.tp.get 1 {}).high || (s.th.tp.get 2 {}).high

/-- The configuration of a pulse output; an armed once pulse turns an output that is off into once (02 R65). -/
def State.tpCfg (s : State) (o : Nat) : CfgTp := if o = 1 then s.cfg.tp1 else s.cfg.tp2

/-- The earliest lattice instant start + m x period at least 1 ms ahead, in plant time (02 R66). -/
def latticeNext (start period now : Nat) : Nat :=
  let e := now + 1000000
  if e ≤ start then start else if period = 0 then start else start + ((e - start + period - 1) / period) * period

/-- Periodic outputs restart on the reading (02 R66, R67). -/
def State.restartPulses (s : State) : State :=
  s.onThyme fun h => { h with tp := ([1, 2].foldl (fun tb o =>
    let c := s.tpCfg o
    if c.mode = 2 then tb.upd o {} fun p => { p with
      nextAt := some (latticeNext c.start.ns c.period s.th.reading)
      left := if c.count = 0 then none else some c.count }
    else tb) h.tp) }

/-- The closed set (01 R40; 05 R134): what was entered; every other value is missing, of a pending node flagged as such. -/
def State.formSet (s : State) (first : Nat) (cells : List Nat) : Sweep4 :=
  let open_ := (s.acq.sets.find? fun w => decide (w.first = first)).getD { first := first }
  let gap : Sample := { quality := mkQuality false false true false false false true false }
  { first := first
    samples := cells.foldl (fun (tb : Table Sample) c =>
      if ((s.cfg.nodeOfCell c).map fun n => (s.node n).replacement).getD false then
        (List.range 4).foldl (fun tb i => if tb.get (4 * c + i) {} = {} then tb.put (4 * c + i) {} gap else tb) tb
      else tb) open_.samples }

/-- A value is admitted to the filters (05 R139; 09 R254): valid and not excluded. -/
def Sample.admitted (x : Sample) : Option Int := if qValid x.quality && !x.excluded then some x.corr else none

/-- The latest admitted value of a cell in a set. -/
def Sweep4.admitted (w : Sweep4) (c : Nat) : Option Int :=
  [3, 2, 1, 0].findSome? fun i => (w.samples.get (4 * c + i) {}).admitted

/-- The set closes (01 R40): it becomes the last closed one, and is never reopened. -/
def State.closeSet (s : State) (w : Sweep4) (cells : List Nat) : State :=
  let s1 := s.onAcq fun a => { a with
    closed := w
    closedTo := some w.first
    sets := a.sets.filter fun x => laterThan x.first w.first
    latest := cells.foldl (fun (tb : Table Sample) c => tb.put c {} (w.samples.get (4 * c + 3) {})) a.latest
    lastAdmitted := cells.foldl (fun (tb : Table Int) c => match w.admitted c with | some v => tb.put c 0 v | none => tb) a.lastAdmitted
    noAdmitSets := cells.foldl (fun (tb : Table Nat) c => match w.admitted c with
      | some _ => tb.put c 0 0
      | none => tb.upd c 0 (satInc 32)) a.noAdmitSets }
  s1.onSage fun g => { g with subSets := (w :: g.subSets).take 2600 }

/-- Every open sweep set closes, oldest first, with the values it holds (02 R51). -/
def State.closeOpenSets (s : State) : State :=
  let cells := (s.cfg.nodes.map fun e => e.index).flatMap s.cfg.cellsOfNode
  s.acq.sets.foldl (fun s w => s.closeSet (s.formSet w.first cells) cells) s

/-- A once arming (02 R66): it replaces an earlier one that has not fired; a start less than 1 ms ahead is not emitted, and recorded. -/
def State.armOnce (s : State) (o start sub : Nat) : State :=
  let miss := decide (start < s.th.reading + 1000000)
  let s1 := s.onThyme fun h => { h with tp := h.tp.upd o {} fun p => { p with armedAt := if miss then none else some start, armedSub := sub } }
  if miss then s1.record .pulseMissed o (enc (timeFields start ++ [fN 2 sub])) else s1

/-- A once output configured with a start is armed at the module's start (02 R65, R66): a start less than 1 ms ahead is not emitted. -/
def State.armConfigured (s : State) : State :=
  [1, 2].foldl (fun s o =>
    let c := s.tpCfg o
    if c.mode ≠ 1 then s
    else s.armOnce o c.start.ns c.sub) s

/-- Step the reading (02 R51): open sweep sets close with the values they hold, numbering continues from the new
reading, the step is recorded with old reading, new reading and size, and periodic outputs restart. -/
def State.thymeStep (s : State) (d : Int) : State :=
  let new := ((s.th.reading : Int) + d).toNat
  let old := s.th.reading
  let s1 := s.onThyme fun h => { h with reading := new, offsets := [] }
  let s2 := s1.closeOpenSets.onAcq fun a => { a with sets := [], closedTo := none, endedAt := none }
  let s3 := s2.onThyme fun h => { h with stepAge := s1.sweepNo + 1 }
  (s3.record .thymeStep 0 (enc (timeFields old ++ timeFields new ++ [(8, d)]))).restartPulses

/-- The nominal addend compensated for temperature: 10 ns per cycle in 2^-32 ns (02 R44, R45). -/
def compAddend (ppb : Int) : Int := 42949672960 - 42949672960 * ppb / 1000000000

/-- A slew (02 R47, R50): the addend takes a rate within the slew limit of the compensated addend; which rate within
it is open (log 15). -/
def State.slew (s : State) : State :=
  let lim := 42949672960 * s.cfg.steer.slewPpm / 1000000
  let (f, s1) := s.freshNat
  let d : Int := (f % (2 * lim + 1) : Nat) - (lim : Int)
  s1.onThyme fun h => { h with addend := (compAddend h.compPpb + d).toNat }

/-- The label of the seconds: won when a PTP or twin-link source agrees within 0.5 s (02 R48). -/
def State.label (s : State) : State :=
  if s.labelSource && decide (absR s.filtered ≤ 500000000) && decide (s.th.source ≠ 4) then
    s.onThyme fun h => { h with labelled := true } else s

/-- Acquiring, or free-running with a source, at a measurement (02 R50). -/
def State.acquire (s : State) : State :=
  let off := s.filtered
  let step : Rat := (s.cfg.steer.stepUs * 1000 : Nat)
  if step < absR off then
    if s.stepSafe then
      if s.pulsing then (if s.th.state = .acquiring then s else s.toAcquiring)
      else (let s1 := s.thymeStep (roundZero off); if s.th.state = .acquiring then s1.slew else s1.toAcquiring.slew)
    else (s.record .thymeUnaligned 0 []).setTime .unaligned
  else
    let s0 := if s.th.state = .acquiring then s else s.toAcquiring
    let s1 := s0.slew
    if absR off ≤ (s.cfg.steer.lockNs : Rat) then
      if s0.th.lockRun + 1 ≥ 16 then (s1.record .thymeLocked 0 []).setTime .locked
      else s1.onThyme fun h => { h with lockRun := h.lockRun + 1 }
    else s1.onThyme fun h => { h with lockRun := 0 }

/-- A filtered offset measurement drives the time states (02 R50). -/
def State.timeTransition (s : State) : State :=
  let off := s.filtered
  let step : Rat := (s.cfg.steer.stepUs * 1000 : Nat)
  match s.th.state with
  | .locked =>
    if (s.cfg.steer.lockNs : Rat) < absR off then
      if s.th.unlockRun + 1 ≥ 16 then s.slew.toAcquiring
      else s.slew.onThyme fun h => { h with unlockRun := h.unlockRun + 1 }
    else s.slew.onThyme fun h => { h with unlockRun := 0 }
  | .holdover =>
    if absR off ≤ step then s.slew.toAcquiring else (s.record .thymeUnaligned 0 []).setTime .unaligned
  | .unaligned =>
    if absR off ≤ step then s.slew.toAcquiring
    else if s.stepSafe && !s.pulsing then (s.thymeStep (roundZero off)).toAcquiring else s
  | .unset | .acquiring | .freeRunning => s.acquire

/-- One measurement of the source in use enters the filter over 8 (02 R50), is sampled by monitor 0x004 (22 R544), and
drives the time state. -/
def State.measure (s : State) (src : Nat) (off : Int) : State :=
  let s1 := s.onThyme fun h => { h with
    offsets := if h.source = src then (off :: h.offsets).take 8 else [off]
    source := src }
  let s2 := s1.sample 4 (roundOpen 46 s1.filtered)
  s2.label.timeTransition

/-- No source is left, or another one takes over (02 R48, R50, R54): locked goes to holdover with the last addend. -/
def State.sourcesChanged (s : State) : State :=
  let b := s.bestSource
  if b ≠ 0 then (if b = s.th.source then s else s.onThyme fun h => { h with source := b, offsets := [] })
  else
    let s1 := s.onThyme fun h => { h with source := 0, offsets := [] }
    if s.th.state = .locked then (s1.setTime .holdover).onThyme fun h => { h with holdoverAt := some (s.now + sec s.cfg.steer.holdS) }
    else s1

/-- The instant of a frame at the media-dependent interface, 2⁻¹⁶ ns: the reading with its fraction, corrected by the port's calibrated transmit
latency, 2⁻⁸ ns (02 R68; 05 R146). Queues: 0 P1, 1 P2, 2 X13, 3 twin link, 4 Rantus. -/
def State.stampNow (s : State) (q : Nat) : Nat :=
  (((s.th.reading * 65536 + s.fine16 : Nat) : Int) + 256 * s.acq.applied.latency.get q 0).toNat

/-- A transmit timestamp is taken (02 R68, R69): the entry goes into its queue of 64, or is lost with a count, and the
next stored entry carries loss-before. -/
def State.timestamp (s : State) (q tag : Nat) : State :=
  let v := s.stampNow q
  s.onThyme fun h => { h with queues := h.queues.upd (q + 1) {} fun x =>
    if 64 ≤ x.entries.length then { x with overflow := wrapInc x.overflow, lossPending := true }
    else { x with
      entries := x.entries ++ [{ tag := tag, lossBefore := x.lossPending, port := q + 1, at_ := v / 65536, frac := v % 65536 }]
      lossPending := false } }

/-- A timestamp in ns. -/
def TsEntry.ns (e : TsEntry) : Rat := (e.at_ : Rat) + (e.frac : Rat) / 65536

/-- A queue is read first in, first out (02 R69): the oldest entry leaves it. -/
def State.readStamp (s : State) (q : Nat) : Option TsEntry × State :=
  match (s.th.queues.get (q + 1) {}).entries with
  | e :: r => (some e, s.onThyme fun h => { h with queues := h.queues.upd (q + 1) {} fun x => { x with entries := r } })
  | [] => (none, s)

/-- The PTP engine of a port reads its queue in order as far as the entry of a tag; those before it are kept for the requests they answer. -/
def State.ptpStamp (s : State) (q tag : Nat) : Option TsEntry × State :=
  let held := (s.ptp (q + 1)).stamps
  let es := (s.th.queues.get (q + 1) {}).entries
  match held.find? fun e => decide (e.tag = tag) with
  | some e => (some e, s.onPtp (q + 1) fun x => { x with stamps := held.filter fun e => !decide (e.tag = tag) })
  | none => match es.findIdx? fun e => decide (e.tag = tag) with
    | some i =>
      (es[i]?, (s.onThyme fun h => { h with queues := h.queues.upd (q + 1) {} fun x => { x with entries := es.drop (i + 1) } }).onPtp (q + 1)
        fun x => { x with stamps := (held ++ es.take i).reverse.take 64 |>.reverse })
    | none => (none, s)

/-- PTP's tag of a frame: messageType in [15:12], sequenceId in [11:0] (02 R68). -/
def ptpTag (mt seq : Nat) : Nat := mt * 4096 + seq % 4096

/-! ### Commands -/

/-- A PTP message of a port: messageType, domain, sequenceId and the timestamp it carries (02 R52). -/
def State.ptpSend (s : State) (port mt seq : Nat) (body : List Nat) : State :=
  s.emit .ptp (port + 1) ([mt, s.cfg.ptp.domain] ++ octetsOf 2 seq ++ body)

/-- An event message: it is sent with a timestamp request (02 R68). -/
def State.ptpEvent (s : State) (port mt seq : Nat) : State := (s.ptpSend port mt seq []).timestamp port (ptpTag mt seq)

/-- PTP runs on an enabled port while the plant ports are up (01 R37; 02 R52). -/
def State.ptpRuns (s : State) (p : Nat) : Bool := s.pw.portsUp && s.portUp p && decide (p ∈ s.cfg.ptp.ports)

/-- The offset a Sync gives: what it carries, plus the peer delay, minus the receive timestamp (02 R50, R52; the form of IEEE 1588, log 93). -/
def State.syncOffset (s : State) (p : Nat) (carried rx : Int) : Int := roundOpen 47 ((carried : Rat) + (s.ptp p).pathDelay - (rx : Rat))

/-- A port has measured its source (02 R48, R54): the source in use steers, the other one keeps measuring. -/
def State.portMeasured (s : State) (p : Nat) (off : Int) : State :=
  let s1 := s.onPtp p fun x => { x with offset := off, syncSeq := none }
  if s1.bestSource = p then s1.measure p off else s1

/-- The peer delay (02 R52): from the timestamp entry of the Pdelay_Req, the peer's receipt and response and the own receipt (log 93). -/
def State.peerDelay (s : State) (p seq : Nat) (t3 : Int) : State :=
  match (s.ptp p).peerResp with
  | some (q, t2, t4) =>
    if q ≠ seq then s
    else
      let (e, s1) := s.ptpStamp (p - 1) (ptpTag 2 seq)
      s1.onPtp p fun x => { x with
        peerResp := none
        pathDelay := match e with | some e => (((t4 : Rat) - e.ns) - ((t3 : Rat) - (t2 : Rat))) / 2 | none => x.pathDelay }
  | none => s

/-- 02 R52 to R54: unsupported types are counted; an Announce makes the port's source available while its best master
clock algorithm selects a foreign master; a one-step Sync, or the Follow_Up of a two-step one, gives a measurement; a Pdelay_Req is answered with
its timestamp taken; a Pdelay_Resp and its follow-up give the peer delay. -/
def ptpReceive (port : Fin 2) (m : PtpMsg) (s : State) : State :=
  let p := port.val + 1
  if !s.pw.portsUp || !s.portUp p then s
  else
    let s := s.received p
    if m.domain ≠ s.cfg.ptp.domain ∨ p ∉ s.cfg.ptp.ports then s
    else match m.kind with
      | .unsupported => s.onThyme fun h => { h with ptpIgnored := wrapInc h.ptpIgnored }
      | .announce =>
        (s.onPtp p fun x => { x with available := m.selected, lastAnnounce := s.now
                                     master := s.cfg.ptp.boundary && !m.better && !m.selected }).sourcesChanged
      | .syncTwoStep => s.onPtp p fun x => { x with syncSeq := some m.seq, syncRx := m.rx }
      | .syncOneStep => s.portMeasured p (s.syncOffset p m.carried m.rx)
      | .followUp => if (s.ptp p).syncSeq = some m.seq then s.portMeasured p (s.syncOffset p m.carried (s.ptp p).syncRx) else s
      | .pdelayReq => (s.ptpEvent port.val 3 m.seq).onPtp p fun x => { x with respFollowUpDue := some (ptpTag 3 m.seq, s.now) }
      | .pdelayResp => s.onPtp p fun x => { x with peerResp := some (m.seq, m.carried, m.rx) }
      | .pdelayRespFollowUp => s.peerDelay p m.seq m.carried

/-- PTP_MESSAGE_RECEIVED (02 R52). -/
def execPtpMessageReceived (t : Nat) (port : Fin 2) (m : PtpMsg) (s : State) : Host.Outcome State Fault Refusal :=
  s.run t (ptpReceive port m)

/-- ANNOUNCE_RECEIPT_TIMEOUT (02 R48, R52): 3 announce intervals of 1 s have passed without an Announce. -/
def execAnnounceReceiptTimeout (t : Nat) (port : Fin 2) (s : State) : Host.Outcome State Fault Refusal :=
  s.run t fun s =>
    if (s.ptp (port.val + 1)).lastAnnounce + sec 3 ≤ s.now then
      (s.onPtp (port.val + 1) fun x => { x with available := false, master := s.cfg.ptp.boundary }).sourcesChanged
    else s

/-- START_WAIT_EXPIRY (02 R50): no source within the start wait, acquiring goes to free-running. -/
def execStartWaitExpiry (t : Nat) (s : State) : Host.Outcome State Fault Refusal :=
  s.run t fun s =>
    if s.due s.th.startWaitAt && decide (s.th.state = .acquiring) && decide (s.bestSource = 0) then
      ((s.record .thymeFree 0 []).setTime .freeRunning).onThyme fun h => { h with startWaitAt := none }
    else s

/-- HOLDOVER_WINDOW_EXPIRY (02 R56): holdover goes to free-running. -/
def execHoldoverWindowExpiry (t : Nat) (s : State) : Host.Outcome State Fault Refusal :=
  s.run t fun s =>
    if s.due s.th.holdoverAt && decide (s.th.state = .holdover) then
      ((s.record .thymeFree 0 []).setTime .freeRunning).onThyme fun h => { h with holdoverAt := none }
    else s

/-- STEP_SAFE_CONDITION_BEGINS (02 R50, R51): unaligned Thyme steps to its source and returns to acquiring. -/
def execStepSafeConditionBegins (t : Nat) (s : State) : Host.Outcome State Fault Refusal :=
  s.run t fun s =>
    if decide (s.th.state = .unaligned) && s.stepSafe && !s.pulsing && decide (s.th.source ≠ 0) && !s.th.offsets.isEmpty then
      (s.thymeStep (roundZero s.filtered)).toAcquiring
    else s

/-- PPS_IN_EDGE (02 R48): phase alone, available from its first edge on (log 95), used while the seconds are labelled and no PTP or twin source is available. -/
def execPpsInEdge (t : Nat) (offset : Int) (s : State) : Host.Outcome State Fault Refusal :=
  s.run t fun s =>
    let s1 := s.onThyme fun h => { h with ppsAvail := true }
    if s1.bestSource = 4 then s1.measure 4 offset else s1

/-- Entry of the reference frequency table: 64 values from -45 degC in 3 K steps (05 R146), interpolated between them and held at its ends, since
02 R45 says only that the table is indexed (log 96). -/
def freqEntry (tb : Table Int) (temp : Int) : Int :=
  roundOpen 1 (interp ((List.range 64).map fun (i : Nat) => (-4500 + 300 * (i : Int), ((tb.get i 0 : Int) : Rat))) temp)

/-- TEMPERATURE_COMPENSATION_UPDATE (02 R45): the table is applied at the reference's temperature; the addend moves by
the change of the compensation alone. -/
def execTemperatureCompensationUpdate (t : Nat) (temp : Int) (s : State) : Host.Outcome State Fault Refusal :=
  s.run t fun s => if !s.thymeRuns then s else s.turn 1 (ms 100) fun s =>
    let c := freqEntry s.acq.applied.freqTable temp
    s.onThyme fun h => { h with
      oscTemp := temp, compPpb := c
      addend := ((h.addend : Int) + (compAddend c - compAddend h.compPpb)).toNat }

/-- The time states from best to worst (02 R64). -/
def timeRank : TimeState → Nat
  | .locked => 0 | .acquiring => 1 | .holdover => 2 | .freeRunning => 3 | .unaligned => 4 | .unset => 5

/-- The time state of a code of 02 R49. -/
def timeOfCode : Nat → TimeState
  | 1 => .acquiring | 2 => .locked | 3 => .holdover | 4 => .freeRunning | 5 => .unaligned | _ => .unset

/-- A deferred step runs once the pulse in progress has ended (02 R51). -/
def State.deferredStep (s : State) : State :=
  if decide (s.th.state = .unaligned ∨ s.th.state = .acquiring) && s.stepSafe && !s.pulsing && decide (s.th.source ≠ 0) && !s.th.offsets.isEmpty &&
      decide (((s.cfg.steer.stepUs * 1000 : Nat) : Rat) < absR s.filtered) then
    (s.thymeStep (roundZero s.filtered)).toAcquiring
  else s

/-- PPS_OUT_PULSE (02 R64): rises once in a whole second, within its width, unless squelched; falls when the configured width is over, and a step
that waits for it is then taken (02 R51). -/
def execPpsOutPulse (t : Nat) (rise : Bool) (s : State) : Host.Outcome State Fault Refusal :=
  s.run t fun s =>
    let second := s.th.reading / 1000000000
    let width := ms s.cfg.pps.widthMs
    if !s.thymeRuns then s
    else if rise then
      if timeRank s.th.state ≤ timeRank (timeOfCode s.cfg.pps.squelch) ∧ s.th.ppsSecond ≠ some second ∧ s.th.reading % 1000000000 < width then
        (s.onThyme fun h => { h with ppsHigh := true, ppsSecond := some second }).emit .ppsOut 0 [1]
      else s
    else if s.th.ppsHigh && decide ((s.th.ppsSecond.getD 0) * 1000000000 + width ≤ s.th.reading) then
      ((s.onThyme fun h => { h with ppsHigh := false }).emit .ppsOut 0 [0]).deferredStep
    else s

/-- The leading edge of a once or periodic pulse that is due (02 R66). An edge placed at a resolution of 1 ns leaves the fraction of the start
without effect, and a start that a step passes over rises at the next rise command (log 94). -/
def pulseRise (o : Nat) (s : State) : State :=
  let p := s.th.tp.get o {}
  let c := s.tpCfg o
  let go (p' : PulseOut) : State :=
    (s.onThyme fun h => { h with tp := h.tp.put o {} p' }).emit .timedPulse o [if c.low then 0 else 1]
  if !s.thymeRuns || p.high then s
  else match p.armedAt with
  | some a => if a ≤ s.th.reading then go { p with armedAt := none, high := true, fallAt := a + c.width } else s
  | none => match p.nextAt with
    | some n =>
      if n ≤ s.th.reading ∧ p.left ≠ some 0 then
        let left := p.left.map fun l => l - 1
        go { p with high := true, fallAt := n + c.width, left := left, nextAt := if left = some 0 then none else some (n + c.period) }
      else s
    | none => s

/-- TIMED_OUTPUT_PULSE (02 R65 to R67). -/
def execTimedOutputPulse (t : Nat) (output : Fin 2) (rise : Bool) (s : State) : Host.Outcome State Fault Refusal :=
  s.run t fun s =>
    let o := output.val + 1
    if rise then pulseRise o s
    else if s.thymeRuns && (s.th.tp.get o {}).high && decide ((s.th.tp.get o {}).fallAt ≤ s.th.reading) then
      ((s.onThyme fun h => { h with tp := h.tp.upd o {} fun p => { p with high := false } }).emit .timedPulse o
        [if (s.tpCfg o).low then 1 else 0]).deferredStep
    else s

/-- ARM_PULSE (02 R65, R66; 17 R436 code 0x0801): arms a once pulse on an output configured as off or once, BUSY for a
periodic one, and INVALID where the start is no plant time (00 R8); a start less than 1 ms ahead is not emitted and is recorded. -/
def execArmPulse (t : Nat) (m : Maint) (output : Nat) (start : PTime) (sub : Nat) (s : State) : Host.Outcome State Fault Refusal :=
  s.run t fun s => s.maint m 0x0801 fun s =>
    if output ≠ 1 ∧ output ≠ 2 ∨ 65536 ≤ sub ∨ start.ok = false then (s, stInvalid, 0, [])
    else if (s.tpCfg output).mode = 2 then (s, stBusy, 0, [])
    else done (s.armOnce output start.ns sub)

/-- TIMESTAMP_ENTRY_EXPIRY (02 R69): the oldest entry, 10 ms old and unread, is discarded and counted. -/
def execTimestampEntryExpiry (t : Nat) (queue : Fin 5) (s : State) : Host.Outcome State Fault Refusal :=
  s.run t fun s => s.onThyme fun h => { h with queues := h.queues.upd (queue.val + 1) {} fun x =>
    match x.entries with
    | e :: r => if e.at_ + ms 10 ≤ s.th.reading then { x with entries := r, expired := wrapInc x.expired, lossPending := true } else x
    | [] => x }

/-- TWIN_TIME_EXCHANGE (02 R63; 14 R361): both twins send their message with a timestamp; a follower measures the leader, over the link or, while
that is lost, by the edges of discrete A. The twin link is available as a source from the first exchange on (log 95). -/
def execTwinTimeExchange (t : Nat) (offset edge : Int) (s : State) : Host.Outcome State Fault Refusal :=
  s.run t fun s =>
    if !s.isTwin || !s.thymeRuns then s
    else s.turn 3 125000 fun s =>
      let s1 := ((s.readStamp 3).2.twinSend .twinTime 3 []).timestamp 3 0
      let apart := decide (12800 < (offset - edge).natAbs)
      let s2 := s1.onThyme fun h => { h with
        twinOffset := offset, edgeOffset := edge, disagreeSince := since s.now apart h.disagreeSince
        twinAvail := true }
      let s3 := s2.onTwin fun w => { w with lockHeldSince := since s.now (decide (offset.natAbs ≤ 1280)) w.lockHeldSince }
      let used := if (s.path 0).lost then edge else offset
      if s3.bestSource = 3 then s3.measure 3 (roundZero ((used : Rat) / 256)) else s3

/-- TWIN_OFFSET_DISAGREEMENT (02 R63): the two offsets have differed by more than 50 ns for 1 s. -/
def execTwinOffsetDisagreement (t : Nat) (s : State) : Host.Outcome State Fault Refusal :=
  s.run t fun s =>
    if s.heldFor s.th.disagreeSince (sec 1) && !decide (s.tw.role = .leader) then
      (s.record .offsetDisagreement 0 (enc [(4, s.th.twinOffset), (4, s.th.edgeOffset)])).onThyme fun h => { h with disagreeSince := none }
    else s

/-- PROPAGATION_DELAY_MEASUREMENT (02 R60): the measured delay is used and sent to the node; a deviation of more than
5 ns from the installation value is recorded. -/
def execPropagationDelayMeasurement (t : Nat) (node : Fin 128) (delay : Nat) (s : State) : Host.Outcome State Fault Refusal :=
  s.run t fun s => if !s.leads || !s.ra.transmit || !s.thymeRuns || !(s.cfg.nodeEntry node.val).isSome then s else s.turn (0x100 + node.val) (sec 10) fun s =>
    let d := delay % two32
    let s1 := s.onNode node.val fun x => { x with propDelay := d, work := x.work ++ [{ code := 8, params := octetsOf 4 d }] }
    if 1280 < ((d : Int) - (Config.installDelay node.val : Int)).natAbs then
      s1.record .delayDeviation node.val (enc [fN 4 d, fN 4 (Config.installDelay node.val)])
    else s1

/-- A port acts as PTP master where its LAN offers no better clock, with the other port following one: the module is never grandmaster (02 R53). -/
def State.ptpMaster (s : State) (p : Nat) : Bool := (s.ptp p).master && (s.ptp (3 - p)).available

/-- The follow-up of an event message carries its timestamp, where the entry stands within 10 ms (02 R69). -/
def State.sendFollowUp (s : State) (port mt : Nat) (due : Option (Nat × Nat)) : State :=
  match due with
  | some (tag, at_) =>
    if at_ + ms 10 < s.now then s
    else
      let (e, s1) := s.ptpStamp port tag
      match e with
      | some e => s1.ptpSend port mt (tag % 4096) (enc (timeFields e.at_ ++ [fN 2 e.frac]))
      | none => s1
  | none => s

/-- PTP_MESSAGE_TRANSMIT (02 R52, R53, R69): Pdelay_Req on an enabled port; Sync and Announce where the port is a boundary
master; the Follow_Up of a Sync or Pdelay_Resp whose timestamp entry stands, and none once 10 ms have passed. -/
def ptpTransmit (port : Fin 2) (kind : PtpKind) (s : State) : State :=
  let p := port.val + 1
  let x := s.ptp p
  if !s.ptpRuns p then s
  else match kind with
    | .pdelayReq => (s.ptpEvent port.val 2 x.seqPdelay).onPtp p fun x => { x with seqPdelay := (x.seqPdelay + 1) % 65536 }
    | .syncTwoStep =>
      if s.ptpMaster p then
        (s.ptpEvent port.val 0 x.seqSync).onPtp p fun x => { x with seqSync := (x.seqSync + 1) % 65536, followUpDue := some (ptpTag 0 x.seqSync, s.now) }
      else s
    | .announce =>
      if s.ptpMaster p then (s.ptpSend port.val 11 x.seqAnnounce []).onPtp p fun x => { x with seqAnnounce := (x.seqAnnounce + 1) % 65536 }
      else s
    | .followUp => (s.onPtp p fun x => { x with followUpDue := none }).sendFollowUp port.val 8 x.followUpDue
    | .pdelayRespFollowUp => (s.onPtp p fun x => { x with respFollowUpDue := none }).sendFollowUp port.val 10 x.respFollowUpDue
    | .syncOneStep | .pdelayResp | .unsupported => s

/-- PTP_MESSAGE_TRANSMIT (02 R52). -/
def execPtpMessageTransmit (t : Nat) (port : Fin 2) (kind : PtpKind) (s : State) : Host.Outcome State Fault Refusal :=
  s.run t (ptpTransmit port kind)

end Sys2Proof.Machine
end

