-- ==== Sys2Proof/Machine/RadioOps.lean ====
section
/-! DEFINITION. Sys2Proof/Machine/RadioOps.lean: what the radio, balancing and acquisition families share about nodes:
taps and balancing sets with their ramp and guards (05 R136 to R138, 09 R239), the set-uncertain state (09 R254), the
admission states (04 R117) and the frames the leader sends (04 R101 to R106). -/

namespace Sys2Proof.Machine

open Sys2Proof

/-! ### Taps -/

/-- A tap estimate (05 R138). -/
def State.tap (s : State) (n j : Nat) : Tap := s.acq.taps.get (17 * n + j) {}

/-- Tap resistance in nOhm: the nominal value until a step has entered (05 R138). -/
def State.rho (s : State) (n j : Nat) : Nat :=
  if (s.tap n j).steps = 0 then 1000 * s.cfg.taps.nominal else (s.tap n j).rho

/-- Update of a tap estimate. -/
def State.onTap (s : State) (n j : Nat) (f : Tap → Tap) : State :=
  s.onAcq fun a => { a with taps := a.taps.upd (17 * n + j) {} f }

/-! ### Balancing sets -/

/-- Set current of cell channel j in mA; 0 beyond the ends (05 R136). -/
def BalSet.cur (b : BalSet) (j : Int) : Int := if 0 ≤ j ∧ j < 16 then b.currents.getD j.toNat 0 else 0

/-- A set with the converters of a mask at zero, bit 16 the stack-to-bus one (09 R239). -/
def BalSet.guarded (b : BalSet) (mask : Nat) : BalSet :=
  if mask = 0 then b
  else { b with currents := (List.range 16).map fun j => if mask.testBit j then 0 else b.cur (j : Nat), power := if mask.testBit 16 then 0 else b.power }

/-- The set a node holds in a sweep is uncertain (09 R254): from the sweep it began to the first sweep after its end. -/
def NodeCtl.uncertainAt (x : NodeCtl) (sweep : Nat) : Bool :=
  notBefore sweep x.uncertainFrom && (!decide (x.uncertain = 0) || laterThan x.uncertainTo sweep)

/-- Average balancing current of cell channel j over a sweep, in mA (05 R136, R137; 09 R239): the active set, with the
ramp in its activation sweep, the set before it in an earlier sweep, and 0 for a stopped converter. -/
def NodeCtl.effCur (x : NodeCtl) (sweep : Nat) (j : Int) : Rat :=
  if 0 ≤ j ∧ x.guardMask.testBit j.toNat ∧ notBefore sweep (x.guardAt.get j.toNat 0) then 0
  else
    let new : Rat := (x.activeSet.cur j : Int)
    let old : Rat := (x.prevSet.cur j : Int)
    if sweep = x.activeFrom then new - (new - old) / 20
    else if laterThan x.activeFrom sweep then old else new

/-- Stack-to-bus power of a node in a sweep, in 10 mW (09 R242). -/
def NodeCtl.effPower (x : NodeCtl) (sweep : Nat) : Rat :=
  if x.guardMask.testBit 16 && notBefore sweep (x.guardAt.get 16 0) then 0
  else
    let new : Rat := (x.activeSet.power : Int)
    let old : Rat := (x.prevSet.power : Int)
    if sweep = x.activeFrom then new - (new - old) / 20
    else if laterThan x.activeFrom sweep then old else new

/-- The tap correction of cell channel j in uV for currents `cur` in mA (05 R136). -/
def State.tapTerm (s : State) (n j : Nat) (cur : Int → Rat) : Rat :=
  ((s.rho n (j + 1) : Rat) * (cur j - cur (j + 1)) + (s.rho n j : Rat) * (cur j - cur (j - 1))) / 1000000

/-- The tap term of a cell value under what a node is taken to hold, zero while set-uncertain (05 R136; 09 R254). -/
def State.termUnder (s : State) (x : NodeCtl) (n j sweep : Nat) : Int :=
  if x.uncertainAt sweep then 0 else roundOpen 2 (s.tapTerm n j fun i => x.effCur sweep i)

/-- The converters an alarm stops (09 R239): bit j a cell's converter, bit 16 stack-to-bus. -/
def guardStops (b : BalSet) (code mask : Nat) : Nat :=
  match code with
  | 1 => maskOf 16 ((bitsIn 16 mask).filter fun j => decide (b.cur j < 0))
  | 2 => maskOf 16 ((bitsIn 16 mask).filter fun j => decide (0 < b.cur j))
  | 5 | 6 => mask % 65536
  | 3 | 4 | 7 | 8 => 131071
  | _ => 0

/-- The converters that the alarms a node is known to hold stop under a set (09 R239). -/
def NodeCtl.heldStops (x : NodeCtl) (b : BalSet) : Nat :=
  x.alarms.foldl (fun m a => match a.mask with | some k => m ||| guardStops b a.code k | none => m) 0

/-- A new active set (09 R239): the guards of the set before it end, those of the alarms still held act on it from its first sweep. -/
def NodeCtl.newSet (x : NodeCtl) (b prev : BalSet) (sweep : Nat) : NodeCtl :=
  { x with
    activeSet := b, prevSet := prev, activeFrom := sweep, setSteps := (sweep :: x.setSteps).take 16
    guardLast := x.guardMask
    guardMask := x.heldStops b
    guardAt := (bitsIn 17 (x.heldStops b)).foldl (fun (tb : Table Nat) j => tb.put j 0 sweep) {} }

/-- The tap correction of a cell value of a sweep in uV: none while the node is set-uncertain (05 R136, 09 R254). -/
def State.correction (s : State) (n j sweep : Nat) : Int :=
  s.termUnder (s.node n) n j sweep

/-- A node with the set whose Commit it has acknowledged, from the plan's activation sweep (05 R140; 09 R253). -/
def State.expected (s : State) (n : Nat) : NodeCtl :=
  let x := s.node n
  match x.nextSet with
  | some b => if x.commitAcked then x.newSet b (x.activeSet.guarded x.guardMask) s.ba.activation else x
  | none => x

/-- The latest sweep at which the currents a node is taken to hold change: an activation, a stopped converter, an edge of the
set-uncertain state. -/
def NodeCtl.changeSweep (x : NodeCtl) : Nat :=
  let stops := ((List.range 16).filter fun j => x.guardMask.testBit j).map fun j => x.guardAt.get j 0
  (stops ++ [if x.uncertain = 0 then x.uncertainTo else x.uncertainFrom]).foldl (fun a b => if laterThan b a then b else a) x.activeFrom

/-- The island's table of correction terms for one node (05 R140), per cell and balancing set: before, in and after the sweep of the change. -/
def State.writeIslandTable (s : State) (n : Nat) : State :=
  if s.pw.haltedApp then s
  else
    let x := s.expected n
    let a := x.changeSweep
    s.onAcq fun q => { q with islandCorr := ((s.cfg.cellsOfNode n).foldl (fun tb cell =>
      tb.put cell {} { sweep := a, before := s.termUnder x n (cell % 16) ((a + two32 - 1) % two32)
                       ramp := s.termUnder x n (cell % 16) a, after := s.termUnder x n (cell % 16) ((a + 1) % two32) }) q.islandCorr) }

/-- The island's correction of a cell value of a sweep, from its table (05 R140). -/
def State.islandTerm (s : State) (cell sweep : Nat) : Int :=
  let e := s.acq.islandCorr.get cell {}
  if sweep = e.sweep then e.ramp else if laterThan e.sweep sweep then e.before else e.after

/-- Superframe number of this instant (01 R38). -/
def State.superframeNow (s : State) : Nat := s.sweepAbs / 4 % two32

/-- First sweep after the current superframe. -/
def State.nextFrameSweep (s : State) : Nat := (4 * s.superframeNow + 4) % two32

/-- A node becomes set-uncertain for a cause (0 Commit, 1 alarm frame, 2 silence) from a sweep (09 R254). -/
def State.enterUncertain (s : State) (n cause sweep : Nat) : State :=
  let s1 := s.onNode n fun x => { x with
    uncertain := x.uncertain ||| (2 ^ cause)
    uncertainFrom := if x.uncertain = 0 then sweep else x.uncertainFrom }
  s1.writeIslandTable n

/-- A cause of the set-uncertain state ends at the end of the current superframe; when none is left, the event is
recorded with the node and the sweep range (09 R254). `f` is what the module then takes as active. -/
def State.endUncertain (s : State) (n cause : Nat) (f : NodeCtl → NodeCtl) : State :=
  let x := s.node n
  if !x.uncertain.testBit cause then s
  else
    let left := x.uncertain - 2 ^ cause
    let s1 := s.onNode n fun y => { (f y) with uncertain := left
                                               uncertainTo := if left = 0 then s.nextFrameSweep else y.uncertainTo }
    let s2 := if left = 0 then s1.record .setUncertain n (octetsOf 4 x.uncertainFrom ++ octetsOf 4 ((s.nextFrameSweep + two32 - 1) % two32)) else s1
    s2.writeIslandTable n

/-- A set the module takes as active from the end of a set-uncertain state: without the ramp of 05 R137 (04 R110). -/
def NodeCtl.takeSet (x : NodeCtl) (b : BalSet) (sweep : Nat) : NodeCtl :=
  x.newSet b b sweep

/-! ### Admission -/

/-- A cell in the default learned state (07 R216). -/
def State.defaultCell (s : State) : CellEst :=
  { q := (s.cfg.rating.capacity : Rat), qSigma := (s.cfg.capLearn.initial : Rat) / 10000
    h := 0, cov := (1 / 100) :: List.replicate 15 0, agree := .agree, defaultState := true }

/-- The cells of a node take the default learned state; its taps, coefficients and baselines are unlearned (07 R214,
R216). -/
def State.defaultNode (s : State) (n : Nat) : State :=
  let cells := s.cfg.cellsOfNode n
  let s1 := cells.foldl (fun s c => s.onCell c fun _ => s.defaultCell) s
  let s2 := (List.range 17).foldl (fun s j => s.onTap n j fun _ => {}) s1
  s2.onSage fun g => { g with
    fits := cells.foldl (fun t c => t.put c {} {}) g.fits
    islandR0 := cells.foldl (fun t c => t.put c (0, 0, 0) (0, 0, 0)) g.islandR0
    coefs := cells.foldl (fun t c => (List.range 4).foldl (fun t b => t.put (4 * c + b) {} {}) t) g.coefs
    bases := cells.foldl (fun t c => t.put c {} {}) g.bases }

/-- The sensors of a released node are healthy again (10 R269). -/
def State.sensorsHealthy (s : State) (n : Nat) : State :=
  (List.range 8).foldl (fun s i => s.onTchan (8 * n + i) fun c => { c with sensor := .healthy }) s

/-- A node becomes unadmitted at the module (04 R112, R117): counter 0, no work, no set (09 R240). A Commit-, alarm- or
silence-uncertain state ends with the zero set (09 R254). -/
def State.unadmit (s : State) (n : Nat) : State :=
  let zero := fun x : NodeCtl => x.takeSet {} s.nextFrameSweep
  let s1 := ((s.endUncertain n 0 zero).endUncertain n 1 zero).endUncertain n 2 zero
  let s2 := s1.onNode n fun x => { x with
    adm := .unadmitted
    replacement := false
    counter := 0
    work := []
    inflight := none
    authFails := 0
    keyCommits := 0
    keyCommitAt := none
    relayRole := 0
    relayPending := none
    respAt := none
    activeSet := {}
    prevSet := {}
    nextSet := none
    commitSent := false
    commitAcked := false
    guardMask := 0
    alarms := []
    seqActed := none }
  (s2.sensorsHealthy n).writeIslandTable n

/-- Queue a Release for a node in place of its other work (04 R111, R115, R117; log 16). -/
def State.sendRelease (s : State) (n : Nat) : State :=
  s.onNode n fun x => { x with work := [{ code := 9 }], inflight := none }

/-- Queue a command for a node. -/
def State.addWork (s : State) (n : Nat) (cs : List NodeCmd) : State :=
  s.onNode n fun x => { x with work := x.work ++ cs }

/-- The module holds a link key for the node (04 R114): keying, admitted or pending. -/
def NodeCtl.linked (x : NodeCtl) : Bool := decide (x.adm = .keying ∨ x.adm = .admitted ∨ x.adm = .pending)

/-- Admitted or pending. -/
def NodeCtl.inService (x : NodeCtl) : Bool := decide (x.adm = .admitted ∨ x.adm = .pending)

/-! ### Keys (04 R100) -/

/-- "AKP-CN16" in ASCII. -/
def saltText : List Nat := [65, 75, 80, 45, 67, 78, 49, 54]

/-- K_node of an identifier: salt "AKP-CN16", info "node" and the identifier. -/
def State.kNode (s : State) (ident : Nat) : List Nat := Config.hkdf s.cfg.rootKey saltText ([110, 111, 100, 101] ++ octetsOf 8 ident)

/-- K_link from K_node: salt the challenge nonce, info "link", string index, node index and configuration epoch. -/
def State.kLink (s : State) (kNode : List Nat) (nonce node epoch : Nat) : List Nat :=
  Config.hkdf kNode (octetsOf 16 nonce) ([108, 105, 110, 107, s.cfg.string.index, node] ++ octetsOf 4 epoch)

/-- K_beacon of a configuration epoch: salt "AKP-CN16", info "beacon", string index and epoch. -/
def State.kBeacon (s : State) (epoch : Nat) : List Nat :=
  Config.hkdf s.cfg.rootKey saltText ([98, 101, 97, 99, 111, 110, s.cfg.string.index] ++ octetsOf 4 epoch)

/-- The key of a frame before admission (04 R101). -/
def zeroKey : List Nat := List.replicate 16 0

/-- The first 32 bits of an AES-CMAC (04 R101). -/
def cmac32 (key m : List Nat) : Nat := Config.cmac key m / 2 ^ 96 % two32

/-- The configuration epoch under which nodes are admitted: in a key roll the new one (04 R100; 21 R525). -/
def State.admitEpoch (s : State) : Nat := s.ra.rollEpoch.getD s.ra.keyEpoch

/-- The link key the module holds for a node. -/
def State.keyLink (s : State) (n : Nat) : List Nat := s.kLink (s.kNode (s.node n).ident) (s.node n).nonce n (s.node n).linkEpoch

/-- The beacon key in use. -/
def State.keyBeacon (s : State) : List Nat := s.kBeacon s.ra.keyEpoch

/-- The loads and the Commit of an area (04 R109): 8 octets each, the Commit with the CRC-32 of the area. -/
def loadArea (area : Nat) (data : List Nat) (activation : Nat) : List NodeCmd :=
  ((List.range (data.length / 8)).map fun i => { code := 5, params := [area, 8 * i] ++ (data.drop (8 * i)).take 8 }) ++
  [{ code := 6, params := [area, 0] ++ octetsOf 4 (Config.crc32 data) ++ octetsOf 4 activation }]

/-- The loads and the Commit of area 0x04: the beacon key of an epoch as one AES-128 block under the link key (04 R109). -/
def State.areaKey (s : State) (n epoch activation : Nat) : List NodeCmd :=
  loadArea 4 ((Config.aes128 (s.keyLink n) (s.kBeacon epoch) ++ List.replicate 16 0).take 16) activation

/-- The beacon key load of a node (04 R110, R117), active at the next sweep after its Commit; of a node in a key roll the new key, naming the roll sweep (21 R525). -/
def State.keyLoad (s : State) (n : Nat) : List NodeCmd :=
  if s.ra.rollStage = 3 ∧ n ∈ s.ra.rollList ∧ ((s.node n).adm = .admitted ∨ (s.node n).adm = .pending) then
    s.areaKey n (s.ra.rollEpoch.getD s.ra.keyEpoch) (s.ra.rollSweep.getD 0)
  else s.areaKey n s.ra.keyEpoch s.sweepNo

/-- The served-channel mask of a node (04 R109, 00 R11). -/
def State.servedMask (s : State) (n : Nat) : Nat := maskOf 16 ((s.cfg.cellsOfNode n).map fun c => c % 16)

/-- The Admit command of a node (04 R109): transmit level, flags, served-channel mask. -/
def State.admitCmd (s : State) (n : Nat) : NodeCmd :=
  { code := 4, params := [s.cfg.radio.level.getD (n / 32) 0, bitsOf [(s.node n).replacement]] ++ octetsOf 2 (s.servedMask n) }

/-- Challenge a node: a new nonce, its two parts, and a new counter series (04 R112, R117). -/
def State.challenge (s : State) (n : Nat) : State :=
  let (r, s1) := s.freshNat
  let nonce := r % 2 ^ 128
  s1.onNode n fun x => { x with
    adm := .challenged
    nonce := nonce
    linkEpoch := s.admitEpoch
    counter := 0
    inflight := none
    work := [{ code := 3, params := 0 :: octetsOf 8 (nonce / 2 ^ 64) }, { code := 3, params := 1 :: octetsOf 8 (nonce % 2 ^ 64) }] }

/-- The threshold set of a node as area 0x01 carries it (04 R121, 11 R294). -/
def State.thresholdArea (s : State) : List Nat :=
  let p := s.cfg.cellProt
  let t := s.cfg.cellTemp
  enc [(3, (p.vOv : Int) - p.m), (3, (p.vUv : Int) + p.m), fN 2 p.hyst, (2, t.high), (2, t.low), fN 2 t.hyst, fN 1 p.debounce, fN 1 0]

/-- A balancing set as area 0x03 carries it (09 R243). -/
def BalSet.area (b : BalSet) : List Nat :=
  enc (((List.range 16).map fun j => (2, b.cur (j : Nat))) ++ [(2, b.power), fN 1 b.flags, fN 5 0])

/-- A tone plan as area 0x02 carries it (06 R152): identifier, tone count, balancing slots, excitation amplitude and
mask, frequencies in 2^-16 Hz. -/
def TonePlan.area (p : TonePlan) (node : Nat) : List Nat :=
  enc ([fN 1 p.ident, fN 1 p.count, fN 1 p.slots, fN 1 p.amplitude, fN 2 (p.masks.get node 0)] ++
    ((List.range 8).map fun t => (4, roundNear ((p.freqs.getD t 0 : Rat) * 65536 / 10))) ++ [fN 2 0])

/-- The first tone window start at least 2 000 sweeps after the sweep in progress (06 R153). -/
def State.planStart (s : State) : Nat := ((s.sweepAbs + 1 + 2000 + 99) / 100 * 100) % two32

/-- The first Load of a new tone plan fixes its activation sweep, which its Commits to all nodes carry (06 R153). -/
def State.startPlan (s : State) : State :=
  match s.sg.plans with
  | p :: r =>
    if !s.sg.planOpen then s
    else
      let q := { p with fromSweep := s.planStart }
      let fix := fun (n : Nat) (c : NodeCmd) =>
        let w := ((loadArea 2 (p.area n) q.fromSweep).getLast?).getD {}
        if c.code = 6 ∧ c.params.take 6 = w.params.take 6 then w else c
      let s1 := s.onSage fun g => { g with plans := q :: r, planOpen := false }
      (s1.cfg.nodes.map fun e => e.index).foldl (fun s n => s.onNode n fun x => { x with work := x.work.map (fix n) }) s1
  | [] => s

/-- The parameter loads of a node that finished keying (04 R117): propagation delay, threshold set, tone plan,
balancing set. -/
def State.parameterLoads (s : State) (n : Nat) : List NodeCmd :=
  [{ code := 8, params := octetsOf 4 (s.node n).propDelay }] ++ loadArea 1 s.thresholdArea s.nextFrameSweep ++
  (match s.sg.plans with | p :: _ => loadArea 2 (p.area n) s.nextFrameSweep | [] => []) ++
  loadArea 3 (s.node n).activeSet.area s.nextFrameSweep

/-! ### Frames of the leader -/

/-- The leader's transmitters are on (03 R75, R96). -/
def State.radioOn (s : State) : Bool := s.leads && s.ra.transmit && !decide (s.pw.state = .hibernate ∨ s.pw.state = .off)

/-- A PSDU with its CMAC and check value (04 R99, R101). -/
def psdu (key : List Nat) (k : Nat) (body : List Nat) : List Nat :=
  let m := body ++ octetsOf 4 (cmac32 key (octetsOf 4 k ++ body))
  m ++ octetsOf 2 (Config.crc16 m)

/-! ### Superframes and their segments (01 R39; 03 R75, R77, R94) -/

/-- The begin of an unlocked channel after that of channel 0, ns (03 R77). -/
def State.chanShift (s : State) (c : Nat) : Nat := if s.cfg.locked then 0 else ms c

/-- The superframe number of a channel at this instant: unlocked channels begin c ms later (01 R38, 02 R62, 03 R77). -/
def State.superframeOf (s : State) (c : Nat) : Nat := (s.sinceEpoch - s.chanShift c) / 4000000 % two32

/-- The time since B0 of a channel's superframe, ns. -/
def State.chanPhase (s : State) (c : Nat) : Nat := (s.sinceEpoch - s.chanShift c) % 4000000

/-- B0 of a channel's superframe, plant time in ns. -/
def State.chanB0 (s : State) (c : Nat) : Nat := s.th.reading - s.chanPhase c

/-- Begin of report slot s after B0, ns (01 R39). -/
def slotBegin (slot : Nat) : Nat := 120000 + slot * 115000 + slot / 8 * 30000

/-- End of report slot s after B0, ns. -/
def slotEnd (slot : Nat) : Nat := slotBegin slot + 115000

/-- Begin of alarm slot a after B0, ns (01 R39). -/
def alarmBegin (slot : Nat) : Nat := 1040000 + slot * 950000

/-- Begin of the management window after B0, ns (01 R39). -/
def mgmtBegin : Nat := 3920000

/-- Radio channel c is active in superframe k (03 R94). -/
def State.activeIn (s : State) (c k : Nat) : Bool :=
  decide (s.pw.state = .run) || decide (s.frameAbs (k % two32) % 25 = 0) || decide (k % two32 ∈ (s.rchan c).forcedIn)

/-- The radio channel is active in the current superframe (03 R94). -/
def State.chanActive (s : State) (c : Nat) : Bool := s.activeIn c (s.superframeOf c)

/-- The leader may transmit in a segment that began `start` after B0: its transmitters are on, and it leads since before the segment (03 R75, R96). -/
def State.mayTransmit (s : State) (c start : Nat) : Bool := s.radioOn && decide (s.tw.leadAt + (s.chanPhase c - start) ≤ s.now)

/-- Contention is open in superframe k (03 R86; 01 R35). -/
def State.contentionIn (s : State) (k : Nat) : Bool :=
  let r := max 2 (min 8 s.cfg.contend.ratio)
  !s.pw.haltedApp && (if s.pw.state = .run then decide (s.frameAbs k % r = 0) else decide (s.frameAbs k % (25 * r) = 0))

/-- Count a frame in its class: 0 accepted, 1 check value, 2 foreign string, 3 authentication, 4 wrong slot,
5 unsupported (03 R92). -/
def State.countFrame (s : State) (c cls : Nat) : State :=
  s.onChan c fun x => { x with counters := ((List.range 6).map fun i =>
    if i = cls then wrapInc (x.counters.getD i 0) else x.counters.getD i 0) }

/-- Energy in two consecutive alarm slots of a channel while its first unidentified alarm stands starts function 0x09 (11 R299, R312). -/
def State.energyHold (s : State) (c : Nat) : State :=
  let x := s.rchan c
  if x.unidentified.isSome && x.energyNums.any (fun n => decide ((n + 1) % (4 * two32) ∈ x.energyNums)) then s.decideFn 0x09 strGroup c 2 [c] else s

/-- The slot of a node index on its channel (00 R12). -/
def slotOf (n : Nat) : Nat := n % 32

/-! ### Key roll (21 R525) -/

/-- The nodes of the key roll still in service. -/
def State.rollNodes (s : State) : List Nat := s.ra.rollList.filter fun n => (s.node n).inService

/-- KEY_ROLL (21 R525): after both twins have committed a new epoch the leader admits every node again, in node-index order. -/
def State.rollStart (s : State) : State :=
  match s.pg.running with
  | none => s
  | some h =>
    if !(s.leads && s.up.keyRollDue && decide (s.ra.rollStage = 0)) then s
    else
      let ns := ((s.cfg.nodes.map fun e => e.index).foldr insertN []).filter fun n => (s.node n).inService
      let s1 := s.onRadio fun r => { r with
        rollEpoch := some h.version, rollStage := 1, rollList := ns, rollPostponed := 0, rollConfirmed := [], rollSweep := none }
      ns.foldl State.challenge s1

/-- The first superframe start at least 2 000 sweeps from now. -/
def State.nextRollSweep (s : State) : Nat := ((s.sweepAbs + 2003) / 4 * 4) % two32

/-- A Load of area 0x04 waits to be sent to a node or answered. -/
def NodeCtl.loadingKey (x : NodeCtl) : Bool :=
  let load := fun (c : NodeCmd) => decide (c.code = 5 ∧ c.params.head? = some 4)
  x.work.any load || (match x.inflight with | some f => load f.cmd | none => false)

/-- The steps of a key roll (21 R525): once every node is admitted again the new key is loaded into each; after the last Load all the Commits
name one roll sweep. -/
def State.rollStep (s : State) : State :=
  let e := s.ra.rollEpoch.getD 0
  if !s.leads then s
  else if s.ra.rollStage = 1 ∧ (s.ra.rollList.all fun n => (s.node n).inService || decide ((s.node n).adm = .unadmitted)) then
    let s1 := s.onRadio fun r => { r with rollStage := 2 }
    s1.rollNodes.foldl (fun s n => (s.onNode n fun x => { x with keyCommits := 0 }).addWork n (s.areaKey n e 0).dropLast) s1
  else if s.ra.rollStage = 2 ∧ !(s.rollNodes.any fun n => (s.node n).loadingKey) then
    let r := s.nextRollSweep
    let s1 := s.onRadio fun x => { x with rollStage := 3, rollSweep := some r, rollConfirmed := [] }
    s1.rollNodes.foldl (fun s n => s.addWork n ((s.areaKey n e r).drop 2)) s1
  else s

/-- ROLL_SWEEP (21 R525): 160 sweeps before the roll sweep an unconfirmed Commit postpones the roll, at most 3 times; from the roll sweep on
the beacons use the new key. -/
def State.rollDue (s : State) : State :=
  match s.ra.rollSweep with
  | none => s
  | some r =>
    let open_ := s.rollNodes.filter fun n => !decide (n ∈ s.ra.rollConfirmed)
    if !s.leads || !decide (s.ra.rollStage = 3) then s
    else if !open_.isEmpty && decide (s.ra.rollPostponed < 3) && notBefore s.sweepNo ((r + two32 - 160) % two32) then
      let r2 := (r + 2000) % two32
      let s1 := s.onRadio fun x => { x with rollSweep := some r2, rollPostponed := x.rollPostponed + 1, rollConfirmed := [] }
      s1.rollNodes.foldl (fun s n => s.addWork n (s.areaKey n (s.ra.rollEpoch.getD 0) r2)) s1
    else if notBefore s.sweepNo r then
      (s.onRadio fun x => { x with
        keyEpoch := x.rollEpoch.getD x.keyEpoch, rollEpoch := none, rollStage := 0, rollList := [], rollSweep := none, rollConfirmed := [] }).onUpdate
        fun u => { u with keyRollDue := false }
    else s

end Sys2Proof.Machine
end

