-- ==== Sys2Proof/Machine/Sequence.lean ====
section
/-! DEFINITION. Sys2Proof/Machine/Sequence.lean: the sequences of chapter 12 as shared operations: connection, pre-charge,
joining, leaving and disconnecting, their advance on feedback and on every sweep. -/

namespace Sys2Proof.Machine

open Sys2Proof

/-! ### Currents of a whole sweep (11 R289) -/

/-- Largest magnitude of the samples of a channel in the last sweep. -/
def State.peak (s : State) (c : Nat) : Nat := max (s.achan c).min.natAbs (s.achan c).max.natAbs

/-- The samples of IB b in the last sweep, in mA. -/
def State.ibSamples (s : State) (b : Nat) : List Int := match s.acq.ring with | e :: _ => e.2.getD b [] | [] => []

/-- Grid-wise sum of two sample lists. -/
def addLists : List Int → List Int → List Int
  | x :: a, y :: b => (x + y) :: addLists a b
  | [], b => b
  | a, [] => a

/-- Largest magnitude of the sum of the branch currents over the grid instants of the last sweep (11 R289). -/
def State.sumPeak (s : State) : Nat :=
  ((s.cfg.branchList.map s.ibSamples).foldl addLists []).foldl (fun m x => max m x.natAbs) 0

/-- Largest magnitude of the samples of IB b in the last sweep. -/
def State.ibPeak (s : State) (b : Nat) : Nat := (s.ibSamples b).foldl (fun m x => max m x.natAbs) 0

/-! ### Groups and contactors -/

/-- Set a failure bit of a coil: 0 welded, 1 failed to close, 2 discrepant, 3 circuit fault (12 R334). -/
def State.coilFailed (s : State) (k bit : Nat) : State := s.onCoil k fun c => { c with failed := c.failed ||| (2 ^ bit) }

/-- A contactor function acts on its group; none for K12 (12 R321). -/
def State.contactorFn (s : State) (code bit k : Nat) : State :=
  let s1 := s.coilFailed k bit
  if k = 12 then s1 else s1.decideFn code (groupOfK k) k 0

/-! ### Pre-charge bookkeeping (12 R327) -/

/-- Item 0x01 of group 0x02: the start instants within the attempt window and the end of a lockout, in operating time. -/
def State.writePrecharge (s : State) : State :=
  s.writeItem (itemKey 2 1 0) (octetsOf 4 (s.ct.lockout.getD 0) ++ s.ct.attempts.flatMap (octetsOf 4))

/-- K11 is commanded: the pre-charge begins (12 R326, R327). -/
def State.beginPrecharge (s : State) : State :=
  let f := s.ct.first.getD 0
  (s.onCont fun c => { c with
    d0 := s.hv f - s.hv 4
    hv4Start := s.hv 4
    k11At := s.now
    p0Sweep := none
    tauDone := false
    tau := 0
    endRun := 0
    attempts := (s.opTime :: c.attempts).filter fun t => decide (s.opTime < t + s.cfg.pre.window) }).writePrecharge

/-- Note that K11 started its pull-in between two states. -/
def State.noteStart (s old : State) : State :=
  if decide ((s.coil 11).phase = .pullIn) && !decide ((old.coil 11).phase = .pullIn) && decide (s.ct.stage = .preCharging) then
    s.beginPrecharge else s

/-- Pre-charge fault, function 0x24 (12 R326, R327): the lockout begins. -/
def State.prechargeFault (s : State) (why : Int) : State :=
  ((s.onCont fun c => { c with lockout := some (s.opTime + s.cfg.pre.lockout) }).writePrecharge).decideFn 0x24 strGroup 0 why

/-! ### Connection (12 R324, R325) -/

/-- The eligible branches (12 R325): conditions 2, 6 and 7 of R323 hold; one held out by a leave is not eligible
(R602). -/
def State.eligible (s : State) : List Nat :=
  s.cfg.branchList.filter fun b => s.branchClear b && !decide (b ∈ s.ct.heldOut)

/-- The first branch (12 R325). -/
def State.firstBranch (s : State) : Option Nat :=
  let e := s.eligible
  if s.cfg.join.fixedOrder then s.cfg.join.order.find? fun b => decide (b ∈ e)
  else
    let vs := e.map s.hv
    let twice := maxI 0 vs + minI 0 vs
    let dist := fun b => (2 * s.hv b - twice).natAbs
    e.foldl (fun best b => match best with | none => some b | some x => if dist b < dist x then some b else some x) none

/-- The first absent condition for a connection (12 R323): for its first branch, or, where none is eligible, for the
first configured branch. -/
def State.connectCondition (s : State) : Option Nat :=
  match s.firstBranch with
  | some f => s.absentCondition f [f + 5] true
  | none => match s.absentCondition (s.cfg.branchList.headD 0) [s.cfg.branchList.headD 0 + 5] true with
    | some c => some c
    | none => some 6

/-- Begin a connection (12 R324): the first branch and its negative contactor. -/
def State.beginConnect (s : State) : State :=
  match s.firstBranch with
  | none => s
  | some f =>
    s.onCont fun c => { c with
      stage := .closingFirst
      step := 1
      first := some f
      due := [f + 5]
      tau := 0
      autoArmed := false }

/-- The contactors that the present step expects to change. -/
def State.stepOutputs (s : State) : List Nat :=
  match s.ct.stage with
  | .closingFirst | .preCharging | .closingMain => if s.ct.step = 6 then [11] else s.ct.due ++ (allK.filter fun k => s.coilOn k && !(s.coil k).confirmed)
  | _ => s.ct.due ++ (allK.filter fun k => s.coilOn k && !(s.coil k).confirmed)

/-- The branch concerned by a coil-on of the present sequence. -/
def State.stepBranch (s : State) (k : Nat) : Nat := if k ≤ 8 then groupOfK k else s.ct.first.getD 0

/-- The string is connected (12 R324): branch f joins, the others are pending or blocked. -/
def State.connectDone (s : State) : State :=
  let f := s.ct.first.getD 0
  let s1 := s.onCont fun c => { c with stage := .connected, step := 0, due := [], inWindow := {} }
  s1.cfg.branchList.foldl (fun s b => s.setBranch b
    (if b = f then .joined else if s.branchClear b && !decide (b ∈ s.ct.heldOut) then .pending else .blocked)) s1

/-- A contactor's confirmation advances the connection (12 R324). -/
def State.advanceConnect (s : State) (k : Nat) (closed : Bool) : State :=
  let f := s.ct.first.getD 0
  let go := fun (stage : StrState) (step : Nat) (due : List Nat) =>
    s.onCont fun c => { c with stage := stage, step := step, due := due }
  match s.ct.stage, s.ct.step, closed with
  | .closingFirst, 1, true => if k = f + 5 then go .closingFirst 2 [f + 1] else s
  | .closingFirst, 2, true => if k = f + 1 then go .closingFirst 3 [10] else s
  | .closingFirst, 3, true => if k = 10 then go .preCharging 4 [11] else s
  | .closingMain, 5, true => if k = 9 then (s.coilOff 11).onCont fun c => { c with step := 6 } else s
  | .closingMain, 6, false => if k = 11 then s.connectDone else s
  | _, _, _ => s

/-- The branch joining, if any (12 R328). -/
def State.joining (s : State) : Option Nat := s.cfg.branchList.find? fun b => decide (s.branch b = .joining)

/-- A contactor's confirmation advances a join (12 R328). -/
def State.advanceJoin (s : State) (k : Nat) (closed : Bool) : State :=
  match s.joining with
  | none => s
  | some b =>
    if closed && decide (s.ct.joinStep = 1) && decide (k = b + 5) then s.onCont fun c => { c with joinStep := 2, due := [b + 1] }
    else if closed && decide (s.ct.joinStep = 2) && decide (k = b + 1) then
      (s.setBranch b .joined).onCont fun c => { c with joinStep := 0, due := [], inWindow := {} }
    else s

/-- Once K9 and K10 are confirmed open during a disconnect, the branch contactors go off (12 R331). -/
def State.advanceDisconnect (s : State) : State :=
  if decide (s.ct.stage = .disconnecting) && s.ct.mainsOff && s.confirmedOpen 9 && s.confirmedOpen 10 then
    (s.coilsOff [1, 2, 3, 4, 5, 6, 7, 8]).onCont fun c => { c with branches := {} }
  else s

/-! ### Every sweep -/

/-- The pre-charge at a sweep (12 R326). -/
def State.prechargeSweep (s : State) : State :=
  if !(decide (s.ct.stage = .preCharging) && s.coilOn 11 && decide ((s.coil 11).phase ≠ .waiting)) then s
  else
    let f := s.ct.first.getD 0
    let p := s.cfg.pre
    let ew : Rat := max 5000 ((p.endFrac : Rat) / 1000 * (s.hv f : Int))
    let dv : Rat := ((s.hv 4 - s.ct.hv4Start).natAbs : Nat)
    let d0 : Rat := (s.ct.d0.natAbs : Nat)
    let near := decide ((((s.hv f - s.hv 4).natAbs : Nat) : Rat) ≤ ew)
    let small := decide (d0 ≤ ew)
    let sw := s.acq.sweep
    let p0 := match s.ct.p0Sweep with | some x => some x | none => if !small && decide (d0 / 100 ≤ dv) then some sw else none
    let s1 := s.onCont fun c => { c with p0Sweep := p0, endRun := if near || small then min 3 (c.endRun + 1) else 0 }
    if s.rt.conv.running then s1.prechargeFault 1
    else
      let reach := !small && !s.ct.tauDone && p0.isSome && decide (d0 * 632 / 1000 ≤ dv)
      let tau := match p0 with | some x => (sw + two32 - x) % two32 | none => 0
      let s2 := if reach then s1.onCont fun c => { c with tauDone := true, tau := min 65535 tau } else s1
      if reach && !decide (p.tauMin ≤ tau ∧ tau ≤ p.tauMax) then s2.prechargeFault tau
      else if 2 ≤ s2.ct.endRun then s2.onCont fun c => { c with stage := .closingMain, step := 5, due := [9] }
      else s2

/-- Pending branches at a sweep (12 R328): blocked or pending, join windows and hold counts; the lowest that has held
joins, one at a time. -/
def State.joinSweep (s : State) : State :=
  if s.ct.stage ≠ .connected then s
  else
    let s1 := s.cfg.branchList.foldl (fun s b =>
      let x := s.branch b
      if x = .joined ∨ x = .leaving ∨ x = .joining then s
      else
        let y : BrState := if s.branchClear b && !s.bdActive b && !decide (b ∈ s.ct.heldOut) then .pending else .blocked
        let inw := decide (y = .pending) && decide ((s.hv b - s.hv 4).natAbs ≤ s.cfg.join.windowMv)
        (s.setBranch b y).onCont fun c => { c with inWindow := c.inWindow.upd b 0 fun n => if inw then min (n + 1) 1001 else 0 }) s
    if s1.joining.isSome then s1
    else match s1.cfg.branchList.find? fun b => decide (s1.branch b = .pending) && decide (s1.cfg.join.hold ≤ s1.ct.inWindow.get b 0) with
      | some b => (s1.setBranch b .joining).onCont fun c => { c with joinStep := 1, due := [b + 5] }
      | none => s1

/-- The branch that is leaving, if any. -/
def State.leaving (s : State) : Option Nat := s.cfg.branchList.find? fun b => decide (s.branch b = .leaving)

/-- The contactors of a leaving branch go off; it stays blocked, held out by the leave (12 R330). -/
def State.leaveOpen (s : State) (b : Nat) : State :=
  ((s.coilsOff [b + 1, b + 5]).setBranch b .blocked).onCont fun c => { c with leaveAt := none, heldOut := insertN b c.heldOut }

/-- The leaving branch at a sweep (12 R330). -/
def State.leaveSweepEnd (s : State) : State :=
  match s.leaving with
  | some b => if notBefore s.acq.sweep s.ct.leaveSweep && decide (s.ibPeak b ≤ s.cfg.join.leaveMa) then s.leaveOpen b else s
  | none => s

/-- Waiting class C disconnects at a sweep (11 R289), and a disconnect in hand (12 R331): coil-off once the current has
stayed below the break current for one full sweep. -/
def State.breakSweep (s : State) : State :=
  let low := fun (s : State) (w : OpenWait) => notBefore s.acq.sweep w.sinceSweep &&
    decide ((if w.group < 4 then s.ibPeak w.group else s.sumPeak) < s.cfg.timed.breakMa)
  let s1 := (s.pr.waits.filter (low s)).foldl (fun s w => s.breakNow w.group) s
  if s1.ct.discAt.isSome && !s1.ct.mainsOff && notBefore s1.acq.sweep s1.ct.discSweep && decide (s1.sumPeak < s1.cfg.timed.breakMa) then
    s1.mainsOffNow.advanceDisconnect
  else s1

/-- Branch current with the contactors open (12 R321): functions 0x27 and 0x28, over 10 sweeps each. -/
def State.openCurrentSweep (s : State) : State :=
  s.cfg.branchList.foldl (fun s b =>
    let above := qValid (s.achan b).quality && decide ((s.cfg.contSup.openMa : Int) < ((s.ib b).natAbs : Int))
    let both := s.confirmedOpen (b + 1) && s.confirmedOpen (b + 5)
    let c27 := above && both
    let c28 := above && ((both && (s.confirmedOpen 9 || s.confirmedOpen 10)) || (!s.coilOn (b + 1) && !s.coilOn (b + 5)))
    let s1 := s.onCont fun c => { c with
      ibOpenRun := c.ibOpenRun.upd b 0 fun n => if c27 then min 10 (n + 1) else 0
      ibOddRun := c.ibOddRun.upd b 0 fun n => if c28 then min 10 (n + 1) else 0 }
    let s2 := if c27 && decide (10 ≤ s1.ct.ibOpenRun.get b 0) then s1.decideFn 0x27 strGroup b (s.ib b)
      else if c27 then s1 else s1
    if c28 && decide (10 ≤ s2.ct.ibOddRun.get b 0) then s2.decideFn 0x28 b b (s.ib b)
    else if c28 then s2 else s2.evalFn 0x28 b false) s

/-- The joined branches for functions that read currents (12 R601): before the string is connected branch f counts from
the confirmation of its positive contactor on, until its contactors are commanded off. -/
def State.joinedForCurrent (s : State) : List Nat :=
  match s.ct.first with
  | some f =>
    if !decide (s.ct.stage = .opened ∨ s.ct.stage = .connected) && s.confirmedClosed (f + 1) && s.coilOn (f + 1) then insertN f s.joined
    else s.joined
  | none => s.joined

end Sys2Proof.Machine
end

