-- ==== Sys2Proof/Machine/Contact.lean ====
section
/-! DEFINITION. Sys2Proof/Machine/Contact.lean: coils, feedback, and the operations on the string (chapter 12). -/

namespace Sys2Proof.Machine

open Sys2Proof

/-! ### Coils -/

/-- A condition of 12 R323 found absent at a coil-on ends its sequence: a connection, a join, or a request that belongs
to neither. -/
def State.endStep (s : State) (k c : Nat) : State :=
  if s.connecting then s.abortConnection c else match s.joining with
    | some j => s.abortJoin j
    | none => s.coilOff k

/-- A waiting coil starts: the conditions hold at its coil-on too, which is the start of the pull-in (12 R320, R323). -/
def State.serveOne (s : State) (k : Nat) : State :=
  if k = 12 then s.startPullIn 12
  else match s.absentNow (s.stepBranch k) (k :: s.stepOutputs) s.connecting with
    | none => (s.startPullIn k).noteStart s
    | some c => s.endStep k c

/-- Waiting coils start in the order in which they were requested, while the first of them may (12 R316). -/
def serveQueue : List Nat → State → State
  | [], s => s
  | k :: r, s => if k ∉ s.ct.queue then serveQueue r s else if s.mayPullIn k then serveQueue r (s.serveOne k) else s

/-- Serve the waiting coils. -/
def State.serveCoils (s : State) : State := serveQueue s.ct.queue s

/-- A coil-on of the sequence in hand or of K12 (12 R315 to R317, R323): issued at the sweep start at which its step is
due; a condition found absent ends the sequence, the coil supply alone makes the coil wait. -/
def coilOn (k : Nat) (s : State) : State :=
  if k ∉ s.ct.due ∨ !s.leads then s
  else
    let b := s.stepBranch k
    let s1 := s.onCont fun c => { c with due := c.due.filter fun x => !decide (x = k) }
    if k = 12 then s1.coilOnReq 12
    else match s.absentNow b (k :: s.stepOutputs) s.connecting with
      | none => (s1.coilOnReq k).noteStart s1
      | some c => s1.endStep k c

/-- COIL_ON (12 R315). -/
def execCoilOn (t : Nat) (k : Nat) (s : State) : Host.Outcome State Fault Refusal := s.run t (coilOn k)

/-- COIL_BUDGET_AVAILABLE (12 R316): waiting coils start in the order of their requests. -/
def execCoilBudgetAvailable (t : Nat) (s : State) : Host.Outcome State Fault Refusal :=
  s.run t State.serveCoils

/-- COIL_SUPPLY_RECOVERED (12 R317): the coil supply as measured; a waiting coil-on starts. -/
def execCoilSupplyRecovered (t : Nat) (supply : Int) (s : State) : Host.Outcome State Fault Refusal :=
  s.run t fun s =>
    let s1 := s.onAcq fun a => { a with coilSupply := supply }
    let s2 := s1.onCont fun c => { c with lowSupplySince := if (s.cfg.coil.holdMin : Int) ≤ supply then none else c.lowSupplySince }
    s2.serveCoils

/-- COIL_SUPPLY_WAIT_EXPIRY (12 R317, R323): after 500 ms without the supply the step is refused under condition 8, and
the sequence ends. -/
def execCoilSupplyWaitExpiry (t : Nat) (k : Nat) (s : State) : Host.Outcome State Fault Refusal :=
  s.run t fun s =>
    let c := s.coil k
    if c.phase = .waiting ∧ c.supplyWait ∧ c.requestedAt + ms 500 ≤ s.now ∧ !s.supplyOk then
      let s1 := s.coilOff k
      if k = 12 then s1 else s1.endStep k 8
    else s

/-- PULL_IN_END (12 R315): hold with the configured current. -/
def execPullInEnd (t : Nat) (k : Nat) (s : State) : Host.Outcome State Fault Refusal :=
  s.run t fun s =>
    if (s.coil k).phase = .pullIn ∧ (s.coil k).pullAt + ms (s.pullMs k) ≤ s.now then
      s.onCoil k fun c => { c with phase := .hold, currentMa := s.holdMa k }
    else s

/-- COIL_OFF (12 R315, R316): never delayed. -/
def execCoilOff (t : Nat) (k : Nat) (s : State) : Host.Outcome State Fault Refusal := s.run t fun s => s.coilOff k

/-- COIL_SUPPLY_LOW (12 R317): below the hold minimum for 20 ms with a coil in hold, function 0x26. -/
def execCoilSupplyLow (t : Nat) (supply : Int) (s : State) : Host.Outcome State Fault Refusal :=
  s.run t fun s =>
    let low := decide (supply < (s.cfg.coil.holdMin : Int)) && allK.any fun k => decide ((s.coil k).phase = .hold)
    let s1 := (s.onAcq fun a => { a with coilSupply := supply }).onCont fun c => { c with lowSupplySince := since s.now low c.lowSupplySince }
    if low && s1.heldFor s1.ct.lowSupplySince (ms 20) then s1.decideFn 0x26 strGroup 0 supply else s1

/-- COIL_CIRCUIT_FAULT (12 R318): open-circuit by the coil current, or a cut-out of the driver above 10 A (`peak`), which has then
turned off; function 0x23. -/
def execCoilCircuitFault (t : Nat) (k current peak : Nat) (s : State) : Host.Outcome State Fault Refusal :=
  s.run t fun s =>
    let cutOut := decide (10000 < max current peak)
    let on := s.coilOn k && decide ((s.coil k).phase ≠ .waiting)
    let s1 := s.onCoil k fun c => if on then { c with currentMa := current } else c
    let full : Nat := if s.acq.coilSupply ≤ 0 then 0 else 1000000 * s.pullW k / s.acq.coilSupply.toNat
    let openC := match (s.coil k).phase with
      | .pullIn => decide ((s.coil k).commandAt + ms (s.pullMs k) ≤ s.now) && decide (5 * current < full)
      | .hold => decide (2 * current < s.holdMa k)
      | _ => false
    if on && (cutOut || openC) then (if cutOut then s1.coilOff k else s1).contactorFn 0x23 3 k else s1

/-! ### Feedback -/

/-- The start check (12 R322): once every used output's feedback is accepted, a contactor not confirmed open raises
function 0x20; one that the partner's heartbeat shows commanded on is exempt. -/
def State.startFeedbackCheck (s : State) : State :=
  if s.ct.fbChecked || !(allK.all fun k => !s.usedK k || (s.coil k).accepted.isSome) then s
  else
    let exempt := fun k => s.isTwin && decide ((List.range 3).any fun p => !(s.path p).lost) && s.tw.partnerCoils.testBit (k - 1)
    let s1 := s.onCont fun c => { c with fbChecked := true }
    (allK.foldl (fun s k => if s.usedK k && !exempt k && !s.confirmedOpen k && !s.coilOn k then s.contactorFn 0x20 0 k else s) s1).serveCoils

/-- The mirror contacts as sampled in a sweep (12 R319): the state read, and the consecutive sweeps in it. -/
def State.mirrorSweep (s : State) (reads : List Bool) : State :=
  s.onCont fun c => { c with coils := allK.foldl (fun tb k => match reads[k - 1]? with
    | some m => tb.upd k {} fun x => { x with mirrorClosed := m, mirrorRun := if m = x.mirrorClosed then min 20 (x.mirrorRun + 1) else 1 }
    | none => tb.upd k {} fun x => { x with mirrorRun := min 20 (x.mirrorRun + 1) }) c.coils }

/-- FEEDBACK_ACCEPTED (12 R319 to R324, R328, R331; 25 R578): a state read in the debounce number of consecutive sweeps is accepted where it is not
yet; it confirms the contactor, advances the sequence, or contradicts a coil that was confirmed. An unused output is not evaluated; the command names
the state to accept. -/
def feedbackAccepted (k : Nat) (closed : Bool) (s : State) : State :=
  let c := s.coil k
  if !s.usedK k ∨ k = 0 ∨ c.mirrorRun < max 1 s.cfg.contSup.debounce ∨ c.mirrorClosed ≠ closed ∨ c.accepted = some closed then s
  else
    let on := s.coilOn k && decide (c.phase ≠ .waiting)
    let agrees := decide (closed = !on)
    let s1 := s.onCoil k fun c => { c with accepted := some closed, confirmed := c.confirmed || agrees }
    let wrong := c.confirmed && !agrees && decide (c.phase ≠ .pullIn)
    let s2 := if wrong then s1.contactorFn 0x22 2 k else s1
    let s3 := if agrees then (s2.advanceConnect k on).advanceJoin k on else s2
    s3.advanceDisconnect.startFeedbackCheck

/-- FEEDBACK_ACCEPTED (12 R319). -/
def execFeedbackAccepted (t : Nat) (k : Nat) (closed : Bool) (s : State) : Host.Outcome State Fault Refusal := s.run t (feedbackAccepted k closed)

/-- CLOSE_LIMIT_EXPIRY (12 R320, R321): function 0x21. -/
def execCloseLimitExpiry (t : Nat) (k : Nat) (s : State) : Host.Outcome State Fault Refusal :=
  s.run t fun s =>
    let c := s.coil k
    if (c.phase = .pullIn ∨ c.phase = .hold) ∧ c.commandAt + ms s.cfg.contSup.closeMs ≤ s.now ∧ !s.confirmedClosed k then
      s.contactorFn 0x21 1 k
    else s

/-- DROP_OUT_LIMIT_EXPIRY (12 R320, R321): function 0x20. -/
def execDropOutLimitExpiry (t : Nat) (k : Nat) (s : State) : Host.Outcome State Fault Refusal :=
  s.run t fun s =>
    let c := s.coil k
    if s.usedK k ∧ c.phase = .off ∧ c.accepted.isSome ∧ c.commandAt + ms s.cfg.contSup.dropMs ≤ s.now ∧ !s.confirmedOpen k then
      s.contactorFn 0x20 0 k
    else s

/-! ### Pre-charge and auto-connect -/

/-- PRECHARGE_TIME_LIMIT_EXPIRY (12 R326): not complete within the time limit from the K11 command, or no P0 within
100 ms of it. -/
def execPrechargeTimeLimitExpiry (t : Nat) (s : State) : Host.Outcome State Fault Refusal :=
  s.run t fun s =>
    let f := s.ct.first.getD 0
    let small := decide (((s.ct.d0.natAbs : Nat) : Rat) ≤ max 5000 ((s.cfg.pre.endFrac : Rat) / 1000 * (s.hv f : Int)))
    if decide (s.ct.stage = .preCharging) && s.coilOn 11 && decide ((s.coil 11).phase ≠ .waiting) &&
        (decide (s.ct.k11At + ms s.cfg.pre.limitMs ≤ s.now) ||
         (s.ct.p0Sweep.isNone && !small && decide (s.ct.k11At + ms 100 ≤ s.now))) then
      s.prechargeFault 0
    else s

/-- PRECHARGE_LOCKOUT_EXPIRY (12 R327): in operating time; function 0x24 resets. -/
def execPrechargeLockoutExpiry (t : Nat) (s : State) : Host.Outcome State Fault Refusal :=
  s.run t fun s =>
    match s.ct.lockout with
    | some e =>
      if e ≤ s.opTime then
        let s1 := (s.onCont fun c => { c with lockout := none }).writePrecharge
        if (s1.fn 0x24 strGroup).isSome then s1.resetFn 0x24 strGroup else s1
      else s
    | none => s

/-- A connect that would exceed the attempt limit raises function 0x25 (12 R327). -/
def State.attemptsFull (s : State) : Bool := decide (s.cfg.pre.attempts ≤ s.preAttempts)

/-- AUTO_CONNECT (12 R324): armed, the connection begins at the first sweep start at which R323 holds. -/
def execAutoConnect (t : Nat) (s : State) : Host.Outcome State Fault Refusal :=
  s.run t fun s =>
    if s.ct.autoArmed && s.leads && decide (s.ct.stage = .opened) && s.connectCondition.isNone then
      (if s.attemptsFull then (s.onCont fun c => { c with autoArmed := false }).decideFn 0x25 strGroup 0 s.preAttempts
       else s.beginConnect)
    else s

/-- LEAVE_WAIT_EXPIRY (12 R330): at or below the leave break limit the branch opens, else the leave is abandoned. -/
def execLeaveWaitExpiry (t : Nat) (s : State) : Host.Outcome State Fault Refusal :=
  s.run t fun s =>
    match s.leaving with
    | some b =>
      if s.heldFor s.ct.leaveAt (ms s.cfg.join.leaveMs) then
        (if s.ibPeak b ≤ s.cfg.join.leaveBreakMa then s.leaveOpen b
         else ((s.setBranch b .joined).onCont fun c => { c with leaveAt := none }).record .leaveAbandoned b (octetsOf 4 (s.ibPeak b)))
      else s
    | none => s

/-! ### Operations at the string (15 R395, 12 R602) -/

/-- A sequence is in hand (12 R332, R602): a connection, a join in progress, a leave or a disconnect. -/
def State.sequenceInHand (s : State) : Bool :=
  s.connecting || s.joining.isSome || s.leaving.isSome || decide (s.ct.stage = .disconnecting)

/-- The result frame of an operation (15 R395). -/
def State.sendResult (s : State) (r : Nat × Nat × Nat × Nat) : State :=
  s.dispatchSend .operationResult 0 6 s.seenEpoch (octetsOf 4 r.1 ++ [r.2.1, r.2.2.1, 0, 0] ++ octetsOf 4 r.2.2.2)

/-- An operation frame at the string leader (15 R380, R395): each identifier is executed once; a repeated one is answered with
the stored result, one first received after its start deadline with REFUSED, reason 11. `body` answers state, status,
reason, and whether a sequence began. -/
def State.operation (s : State) (o : OpFrame) (body : State → State × Nat × Nat × Bool) : State :=
  if !s.leads || !s.netOn then s
  else if !hdrGood o.hdr then s.badDispatch
  else
    let s := (s.received o.hdr.port).acceptedDispatch o.hdr
    match s.ct.done.find? fun d => decide (d.1 = o.ident) with
    | some d => s.sendResult d
    | none =>
      let (s1, st, rs, began) := if laterThan s.sweepNo o.deadline then (s, stRefused, 11, false)
        else if 4 ≤ o.branch ∧ o.hasBranch then (s, stInvalid, 0, false)
        else if o.hasBranch && !s.cfg.hasBranch o.branch then (s, stInvalid, 0, false)
        else body s
      let d := (o.ident, st, rs, if began then s.sweepNo else 0)
      (s1.onCont fun c => { c with done := d :: c.done }).sendResult d

/-- What a connect gives at the string (12 R602, R323 to R327). -/
def connectAt (s : State) : State × Nat × Nat × Bool :=
  if s.sequenceInHand then (s, stBusy, 3, false)
  else if s.ct.stage = .connected then (s, stDone, 0, false)
  else match s.connectCondition with
    | some c => (s, stRefused, c, false)
    | none =>
      if s.attemptsFull then (s.decideFn 0x25 strGroup 0 s.preAttempts, stRefused, 2, false)
      else (s.beginConnect, stStarted, 0, true)

/-- CONNECT_OPERATION (12 R602, R324). -/
def execConnectOperation (t : Nat) (o : OpFrame) (s : State) : Host.Outcome State Fault Refusal :=
  s.run t fun s => s.operation o connectAt

/-- DISCONNECT_OPERATION (12 R331, R602): an open string is answered DONE, else the order of R331 runs and ends any
sequence in hand; an accepted disconnect ends auto-connect (R324). -/
def execDisconnectOperation (t : Nat) (o : OpFrame) (s : State) : Host.Outcome State Fault Refusal :=
  s.run t fun s => s.operation o fun s =>
    let s1 := s.onCont fun c => { c with autoArmed := false }
    if decide (s.ct.stage = .opened) && s.allOpen then (s1, stDone, 0, false)
    else (s1.beginDisconnect, stStarted, 0, true)

/-- What a join gives at the string (12 R602). -/
def joinAt (b : Nat) (s : State) : State × Nat × Nat × Bool :=
  if s.sequenceInHand then (s, stBusy, 3, false)
  else
    let free := s.onCont fun c => { c with heldOut := c.heldOut.filter fun x => !decide (x = b) }
    if s.ct.stage ≠ .connected then (free, stDone, 0, false)
    else if s.branch b = .joined ∨ s.branch b = .pending then (s, stDone, 0, false)
    else if !s.noLatch b then (s, stRefused, 2, false)
    else if !s.nodesReady b then (s, stRefused, 6, false)
    else if !s.hvValid b then (s, stRefused, 7, false)
    else (free.setBranch b .pending, stStarted, 0, true)

/-- JOIN_BRANCH_OPERATION (12 R602, R328). -/
def execJoinBranchOperation (t : Nat) (o : OpFrame) (s : State) : Host.Outcome State Fault Refusal :=
  s.run t fun s => s.operation { o with hasBranch := true } (joinAt o.branch)

/-- What a leave gives at the string (12 R602, R330). -/
def leaveAt (b : Nat) (s : State) : State × Nat × Nat × Bool :=
  if s.sequenceInHand then (s, stBusy, 3, false)
  else if s.ct.stage = .connected ∧ s.branch b = .joined then
    if s.joined.length ≤ 1 then (s, stBusy, 5, false)
    else ((s.setBranch b .leaving).onCont fun c => { c with leaveAt := some s.now, leaveSweep := s.sweepNo + 1 }, stStarted, 0, true)
  else
    let s1 := s.onCont fun c => { c with heldOut := insertN b c.heldOut }
    (if s.ct.stage = .connected then s1.setBranch b .blocked else s1, stDone, 0, false)

/-- LEAVE_BRANCH_OPERATION (12 R330, R602). -/
def execLeaveBranchOperation (t : Nat) (o : OpFrame) (s : State) : Host.Outcome State Fault Refusal :=
  s.run t fun s => s.operation { o with hasBranch := true } (leaveAt o.branch)

end Sys2Proof.Machine
end

