-- ==== Sys2Proof/Machine/Acquire.lean ====
section
/-! DEFINITION. Sys2Proof/Machine/Acquire.lean: synchronous acquisition (chapter 05): the module's channels per sweep, the
cross-checks, the spare self-test, the calibration commands, and the safety-change authorisation (13 R351, R352). -/

namespace Sys2Proof.Machine

open Sys2Proof

/-! ### Safety-change authorisation (13 R351, R352) -/

/-- The octets of a log entry (13 R352). -/
def LogEntry.bytes (e : LogEntry) : List Nat :=
  enc [fN 4 e.seq, fN 6 e.time, fN 1 e.op, fN 1 e.result, fN 1 e.port, fN 3 0, fN 4 e.counter, fN 8 e.before, fN 8 e.after, fN 4 0]

/-- Write an entry of the safety change log, newest first and at most 64: item 0x02 of group 0x07, the log entry record,
and the recorder's event (13 R352). -/
def State.logSafety (s : State) (op result port counter before after : Nat) : State :=
  let e : LogEntry :=
    { seq := s.sf.logSeq, time := s.th.reading / 1000000000, op := op, result := result, port := port
      counter := counter, before := before, after := if result = 0 then after else before }
  let s1 := s.onSafety fun f => { f with log := (e :: f.log).take 64, logSeq := wrapInc f.logSeq }
  let s2 := s1.writeItem (itemKey 7 2 0) (s1.sf.log.flatMap LogEntry.bytes)
  (s2.publish 0x07003000 e.bytes).record .safetyChange op e.bytes

/-- The safety hash of the running configuration (13 R350). -/
def State.safetyHash (s : State) : Nat := (s.pg.running.map fun h => h.safetyHash).getD 0

/-- Check an authorisation (13 R351): result 0 accepted and the counter advances; 1 wrong, 2 counter wrong, 3 locked out.
The third rejection within 600 s starts a lockout of 1 800 s. -/
def State.authorise (s : State) (op : Nat) (a : AuthIn) (after : Nat) : State × Nat :=
  let before := s.safetyHash
  if s.authLocked then (s.logSafety op 3 a.port a.counter before after, 3)
  else
    let r := if a.counter ≠ wrapInc s.sf.counter then 2 else if a.ok then 0 else 1
    if r = 0 then
      ((s.onSafety fun f => { f with counter := wrapInc f.counter }).logSafety op 0 a.port a.counter before after, 0)
    else
      let recent := s.now :: s.sf.rejects.filter fun t => decide (s.now < t + sec 600)
      let s1 := s.onSafety fun f => { f with
        rejects := recent
        lockUntil := if 3 ≤ recent.length then some (s.now + sec 1800) else f.lockUntil }
      (s1.logSafety op r a.port a.counter before after, r)

/-- AUTHORISATION_LOCKOUT_EXPIRY (13 R351). -/
def execAuthorisationLockoutExpiry (t : Nat) (s : State) : Host.Outcome State Fault Refusal :=
  s.run t fun s =>
    if s.due s.sf.lockUntil then s.onSafety fun f => { f with lockUntil := none, rejects := [] } else s

/-! ### Module channels -/

/-- A group's channel that its spare delivers in a sweep (05 R144): from sweep n + 1 of the swap, or a faulty channel. -/
def State.onSpare (s : State) (sweep c : Nat) : Bool :=
  let during : Option Nat → Bool := fun o => match o with | some n => laterThan sweep n | none => false
  if c < 4 then decide (c ∈ s.acq.faulty) || (during s.acq.swapIb && decide (s.acq.testIb = c))
  else if 5 ≤ c then decide (c ∈ s.acq.faulty) || (during s.acq.swapHv && decide (s.acq.testHv + 5 = c))
  else false

/-- Channel positions 0 to 10 of 05 R132 as converter paths and calibration entries; a channel on its spare takes the entry of IBX (11) or
HVX (12) (05 R144, R146). -/
def State.calEntry (s : State) (sweep c : Nat) : Nat := if s.onSpare sweep c then (if c < 4 then 11 else 12) else c

/-- The input of a converter path from a sample (05 R146; log 21): offset taken out, gain correction and its temperature compensation
applied. In nV, µV or mV. -/
def State.pathInput (s : State) (e : Nat) (raw : Rat) : Rat :=
  (raw - ((s.acq.applied.offset.get e 0 : Int) : Rat)) * (1 + ((s.acq.applied.gain.get e 0 + s.acq.compGain.get e 0 : Int) : Rat) / 1000000000)

/-- The value of a channel in its unit (05 R130): IB, less its running offset (05 R143), by the shunt resistance, IS by sensitivity, offset and
direction of record 0x0302, both in mA; HV in mV. -/
def State.chanUnit (s : State) (sweep c : Nat) (raw : Int) : Rat :=
  let x := s.pathInput (s.calEntry sweep c) (raw : Rat)
  if c < 4 then (x - ((s.acq.offsets.get c 0 : Int) : Rat)) * 1000 / (s.cfg.shunts.rNano.getD c 0 : Rat)
  else if c = 4 then
    let v := (x - (s.cfg.hall.offset : Rat)) * 1000 / (s.cfg.hall.sens : Rat)
    if s.cfg.hall.inverted then -v else v
  else x

/-- Full scale of a channel at the input (05 R131): 150 mV, 10 V, 2 000 V. -/
def fullScale (c : Nat) : Int := if c < 4 then 150000000 else if c = 4 then 10000000 else 2000000

/-- A channel has no measurement (05 R134): unused, without a converter, or IS without its supply. -/
def State.chanMissing (s : State) (c : Nat) : Bool :=
  if c < 4 then !s.cfg.hasBranch c || (decide (c ∈ s.acq.faulty) && s.acq.spareFaultIb)
  else if c = 4 then s.acq.hallLost
  else (decide (c < 9) && !s.cfg.hasBranch (c - 5)) || (decide (c ∈ s.acq.faulty) && s.acq.spareFaultHv)

/-- The values of one channel in the sweep that ends (05 R130, R134). -/
def State.chanValue (s : State) (sweep c : Nat) (raws : List Int) : ChanValue :=
  if s.chanMissing c || raws.isEmpty then {}
  else
    let range := raws.any fun r => decide (fullScale c ≤ (r.natAbs : Int))
    let vs := raws.map (s.chanUnit sweep c)
    let lo := vs.foldl min (vs.getD 0 0)
    let hi := vs.foldl max (vs.getD 0 0)
    let avg := sumR vs / (vs.length : Rat)
    { avg := clampS 32 (roundOpen 3 avg), min := clampS 32 (roundOpen 3 lo), max := clampS 32 (roundOpen 3 hi)
      quality := mkQuality true false false false false false false (range || [roundOpen 3 avg, roundOpen 3 lo, roundOpen 3 hi].any (overS 32)) }

/-- Hall sensor supply (25 R576): lost at once, back after 100 consecutive sweeps within tolerance. -/
def State.hallSweep (s : State) (ok : Bool) : State :=
  if ok then
    s.onAcq fun a => { a with hallOkRun := min 100 (a.hallOkRun + 1), hallLost := a.hallLost && decide (a.hallOkRun + 1 < 100) }
  else
    let s1 := s.onAcq fun a => { a with hallLost := true, hallOkRun := 0 }
    if s.acq.hallLost then s1 else s1.record .hallLost 0 []

/-- The current of the string as the shunts give it, averages of the last sweep (05 R145, 19 R466). -/
def State.ibSumAbs (s : State) : Nat := s.ibSum.natAbs

/-- A Run request in Watch (19 R466): a later one does not move the first. -/
def State.requestRun (s : State) : State :=
  if s.pw.state = .watch then s.onPower fun p => { p with runRequestAt := some (p.runRequestAt.getD s.now) } else s

/-- Conditions the string's current starts and ends in a sweep: zero current for the IS test (05 R145), rest for Sage
(06 R163), the Run request (19 R466). -/
def State.currentSweep (s : State) : State :=
  let i := s.ibSumAbs
  let s1 := s.onAcq fun a => { a with zeroSince := since s.now (decide (i < 2000)) a.zeroSince }
  let s2 := s1.onSage fun g => { g with
    ibLow := (List.range 4).foldl (fun (tb : Table (Option Nat)) b => tb.put b none (since s.now (decide ((s.ib b).natAbs < 2000)) (tb.get b none))) g.ibLow
    restSince := since s.now (decide (i < s.cfg.est.restMa)) g.restSince }
  let over_ := decide (s.cfg.power.watchCurrent < i)
  let s3 := s2.onPower fun p => { p with overCurrentRun := if over_ then min 2 (p.overCurrentRun + 1) else 0 }
  if 2 ≤ s3.pw.overCurrentRun then s3.requestRun else s3

/-- Sums of the windows of 10 sweeps for the current cross-check (05 R142), while branches are joined and IS and their IB
are valid. -/
def State.crossSweep (s : State) : State :=
  let js := s.joinedForCurrent
  if js.isEmpty then s.onAcq fun a => { a with xCount := 0, xSumIs := 0, xSumIb := 0 }
  else if !qValid (s.achan 4).quality || js.any (fun b => !qValid (s.achan b).quality) then s
  else s.onAcq fun a => { a with
    xCount := min 10 (a.xCount + 1)
    xSumIs := a.xSumIs + (s.achan 4).avg
    xSumIb := a.xSumIb + sumI (js.map s.ib) }

/-- The comparison of sweep n of a swap (05 R144): spare and channel on the same input differ by at most twice the accuracy of 05 R131. -/
def State.spareAgrees (s : State) (hv : Bool) (x : SweepIn) : Bool :=
  let c := if hv then 5 + s.acq.testHv else s.acq.testIb
  let e := if hv then 12 else 11
  let avg : Nat → Rat := fun p => avgR ((x.samples.getD p []).map fun r => s.pathInput p (r : Rat))
  let acc := if c < 4 then absR (avg c) / 2000 + 3000 else if c = 10 then absR (avg c) / 200 + 1000 else absR (avg c) / 1000 + 200
  (x.samples.getD c []).isEmpty || (x.samples.getD e []).isEmpty || decide (absR (avg e - avg c) ≤ 2 * acc)

/-- What a sweep gives the module's own tests (05 R143, R144, R149): the comparison of a swap that begins with it, the run of sweeps with a
branch's contactors confirmed open, and the point being captured. -/
def State.testSweep (s : State) (n : Nat) (x : SweepIn) : State :=
  s.onAcq fun a => { a with
    cmpHv := if a.swapHv = some n then s.spareAgrees true x else a.cmpHv
    cmpIb := if a.swapIb = some n then s.spareAgrees false x else a.cmpIb
    openRun := (List.range 4).foldl (fun (tb : Table Nat) b =>
      tb.upd b 0 fun r => if s.confirmedOpen (b + 1) && s.confirmedOpen (b + 5) then min 1000 (r + 1) else 0) a.openRun
    calSweeps := match a.calCapture with
      | some p =>
        let raws := x.samples.getD (a.calPoints.getD p (0, 0)).1 []
        if raws.isEmpty ∨ 2000 ≤ a.calSweeps.length then a.calSweeps else avgR (raws.map fun r => (r : Rat)) :: a.calSweeps
      | none => [] }

/-- What the module's own channels give at a sweep end (05 R130 to R132, R134, R143; 25 R576). -/
def State.acquireSweep (s : State) (x : SweepIn) : State :=
  let n := (s.sweepAbs + two32 - 1) % two32
  let s1 := s.hallSweep x.hallOk
  let vals := (List.range 11).map fun c => s1.chanValue n c (x.samples.getD (s1.calEntry n c) [])
  let wave := (List.range 5).map fun c =>
    if s1.chanMissing c then [] else (x.samples.getD (s1.calEntry n c) []).map fun r => roundOpen 3 (s1.chanUnit n c r)
  let hv4 := vals.getD 9 {}
  let s2 := s1.onAcq fun a => { a with
    sweep := n
    chans := (List.range 11).foldl (fun t c => t.put c {} (vals.getD c {})) a.chans
    lastHv4 := if qValid hv4.quality then some (n, hv4.avg) else a.lastHv4
    ring := ((n, wave) :: a.ring).take 10000
    hist := ((n, vals) :: a.hist).take 10100
    coilSupply := x.supply }
  ((s2.publish 0x01010000 s2.sweepRecord).sample 14 x.supply).currentSweep.crossSweep.testSweep n x

/-- The channel value of a recent sweep. -/
def State.chanAt (s : State) (sweep c : Nat) : ChanValue :=
  match s.acq.hist.find? fun e => decide (e.1 = sweep) with
  | some e => e.2.getD c {}
  | none => {}

/-! ### Cross-checks -/

/-- BRANCH_VOLTAGE_CROSS_CHECK (05 R141, 11 R304): a used window of 100 sweeps is compared with the tolerance; a window
that is not usable is skipped and counted. -/
def branchCheck (b : Nat) (s : State) : State :=
  let w := s.acq.mismatch.get b {}
  if w.count < 100 then s
  else if !w.usable then
    s.onAcq fun a => { a with mismatch := a.mismatch.put b {} { w with
      count := 0, usable := true, sumCells := 0, sumHv := 0, sumIb := 0, skipped := wrapInc w.skipped } }
  else
    let hv : Rat := (w.sumHv : Rat) / 100
    let expected : Rat := (w.sumCells : Rat) / 100000 - (w.sumIb : Rat) / 100 * (s.cfg.rconn.getD b 0 : Rat) / 1000000
    let mism := absR (hv - expected)
    let tol : Rat := (s.cfg.cross.vShare : Rat) / 10000 * absR hv + (s.cfg.cross.vFixed : Rat)
    let beyond := decide (tol < mism)
    let trip := decide ((s.cfg.timed.mismatch : Rat) / 10 * tol < mism)
    let need := s.cfg.cross.vWindows
    let ovr := if beyond then min 127 (w.overRun + 1) else 0
    let und := if beyond then 0 else min 127 (w.underRun + 1)
    let set := !w.reported && decide (need ≤ ovr)
    let clr := w.reported && decide (need ≤ und)
    let s1 := s.onAcq fun a => { a with mismatch := a.mismatch.put b {} { w with
      count := 0, usable := true, sumCells := 0, sumHv := 0, sumIb := 0, overRun := ovr, underRun := und
      reported := (w.reported || set) && !clr, tripOver := some trip } }
    let v := roundOpen 4 mism
    let s2 := if set then (s1.record .branchMismatch b (octetsOf 4 (wrapInt 4 v))).decideFn 0x18 b b v
      else if clr then s1.evalFn 0x18 b false else s1
    s2.evalFn 0x14 b trip

/-- BRANCH_VOLTAGE_CROSS_CHECK (05 R141). -/
def execBranchVoltageCrossCheck (t : Nat) (b : Fin 4) (s : State) : Host.Outcome State Fault Refusal := s.run t (branchCheck b.val)

/-- CURRENT_CROSS_CHECK (05 R142): a window of 10 sweeps. -/
def execCurrentCrossCheck (t : Nat) (s : State) : Host.Outcome State Fault Refusal :=
  s.run t fun s =>
    let a := s.acq
    if a.xCount < 10 then s
    else
      let is : Rat := (a.xSumIs : Rat) / 10
      let diff := absR (is - (a.xSumIb : Rat) / 10)
      let beyond := decide ((s.cfg.cross.iShare : Rat) / 10000 * absR is + (s.cfg.cross.iFixed : Rat) < diff)
      let n := if beyond then min 127 (a.xRun + 1) else 0
      let now := decide (s.cfg.cross.iWindows ≤ n)
      let s1 := s.onAcq fun a => { a with xCount := 0, xSumIs := 0, xSumIb := 0, xRun := n, xReported := now }
      let v := roundOpen 4 diff
      if now && !a.xReported then (s1.record .currentMismatch 0 (octetsOf 4 (wrapInt 4 v))).decideFn 0x17 strGroup 0 v
      else s1.evalFn 0x17 strGroup now

/-- SHUNT_OFFSET_UPDATE (05 R143): the average of IB over 1 000 sweeps, in each of which both contactors of the branch were confirmed open,
joins the running offset, while that stays within the equivalent of 5 µV; the next average begins after it. -/
def execShuntOffsetUpdate (t : Nat) (b : Fin 4) (s : State) : Host.Outcome State Fault Refusal :=
  s.run t fun s =>
    let sw := s.acq.ring.take 1000
    if !(s.confirmedOpen (b.val + 1) && s.confirmedOpen (b.val + 5)) || s.acq.openRun.get b.val 0 < 1000 then s
    else
      let s := s.onAcq fun a => { a with openRun := a.openRun.put b.val 0 0 }
      let avg := meanR (sw.flatMap fun e => e.2.getD b.val [])
      let nv := roundOpen 5 (((s.acq.offsets.get b.val 0 : Int) : Rat) + avg * (s.cfg.shunts.rNano.getD b.val 0 : Rat) / 1000)
      if nv.natAbs ≤ 5000 then s.onAcq fun a => { a with offsets := a.offsets.put b.val 0 nv }
      else s.record .shuntOffset b.val (octetsOf 4 (wrapInt 4 nv))

/-! ### Self-tests -/

/-- Defer a self-test (23 R556). -/
def State.deferTest (s : State) (task reason : Nat) : State :=
  (s.record .selfTestDeferred task [reason]).onDill fun d => { d with deferred := insertN task d.deferred }

/-- A self-test task completes: its bit falls (23 R556). -/
def State.testDone (s : State) (task : Nat) : State :=
  s.onDill fun d => { d with deferred := d.deferred.filter fun x => !decide (x = task) }

/-- The channel under test of a group. -/
def State.testChan (s : State) (hv : Bool) : Nat := if hv then 5 + s.acq.testHv else s.acq.testIb

/-- The spare of a group is at fault, or carries a faulty channel. -/
def State.spareBusy (s : State) (hv : Bool) : Bool :=
  s.acq.faulty.any fun c => if hv then decide (5 ≤ c) else decide (c < 4)

/-- SPARE_SELF_TEST_STEP (05 R144): a swap begins with sweep n; 101 sweeps later the channel resumes, and a comparison out of bounds is judged by
the reference points: passed, the spare is faulty; failed, the channel is. With no spare path the test is deferred to Watch, where it runs on the
channel itself (06 R181). -/
def spareStep (hv pointsOk : Bool) (s : State) : State :=
  let task := if hv then 1 else 2
  let bad := (if hv then s.acq.spareFaultHv else s.acq.spareFaultIb) || s.spareBusy hv
  let since_ := if hv then s.acq.swapHv else s.acq.swapIb
  let c := s.testChan hv
  let next : State → State := fun s => s.onAcq fun a =>
    if hv then { a with swapHv := none, testHv := (a.testHv + 1) % 6 } else { a with swapIb := none, testIb := (a.testIb + 1) % 4 }
  let failed : State → State := fun s => ((s.onAcq fun a => { a with faulty := insertN c a.faulty }).record .channelFault c []).testDone task
  if bad then
    if s.pw.state ≠ .watch then (if task ∈ s.dl.deferred then s else s.deferTest task 1)
    else if decide (c ∈ s.acq.faulty) || pointsOk then (next s).testDone task
    else failed (next s)
  else match since_ with
    | none =>
      s.onAcq fun a => if hv then { a with swapHv := some s.sweepNo, cmpHv := true } else { a with swapIb := some s.sweepNo, cmpIb := true }
    | some n =>
      if !notBefore s.sweepNo ((n + 101) % two32) then s
      else if if hv then s.acq.cmpHv else s.acq.cmpIb then (next s).testDone task
      else if pointsOk then
        let s2 := (next s).onAcq fun a => if hv then { a with spareFaultHv := true } else { a with spareFaultIb := true }
        (s2.record .spareFault task []).deferTest task 1
      else failed (next s)

/-- SPARE_SELF_TEST_STEP (05 R144). -/
def execSpareSelfTestStep (t : Nat) (hv zeroOk refsOk : Bool) (s : State) : Host.Outcome State Fault Refusal :=
  s.run t (spareStep hv (zeroOk && refsOk))

/-- IS_OFFSET_TEST (05 R145, 23 R556): in a zero-current interval it runs; after 24 h of Run without one it is deferred. -/
def execIsOffsetTest (t : Nat) (s : State) : Host.Outcome State Fault Refusal :=
  s.run t fun s =>
    if s.heldFor s.acq.zeroSince (sec 1) then
      (s.onAcq fun a => { a with runNs := 0, lastIsTest := s.now }).testDone 3
    else if sec 86400 ≤ s.acq.runNs then
      (s.onAcq fun a => { a with runNs := 0, lastIsTest := s.now }).deferTest 3 2
    else s

/-! ### Calibration commands -/

/-- What a point not yet captured reads as: a noise beyond its 32 bits. -/
def notCaptured : Int × Nat := (0, two32)

/-- The conditions of a field recalibration (05 R148). -/
def State.calAllowed (s : State) (m : Maint) : Bool :=
  s.pw.serviceEnable && decide (m.key = 8) && decide (s.pw.state = .watch) &&
    ((List.range 12).all fun i => !s.coilOn (i + 1) && (!s.usedK (i + 1) || s.confirmedOpen (i + 1)))

/-- The answer BUSY with a reason code that the spec does not number (05 R148; log 20). -/
def busyFree (s : State) : State × Nat × Nat × List Nat :=
  let r := s.freshNat
  (r.2, stBusy, r.1 % 256, [])

/-- The points of a channel entry (05 R149 step 3), in its offset unit. -/
def pointsOf (e : Nat) : List (Nat × Int) :=
  let top : Int := if e < 4 ∨ e = 11 then 120000000 else if e = 4 then 8000000 else 1000000
  [(e, 0), (e, top)]

/-- The noise of a sweep average in the offset unit (05 R131). -/
def noiseOf (e : Nat) : Nat := if e < 4 ∨ e = 11 then 500 else if e = 4 then 200 else if e = 10 then 50 else 20

/-- The offset accuracy in the offset unit (05 R131). -/
def accuracyOf (e : Nat) : Nat := if e < 4 ∨ e = 11 then 3000 else if e = 4 then 1000 else if e = 10 then 1000 else 200

/-- The calibration points record (24 R565). -/
def State.pointsRecord (s : State) : List Nat :=
  s.body ([fN 2 (s.acq.calMask.getD 0), fN 1 s.acq.calPoints.length, fQ qGood] ++
    s.acq.calPoints.flatMap fun p => [fN 1 p.1, fN 1 0, (4, p.2)])

/-- The calibration information record (24 R565). -/
def State.calRecord (s : State) : List Nat :=
  enc ([fN 2 0xCA1B, fN 1 1, fN 1 s.acq.cal.origin, fN 6 s.acq.cal.date] ++ fL ((s.acq.cal.reference ++ List.replicate 8 0).take 8) ++
    [fN 2 s.acq.cal.fieldMask, fQ (qIf s.acq.cal.valid), fN 3 0])

/-- CALIBRATION_BEGIN (05 R148, R149; 17 R436): command 0x0101. -/
def execCalibrationBegin (t : Nat) (m : Maint) (mask : Nat) (s : State) : Host.Outcome State Fault Refusal :=
  s.run t fun s => s.maint m 0x0101 fun s =>
    if !s.calAllowed m then busyFree s
    else if 16384 ≤ mask then (s, stInvalid, 0, [])
    else
      let s1 := s.onAcq fun a => { a with
        calMask := some mask
        calPoints := (bitsIn 13 mask).flatMap pointsOf
        calCapture := none
        calMeans := {} }
      done (s1.publish 0x01005000 s1.pointsRecord)

/-- CAPTURE_POINT (17 R436): command 0x0102, answered STARTED. -/
def execCapturePoint (t : Nat) (m : Maint) (point : Nat) (s : State) : Host.Outcome State Fault Refusal :=
  s.run t fun s => s.maint m 0x0102 fun s =>
    if !s.calAllowed m then busyFree s
    else if s.acq.calMask.isNone then refuse 13 s
    else if s.acq.calPoints.length ≤ point then (s, stInvalid, 0, [])
    else (s.onAcq fun a => { a with calCapture := some point, calSweeps := [] }, stStarted, 0, [])

/-- CAPTURE_POINT_COMPLETE (05 R149 step 4, 17 R436): mean and noise of 2 000 sweep averages, or the point refused for more than 3 times the noise
of 05 R131; the command names the point whose capture it ends. -/
def execCapturePointComplete (t : Nat) (point entry : Nat) (s : State) : Host.Outcome State Fault Refusal :=
  s.run t fun s =>
    match s.acq.calCapture with
    | none => s
    | some p =>
      let e := (s.acq.calPoints.getD p (0, 0)).1
      if s.acq.calSweeps.length < 2000 ∨ p ≠ point ∨ e ≠ entry then s
      else
        let m := avgR s.acq.calSweeps
        let mean := clampS 32 (roundOpen 6 m)
        let noise := (clampU 32 (roundOpen 6 (Config.sqrt (avgR (s.acq.calSweeps.map fun x => (x - m) * (x - m)))))).toNat
        let s1 := s.onAcq fun a => { a with calCapture := none, calSweeps := [] }
        if 3 * noiseOf e < noise then s1.cmdFinal 0x0102 stRefused 13 []
        else (s1.onAcq fun a => { a with calMeans := a.calMeans.put p notCaptured (mean, noise) }).cmdFinal 0x0102 stDone 0
          (enc [(4, mean), fN 4 noise])

/-- Gain correction in ppb and offset from the two means of a channel entry's points (05 R149; log 21). -/
def State.calFit (s : State) (e : Nat) : Option (Int × Int) :=
  match s.acq.calPoints.findIdx? fun p => decide (p.1 = e) with
  | none => none
  | some i =>
    let m0 := (s.acq.calMeans.get i notCaptured).1
    let m1 := (s.acq.calMeans.get (i + 1) notCaptured).1
    let v1 := (s.acq.calPoints.getD (i + 1) (0, 0)).2
    if m1 = m0 then none
    else some (roundOpen 6 (((v1 : Rat) / ((m1 - m0 : Int) : Rat) - 1) * 1000000000), m0)

/-- The whole set a commit would write (05 R149): entries outside the mask carry over; no rule says how the converter references are
trimmed, so their new trims are free (log 21). -/
def State.newCal (s : State) (mask : Nat) (ref : List Nat) : CalSet :=
  let es := bitsIn 13 mask
  { s.acq.cal with
    valid := true, origin := 2, date := s.th.reading / 1000000000, reference := ref.take 8, fieldMask := mask
    gain := es.foldl (fun t e => t.put e 0 ((s.calFit e).getD (0, 0)).1) s.acq.cal.gain
    offset := es.foldl (fun t e => t.put e 0 ((s.calFit e).getD (0, 0)).2) s.acq.cal.offset
    refTrims := if mask.testBit 13 then (List.range 8).foldl (fun t i =>
      t.put i 0 ((Config.freeNat (s.freeIdx + i) % 65536 : Nat) - 32768 : Int)) s.acq.cal.refTrims else s.acq.cal.refTrims }

/-- The set lies within the limits of a commit (05 R149 step 5): every point captured, every gain within 2 %, every offset within 10 times the
accuracy. -/
def State.calWithin (s : State) (mask : Nat) : Bool :=
  let c := s.newCal mask []
  ((List.range s.acq.calPoints.length).all fun i => !decide (s.acq.calMeans.get i notCaptured = notCaptured)) &&
  ((bitsIn 13 mask).all fun e => (s.calFit e).isSome) &&
  (List.range 13).all fun e => decide ((c.gain.get e 0).natAbs ≤ 20000000 ∧ (c.offset.get e 0).natAbs ≤ 10 * accuracyOf e)

/-- CALIBRATION_COMMIT (05 R148, R149; 17 R436; 13 R351): command 0x0103. The new set takes the place of the set before
it; it is applied at the next analog initialisation. -/
def execCalibrationCommit (t : Nat) (m : Maint) (ref : List Nat) (a : AuthIn) (s : State) : Host.Outcome State Fault Refusal :=
  s.run t fun s => s.maint m 0x0103 fun s =>
    let h := s.safetyHash
    if !s.calAllowed m then busyFree (s.logSafety 2 4 a.port a.counter h h)
    else match s.acq.calMask with
      | none => refuse 13 (s.logSafety 2 4 a.port a.counter h h)
      | some mask =>
        if !s.calWithin mask then refuse 13 (s.logSafety 2 4 a.port a.counter h h)
        else
          let r := s.authorise 2 a h
          if r.2 ≠ 0 then refuse 13 r.1
          else
            let s1 := { r.1 with
              acq := { r.1.acq with cal := s.newCal mask ref, calMask := none, calPoints := [], calMeans := {}, calCapture := none, calSweeps := [] }
              freeIdx := r.1.freeIdx + 8 }
            let s2 := s1.record .calCommitted 0 (octetsOf 2 mask ++ octetsOf 6 s1.acq.cal.date ++ s1.acq.cal.reference)
            done (s2.publish 0x01004000 s2.calRecord)

end Sys2Proof.Machine
end

