-- ==== Sys2Proof/Machine/NodeDev.lean ====
section
/-! DEFINITION. Sys2Proof/Machine/NodeDev.lean: what a cell node does itself (chapters 03, 04; 09 R238 to R240): beacons,
commands, alarms, reports and admission. -/

namespace Sys2Proof.Machine

open Sys2Proof

/-! ### Shared operations -/

/-- The code of a sweep without a conversion (04 R104). -/
def noVolt : Int := -8388608

/-- Area lengths in octets (04 R109); 0 for a code that names no area. -/
def areaLength : Nat → Nat
  | 1 => 16 | 2 => 40 | 3 => 40 | 4 => 16 | _ => 0

/-- A signed number of `w` octets from the front of a list. -/
def sintOf (w : Nat) (l : List Nat) : Int :=
  (((l.take w).foldl (fun a o => 256 * a + o) 0 : Nat) : Int).bmod (256 ^ w)

/-- An unsigned number of `w` octets from the front of a list. -/
def nintOf (w : Nat) (l : List Nat) : Nat := (l.take w).foldl (fun a o => 256 * a + o) 0

/-- The balancing set in an area 0x03 (09 R243). -/
def setOfArea (l : List Nat) : BalSet :=
  { currents := (List.range 16).map fun j => sintOf 2 (l.drop (2 * j)), power := sintOf 2 (l.drop 32), flags := l.getD 34 0 }

/-- A balancing set within its ranges (09 R243). -/
def BalSet.inRange (b : BalSet) : Bool :=
  b.currents.all (fun i => decide (-3000 ≤ i ∧ i ≤ 3000)) && decide (-10000 ≤ b.power ∧ b.power ≤ 10000)

/-- A node zeroes its converters and discards its active set (09 R240). -/
def NodeDev.zeroSet (d : NodeDev) : NodeDev :=
  { d with balSet := {}, stopped := 0, active := d.active.put 3 [] [], committed := d.committed.put 3 [] [], commitAt := d.commitAt.put 3 0 0 }

/-- A node returns to unadmitted (04 R112, R116; 09 R240). -/
def NodeDev.leave (d : NodeDev) : NodeDev :=
  { d.zeroSet with adm := .unadmitted, lastCounter := 0, stored := none, keyed := false, newKey := false, role := 0,
                   nextRole := none, attempts := 0, backoff := 0, listenUntil := none, requestSent := false }

/-- The alarms a node has not had acknowledged (04 R123). -/
def NodeDev.unacked (d : NodeDev) : List HeldAlarm := d.alarms.filter fun a => !a.acked

/-- The highest-priority unacknowledged alarm: the lowest code (04 R122, R123). -/
def NodeDev.top (d : NodeDev) : Option HeldAlarm :=
  d.unacked.foldl (fun b a => match b with | none => some a | some x => if a.code < x.code then some a else some x) none

/-- A node's reading of the bitmaps of a management frame (03 R82, 04 R123): an acknowledgement counts when exactly one
alarm number was sent since the last frame; a report with the alarm record that is not acknowledged counts as lost, and
after two losses polls no longer stop the repetition. -/
def NodeDev.bitmaps (d : NodeDev) (slot : Nat) (m : Mgmt) : NodeDev :=
  let acked := m.ack.testBit slot && decide (d.sentSeqs.length = 1)
  let alarms := if acked then d.alarms.map fun a => if a.seq ∈ d.sentSeqs then { a with acked := true } else a else d.alarms
  let d1 := { d with alarms := alarms.filter fun a => !(a.acked && decide (a.mask = 0)), sentSeqs := [], recordSent := false }
  let lost := if d.recordSent && !acked then min 3 (d.pollLost + 1) else if acked then 0 else d.pollLost
  let immune := !acked && (d.pollImmune || decide (2 ≤ lost))
  let unack := !d1.unacked.isEmpty
  { d1 with
    pollLost := lost
    pollImmune := immune && unack
    polled := unack && !immune && (m.poll.testBit slot || (d.polled && !acked)) }

/-- A node's reading of the acknowledgements a beacon repeats (03 R81, 04 R123): of use where it missed the management frame. -/
def NodeDev.beaconAcks (d : NodeDev) (slot ack : Nat) : NodeDev :=
  if ack.testBit slot && decide (d.sentSeqs.length = 1) then
    { d with
      alarms := (d.alarms.map fun a => if a.seq ∈ d.sentSeqs then { a with acked := true } else a).filter fun a => !(a.acked && decide (a.mask = 0))
      sentSeqs := [], recordSent := false, pollLost := 0 }
  else d

/-- Every node that received the frame reads its bitmaps. -/
def State.readBitmaps (s : State) (m : Mgmt) : State :=
  m.heard.foldl (fun s n => s.onDev n fun d => d.bitmaps (slotOf n) m) s

/-- The commands a node obeys (04 R116): one that is not admitted only Challenge, Admit, and Load and Commit of area 0x04. -/
def obeyed (d : NodeDev) (code area : Nat) : Bool :=
  decide (d.adm = .admitted) || decide (code = 3 ∨ code = 4) || (decide (code = 5 ∨ code = 6) && decide (area = 4))

/-- The node's link key, from its node key, the nonce of its challenge and its index (04 R100). -/
def State.devLink (s : State) (n : Nat) : List Nat := s.kLink (s.dev n).key (s.dev n).nonce n (s.dev n).linkEpoch

/-- Octets of a response (04 R107), under the link key, or the zero key before admission. -/
def State.respPsdu (s : State) (n : Nat) (r : StoredResp) : List Nat :=
  let d := s.dev n
  psdu (if d.adm = .unadmitted ∨ d.adm = .challenged then zeroKey else s.devLink n) (s.superframeOf (n / 32))
    ([0x51, s.cfg.string.index, n, r.code, r.status] ++ octetsOf 4 r.counter ++ (r.payload ++ List.replicate 12 0).take 12)

/-- What a follower draws from a command it hears its leader send (04 R112, R113): the counter, where it is greater, and the command in flight. -/
def State.overhear (s : State) (m : Mgmt) (cmd : NodeCmd) : State :=
  if s.isTwin && !s.leads && s.pw.portsUp && decide (m.target < 128) then
    s.onNode m.target fun x => { x with
      counter := if cmd.code = 3 ∧ cmd.params.head? = some 0 then m.counter else max x.counter m.counter
      inflight := if x.counter ≤ m.counter then some { cmd := cmd, counter := m.counter, sentAt := s.superframeOf (m.target / 32) } else x.inflight }
  else s

/-- A command addressed to a node (04 R111, R112, R116): every receiver reads the bitmaps, and a follower follows; the target executes a command
with a greater counter once, answers the accepted counter again with its stored response, and ignores and counts a lower
one; a command a node that is not admitted does not obey is answered with status 0x03. Challenge part 0 with counter 1 is accepted
whatever the last counter. A node that has stopped its transmission sends no answer (03 R76). `body` answers the node with status and payload. -/
def State.devCommand (s : State) (m : Mgmt) (cmd : NodeCmd) (area : Nat) (fresh : Bool) (body : NodeDev → NodeDev × Nat × List Nat) : State :=
  let s0 := (s.readBitmaps m).overhear m cmd
  let n := m.target
  if n ∉ m.heard ∨ 128 ≤ n then s0
  else
    let s0 := s0.onDev n fun d => { d with addressedAt := s0.now }
    let d := s0.dev n
    let answer := fun (s : State) (r : StoredResp) => if d.silentTx then s else s.emit .nodeResponse n (s.respPsdu n r)
    if m.counter > d.lastCounter ∨ (fresh ∧ m.counter = 1 ∧ d.lastCounter ≠ 1) then
      if !obeyed d cmd.code area then answer s0 { code := cmd.code, status := 3, counter := m.counter }
      else
        let (d', st, p) := body d
        let r : StoredResp := { code := cmd.code, status := st, counter := m.counter, payload := p }
        let s1 := s0.onDev n fun _ => if d'.adm = .unadmitted then { d' with stored := none } else { d' with lastCounter := m.counter, stored := some r }
        answer s1 r
    else if m.counter = d.lastCounter then
      match d.stored with
      | some r => answer s0 r
      | none => s0
    else s0.onDev n fun d => { d with lowerCounters := wrapInc d.lowerCounters }

/-! ### Management commands -/

/-- COMMAND_NONE (04 R109): only the bitmaps, no response. -/
def execCommandNone (t : Nat) (m : Mgmt) (s : State) : Host.Outcome State Fault Refusal := s.run t fun s => s.readBitmaps m

/-- A node seeks admission (03 R76, R84, R85): it has received a valid beacon, has not stopped transmitting, and is not admitted; one whose
admission is in hand seeks it again once it has not been addressed for 10 s (log 100). -/
def NodeDev.seeks (d : NodeDev) (now : Nat) : Bool :=
  d.lastFrame.isSome && !d.silentTx && d.listenUntil.isNone && !d.requestSent &&
    (decide (d.adm = .unadmitted) || (decide (d.adm ≠ .admitted) && decide (d.addressedAt + sec 10 ≤ now)))

/-- An admission request (04 R99, R101, R107, R109 code 0x01), under the zero key. -/
def State.requestPsdu (s : State) (n : Nat) : List Nat :=
  let d := s.dev n
  psdu zeroKey (s.superframeOf (n / 32))
    ([0x51, s.cfg.string.index, 255, 1, 0] ++ octetsOf 4 0 ++ (octetsOf 8 d.ident ++ [16, d.harness % 256] ++ octetsOf 2 d.fw))

/-- One node at an open contention window (03 R84, R85): its request goes out once its backoff has run out. -/
def State.contend (s : State) (n : Nat) : State :=
  let d := s.dev n
  if !d.seeks s.now then s
  else if d.backoff = 0 then (s.onDev n fun d => { d with requestSent := true }).emit .nodeRequest n (s.requestPsdu n)
  else s.onDev n fun d => { d with backoff := d.backoff - 1 }

/-- CONTENTION_OPEN (03 R84 to R86, 04 R109). -/
def execContentionOpen (t : Nat) (m : Mgmt) (s : State) : Host.Outcome State Fault Refusal :=
  s.run t fun s => m.heard.foldl (fun s n => s.contend n) (s.readBitmaps m)

/-- LINK_TEST (04 R109): the turnaround check, whose width the layout leaves open, takes 2 octets (log 101). -/
def execLinkTest (t : Nat) (m : Mgmt) (power : Int) (turn : Nat) (s : State) : Host.Outcome State Fault Refusal :=
  s.run t fun s => s.devCommand m { code := 2 } 0 false fun d => (d, 0, enc [(2, power), fN 2 turn])

/-- What a follower draws from a challenge it hears (04 R113): the nonce and the epoch from which it derives the link key. -/
def State.overhearNonce (s : State) (m : Mgmt) (part nonce : Nat) : State :=
  if s.isTwin && !s.leads && s.pw.portsUp && decide (m.target < 128) then
    s.onNode m.target fun x => { x with
      linkEpoch := s.admitEpoch
      nonce := if part = 0 then nonce % 2 ^ 64 * 2 ^ 64 + x.nonce % 2 ^ 64 else x.nonce / 2 ^ 64 * 2 ^ 64 + nonce % 2 ^ 64 }
  else s

/-- CHALLENGE (04 R109, R112, R113, R116): part 0 begins a new series, a node that was admitted leaves that state; part 1 is
answered with the tag, the first 96 bits of AES-CMAC(K_node, nonce, identifier, configuration epoch) (R117). -/
def execChallenge (t : Nat) (m : Mgmt) (part : Fin 2) (nonce : Nat) (s : State) : Host.Outcome State Fault Refusal :=
  s.run t fun s => (s.devCommand m { code := 3, params := part.val :: octetsOf 8 nonce } 0 (decide (part.val = 0)) fun d =>
    if part.val = 0 then
      ({ (if d.adm = .unadmitted then d else d.leave) with
          adm := .challenged, nonce := (nonce % 2 ^ 64) * 2 ^ 64, requestSent := false, linkEpoch := s.admitEpoch }, 0, [])
    else
      let d' := { d with adm := .challenged, nonce := d.nonce / 2 ^ 64 * 2 ^ 64 + nonce % 2 ^ 64, linkEpoch := s.admitEpoch }
      (d', 0, octetsOf 12 (Config.cmac d.key (octetsOf 16 d'.nonce ++ octetsOf 8 d.ident ++ octetsOf 4 s.admitEpoch) / two32))).overhearNonce m part.val nonce

/-- ADMIT (04 R109). -/
def execAdmitNode (t : Nat) (m : Mgmt) (level flags served : Nat) (s : State) : Host.Outcome State Fault Refusal :=
  s.run t fun s => s.devCommand m { code := 4, params := [level % 256, flags % 256] ++ octetsOf 2 served } 0 false fun d =>
    ({ d with adm := if d.adm = .admitted then .admitted else .keying, requestSent := false, index := m.target, txLevel := level % 256
              replacement := flags.testBit 0, served := served % 65536, attempts := 0 }, 0, [])

/-- LOAD (04 R109, R110): 8 octets at an offset of the staging copy; a bad area or offset is answered 0x02. -/
def execLoad (t : Nat) (m : Mgmt) (area offset : Nat) (data : List Nat) (s : State) : Host.Outcome State Fault Refusal :=
  s.run t fun s => s.devCommand m { code := 5, params := [area, offset] ++ (data ++ List.replicate 8 0).take 8 } area false fun d =>
    if areaLength area = 0 ∨ offset % 8 ≠ 0 ∨ areaLength area ≤ offset then (d, 2, [])
    else
      let old := (d.staging.get area [] ++ List.replicate (areaLength area) 0).take (areaLength area)
      let new := old.take offset ++ (data ++ List.replicate 8 0).take 8 ++ old.drop (offset + 8)
      ({ d with staging := d.staging.put area [] new }, 0, [])

/-- COMMIT (04 R110, 09 R243): a CRC error leaves the active copy and answers 0x01, a set outside its ranges 0x02; else
the copy waits for its sweep, or for the next sweep start when that sweep is not later. Any Commit ends the staging copy: the next Load begins anew. -/
def execCommit (t : Nat) (m : Mgmt) (area : Nat) (crc activation : Nat) (s : State) : Host.Outcome State Fault Refusal :=
  s.run t fun s => s.devCommand m { code := 6, params := [area, 0] ++ octetsOf 4 crc ++ octetsOf 4 activation } area false fun d =>
    let copy := (d.staging.get area [] ++ List.replicate (areaLength area) 0).take (areaLength area)
    let d1 := { d with staging := d.staging.put area [] [] }
    if areaLength area = 0 then (d, 2, [])
    else if crc ≠ Config.crc32 copy then (d1, 1, [])
    else if area = 3 ∧ !(setOfArea copy).inRange then (d1, 2, [])
    else
      let at_ := if laterThan activation s.sweepNo then activation % two32 else wrapInc s.sweepNo
      ({ d1 with committed := d.committed.put area [] copy, commitAt := d.commitAt.put area 0 (at_ + 1) }, 0, [])

/-- RELAY_ASSIGN (04 R109, 03 R88). -/
def execRelayAssign (t : Nat) (m : Mgmt) (role partner slot effective : Nat) (s : State) : Host.Outcome State Fault Refusal :=
  s.run t fun s => s.devCommand m { code := 7, params := [role, partner, slot] ++ octetsOf 2 effective } 0 false fun d => ({ d with nextRole := some (role, partner, slot, effective % 65536) }, 0, [])

/-- PROPAGATION_DELAY (04 R109, 02 R60). -/
def execPropagationDelay (t : Nat) (m : Mgmt) (delay : Nat) (s : State) : Host.Outcome State Fault Refusal :=
  s.run t fun s => s.devCommand m { code := 8, params := octetsOf 4 delay } 0 false fun d => ({ d with propDelay := delay % two32 }, 0, [])

/-- RELEASE (04 R109, R112; 09 R240). -/
def execRelease (t : Nat) (m : Mgmt) (s : State) : Host.Outcome State Fault Refusal :=
  s.run t fun s => s.devCommand m { code := 9 } 0 false fun d => (d.leave, 0, [])

/-! ### Beacons at a node -/

/-- The new beacon key is checked on the first beacon after it (04 R118): kept, and the node reports; or discarded, and
the node is unadmitted. -/
def NodeDev.keyCheck (d : NodeDev) (ok : Bool) : NodeDev :=
  if !d.newKey then d
  else if ok then { d with newKey := false, keyed := true, adm := .admitted } else d.leave

/-- A relay role takes effect at its superframe (03 R90, 04 R109), compared in its low 16 bits. -/
def NodeDev.applyRole (d : NodeDev) (k : Nat) : NodeDev :=
  match d.nextRole with
  | some (r, p, f, e) =>
    if (k % 65536 + 65536 - e) % 65536 < 32768 then { d with role := r, partner := p, fwdSlot := f, roleFrom := e, nextRole := none } else d
  | none => d

/-- A beacon that passes its checks at a node (02 R60, R61; 03 R76, R81, R85; 04 R118): its clock is set so that the STS came at T_tx plus the
propagation delay. -/
def NodeDev.beacon (d : NodeDev) (b : BeaconRx) (slot now : Nat) : NodeDev :=
  let q := min 255 b.quality
  let run := if q ≤ 50 then min 4 (d.goodRun + 1) else 0
  ((({ d with
    missed := 0
    lastBeacon := now
    lastFrame := some b.superframe
    silentTx := false
    tq := q
    goodRun := run
    degraded := if 50 < q then true else if 4 ≤ run then false else d.degraded
    watch := b.watch
    clockCorr := ((b.tx + 256 * d.propDelay : Nat) : Int) - b.rx
    ceiling := max 4 (min 16 b.ceiling)
    pause := max 10 (min 600 b.pause) }).beaconAcks slot b.ack).applyRole b.superframe).keyCheck b.keyOk

/-- NODE_BEACON_RECEIVED (02 R61, 04 R118). -/
def execNodeBeaconReceived (t : Nat) (node : Fin 128) (b : BeaconRx) (s : State) : Host.Outcome State Fault Refusal :=
  s.run t fun s => s.onDev node.val fun d => d.beacon b (slotOf node.val) s.now

/-- An expected beacon is missed (02 R61; 03 R71, R76; 04 R118; 09 R240): degraded from the 11th in Run and the 3rd active
one in Watch; transmissions stop, and the set is discarded, at the 25th in Run and the 2nd in Watch. -/
def NodeDev.miss (d : NodeDev) (failed : Bool) : NodeDev :=
  let n := d.missed + 1
  let d1 := { d with missed := n, goodRun := 0, beaconFails := if failed then wrapInc d.beaconFails else d.beaconFails
                     degraded := d.degraded || decide ((if d.watch then 3 else 11) ≤ n) }
  let stop := decide ((if d.watch then 2 else 25) ≤ n)
  let d2 := if stop && !d.silentTx then { d1.zeroSet with silentTx := true } else d1
  if failed then d2.keyCheck false else d2

/-- NODE_MISSED_BEACON (03 R76). -/
def execNodeMissedBeacon (t : Nat) (node : Fin 128) (failed : Bool) (s : State) : Host.Outcome State Fault Refusal :=
  s.run t fun s => s.onDev node.val fun d => d.miss failed

/-- NODE_BEACON_SILENCE (03 R76, 04 R112). -/
def execNodeBeaconSilence (t : Nat) (node : Fin 128) (s : State) : Host.Outcome State Fault Refusal :=
  s.run t fun s => if (s.dev node.val).lastBeacon + sec 10 ≤ s.now then s.onDev node.val fun d => d.leave else s

/-! ### Thresholds and alarms -/

/-- A node's threshold set (04 R121). -/
structure Thresholds where
  /-- over-voltage, uV -/
  ov : Int
  /-- under-voltage, uV -/
  uv : Int
  /-- voltage hysteresis, uV -/
  vHyst : Int
  /-- over-temperature, 0.01 degC -/
  ot : Int
  /-- under-temperature, 0.01 degC -/
  ut : Int
  /-- temperature hysteresis, 0.01 K -/
  tHyst : Int
  /-- debounce, sweeps -/
  debounce : Nat
deriving DecidableEq, Repr

/-- The set in force: the committed area 0x01, or the built-in values (04 R121). -/
def NodeDev.thresholds (d : NodeDev) : Thresholds :=
  match d.active.get 1 [] with
  | [] => { ov := 4300000, uv := 1500000, vHyst := 20000, ot := 7500, ut := -2500, tHyst := 300, debounce := 1 }
  | l => { ov := sintOf 3 l, uv := sintOf 3 (l.drop 3), vHyst := nintOf 2 (l.drop 6), ot := sintOf 2 (l.drop 8)
           ut := sintOf 2 (l.drop 10), tHyst := nintOf 2 (l.drop 12), debounce := max 1 (min 4 (l.getD 14 1)) }

/-- The sweep value of a cell channel (04 R104): the average of its 64 grid samples (rounding 48), none where the node lacks a conversion of them
(log 102). -/
def nodeVolt (m : NodeIn) (j : Nat) : Option Int :=
  let xs := m.samples.getD j []
  if xs.length = 64 ∧ xs.all Option.isSome then some (roundOpen 48 (meanR (xs.map fun v => v.getD 0))) else none

/-- The condition of an alarm code at a cell channel in a sweep: some true beyond the threshold, some false inside it by
the hysteresis, none in between or without a value (04 R121, R122). The temperature of a cell channel is that of sensor
floor(j / 2) (log 19). -/
def alarmState (h : Thresholds) (m : NodeIn) (code j : Nat) : Option Bool :=
  let v := nodeVolt m j
  let tp := m.temps[j / 2]?
  match code with
  | 1 => v.bind fun x => if h.ov ≤ x then some true else if x ≤ h.ov - h.vHyst then some false else none
  | 2 => v.bind fun x => if x ≤ h.uv then some true else if h.uv + h.vHyst ≤ x then some false else none
  | 3 => tp.bind fun x => if h.ot ≤ x then some true else if x ≤ h.ot - h.tHyst then some false else none
  | 4 => tp.bind fun x => if x ≤ h.ut then some true else if h.ut + h.tHyst ≤ x then some false else none
  | 5 => some v.isNone
  | 6 => some (m.openTaps.testBit j || m.openTaps.testBit (j + 1))
  | 7 => some (m.convFault.testBit j)
  | 8 => some m.supplyFault
  | _ => some false

/-- Sweeps of debounce: 2 for a measurement fault (04 R122), none beyond the first for a fault report of the node. -/
def alarmDebounce (h : Thresholds) (code : Nat) : Nat := if code ≤ 4 then h.debounce else if code = 5 then 2 else 1

/-- One alarm code after a sweep (04 R122, R123; 09 R239): debounce counts, cleared cells leave the mask, and a new code or
cell gives the next alarm sequence number. A held alarm stops its converters at every decision, in a set that activates later as well. -/
def NodeDev.alarmCode (m : NodeIn) (sweep : Nat) (d : NodeDev) (code : Nat) : NodeDev :=
  let h := d.thresholds
  let cells := bitsIn 16 d.served
  let counts := cells.foldl (fun tb j =>
    match alarmState h m code j with
    | some true => tb.upd (16 * code + j) 0 fun c => min 7 (c + 1)
    | some false => tb.put (16 * code + j) 0 0
    | none => if code ≤ 4 then tb.put (16 * code + j) 0 0 else tb) d.counts
  let trip := maskOf 16 (cells.filter fun j => decide (alarmState h m code j = some true) &&
    decide (alarmDebounce h code ≤ counts.get (16 * code + j) 0))
  let clear := maskOf 16 (cells.filter fun j => decide (alarmState h m code j = some false))
  let old := d.alarms.find? fun a => decide (a.code = code)
  let om := match old with | some a => a.mask | none => 0
  let nm := maskOf 16 ((List.range 16).filter fun j => (om.testBit j && !clear.testBit j) || trip.testBit j)
  let gains := (List.range 16).any fun j => nm.testBit j && !om.testBit j
  let rest := d.alarms.filter fun a => !decide (a.code = code)
  let d1 := { d with counts := counts, stopped := if nm = 0 then d.stopped else d.stopped ||| guardStops d.balSet code nm }
  if gains then
    let seq := (d.alarmSeq + 1) % 256
    { d1 with alarmSeq := seq, alarms := rest ++ [{ code := code, mask := nm, firstSweep := sweep, seq := seq }] }
  else match old with
    | some a => if nm = 0 ∧ a.acked then { d1 with alarms := rest } else { d1 with alarms := rest ++ [{ a with mask := nm }] }
    | none => d1

/-- The output of a node's stack-to-bus converter, W (09 R238): its set power less the droop by the bus voltage in mV, within 100 W; idle at a set
power of zero or stopped. -/
def State.busOutput (s : State) (d : NodeDev) (busMv : Int) : Rat :=
  if d.balSet.power = 0 ∨ d.stopped.testBit 16 then 0
  else max (-100) (min 100 ((d.balSet.power : Rat) / 100 - (s.cfg.convModel.droop : Rat) / 10 * (((busMv - 48000 : Int) : Rat) / 1000)))

/-- The sweep whose end a node decides on, by its own clock (02 R61; 04 R122). -/
def State.devSweep (s : State) (d : NodeDev) (m : NodeIn) : Nat :=
  (((m.clock + d.clockCorr) / 65536 - (s.epochNs : Int)) / 1000000 - 1) % (two32 : Int) |>.toNat

/-- A node's decision for a sweep (04 R103, R104, R122): its values and status are kept for the reports, and every alarm code is evaluated. The
balancing-active bit follows the active set, guarded converters or not (log 103). -/
def NodeDev.decide_ (d : NodeDev) (m : NodeIn) (sweep : Nat) : NodeDev :=
  let vals := (List.range 16).map fun j => match nodeVolt m j with
    | some v => clampInt (-500000) 5000000 v
    | none => -8388608
  let d1 := ((List.range 8).map (· + 1)).foldl (fun d c => d.alarmCode m sweep c) d
  let status := bitsOf [d.degraded, !d1.alarms.isEmpty, d.balSet.currents.any (fun i => decide (i ≠ 0)) || decide (d.balSet.power ≠ 0)]
  { d1 with decided := ((sweep, vals, status) :: d.decided).take 12, temps := m.temps, windowDegraded := d.windowDegraded || d.degraded }

/-- NODE_ALARM_DECISION (04 R122, R123; 09 R239). -/
def execNodeAlarmDecision (t : Nat) (node : Fin 128) (m : NodeIn) (s : State) : Host.Outcome State Fault Refusal :=
  s.run t fun s => s.onDev node.val fun d =>
    let d1 := d.decide_ m (s.devSweep d m)
    { d1 with busOut := s.busOutput d1 m.busMv }

/-- A node that may transmit (03 R76; 04 R116, R118). -/
def NodeDev.mayReport (d : NodeDev) : Bool := d.keyed && decide (d.adm = .admitted) && !d.silentTx

/-- NODE_ALARM_SLOT (01 R39; 03 R75, R78, R81, R82; 04 R108, R123): from 5 us after the slot's begin, the highest-priority unacknowledged alarm,
unless a poll stopped the repetition. -/
def execNodeAlarmSlot (t : Nat) (node : Fin 128) (slot : Fin 4) (s : State) : Host.Outcome State Fault Refusal :=
  s.run t fun s =>
    let n := node.val
    let d := s.dev n
    let ph := s.chanPhase (n / 32)
    match d.top with
    | some a =>
      if d.mayReport && !d.polled && decide (alarmBegin slot.val + 5000 ≤ ph ∧ ph < alarmBegin slot.val + 30000) then
        let k := s.superframeOf (n / 32)
        let body := [0x40 + a.seq % 16, s.cfg.string.index, n, a.code]
        (s.onDev n fun d => { d with sentSeqs := insertN a.seq d.sentSeqs }).emit .nodeAlarm (n / 32)
          (let m := body ++ octetsOf 4 (cmac32 (s.devLink n) (octetsOf 4 k ++ [slot.val] ++ body))
           m ++ octetsOf 2 (Config.crc16 m))
      else s
    | none => s

/-- Node status octet (04 R103). Converters count as enabled while not all of them are stopped (log 104). -/
def NodeDev.status (d : NodeDev) : Nat :=
  bitsOf [decide (d.stopped < 131071), !(d.active.get 1 []).isEmpty, d.selfTestFault, (d.active.get 1 []).isEmpty]

/-- Octet `32 f + i` of the tone block (04 R105): fragment 24 carries the window's first sweep, tone count and status. -/
def NodeDev.toneFragment (d : NodeDev) (f : Nat) : List Nat :=
  if f = 24 then octetsOf 4 d.toneWindow ++ [d.toneCount, d.toneStatus] ++ List.replicate 26 0
  else
    let block := (List.range 128).flatMap fun i =>
      let p := d.tonePhasors.get i (0, 0)
      enc [(3, p.1), (3, p.2)]
    (block.drop (32 * f)).take 32

/-- The report of a node (04 R103): sweeps 4(k - 1) to 4k - 1, the temperature bank, the tone fragment, and the alarm record while a poll
asks for it or polls no longer stop the repetition (03 R82). -/
def State.reportFrame (s : State) (n k : Nat) : List Nat :=
  let d := s.dev n
  let rec? := if d.polled || d.pollImmune then d.top else none
  let b := d.tempBank
  let first := (4 * k + 4 * two32 - 4) % two32
  let sweeps := (List.range 4).map fun i => (d.decided.lookup ((first + i) % two32)).getD (List.replicate 16 noVolt, 0)
  let alarm := match rec? with
    | some a => [a.code] ++ octetsOf 2 a.mask ++ octetsOf 4 a.firstSweep ++ [a.seq]
    | none => List.replicate 8 0
  let body := [0x21, s.cfg.string.index, n, bitsOf [rec?.isSome, decide (b = 1), true]] ++
    octetsOf 4 first ++ (sweeps.map fun w => w.2) ++ enc (sweeps.flatMap fun w => w.1.map fun v => (3, v)) ++
    enc ((List.range 4).map fun i => (2, d.temps.getD (4 * b + i) 0)) ++ [d.tq, d.status, d.tonePlan % 8 * 32 + s.frameAbs k % 25] ++
    d.toneFragment (s.frameAbs k % 25) ++ alarm ++ [0, 0, 0]
  psdu (s.devLink n) k body

/-- A node reports in superframe k (03 R76, R94, R95): in every one since a beacon that carried Run, in Watch in the active ones, known by number or
by their beacon. -/
def State.reportsIn (s : State) (d : NodeDev) (k : Nat) : Bool :=
  d.mayReport && (!d.watch || decide (s.frameAbs k % 25 = 0) || decide (d.lastFrame = some k))

/-- The time to start a frame in a report slot: from 5 us after its begin to its end (01 R39; 03 R75). -/
def State.inReportSlot (s : State) (c slot : Nat) : Bool :=
  decide (slotBegin slot + 5000 ≤ s.chanPhase c ∧ s.chanPhase c < slotEnd slot)

/-- NODE_REPORT_TRANSMIT (04 R103, 03 R76, R82, R94): once in the node's slot. -/
def execNodeReportTransmit (t : Nat) (node : Fin 128) (s : State) : Host.Outcome State Fault Refusal :=
  s.run t fun s =>
    let n := node.val
    let d := s.dev n
    let k := s.superframeOf (n / 32)
    if s.reportsIn d k && s.inReportSlot (n / 32) (slotOf n) && !decide (d.reportedIn = some k) then
      let x := s.reportFrame n k
      (s.emit .nodeReport (n / 32) x).onDev n fun d => { d with
        reportedIn := some k
        sentReport := x
        tempBank := 1 - d.tempBank
        recordSent := (d.polled || d.pollImmune) && d.top.isSome
        sentSeqs := match (if d.polled || d.pollImmune then d.top else none) with | some a => insertN a.seq d.sentSeqs | none => d.sentSeqs }
    else s

/-- RELAY_FORWARD (03 R88, R91): in the forward slot the relayed frame unchanged, with its check value and CMAC, or the mark that it was not received. -/
def execRelayForward (t : Nat) (node : Fin 128) (heard : Bool) (s : State) : Host.Outcome State Fault Refusal :=
  s.run t fun s =>
    let n := node.val
    let d := s.dev n
    let k := s.superframeOf (n / 32)
    if s.reportsIn d k && decide (d.role = 1) && s.inReportSlot (n / 32) d.fwdSlot then
      let src := s.dev (32 * (n / 32) + d.partner)
      let x := if heard && decide (src.reportedIn = some k) then src.sentReport else []
      (s.onDev n fun d => { d with relayed := x }).emit .relayForward (n / 32) x
    else s

/-- One area's committed copy becomes active when its sweep has come (04 R110), `abs` the present one not wrapped. A balancing set restarts the
converters that no held alarm stops (09 R239); a beacon key waits for its check (04 R118); a tone plan changes during a window unless it begins with
it (04 R105). -/
def NodeDev.activate (sweep abs : Nat) (d : NodeDev) (area : Nat) : NodeDev :=
  match d.commitAt.get area 0 with
  | 0 => d
  | a + 1 =>
    if notBefore sweep a then
      let c := d.committed.get area []
      let d1 := { d with active := d.active.put area [] c, committed := d.committed.put area [] [], commitAt := d.commitAt.put area 0 0 }
      let a' := abs - (sweep + two32 - a) % two32
      if area = 3 then { d1 with balSet := setOfArea c, stopped := d.alarms.foldl (fun m x => if x.mask = 0 then m else m ||| guardStops (setOfArea c) x.code x.mask) 0 }
      else if area = 4 then { d1 with newKey := true }
      else if area = 2 then { d1 with planHist := ((a', c) :: d.planHist).take 4, windowPlanChange := d.windowPlanChange || decide (a' % 100 ≠ 0) } else d1
    else d

/-- NODE_SET_ACTIVATION (04 R110). -/
def execNodeSetActivation (t : Nat) (node : Fin 128) (s : State) : Host.Outcome State Fault Refusal :=
  s.run t fun s => s.onDev node.val fun d => [1, 2, 3, 4].foldl (NodeDev.activate s.sweepNo s.sweepAbs) d

/-! ### Admission -/

/-- NODE_ADMISSION_BACKOFF (03 R85): an unanswered request raises the attempt count; at the retry ceiling the node only
listens, else it waits a number of open windows drawn from 0 to 2^min(a, 5) - 1. -/
def execNodeAdmissionBackoff (t : Nat) (node : Fin 128) (s : State) : Host.Outcome State Fault Refusal :=
  s.run t fun s =>
    let n := node.val
    let d := s.dev n
    if d.adm ≠ .admitted ∧ d.requestSent then
      let a := d.attempts + 1
      if d.ceiling ≤ a then s.onDev n fun d => { d with attempts := a, requestSent := false, listenUntil := some (s.now + sec d.pause) }
      else
        let (r, s1) := s.freshNat
        s1.onDev n fun d => { d with attempts := a, requestSent := false, backoff := r % 2 ^ (min a 5) }
    else s

/-- LISTENING_PAUSE_EXPIRY (03 R85). -/
def execListeningPauseExpiry (t : Nat) (node : Fin 128) (s : State) : Host.Outcome State Fault Refusal :=
  s.run t fun s =>
    if s.due (s.dev node.val).listenUntil then
      s.onDev node.val fun d => { d with listenUntil := none, attempts := 0, backoff := 0 }
    else s

/-- NODE_START (09 R240, 04 R116, R121): everything a node learned over the radio is gone; its identity stays. -/
def execNodeStart (t : Nat) (node : Fin 128) (s : State) : Host.Outcome State Fault Refusal :=
  s.run t fun s => s.onDev node.val fun d => { ident := d.ident, key := d.key, harness := d.harness, fw := d.fw }

end Sys2Proof.Machine
end

