-- ==== Sys2Proof/Machine/Phasor.lean ====
section
/-! DEFINITION. Sys2Proof/Machine/Phasor.lean: complex arithmetic, tone phasors, and least squares, as chapter 06 forms them
(06 R154 to R157). -/

namespace Sys2Proof.Machine

open Sys2Proof

/-! ### Complex numbers -/

/-- Sum. -/
def Cplx.add (a b : Cplx) : Cplx := { re := a.re + b.re, im := a.im + b.im }
/-- Difference. -/
def Cplx.sub (a b : Cplx) : Cplx := { re := a.re - b.re, im := a.im - b.im }
/-- Product. -/
def Cplx.mul (a b : Cplx) : Cplx := { re := a.re * b.re - a.im * b.im, im := a.re * b.im + a.im * b.re }
/-- Conjugate. -/
def Cplx.conj (a : Cplx) : Cplx := { re := a.re, im := -a.im }
/-- Squared magnitude. -/
def Cplx.sq (a : Cplx) : Rat := a.re * a.re + a.im * a.im
/-- Reciprocal. -/
def Cplx.inv (a : Cplx) : Cplx := { re := a.re / a.sq, im := -a.im / a.sq }
/-- Product with a real. -/
def Cplx.scale (k : Rat) (a : Cplx) : Cplx := { re := k * a.re, im := k * a.im }
/-- Sum of a list. -/
def sumC (l : List Cplx) : Cplx := l.foldl Cplx.add {}

/-! ### Phasors -/

/-- The grid instants of the phase cycle (06 R154): 64 000 per second times 2^16. -/
def gridCycle : Nat := 4194304000

/-- The phase reference of a frequency word m at grid instant g, in turns (06 R154). -/
def phaseTurns (m g : Nat) : Rat := ((m * g % gridCycle : Nat) : Rat) / (gridCycle : Rat)

/-- The phasor of samples from grid instant g0 on (06 R155): 2 over their number times the sum of v exp(-i phi). -/
def phasorOf (m g0 : Nat) (vs : List Rat) : Cplx :=
  let terms := vs.zipIdx.map fun e =>
    let p := phaseTurns m (g0 + e.2)
    ({ re := e.1 * Config.cosTurn p, im := -(e.1 * Config.sinTurn p) } : Cplx)
  (sumC terms).scale (2 / (vs.length : Rat))

/-- The frequency word of a frequency in 0.1 Hz (06 R152). -/
def freqWord (f : Nat) : Nat := (roundNear ((f : Rat) * 65536 / 10)).toNat

/-- A slot of the window band (06 R151): 10 Hz or above. -/
def windowBand (f : Nat) : Bool := decide (100 ≤ f)

/-- Sweeps since the epoch of a sweep number at or before the present sweep (00 R14). -/
def State.absOf (s : State) (sweep : Nat) : Nat := s.sweepAbs - (s.sweepNo + two32 - sweep % two32) % two32

/-- The samples of channel c (IB0 to IB3 0 to 3, IS 4) over a run of sweeps from absolute sweep `a`, if every sweep is held. -/
def State.wave (s : State) (c a n : Nat) : Option (List Int) :=
  let parts := (List.range n).map fun i =>
    match s.acq.ring.find? fun e => decide (e.1 = (a + i) % two32) with
    | some e => e.2.getD c []
    | none => []
  if parts.all fun p => decide (p.length = 64) then some parts.flatten else none

/-- The current phasor of channel c in A over a tone window (06 R156): none where a sweep is missing or out of range. -/
def State.currentPhasor (s : State) (c f a : Nat) : Option Cplx :=
  let bad := (List.range 100).any fun i =>
    let q := (s.chanAt ((a + i) % two32) c).quality
    !qValid q
  if bad then none
  else (s.wave c a 100).map fun w => phasorOf (freqWord f) (64 * a) (w.map fun x => (x : Rat) / 1000)

/-! ### Least squares (06 R157) -/

/-- Dot product. -/
def dot (a b : List Rat) : Rat := sumR ((a.zip b).map fun p => p.1 * p.2)

/-- Subtract a multiple of one row from another. -/
def rowSub (k : Rat) (p r : List Rat) : List Rat := (r.zip p).map fun x => x.1 - k * x.2

/-- Gauss-Jordan elimination of an augmented matrix, column by column from `i`. -/
def eliminate : Nat → Nat → List (List Rat) → List (List Rat)
  | 0, _, m => m
  | fuel + 1, i, m =>
    match (m.drop i).find? fun r => !decide (r.getD i 0 = 0) with
    | none => eliminate fuel (i + 1) m
    | some p =>
      let q := p.map fun x => x / p.getD i 0
      let rest := (m.take i) ++ ((m.drop i).erase p)
      let red := rest.map fun r => rowSub (r.getD i 0) q r
      eliminate fuel (i + 1) (red.take i ++ [q] ++ red.drop i)

/-- Coefficients of the least-squares fit of `ys` by the rows of basis values. -/
def leastSquares (rows : List (List Rat)) (ys : List Rat) : List Rat :=
  let n := (rows.head?.map List.length).getD 0
  let cols := (List.range n).map fun j => rows.map fun r => r.getD j 0
  let aug := cols.map fun c => (cols.map fun d => dot c d) ++ [dot c ys]
  (eliminate n 0 aug).map fun r => r.getD n 0

/-- A neighbour bin of a slot (06 R157): it moves outward past 0 and past other slots. `away` is the sign of the side. -/
def moveBin (slots : List Nat) (away : Int) : Nat → Int → Int
  | 0, f => f
  | fuel + 1, f => if f = 0 ∨ f.natAbs ∈ slots then moveBin slots away fuel (f + away) else f

/-- The neighbour bins of a slot in 0.1 Hz: 0.1 and 0.2 Hz to each side (06 R157). -/
def neighbourBins (slots : List Nat) (f : Nat) : List Nat :=
  ([(1, (f : Int) + 1), (1, (f : Int) + 2), (-1, (f : Int) - 1), (-1, (f : Int) - 2)] : List (Int × Int)).map fun x =>
    (moveBin slots x.1 100000 x.2).natAbs

/-- The gain of the 64-sample average at a frequency in 0.1 Hz (06 R157). -/
def averageGain (f : Nat) : Rat :=
  Config.sinTurn ((f : Rat) / 20000) / (64 * Config.sinTurn ((f : Rat) / 1280000))

/-- The basis values of a sub-block at absolute sweep n, counted from its first sweep (06 R157): constant, trend, then cosine and
sine of each frequency. -/
def basisAt (freqs : List Nat) (start n : Nat) : List Rat :=
  let tm : Rat := (n : Rat) / 1000 + 4921875 / 10000000000
  1 :: ((n - start : Nat) : Rat) :: freqs.flatMap fun f =>
    let p := tm * (f : Rat) / 10
    [Config.cosTurn p, Config.sinTurn p]

/-- The phasor of the k-th frequency from fitted coefficients, with the gain of the average divided out (06 R157). -/
def fitPhasor (freqs : List Nat) (coef : List Rat) (k : Nat) : Cplx :=
  let g := averageGain (freqs.getD k 0)
  { re := coef.getD (2 + 2 * k) 0 / g, im := -(coef.getD (3 + 2 * k) 0) / g }

end Sys2Proof.Machine
end

