-- ==== Sys2Proof/Machine/Sage.lean ====
section
/-! DEFINITION. Sys2Proof/Machine/Sage.lean: impedance spectroscopy, the quantities derived from it, and Sage's time
(chapter 06). -/

namespace Sys2Proof.Machine

open Sys2Proof

/-- Sage runs: not in Off or Hibernate (01 R37), nor once a brown-out flush has stopped it (19 R482). -/
def State.sageRuns (s : State) : Bool := !decide (s.pw.state = .off ∨ s.pw.state = .hibernate ∨ s.pw.state = .flushing)

/-! ### Cell temperatures -/

/-- What a cell without an internal temperature reads as: no value of the temperature format. -/
def noTemp : Int := -100000

/-- The temperature channel of a cell (10 R264, R266): sensor floor(j / 2) of its node, or the one record 0x0601 assigns. -/
def State.sensorChan (s : State) (cell : Nat) : Nat :=
  let n := (s.cfg.nodeOfCell cell).getD 0
  let j := cell % 16
  8 * n + ((s.cfg.chanMap.sensor.lookup (16 * n + j)).getD (j / 2)) % 8

/-- The cell temperature (10 R266, R270). -/
def State.cellTemp (s : State) (cell : Nat) : Int := (s.tchan (s.sensorChan cell)).value

/-- Quality of the cell temperature. -/
def State.cellTempQ (s : State) (cell : Nat) : Quality := (s.tchan (s.sensorChan cell)).quality

/-- Kelvin of a temperature in 0.01 degC. -/
def kelvin (v : Int) : Rat := ((v + 27315 : Int) : Rat) / 100

/-- The SoC band of a cell, 25 % each (06 R174). -/
def State.socBand (s : State) (cell : Nat) : Nat := min 3 ((s.cell cell).soc * 4).floor.toNat

/-! ### Tone plans (06 R151 to R153, R163) -/

/-- The string is at rest (06 R163). -/
def State.atRest (s : State) : Bool := s.heldFor s.sg.restSince (sec s.cfg.est.restS) || !s.rt.conv.running

/-- A node may carry balancing excitation (06 R163): taps 1 to 15 converged, no converter fault alarm, not pending. -/
def State.excitable (s : State) (n : Nat) : Bool :=
  ((List.range 15).all fun i => (s.tap n (i + 1)).converged) && !((s.node n).alarms.any fun a => decide (a.code = 7)) &&
    decide ((s.node n).adm = .admitted)

/-- A balancing slot as area 0x02 carries it: 0xF for none. -/
def slotCode (o : Option Nat) : Nat := o.getD 15

/-- The plan the configuration and the string's rest call for (06 R152, R163), under an identifier and an activation sweep. -/
def State.planFor (s : State) (ident act : Nat) : TonePlan :=
  let c := s.cfg.tone
  let (e, o) := if s.sg.swapped then (c.balOdd, c.balEven) else (c.balEven, c.balOdd)
  { ident := ident, count := min 8 c.freqs.length, slots := slotCode e * 16 + slotCode o, amplitude := c.excitation
    freqs := c.freqs.take 8
    masks := if s.atRest then
        (s.cfg.nodes.map fun n => n.index).foldl (fun t n => t.put n 0 (if s.excitable n then s.servedMask n else 0)) {}
      else {}
    fromSweep := act }

/-- Issue a plan with new content under the next identifier (06 R153): loaded into all nodes with one activation sweep, at
most one in 10 s; the last 8 are kept. The activation sweep is fixed by its first Load. -/
def State.issuePlan (s : State) : State :=
  let last := s.sg.plans.head?
  let ident := match last with | some p => (p.ident + 1) % 8 | none => 0
  let p := s.planFor ident s.planStart
  let same := match last with | some q => decide ({ p with ident := q.ident, fromSweep := q.fromSweep } = q) | none => false
  let early := !s.sg.plans.isEmpty && decide ((s.sweepNo + two32 - s.sg.lastPlanAt) % two32 < 10000)
  if same || early then s
  else
    let s1 := s.onSage fun g => { g with plans := (p :: g.plans).take 8, lastPlanAt := s.sweepNo, planOpen := true }
    (s1.cfg.nodes.map fun n => n.index).foldl (fun s n =>
      if (s.node n).inService then s.addWork n (loadArea 2 (p.area n) p.fromSweep) else s) s1

/-- TONE_PLAN_CHANGE (06 R153). -/
def execTonePlanChange (t : Nat) (s : State) : Host.Outcome State Fault Refusal :=
  s.run t fun s => if s.leads && s.sageRuns then s.issuePlan else s

/-- REST_EXCITATION_SWAP (06 R163): as rest begins a plan with masks is issued; every 60 s at rest the even and odd assignments swap; when
rest ends, a plan with an empty mask is issued. A plan that 06 R153 holds back is issued by a later command (log 43). -/
def execRestExcitationSwap (t : Nat) (s : State) : Host.Outcome State Fault Refusal :=
  s.run t fun s =>
    if !s.leads || !s.sageRuns then s
    else
      let rest := s.atRest
      let swap := s.sg.rest && rest && decide (s.sg.lastSwap + sec 60 ≤ s.now)
      (s.onSage fun g => { g with
        rest := rest
        swapped := if swap then !g.swapped else g.swapped
        lastSwap := if swap || (rest && !g.rest) then s.now else g.lastSwap }).issuePlan

/-- The plans whose Loads have begun, newest first (06 R153). -/
def State.plansInUse (s : State) : List TonePlan := if s.sg.planOpen then s.sg.plans.drop 1 else s.sg.plans

/-- The plan in force at a sweep: the newest activated by then (06 R153). -/
def State.planAt (s : State) (sweep : Nat) : Option TonePlan := s.plansInUse.find? fun p => notBefore sweep p.fromSweep

/-- The plan a node follows at a sweep (06 R153): none newer than the one its latest report names, for it keeps its old plan without a Commit. -/
def State.nodePlanAt (s : State) (n sweep : Nat) : Option TonePlan :=
  let l := s.plansInUse.dropWhile fun p => !decide (p.ident = (s.node n).planId)
  ((if l.isEmpty then s.plansInUse else l).find? fun p => notBefore sweep p.fromSweep)

/-- The plan a node reported under (06 R153). -/
def State.planOf (s : State) (n : Nat) : Option TonePlan := s.sg.plans.find? fun p => decide (p.ident = (s.node n).planId)

/-! ### The node's phasors (06 R155) -/

/-- The code of a phasor without a valid value (06 R155). -/
def noPhasor : Int × Int := (-8388608, -8388608)

/-- One voltage phasor of a node in 10 nV from the 6 400 samples of a window in uV; none where the window lacks a conversion (06 R155). -/
def nodePhasor (m g0 : Nat) (vs : List (Option Int)) : Int × Int :=
  if vs.length ≠ 6400 ∨ vs.any Option.isNone then noPhasor
  else
    let p := (phasorOf m g0 (vs.map fun v => ((v.getD 0 : Int) : Rat))).scale 100
    let re := roundNear p.re
    let im := roundNear p.im
    if clampS 24 re = re ∧ clampS 24 im = im then (re, im) else noPhasor

/-- NODE_TONE_WINDOW_END (06 R155, 04 R105): the tone block of the window that ends. -/
def execNodeToneWindowEnd (t : Nat) (node : Fin 128) (samples : List (List (Option Int))) (s : State) :
    Host.Outcome State Fault Refusal :=
  s.run t fun s =>
    let a := s.sweepAbs - 100
    s.onDev node.val fun d =>
      let area := ((d.planHist.find? fun e => decide (e.1 ≤ a)).map Prod.snd).getD []
      let count := area.getD 1 0
      let word := fun i => nintOf 4 (area.drop (6 + 4 * i))
      let cellPh := fun i j => if i < count ∧ 655360 ≤ word i then nodePhasor (word i) (64 * a) (samples.getD j []) else (0, 0)
      { d with
        toneWindow := a % two32
        toneCount := count
        tonePlan := area.getD 0 0
        tonePhasors := (List.range 128).foldl (fun t k => t.put k (0, 0) (cellPh (k / 16) (k % 16))) {}
        toneStatus := bitsOf [d.windowDegraded, d.windowPlanChange]
        windowDegraded := false
        windowPlanChange := false }

/-! ### Units (06 R156 to R165) -/

/-- The excitation amplitude of cell channel j in slot i under a plan, in A (06 R158). -/
def TonePlan.x (p : TonePlan) (n i : Nat) (j : Int) : Rat :=
  if 0 ≤ j ∧ j < 16 ∧ (p.masks.get n 0).testBit j.toNat then
    let slot := if j % 2 = 0 then p.slots / 16 else p.slots % 16
    if slot = i then (p.amplitude : Rat) / 100 else 0
  else 0

/-- The excitation a cell contributes to a unit: none from the sweep at which a guard has stopped its converter (09 R258). -/
def State.xOf (s : State) (p : TonePlan) (n i a : Nat) (j : Int) : Rat :=
  if 0 ≤ j ∧ (s.node n).guardMask.testBit j.toNat ∧ s.absOf ((s.node n).guardAt.get j.toNat 0) ≤ a + 99 then 0 else p.x n i j

/-- Stack transfer ratio h_n (09 R242): eta_ac over the number of present cells. -/
def State.transferRatio (s : State) (n : Nat) : Rat :=
  (s.cfg.convModel.eta : Rat) / 10000 / (((s.cfg.cellsOfNode n).length : Nat) : Rat)

/-- Excitation current of a cell (06 R158). -/
def State.cellCurrentPhasor (s : State) (p : TonePlan) (n i j a : Nat) (ib : Cplx) : Cplx :=
  let xs := sumR ((s.cfg.cellsOfNode n).map fun c => s.xOf p n i a ((c % 16 : Nat) : Int))
  ib.add { re := s.xOf p n i a (j : Int) - s.transferRatio n * xs, im := 0 }

/-- The tap term of a phasor in V (06 R159). -/
def State.phasorTerm (s : State) (p : TonePlan) (n i j a : Nat) : Rat := s.tapTerm n j (fun k => s.xOf p n i a k * 1000) / 1000000

/-- Source label of a unit (06 R160). -/
def State.sourceLabel (s : State) (p : TonePlan) (n i j f a windows : Nat) (ib : Cplx) : Nat :=
  let xs := sumR ((s.cfg.cellsOfNode n).map fun c => s.xOf p n i a ((c % 16 : Nat) : Int))
  let xt := s.xOf p n i a (j : Int) - s.transferRatio n * xs
  if ib.sq ≤ xt * xt then 3
  else if s.rt.conv.running ∧ s.rt.conv.carrier ≠ 0 ∧ f * 100 % s.rt.conv.carrier = 0 ∧ f ≠ 0 then 1
  else if (List.range windows).all fun w => ((s.sg.unitTones.lookup ((a + 100 * w) % two32)).getD 0).testBit i then 2
  else 4

/-- The samples of a cell held over a run of sweeps, by absolute sweep. -/
def State.cellSamples (s : State) (cell a n : Nat) : List Sample :=
  (s.sg.subSets.filter fun w => decide (a ≤ s.absOf w.first + 3 ∧ s.absOf w.first < a + n)).flatMap fun w =>
    (List.range 4).filterMap fun i =>
      let k := s.absOf w.first + i
      if a ≤ k ∧ k < a + n then some (w.samples.get (4 * cell + i) {}) else none

/-- Why a unit of a node and cell is excluded (06 R165): 1 timing-degraded, 2 under 05 R139, 3 any other reason. -/
def State.unitExcluded (s : State) (n cell a len : Nat) (planChange lost : Bool) : Option Nat :=
  let xs := s.cellSamples cell a len
  let acts := (s.node n).setSteps.map s.absOf
  let step := s.th.stepAge
  if xs.any fun x => qDegraded x.quality then some 1
  else if xs.any fun x => x.excluded then
    (if (s.node n).uncertainAt (a % two32) || (s.node n).uncertainAt ((a + len - 1) % two32) then some 3 else some 2)
  else if planChange || lost || (acts.any fun act => decide (a < act ∧ act < a + len)) ||
      (decide (0 < step) && decide (a ≤ s.absOf (step - 1) ∧ s.absOf (step - 1) < a + len)) then some 3
  else none

/-- The estimate of a cell and slot. -/
def State.imp (s : State) (cell slot : Nat) : ImpCell := s.sg.imp.get (8 * cell + slot) {}

/-- Update of the estimate of a cell and slot. -/
def State.onImp (s : State) (cell slot : Nat) (f : ImpCell → ImpCell) : State :=
  s.onSage fun g => { g with imp := g.imp.upd (8 * cell + slot) {} f }

/-- Decode a phasor part in 10 nV from the tone block of a node (04 R105). -/
def NodeCtl.blockPhasor (x : NodeCtl) (i j : Nat) : Int × Int :=
  let k := 6 * (16 * i + j)
  let oct := fun p => (x.toneBlock.get (p / 32) []).getD (p % 32) 0
  let part := fun p => sintOf 3 [oct p, oct (p + 1), oct (p + 2)]
  (part k, part (k + 3))

/-- The nearest 10 Hz bins outside the plan on each side of a frequency (06 R166), in 0.1 Hz. -/
def outsideBins (freqs : List Nat) (f : Nat) : List Nat :=
  let up := ((List.range 9).map fun i => f + 100 * (i + 1)).find? fun g => !decide (g ∈ freqs)
  let down := ((List.range 9).map fun i => f - 100 * (i + 1)).find? fun g => decide (0 < g) && !decide (g ∈ freqs)
  up.toList ++ down.toList

/-- One window-band unit of a cell and slot from a complete tone block (06 R158 to R165). -/
def State.windowUnit (s : State) (n cell i a status : Nat) (lost : Bool) (p : TonePlan) : State :=
  let j := cell % 16
  let f := p.freqs.getD i 0
  let b := cell / 512
  let ph := (s.node n).blockPhasor i j
  let code := decide (ph.1 = -8388608 ∨ ph.2 = -8388608)
  let excl := if status % 2 = 1 then some 1 else s.unitExcluded n cell a 100 (decide (status / 2 % 2 = 1)) lost
  match excl, s.currentPhasor b f a with
  | some r, _ => s.onImp cell i fun x => { x with excl := (a, r) :: x.excl }
  | none, none => s.onImp cell i fun x => { x with excl := (a, 3) :: x.excl }
  | none, some ib =>
    if code then s.onImp cell i fun x => { x with excl := (a, 3) :: x.excl }
    else
      let raw : Cplx := { re := (ph.1 : Rat) / 100000000, im := (ph.2 : Rat) / 100000000 }
      let term := s.phasorTerm p n i j a
      let bins := (outsideBins p.freqs f).filterMap fun g => (s.currentPhasor b g a).map Cplx.sq
      let u : ImpUnit :=
        { at_ := a, v := raw.add { re := term, im := 0 }, i := s.cellCurrentPhasor p n i j a ib, even := decide (a / 100 % 2 = 0)
          src := s.sourceLabel p n i j f a 1 ib, bal := decide (term ≠ 0), ident := p.ident
          ibin := if bins.isEmpty then 0 else sumR bins / (bins.length : Rat) }
      s.onImp cell i fun x => { x with units := u :: x.units }

/-- The tone block of a node is complete or its window has passed at the report slot of superframe k (04 R105, 06 R165): fragment 24
carries the window's first sweep and status; a lost fragment excludes the unit. -/
def State.takeBlock (s : State) (n k : Nat) : State :=
  let x := s.node n
  let tail := x.toneBlock.get 24 []
  let a := if tail.isEmpty then s.absOf ((100 * (k / 25) + two32 - 100) % two32) else s.absOf (nintOf 4 tail)
  let lost := !decide (x.toneFrags = 33554431)
  let s1 := match s.planOf n with
    | none => s
    | some p => (s.cfg.cellsOfNode n).foldl (fun s c =>
        (List.range 8).foldl (fun s i =>
          if i < p.count ∧ windowBand (p.freqs.getD i 0) then s.windowUnit n c i a (tail.getD 5 0) lost p else s) s) s
  s1.onNode n fun x => { x with toneFrags := 0, toneBlock := {} }

/-! ### The estimate (06 R164 to R170) -/

/-- Estimate over units (06 R166): -Svi / Sii, and Sii. -/
def estimateOf (us : List ImpUnit) : Cplx × Rat :=
  let svi := sumC (us.map fun u => u.v.mul u.i.conj)
  let sii := sumR (us.map fun u => u.i.sq)
  (svi.scale (-1 / sii), sii)

/-- The power ratio of the excitation ratio in dB (06 record 0x0403). -/
def State.exciteRatio (s : State) : Rat := Config.exp ((s.cfg.est.ratioDb : Rat) / 10 * Config.ln 10)

/-- The impedance record (06 R169). -/
def impRecord (last cell slot ident f src : Nat) (low : Bool) (z : Cplx) (bound eta used status : Int) (q : Quality) : List Nat :=
  let part := fun (x : Rat) => clampS 32 (roundOpen 9 (x * 1000000000))
  enc [fN 4 last, fN 2 cell, fN 1 (slot + (if low then 8 else 0) + 16 * ident), fN 1 src, fN 4 f, (4, part z.re), (4, part z.im),
    (4, bound), (2, eta), (1, used), (1, status), fQ q, fN 3 0]

/-- Close the interval of one cell and slot (06 R166, R167, R169): the figures, the status, the running means, the record. It holds the units
that begin from absolute sweep `from_` on and before `to_`. Of units that differ the newest gives the source label and the plan, and the mean of
r begins with the first eligible r (log 111). -/
def State.closeInterval (s : State) (cell slot from_ to_ f ident : Nat) (low tempOk shed : Bool) : State :=
  let x := s.imp cell slot
  let last := (to_ + two32 - 1) % two32
  let us := x.units.filter fun u => decide (from_ ≤ u.at_ ∧ u.at_ < to_)
  let gone := x.excl.filter fun e => decide (from_ ≤ e.1 ∧ e.1 < to_)
  let need := if low then s.cfg.est.minLow else s.cfg.est.minWin
  let (z, sii) := estimateOf us
  let cnt : Rat := (us.length : Nat)
  let res := sumR (us.map fun u => (u.v.add (z.mul u.i)).sq)
  let sv := if low then avgR (us.flatMap fun u => u.bins.map fun b => (b.1.add (z.mul b.2)).sq) else res / (cnt - 1)
  let si := avgR (us.map fun u => u.ibin)
  let few := decide (us.length < need) || shed
  let sv2 := (sv :: x.sv2).take 8
  let si2 := (si :: x.si2).take 8
  let mv := avgR sv2
  let mi := avgR si2
  let bound := (mv + z.sq * mi) / sii
  let weak := decide (sii = 0 ∨ sii < s.exciteRatio * cnt * mi)
  let big := decide (2147483647 < (roundOpen 9 (z.re * 1000000000)).natAbs ∨ 2147483647 < (roundOpen 9 (z.im * 1000000000)).natAbs)
  let (fr, s1) := s.freshRat
  let (ze, se) := estimateOf (us.filter fun u => u.even)
  let (zo, so) := estimateOf (us.filter fun u => !u.even)
  let r := if bound = 0 ∨ se = 0 ∨ so = 0 then fr else (ze.sub zo).sq / (4 * bound)
  let code0 : Option Nat :=
    if few then some (if shed then 3 else if gone.any fun e => decide (e.2 = 1) then 2 else if gone.any fun e => decide (e.2 = 2) then 8 else 3)
    else if weak then some 4 else if big then some 6 else if !tempOk then some 7 else none
  let eligible := code0.isNone
  let mean := if !eligible then x.rMean else if x.eligible = 0 then r else fine (x.rMean + (r - x.rMean) / 64)
  let count := if eligible then x.eligible + 1 else x.eligible
  let eta : Rat := if count < 16 then 0 else 1 / mean
  let code := code0.getD (if count < 16 then 1 else if eta < 64 / 100 then 5 else 0)
  let zero := decide (code = 2 ∨ code = 8 ∨ code = 3 ∨ code = 4)
  let n := (s.cfg.nodeOfCell cell).getD 0
  let q := mkQuality (decide (code = 0)) false zero false (us.any fun u => u.bal) false (decide ((s.node n).adm = .pending)) (decide (code = 6))
  let bnd := if zero then 0 else clampU 32 (roundOpen 10 (Config.sqrt (bound / 2) * 1000000000))
  let rc := impRecord last cell slot ((us.head?.map fun u => u.ident).getD ident) f ((us.head?.map fun u => u.src).getD 0) low (if zero then {} else z) bnd
    (if zero then 0 else clampU 16 (roundOpen 11 (eta * 10000))) (us.length : Nat) code q
  let s2 := s1.onImp cell slot fun x => { x with
    sv2 := if few then x.sv2 else sv2, si2 := if few then x.si2 else si2, rMean := mean, eligible := count
    okZ := if code = 0 then z else x.okZ, okBound := if code = 0 then bound else x.okBound, okEta := if code = 0 then eta else x.okEta
    okFreq := if code = 0 then f else x.okFreq
    z := if zero then x.z else z, bound := if zero then x.bound else bound, status := code
    units := if low then x.units else x.units.filter fun u => decide (to_ ≤ u.at_)
    excl := if low then x.excl else x.excl.filter fun e => decide (to_ ≤ e.1) }
  s2.publish (0x04010000 + slot * 4096 + cell) rc

/-- Temperature and SoC of a cell have stayed within 0.5 K and 2 % since a figure (06 R167). -/
def State.steady (s : State) (cell : Nat) (was : Int × Rat) : Bool :=
  decide ((s.cellTemp cell - was.1).natAbs ≤ 50) && decide (absR ((s.cell cell).soc - was.2) ≤ 2 / 100)

/-- IMPEDANCE_INTERVAL_END (06 R164, R166, R170): the window-band estimates of the last whole second, under the plan in force at its end. -/
def execImpedanceIntervalEnd (t : Nat) (s : State) : Host.Outcome State Fault Refusal :=
  s.run t fun s =>
    let to_ := s.sweepAbs / 1000 * 1000
    if !s.sageRuns then s else
    match s.planAt ((to_ + two32 - 1) % two32) with
    | none => s
    | some p => s.turn 4 (sec 1) fun s =>
      let s1 := s.cfg.allCells.foldl (fun s c =>
        let was := s.sg.winBegin.get c (noTemp, 0)
        let ok := decide (was.1 = noTemp) || s.steady c was
        (List.range 8).foldl (fun s i =>
          let f := p.freqs.getD i 0
          if i < p.count ∧ windowBand f then s.closeInterval c i (to_ - 1000) to_ f p.ident false ok s.sg.shedInterval else s) s) s
      s1.onSage fun g => { g with
        shedInterval := false
        winBegin := s1.cfg.allCells.foldl (fun t c => t.put c (noTemp, 0) (s1.cellTemp c, (s1.cell c).soc)) g.winBegin }

/-- One low-band unit of a cell and all its slots (06 R157, R158, R165, R167), under the plan its node followed; a sub-block in which that plan
changed is not used (log 111). -/
def State.lowUnit (s : State) (q : TonePlan) (start cell : Nat) (ibCoef : Option (List Rat)) (lows freqs : List Nat) : State :=
  let n := (s.cfg.nodeOfCell cell).getD 0
  let p := (s.nodePlanAt n (start % two32)).getD q
  let changed := decide (s.nodePlanAt n ((start + 9999) % two32) ≠ s.nodePlanAt n (start % two32))
  let bal := (s.cellSamples cell start 10000).any fun x => qBalancing x.quality
  let pts := (s.sg.subSets.filter fun w => decide (start ≤ s.absOf w.first ∧ s.absOf w.first < start + 10000)).flatMap fun w =>
    (List.range 4).filterMap fun i =>
      let x := w.samples.get (4 * cell + i) {}
      if qValid x.quality then some (s.absOf w.first + i, (x.corr : Rat) / 1000000) else none
  let full := decide (9900 ≤ pts.length) && !s.sg.excludedSub
  let coef := leastSquares (pts.map fun e => basisAt freqs start e.1) (pts.map fun e => e.2)
  lows.foldl (fun s f =>
    let i := q.freqs.idxOf f
    let excl := match s.unitExcluded n cell start 10000 changed (!full) with
      | some r => some r
      | none => if ibCoef.isNone then some 3 else none
    let keep := fun (x : ImpCell) => { x with
      units := x.units.filter fun u => decide (start < u.at_ + 60000)
      excl := x.excl.filter fun e => decide (start < e.1 + 60000) }
    match excl with
    | some r => s.onImp cell i fun x => keep { x with excl := (start, r) :: x.excl }
    | none =>
      let ic := ibCoef.getD []
      let k := freqs.idxOf f
      let ib := fitPhasor freqs ic k
      let term := s.phasorTerm p n i (cell % 16) start
      let bins := (neighbourBins q.freqs f).map fun g => freqs.idxOf g
      let u : ImpUnit :=
        { at_ := start, v := (fitPhasor freqs coef k).add { re := term, im := 0 }, i := s.cellCurrentPhasor p n i (cell % 16) start ib
          even := decide (start / 10000 % 2 = 0), src := s.sourceLabel p n i (cell % 16) f start 100 ib, bal := bal || decide (term ≠ 0)
          ident := p.ident, bins := bins.map fun b => (fitPhasor freqs coef b, fitPhasor freqs ic b)
          ibin := avgR (bins.map fun b => (fitPhasor freqs ic b).sq) }
      s.onImp cell i fun x => keep { x with units := u :: x.units }) s

/-- LOW_BAND_SUBBLOCK_END (06 R157, R164, R166, R170): the sub-block of 10 s that has ended, and the estimates over the last
6 of them. -/
def execLowBandSubblockEnd (t : Nat) (s : State) : Host.Outcome State Fault Refusal :=
  s.run t fun s =>
    if !s.sageRuns then s else
    let start := s.sweepAbs / 10000 * 10000 - 10000
    match s.planAt (start % two32) with
    | none => s
    | some p => s.turn 5 (sec 10) fun s =>
      let lows := (p.freqs.take p.count).filter fun f => decide (f ≠ 0) && !windowBand f
      let freqs := (lows ++ ((p.freqs.take p.count).filter fun f => decide (f ≠ 0)).flatMap (neighbourBins p.freqs)).eraseDups
      let s1 := s.cfg.branchList.foldl (fun s b =>
        let pts := (List.range 10000).filterMap fun i =>
          let v := s.chanAt ((start + i) % two32) b
          if qValid v.quality then some (start + i, (v.avg : Rat) / 1000) else none
        let ic := if 9900 ≤ pts.length then
            some (leastSquares (pts.map fun e => basisAt freqs start e.1) (pts.map fun e => e.2)) else none
        (s.cfg.branchCells b).foldl (fun s c => s.lowUnit p start c ic lows freqs) s) s
      let s2 := s1.cfg.allCells.foldl (fun s c =>
        let ok := ((s.sg.lowBegin.get c []).getLast?.map (s.steady c)).getD true
        lows.foldl (fun s f =>
          s.closeInterval c (p.freqs.idxOf f) (start - 50000) (start + 10000) f p.ident true ok false) s) s1
      s2.onSage fun g => { g with
        excludedSub := false
        lowBegin := s2.cfg.allCells.foldl (fun t c => t.upd c [] fun l => ((s2.cellTemp c, (s2.cell c).soc) :: l).take 6) g.lowBegin }

/-! ### Equivalent-circuit fit (06 R171 to R173, R177, R178) -/

/-- A fit of a cell. -/
def State.fit (s : State) (cell : Nat) : Fit := s.sg.fits.get cell {}

/-- The fit record (06 R172). -/
def State.fitRecord (s : State) (cell : Nat) : List Nat :=
  let f := s.fit cell
  let n := (s.cfg.nodeOfCell cell).getD 0
  enc [fN 4 f.sweep, fN 2 cell, fN 1 f.status,
    fQ (mkQuality (decide (f.status ≤ 1)) false false false false false (decide ((s.node n).adm = .pending)) false),
    fN 4 f.r0, fN 4 f.sigmaR0, fN 4 f.l, fN 4 f.r1, fN 4 f.tau1, fN 2 f.alpha1, fN 2 f.chi2, fN 4 f.r2, fN 4 f.tau2]

/-- The model of 06 R171 at a frequency in Hz: R0, sigma, L, R1, tau1, alpha1, R2 and tau2, the last two left out of the reduced model. -/
def fitModel (p : List Rat) (reduced : Bool) (f : Rat) : Cplx :=
  let x := fun i => p.getD i 0
  let w := 2 * Config.pi * f
  let one : Cplx := { re := 1, im := 0 }
  let m := Config.exp (x 5 * Config.ln (w * x 4))
  let zarc := (one.add { re := m * Config.cosTurn (x 5 / 4), im := m * Config.sinTurn (x 5 / 4) }).inv.scale (x 3)
  let slow := (one.add { re := 0, im := w * x 7 }).inv.scale (x 6)
  (({ re := x 0, im := w * x 2 } : Cplx).add zarc).add (if reduced then {} else slow)

/-- Reduced chi squared of fitted parameters (06 R171): weighted residuals of both parts of each point over the degrees of freedom. -/
def fitChi (pts : List (Rat × Rat × Rat × Rat)) (p : List Rat) (reduced : Bool) : Rat :=
  let res := sumR (pts.map fun e => e.2.2.2 * ((fitModel p reduced e.1).sub { re := e.2.1, im := e.2.2.1 }).sq)
  res / ((2 * pts.length - (if reduced then 5 else 7) : Nat) : Rat)

/-- The Levenberg-Marquardt fit of one cell to the latest valid estimates of its slots (06 R171; log 23); the reduced model carries R2 and tau2
forward. -/
def State.fitCell (s : State) (p : TonePlan) (cell : Nat) : State :=
  let ok := (List.range p.count).filter fun i => decide ((s.imp cell i).okFreq ≠ 0 ∧ (s.imp cell i).okFreq = p.freqs.getD i 0)
  let fs := ok.map fun i => p.freqs.getD i 0
  let lo := fs.foldl min (fs.headD 0)
  let hi := fs.foldl max 0
  let enough := decide (4 ≤ ok.length) && decide (100 * lo ≤ hi)
  let old := s.fit cell
  let f : Fit := if !enough then { old with status := 2, sweep := s.sweepNo }
    else
      let reduced := fs.all windowBand
      let pts := ok.map fun i =>
        let x := s.imp cell i
        ((x.okFreq : Rat) / 10, x.okZ.re, x.okZ.im, 2 * x.okEta / x.okBound)
      let a0 : Rat := (s.cfg.fit.alphaLo : Rat) / 65536
      let a1 : Rat := (s.cfg.fit.alphaHi : Rat) / 65536
      let q := Config.lmFit pts reduced a0 a1 s.cfg.fit.iters
      let part := fun (i : Nat) (unit : Rat) => (clampInt 1 (two32 - 1) (roundOpen 49 (q.getD i 0 * unit))).toNat
      let r0 := part 0 1000000000
      let sg := (clampU 32 (roundOpen 49 (q.getD 1 0 * 1000000000))).toNat
      let r1 := part 3 1000000000
      let t1 := part 4 1000000
      let r2 := if reduced then old.r2 else part 6 1000000000
      let t2 := if reduced then old.tau2 else part 7 1000000
      let ch := (clampU 16 (roundOpen 49 (fitChi pts q reduced * 100))).toNat
      let status := if !Config.lmConverges pts reduced a0 a1 s.cfg.fit.iters then 4
        else if (s.cfg.fit.chi : Rat) / 100 < fitChi pts q reduced then 3 else if reduced then 1 else 0
      let good := decide (status ≤ 1)
      { old with
        status := status, sweep := s.sweepNo, r0 := r0, sigmaR0 := sg, l := part 2 1000000000000, r1 := r1, tau1 := t1
        alpha1 := (clampInt (s.cfg.fit.alphaLo : Nat) (min 65535 s.cfg.fit.alphaHi : Nat) (roundOpen 49 (q.getD 5 0 * 65536))).toNat
        chi2 := ch, r2 := r2, tau2 := t2, temp := s.cellTemp cell
        valid := old.valid || good, validR0 := if good then r0 else old.validR0
        validSigma := if good then sg else old.validSigma, validSweep := if good then s.sweepNo else old.validSweep
        validR1 := if good then r1 else old.validR1, validTau1 := if good then t1 else old.validTau1
        validR2 := if good then r2 else old.validR2, validTau2 := if good then t2 else old.validTau2
        validTemp := if good then s.cellTemp cell else old.validTemp }
  let s1 := s.onSage fun g => { g with
    fits := g.fits.put cell {} f
    islandR0 := if enough && decide (f.status ≤ 1) then g.islandR0.put cell (0, 0, 0) (f.r0, f.sigmaR0, s.sweepNo) else g.islandR0 }
  s1.publish (0x04005000 + cell) (s1.fitRecord cell)

/-- R0 + 3 sigma as protection uses it, in nOhm (06 R173): from a valid fit no older than the age limit, else the fallback. -/
def State.protR0 (s : State) (cell : Nat) : Nat :=
  let x := s.sg.islandR0.get cell (0, 0, 0)
  if x ≠ (0, 0, 0) ∧ (s.sweepNo + two32 - x.2.2) % two32 ≤ 1000 * s.cfg.derived.ageS then x.1 + 3 * x.2.1 else s.cfg.derived.fallbackR0

/-- The coefficients of a cell and SoC band. -/
def State.coef (s : State) (cell band : Nat) : Coef := s.sg.coefs.get (4 * cell + band) {}

/-- Mark an item of a node waiting to be written (07 R212): items 0x03 to 0x05. -/
def State.markItem (s : State) (n item : Nat) : State :=
  s.onNode n fun x => { x with waitItems := x.waitItems ||| 2 ^ (item - 3) }

/-- Plating indicator of a cell after a fit (06 R177): while the cell charges below the plating temperature and both coefficients of
R1_ref are learned, 0 otherwise; the class D event after the configured number of consecutive fits above the threshold. -/
def State.platingCell (s : State) (cell : Nat) : State :=
  let f := s.fit cell
  let c := s.coef cell (s.socBand cell)
  let d := s.cfg.derived
  let on := decide (f.status ≤ 1) && decide ((s.cell cell).current < 0) && qValid (s.cellTempQ cell) &&
    decide (s.cellTemp cell < d.platingTemp) && decide (c.flags / 4 % 4 = 3)
  let r1ref := Config.exp ((c.intercept : Rat) / 1000000 + (c.slope : Rat) / 100 / kelvin (s.cellTemp cell))
  let p := if on then clampS 16 (roundOpen 12 ((1 - (f.r1 : Rat) / 1000000000 / r1ref) * 1000)) else 0
  let run := if on && decide ((d.platingThr : Int) < p) then s.sg.platingRun.get cell 0 + 1 else 0
  let s1 := s.onSage fun g => { g with
    plating := g.plating.put cell 0 p
    platingRun := g.platingRun.put cell 0 run }
  if run = d.platingFits ∧ 0 < run then s1.record .plating cell (octetsOf 2 (wrapInt 2 p)) else s1

/-- R0 baseline of a cell at its present temperature, in nOhm (06 R178). -/
def State.baseline (s : State) (cell : Nat) : Rat :=
  let b := s.sg.bases.get cell {}
  let t := kelvin (s.cellTemp cell) - kelvin s.cfg.rating.refTemp
  (b.r0 : Rat) * (1 + (b.tempCo : Rat) / 1000000 * t)

/-- Insert a weighted value into a rising list. -/
def insertW (x : Nat × Nat) : List (Nat × Nat) → List (Nat × Nat)
  | [] => [x]
  | y :: r => if x.1 ≤ y.1 then x :: y :: r else y :: insertW x r

/-- The value at which the weight from below first reaches half of a total, above it where `past`. -/
def halfway (past : Bool) (total : Nat) : Nat → List (Nat × Nat) → Nat
  | _, [] => 0
  | acc, x :: r => if (if past then decide (total < 2 * (acc + x.2)) else decide (total ≤ 2 * (acc + x.2))) then x.1 else halfway past total (acc + x.2) r

/-- The median of values that each stand for a number of fits. -/
def medianOf (l : List (Nat × Nat)) : Rat :=
  let s := l.foldr insertW []
  let n := (s.map Prod.snd).foldl (· + ·) 0
  ((halfway false n 0 s + halfway true n 0 s : Nat) : Rat) / 2

/-- Contact indicator of a cell after a fit (06 R178): the baseline is the median of the valid fits of the first 30 days of
service, brought to the reference temperature; above the threshold the class D event. -/
def State.contactCell (s : State) (cell : Nat) : State :=
  let f := s.fit cell
  if 1 < f.status then s
  else
    let b := s.sg.bases.get cell {}
    let t := kelvin (s.cellTemp cell) - kelvin s.cfg.rating.refTemp
    let atRef := (roundOpen 13 ((f.r0 : Rat) / (1 + (b.tempCo : Rat) / 1000000 * t))).toNat
    let newDay := decide (b.dayAt + sec 86400 ≤ s.now)
    let samples := if b.fixed then [] else (atRef, 1) :: b.samples
    let med := (roundOpen 14 (medianOf samples)).toNat
    let fix := !b.fixed && newDay && decide (30 ≤ b.days + 1)
    let b' : Baseline := if b.fixed then b else
      { b with samples := if fix then [] else samples, running := med, days := if newDay then min 65535 (b.days + 1) else b.days
               dayAt := if newDay then s.now else b.dayAt, fixed := fix, r0 := med }
    let s1 := s.onSage fun g => { g with bases := g.bases.put cell {} b' }
    let n := (s.cfg.nodeOfCell cell).getD 0
    let s2 := if !b.fixed && newDay then s1.markItem n 5 else s1
    let ind := roundOpen 15 ((f.r0 : Rat) - s2.baseline cell)
    let was := s2.sg.contactInd.get cell 0
    let s3 := s2.onSage fun g => { g with contactInd := g.contactInd.put cell 0 (clampS 32 ind) }
    let meds := medianR ((s3.cfg.allCells.filter fun c => (s3.fit c).valid).map fun c => ((s3.fit c).validR0 : Rat))
    if (s.cfg.derived.contactThr : Int) < ind ∧ ¬ (s.cfg.derived.contactThr : Int) < was then
      s3.record .contactDegraded cell (octetsOf 4 (wrapInt 4 (roundOpen 16 ((f.r0 : Rat) - meds.getD 0))))
    else s3

/-- EQUIVALENT_CIRCUIT_FIT (06 R171 to R173, R177, R178). -/
def execEquivalentCircuitFit (t : Nat) (s : State) : Host.Outcome State Fault Refusal :=
  s.run t fun s =>
    if !s.sageRuns then s else
    match s.planAt s.sweepNo with
    | none => s
    | some p => s.turn 6 (sec 10) fun s => s.cfg.allCells.foldl (fun s c => ((s.fitCell p c).platingCell c).contactCell c) s

/-! ### Internal temperature (06 R174 to R176) -/

/-- dR of a cell in ohm (06 R174): real part at the temperature tone less R0 of the latest valid fit; none where it is not above zero,
the estimate is not valid or no fit stands. -/
def State.dR (s : State) (cell : Nat) : Option Rat :=
  match s.cfg.tone.tempSlot with
  | none => none
  | some i =>
    let x := s.imp cell i
    let f := s.fit cell
    let d := x.z.re - (f.validR0 : Rat) / 1000000000
    if x.status = 0 ∧ x.eligible ≠ 0 ∧ f.valid ∧ 0 < d then some d else none

/-- b of a cell's coefficients in K: the default until learned (06 R175). -/
def State.bOf (s : State) (c : Coef) : Rat := if c.flags.testBit 1 then (c.b : Rat) / 100 else (s.cfg.derived.bDefault : Rat)

/-- Internal temperature of a cell in 0.01 degC (06 R174), noTemp where missing. -/
def State.internalTemp (s : State) (cell : Nat) : Int :=
  match s.dR cell with
  | none => noTemp
  | some d =>
    let c := s.coef cell (s.socBand cell)
    clampS 16 (roundOpen 17 (s.bOf c / (Config.ln d - (c.a : Rat) / 1000000) * 100) - 27315)

/-- The internal temperature carries valid (06 R174): a has been learned. -/
def State.internalValid (s : State) (cell : Nat) : Bool :=
  !decide (s.sg.tInt.get cell noTemp = noTemp) && (s.coef cell (s.socBand cell)).flags.testBit 0

/-- The internal temperature and the sensor disagree beyond the cross-check limit (06 R176). -/
def State.intDisagrees (s : State) (cell : Nat) : Bool :=
  s.internalValid cell && qValid (s.cellTempQ cell) &&
    decide (s.cfg.derived.crossLimit < (s.sg.tInt.get cell noTemp - s.cellTemp cell).natAbs)

/-- The cell derived record (24 R566). -/
def State.derivedRecord (s : State) (cell : Nat) : List Nat :=
  let ti := s.sg.tInt.get cell noTemp
  let ch := s.tchan (s.sensorChan cell)
  s.body [fN 2 cell, (2, if qMissing ch.quality then 0 else ch.value), (2, if ti = noTemp then 0 else ti), (2, s.sg.plating.get cell 0), (4, s.sg.contactInd.get cell 0),
    fN 1 ch.source, fB [decide (s.cfg.derived.platingFits ≤ s.sg.platingRun.get cell 0),
      decide ((s.cfg.derived.contactThr : Int) < s.sg.contactInd.get cell 0), decide (60 ≤ s.sg.tIntDis.get cell 0)],
    fQ (mkQuality (s.internalValid cell) false (decide (ti = noTemp)) false false false false false), fQ ch.quality]

/-- The way of a cell to equilibrium (06 R175; log 49): the sensor temperature keeps within 0.5 K of the one at the begin of each hour. -/
def State.eqStep (s : State) (cell : Nat) : State :=
  let v := s.cellTemp cell
  let e : Option EqRef :=
    if !qValid (s.cellTempQ cell) then none
    else match s.sg.eqRefs.get cell none with
      | none => some { temp := v, hourAt := s.now, since := s.now }
      | some e =>
        if 50 ≤ (v - e.temp).natAbs then some { temp := v, hourAt := s.now, since := s.now }
        else if e.hourAt + sec 3600 ≤ s.now then some { e with temp := v, hourAt := s.now }
        else some e
  s.onSage fun g => { g with eqRefs := g.eqRefs.put cell none e }

/-- INTERNAL_TEMPERATURE_UPDATE (06 R174, R176; 24 R566): every second. -/
def execInternalTemperatureUpdate (t : Nat) (s : State) : Host.Outcome State Fault Refusal :=
  s.run t fun s => if !s.sageRuns then s else s.turn 7 (sec 1) fun s => s.cfg.allCells.foldl (fun s c =>
    let s1 := s.onSage fun g => { g with tInt := g.tInt.put c noTemp (s.internalTemp c) }
    let n := if s1.intDisagrees c then s1.sg.tIntDis.get c 0 + 1 else 0
    let s2 := (s1.onSage fun g => { g with tIntDis := g.tIntDis.put c 0 n }).eqStep c
    s2.publish (0x04006000 + c) (s2.derivedRecord c)) s

/-- A cell is in equilibrium (06 R175): within 0.5 K/h for 2 h, |IB| of its branch below 2 A all that time. -/
def State.atEquilibrium (s : State) (cell : Nat) : Bool :=
  (match s.sg.eqRefs.get cell none with | some e => decide (e.since + sec 7200 ≤ s.now) | none => false) &&
    s.heldFor (s.sg.ibLow.get (cell / 512) none) (sec 7200)

/-- The coldest and the warmest of the equilibria held, the newest of one temperature. -/
def holdLo (p : EqPoint) : Option EqPoint → EqPoint
  | some q => if p.temp ≤ q.temp then p else q
  | none => p
def holdHi (p : EqPoint) : Option EqPoint → EqPoint
  | some q => if q.temp ≤ p.temp then p else q
  | none => p

/-- The equilibrium held that lies farthest from a new one, at least 5 K (06 R175). -/
def farPoint (p : EqPoint) (lo hi : Option EqPoint) : Option EqPoint :=
  let far := (lo.toList ++ hi.toList).filter fun q => decide (500 ≤ (p.temp - q.temp).natAbs)
  far.foldl (fun m q => match m with
    | some x => if (p.temp - x.temp).natAbs < (p.temp - q.temp).natAbs then some q else some x
    | none => some q) none

/-- EQUILIBRIUM_LEARNING (06 R175, R177, R178): a cell in equilibrium sets a from its sensor temperature; two equilibria at least 5 K apart teach b,
the slope of R1_ref and the coefficient of the baseline. -/
def equilibrium (cell : Nat) (s : State) : State :=
  match s.dR cell with
  | none => s
  | some d =>
    if !s.atEquilibrium cell then s
    else
      let band := s.socBand cell
      let c := s.coef cell band
      let f := s.fit cell
      let temp := s.cellTemp cell
      let inv : Rat := 1 / kelvin temp
      let p : EqPoint := { temp := temp, y := Config.ln d, z := Config.ln ((f.validR1 : Rat) / 1000000000) }
      let far := farPoint p c.lo c.hi
      let b : Rat := match far with | some q => (p.y - q.y) / (inv - 1 / kelvin q.temp) | none => s.bOf c
      let slope : Rat := match far with | some q => (p.z - q.z) / (inv - 1 / kelvin q.temp) | none => (c.slope : Rat) / 100
      let c' : Coef := { c with
        a := clampS 32 (roundOpen 18 ((p.y - b * inv) * 1000000))
        b := if far.isSome then (clampU 32 (roundOpen 18 (b * 100))).toNat else c.b
        intercept := clampS 32 (roundOpen 18 ((p.z - slope * inv) * 1000000))
        slope := if far.isSome then (clampU 32 (roundOpen 18 (slope * 100))).toNat else c.slope
        firstTemp := if c.flags.testBit 0 then c.firstTemp else temp
        flags := c.flags ||| (if far.isSome then 15 else 5)
        lo := some (holdLo p c.lo), hi := some (holdHi p c.hi) }
      let bs := s.sg.bases.get cell {}
      let r : EqPoint := { temp := temp, y := (f.validR0 : Rat) }
      let ref := fun (x : Int) => kelvin x - kelvin s.cfg.rating.refTemp
      let bs' : Baseline := { bs with
        lo := some (holdLo r bs.lo), hi := some (holdHi r bs.hi)
        tempCo := match farPoint r bs.lo bs.hi with
          | some q => clampS 32 (roundOpen 18 ((r.y - q.y) / (q.y * ref temp - r.y * ref q.temp) * 1000000))
          | none => bs.tempCo }
      let s1 := s.onSage fun g => { g with
        coefs := g.coefs.put (4 * cell + band) {} c'
        bases := g.bases.put cell {} bs' }
      let n := (s.cfg.nodeOfCell cell).getD 0
      let s2 := if { c' with lo := c.lo, hi := c.hi } = c then s1 else s1.markItem n 4
      if bs'.tempCo = bs.tempCo then s2 else s2.markItem n 5

/-- EQUILIBRIUM_LEARNING (06 R175). -/
def execEquilibriumLearning (t : Nat) (cell : Fin 2048) (s : State) : Host.Outcome State Fault Refusal :=
  s.run t fun s => if s.sageRuns then equilibrium cell.val s else s

/-! ### Tap learning (05 R138) -/

/-- The raw change of cell channel e of a node from the sweep before to sweep i of a set, both values valid (05 R138). -/
def State.rawStep (s : State) (w : Sweep4) (n i e : Nat) : Option Int :=
  let c := s.cfg.cellOfNode n e
  let now := w.samples.get (4 * c + i) {}
  let before := if 0 < i then w.samples.get (4 * c + i - 1) {}
    else ((s.sg.subSets.find? fun x => decide (x.first = (w.first + two32 - 4) % two32)).map fun x => x.samples.get (4 * c + 3) {}).getD { quality := qAbsent }
  if decide (e < 16) && qValid now.quality && qValid before.quality then some (now.raw - before.raw) else none

/-- What a step of the currents at a sweep tells of tap j (05 R136, R138), as pairs of a current in kA and the voltage in uV it makes
across the tap: one pair for each cell beside it whose raw change is known, less the part of the cell's other tap. -/
def State.tapSteps (s : State) (w : Sweep4) (n i j : Nat) : List (Rat × Rat) :=
  let x := s.node n
  let a := (w.first + i) % two32
  let d : Int → Rat := fun k => x.effCur a k - x.effCur ((a + two32 - 1) % two32) k
  let k := (j : Int)
  let h := (d k - d (k - 1)) / 1000000
  let upper := (s.rawStep w n i j).map fun (r : Int) => (h, -((r : Rat) + (s.rho n (j + 1) : Rat) * (d k - d (k + 1)) / 1000000))
  let lower := if j = 0 then none
    else (s.rawStep w n i (j - 1)).map fun (r : Int) => (-h, -((r : Rat) + (s.rho n (j - 1) : Rat) * (d (k - 1) - d (k - 2)) / 1000000))
  if h = 0 then [] else upper.toList ++ lower.toList

/-- One observation in recursive least squares (05 R138): estimate and its variance, none before the first. -/
def rlsStep (e : Option (Rat × Rat)) (o : Rat × Rat) : Option (Rat × Rat) :=
  let v := absR Config.tapVariance
  match e with
  | none => some (o.2 / o.1, v / (o.1 * o.1))
  | some (r, p) =>
    let q := v + o.1 * o.1 * p
    some (r + p * o.1 / q * (o.2 - o.1 * r), p * v / q)

/-- A step of the balancing currents beside a tap enters its estimate (05 R138; log 24); it converges with 8 steps and an uncertainty
within the bound, and its block waits to be written (07 R214). -/
def State.tapStep (s : State) (n j : Nat) (obs : List (Rat × Rat)) : State :=
  let old := s.tap n j
  match obs.foldl rlsStep (if old.steps = 0 then none else some ((old.rho : Rat), (old.sigma : Rat) * (old.sigma : Rat))) with
  | none => s
  | some (r, p) =>
    let rho := (clampU 32 (roundOpen 18 r)).toNat
    let sigma := (clampU 32 (roundOpen 18 (Config.sqrt p))).toNat
    let steps := min 65535 (old.steps + 1)
    let conv := decide (8 ≤ steps ∧ sigma ≤ 1000 * s.cfg.taps.bound)
    let s3 := s.onTap n j fun x => { x with rho := rho, sigma := sigma, steps := steps, converged := conv }
    let moved := decide (sigma < ((rho : Int) - (old.written : Int)).natAbs) && decide ((s.node n).tapAt + sec 60 ≤ s.now)
    if obs.isEmpty then s else if (conv && !old.converged) || moved then s3.markItem n 3 else s3

/-- A free number within bounds (log 10). -/
def freeIn (lo hi : Nat) (s : State) : Nat × State :=
  let r := s.freshNat
  (lo + r.1 % (hi - lo + 1), r.2)

/-! ### Sage's time (06 R179, R180) -/

/-- SAGE_CYCLE (06 R179, R180; 22 R544): foreground to 850 us, beyond it with credit, background for the rest; work not done is
carried, and beyond 4 carried cycles work is shed in order. -/
def sageCycle (work : Nat) (s : State) : State :=
  let g := s.sg
  let fg := g.fgLeft + work
  let spent := g.bgHist.foldl (· + ·) 0
  let credit := if fg ≤ 850 then 0 else min 150 (spent + 150 - 10000)
  let fgTime := min fg (850 + credit)
  let left := fg - fgTime
  let bg := if fg ≤ 850 then 150 else 1000 - fgTime
  let carried := if left = 0 then 0 else g.carried + 1
  let (shedLeft, s0) := freeIn 0 left s
  let shed := decide (4 < carried)
  let s1 := s0.onSage fun g => { g with
    fgLeft := if shed then shedLeft else left
    bgHist := (bg :: g.bgHist).take 99
    carried := carried
    carries := if left = 0 then g.carries else wrapInc g.carries
    corrDecimated := if left = 0 then false else g.corrDecimated || shed
    excludedSub := g.excludedSub || (shed && g.corrDecimated)
    shedInterval := g.shedInterval || (shed && g.corrDecimated && g.excludedSub) }
  let s2 := (s1.sample 1 fgTime).sample 3 (roundOpen 46 (((spent + bg : Nat) : Rat) / 10))
  if left = 0 ∧ 0 < g.carried then s2.sample 2 g.carried else s2

/-- SAGE_CYCLE (06 R179). -/
def execSageCycle (t : Nat) (work : Nat) (s : State) : Host.Outcome State Fault Refusal := s.run t fun s => if s.sageRuns then s.turn 8 (ms 1) (sageCycle work) else s

end Sys2Proof.Machine
end

