-- ==== Sys2Proof/Machine/Charge.lean ====
section
/-! DEFINITION. Sys2Proof/Machine/Charge.lean: charge, capacity and health estimation (chapter 07), with the converter model it
counts by (09 R241, R242). -/

namespace Sys2Proof.Machine

open Sys2Proof

/-! ### The converter model (09 R241, R242) -/

/-- The loss of a converter moving power x (09 R241): each fraction applies to one third of the rating. -/
def lossOf (fr : List Nat) (rating x : Rat) : Rat :=
  let third := rating / 3
  let seg := fun (k : Nat) => let r := x - (k : Rat) * third
    if r ≤ 0 then 0 else if k < 2 then min r third else r
  sumR ((List.range 3).map fun k => (fr.getD k 0 : Rat) / 10000 * seg k)

/-- OCV of a cell in V (07 R189): interpolated in SoC and temperature, its curves mixed by h. -/
def State.ocv (s : State) (soc : Rat) (temp : Int) (h : Rat) : Rat :=
  let o := s.cfg.ocv
  let f := fun (rows : List (List Nat)) => interp2 o.temps o.socs (rows.map fun r => r.map fun v => (v : Rat)) (temp : Rat) (soc * 40000) / 1000000
  f o.dis + (h + 1) / 2 * (f o.chg - f o.dis)

/-- The OCV curve of a temperature and h as points of SoC fraction and V. -/
def State.ocvPoints (s : State) (temp : Int) (h : Rat) : List (Rat × Rat) :=
  s.cfg.ocv.socs.map fun c => let x : Rat := (c : Rat) / 40000; (x, s.ocv x temp h)

/-- The SoC of a voltage on a curve, held at the outermost points: the lowest where several share it. -/
def invCurve (v : Rat) : List (Rat × Rat) → Rat
  | [] => 0
  | [(x, _)] => x
  | (x0, y0) :: (x1, y1) :: r =>
    if v ≤ y0 then x0
    else if v ≤ y1 then x0 + (x1 - x0) * (v - y0) / (y1 - y0)
    else invCurve v ((x1, y1) :: r)

/-- The slope of a curve at a SoC, V per unit SoC; 0 beyond the outermost points. -/
def slopeCurve (x : Rat) : List (Rat × Rat) → Rat
  | (x0, y0) :: (x1, y1) :: r =>
    if x < x0 then 0 else if x ≤ x1 then (y1 - y0) / (x1 - x0) else slopeCurve x ((x1, y1) :: r)
  | _ => 0

/-- Reported SoC of a cell (07 R192, R198): in count-empty the floor and the charge counted in since; else the filter's, within
0 to 100 %. -/
def State.reported (s : State) (c : Nat) : Rat :=
  let x := s.cell c
  if x.agree = .countEmpty then
    let fl : Rat := (s.cfg.dis.floor : Rat) / 10000
    max fl (fl + (x.chargedIn : Rat) / 1000 / x.q)
  else max 0 (min 1 x.soc)

/-- The cell has had no admitted voltage for 1 s (07 R208, R209). -/
def State.voltOld (s : State) (c : Nat) : Bool := !(s.cell c).live || decide ((s.cell c).lastAdmit + sec 1 ≤ s.now)

/-- v_j of the converter model in V (09 R242): the latest admitted value, or ocv() at the reported SoC after 1 s without one. -/
def State.modelVolt (s : State) (c : Nat) : Rat :=
  if s.voltOld c then s.ocv (s.reported c) (s.cellTemp c) (s.cell c).h else (s.acq.lastAdmitted.get c 0 : Rat) / 1000000

/-- Stack voltage of a node in V (09 R242). -/
def State.stackVolt (s : State) (n : Nat) : Rat := sumR ((s.cfg.cellsOfNode n).map s.modelVolt)

/-- Return current of a node in a sweep, in mA (09 R242). -/
def State.retCurrent (s : State) (n sweep : Nat) : Rat :=
  let m := s.cfg.convModel
  let x := s.node n
  let cellMw := fun (c : Nat) =>
    let v := s.modelVolt c
    let i := x.effCur sweep ((c % 16 : Nat) : Int)
    let p := v * absR i
    let l := lossOf m.c (3000 * v) p
    if 0 < i then p - l else if i < 0 then -(p + l) else 0
  let bus := x.effPower sweep * 10
  let lb := lossOf m.st 100000 (absR bus)
  let busMw := if 0 < bus then -(bus + lb) else if bus < 0 then absR bus - lb else 0
  (sumR ((s.cfg.cellsOfNode n).map cellMw) + busMw) / s.stackVolt n

/-! ### Tables by temperature and rate -/

/-- Rate in C of a current in mA: units of the rated capacity per hour (07 R185). -/
def State.cRate (s : State) (ma : Rat) : Rat := ma * 3600 / (s.cfg.rating.capacity : Rat)

/-- The rate r of a cell in 0.01 C (07 R185): its current over the last 60 s, the reference rate while that charges. -/
def State.rateOf (s : State) (c : Nat) : Rat :=
  let x := s.cell c
  let avg := if x.rateHist.isEmpty then 0 else x.rateSum / (x.rateHist.length : Rat)
  if avg < 0 then (s.cfg.rating.refRate : Rat) else s.cRate avg * 100

/-- Capacity factor f at a temperature and a rate in 0.01 C (07 R185). -/
def State.capFactor (s : State) (temp : Int) (rate : Rat) : Rat :=
  interp2 s.cfg.capFac.temps (s.cfg.capFac.rates.map Int.ofNat) (s.cfg.capFac.f.map fun r => r.map fun v => (v : Rat)) (temp : Rat) rate / 10000

/-- f of a cell at present. -/
def State.capNow (s : State) (c : Nat) : Rat := s.capFactor (s.cellTemp c) (s.rateOf c)

/-- Accessible SoC of a cell (07 R185). -/
def State.accessible (s : State) (c : Nat) : Rat := max 0 (s.reported c - (1 - s.capNow c))

/-- V_e of a cell in uV at its temperature and a discharge current, zero during charge (07 R198). -/
def State.emptyVolt (s : State) (c : Nat) (i : Rat) : Rat :=
  let r := if 0 < i then s.cRate i * 100 else 0
  interp2 s.cfg.empty.temps (s.cfg.empty.rates.map Int.ofNat) (s.cfg.empty.v.map fun r => r.map fun v => (v : Rat)) (s.cellTemp c : Rat) r

/-- Count SoC (07 R188). -/
def CellEst.countSoc (x : CellEst) : Rat := x.anchor.value - (x.count : Rat) / 1000 / x.q

/-- Leakage of a cell in mA (07 R205): relative plus nominal at its temperature. -/
def State.leakage (s : State) (c : Nat) : Rat :=
  let l := s.cfg.leak
  (s.cell c).lRel + (l.nom : Rat) / 1000 *
    Config.exp (Config.ln 2 * ((s.cellTemp c - 2500 : Int) : Rat) / (l.doubling : Rat))

/-! ### The counted current (07 R186, R187) -/

/-- IB of a branch in a sweep with its substitutes (07 R187): IS less the other joined branches, else the sweep before; the flag
says that the count is degraded. -/
def State.countedIb (s : State) (b sweep : Nat) : Int × Bool :=
  let v := s.chanAt sweep b
  if !qMissing v.quality then (v.avg, false)
  else
    let others := s.joined.filter fun x => !decide (x = b)
    let is := s.chanAt sweep 4
    if qValid is.quality && others.all (fun x => qValid (s.chanAt sweep x).quality) then
      (is.avg - sumI (others.map fun x => (s.chanAt sweep x).avg), false)
    else (s.ch.ibUsed.get b 0, true)

/-- A node is taken to receive beacons: it is in service and not silent as long as it takes to stop reporting (03 R76; 07 R186; log 112). -/
def State.hearsBeacons (s : State) (n : Nat) : Bool :=
  !decide (s.pw.state = .hibernate) && (s.node n).inService && decide ((s.node n).silence < if s.pw.state = .run then 25 else 2)

/-- Supply current of a node in mA (07 R186). -/
def State.nodeSupply (s : State) (n : Nat) : Rat :=
  (if s.hearsBeacons n then (s.cfg.rating.awakeUa : Rat) else (s.cfg.rating.sleepUa : Rat)) / 1000

/-! ### Capacity learning (07 R200 to R202) -/

/-- A node block waits to be written (07 R212). -/
def State.markBlock (s : State) (c : Nat) : State :=
  match s.cfg.nodeOfCell c with | some n => s.onNode n fun x => { x with waiting := true } | none => s

/-- The block of a node in service changes (07 R212). -/
def State.markChanged (s : State) (c : Nat) : State :=
  if (s.node ((s.cfg.nodeOfCell c).getD 0)).inService then s.markBlock c else s

/-- Close the fade-and-leakage check of a cell (07 R200). -/
def State.closeCheck (s : State) (c : Nat) : State :=
  let x := s.cell c
  if !x.checkOpen then s
  else
    let fade := decide (x.q < x.checkQ - (s.cfg.capLearn.fade : Rat) / 10000 * x.checkQ)
    let leak := decide ((s.cfg.leak.watch : Rat) / 1000 ≤ x.lRel) || decide ((s.cfg.leak.trend : Rat) / 1000 < x.lRel - x.checkL)
    let s1 := (s.onCell c fun x => { x with checkOpen := false }).markBlock c
    let s2 := if fade then s1.record .fadeConfirmed c [] else s1
    let s3 := if leak then s2.record .leakConfirmed c [] else s2
    if fade || leak then s3 else s3.record .unexplained c []

/-- A capacity-learning pair (07 R202): the measured capacity of two anchors combined with the learned one. -/
def State.learnPair (s : State) (c : Nat) (a1 : Anchor) (a2 s2 : Rat) : State :=
  let x := s.cell c
  let k := s.cfg.capLearn
  let t12 : Rat := ((s.now - a1.atNs : Nat) : Rat) / 1000000000
  let dq := -((x.count : Rat) / 1000) - s.leakage c * t12
  let qm := dq / (a2 - a1.a)
  let g : Rat := (k.gain : Rat) / 10000
  let sm2 := a1.sigma * a1.sigma + s2 * s2 + g * g
  let days : Rat := ((s.now - x.qAt : Nat) : Rat) / 86400000000000
  let so := x.qSigma + (k.drift : Rat) / 10000 * days
  let so2 := so * so
  let gain := so2 / (so2 + sm2)
  let free := gain * (qm - x.q)
  let lim := (k.step : Rat) / 10000 * x.q
  let step := max (-lim) (min lim free)
  let s1 := s.onCell c fun x => { x with
    q := fine (x.q + step), qSigma := fine (Config.sqrt (so2 * sm2 / (so2 + sm2))), qAt := s.now, learned := true, defaultState := false }
  let s2 := if step = free then s1 else s1.record .capStep c (octetsOf 4 (wrapInt 4 (roundOpen 19 free)))
  s2.markBlock c

/-- Two successive anchors form a pair (07 R201). -/
def State.pairOk (s : State) (c : Nat) (a1 : Anchor) (a2 s2 : Rat) : Bool :=
  let x := s.cell c
  let mx : Rat := (s.cfg.capLearn.maxSigma : Rat) / 10000
  decide (a1.kind ≠ 0) && decide (a1.sigma ≤ mx) && decide (s2 ≤ mx) &&
    decide ((s.cfg.capLearn.minSpan : Rat) / 10000 ≤ absR (a2 - a1.a)) && !x.degraded && !x.broken && !x.learnOff

/-- An anchor (07 R193, R198, R201): a pair with the anchor before it is learned and closes an open check; soc is combined with the
value by inverse variances, the count restarts at the combined value, and the anchor is stored. Its sweep number is that of the command (log 113). It ends the states R198 names. -/
def State.anchorCell (s : State) (c kind : Nat) (a sigma : Rat) : State :=
  let x0 := s.cell c
  let s1 := if s.pairOk c x0.anchor a sigma then (s.learnPair c x0.anchor a sigma).closeCheck c else s
  let x := s1.cell c
  let p := x.cov.getD 0 0
  let var := sigma * sigma
  let tot := p + var
  let soc := fine (if !x.live then a else if tot = 0 then x.soc else (x.soc * var + a * p) / tot)
  let p' := fine (if !x.live then var else if tot = 0 then 0 else p * var / tot)
  let ends := decide (x.agree = .countEmpty) && decide (kind ≤ 3)
  let endv := decide (x.agree = .voltageEmpty) && decide (kind = 1 ∨ kind = 2)
  s1.onCell c fun x => { x with
    live := true
    soc := soc
    cov := p' :: (if x.cov.isEmpty then List.replicate 15 0 else x.cov.drop 1)
    count := 0
    degraded := false
    broken := ends
    learnOff := if x.agree = .countEmpty then x.learnOff && !ends else if kind ≤ 3 then false else x.learnOff
    agree := if ends || endv then .agree else x.agree
    anchor := { kind := kind, value := soc, sigma := sigma, sweep := s.sweepNo, a := a, atNs := s.now } }

/-! ### The filter (07 R189 to R191) -/

/-- The latest fit of a cell with status 0 or 1 serves the filter (07 R190): within the age and temperature limits. -/
def State.fitUsable (s : State) (c : Nat) : Bool :=
  let f := s.fit c
  f.valid && decide ((s.sweepNo + two32 - f.validSweep) % two32 ≤ 1000 * s.cfg.filter.ageS) &&
    decide ((s.cellTemp c - f.validTemp).natAbs ≤ 500)

/-- Model parameters of a cell in ohm and s: R0, R1, R2, tau1, tau2 (07 R190). -/
def State.params (s : State) (c : Nat) : Rat × Rat × Rat × Rat × Rat :=
  let f := s.fit c
  let g := s.cfg.filter
  if s.fitUsable c then
    ((f.validR0 : Rat) / 1000000000, (f.validR1 : Rat) / 1000000000, (f.validR2 : Rat) / 1000000000,
      (f.validTau1 : Rat) / 1000000, (f.validTau2 : Rat) / 1000000)
  else ((s.cfg.derived.fallbackR0 : Rat) / 1000000000, (g.r1 : Rat) / 1000000000, (g.r2 : Rat) / 1000000000,
    (g.tau1 : Rat) / 1000000, (g.tau2 : Rat) / 1000000)

/-- An entry of the covariance. -/
def CellEst.p (x : CellEst) (i j : Nat) : Rat := x.cov.getD (4 * i + j) 0

/-- soc within -5 % to 105 % (07 R189). -/
def limitSoc (x : Rat) : Rat := max (-5 / 100) (min (105 / 100) x)

/-- The prediction of one sweep at current i in mA (07 R188, R189, R203): the count, the equivalent cycles, the averages, and the
state with its covariance, each kept to the model's resolution (log 27). -/
def State.predict (s : State) (c : Nat) (current : Rat) (degraded : Bool) (bal : Rat) : State :=
  let i := fine current
  let (_, r1, r2, t1, t2) := s.params c
  let dt : Rat := 1 / 1000
  let e1 := Config.exp (-dt / t1)
  let e2 := Config.exp (-dt / t2)
  let x := s.cell c
  let ia := i / 1000
  let qh := (s.cfg.ocv.hyst : Rat) / 1000 * x.q
  let kh := absR i * dt / qh
  let f := fun (j : Nat) => match j with | 0 => (1 : Rat) | 1 => e1 | 2 => e2 | _ => 1 - kh
  let qs := (s.cfg.capLearn.gain : Rat) / 10000 * absR i * dt / x.q
  let sg : Rat := if i < 0 then 1 else if 0 < i then -1 else 0
  let full := decide (60000 ≤ x.rateHist.length)
  let oldest := if full then x.rateHist.getLastD 0 else 0
  let up : CellEst := { x with
    current := i
    count := x.count + roundOpen 20 i
    degraded := x.degraded || degraded
    predOnly := true
    efc := fine (x.efc + absR i * dt / (2 * (s.cfg.rating.capacity : Rat)))
    chargedIn := x.chargedIn - roundOpen 20 i
    degNow := degraded
    balCharge := fine (x.balCharge + bal * dt)
    rateHist := i :: (if full then x.rateHist.dropLast else x.rateHist)
    rateSum := x.rateSum + i - oldest
    restRun := if absR i ≤ (s.cfg.anchor.restMa : Rat) then x.restRun + 1 else 0
    restVolts := if absR i ≤ (s.cfg.anchor.restMa : Rat) then x.restVolts else []
    emptyRun := x.emptyRun }
  let s0 := if (up.efc * 100).floor = (x.efc * 100).floor then s else s.markChanged c
  s0.onCell c fun _ => if !x.live then up else { up with
    soc := fine (x.soc - i * dt / x.q)
    u1 := fine (x.u1 * e1 + r1 * (1 - e1) * ia)
    u2 := fine (x.u2 * e2 + r2 * (1 - e2) * ia)
    h := fine (x.h + kh * (sg - x.h))
    cov := (List.range 16).map fun k => fine (f (k / 4) * x.p (k / 4) (k % 4) * f (k % 4) + (if k = 0 then qs * qs else 0)) }

/-- The gated update with an admitted corrected value in uV and the cell current of its sweep in mA (07 R189). A cell in the default learned state starts from its first one
with 10 % uncertainty, anchor type 5 (07 R216). -/
def State.update (s : State) (c : Nat) (v : Int) (i : Rat) : State :=
  let x := s.cell c
  let temp := s.cellTemp c
  let volt : Rat := (v : Rat) / 1000000
  let s0 := s.onCell c fun x => { x with lastAdmit := s.now, predOnly := false }
  if !x.live then s0.anchorCell c 5 (invCurve volt (s.ocvPoints temp 0)) (1 / 10)
  else
    let (r0, _, _, _, _) := s.params c
    let pred := s.ocv x.soc temp x.h - r0 * i / 1000 - x.u1 - x.u2
    let hs := slopeCurve x.soc (s.ocvPoints temp x.h)
    let hh := (s.ocv x.soc temp 1 - s.ocv x.soc temp (-1)) / 2
    let hv : List Rat := [hs, -1, -1, hh]
    let pht := (List.range 4).map fun i => sumR ((List.range 4).map fun j => x.p i j * hv.getD j 0)
    let noise : Rat := (s.cfg.filter.noise : Rat) / 1000000
    let sv := dot hv pht + noise * noise
    let e := volt - pred
    let g : Rat := (s.cfg.filter.gate : Rat)
    if e * e ≤ g * g * sv then
      let kk := fun (i : Nat) => pht.getD i 0 / sv
      s0.onCell c fun x => { x with
        soc := fine (x.soc + kk 0 * e), u1 := fine (x.u1 + kk 1 * e), u2 := fine (x.u2 + kk 2 * e), h := fine (x.h + kk 3 * e)
        cov := (List.range 16).map fun k => fine (x.p (k / 4) (k % 4) - kk (k / 4) * pht.getD (k % 4) 0) }
    else s0.onCell c fun x => { x with gated := wrapInc x.gated }

/-- The end of a filter step (07 R189). -/
def State.limitCell (s : State) (c : Nat) : State := s.onCell c fun x => { x with soc := limitSoc x.soc }

/-- The agreement state of a cell in a sweep (07 R198, R200). `v` is the admitted corrected value of the sweep in uV, if any, and `i` its cell
current in mA. -/
def State.agreeCell (s : State) (c : Nat) (v : Option Int) (i : Rat) : State :=
  let x := s.cell c
  let d := s.cfg.dis
  let ve := s.emptyVolt c i
  let f := s.capNow c
  let m : Rat := (d.margin : Rat)
  let low := match v with | some v => decide (0 < i) && decide ((v : Rat) ≤ ve) | none => false
  let high := match v with | some v => decide (ve + m < (v : Rat)) | none => false
  let run := if low then min 1000 (x.emptyRun + 1) else 0
  let s1 := s.onCell c fun x => { x with emptyRun := run }
  let empty := decide (d.debounce ≤ run) && decide (0 < run)
  let qrem := x.countSoc - (1 - f)
  let rev : Rat := (d.reverse : Rat) / 10000
  if !x.live then s1
  else match x.agree with
    | .agree =>
      if decide (qrem ≤ 0) && high then
        (s1.onCell c fun x => { x with agree := .countEmpty, learnOff := true, broken := true, chargedIn := 0 }).record .countEmpty c []
      else if empty && decide (rev < qrem) then
        let a := 1 - f
        let pair := decide (x.anchor.kind = 2) && !x.degraded && !x.broken
        let s2 := s1.onCell c fun x => { x with checkOpen := true, checkAt := s.now, checkQ := x.q, checkL := x.lRel }
        let s3 := if pair then (s2.learnPair c x.anchor a rev).onCell c fun x => { x with broken := true } else s2
        ((((s3.anchorCell c 4 a rev).onCell c fun x => { x with agree := .voltageEmpty, chargedIn := 0 }).markBlock c).record .voltageEmpty c [])
      else s1
    | .countEmpty => if empty then (s1.anchorCell c 4 (1 - f) rev).onCell c fun x => { x with agree := .agree, broken := true } else s1
    | .voltageEmpty =>
      if decide ((d.recovery : Rat) / 10000 * x.q ≤ (x.chargedIn : Rat) / 1000) && high then s1.onCell c fun x => { x with agree := .agree } else s1

/-! ### Taper windows (07 R195 to R197) -/

/-- A taper current of record 0x0409 in mA. -/
def State.taperMa (s : State) (milliC : Nat) : Rat := (milliC : Rat) / 1000 * (s.cfg.rating.capacity : Rat) / 3600

/-- One sweep of a taper window. -/
def TaperWin.sweep (w : TaperWin) (cond : Bool) (ib : Int) : TaperWin :=
  if w.done then
    if cond then { w with lapse := 0 }
    else if 60000 ≤ w.lapse + 1 then {} else { w with lapse := w.lapse + 1 }
  else if cond then { w with run := w.run + 1, sumI := w.sumI + ib } else { w with run := 0, sumI := 0 }

/-- The windows of a branch in a sweep, by the valid corrected voltages of the sweep (07 R195 to R197). -/
def State.taperSweep (s : State) (b sweep : Nat) (volts : List Int) : State :=
  let v := s.chanAt sweep b
  let a := s.cfg.anchor
  let mag : Rat := absR v.avg
  let within := !qMissing v.quality && decide (s.taperMa a.taperLo ≤ mag ∧ mag ≤ s.taperMa a.taperHi)
  let top := maxI (-8388608) volts
  let bot := minI 8388607 volts
  let up := within && decide (v.avg < 0) && !volts.isEmpty && decide ((a.vEoc : Int) - a.vEocBand ≤ top)
  let dn := within && decide (0 < v.avg) && !volts.isEmpty && decide (bot ≤ (a.vEod : Int) + a.vEodBand)
  s.onCharge fun h => { h with
    eoc := h.eoc.upd b {} fun w => w.sweep up v.avg
    eod := h.eod.upd b {} fun w => w.sweep dn v.avg }

/-! ### A sweep of the whole string -/

/-- The latest valid corrected value of a cell, if any. -/
def State.latestValid (s : State) (c : Nat) : Option Int :=
  let x := s.acq.latest.get c {}
  if qValid x.quality then some x.corr else none

/-- Count one sweep for every present cell (07 R186 to R189, R204), with the valid corrected value of each, and the admitted one, where there is
one. -/
def State.countSweep (s : State) (sweep : Nat) (valid value : Nat → Option Int) (run : Bool) : State :=
  let nodes := s.cfg.nodes.map fun n => n.index
  let rets := nodes.map fun n => (n, s.retCurrent n sweep)
  let s0 := s.onBasil fun g => { g with iRet := rets.foldl (fun t e => t.put e.1 0 e.2) g.iRet }
  let s1 := s0.cfg.branchList.foldl (fun s b =>
    let (ib, deg) := s.countedIb b sweep
    let s := s.onCharge fun h => { h with ibCount := h.ibCount.upd b 0 (fun n => n + ib), ibUsed := h.ibUsed.put b 0 ib }
    let s := (s.cfg.branchCells b).foldl (fun s c =>
      let n := (s.cfg.nodeOfCell c).getD 0
      let bal := (s.node n).effCur sweep ((c % 16 : Nat) : Int)
      let ret := s.ba.iRet.get n 0
      let i := (ib : Rat) + bal - ret + s.nodeSupply n
      let s := s.predict c i (deg || (s.node n).uncertainAt sweep) (bal - ret)
      let s := match (if run && !deg then value c else none) with | some v => s.update c v (s.cell c).current | none => s
      let s := s.limitCell c
      if run then s.agreeCell c (value c) (s.cell c).current else s) s
    s.taperSweep b sweep ((s.cfg.branchCells b).filterMap valid)) s0
  s1.onCharge fun h => { h with lastSweep := some sweep }

/-- A sweep has not been counted yet. -/
def State.uncounted (s : State) (sweep : Nat) : Bool := match s.ch.lastSweep with | some n => laterThan sweep n | none => true

/-- The current of a cell in a counted sweep, mA, and whether its count was degraded there (07 R187, R217). -/
def State.currentAt (s : State) (c sweep : Nat) : Rat × Bool :=
  let back := (s.ch.lastSweep.getD sweep + two32 - sweep) % two32
  ((s.cell c).rateHist.getD back (s.cell c).current,
    (s.countedIb (c / 512) sweep).2 || (s.node ((s.cfg.nodeOfCell c).getD 0)).uncertainAt sweep)

/-- The admitted values of a set (07 R194, R217): those of a rest are held for the last 1 000 sweeps; in Watch each enters the agreement state as in
Run, and the latest one waits for the filter's run. -/
def State.noteVolts (s : State) (w : Sweep4) : State :=
  s.cfg.allCells.foldl (fun s c =>
    let vs := (List.range 4).filterMap fun i => ((w.samples.get (4 * c + i) {}).admitted).map fun v => ((w.first + i) % two32, v)
    let s1 := s.onCell c fun x => { x with
      lastAdmit := if vs.isEmpty then x.lastAdmit else s.now
      watchV := if s.pw.state = .run then none else if vs.isEmpty then x.watchV else vs.getLast?
      restVolts := if x.restRun = 0 then [] else
        (vs.reverse ++ x.restVolts).filter fun e => decide ((w.first + 3 + two32 - e.1) % two32 < 1000) }
    if s.pw.state = .watch then vs.foldl (fun s e => s.agreeCell c (some e.2) (s.currentAt c e.1).1) s1 else s1) s

/-- Watch (07 R217): every sweep is counted from the module's own channels; once per second the filter takes the latest admitted value with the
current of its own sweep, a degraded sweep entering the prediction only (07 R187). -/
def State.watchSweep (s : State) : State :=
  if s.pw.state ≠ .watch ∨ ¬ s.uncounted s.acq.sweep then s
  else
    let s1 := s.countSweep s.acq.sweep s.latestValid (fun _ => none) false
    if s1.ch.watchSweeps + 1 < 1000 then s1.onCharge fun h => { h with watchSweeps := h.watchSweeps + 1 }
    else
      let s2 := s1.onCharge fun h => { h with watchSweeps := 0 }
      s2.cfg.allCells.foldl (fun s c => match (s.cell c).watchV with
        | some e =>
          let i := s.currentAt c e.1
          let s := if i.2 then s else (s.update c e.2 i.1).limitCell c
          s.onCell c fun x => { x with watchV := none }
        | none => s) s2

/-! ### Commands -/

/-- REST_ANCHOR (07 R194): a further one follows every rest time. Where the OCV slope is zero the uncertainty is free (log 25). -/
def restAnchor (c : Nat) (s : State) : State :=
  let x := s.cell c
  if x.restRun < 1000 * s.cfg.anchor.restS ∨ x.restVolts.isEmpty ∨ ¬ x.live then s
  else
    let temp := s.cellTemp c
    let a := invCurve (meanR (x.restVolts.map fun e => e.2) / 1000000) (s.ocvPoints temp x.h)
    let sl := slopeCurve a (s.ocvPoints temp x.h)
    let (r, s1) := s.freshRat
    let sg := if sl = 0 then absR r else absR ((s.cfg.anchor.restUv : Rat) / 1000000 / sl)
    (s1.onCell c fun x => { x with restRun := 0 }).anchorCell c 1 a sg

/-- REST_ANCHOR (07 R194). -/
def execRestAnchor (t : Nat) (cell : Fin 2048) (s : State) : Host.Outcome State Fault Refusal := s.run t (restAnchor cell.val)

/-- END_OF_CHARGE_ANCHOR (07 R195, R197). -/
def execEndOfChargeAnchor (t : Nat) (b : Fin 4) (s : State) : Host.Outcome State Fault Refusal :=
  s.run t fun s =>
    let w := s.ch.eoc.get b.val {}
    let a := s.cfg.anchor
    if w.done ∨ w.run < 1000 * a.holdS then s
    else
      let s1 := s.onCharge fun h => { h with eoc := h.eoc.put b.val {} { run := 0, lapse := 0, done := true, sumI := 0 } }
      (s.cfg.branchCells b.val).foldl (fun s c => match s.latestValid c with
        | some v => if (a.vEoc : Int) - a.vEocBand ≤ v then s.anchorCell c 2 ((a.socEoc : Rat) / 10000) ((a.sigma : Rat) / 10000) else s
        | none => s) s1

/-- END_OF_DISCHARGE_ANCHOR (07 R196, R197). -/
def execEndOfDischargeAnchor (t : Nat) (b : Fin 4) (s : State) : Host.Outcome State Fault Refusal :=
  s.run t fun s =>
    let w := s.ch.eod.get b.val {}
    let a := s.cfg.anchor
    if w.done ∨ w.run < 1000 * a.holdS then s
    else
      let rate := s.cRate (absR ((w.sumI : Rat) / (w.run : Rat))) * 100
      let s1 := s.onCharge fun h => { h with eod := h.eod.put b.val {} { run := 0, lapse := 0, done := true, sumI := 0 } }
      (s.cfg.branchCells b.val).foldl (fun s c => match s.latestValid c with
        | some v =>
          if v ≤ (a.vEod : Int) + a.vEodBand then
            s.anchorCell c 3 (min 1 ((a.socEod : Rat) / 10000 + (1 - s.capFactor (s.cellTemp c) rate))) ((a.sigma : Rat) / 10000)
          else s
        | none => s) s1

/-- FADE_AND_LEAKAGE_CHECK_CLOSE (07 R200): after the check duration. -/
def execFadeAndLeakageCheckClose (t : Nat) (cell : Fin 2048) (s : State) : Host.Outcome State Fault Refusal :=
  s.run t fun s =>
    let x := s.cell cell.val
    if x.checkOpen ∧ x.checkAt + sec (86400 * s.cfg.dis.days) ≤ s.now then s.closeCheck cell.val else s

/-! ### Leakage (07 R204 to R206) -/

/-- Balancing charge of a cell from one instant of the window to another; the oldest held where the window began earlier. -/
def CellEst.balBetween (x : CellEst) (from_ to_ : Nat) : Option Rat :=
  (x.balHist.find? fun e => decide (e.1 = to_)).map fun e =>
    e.2 - (match x.balHist.find? fun z => decide (z.1 = from_) with | some z => z.2 | none => (x.balHist.getLastD e).2)

/-- y of a cell at one sample of its window (07 R204): the median is over every present cell. -/
def State.leakY (s : State) (c : Nat) (e e0 : Nat × Rat × Rat × Rat × Rat) : Rat :=
  let meds := s.cfg.allCells.filterMap fun k => (s.cell k).balBetween e0.1 e.1
  (e.2.1 - e0.2.1 - (medianR meds).getD 0) + (s.cell c).q * (e.2.2.1 - e0.2.2.1)

/-- Coefficients and the variance of beta of the weighted fit (07 R204): alpha, beta, kappa. -/
def leakFit (pts : List (Rat × Rat × Rat × Rat)) : List Rat × Rat :=
  let row := fun (p : Rat × Rat × Rat × Rat) => [(1 : Rat), p.1, p.2.2.1]
  let wsum := fun (f : (Rat × Rat × Rat × Rat) → Rat) => sumR (pts.map fun p => p.2.2.2 * f p)
  let m := (List.range 3).map fun i =>
    ((List.range 3).map fun j => wsum fun p => (row p).getD i 0 * (row p).getD j 0) ++
      [wsum fun p => (row p).getD i 0 * p.2.1, if i = 1 then 1 else 0]
  let r := eliminate 3 0 m
  let beta := r.map fun x => x.getD 3 0
  let res := wsum fun p => let e := p.2.1 - dot (row p) beta; e * e
  (beta, res / ((pts.length : Rat) - 3) * (r.getD 1 []).getD 4 0)

/-- The precursor level the figures call for (07 R206). -/
def State.precursorNow (s : State) (c : Nat) (l sg : Rat) : Nat :=
  let k := s.cfg.leak
  let low := l - 2 * sg
  if (k.alarm : Rat) / 1000 ≤ low then 2
  else if (k.watch : Rat) / 1000 ≤ low ∨ (k.trend : Rat) / 1000 < l - (s.cell c).lRelOld then 1 else 0

/-- The leakage estimate of one cell (07 R204 to R206). -/
def State.leakCell (s : State) (c : Nat) : State :=
  let x := s.cell c
  let win := sec (3600 * s.cfg.leak.hours)
  let data := x.leakData
  let e0 := data.getLastD (0, 0, 0, 0, 0)
  let pts := data.map fun e => (((e.1 - e0.1 : Nat) : Rat) / 1000000000, s.leakY c e e0, e.2.2.2.1 - e0.2.2.2.1, e.2.2.2.2)
  let (co, var) := leakFit pts
  let l := fine (if data.length < 4 then x.lRel else -(co.getD 1 0))
  let sg := fine (if data.length < 4 then x.sigmaRel else Config.sqrt var)
  let valid := decide (7200 ≤ data.length)
  let hist := ((s.now, l) :: x.lHist).filter fun e => decide (s.now ≤ e.1 + sec 604800)
  let old := if (hist.getLastD (s.now, l)).1 + sec 604780 ≤ s.now then (hist.getLastD (s.now, l)).2 else x.lRelOld
  let s0 := if l = x.lRel ∧ sg = x.sigmaRel ∧ old = x.lRelOld then s else s.markChanged c
  let s1 := s0.onCell c fun x => { x with lRel := l, sigmaRel := sg, leakValid := valid, lHist := hist, lRelOld := old }
  let now := if valid then s1.precursorNow c l sg else 0
  if x.precursor ≤ now then
    let s2 := s1.onCell c fun x => { x with precursor := now, precursorClear := none }
    let s3 := if x.precursor = 0 ∧ 1 ≤ now then s2.record .leakElevated c (octetsOf 4 (wrapInt 4 (roundOpen 25 (l * 1000)))) else s2
    if x.precursor < 2 ∧ now = 2 then s3.record .shortPrecursor c (octetsOf 4 (wrapInt 4 (roundOpen 25 (l * 1000)))) else s3
  else if s1.heldFor x.precursorClear win then s1.onCell c fun x => { x with precursor := now, precursorClear := none }
  else s1.onCell c fun x => { x with precursorClear := some (x.precursorClear.getD s.now) }

/-- The string median of the reported SoC. -/
def State.socMedian (s : State) : Rat := (medianR (s.cfg.allCells.map s.reported)).getD 0

/-- LEAKAGE_ESTIMATE (07 R204 to R206; 11 R292 function 0x12): every 10 s. -/
def execLeakageEstimate (t : Nat) (s : State) : Host.Outcome State Fault Refusal :=
  s.run t fun s => if !s.sageRuns then s else s.turn 9 (sec 10) fun s =>
    let med := s.socMedian
    let win := sec (3600 * s.cfg.leak.hours)
    let s1 := s.cfg.allCells.foldl (fun s c =>
      let x := s.cell c
      let n := (s.cfg.nodeOfCell c).getD 0
      let out := !decide ((s.node n).adm = .admitted) || x.degNow || !x.live
      let w := if x.p 0 0 = 0 then 1 else 1 / x.p 0 0
      let e := (s.now, x.balCharge, s.reported c - med, (s.ch.ibCount.get (c / 512) 0 : Rat) / 1000, w)
      s.onCell c fun x => { x with
        balHist := ((s.now, x.balCharge) :: x.balHist).filter fun e => decide (s.now < e.1 + win)
        leakData := ((if out then [] else [e]) ++ x.leakData).filter fun e => decide (s.now < e.1 + win) }) s
    let s2 := s1.cfg.allCells.foldl State.leakCell s1
    let s3 := s2.onCharge fun h => { h with medianSoc := med, medianBal := (medianR (s2.cfg.allCells.map fun c => (s2.cell c).balCharge)).getD 0 }
    s3.cfg.branchList.foldl (fun s b =>
      let bad := (s.cfg.branchCells b).filter fun c => decide ((s.cell c).precursor = 2)
      s.evalAndDecide 0x12 b (!bad.isEmpty) (bad.headD 0) 2 bad) s3

/-! ### Publications (07 R207 to R210) -/

/-- Available charge and headroom of a cell in mA s (07 R207): reference rate, present temperature. -/
def State.available (s : State) (c : Nat) : Rat :=
  max 0 (s.reported c - (1 - s.capFactor (s.cellTemp c) s.cfg.rating.refRate)) * (s.cell c).q

/-- Headroom of a cell (07 R207). -/
def State.headroom (s : State) (c : Nat) : Rat := (1 - s.reported c) * (s.cell c).q

/-- Least of a list of rationals, 0 of none. -/
def minR : List Rat → Rat
  | [] => 0
  | x :: r => r.foldl min x

/-- Available charge and headroom of a branch (07 R207). -/
def State.branchCharge (s : State) (b : Nat) : Rat × Rat :=
  (minR ((s.cfg.branchCells b).map s.available), minR ((s.cfg.branchCells b).map s.headroom))

/-- The branches the string's charge sums over (07 R207). -/
def State.chargeBranches (s : State) : List Nat := if s.joined.isEmpty then s.cfg.branchList else s.joined

/-- Available charge and headroom of the string. -/
def State.stringCharge (s : State) : Rat × Rat :=
  let l := s.chargeBranches.map s.branchCharge
  (sumR (l.map fun x => x.1), sumR (l.map fun x => x.2))

/-- A SoC in its format (00 R5). -/
def socFmt (x : Rat) : Int := clampInt 0 40000 (roundOpen 26 (x * 40000))

/-- The charge summary record of cells with a charge figure (07 R208). -/
def State.summaryRecord (s : State) (cells : List Nat) (q : Rat × Rat) : List Nat :=
  let rep := cells.map fun c => (c, s.reported c)
  let lo := rep.foldl (fun m e => if e.2 < m.2 then e else m) (rep.headD (0, 0))
  let hi := rep.foldl (fun m e => if m.2 < e.2 then e else m) (rep.headD (0, 0))
  let soc := if q.1 + q.2 = 0 then 0 else q.1 / (q.1 + q.2)
  s.body [(2, socFmt soc), fN 2 0, (8, roundOpen 26 q.1), (8, roundOpen 26 q.2), (2, socFmt lo.2), fN 2 lo.1, (2, socFmt hi.2), fN 2 hi.1,
    fB [cells.any fun c => decide ((s.cell c).agree = .countEmpty), cells.any fun c => decide ((s.cell c).agree = .voltageEmpty),
        cells.any fun c => (s.cell c).defaultState, cells.any fun c => decide ((s.cell c).precursor = 2)],
    fQ (mkQuality (!cells.any s.voltOld) false false false false false false false)]

/-- The cell charge record (07 R209). -/
def State.chargeRecord (s : State) (c : Nat) : List Nat :=
  let x := s.cell c
  let n := (s.cfg.nodeOfCell c).getD 0
  let b := c / 512
  s.body [fN 2 c, (2, socFmt (s.reported c)), (2, socFmt (Config.sqrt (x.p 0 0))), (2, clampInt (-32768) 32767 (roundOpen 26 (x.countSoc * 40000))),
    (2, clampS 16 (roundOpen 26 (x.h * 32768))),
    fN 2 (bitsOf [decide (x.agree = .countEmpty), x.learnOff, decide (x.agree = .voltageEmpty), x.checkOpen,
      decide (0 < (s.ch.eoc.get b {}).run), decide (0 < (s.ch.eod.get b {}).run), x.defaultState, x.predOnly, x.degraded]),
    (8, roundNear ((x.count : Rat) / 1000)), (4, clampU 32 (roundOpen 26 x.q)), (2, clampU 16 (roundOpen 26 (x.qSigma * 10000))),
    fN 1 x.anchor.kind,
    fQ (mkQuality (!s.voltOld c) false false false false false (decide ((s.node n).adm = .pending))
      (overS 16 (roundOpen 26 (x.countSoc * 40000)) || overS 16 (roundOpen 26 (x.h * 32768)) || overU 32 (roundOpen 26 x.q) ||
        overU 16 (roundOpen 26 (x.qSigma * 10000))))]

/-- SoH_R of a cell (07 R203), 0 until the baseline exists. -/
def State.sohR (s : State) (c : Nat) : Rat :=
  let b := s.sg.bases.get c {}
  let f := s.fit c
  if !b.fixed ∨ ¬ f.valid then 0
  else
    let t := kelvin f.validTemp - kelvin s.cfg.rating.refTemp
    (b.r0 : Rat) / ((f.validR0 : Rat) / (1 + (b.tempCo : Rat) / 1000000 * t))

/-- The cell health record (07 R210). -/
def State.healthRecord (s : State) (c : Nat) : List Nat :=
  let x := s.cell c
  s.body [fN 2 c, (2, clampU 16 (roundOpen 26 (x.q / (s.cfg.rating.capacity : Rat) * 10000))), (2, clampU 16 (roundOpen 26 (s.sohR c * 10000))),
    (4, clampS 32 (roundOpen 26 (s.leakage c * 1000))), (2, clampU 16 (roundOpen 26 (x.sigmaRel * 1000))), (4, clampS 32 (roundOpen 26 (x.lRel * 1000))),
    (4, clampU 32 (roundOpen 26 (x.efc * 100))), fN 2 (x.leakData.length / 36), fN 1 x.precursor,
    fQ (mkQuality x.leakValid false false false false false false
      (overU 16 (roundOpen 26 (x.q / (s.cfg.rating.capacity : Rat) * 10000)) || overU 16 (roundOpen 26 (s.sohR c * 10000)) ||
        overS 32 (roundOpen 26 (s.leakage c * 1000)) || overU 16 (roundOpen 26 (x.sigmaRel * 1000)) || overS 32 (roundOpen 26 (x.lRel * 1000)) ||
        overU 32 (roundOpen 26 (x.efc * 100))))]

/-- The cell charge records are due (07 R209): in Run at every summary, in Watch every second. -/
def State.cellChargeDue (s : State) : Bool := decide (s.pw.state = .run) || decide (s.sweepAbs / 100 % 10 = 0)

/-- CHARGE_SUMMARY_PUBLICATION (07 R207 to R209). -/
def execChargeSummaryPublication (t : Nat) (s : State) : Host.Outcome State Fault Refusal :=
  s.run t fun s => if !s.sageRuns then s else s.turn 10 (ms 100) fun s =>
    let s1 := s.cfg.branchList.foldl (fun s b =>
      s.publish (0x03001000 + b) (s.summaryRecord (s.cfg.branchCells b) (s.branchCharge b))) s
    let s2 := s1.publish 0x02001000 (s1.summaryRecord s1.cfg.allCells s1.stringCharge)
    if s2.cellChargeDue then s2.cfg.allCells.foldl (fun s c => s.publish (0x04002000 + c) (s.chargeRecord c)) s2 else s2

/-! ### Learned-state writes (07 R212, R214) -/

/-- The snapshot payload (07 R214). -/
def State.snapshotBytes (s : State) : List Nat :=
  octetsOf 4 (Config.crc32 (octetsOf 8 s.pg.ident)) ++ (List.range 2048).flatMap fun c =>
    let x := s.cell c
    enc [(2, socFmt (s.reported c)), (2, socFmt (Config.sqrt (x.p 0 0))), (2, clampS 16 (roundOpen 26 (x.h * 32768))),
      fN 1 ((match x.agree with | .agree => 0 | .countEmpty => 1 | .voltageEmpty => 2) + (if x.learnOff then 4 else 0)), fN 1 0]

/-- Write the snapshot item (07 R212). -/
def State.writeSnapshot (s : State) : State :=
  (s.writeItem (itemKey 4 2 0) s.snapshotBytes).onLearned fun l => { l with snapAt := s.now }

/-- The node block payload (07 R214). -/
def State.nodeBlockBytes (s : State) (n : Nat) : List Nat :=
  octetsOf 8 (s.node n).ident ++ (List.range 16).flatMap fun j =>
    let x := s.cell (s.cfg.cellOfNode n j)
    enc [(4, clampU 32 (roundOpen 26 x.q)), (2, clampU 16 (roundOpen 26 (x.qSigma * 10000))), (4, clampS 32 (roundOpen 26 (s.leakage (s.cfg.cellOfNode n j) * 1000))),
      (2, clampU 16 (roundOpen 26 (x.sigmaRel * 1000))), (4, clampS 32 (roundOpen 26 (x.lRelOld * 1000))), (4, clampU 32 (roundOpen 26 (x.efc * 100))),
      fB [x.defaultState, x.learned, x.checkOpen], fN 3 0]

/-- The payloads of items 0x03 to 0x05 (07 R214). -/
def State.learnedBytes (s : State) (n item : Nat) : List Nat :=
  octetsOf 8 (s.node n).ident ++ match item with
  | 3 => (List.range 17).flatMap fun j =>
      let x := s.tap n j
      enc [fN 4 x.rho, fN 4 x.sigma, fN 2 x.steps, fB [x.converged], fN 1 0]
  | 4 => (List.range 64).flatMap fun k =>
      let x := s.coef (s.cfg.cellOfNode n (k / 4)) (k % 4)
      enc [(4, x.a), fN 4 x.b, (4, x.intercept), fN 4 x.slope, (2, x.firstTemp), fN 1 x.flags, fN 1 0]
  | _ => (List.range 16).flatMap fun j =>
      let x := s.sg.bases.get (s.cfg.cellOfNode n j) {}
      enc [fN 4 x.r0, (4, x.tempCo), fN 4 x.running, fN 2 x.days, fB [x.fixed], fN 1 0]

/-- Write one waiting node block (07 R212). -/
def State.writeBlock (s : State) (n : Nat) : State :=
  (s.writeItem (itemKey 4 1 n) (s.nodeBlockBytes n)).onNode n fun x => { x with waiting := false }

/-- Write one waiting item of 0x03 to 0x05 (07 R212). -/
def State.writeLearned (s : State) (n item : Nat) : State :=
  let s1 := (s.writeItem (itemKey 4 item n) (s.learnedBytes n item)).onNode n fun x => { x with
    waitItems := x.waitItems ^^^ (2 ^ (item - 3)), tapAt := if item = 3 then s.now else x.tapAt }
  if item = 3 then (List.range 17).foldl (fun s j => s.onTap n j fun x => { x with written := x.rho }) s1 else s1

/-- SNAPSHOT_WRITE (07 R212): in Run and Watch. -/
def execSnapshotWrite (t : Nat) (s : State) : Host.Outcome State Fault Refusal :=
  s.run t fun s => if s.pw.state = .run ∨ s.pw.state = .watch then s.turn 11 (sec 1) State.writeSnapshot else s

/-- NODE_BLOCK_WRITE (07 R212): the waiting node block of the lowest node index, then the waiting items 0x03 to 0x05. -/
def execNodeBlockWrite (t : Nat) (s : State) : Host.Outcome State Fault Refusal :=
  s.run t fun s =>
    match (List.range 128).find? fun n => (s.node n).waiting with
    | some n => s.writeBlock n
    | none =>
      match (List.range 128).find? fun n => !decide ((s.node n).waitItems = 0) with
      | some n =>
        let w := (s.node n).waitItems
        s.writeLearned n (if w.testBit 0 then 3 else if w.testBit 1 then 4 else 5)
      | none => s

end Sys2Proof.Machine
end

