-- ==== Sys2Proof/Machine/Basil.lean ====
section
/-! DEFINITION. Sys2Proof/Machine/Basil.lean: active balancing (chapter 09): targets and demand, the transport problem, the plan
cycle, and its records. -/

namespace Sys2Proof.Machine

open Sys2Proof

/-! ### Minimum-cost maximum flow (09 R247, R248) -/

/-- An arc of the flow network: ends, capacity in mW, cost in 0.01 %, flow. -/
structure Arc where
  /-- tail -/
  src : Nat
  /-- head -/
  dst : Nat
  /-- capacity, mW -/
  cap : Int
  /-- cost, 0.01 % of the flow -/
  cost : Int
  /-- flow, mW -/
  flow : Int := 0
deriving DecidableEq, Repr

/-- A label of the search: cost, the vertices of the path and its arcs (index, forward), last first. -/
structure Label where
  /-- cost of the path -/
  cost : Int
  /-- vertices, last first -/
  path : List Nat
  /-- arcs, last first -/
  arcs : List (Nat × Bool)
deriving DecidableEq, Repr

/-- Lexicographic order of lists. -/
def lexLt : List Nat → List Nat → Bool
  | [], [] => false
  | [], _ => true
  | _, [] => false
  | a :: r, b :: q => if a < b then true else if a = b then lexLt r q else false

/-- Vertices: cells by index, stacks from 4096, bus entry and exit, source and sink. -/
def stackV (n : Nat) : Nat := 4096 + n
/-- Bus entry. -/
def busIn : Nat := 8192
/-- Bus exit. -/
def busOut : Nat := 8193
/-- Source. -/
def srcV : Nat := 9000
/-- Sink. -/
def sinkV : Nat := 9001

/-- A path before another (09 R248): lower cost, then through the lower cell index, then the lower node index. -/
def Label.before (a b : Label) : Bool :=
  if a.cost ≠ b.cost then decide (a.cost < b.cost)
  else
    let cells := fun (l : Label) => l.path.reverse.filter fun v => decide (v < 4096)
    let nodes := fun (l : Label) => l.path.reverse.filter fun v => decide (4096 ≤ v ∧ v < 8192)
    if cells a ≠ cells b then lexLt (cells a) (cells b) else lexLt (nodes a) (nodes b)

/-- Offer a label to a vertex. -/
def offer (tb : List (Nat × Label)) (v : Nat) (l : Label) : List (Nat × Label) :=
  match tb.lookup v with
  | none => (v, l) :: tb
  | some m => if l.before m then (v, l) :: tb.filter fun e => !decide (e.1 = v) else tb

/-- One pass over the arcs. -/
def relax (arcs : List Arc) (tb : List (Nat × Label)) : List (Nat × Label) :=
  arcs.zipIdx.foldl (fun (tb : List (Nat × Label)) (e : Arc × Nat) =>
    let a : Arc := e.1
    let tb := if a.flow < a.cap then
        match tb.lookup a.src with
        | some l => if a.dst ∈ l.path then tb else offer tb a.dst { cost := l.cost + a.cost, path := a.dst :: l.path, arcs := (e.2, true) :: l.arcs }
        | none => tb
      else tb
    if (0 : Int) < a.flow then
      match tb.lookup a.dst with
      | some l => if a.src ∈ l.path then tb else offer tb a.src { cost := l.cost - a.cost, path := a.src :: l.path, arcs := (e.2, false) :: l.arcs }
      | none => tb
    else tb) tb

/-- Passes until nothing changes. -/
def search : Nat → List Arc → List (Nat × Label) → List (Nat × Label)
  | 0, _, tb => tb
  | f + 1, arcs, tb => let t2 := relax arcs tb; if t2 = tb then tb else search f arcs t2

/-- Room on an arc of a path. -/
def roomOf (arcs : List Arc) (e : Nat × Bool) : Int :=
  match arcs[e.1]? with | some a => if e.2 then a.cap - a.flow else a.flow | none => 0

/-- Send an amount along a path. -/
def pushPath (arcs : List Arc) (p : List (Nat × Bool)) (x : Int) : List Arc :=
  arcs.zipIdx.map fun e => match p.lookup e.2 with
    | some fwd => { e.1 with flow := if fwd then e.1.flow + x else e.1.flow - x }
    | none => e.1

/-- Successive shortest paths (09 R248). -/
def maxFlow : Nat → List Arc → List Arc
  | 0, arcs => arcs
  | f + 1, arcs =>
    match (search 20000 arcs [(srcV, { cost := 0, path := [srcV], arcs := [] })]).lookup sinkV with
    | none => arcs
    | some l =>
      let x := minI 0 (l.arcs.map (roomOf arcs))
      if x ≤ 0 then arcs else maxFlow f (pushPath arcs l.arcs x)

/-! ### Participation and demand (09 R244 to R246, R251, R252) -/

/-- A cell's part in the plan. -/
def State.planCell (s : State) (c : Nat) : PlanCell := s.ba.cells.get c {}

/-- Update of a cell's part. -/
def State.onPlanCell (s : State) (c : Nat) (f : PlanCell → PlanCell) : State :=
  s.onBasil fun g => { g with cells := g.cells.upd c {} f }

/-- The plan's parity for the tap rule: its number, or in Watch the count of plans solved (09 R251, R256). -/
def State.planEven (s : State) (p : Nat) : Bool := decide ((if s.pw.state = .run then p else s.ba.solved) % 2 = 0)

/-- A cell is blocked by the tap rule (09 R251): beside an unconverged tap 1 to 15, odd channels in even plans, even channels in odd
ones. -/
def State.tapBlocked (s : State) (n j : Nat) (even : Bool) : Bool :=
  let un := fun (t : Nat) => decide (1 ≤ t ∧ t ≤ 15) && !(s.tap n t).converged
  (un j || un (j + 1)) && (if even then decide (j % 2 = 1) else decide (j % 2 = 0))

/-- A cell carries a learning current (09 R252): beside an unconverged tap, permitted by R251, its node's converters not guarded. -/
def State.learns (s : State) (n j : Nat) (even : Bool) : Bool :=
  decide ((s.node n).guardMask = 0) && (!(s.tap n j).converged || !(s.tap n (j + 1)).converged) && !s.tapBlocked n j even

/-- A balancing converter fault of the node is held, or was within the last plan (09 R246). -/
def State.faultyLately (s : State) (n : Nat) : Bool :=
  (s.node n).alarms.any (fun a => decide (a.code = 7)) || (match (s.node n).convFaultAt with | some t => decide (s.ba.startedAt ≤ t) | none => false)

/-- A guard stopped converter j in the last sweep (09 R246): also one whose set ends with the sweep that begins. -/
def State.guardedLast (s : State) (n j : Nat) : Bool :=
  (s.node n).guardMask.testBit j || (decide ((s.node n).activeFrom = s.sweepNo) && (s.node n).guardLast.testBit j)

/-- The reason a cell does not participate, 0 where it does (09 R246); a zero plan carries no learning currents (09 R255). -/
def State.reasonOf (s : State) (c : Nat) (even zero : Bool) : Nat :=
  let n := (s.cfg.nodeOfCell c).getD 0
  let j := c % 16
  let x := s.cell c
  let lim : Rat := (s.cfg.bal.sigma : Rat) / 40000
  let admitted := (List.range 4).any fun i =>
    let v := s.acq.closed.samples.get (4 * c + i) {}
    qValid v.quality && !v.excluded
  if !(s.node n).inService then 1
  else if lim * lim < x.p 0 0 then 2
  else if x.agree = .countEmpty then 3
  else if !admitted then 4
  else if s.guardedLast n j || s.faultyLately n then 5
  else if s.tapBlocked n j even then 6
  else if !zero && s.learns n j even then 7
  else 0

/-- The buses and their member cells. -/
def State.busCells (s : State) (b : CfgBus) : List Nat := b.nodes.flatMap s.cfg.cellsOfNode

/-- S* of cells (09 R244). -/
def State.sStar (s : State) (cells : List Nat) : Rat :=
  sumR (cells.map fun c => (s.cell c).q * s.reported c) / sumR (cells.map fun c => (s.cell c).q)

/-- The mode in force on a bus (09 R244): adaptive holds between its levels. -/
def State.modeOf (s : State) (i : Nat) (cells : List Nat) : Nat :=
  if s.cfg.bal.mode ≠ 3 then s.cfg.bal.mode
  else if cells.isEmpty then s.ba.mode.get i 2
  else
    let x := s.sStar cells * 40000
    if (s.cfg.bal.upper : Rat) ≤ x then 2 else if x ≤ (s.cfg.bal.lower : Rat) then 1 else s.ba.mode.get i 2

/-- Deviation of a cell among the participating cells of its bus (09 R244). -/
def State.deviation (s : State) (mode : Nat) (cells : List Nat) (c : Nat) : Rat :=
  let n : Rat := (cells.length : Nat)
  let q := (s.cell c).q
  let f := s.reported c
  match mode with
  | 0 => f - s.sStar cells
  | 1 => (f * q - sumR (cells.map fun k => s.reported k * (s.cell k).q) / n) / q
  | _ => (sumR (cells.map fun k => (1 - s.reported k) * (s.cell k).q) / n - (1 - f) * q) / q

/-- Basil issues zero sets (09 R255). -/
def State.zeroPlan (s : State) : Bool :=
  !s.cfg.bal.enable || s.anyAction || decide (s.ba.lastClose + sec 2 < s.now)

/-- Take one bus's cells into the plan: reasons, deviations, active, demands in mW. A cell left out of a plan stays as active as it was (09 R245). -/
def State.planBus (s : State) (even zero : Bool) (i : Nat) (b : CfgBus) : State :=
  let all := s.busCells b
  let part := all.filter fun c => decide (s.reasonOf c even zero = 0)
  let mode := s.modeOf i part
  let s1 := s.onBasil fun g => { g with mode := g.mode.put i 2 mode }
  all.foldl (fun s c =>
    let r := s.reasonOf c even zero
    let n := (s.cfg.nodeOfCell c).getD 0
    let learn := !zero && s.learns n (c % 16) even && (s.node n).inService
    let dev := if r = 0 then s.deviation mode part c else 0
    let mag := absR dev * 40000
    let was := (s.planCell c).active
    let act := if r ≠ 0 then was else if was then decide ((s.cfg.bal.stop : Rat) < mag) else decide ((s.cfg.bal.start : Rat) ≤ mag)
    let d := if act && decide (r = 0) then s.modelVolt c * dev * (s.cell c).q / (s.cfg.bal.tau : Rat) else 0
    s.onPlanCell c fun x => { x with dev := dev, active := act, reason := r, learning := learn, demand := d, blocked := s.tapBlocked n (c % 16) even }) s1

/-- BALANCING_PLAN_START (09 R253, R255, R256): in Run every plan, in Watch every sixth, each once. -/
def planStart (s : State) : State :=
  let p := s.sweepAbs / 10000
  let watch := decide (s.pw.state = .watch)
  if !(decide (s.pw.state = .run) || (watch && decide (p % 6 = 0))) || decide (s.ba.begun = some p) then s
  else
    let act := (10000 * (p + (if watch then 6 else 1))) % two32
    let zero := s.zeroPlan
    let s1 := s.cfg.buses.zipIdx.foldl (fun s e => s.planBus (s.planEven p) zero e.2 e.1) s
    let none_ := !(s1.cfg.allCells.any fun c => decide ((s1.planCell c).reason = 0))
    s1.onBasil fun g => { g with
      begun := some p, deadlineDone := false, activated := false
      plan := p % two32, activation := act, solving := true, solvedOk := false, startedAt := s.now
      status := if zero then 1 else if none_ then 2 else 0
      flow := {}, busFlow := {}, totalFlow := 0, loss := 0, nodesLoaded := 0
      sourceDemand := sumR (s1.cfg.allCells.map fun c => max 0 (s1.planCell c).demand) }

/-- BALANCING_PLAN_START (09 R253). -/
def execBalancingPlanStart (t : Nat) (s : State) : Host.Outcome State Fault Refusal := s.run t planStart

/-! ### The network (09 R247, R258) -/

/-- Excitation peak of a cell in mA under the active plan (09 R258). -/
def State.excitePeak (s : State) (c : Nat) : Nat :=
  match s.planAt s.sweepNo with
  | some p => if (p.masks.get ((s.cfg.nodeOfCell c).getD 0) 0).testBit (c % 16) then 10 * p.amplitude else 0
  | none => 0

/-- Three segments of an arc. -/
def segments (src dst : Nat) (each : Rat) (costs : List Nat) : List Arc :=
  (List.range 3).map fun k => { src := src, dst := dst, cap := roundOpen 27 each, cost := (costs.getD k 0 : Nat) }

/-- The arcs of one bus. -/
def State.busArcs (s : State) (b : CfgBus) : List Arc :=
  let m := s.cfg.convModel
  let cellArcs := (s.busCells b).flatMap fun c =>
    let x := s.planCell c
    let n := stackV ((s.cfg.nodeOfCell c).getD 0)
    let v := s.modelVolt c
    let uv := v * 1000000
    let each := if x.reason = 0 then (3000 - (s.excitePeak c : Rat)) * v / 3 else 0
    let mayDraw := decide (¬ (s.cell c).agree = .voltageEmpty) && decide ((s.cfg.bal.floorUv : Rat) ≤ uv)
    let mayFeed := decide (uv ≤ (s.cfg.bal.ceilUv : Rat))
    ([{ src := srcV, dst := c, cap := max 0 (roundOpen 27 x.demand), cost := 0 },
      { src := c, dst := sinkV, cap := max 0 (-(roundOpen 27 x.demand)), cost := 0 }] : List Arc) ++
    segments c n (if mayDraw then each else 0) m.c ++ segments n c (if mayFeed then each else 0) m.c
  let stackArcs := b.nodes.flatMap fun n =>
    segments (stackV n) busIn (100000 / 3) m.st ++ segments busOut (stackV n) (100000 / 3) m.st
  cellArcs ++ stackArcs ++ [{ src := busIn, dst := busOut, cap := 1000 * b.rating, cost := (m.bus : Nat) }]

/-- Net flow over arcs between two vertices. -/
def netFlow (arcs : List Arc) (a b : Nat) : Int :=
  sumI (arcs.map fun x => if x.src = a ∧ x.dst = b then x.flow else if x.src = b ∧ x.dst = a then -x.flow else 0)

/-- Flow over arcs from one vertex to another. -/
def flowOver (arcs : List Arc) (a b : Nat) : Int := sumI (arcs.map fun x => if x.src = a ∧ x.dst = b then x.flow else 0)

/-- Solve one bus (09 R248): flows by cell and node, total flow, loss. -/
def State.solveBus (s : State) (b : CfgBus) : State :=
  let arcs := maxFlow 1000000 (s.busArcs b)
  s.onBasil fun g => { g with
    flow := (s.busCells b).foldl (fun t c => t.put c 0 (netFlow arcs c (stackV ((s.cfg.nodeOfCell c).getD 0)))) g.flow
    busFlow := b.nodes.foldl (fun t n => t.put n 0 (flowOver arcs (stackV n) busIn - flowOver arcs busOut (stackV n))) g.busFlow
    totalFlow := g.totalFlow + sumI (arcs.map fun a => if a.src = srcV then a.flow else 0)
    loss := g.loss + sumR (arcs.map fun a => (a.flow : Rat) * (a.cost : Rat) / 10000) }

/-! ### Sets (09 R249, R252, R253) -/

/-- The set of a node under the plan (09 R249, R252, R255). -/
def State.planSet (s : State) (n : Nat) : BalSet :=
  if s.ba.status = 1 then { currents := List.replicate 16 0, power := 0, flags := 2 }
  else
    let cur := fun (j : Nat) =>
      let c := s.cfg.cellOfNode n j
      let x := s.planCell c
      if !s.cfg.cellPresent c then 0
      else if x.learning then (if x.signNeg then -(s.cfg.bal.learnMa : Int) else (s.cfg.bal.learnMa : Int))
      else if x.reason ≠ 0 then 0
      else roundZero ((s.ba.flow.get c 0 : Rat) / s.modelVolt c)
    let f : Rat := (s.ba.busFlow.get n 0 : Int)
    let p := if 0 < f then roundZero (f / 10) else roundZero (f * (1 - (s.cfg.convModel.bus : Rat) / 10000) / 10)
    { currents := (List.range 16).map cur, power := p
      flags := bitsOf [(List.range 16).any fun j => (s.planCell (s.cfg.cellOfNode n j)).learning] }

/-- Load a node's set (09 R253): where it differs from the active set or the node was guarded; only the leader sends. -/
def State.loadSet (s : State) (n : Nat) : State :=
  let x := s.node n
  let b := s.planSet n
  let norm := fun (q : BalSet) => ((List.range 16).map fun j => q.cur (j : Nat), q.power)
  if !x.inService ∨ (norm b = norm x.activeSet ∧ x.guardMask = 0) then s
  else
    let s1 := s.onNode n fun x => { x with nextSet := some b, commitSent := false, commitAcked := false }
    let s2 := if s.leads then s1.addWork n (loadArea 3 b.area s.ba.activation) else s1
    s2.onBasil fun g => { g with nodesLoaded := g.nodesLoaded + 1 }

/-! ### Records (09 R260 to R262) -/

/-- The plan record (09 R260). -/
def State.planRecord (s : State) : List Nat :=
  let g := s.ba
  let part := s.cfg.allCells.filter fun c => decide ((s.planCell c).reason = 0)
  let next := (List.range 128).filter fun n => (s.node n).nextSet.isSome
  let act := s.cfg.allCells.filter fun c => match s.cfg.nodeOfCell c with
    | some n => decide (((s.node n).nextSet.getD (s.node n).activeSet).cur ((c % 16 : Nat) : Int) ≠ 0)
    | none => false
  let learn := (List.range 128).filter fun n => (s.cfg.cellsOfNode n).any fun c => (s.planCell c).learning
  enc [fN 4 g.plan, fN 4 g.activation, fN 1 g.status, fN 1 (g.mode.get 0 2), fN 2 part.length, fN 2 act.length, fN 2 g.nodesLoaded,
    (4, roundOpen 28 (g.sourceDemand / 10)), (4, roundOpen 28 ((g.totalFlow : Rat) / 10)), (4, roundOpen 28 (g.loss / 10)), fN 2 g.solveMs,
    fN 2 (next.filter fun n => (s.node n).commitAcked).length,
    fN 2 (next.filter fun n => (s.node n).commitSent && !(s.node n).commitAcked).length, fN 1 learn.length,
    fQ (mkQuality (decide (g.status ≠ 3)) false false false false false false false)]

/-- The bus record (09 R261). -/
def State.busRecord (s : State) (i : Nat) (b : CfgBus) : List Nat :=
  let p := b.nodes.map fun n => (s.planSet n).power
  let ex := sumI (p.map fun x => max 0 x)
  let im := sumI (p.map fun x => max 0 (-x))
  let fl := b.nodes.map fun n => s.ba.busFlow.get n 0
  let third := roundOpen 27 (100000 / 3)
  enc [fN 4 s.ba.plan, fN 1 i, fN 1 b.nodes.length,
    fB [decide ((1000 * b.rating : Int) ≤ sumI (fl.map fun x => max 0 x)) , fl.any fun x => decide (third ≤ (x.natAbs : Int))], fQ qGood,
    (4, ex), (4, im), fN 4 (100 * b.rating)]

/-- Publish the plan record and the bus records (09 R260, R261). -/
def State.publishPlan (s : State) : State :=
  s.cfg.buses.zipIdx.foldl (fun s e => s.publish (0x02006000 + e.2) (s.busRecord e.2 e.1)) (s.publish 0x02005000 s.planRecord)

/-- The cell balancing record (09 R262). -/
def State.balRecord (s : State) (c : Nat) : List Nat :=
  let n := (s.cfg.nodeOfCell c).getD 0
  let x := s.node n
  let p := s.planCell c
  s.body [fN 2 c, (2, x.activeSet.cur ((c % 16 : Nat) : Int)), (2, clampS 16 (roundOpen 28 (p.dev * 40000))),
    fN 1 (bitsOf [p.active, p.learning, x.guardMask.testBit (c % 16), !decide (x.uncertain = 0)] + 16 * p.reason), fQ (qOver (overS 16 (roundOpen 28 (p.dev * 40000))) qGood),
    (8, roundOpen 28 (s.cell c).balCharge), (4, roundOpen 28 (s.ba.iRet.get n 0 * 1000))]

/-- The solve took longer than the solver time limit (09 R250). -/
def State.solveLate (s : State) : Bool := decide (s.ba.startedAt + ms s.cfg.bal.solveMs ≤ s.now)

/-- The solve time at its end, ms (09 R260). -/
def State.solveTime (s : State) : Nat := min 65535 ((s.now - s.ba.startedAt) / 1000000)

/-- The solve is abandoned, and every active set stays (09 R250, R260). -/
def State.abandonSolve (s : State) : State :=
  (s.onBasil fun g => { g with solving := false, solvedOk := false, status := 3, solved := wrapInc g.solved, solveMs := s.solveTime }).publishPlan

/-- SOLVER_LIMIT_EXPIRY (09 R250). -/
def execSolverLimitExpiry (t : Nat) (s : State) : Host.Outcome State Fault Refusal :=
  s.run t fun s => if s.ba.solving && s.solveLate then s.abandonSolve else s

/-- BALANCING_SOLVE_COMPLETE (09 R248 to R253): the transport is solved, the sets are derived, and the loads begin in node order; the command names the plan
it solved. -/
def solveComplete (plan : Nat) (s : State) : State :=
  if !s.ba.solving ∨ s.ba.plan ≠ plan then s
  else if s.solveLate then s.abandonSolve
  else
    let s1 := if s.ba.status = 0 then s.cfg.buses.foldl State.solveBus s else s
    let s2 := s1.onBasil fun g => { g with solving := false, solvedOk := true, solveMs := s.solveTime, solved := wrapInc g.solved }
    let s3 := (List.range 128).foldl (fun s n => if (s.cfg.nodeEntry n).isSome then s.loadSet n else s) s2
    s3.cfg.allCells.foldl (fun s c => if (s.planCell c).learning ∧ s.ba.status ≠ 1 then s.onPlanCell c fun x => { x with signNeg := !x.signNeg } else s) s3

/-- BALANCING_SOLVE_COMPLETE (09 R249). -/
def execBalancingSolveComplete (t : Nat) (plan : Nat) (s : State) : Host.Outcome State Fault Refusal := s.run t (solveComplete plan)

/-- Work that loads or commits area 0x03. -/
def NodeCmd.setWork (c : NodeCmd) : Bool := decide ((c.code = 5 ∨ c.code = 6) ∧ c.params.head? = some 3)

/-- The Commit deadline in sweeps before the activation: 40 superframes, in Watch 40 active ones (09 R253, R256). -/
def State.deadlineLead (s : State) : Nat := if s.pw.state = .watch then 4000 else 160

/-- COMMIT_DEADLINE (09 R253, R254, R256): once its instant has come no Commit of the plan is sent, a node without one keeps its active set, and the
plan and bus records are published. -/
def execCommitDeadline (t : Nat) (s : State) : Host.Outcome State Fault Refusal :=
  s.run t fun s =>
    if s.ba.status = 3 ∨ ¬ s.ba.solvedOk ∨ s.ba.deadlineDone ∨ !notBefore s.sweepNo ((s.ba.activation + two32 - s.deadlineLead) % two32) then s
    else
      let s1 := (s.onBasil fun g => { g with deadlineDone := true }).publishPlan
      (List.range 128).foldl (fun s n =>
        if (s.node n).nextSet.isSome ∧ ¬ (s.node n).commitSent then
          s.onNode n fun x => { x with nextSet := none, work := x.work.filter fun c => !c.setWork }
        else s) s1

/-- A node at the activation sweep (09 R254): its confirmed set becomes active; without a response it is set-uncertain. -/
def State.activateNode (s : State) (n act : Nat) : State :=
  let x := s.node n
  match x.nextSet with
  | none => s
  | some b =>
    if !x.commitSent then s
    else if x.commitAcked then
      let s1 := s.onNode n fun x => { (x.newSet b (x.activeSet.guarded x.guardMask) act) with nextSet := none, commitSent := false, commitAcked := false }
      s1.writeIslandTable n
    else s.enterUncertain n 0 act

/-- PLAN_ACTIVATION (09 R253, R254, R262; 05 R140). -/
def execPlanActivation (t : Nat) (s : State) : Host.Outcome State Fault Refusal :=
  s.run t fun s =>
    if s.ba.begun.isNone ∨ s.ba.activated ∨ !notBefore s.sweepNo s.ba.activation then s
    else
      let s1 := if s.ba.solvedOk then (List.range 128).foldl (fun s n => s.activateNode n s.ba.activation) s else s
      let s2 := s1.onBasil fun g => { g with solvedOk := false, activated := true }
      s2.cfg.allCells.foldl (fun s c => s.publish (0x04004000 + c) (s.balRecord c)) s2

/-- LIMIT_WATCHDOG_EXPIRY (08 R234): in Run no new limits for 20 ms; the island requests a stop until fresh ones arrive. -/
def execLimitWatchdogExpiry (t : Nat) (s : State) : Host.Outcome State Fault Refusal :=
  s.run t fun s =>
    if s.pw.state = .run ∧ s.lim.freshAt + ms 20 ≤ s.now then s.onLimits fun l => { l with stale := true } else s

end Sys2Proof.Machine
end

