-- ==== Sys2Proof/Machine/Check.lean ====
section
/-! DEFINITION. Sys2Proof/Machine/Check.lean: the checks of a configuration image's records (20 R497, R499 stages 13 and 14): every field
against the range of its record table, the required records, and the rules that "Ualos rejects" in the other chapters and that one image can
show. A required record that is absent stands at the blank values no present record can hold, so stage 13 passes it over and stage 14 rejects
it. Verdicts that rest on what no record holds (a contactor's drop-out time; the bits of a CAN
frame) come with the image (ImgHeader.rulesOk). -/

namespace Sys2Proof

/-- x lies in a closed range. -/
def rng (lo hi x : Nat) : Bool := decide (lo ≤ x) && decide (x ≤ hi)

/-- x lies in a closed range of integers. -/
def rngI (lo hi x : Int) : Bool := decide (lo ≤ x) && decide (x ≤ hi)

/-- A list ascends strictly. -/
def ascends (l : List Int) : Bool := (l.zip l.tail).all fun p => decide (p.1 < p.2)

/-- A list does not descend. -/
def climbs (l : List Nat) : Bool := (l.zip l.tail).all fun p => decide (p.1 ≤ p.2)

/-- A list does not ascend. -/
def falls (l : List Nat) : Bool := (l.zip l.tail).all fun p => decide (p.2 ≤ p.1)

/-- No value stands twice. -/
def distinct {α : Type} [DecidableEq α] (l : List α) : Bool := decide l.Nodup

/-- A table has r rows of c entries, each in a range. -/
def tableOk (t : List (List Nat)) (r c lo hi : Nat) : Bool :=
  decide (t.length = r) && t.all fun row => decide (row.length = c) && row.all (rng lo hi)

/-- Every row of `a` stands at or above the row of `b`. -/
def tableAbove (a b : List (List Nat)) : Bool :=
  (a.zip b).all fun p => (p.1.zip p.2).all fun q => decide (q.2 ≤ q.1)

/-! ### Ranges (20 R497, R499 stage 13), record by record -/

/-- Record 0x0101 (19). -/
def CfgPower.ok (r : CfgPower) : Bool :=
  rng 60 86400 r.hibDelay && rng 500 20000 r.watchCurrent && rng 10 3600 r.runDwell && rng 600 86400 r.selfDischarge &&
    rng 500 50000 r.wakeCurrent && rng 1 1000 r.wakeCurrentMs && r.wakeEnables.all fun w => decide (w ∈ [1, 4, 5, 6, 7])

/-- Record 0x0201 (20 R498). -/
def CfgString.ok (r : CfgString) : Bool :=
  rng 0 127 r.index && rng 100000 4000000 r.rated && decide (100000 ≤ r.busMin) && decide (r.busMin < r.busMax) &&
    decide (r.busMax ≤ 1600000) && decide (r.text.length ≤ 32)

/-- Record 0x0202 (20 R498; 01 R27). -/
def CfgBranches.ok (r : CfgBranches) : Bool :=
  rng 2000000 4800000 r.maxCellUv && rng 1 4 r.cells.length && r.cells.all (rng 1 512)

/-- Record 0x0210 (16). -/
def CfgConverter.ok (r : CfgConverter) : Bool := rng 1 200 r.stopMs && rng 0 256000 r.fibre

/-- Record 0x0301 (05). -/
def CfgShunts.ok (r : CfgShunts) : Bool := r.rNano.all (rng 10000 1000000) && r.tcPpm.all (rngI (-200) 200)

/-- Record 0x0302 (05). -/
def CfgHall.ok (r : CfgHall) : Bool := rng 1000 10000 r.sens && rngI (-100000) 100000 r.offset

/-- Record 0x0304 (05). -/
def CfgCross.ok (r : CfgCross) : Bool :=
  rng 5 200 r.vShare && rng 100 20000 r.vFixed && rng 1 100 r.vWindows && rng 20 500 r.iShare && rng 500 50000 r.iFixed && rng 1 100 r.iWindows

/-- Record 0x0306 (08). -/
def CfgLimBeh.ok (r : CfgLimBeh) : Bool := rng 0 200 r.sharing && rng 10 1000 r.ramp && rng 10 100 r.plating

/-- Record 0x0307 (12). -/
def CfgCoil.ok (r : CfgCoil) : Bool :=
  r.pullMs.all (rng 20 500) && r.pullW.all (rng 1 r.budget) && r.holdMa.all (rng 100 3000) && rng 40 120 r.budget &&
    rng 16000 30000 r.pullMin && decide (12000 ≤ r.holdMin) && decide (r.holdMin < r.pullMin)

/-- Record 0x0308 (12). -/
def CfgContSup.ok (r : CfgContSup) : Bool := rng 20 1000 r.closeMs && rng 6 500 r.dropMs && rng 1 20 r.debounce && rng 500 20000 r.openMa

/-- Record 0x0309 (12). -/
def CfgPre.ok (r : CfgPre) : Bool :=
  rng 5 5000 r.tauMin && rng 5 5000 r.tauMax && decide (r.tauMin < r.tauMax) && rng 5 100 r.endFrac && rng (5 * r.tauMax) 30000 r.limitMs &&
    rng 1 10 r.attempts && rng 300 86400 r.window && rng 60 3600 r.lockout

/-- Record 0x030A (12), with the configured branches for its order. -/
def CfgJoin.ok (r : CfgJoin) (branches : List Nat) : Bool :=
  rng 1000 50000 r.windowMv && rng 1 1000 r.hold && (!r.fixedOrder || decide (r.order.Perm branches)) && rng 1000 100000 r.leaveMa &&
    rng 100 60000 r.leaveMs && rng r.leaveMa 2000000 r.leaveBreakMa

/-- Record 0x0401 (05). -/
def CfgTaps.ok (r : CfgTaps) : Bool := rng 500 50000 r.nominal && rng 10 1000 r.bound

/-- Record 0x0402 (06): the ranges of its table; the rules of 06 R151 on frequencies are stage 14. -/
def CfgTone.ok (r : CfgTone) : Bool :=
  decide (r.freqs.length ≤ 8) && r.amps.all (rng 0 20000) && rng 0 100 r.excitation && (r.requestable.all fun i => decide (i < r.freqs.length)) &&
    (r.balEven.toList ++ r.balOdd.toList ++ r.tempSlot.toList).all fun i => decide (i < r.freqs.length)

/-- Record 0x0403 (06). -/
def CfgEst.ok (r : CfgEst) : Bool := rng 6 10 r.minWin && rng 4 6 r.minLow && rng 20 40 r.ratioDb && rng 500 10000 r.restMa && rng 10 600 r.restS

/-- Record 0x0404 (06). -/
def CfgFit.ok (r : CfgFit) : Bool :=
  decide (30 * 65536 ≤ 100 * r.alphaLo) && rng r.alphaLo 65536 r.alphaHi && rng 10 200 r.iters && rng 100 2000 r.chi

/-- Record 0x0405 (06). -/
def CfgDerived.ok (r : CfgDerived) : Bool :=
  rng 1000 10000 r.bDefault && rng 200 2000 r.crossLimit && rngI (-2000) 2500 r.platingTemp && rng 50 500 r.platingThr && rng 1 10 r.platingFits &&
    rng 5000 1000000 r.contactThr && rng 10000 10000000 r.fallbackR0 && rng 10 600 r.ageS

/-- Record 0x0406 (07). -/
def CfgRating.ok (r : CfgRating) : Bool :=
  rng 3600000 4294967295 r.capacity && rngI 0 4500 r.refTemp && rng 5 200 r.refRate && rng 0 100000 r.awakeUa && rng 0 10000 r.sleepUa

/-- A state of charge of the format: values above 40 000 are reserved (00 R6). -/
def socOk (v : Int) : Bool := decide (0 ≤ v ∧ v ≤ 40000)

/-- Record 0x0407 (07). -/
def CfgOcv.ok (r : CfgOcv) : Bool :=
  r.socs.all socOk && rng 1 8 r.temps.length && rng 2 41 r.socs.length && ascends r.temps && ascends r.socs &&
    tableOk r.dis r.temps.length r.socs.length 0 16777215 && tableOk r.chg r.temps.length r.socs.length 0 16777215 &&
    r.dis.all climbs && r.chg.all climbs && tableAbove r.chg r.dis && rng 5 200 r.hyst

/-- Record 0x0408 (07). -/
def CfgCapFac.ok (r : CfgCapFac) : Bool :=
  rng 1 8 r.temps.length && rng 1 6 r.rates.length && ascends r.temps && tableOk r.f r.temps.length r.rates.length 5000 11000

/-- Record 0x0409 (07). -/
def CfgAnchor.ok (r : CfgAnchor) : Bool :=
  rng 100 20000 r.restMa && rng 600 14400 r.restS && rng 200 20000 r.restUv && rng 1000 100000 r.vEocBand && rng 1000 100000 r.vEodBand &&
    rng 10 200 r.taperHi && rng 1 (r.taperHi / 2) r.taperLo && rng 60 3600 r.holdS && rngI 9000 10000 r.socEoc && rngI 0 1000 r.socEod &&
    rng 10 200 r.sigma

/-- Record 0x040A (07). -/
def CfgEmpty.ok (r : CfgEmpty) : Bool :=
  rng 1 8 r.temps.length && rng 1 4 r.rates.length && ascends r.temps && tableOk r.v r.temps.length r.rates.length 2000000 3500000 && r.v.all falls

/-- Record 0x040B (07). -/
def CfgDisagree.ok (r : CfgDisagree) : Bool :=
  rng 20000 500000 r.margin && rng 0 1000 r.floor && rng 100 2000 r.reverse && rng 1 1000 r.debounce && rng 50 1000 r.recovery && rng 1 30 r.days

/-- Record 0x040C (07). -/
def CfgCapLearn.ok (r : CfgCapLearn) : Bool :=
  rng 4000 10000 r.minSpan && rng 20 500 r.maxSigma && rng 5 200 r.gain && rng 10 500 r.step && rng 0 10 r.drift && rng 100 2000 r.initial &&
    rng 20 1000 r.fade

/-- Record 0x040D (07). -/
def CfgLeak.ok (r : CfgLeak) : Bool :=
  rng 0 100000 r.nom && rng 500 3000 r.doubling && rng 12 168 r.hours && rng 100 20000 r.watch && rng r.watch 50000 r.alarm && rng 50 10000 r.trend

/-- Record 0x040E (07). -/
def CfgFilter.ok (r : CfgFilter) : Bool :=
  rng 1000 10000000 r.r1 && rng 1000 10000000 r.r2 && rng 100 3600000000 r.tau1 && rng 100 3600000000 r.tau2 && rng 60 3600 r.ageS &&
    rng 100 10000 r.noise && rng 3 10 r.gate

/-- Record 0x040F (08), with the maximum cell voltage of 01 R27. -/
def CfgCellV.ok (r : CfgCellV) (maxUv : Nat) : Bool :=
  rng 1 8 r.temps.length && ascends r.temps && decide (r.vMin.length = r.temps.length) && decide (r.vMax.length = r.temps.length) &&
    r.vMin.all (rng 2000000 3500000) && r.vMax.all (fun v => decide (v ≤ maxUv)) && rng 0 30 r.margin

/-- Record 0x0410 (08). -/
def CfgCellI.ok (r : CfgCellI) : Bool :=
  let t := fun l => tableOk l r.temps.length r.socs.length 0 1000
  rng 1 8 r.temps.length && rng 1 6 r.socs.length && ascends r.temps && ascends r.socs && r.socs.all socOk && t r.peakDis && t r.peakChg && t r.contDis &&
    t r.contChg && tableAbove r.peakDis r.contDis && tableAbove r.peakChg r.contChg

/-- Record 0x0411 (09). -/
def CfgConvModel.ok (r : CfgConvModel) : Bool :=
  decide (r.c.length = 3) && r.c.all (rng 50 3000) && climbs r.c && decide (r.st.length = 3) && r.st.all (rng 50 3000) && climbs r.st &&
    rng 0 1000 r.bus && rng 5000 10000 r.eta && rng 10 1000 r.droop

/-- Record 0x0412 (09); the SoC format counts 0.0025 % (00 R5). -/
def CfgBal.ok (r : CfgBal) : Bool :=
  rng 0 3 r.mode && socOk r.lower && socOk r.upper && decide (r.lower < r.upper) && rng 20 2000 r.start && rng 20 2000 r.stop && decide (r.stop < r.start) && rng 600 86400 r.tau &&
    rng 200 4000 r.sigma && rng 2500000 3400000 r.floorUv && rng 100 3000 r.learnMa && rng 100 5000 r.solveMs

/-- Record 0x0501 (03; R72). -/
def CfgRadio.ok (r : CfgRadio) : Bool :=
  decide (r.chan.length = 4) && decide (r.code.length = 4) && decide (r.level.length = 4) && (r.chan.all fun c => decide (c ∈ [5, 6, 8, 9])) &&
    r.code.all (rng 25 32) && r.level.all (rng 0 60) && distinct (r.chan.zip r.code)

/-- Record 0x0503 (03). -/
def CfgRelay.ok (r : CfgRelay) : Bool := rng 0 16 r.pairs

/-- Record 0x0505 (03). -/
def CfgLink.ok (r : CfgLink) : Bool := rng 4 20 r.energyDb && rng 100 5000 r.relayLoss

/-- Record 0x0506 (03). -/
def CfgContend.ok (r : CfgContend) : Bool := rng 2 8 r.ratio && rng 4 16 r.ceiling && rng 10 600 r.pause

/-- Record 0x0508 (04). -/
def CfgRepl.ok (r : CfgRepl) : Bool := rng 50 100 r.fraction

/-- Record 0x0601 (10). -/
def CfgChanMap.ok (r : CfgChanMap) : Bool :=
  (r.sensor.all fun e => rng 0 7 e.2) && r.localType.all (rng 0 2) && r.localB.all (rng 2000 5000) && r.localTwin.all (rng 0 1)

/-- Record 0x0602 (10). -/
def CfgEval.ok (r : CfgEval) : Bool :=
  rng 200 3000 r.band && rng 10 5000 r.fast && rng r.fast 5000 r.rise && rng 1 100 r.persist && rng 1 30 r.staleS

/-- The top of a channel's range in 0.01 degC (10 R264). -/
def chanTop (c : Nat) : Int := if c < 1024 then 12500 else if c < 0x410 then 20000 else 15000

/-- An entry of record 0x0604 (10 R272). -/
def CfgPriv.ok (r : CfgPriv) : Bool :=
  decide (r.w < r.th) && decide (r.th < r.shut) && decide (r.shut ≤ chanTop r.chan) && rng 50 1000 r.h && rng 1 3 r.dirs && rng 0 10000 r.missing

/-- A drive of record 0x0605 (10); a word of w advances w / 2^32 microsteps each microsecond (10 R277). -/
def CfgValve.ok (r : CfgValve) : Bool :=
  !r.enable || rng 6400 2000000 r.travel && decide (r.travel % 64 = 0) && rng 1 0x80000000 r.maxVel &&
    decide (r.stallMin * 4294967296 < r.homeVel * 1000000) && decide (r.homeVel ≤ 0x80000000) && rng 1000 2000000 r.accel && rng 100 2500 r.runMa &&
    rng 100 2500 r.holdMa && rng 0 60000 r.holdMs && rng 300 900 r.stallAngle && rng 500 50000 r.stallMin && rng 64 32000 r.deadband &&
    rng 0 500 r.minOpen && rng 0 1 r.loop && rng 0 1 r.twin

/-- A loop of record 0x0606 (10). -/
def CfgLoop.ok (r : CfgLoop) : Bool :=
  rngI 1000 4500 r.setpoint && rng 0 1000 r.kp && rng 0 1000 r.ki && rng 10 500 r.chStep && decide (r.chMin ≤ r.chMax)

/-- Record 0x0606 (10). -/
def CfgLoops.ok (r : CfgLoops) : Bool := r.branchLoop.all (rng 0 1) && r.list.all CfgLoop.ok && rng 0 10000 r.factor

/-- Record 0x0701 (11): above the branch ratings and their sum, within the input ranges of 05 R131 at the shunts and the Hall sensitivity. -/
def Cfg.compOk (c : Cfg) : Bool :=
  let inMa := fun (b : Nat) => 150000000 * 1000 / max 1 (c.shunts.rNano.getD b 0)
  (c.branchList.all fun b => decide (max (c.ratingDis.getD b 0) (c.ratingChg.getD b 0) < min (c.comp.pos.getD b 0) (c.comp.neg.getD b 0)) &&
      decide (max (c.comp.pos.getD b 0) (c.comp.neg.getD b 0) ≤ inMa b)) &&
    decide (max c.ratingDis.sum c.ratingChg.sum < min c.comp.isPos c.comp.isNeg) &&
    decide (max c.comp.isPos c.comp.isNeg ≤ 10000000 * 1000 / max 1 c.hall.sens)

/-- Record 0x0702 (11), with V_min, V_max and the nominal tap resistance in uOhm. -/
def CfgCellProt.ok (r : CfgCellProt) (vMin vMax : List Nat) (tap : Nat) : Bool :=
  decide (r.vOv ≤ 4800000) && (vMax.all fun v => decide (v < r.vOv)) && decide (1500000 ≤ r.vUv) && (vMin.all fun v => decide (r.vUv < v)) &&
    rng (12 * tap) 200000 r.m && rng 1000 65535 r.hyst && rng 1 4 r.debounce

/-- Record 0x0703 (11). -/
def CfgCellTemp.ok (r : CfgCellTemp) : Bool := rngI 3000 7500 r.high && rngI (-4000) 1000 r.low && rng 50 1000 r.hyst

/-- Record 0x0704 (11). -/
def CfgTimed.ok (r : CfgTimed) : Bool :=
  ((r.delay ++ r.clear).all fun e => rng 0x0C 0x15 e.1 && rng 0 600000 e.2) && rng 100 200 r.ocFactor && rng 15 100 r.mismatch &&
    rng 1000 500000 r.breakMa && rng 20 2000 r.breakMs

/-- Record 0x0705 (11). -/
def CfgIns.ok (r : CfgIns) : Bool :=
  rng 0 1 r.mode && decide (r.list.length ≤ 4) && (decide (r.mode = 0) || !r.list.isEmpty) && rng 20 1000 r.trip && decide (r.trip < r.warn) &&
    rng 1000 60000 r.period && rng 100 100000 r.cap && rng 5 50 r.poleShare

/-- Record 0x0706 (13), with the test-pulse width in us. -/
def CfgSafeIn.ok (r : CfgSafeIn) (width : Nat) : Bool :=
  r.fn.all (rng 0 3) && r.source.all (rng 0 2) && (r.filterUs.all fun f => rng 500 20000 f && decide (2 * width < f)) && r.discMs.all (rng 10 3000)

/-- Record 0x0707 (13): the period is a multiple of 15.625 us. -/
def CfgTest.ok (r : CfgTest) : Bool := rng 5000 100000 r.periodUs && decide (r.periodUs * 1000 % 15625 = 0) && rng 200 1000 r.widthUs

/-- Record 0x0708 (13). -/
def CfgSafeOut.ok (r : CfgSafeOut) : Bool := r.fn.all (rng 0 3) && r.darkS.all (rng 1 3600) && r.brightS.all (rng 1 3600)

/-- Record 0x0802 (02). -/
def CfgSources.ok (r : CfgSources) : Bool := decide (r.order.length ≤ 3) && (r.order.all fun c => decide (c ∈ [1, 2, 4])) && distinct r.order

/-- Record 0x0803 (02). -/
def CfgPtp.ok (r : CfgPtp) : Bool := rng 0 127 r.domain && r.ports.all (rng 1 2)

/-- Record 0x0804 (02). -/
def CfgSteer.ok (r : CfgSteer) : Bool := rng 20 1000 r.lockNs && rng 1 50 r.slewPpm && rng 100 10000 r.stepUs && rng 10 600 r.holdS

/-- Record 0x0806 (02): any state of 02 R64. -/
def CfgPps.ok (r : CfgPps) : Bool := rng 1 500 r.widthMs && rng 1 5 r.squelch

/-- Records 0x0807 and 0x0808 (02). -/
def CfgTp.ok (r : CfgTp) : Bool :=
  rng 0 2 r.mode && (decide (r.mode = 0) || r.start.ok && decide (r.sub < 65536) && rng 1000 1000000000000 r.period && rng 100 (min (r.period / 2) 1000000000) r.width &&
    decide (r.count < 4294967296))

/-- Record 0x0901 (17): one address for each twin position. -/
def CfgPlant.ok (r : CfgPlant) : Bool :=
  rng 0 4094 r.vlan && rng 500 10000 r.prpMs && r.pfx.all (rng 64 128) &&
    ((List.range r.addr4.length).all fun i => decide (r.addr4.getD i 0 = 0) || rng 8 30 (r.pfx4.getD i 0))

/-- Record 0x0903 (17). -/
def CfgMaint.ok (r : CfgMaint) : Bool := rng 8 30 r.pfx && rng 10000 500000000 r.rate && rng 2048 4194304 r.depth

/-- Record 0x0A01 (14). -/
def CfgTwin.ok (r : CfgTwin) : Bool :=
  rng 0 1 r.mode && rng 0 1 r.position && rng 1 120 r.waitS && rng 100 10000 r.leadUs && decide (r.leadUs % 100 = 0) && rng 1 60 r.holdS

/-- Record 0x0B04 (15). -/
def CfgAlloc.ok (r : CfgAlloc) : Bool :=
  rng 0 4 r.horizon && rng 20 2000 r.holdMs && rng 10000 10000000 r.fallback && rng 100000 500000000 r.expiry

/-- Record 0x0B05 (15). -/
def CfgInter.ok (r : CfgInter) : Bool := rng 1 600 r.interval

/-- Record 0x0B07 (15). -/
def CfgLocal.ok (r : CfgLocal) : Bool := rng 1000 500000 r.threshold && rng 1 10 r.lookback && rng 1 64 r.cells

/-- Record 0x0B08 (15). -/
def CfgElect.ok (r : CfgElect) : Bool := rng 10 200 r.timeout && rng 4 100 r.stagger && rng 4 100 r.claim

/-- Record 0x0D01 (22 R534): protection function codes are exempt and not listed; the group of a code is one of 00 R15 (R16). -/
def CfgEvents.ok (r : CfgEvents) : Bool :=
  rng 1 1000 r.rate && rng 1 255 r.depth && decide (r.list.length ≤ 32) && r.list.all fun e =>
    rng 1 1000 e.2.1 && rng 1 255 e.2.2 && !decide (e.1 / 256 = 7 ∧ e.1 % 256 ≤ 0x34) && rng 1 15 (e.1 / 256)

/-- An entry of record 0x0902 (17). -/
def CfgTele.ok (r : CfgTele) : Bool := rng 10000 500000000 r.rate && rng 2048 4194304 r.depth && rng 10 1000 r.reqRate

/-- An entry of record 0x0B03 (15). -/
def CfgClient.ok (r : CfgClient) : Bool := rng 10 2000 r.rate && rng 1 64 r.depth

/-- An entry of record 0x0E01 (21). -/
def CfgServer.ok (r : CfgServer) : Bool := rng 1000000 500000000 r.rate && rng 65536 4194304 r.depth

/-- Dataset d of record 0x0904 (17): 0 trip, 1 interlock, 2 status. -/
def CfgGoosePub.ok (r : CfgGoosePub) (d : Nat) : Bool :=
  (if d = 0 then rng 0x8000 0xBFFF r.appid else rng 0 0x3FFF r.appid) && rng 0x010CCD010000 0x010CCD0101FF r.mac && decide (r.goId.length ≤ 64) &&
    rng 100 10000 r.maxMs

/-- An entry of record 0x0905 (17), with the coupling list of record 0x0705. -/
def CfgGooseSub.ok (r : CfgGooseSub) (coupled : List Nat) : Bool := rng 1 32 r.member && (!r.coupling || decide (r.string ∈ coupled))

/-- A channel of record 0x0F01 (18 R445). -/
def CfgCan.ok (r : CfgCan) : Bool :=
  decide (r.nominal ∈ [250, 500, 1000]) && decide (r.data ∈ [1000, 2000, 4000, 5000]) && rng 700 900 r.spNom && rng 600 850 r.spData && rng 0 2 r.wake

/-- An entry of record 0x0F02 (18). -/
def CfgMsg.ok (r : CfgMsg) : Bool :=
  rng 1 4 r.fn && rng 0 1 r.loop && rng 1 3 r.chans && decide (r.ident ≤ if r.ext then 0x1FFFFFFF else 0x7FF) && rng 0 2 r.ftype &&
    rng 10 10000 r.period && rng 100 60000 r.timeout

/-- An entry of record 0x0C01 (22). -/
def CfgMon.ok (r : CfgMon) : Bool :=
  rng 1 15 r.number && decide (r.window ∈ [1, 10, 60, 600, 3600]) && (match r.w with | some w => decide (1 ≤ w) | none => true)

/-- An entry of record 0x0507 (04; 01 R28). -/
def CfgNode.ok (r : CfgNode) (cells : List Nat) : Bool :=
  rng 0 127 r.index && decide (r.cls = 0x10) && decide (r.branch < cells.length) && decide (16 * r.stack < cells.getD r.branch 0)

/-- An absent record, or one whose fields lie in their ranges: a required record that is absent stands at its blank values. -/
def orBlank {α : Type} [DecidableEq α] (r blank : α) (ok : Bool) : Bool := decide (r = blank) || ok

/-- Ranges of the records of the string, its sensors and its contactors. -/
def Cfg.rangesA (c : Cfg) : Bool :=
  let n := c.branchCount
  c.power.ok && orBlank c.string {} c.string.ok && orBlank c.branches {} c.branches.ok && c.conv.ok && orBlank c.shunts {} c.shunts.ok &&
    orBlank c.hall {} c.hall.ok && c.rconn.all (rng 0 1000000) && c.cross.ok && c.ratingDis.all (rng 1000 2000000) &&
    c.ratingChg.all (rng 1000 2000000) && c.limBeh.ok && c.coil.ok && c.contSup.ok && c.pre.ok && c.join.ok (List.range n) && c.taps.ok

/-- Ranges of the records of estimation, limits and balancing. -/
def Cfg.rangesB (c : Cfg) : Bool :=
  c.tone.ok && c.est.ok && c.fit.ok && orBlank c.derived {} c.derived.ok && orBlank c.rating {} c.rating.ok && orBlank c.ocv {} c.ocv.ok &&
    orBlank c.capFac {} c.capFac.ok && c.anchor.ok && orBlank c.empty {} c.empty.ok && c.dis.ok && c.capLearn.ok && c.leak.ok && c.filter.ok &&
    orBlank c.cellV {} (c.cellV.ok c.branches.maxCellUv) && orBlank c.cellI {} c.cellI.ok && c.convModel.ok && c.bal.ok && (c.cellV.vMax.all fun v => decide (c.bal.ceilUv ≤ v)) &&
    (c.buses.all fun b => rng 100 2000 b.rating) && decide (c.buses.length ≤ 16)

/-- Ranges of the records of the radio, the temperatures and protection. -/
def Cfg.rangesC (c : Cfg) : Bool :=
  orBlank c.radio {} c.radio.ok && decide (c.neighbours.length ≤ 32) && (c.neighbours.all fun s => rng 0 127 s && !decide (s = c.string.index)) &&
    decide (c.watchRatio = 25) && c.relay.ok && c.link.ok && c.contend.ok && (c.nodes.all fun e => e.ok c.branches.cells) && distinct (c.nodes.map fun e => e.ident) && c.repl.ok &&
    c.chanMap.ok && c.eval.ok && rng 200 3000 c.neighbourLimit && c.priv.all CfgPriv.ok && decide (c.valves.list.length ≤ 2) &&
    c.valves.list.all CfgValve.ok && c.loops.ok && orBlank c.comp {} c.compOk && orBlank c.cellProt {} (c.cellProt.ok c.cellV.vMin c.cellV.vMax c.taps.nominal) &&
    c.cellTemp.ok && c.timed.ok && c.ins.ok && c.safeIn.ok c.test.widthUs && c.test.ok && c.safeOut.ok

/-- Ranges of the records of time, the networks, the twin pair, dispatch, update and the recorder. -/
def Cfg.rangesD (c : Cfg) : Bool :=
  c.sources.ok && c.ptp.ok && c.steer.ok && c.pps.ok && c.tp1.ok && c.tp2.ok && rng 0 300 c.startWait && c.plant.ok && c.maint.ok &&
    (c.teleClients.all CfgTele.ok) && decide (c.teleClients.length ≤ 8) && (c.goosePubs.zipIdx.all fun e => e.1.ok e.2) &&
    decide (c.gooseSubs.length ≤ 16) && (c.gooseSubs.all fun g => g.ok c.ins.list) && c.twin.ok && decide (c.masters.length ≤ 8) &&
    c.masters.all (rng 0 127) && distinct c.masters && distinct c.groups && decide (c.clients.length ≤ 8) && c.clients.all CfgClient.ok &&
    c.alloc.ok && c.inter.ok && c.local_.ok && c.elect.ok && c.can.all CfgCan.ok && decide (c.msgs.length ≤ 16) && c.msgs.all CfgMsg.ok &&
    rng 10 3600 c.upBeh.followS && decide (c.servers.length ≤ 2) && c.servers.all CfgServer.ok && c.events.ok && c.monitors.all CfgMon.ok

/-- Every field lies in the range of its record table (20 R497, R499 stage 13). -/
def Cfg.rangesOk (c : Cfg) : Bool := c.rangesA && c.rangesB && c.rangesC && c.rangesD

/-! ### Required records and rules (20 R499 stage 14) -/

/-- Every required record is present (20 R497). -/
def Cfg.requiredOk (c : Cfg) : Bool :=
  let n := c.branchCount
  !decide (c.string = {}) && !decide (c.branches = {}) && decide (c.shunts.rNano.length = n) && decide (c.shunts.tcPpm.length = n) &&
    !decide (c.hall = {}) && decide (c.ratingDis.length = n) && decide (c.ratingChg.length = n) && !decide (c.derived.fallbackR0 = 0) &&
    !decide (c.rating.capacity = 0) && !decide (c.ocv = {}) && !decide (c.capFac = {}) && !decide (c.empty = {}) && !decide (c.cellV = {}) &&
    !decide (c.cellI = {}) && !c.buses.isEmpty && !decide (c.radio = {}) && !c.nodes.isEmpty && decide (c.comp.pos.length = n) &&
    decide (c.comp.neg.length = n) && !decide (c.cellProt.vOv = 0) && !decide (c.cellProt.vUv = 0) && !decide (c.salt = 0) && !decide (c.epoch = 0) &&
    decide (c.groups.length = 3) && !c.plant.addr.isEmpty

/-- The tone plan of 06 R151 and R161 (06 records). -/
def Cfg.toneRules (c : Cfg) : Bool :=
  let t := c.tone
  let f := fun i => t.freqs.getD i 0
  let rss := (t.requestable.map fun i => t.amps.getD i 0 * t.amps.getD i 0).sum
  (t.freqs.all fun x => rng 1 100000 x && (decide (x < 100) || decide (x % 100 = 0))) && distinct t.freqs &&
    ((t.requestable ++ t.balEven.toList ++ t.balOdd.toList).all fun i => decide (f i % 5 = 0)) &&
    decide (min rss 400000000 * (c.string.busMin * c.string.busMin) ≤ 10000 * c.string.rated * (10000 * c.string.rated))

/-- Cells, sensors and estimation tables (01 R27, R28; 05; 07; 08). -/
def Cfg.cellRules (c : Cfg) : Bool :=
  let span := fun (l : List Int) => decide (l.foldl min (l.headD 0) ≤ c.capFac.temps.foldl min (c.capFac.temps.headD 0)) &&
    decide (c.capFac.temps.foldl max (c.capFac.temps.headD 0) ≤ l.foldl max (l.headD 0))
  (c.branches.cells.all fun n => decide (n * c.branches.maxCellUv ≤ 1600000000)) && distinct (c.nodes.map fun e => (e.branch, e.stack)) &&
    distinct (c.nodes.map fun e => e.index) && (c.shunts.rNano.all fun r => decide (2000 * r ≤ 150000000)) && decide (4000 * c.hall.sens ≤ 10000000) &&
    span c.ocv.temps && span c.empty.temps && decide (c.anchor.vEoc ≤ c.branches.maxCellUv) &&
    decide (c.cellI.temps.foldl min (c.cellI.temps.headD 0) ≤ c.cellV.temps.foldl min (c.cellV.temps.headD 0)) &&
    decide (c.cellV.temps.foldl max (c.cellV.temps.headD 0) ≤ c.cellI.temps.foldl max (c.cellI.temps.headD 0))

/-- Buses, balancing and relaying (01 R30; 03 R89; 09 R237 and records). -/
def Cfg.busRules (c : Cfg) : Bool :=
  (c.nodes.all fun e => decide ((c.buses.filter fun b => b.nodes.contains e.index).length = 1)) &&
    ((List.range 4).all fun ch => decide ((c.nodesOfChan ch).length + (if c.relay.enable then c.relay.pairs else 0) ≤ 32)) &&
    decide (c.bal.learnMa + 10 * c.tone.excitation ≤ 3000) && decide (c.cellV.vMin.foldl min (c.cellV.vMin.headD 0) < c.bal.floorUv)

/-- Temperatures and cooling (10 R272 and records). -/
def Cfg.heatRules (c : Cfg) : Bool :=
  decide (c.priv.length ≤ 16) && ([0x410, 0x411, 0x412, 0x413, 0x414, 0x415].all fun k => c.priv.any fun p => decide (p.chan = k)) &&
    distinct (c.priv.map fun p => p.chan) && (c.priv.all fun p => rng 0x400 0x407 p.chan || rng 0x410 0x416 p.chan) &&
    (c.valves.list.all fun v => !(v.enable && decide (c.twin.mode = 0 ∧ v.twin = 1))) &&
    c.branchList.all fun b => c.valves.list.any fun v => v.enable && decide (v.loop = c.loops.branchLoop.getD b 0)

/-- Protection, insulation, contactors and safety inputs (11, 12, 13). -/
def Cfg.safetyRules (c : Cfg) : Bool :=
  decide (c.cellProt.vOv ≤ 5000000 + c.cellProt.m) &&
    decide (c.ins.cap ≤ c.ins.period) &&
    ((List.range 12).all fun k => decide (c.coil.pullW.getD k 40 ≤ c.coil.budget)) &&
    ((List.range 4).all fun p =>
      let f := fun i => c.safeIn.fn.getD i 0
      let src := fun i => c.safeIn.source.getD i 0
      let a := 2 * p
      let paired := c.safeIn.pair.getD a false
      decide (paired = c.safeIn.pair.getD (a + 1) false) &&
        (!paired || decide (f a = f (a + 1) ∧ src a ≠ src (a + 1) ∧ src a ≠ 0 ∧ src (a + 1) ≠ 0)) &&
        (paired || !decide (f a = 1 ∨ f a = 2 ∨ f (a + 1) = 1 ∨ f (a + 1) = 2))) &&
    decide (c.conv.stopMs < c.timed.breakMs) && decide (c.power.wakeCurrent < min (c.comp.pos.foldl min (c.comp.pos.headD 0)) (c.comp.neg.foldl min (c.comp.neg.headD 0)))

/-- The pre-charge time limit reaches the end window at tau_max from the largest branch voltage (12 R326): an exponential falls by e^5, above 148,
in 5 tau_max, which the range of the limit grants; beyond that the logarithm decides. -/
def Cfg.prechargeRule (c : Cfg) : Bool :=
  let v := (c.branches.cells.foldl max 0) * c.branches.maxCellUv
  let w := max 5000000 (v * c.pre.endFrac / 1000)
  decide (v ≤ 148 * w) || decide ((c.pre.tauMax : Rat) * Config.ln ((v : Rat) / (w : Rat)) ≤ (c.pre.limitMs : Rat))

/-- Octets of stream payload per second (15 R398): 196 a node and 8 a frame of at most 7 nodes, 250 sets a second. -/
def Cfg.streamOctets (c : Cfg) : Nat :=
  if c.streaming then 250 * (196 * c.nodes.length + 8 * ((c.nodes.length + 6) / 7)) else 0

/-- Time, twin, networks, dispatch and power states (02 R62; 14; 15 R403; 17 R434; 18 R445, R447; 19). -/
def Cfg.netRules (c : Cfg) : Bool :=
  (decide (c.twin.mode = 0) || c.locked) &&
    decide (c.elect.timeout + 7 * c.elect.stagger + c.elect.claim + 2 < c.alloc.holdMs) &&
    decide ((c.teleClients.map fun t => t.rate).sum + c.streamOctets ≤ 1000000000) &&
    (c.can.all fun k => decide (k.nominal ≤ k.data) && !(decide (c.twin.mode = 1) && k.term0 && k.term1)) &&
    ([1, 2].all fun ch => distinct ((c.msgs.filter fun m => decide (m.chans = ch ∨ m.chans = 3)).map fun m => (m.ident, m.ext))) &&
    (c.msgs.all fun m => !(decide (m.fn = 1) && decide (1000 < m.period)) && !(decide (m.fn = 3) && decide (60000 < m.timeout)) &&
      !(decide (m.fn = 3) && decide (2 ≤ m.loop))) &&
    !(c.power.hibEnable && c.masters.contains c.string.index)

/-- Every rule that "Ualos rejects" in another chapter and that one image can show (20 R499 stage 14). -/
def Cfg.rulesOk (c : Cfg) : Bool :=
  c.requiredOk && c.toneRules && c.cellRules && c.busRules && c.heatRules && c.safetyRules && c.prechargeRule && c.netRules

end Sys2Proof
end

