-- ==== Sys2Proof/Machine/Encode.lean ====
section
/-! DEFINITION. Sys2Proof/Machine/Encode.lean: the octets of the records of a configuration image (20 R495, R496): the body every record's fields
produce, and the test that an image's records section is the one its fields were read from. What 20 R496 leaves open (the count of a list whose length
the record fixes, entries that name no index, a unit that is a count) is settled as log 108 says. -/

namespace Sys2Proof

open Sys2Proof.Machine

/-! ### Field kinds (20 R496) -/

/-- A quantity: 32 bits, two's complement where a permitted value is negative. -/
def q32 (n : Nat) : List Nat := octetsOf 4 n
def i32 (v : Int) : List Nat := octetsOf 4 (wrapInt 4 v)
/-- A quantity whose range exceeds 32 bits. -/
def q64 (n : Nat) : List Nat := octetsOf 8 n
/-- An enable or flag. -/
def flag (b : Bool) : List Nat := [if b then 1 else 0]
/-- A text, or a list of single octets: a count, then its octets. -/
def text (l : List Nat) : List Nat := l.length :: l
/-- A group: a count, then the entries. -/
def group {α : Type} (l : List α) (f : α → List Nat) : List Nat := l.length :: l.flatMap f
/-- A table over two dimensions: both counts, then the values with the first-named dimension outermost. -/
def table2 (a b : Nat) (rows : List (List Nat)) : List Nat := [a, b] ++ rows.flatMap fun r => r.flatMap q32
/-- A plant time of which only seconds are stated. -/
def seconds (n : Nat) : List Nat := octetsOf 6 n ++ octetsOf 4 0
/-- An address with the length of its network part. -/
def addr6 (a p : Nat) : List Nat := octetsOf 16 a ++ [p]
def addr4 (a p : Nat) : List Nat := octetsOf 4 a ++ [p]

/-- The defaults of the delay and clear time of functions 0x0C to 0x15, ms (11 R292). -/
def timedDefault : Nat → Nat × Nat
  | 0x0C => (10000, 60000) | 0x0D => (1000, 0) | 0x0E => (10000, 0) | 0x0F => (0, 1000) | 0x11 => (5000, 60000) | 0x13 => (10000, 0)
  | 0x14 => (10000, 0) | _ => (0, 0)

/-- An entry of a coolant valve (10), of a loop, of a pulse output (02), of a CAN channel and a CAN message (18). -/
def CfgValve.body (v : CfgValve) : List Nat :=
  flag v.enable ++ [v.loop, v.twin] ++ q32 v.travel ++ q32 v.maxVel ++ q32 v.homeVel ++ q32 v.accel ++ q32 v.runMa ++ q32 v.holdMa ++ q32 v.holdMs ++
    q32 v.stallAngle ++ q32 v.stallMin ++ q32 v.deadband ++ q32 v.minOpen
def CfgLoop.body (l : CfgLoop) : List Nat := q32 l.setpoint.toNat ++ q32 l.kp ++ q32 l.ki ++ q32 l.chMin.toNat ++ q32 l.chMax.toNat ++ q32 l.chStep
def CfgTp.body (c : CfgTp) : List Nat :=
  [c.mode] ++ octetsOf 6 c.start.secs ++ octetsOf 4 c.start.nanos ++ octetsOf 2 c.sub ++ q64 c.period ++ q32 c.width ++ flag c.low ++ q32 c.count
def CfgCan.body (c : CfgCan) : List Nat :=
  flag c.enable ++ q32 c.nominal ++ q32 c.data ++ q32 c.spNom ++ q32 c.spData ++ flag c.term0 ++ flag c.term1 ++ [c.wake] ++ octetsOf 4 c.wakeId ++
    flag c.wakeExt ++ octetsOf 4 c.wakeMask ++ octetsOf 8 c.wakeData ++ octetsOf 8 c.wakeDataMask
def CfgMsg.body (m : CfgMsg) : List Nat :=
  [m.fn, m.loop, m.chans] ++ octetsOf 4 m.ident ++ flag m.ext ++ [m.ftype] ++ q32 m.period ++ q32 m.timeout
def CfgGoosePub.body (g : CfgGoosePub) : List Nat :=
  octetsOf 2 g.appid ++ octetsOf 6 g.mac ++ q32 g.vlan ++ [g.prio] ++ text g.goId ++ q32 g.confRev ++ q32 g.maxMs
def CfgGooseSub.body (g : CfgGooseSub) : List Nat :=
  octetsOf 2 g.appid ++ text g.cbRef ++ text g.datSet ++ q32 g.confRev ++ [g.member] ++ flag g.coupling ++ [g.string]

/-- The four flags of a slot of the tone plan (06 record 0x0402): requestable, balancing even, balancing odd, temperature tone. -/
def CfgTone.flags (t : CfgTone) (i : Nat) : Nat :=
  bitsOf [decide (i ∈ t.requestable), decide (t.balEven = some i), decide (t.balOdd = some i), decide (t.tempSlot = some i)]

/-! ### Records by group (20 R495, R496; the record tables of chapters 02 to 22) -/

/-- Records of groups 0x01 to 0x03. -/
def Cfg.bodyA (c : Cfg) : Nat → Option (List Nat)
  | 0x0101 => let r := c.power; some (flag r.hibEnable ++ q32 r.hibDelay ++ q32 r.watchCurrent ++ q32 r.runDwell ++ q32 r.selfDischarge ++
      q32 r.wakeCurrent ++ q32 r.wakeCurrentMs ++ [1, 4, 5, 6, 7].flatMap fun k => flag (decide (k ∈ r.wakeEnables)))
  | 0x0201 => let r := c.string; some ([r.index] ++ octetsOf 8 r.plantId ++ q32 r.rated ++ q32 r.busMin ++ q32 r.busMax ++ text r.text)
  | 0x0202 => some (q32 c.branches.maxCellUv ++ group c.branches.cells q32)
  | 0x0210 => some (q32 c.conv.stopMs ++ q32 c.conv.fibre)
  | 0x0301 => some (group (c.shunts.rNano.zip c.shunts.tcPpm) fun e => q32 e.1 ++ i32 e.2)
  | 0x0302 => some (q32 c.hall.sens ++ i32 c.hall.offset ++ flag c.hall.inverted)
  | 0x0303 => some (group c.rconn q32)
  | 0x0304 => let r := c.cross; some (q32 r.vShare ++ q32 r.vFixed ++ [r.vWindows] ++ q32 r.iShare ++ q32 r.iFixed ++ [r.iWindows])
  | 0x0305 => some (group (c.ratingDis.zip c.ratingChg) fun e => q32 e.1 ++ q32 e.2)
  | 0x0306 => some (q32 c.limBeh.sharing ++ q32 c.limBeh.ramp ++ q32 c.limBeh.plating)
  | 0x0307 => let r := c.coil; some ((group (List.range 12) fun k => q32 (r.pullMs.getD k 100) ++ q32 (r.pullW.getD k 40) ++ q32 (r.holdMa.getD k 500)) ++
      q32 r.budget ++ q32 r.pullMin ++ q32 r.holdMin)
  | 0x0308 => let r := c.contSup; some (q32 r.closeMs ++ q32 r.dropMs ++ q32 r.debounce ++ q32 r.openMa)
  | 0x0309 => let r := c.pre; some (q32 r.tauMin ++ q32 r.tauMax ++ q32 r.endFrac ++ q32 r.limitMs ++ [r.attempts] ++ q32 r.window ++ q32 r.lockout)
  | 0x030A => let r := c.join; some (q32 r.windowMv ++ q32 r.hold ++ flag r.fixedOrder ++ text r.order ++ q32 r.leaveMa ++ q32 r.leaveMs ++
      q32 r.leaveBreakMa ++ flag r.autoConnect)
  | _ => none

/-- Records of group 0x04. -/
def Cfg.bodyB (c : Cfg) : Nat → Option (List Nat)
  | 0x0401 => some (q32 c.taps.nominal ++ q32 c.taps.bound)
  | 0x0402 => let r := c.tone; some ((group (List.range 8) fun i => q32 (r.freqs.getD i 0) ++ [r.flags i] ++ q32 (r.amps.getD i 0)) ++ q32 r.excitation)
  | 0x0403 => let r := c.est; some ([r.minWin, r.minLow] ++ q32 r.ratioDb ++ q32 r.restMa ++ q32 r.restS)
  | 0x0404 => let r := c.fit; some (q32 r.alphaLo ++ q32 r.alphaHi ++ [r.iters] ++ q32 r.chi)
  | 0x0405 => let r := c.derived; some (q32 r.bDefault ++ q32 r.crossLimit ++ i32 r.platingTemp ++ q32 r.platingThr ++ [r.platingFits] ++ q32 r.contactThr ++
      q32 r.fallbackR0 ++ q32 r.ageS)
  | 0x0406 => let r := c.rating; some (q32 r.capacity ++ q32 r.refTemp.toNat ++ q32 r.refRate ++ q32 r.awakeUa ++ q32 r.sleepUa)
  | 0x0407 => let r := c.ocv; some (group r.temps i32 ++ group r.socs (fun v => q32 v.toNat) ++ table2 r.temps.length r.socs.length r.dis ++
      table2 r.temps.length r.socs.length r.chg ++ q32 r.hyst)
  | 0x0408 => let r := c.capFac; some (group r.temps i32 ++ group r.rates q32 ++ table2 r.temps.length r.rates.length r.f)
  | 0x0409 => let r := c.anchor; some (q32 r.restMa ++ q32 r.restS ++ q32 r.restUv ++ q32 r.vEoc ++ q32 r.vEocBand ++ q32 r.vEod ++ q32 r.vEodBand ++
      q32 r.taperHi ++ q32 r.taperLo ++ q32 r.holdS ++ q32 r.socEoc.toNat ++ q32 r.socEod.toNat ++ q32 r.sigma)
  | 0x040A => let r := c.empty; some (group r.temps i32 ++ group r.rates q32 ++ table2 r.temps.length r.rates.length r.v)
  | 0x040B => let r := c.dis; some (q32 r.margin ++ q32 r.floor ++ q32 r.reverse ++ q32 r.debounce ++ q32 r.recovery ++ q32 r.days)
  | 0x040C => let r := c.capLearn; some (q32 r.minSpan ++ q32 r.maxSigma ++ q32 r.gain ++ q32 r.step ++ q32 r.drift ++ q32 r.initial ++ q32 r.fade)
  | 0x040D => let r := c.leak; some (q32 r.nom ++ q32 r.doubling ++ q32 r.hours ++ q32 r.watch ++ q32 r.alarm ++ q32 r.trend)
  | 0x040E => let r := c.filter; some (q32 r.r1 ++ q32 r.r2 ++ q32 r.tau1 ++ q32 r.tau2 ++ q32 r.ageS ++ q32 r.noise ++ q32 r.gate)
  | 0x040F => let r := c.cellV; some (group r.temps i32 ++ group (r.vMin.zip r.vMax) (fun e => q32 e.1 ++ q32 e.2) ++ q32 r.margin)
  | 0x0410 => let r := c.cellI; let t := table2 r.temps.length r.socs.length
      some (group r.temps i32 ++ group r.socs (fun v => q32 v.toNat) ++ t r.peakDis ++ t r.peakChg ++ t r.contDis ++ t r.contChg)
  | 0x0411 => let r := c.convModel; some (r.c.flatMap q32 ++ r.st.flatMap q32 ++ q32 r.bus ++ q32 r.eta ++ q32 r.droop)
  | 0x0412 => let r := c.bal; some (flag r.enable ++ [r.mode] ++ q32 r.upper.toNat ++ q32 r.lower.toNat ++ q32 r.start ++ q32 r.stop ++ q32 r.tau ++
      q32 r.sigma ++ q32 r.floorUv ++ q32 r.ceilUv ++ q32 r.learnMa ++ q32 r.solveMs)
  | 0x0413 => some (group c.buses.zipIdx fun e => [e.2] ++ q32 e.1.rating ++ text e.1.nodes)
  | _ => none

/-- Records of groups 0x05 and 0x06. -/
def Cfg.bodyC (c : Cfg) : Nat → Option (List Nat)
  | 0x0501 => let r := c.radio; some (group (List.range r.chan.length) fun i => [r.chan.getD i 0, r.code.getD i 0] ++ q32 (r.level.getD i 0))
  | 0x0502 => some (text c.neighbours)
  | 0x0503 => some (flag c.relay.enable ++ [c.relay.pairs])
  | 0x0504 => some [c.watchRatio]
  | 0x0505 => some (q32 c.link.energyDb ++ q32 c.link.relayLoss)
  | 0x0506 => some ([c.contend.ratio, c.contend.ceiling] ++ q32 c.contend.pause)
  | 0x0507 => some (group c.nodes fun e => [e.index] ++ octetsOf 8 e.ident ++ [e.cls, e.branch, e.stack])
  | 0x0508 => some (flag c.repl.enable ++ [c.repl.fraction])
  | 0x0601 => let r := c.chanMap; some ((group c.nodes fun e => [e.index] ++ (List.range 16).map fun j => (r.sensor.lookup (16 * e.index + j)).getD (j / 2)) ++
      group (List.range 8) fun i => [r.localType.getD i 0] ++ q32 (r.localB.getD i 3435) ++ [r.localTwin.getD i 0])
  | 0x0602 => let r := c.eval; some (q32 r.band ++ q32 r.fast ++ q32 r.rise ++ q32 r.persist ++ q32 r.staleS)
  | 0x0603 => some (q32 c.neighbourLimit)
  | 0x0604 => some (group c.priv fun p => octetsOf 2 p.chan ++ i32 p.w ++ i32 p.th ++ i32 p.shut ++ q32 p.h ++ [p.dirs] ++ q32 p.missing)
  | 0x0605 => some (group (List.range 2) fun v => (c.valves.list.getD v {}).body)
  | 0x0606 => let r := c.loops; some (group c.branchList (fun b => [r.branchLoop.getD b 0]) ++ group (List.range 2) (fun l => (r.list.getD l {}).body) ++ q32 r.factor)
  | _ => none

/-- Records of groups 0x07 and 0x08. -/
def Cfg.bodyD (c : Cfg) : Nat → Option (List Nat)
  | 0x0701 => let r := c.comp; some (group (r.pos.zip r.neg) (fun e => q32 e.1 ++ q32 e.2) ++ q32 r.isPos ++ q32 r.isNeg)
  | 0x0702 => let r := c.cellProt; some (q32 r.vOv ++ q32 r.vUv ++ q32 r.m ++ q32 r.hyst ++ q32 r.debounce)
  | 0x0703 => let r := c.cellTemp; some (q32 r.high.toNat ++ i32 r.low ++ q32 r.hyst)
  | 0x0704 => let r := c.timed; some (((List.range 10).flatMap fun k => let n := 0x0C + k
      q32 ((r.delay.lookup n).getD (timedDefault n).1) ++ q32 ((r.clear.lookup n).getD (timedDefault n).2)) ++
      q32 r.ocFactor ++ q32 r.mismatch ++ q32 r.breakMa ++ q32 r.breakMs ++ flag r.precursorHold)
  | 0x0705 => let r := c.ins; some ([r.mode] ++ text r.list ++ q32 r.warn ++ q32 r.trip ++ q32 r.period ++ q32 r.cap ++ flag r.publishOnly ++ q32 r.poleShare)
  | 0x0706 => let r := c.safeIn; some ((group (List.range 8) fun i => [r.fn.getD i 0] ++ flag (r.pair.getD i false) ++ [r.source.getD i 0] ++
      q32 (r.filterUs.getD i 1000)) ++ group (List.range 4) fun p => q32 (r.discMs.getD p 100))
  | 0x0707 => some (q32 c.test.periodUs ++ q32 c.test.widthUs)
  | 0x0708 => let r := c.safeOut; some (group (List.range 2) fun o => [r.fn.getD o 0] ++ q32 (r.darkS.getD o 60) ++ flag (r.brightOn.getD o true) ++
      q32 (r.brightS.getD o 60))
  | 0x0709 => some (octetsOf 16 c.salt)
  | 0x0801 => some (seconds c.epoch)
  | 0x0802 => some (text c.sources.order)
  | 0x0803 => some (flag c.ptp.boundary ++ [c.ptp.domain, bitsOf [decide (1 ∈ c.ptp.ports), decide (2 ∈ c.ptp.ports)]])
  | 0x0804 => let r := c.steer; some (q32 r.lockNs ++ q32 r.slewPpm ++ q32 r.stepUs ++ q32 r.holdS)
  | 0x0805 => some (flag c.locked)
  | 0x0806 => some (q32 c.pps.widthMs ++ [c.pps.squelch])
  | 0x0807 => some c.tp1.body
  | 0x0808 => some c.tp2.body
  | 0x0809 => some (q32 c.startWait)
  | _ => none

/-- Records of groups 0x09 to 0x0F. -/
def Cfg.bodyE (c : Cfg) : Nat → Option (List Nat)
  | 0x0901 => let r := c.plant; some ((group (List.range r.addr.length) fun i => addr6 (r.addr.getD i 0) (r.pfx.getD i 64) ++
      addr4 (r.addr4.getD i 0) (r.pfx4.getD i 0)) ++ q32 r.vlan ++ q32 r.prpMs)
  | 0x0902 => some (group c.teleClients fun e => octetsOf 16 e.addr ++ [e.rights] ++ q32 e.rate ++ q32 e.depth ++ q32 e.reqRate)
  | 0x0903 => some (addr4 c.maint.addr c.maint.pfx ++ q32 c.maint.rate ++ q32 c.maint.depth)
  | 0x0904 => some (group c.goosePubs CfgGoosePub.body)
  | 0x0905 => some (group c.gooseSubs CfgGooseSub.body)
  | 0x0A01 => let r := c.twin; some ([r.mode, r.position] ++ q32 r.waitS ++ q32 r.leadUs ++ q32 r.holdS)
  | 0x0B01 => some (text c.masters)
  | 0x0B02 => some (group c.groups fun a => octetsOf 16 a)
  | 0x0B03 => some (group c.clients fun e => octetsOf 16 e.addr ++ [e.rights] ++ q32 e.rate ++ [e.depth])
  | 0x0B04 => let r := c.alloc; some ([r.horizon] ++ q32 r.holdMs ++ q32 r.fallback ++ q32 r.expiry)
  | 0x0B05 => some (flag c.inter.enable ++ q32 c.inter.interval)
  | 0x0B06 => some (flag c.streaming)
  | 0x0B07 => some (q32 c.local_.threshold ++ q32 c.local_.lookback ++ [c.local_.cells])
  | 0x0B08 => some (q32 c.elect.timeout ++ q32 c.elect.stagger ++ q32 c.elect.claim)
  | 0x0C01 => some (group c.monitors fun m => [m.number] ++ q32 m.window ++ i32 (m.l.getD (monitorEdges m.number).1) ++
      q32 (m.w.getD (monitorEdges m.number).2).toNat ++ i32 m.limit)
  | 0x0D01 => some (q32 c.events.rate ++ [c.events.depth] ++ group c.events.list fun e => octetsOf 2 e.1 ++ q32 e.2.1 ++ [e.2.2])
  | 0x0E01 => some (group c.servers fun e => octetsOf 16 e.addr ++ q32 e.rate ++ q32 e.depth)
  | 0x0E02 => some (q32 c.upBeh.followS)
  | 0x0F01 => some (group (List.range 2) fun i => (c.can.getD i {}).body)
  | 0x0F02 => some (group c.msgs CfgMsg.body)
  | _ => none

/-- The body of a record, none for a tag the firmware does not define (20 R495). -/
def Cfg.recordBody (c : Cfg) (tag : Nat) : Option (List Nat) :=
  match tag / 256 with
  | 1 | 2 | 3 => c.bodyA tag
  | 4 => c.bodyB tag
  | 5 | 6 => c.bodyC tag
  | 7 | 8 => c.bodyD tag
  | _ => c.bodyE tag

/-- The tags the firmware defines, ascending. -/
def recordTags : List Nat :=
  [0x0101, 0x0201, 0x0202, 0x0210] ++ (List.range 10).map (· + 0x0301) ++ (List.range 19).map (· + 0x0401) ++ (List.range 8).map (· + 0x0501) ++
    (List.range 6).map (· + 0x0601) ++ (List.range 9).map (· + 0x0701) ++ (List.range 9).map (· + 0x0801) ++ (List.range 5).map (· + 0x0901) ++ [0x0A01] ++
    (List.range 8).map (· + 0x0B01) ++ [0x0C01, 0x0D01, 0x0E01, 0x0E02, 0x0F01, 0x0F02]

/-- The tags of the records a configuration must hold (20 R497). -/
def requiredTags : List Nat :=
  [0x0201, 0x0202, 0x0301, 0x0302, 0x0305, 0x0405, 0x0406, 0x0407, 0x0408, 0x040A, 0x040F, 0x0410, 0x0413, 0x0501, 0x0507, 0x0701, 0x0702, 0x0709,
    0x0801, 0x0901, 0x0B02]

/-- Every record of a configuration, in the order of the records section. -/
def Cfg.records (c : Cfg) : List (Nat × List Nat) := recordTags.filterMap fun t => (c.recordBody t).map fun b => (t, b)

/-- The records section: tag, length and body of each record (20 R495). -/
def sectionOctets (l : List (Nat × List Nat)) : List Nat := l.flatMap fun r => octetsOf 2 r.1 ++ octetsOf 2 r.2.length ++ r.2

/-- Tags stand in strictly ascending order. -/
def tagsAscend : List (Nat × List Nat) → Bool
  | a :: b :: r => decide (a.1 < b.1) && tagsAscend (b :: r)
  | _ => true

/-- An image's records are those its configuration was read from (20 R495 to R497): tags ascend, each is defined and its body is the one its fields
produce, so that its length agrees too; a record that is absent has the defaults of its table. -/
def Image.decodes (g : Image) : Bool :=
  tagsAscend g.records && (g.records.all fun r => decide (g.cfg.recordBody r.1 = some r.2)) &&
    recordTags.all fun t => (g.records.any fun r => decide (r.1 = t)) || decide (g.cfg.recordBody t = ({} : Cfg).recordBody t)

/-- Every required record is present (20 R497, R499 stage 14). -/
def Image.holdsRequired (g : Image) : Bool := requiredTags.all fun t => g.records.any fun r => decide (r.1 = t)

/-- A record of the safety parameters (13 R350). -/
def safetyTag (t : Nat) : Bool := decide (t / 256 = 7) || decide (t ∈ [0x0301, 0x0302, 0x0305, 0x0307, 0x0308, 0x0309, 0x030A, 0x0401, 0x0508])

/-- The safety hash of an image: the first 8 octets of the SHA-256 of the safety parameters as they stand in it (13 R350). -/
def Image.safetyHash (g : Image) : Nat := Config.sha256 (sectionOctets (g.records.filter fun r => safetyTag r.1)) % 2 ^ 256 / 2 ^ 192

end Sys2Proof
end

