-- ==== Sys2Proof/Machine/Limits.lean ====
section
/-! DEFINITION. Sys2Proof/Machine/Limits.lean: power and current limits (chapter 08), their records, and the tone requests that
are bounded by them (06 R160 to R162). -/

namespace Sys2Proof.Machine

open Sys2Proof

/-- The horizons in s (08 R221). -/
def horizons : List Nat := [2, 10, 30, 60, 900]

/-! ### Cell limits (08 R223 to R225) -/

/-- What the prediction of a cell needs at one horizon and direction. -/
structure CellPred where
  /-- SoC less or plus its margin -/
  socD : Rat
  /-- offset between branch and cell current, mA -/
  off : Rat
  /-- relaxation voltage left at the horizon, V -/
  relax : Rat
  /-- effective resistance, ohm -/
  reff : Rat
  /-- slope of ocv at socD, V per unit SoC -/
  slope : Rat
deriving DecidableEq, Repr

/-- R0x of a cell in ohm (08 R224). -/
def State.r0x (s : State) (c : Nat) : Rat :=
  (if s.fitUsable c then (s.protR0 c : Rat) else (s.cfg.derived.fallbackR0 : Rat)) / 1000000000

/-- SoC used for a direction (08 R223): reported SoC less the margin to discharge, plus it to charge. -/
def State.socFor (s : State) (c : Nat) (chg : Bool) : Rat :=
  let m := (s.cfg.cellV.margin : Rat) / 10 * Config.sqrt ((s.cell c).p 0 0)
  if chg then s.reported c + m else s.reported c - m

/-- The branches that count as joined for the limits: a leaving one does not (12 R330). -/
def State.limitJoined (s : State) : List Nat := s.cfg.branchList.filter fun b => decide (s.branch b = .joined)

/-- The offset of a cell's current from its branch's current, mA, in the sweep last counted (08 R223). -/
def State.cellOffset (s : State) (c : Nat) : Rat :=
  match s.cfg.nodeOfCell c with
  | some n => (s.node n).effCur (s.ch.lastSweep.getD s.acq.sweep) ((c % 16 : Nat) : Int) - s.ba.iRet.get n 0 + s.nodeSupply n
  | none => 0

/-- The prediction of a cell at horizon `h` in s (08 R223). -/
def State.cellPred (s : State) (c : Nat) (chg : Bool) (h : Nat) : CellPred :=
  let x := s.cell c
  let (_, r1, r2, t1, t2) := s.params c
  let e1 := Config.exp (-(h : Rat) / t1)
  let e2 := Config.exp (-(h : Rat) / t2)
  let sd := s.socFor c chg
  { socD := sd
    off := s.cellOffset c
    relax := x.u1 * e1 + x.u2 * e2
    reff := s.r0x c + r1 * (1 - e1) + r2 * (1 - e2)
    slope := slopeCurve sd (s.ocvPoints (s.cellTemp c) x.h) }

/-- I_table of a cell in mA (08 R223, R225): the peak table at 2 s and 10 s, the continuous one beyond; the least over the
temperatures while the cell temperature is not valid. -/
def State.tableMa (s : State) (c : Nat) (chg : Bool) (i : Nat) (soc : Rat) : Rat :=
  let k := s.cfg.cellI
  let rows := (if i < 2 then (if chg then k.peakChg else k.peakDis) else (if chg then k.contChg else k.contDis)).map
    fun r => r.map fun v => (v : Rat)
  let x := soc * 40000
  let v := if qValid (s.cellTempQ c) then interp2 k.temps k.socs rows (s.cellTemp c : Rat) x
    else minR (rows.map fun r => interp (k.socs.zip r) x)
  v / 100 * (s.cfg.rating.capacity : Rat) / 3600

/-- The voltage bound of a cell in V (08 R223, R225). -/
def State.voltBound (s : State) (c : Nat) (chg : Bool) : Rat :=
  let k := s.cfg.cellV
  let vs := (if chg then k.vMax else k.vMin).map fun v => (v : Int)
  (if qValid (s.cellTempQ c) then interp (k.temps.zip (vs.map fun v => (v : Rat))) (s.cellTemp c : Rat)
   else ((if chg then minI 0 vs else maxI 0 vs : Int) : Rat)) / 1000000

/-- Which condition of 08 R223 a magnitude of 10 mA steps fails, if any: 1 voltage, 2 charge or headroom, 3 table. -/
def State.cellFails (s : State) (c : Nat) (chg : Bool) (i h k : Nat) : Option Nat :=
  let p := s.cellPred c chg h
  let q := (s.cell c).q
  let y : Rat := 10 * (k : Rat) + (if chg then -p.off else p.off)
  let ds := y * (h : Rat) / q
  let vb := s.voltBound c chg
  let vOk := if chg then decide (s.ocv (p.socD + ds) (s.cellTemp c) (s.cell c).h - p.relax + y / 1000 * p.reff ≤ vb)
    else decide (vb ≤ s.ocv (p.socD - ds) (s.cellTemp c) (s.cell c).h - p.relax - y / 1000 * p.reff)
  let room := if chg then (1 - p.socD) * q else max 0 (p.socD - (1 - s.capNow c)) * q
  let tb := s.tableMa c chg i p.socD
  if !vOk then some 1
  else if room < y * (h : Rat) then some 2
  else if tb < y ∨ tb < 10 * (k : Rat) then some (if tb = 0 then 0 else 3)
  else none

/-- Bisection on the grid: the largest step at which nothing fails, `lo` known good and `hi` known bad. -/
def bisect (fails : Nat → Option Nat) : Nat → Nat → Nat → Nat
  | 0, lo, _ => lo
  | f + 1, lo, hi =>
    if hi ≤ lo + 1 then lo
    else
      let mid := (lo + hi) / 2
      if (fails mid).isSome then bisect fails f lo mid else bisect fails f mid hi

/-- The limit of a cell in mA with its cause (08 R223 to R225). -/
def State.cellLimit (s : State) (c : Nat) (chg : Bool) (i h : Nat) : Rat × Nat :=
  let x := s.cell c
  let fails := s.cellFails c chg i h
  let top := (s.tableMa c chg i (s.socFor c chg) / 10).floor.toNat + 1
  let base : Rat × Nat := match fails 0 with
    | some k => (0, k)
    | none => let k := bisect fails 40 0 top; (10 * (k : Rat), (fails (k + 1)).getD 3)
  let v := base.1
  let cause := if s.fitUsable c then base.2 else 0x0E
  if 2 ≤ s.acq.noAdmitSets.get c 0 then (0, 0x0D)
  else if chg && decide (0 < s.cfg.derived.platingFits ∧ s.cfg.derived.platingFits ≤ s.sg.platingRun.get c 0) then
    (v * (s.cfg.limBeh.plating : Rat) / 100, 0x07)
  else if !chg && decide (x.agree = .voltageEmpty) then (0, 0x06)
  else (v, cause)

/-! ### Branch and string limits (08 R226 to R229) -/

/-- A limit with its cause and binding cell, current in mA. -/
structure LimTerm where
  /-- current, mA -/
  i : Rat := 0
  /-- cause (08 R230) -/
  cause : Nat := 0
  /-- cell index of the binding minimum -/
  cell : Nat := 0
deriving DecidableEq, Repr

/-- The lesser of two terms, the first where equal. -/
def LimTerm.least (a b : LimTerm) : LimTerm := if b.i < a.i then b else a

/-- Lower a term to a value, with the cause of the step. -/
def LimTerm.lower (a : LimTerm) (v : Rat) (cause : Nat) : LimTerm := if v < a.i then { a with i := max 0 v, cause := cause } else a

/-- Horizon order (08 R226): a longer horizon never exceeds a shorter one. -/
def horizonOrder : List LimTerm → List LimTerm
  | [] => []
  | a :: r => let rest := horizonOrder r; a :: rest.map fun b => if a.i < b.i then a else b

/-- Rating of a branch in a direction, mA. -/
def State.ratingMa (s : State) (b : Nat) (chg : Bool) : Rat :=
  (((if chg then s.cfg.ratingChg else s.cfg.ratingDis).getD b 0 : Nat) : Rat)

/-- The limits of a branch by horizon after step 2 (08 R226). -/
def State.branchLimits (s : State) (b : Nat) (chg : Bool) : List LimTerm :=
  horizonOrder (horizons.zipIdx.map fun e =>
    let r := s.ratingMa b chg
    let cells := (s.cfg.branchCells b).map fun c =>
      let l := s.cellLimit c chg e.2 e.1
      ({ i := l.1, cause := l.2, cell := c } : LimTerm)
    let m := match cells with | [] => ({ i := r, cause := 0x04 } : LimTerm) | x :: l => l.foldl LimTerm.least x
    m.lower r 0x04)

/-- E_b in V and R_b in ohm of a branch at a horizon (08 R227). -/
def State.branchSource (s : State) (b : Nat) (chg : Bool) (h : Nat) : Rat × Rat :=
  let ps := (s.cfg.branchCells b).map fun c => (c, s.cellPred c chg h)
  (sumR (ps.map fun e => s.ocv e.2.socD (s.cellTemp e.1) (s.cell e.1).h - e.2.relax),
   sumR (ps.map fun e => e.2.reff + e.2.slope * (h : Rat) / ((s.cell e.1).q / 1000)) + ((s.cfg.rconn.getD b 0 : Nat) : Rat) / 1000000)

/-- Sharing at one horizon (08 R227): V0, the sum of conductances, and per joined branch its conductance and circulating current in A. -/
def State.sharing (s : State) (chg : Bool) (h : Nat) : Rat × Rat × List (Nat × Rat × Rat) :=
  let src := s.limitJoined.map fun b => (b, s.branchSource b chg h)
  let g := fun (r : Rat) => 1 / r
  let sg := sumR (src.map fun e => g e.2.2)
  let v0 := sumR (src.map fun e => e.2.1 * g e.2.2) / sg
  (v0, sg, src.map fun e => (e.1, g e.2.2, (e.2.1 - v0) * g e.2.2))

/-- w_b of a joined branch at a horizon (08 R227). -/
def State.shareOf (s : State) (b : Nat) (chg : Bool) (h : Nat) : Rat :=
  let (_, sg, l) := s.sharing chg h
  match l.find? fun e => decide (e.1 = b) with | some e => e.2.1 / sg | none => 0

/-- The string limit at horizon i after step 3 (08 R227), from the branch limits. -/
def State.stringLimit (s : State) (chg : Bool) (i h : Nat) (br : Nat → List LimTerm) : LimTerm :=
  let (_, sg, l) := s.sharing chg h
  let m : Rat := 1 - (s.cfg.limBeh.sharing : Rat) / 1000
  let terms := l.map fun e =>
    let t := (br e.1).getD i {}
    let w := e.2.1 / sg
    let c := e.2.2 * 1000
    { t with i := max 0 ((m * t.i + (if chg then c else -c)) / w) }
  match terms with | [] => { cause := 0x0F } | x :: r => r.foldl LimTerm.least x

/-- Power of a branch limit in W (08 R228). -/
def branchPower (chg : Bool) (src : Rat × Rat) (ma : Rat) : Rat :=
  let i := ma / 1000
  if chg then i * (src.1 + i * src.2) else i * (src.1 - i * src.2)

/-- Power of a string limit in W (08 R228). -/
def stringPower (chg : Bool) (v0 sg ma : Rat) : Rat :=
  let i := ma / 1000
  if sg = 0 then 0 else if chg then i * (v0 + i / sg) else i * (v0 - i / sg)

/-- Some node of the string is pending, a replacement being keyed among them (04 R117, R119). -/
def State.anyPending (s : State) : Bool := s.cfg.nodes.any fun n =>
  decide ((s.node n.index).adm = .pending) || (decide ((s.node n.index).adm = .keying) && (s.node n.index).replacement)

/-- The ramp of step 7 (08 R229): a rise is held to the rate from the last value; the first computation starts from zero. -/
def rampTerm (rate : Rat) (dtNs : Nat) (last : Int) (t : LimTerm) : LimTerm :=
  let top := (last : Rat) + rate * (dtNs : Rat) / 1000000000
  if top < t.i then { t with i := top, cause := 0x0C } else t

/-- Five terms as a limit row, in whole mA (log 8). -/
def row5 (l : List LimTerm) : Lim5 :=
  { vals := l.map fun t => roundOpen 29 t.i, causes := l.map LimTerm.cause, cells := l.map LimTerm.cell }

/-- A row of power limits in whole W. -/
def power5 (f : Nat → Rat → Rat) (r : Lim5) : Lim5 :=
  { r with vals := r.vals.zipIdx.map fun e => max 0 (roundOpen 30 (f e.2 (e.1 : Rat))) }

/-- The terms of a row. -/
def Lim5.terms (r : Lim5) : List LimTerm :=
  r.vals.zipIdx.map fun e => { i := (e.1 : Rat), cause := r.causes.getD e.2 0, cell := r.cells.getD e.2 0 }

/-- The requested tones' peak, mA (08 R229 step 8, 06 R161): root 2 times the root-sum-square of the requested amplitudes. -/
def State.toneReserve (s : State) : Rat :=
  let a := sumR ((List.range 8).map fun i => let x : Rat := ((s.sg.toneReq.get i 0 : Nat) : Rat); x * x)
  if a = 0 then 0 else Config.sqrt (2 * a)

/-- An action stops a branch (08 R229 step 6, 11 R290). -/
def State.branchStopped (s : State) (b : Nat) : Bool := s.bdActive b || s.demands .hold b || s.stringAction

/-- Time since the last computation; the first after a restart or takeover holds its last value (08 R229, R235). -/
def State.limDt (s : State) : Nat := if s.lim.disCount = 0 then 0 else s.now - s.lim.lastAt

/-- The limit row of a branch after step 7. -/
def State.branchRow (s : State) (b : Nat) (chg : Bool) : Lim5 :=
  let last := s.lim.branch.get b {}
  let old := (if chg then last.chg else last.dis).vals
  let rate := s.ratingMa b chg * (s.cfg.limBeh.ramp : Rat) / 1000
  let l := (s.branchLimits b chg).map fun t => if s.branchStopped b then { t with i := 0, cause := 0x0A } else t
  row5 (l.zipIdx.map fun e => rampTerm rate s.limDt (old.getD e.2 0) e.1)

/-- The limit row of the string after step 7. -/
def State.stringRow (s : State) (chg : Bool) : Lim5 :=
  let br := fun (b : Nat) => s.branchLimits b chg
  let old := (if chg then s.lim.hard.chg else s.lim.hard.dis).vals
  let rate := sumR (s.limitJoined.map fun b => s.ratingMa b chg) * (s.cfg.limBeh.ramp : Rat) / 1000
  let fac := if chg then s.tm.factorChg else s.tm.factorDis
  let frac : Rat := (s.cfg.repl.fraction : Rat) / 100
  row5 (horizons.zipIdx.map fun e =>
    let t0 := s.stringLimit chg e.2 e.1 br
    let t1 := t0.lower (t0.i * fac) 0x08
    let t2 := if s.anyPending then t1.lower (t1.i * frac) 0x09 else t1
    let t3 := if s.stringAction then { t2 with i := 0, cause := 0x0A } else t2
    rampTerm rate s.limDt (old.getD e.2 0) t3)

/-- The power row of the string for a current row (08 R228). -/
def State.stringWatts (s : State) (chg : Bool) (r : Lim5) : Lim5 :=
  power5 (fun i ma => let (v0, sg, _) := s.sharing chg (horizons.getD i 0); stringPower chg v0 sg ma) r

/-- Steps 8 and 9 (08 R229): the tone reserve, then the converter's ratings; the current and power rows of dispatch. -/
def State.dispatchRows (s : State) (chg : Bool) (hard : Lim5) : Lim5 × Lim5 :=
  let c := s.rt.conv
  let ra : Rat := ((if chg then c.chgA else c.disA : Int) : Rat)
  let rw : Int := if chg then c.chgW else c.disW
  let res := s.toneReserve
  let t8 := row5 (hard.terms.map fun t => if res = 0 then t else t.lower (t.i - res) 0x0B)
  let t9 := row5 (t8.terms.map fun t => t.lower ra 0x11)
  let w := s.stringWatts chg t9
  let capped := w.vals.map fun v => decide (rw < v)
  let causes := t9.causes.zipIdx.map fun e => if capped.getD e.2 false then 0x11 else e.1
  ({ t9 with causes := causes }, { w with vals := w.vals.map fun v => min v (max 0 rw), causes := causes })

/-! ### Records (08 R232) -/

/-- A limit record. `extra` are the flags. -/
def limitRecord (l hard : LimSet) (flags : Nat) (reserve : Int) : List Nat :=
  let causes := l.dis.causes ++ l.chg.causes
  enc ([fN 4 l.sweep] ++
    ((List.range 5).flatMap fun i => [(4, clampS 32 (l.dis.vals.getD i 0)), (4, clampS 32 (l.chg.vals.getD i 0)),
      (4, clampS 32 (l.disW.vals.getD i 0)), (4, clampS 32 (l.chgW.vals.getD i 0))]) ++
    fL ((List.range 5).map fun i => l.dis.causes.getD i 0) ++ fL ((List.range 5).map fun i => l.chg.causes.getD i 0) ++
    [fN 2 flags, fN 2 (l.dis.cells.getD 1 0), fN 2 (l.chg.cells.getD 1 0), (4, reserve), (4, hard.dis.vals.getD 0 0), (4, hard.chg.vals.getD 0 0),
     fQ (mkQuality (!decide (0x0D ∈ causes)) false false false false false false ([l.dis, l.chg, l.disW, l.chgW].any fun x => x.vals.any (overS 32))), (3, 0)])

/-- Flags of a limit record over its cells (08 R232). -/
def State.limitFlags (s : State) (cells : List Nat) (l : LimSet) (string : Bool) (open_ : Bool) : Nat :=
  let bind := [l.dis.cells.getD 1 0, l.chg.cells.getD 1 0]
  bitsOf [cells.any fun c => decide ((s.cell c).agree = .voltageEmpty),
    cells.any fun c => decide (0 < s.cfg.derived.platingFits ∧ s.cfg.derived.platingFits ≤ s.sg.platingRun.get c 0),
    string && decide (s.tm.factorDis < 1 ∨ s.tm.factorChg < 1), string && s.anyPending,
    if string then s.stringAction else decide (0x0A ∈ l.dis.causes), string && decide (0 < s.toneReserve),
    bind.any fun c => decide (c ∈ cells) && !s.fitUsable c, open_]

/-! ### The computation (08 R231 to R233) -/

/-- Compute every limit, keep it and publish the records (08 R229, R231, R232); in Run the frames carry the string's hard limits from
then on (08 R233). `sweep` is the last sweep of the set. -/
def State.computeLimits (s : State) (sweep : Nat) : State :=
  let mk := fun (b : Nat) =>
    let d := s.branchRow b false
    let c := s.branchRow b true
    ({ dis := d, chg := c, sweep := sweep
       disW := power5 (fun i ma => branchPower false (s.branchSource b false (horizons.getD i 0)) ma) d
       chgW := power5 (fun i ma => branchPower true (s.branchSource b true (horizons.getD i 0)) ma) c } : LimSet)
  let brs := s.cfg.branchList.map fun b => (b, mk b)
  let hd := s.stringRow false
  let hc := s.stringRow true
  let hard : LimSet := { dis := hd, chg := hc, disW := s.stringWatts false hd, chgW := s.stringWatts true hc, sweep := sweep }
  let dd := s.dispatchRows false hd
  let dc := s.dispatchRows true hc
  let disp : LimSet := { dis := dd.1, disW := dd.2, chg := dc.1, chgW := dc.2, sweep := sweep }
  let cells := s.limitJoined.flatMap s.cfg.branchCells
  let flags := s.limitFlags cells disp true s.limitJoined.isEmpty
  let res := roundOpen 31 s.toneReserve
  let ws := s.limitJoined.flatMap fun b => [(b, s.shareOf b false 2), (4 + b, s.shareOf b true 2)]
  let s1 := s.onLimits fun l => { l with
    branch := brs.foldl (fun t e => t.put e.1 {} e.2) l.branch
    hard := hard
    dispatch := disp
    reserve := res
    flags := flags
    lastAt := s.now
    freshAt := s.now
    stale := false
    weights := ws.foldl (fun t e => t.put e.1 0 e.2) {}
    disCount := l.disCount + 1 }
  let s2 := brs.foldl (fun s e => s.publish (0x03002000 + e.1)
    (limitRecord e.2 e.2 (s.limitFlags (s.cfg.branchCells e.1) e.2 false (!decide (e.1 ∈ s.limitJoined))) 0)) s1
  s2.publish 0x02002000 (limitRecord disp hard flags res)

/-! ### Tone requests (06 R160 to R162) -/

/-- The conditions of 06 R161. -/
def State.toneAllowed (s : State) : Bool :=
  decide (s.pw.state = .run) && !s.joined.isEmpty && s.rt.conv.running && s.rt.conv.accepting && !s.stringAction && s.leads

/-- The slots requested at present. -/
def State.toneSlots (s : State) : List Nat := (List.range 8).filter fun i => !decide (s.sg.toneReq.get i 0 = 0)

/-- Total requested amplitude squared, mA rms. -/
def State.toneSquare (s : State) : Nat := ((List.range 8).map fun i => s.sg.toneReq.get i 0 * s.sg.toneReq.get i 0).foldl (· + ·) 0

/-- The set-point of the last frame plus the tones' peak exceeds the hard 2 s limit in force (06 R162, 08 R222). -/
def State.toneOverLimit (s : State) : Bool :=
  let a := s.rt.setA
  let lim := if 0 ≤ a then s.lim.hard.dis.vals.getD 0 0 else s.lim.hard.chg.vals.getD 0 0
  decide ((lim : Rat) < (a.natAbs : Rat) + s.toneReserve)

/-- Withdraw every request (06 R162). -/
def State.toneWithdraw (s : State) : State := s.onSage fun g => { g with toneReq := {} }

/-- The withdrawal that follows from a condition (06 R162). -/
def State.toneCheck (s : State) : State :=
  if s.toneSlots.isEmpty then s else if !s.toneAllowed || s.toneOverLimit then s.toneWithdraw else s

/-- A slot frequency is a multiple of the converter's carrier frequency (06 R160); frequencies in 0.1 Hz and mHz. -/
def State.rippleSlot (s : State) (i : Nat) : Bool :=
  let f := s.cfg.tone.freqs.getD i 0 * 100
  s.rt.conv.running && decide (0 < s.rt.conv.carrier ∧ 0 < f ∧ f % s.rt.conv.carrier = 0)

/-- The amplitudes to request, mA rms (06 R161): the configured ones of the requestable slots, scaled by one factor to the bound. -/
def State.toneAmps (s : State) : List (Nat × Nat) :=
  let t := s.cfg.tone
  let cfg := (t.requestable.filter fun i => !s.rippleSlot i && decide (0 < t.amps.getD i 0)).map fun i => (i, t.amps.getD i 0)
  let rss := Config.sqrt (sumR (cfg.map fun e => (e.2 : Rat) * (e.2 : Rat)))
  let bound : Rat := if s.hv 4 = 0 then 20000 else min 20000 ((s.cfg.string.rated : Rat) * 10000 / ((s.hv 4).natAbs : Rat))
  if rss ≤ bound then cfg
  else cfg.map fun e => (e.1, (((e.2 : Rat) * bound / rss).floor).toNat)

/-- The IS phasor at a requested slot exceeds 1.2 times the requested rms in the window that begins at `a` (06 R162): amplitudes in peak
squared, mA. -/
def State.toneExceeds (s : State) (i a : Nat) : Bool :=
  match s.currentPhasor 4 (s.cfg.tone.freqs.getD i 0) a with
  | some p => decide ((144 * 2 : Rat) / 100 * ((s.sg.toneReq.get i 0 : Nat) : Rat) * ((s.sg.toneReq.get i 0 : Nat) : Rat) < p.sq * 1000000)
  | none => false

/-- TONE_REQUEST_START (06 R160 to R162; 16 R413, R416), at a tone window start: the window before is judged, then requests start. -/
def toneRequestStart (s : State) : State :=
  let a := s.sweepAbs
  if a % 100 ≠ 0 then s
  else
    let prev := (a + two32 - 100) % two32
    let req := maskOf 8 s.toneSlots
    let on := maskOf 8 ((List.range 8).filter fun i => req.testBit i && s.rt.toneUnit.testBit i)
    let overT := s.toneSlots.foldl (fun t i => if s.toneExceeds i (s.absOf prev) then t.put i 0 (s.sg.toneOver.get i 0 + 1) else t) ({} : Table Nat)
    let ban := (List.range 8).any fun i => decide (2 ≤ overT.get i 0)
    let s1 := (s.onSage fun g => { g with unitTones := ((prev, on) :: g.unitTones).take 700, toneOver := if ban then {} else overT }).onRantus
      fun r => { r with toneUnit := 255 }
    if ban then ((s1.onSage fun g => { g with toneBan := true }).record .toneExceeded 0 []).toneWithdraw
    else if s1.toneAllowed && !s1.sg.toneBan then
      (s1.onSage fun g => { g with toneReq := s.toneAmps.foldl (fun t e => t.put e.1 0 e.2) {} }).toneCheck
    else s1.toneWithdraw

/-- TONE_REQUEST_START (06 R160 to R162). -/
def execToneRequestStart (t : Nat) (s : State) : Host.Outcome State Fault Refusal := s.run t toneRequestStart

end Sys2Proof.Machine
end

