-- ==== Sys2Proof/Machine/Thermal.lean ====
section
/-! DEFINITION. Sys2Proof/Machine/Thermal.lean: temperature channels, sensor states, the thermal factor, converter compensation, the
coolant loops and the valve drives (chapter 10). -/

namespace Sys2Proof.Machine

open Sys2Proof

/-! ### Channels (10 R264 to R268) -/

/-- A channel number of a node sensor. -/
def isNodeSensor (c : Nat) : Bool := decide (c < 1024)

/-- A channel number of 10 R264. -/
def isChannel (c : Nat) : Bool := decide (c < 0x400 ∨ (0x400 ≤ c ∧ c ≤ 0x407) ∨ (0x410 ≤ c ∧ c ≤ 0x416))

/-- Range of a channel, 0.01 degC (10 R264). -/
def chanRange (c : Nat) : Int × Int :=
  if c < 0x400 then (-4000, 12500) else if c < 0x410 then (-5000, 20000) else (-5500, 15000)

/-- The nearest integer; at a tie the open choice `tag` (log 8). -/
def nearestOpen (tag : Nat) (x : Rat) : Int :=
  if x - x.floor = 1 / 2 then roundOpen tag x else roundNear x

/-- The privileged entry of a channel (10 R272). -/
def State.privOf (s : State) (c : Nat) : Option CfgPriv := s.cfg.priv.find? fun p => decide (p.chan = c)

/-- The least-squares slope of values over time, in 0.001 K/s, exact (10 R268); none where fewer than two instants stand. -/
def slopeOf (h : List (Nat × Int)) : Option Rat :=
  let n : Rat := (h.length : Rat)
  let t0 := h.foldl (fun a e => max a e.1) 0
  let pts := h.map fun e => (-(((t0 - e.1 : Nat) : Rat) / 1000000000), (e.2 : Rat) * 10)
  let sx := sumR (pts.map fun p => p.1)
  let sy := sumR (pts.map fun p => p.2)
  let sxx := sumR (pts.map fun p => p.1 * p.1)
  let sxy := sumR (pts.map fun p => p.1 * p.2)
  let d := n * sxx - sx * sx
  if d = 0 then none else some ((n * sxy - sx * sy) / d)

/-- Mean internal temperature of the cells mapped to a node sensor, over the valid ones (10 R269, R270). -/
def State.internalMean (s : State) (c : Nat) : Option Rat :=
  let ts := ((s.cfg.cellsOfNode (c / 8)).filter fun x => decide (s.sensorChan x = c) && s.internalValid x).map fun x => s.sg.tInt.get x noTemp
  if ts.isEmpty then none else some (meanR ts)

/-- The substitute of a broken sensor with its source (10 R270). -/
def State.substitute (s : State) (c : Nat) : Option (Int × Nat) :=
  match s.internalMean c with
  | some m => some (roundOpen 33 m, 1)
  | none =>
    match (s.tchan c).median with
    | some m => some (roundOpen 33 ((m : Rat) + (s.tchan c).learnedOff), 2)
    | none => none

/-- The rate class of a node sensor after an evaluation (10 R267). -/
def State.rateClassOf (s : State) (x : TempChan) : Nat × Option Nat :=
  let e := s.cfg.eval
  let near := fun (band : Int) => decide (((x.raw - s.cfg.cellTemp.high).natAbs : Int) ≤ band ∨ ((x.raw - s.cfg.cellTemp.low).natAbs : Int) ≤ band)
  let slow := decide (2 * x.slope < (e.fast : Int))
  let since2 := since s.now slow x.slowSince
  let base : Nat := if near (e.band : Int) || (decide (x.rateClass = 1) && near ((e.band : Int) + 200)) then 1 else 0
  if (e.fast : Int) < x.slope then (2, none)
  else if x.rateClass = 2 && !s.heldFor since2 (sec 10) then (2, since2)
  else (base, none)

/-- One pass of the level states (10 R273): the state reached next, with the demand and the event on the way. -/
def State.levelStep (s : State) (p : CfgPriv) (c : Nat) : State :=
  let x := s.tchan c
  let v := x.value
  let h : Int := (p.h : Int)
  let data := octetsOf 2 (wrapInt 2 v)
  match x.level with
  | .normal => if p.w ≤ v then (s.onTchan c fun x => { x with level := .warning }).record .tempWarning c data else s
  | .warning =>
    if p.th ≤ v then (s.onTchan c fun x => { x with level := .throttle }).record .tempThrottle c data
    else if v < p.w - h then s.onTchan c fun x => { x with level := .normal } else s
  | .throttle =>
    if p.shut ≤ v then (s.onTchan c fun x => { x with level := .shutDown }).onTherm fun g => { g with shutdowns := insertN c g.shutdowns }
    else if v < p.th - h then s.onTchan c fun x => { x with level := .warning } else s
  | .shutDown =>
    if v < p.shut - h then
      (s.onTchan c fun x => { x with level := .throttle }).onTherm fun g => { g with shutdowns := g.shutdowns.filter fun k => !decide (k = c) }
    else s

/-- The channel factor (10 R274). -/
def privFactor (p : CfgPriv) (x : TempChan) : Rat :=
  let f : Rat := if x.level = .throttle ∨ x.level = .shutDown then
      min 1 (max 0 (((p.shut - x.value : Int) : Rat) / ((p.shut - p.th : Int) : Rat))) else 1
  if qMissing x.quality then min f ((p.missing : Rat) / 10000) else f

/-- The channel record (10 R285). -/
def State.chanRecord (s : State) (c : Nat) : List Nat :=
  let x := s.tchan c
  let sc := match x.sensor with | .healthy => 0 | .suspect => 1 | .broken => 2
  let lc := match x.level with | .normal => 0 | .warning => 1 | .throttle => 2 | .shutDown => 3
  s.body [fN 2 c, (2, if qMissing x.quality then 0 else x.value), (2, clampS 16 x.slope), fN 1 (x.rateClass + 4 * sc + 16 * lc + (if x.rise then 128 else 0)), fN 1 x.source,
    (2, if (s.privOf c).isSome then roundOpen 34 (x.factor * 10000) else 10000), fQ x.quality, fN 1 0]

/-! ### Thermal factor and cooling (10 R275, R286) -/

/-- The enabled valves of a loop. -/
def State.loopValves (s : State) (l : Nat) : List Nat :=
  (List.range 2).filter fun v => match s.cfg.valves.list[v]? with | some x => x.enable && decide (x.loop = l) | none => false

/-- The valve is wired to this module (10 R284). -/
def State.ownValve (s : State) (v : Nat) : Bool :=
  !s.isTwin || match s.cfg.valves.list[v]? with | some x => decide (x.twin = s.cfg.twin.position) | none => false

/-- A valve counts as faulted (10 R275, R284): valve fault, or its twin lost. -/
def State.valveOut (s : State) (v : Nat) : Bool := (s.valve v).fault || (!s.ownValve v && s.tw.partnerFailed)

/-- Branches of a loop (record 0x0606). -/
def State.loopBranches (s : State) (l : Nat) : List Nat := s.cfg.branchList.filter fun b => decide (s.cfg.loops.branchLoop.getD b 0 = l)

/-- The cooling equipment of a loop is unavailable (10 R275, R283; 18 R449), where a chiller status message of the loop is configured. -/
def State.equipOut (s : State) (l : Nat) : Bool :=
  (s.cfg.msgs.any fun m => decide (m.fn = 3 ∧ m.loop = l)) && !decide (l ∈ s.cn.equip)

/-- The entry of a loop. -/
def State.loopCfg (s : State) (l : Nat) : CfgLoop := s.cfg.loops.list.getD l {}

/-- State of a loop. -/
def State.loopSt (s : State) (l : Nat) : Loop := s.tm.loops.get l {}

/-- Update of a loop. -/
def State.onLoop (s : State) (l : Nat) (f : Loop → Loop) : State := s.onTherm fun g => { g with loops := g.loops.upd l {} f }

/-- Valves or equipment of a loop are out (10 R275). -/
def State.loopOut (s : State) (l : Nat) : Bool :=
  !(s.loopBranches l).isEmpty && ((!(s.loopValves l).isEmpty && (s.loopValves l).all s.valveOut) || s.equipOut l)

/-- The string thermal record (10 R286). -/
def State.thermalRecord (s : State) : List Nat :=
  let g := s.tm
  let lp := fun (l : Nat) => let x := s.loopSt l
    [(2, (x.tc.getD 0)), (2, roundOpen 35 (x.u * 10)), (2, x.chiller)]
  s.body ([(2, roundOpen 34 (g.factorDis * 10000)), (2, roundOpen 34 (g.factorChg * 10000)), fN 2 g.bindDis, fN 2 g.bindChg,
    fN 1 (bitsOf [(s.loopSt 0).lost, (s.loopSt 1).lost])] ++ lp 0 ++ lp 1)

/-- Least factor of a direction with its channel (10 R275). -/
def State.factorFor (s : State) (bit : Nat) : Rat × Nat :=
  let ps := s.cfg.priv.filter fun p => p.dirs.testBit bit
  let r := ps.foldl (fun (a : Rat × Nat) p => let f := (s.tchan p.chan).factor; if f < a.1 then (f, p.chan) else a) (1, 0)
  let loss : Rat := if (s.loopSt 0).lost ∨ (s.loopSt 1).lost then (s.cfg.loops.factor : Rat) / 10000 else 1
  (min r.1 loss, r.2)

/-- Recompute the thermal factors, and publish at once where one falls (10 R275, R286). -/
def State.refactor (s : State) : State :=
  let d := s.factorFor 0
  let c := s.factorFor 1
  let s1 := s.onTherm fun g => { g with factorDis := d.1, factorChg := c.1, bindDis := d.2, bindChg := c.2 }
  if d.1 < s.tm.factorDis ∨ c.1 < s.tm.factorChg then s1.publish 0x02004000 s1.thermalRecord else s1

/-- Follow the state of a loop's valves and equipment (10 R275): the start of their absence, and restoration at once. -/
def State.coolCheck (s : State) (l : Nat) : State :=
  let out := s.loopOut l
  let s1 := s.onLoop l fun x => { x with outSince := since s.now out x.outSince, lost := x.lost && out }
  if (s.loopSt l).lost && !out then s1.refactor else s1

/-- COOLING_LOSS (10 R275). -/
def execCoolingLoss (t : Nat) (loop : Fin 2) (s : State) : Host.Outcome State Fault Refusal :=
  s.run t fun s =>
    let s0 := s.coolCheck loop.val
    let x := s0.loopSt loop.val
    if !x.lost && s0.heldFor x.outSince (sec 60) then
      ((s0.onLoop loop.val fun x => { x with lost := true }).record .coolingLost loop.val []).refactor
    else s0

/-! ### Evaluation (10 R267 to R274; 11 R292) -/

/-- A channel in use: a node sensor of a configured node, a used local input, or one of the module's own sensors. -/
def State.chanUsed (s : State) (c : Nat) : Bool :=
  if c < 1024 then (s.cfg.nodeEntry (c / 8)).isSome
  else if c < 0x410 then decide (s.cfg.chanMap.localType.getD (c - 0x400) 0 ≠ 0) else isChannel c

/-- A local input wired to the other twin, while the twin link is lost (10 R284). -/
def State.inputAway (s : State) (c : Nat) : Bool :=
  s.isTwin && decide (0x400 ≤ c ∧ c ≤ 0x407) && !decide (s.cfg.chanMap.localTwin.getD (c - 0x400) 0 = s.cfg.twin.position) && (s.path 0).lost

/-- The value of an evaluation (10 R267, R268, R265; the flags of a node sensor 04 R119, 05 R134): mean of the new values, clamped to the range; a repeat is stale; an open or
shorted sensor, one of a lost twin (10 R284), or none for the stale limit, is missing. -/
def State.takeValue (s : State) (c : Nat) (conv : List Int) (openShort : Bool) : State :=
  let x := s.tchan c
  let vals := if isNodeSensor c then x.acc else conv
  let r := chanRange c
  let repl := isNodeSensor c && (s.node (c / 8)).replacement
  if openShort || s.inputAway c then s.onTchan c fun x => { x with acc := [], rawQ := qAbsent }
  else if vals.isEmpty then
    let gone := decide (x.lastNew + sec s.cfg.eval.staleS ≤ s.now) || qMissing x.rawQ
    s.onTchan c fun x => { x with rawQ := if gone then qAbsent else mkQuality false true false false false x.alarmed repl (qRange x.rawQ) }
  else
    let v := roundOpen 32 (meanR vals)
    let out := decide (v < r.1 ∨ r.2 < v) || vals.any fun w => decide (w < r.1 ∨ r.2 < w)
    let v := clampInt r.1 r.2 v
    s.onTchan c fun x => { x with
      acc := []
      raw := v
      rawQ := mkQuality true false false false false x.alarmed repl out
      lastNew := s.now
      hist := if isNodeSensor c then x.hist else (s.now, v) :: x.hist }

/-- The slope of an evaluation (10 R268): over the accepted values of the last 2 s; a free value where they give none. -/
def State.takeSlope (s : State) (c : Nat) : State :=
  let h := (s.tchan c).hist.filter fun e => decide (s.now < e.1 + sec 2)
  match slopeOf h with
  | some v => s.onTchan c fun x => { x with hist := h, slope := clampS 16 (roundOpen 36 v) }
  | none => let r := s.freshRat; r.2.onTchan c fun x => { x with hist := h, slope := clampS 16 r.1.floor }

/-- The published value (10 R266, R270): the sensor's own, or its substitute while it is broken. -/
def State.takePublished (s : State) (c : Nat) : State :=
  if (s.tchan c).sensor = .broken then
    match s.substitute c with
    | some (v, src) => s.onTchan c fun x => { x with value := clampS 16 v, quality := qOver (overS 16 v) qGood, source := src }
    | none => s.onTchan c fun x => { x with quality := qAbsent }
  else s.onTchan c fun x => { x with value := x.raw, quality := x.rawQ, source := 0 }

/-- Rise on an ordinary channel (10 R271). -/
def State.takeRise (s : State) (c : Nat) : State :=
  let x := s.tchan c
  if !qValid x.rawQ ∨ x.sensor = .broken then s
  else
    let up := decide ((s.cfg.eval.rise : Int) < x.slope)
    let n := s.cfg.eval.persist
    let rr := if up then min n (x.riseRun + 1) else 0
    let cr := if up then 0 else min n (x.calmRun + 1)
    let s1 := s.onTchan c fun x => { x with riseRun := rr, calmRun := cr, rise := if n ≤ rr then true else if n ≤ cr then false else x.rise }
    if n ≤ rr ∧ ¬ x.rise then s1.record .thermalRise c (octetsOf 2 (wrapInt 2 x.slope)) else s1

/-- Functions 0x10 and 0x11 at the evaluations of their channels: the privileged and the ordinary ones (10 R271, R273; 11 R292). -/
def State.thermalFunctions (s : State) (c : Nat) : State :=
  let rising := (s.tm.chans.keys).filter fun k => (s.tchan k).rise
  if (s.privOf c).isSome then
    s.evalAndDecide 0x10 strGroup (!s.tm.shutdowns.isEmpty) (s.tm.shutdowns.headD c) (s.tchan (s.tm.shutdowns.headD c)).value
  else s.evalAndDecide 0x11 strGroup (!rising.isEmpty) (rising.headD c) (s.tchan (rising.headD c)).slope

/-- Monitor 0x00F takes the value of BP1 at each of its evaluations (22 R544). -/
def State.baseplateSample (s : State) (c : Nat) : State :=
  if decide (c = 0x410) && !qMissing (s.tchan c).quality then s.sample 15 (s.tchan c).value else s

/-- Period of a channel's evaluations (10 R267), ns. -/
def State.evalPeriod (s : State) (c : Nat) : Nat :=
  if !isNodeSensor c then ms 10
  else if (s.tchan c).rateClass = 0 then sec 1
  else if s.pw.state = .watch then ms 200
  else if (s.tchan c).rateClass = 1 then ms 100 else ms 10

/-- One evaluation of a channel (10 R267 to R275, R285), with monitor 0x00F for BP1 (22 R544). -/
def channelEvaluation (c : Nat) (conv : List Int) (openShort : Bool) (s : State) : State :=
  let s1 := ((s.takeValue c conv openShort).takeSlope c).takePublished c
  let rc := s1.rateClassOf (s1.tchan c)
  let s2 := if isNodeSensor c then s1.onTchan c fun x => { x with rateClass := rc.1, slowSince := rc.2 } else s1
  let s3 := match s2.privOf c with
    | none => s2.takeRise c
    | some p =>
      let fresh := !qStale (s2.tchan c).quality && !qMissing (s2.tchan c).quality
      let sl := if fresh then (((s2.levelStep p c).levelStep p c).levelStep p c) else s2
      (sl.onTchan c fun x => { x with factor := privFactor p x }).refactor
  let s4 := s3.publish (0x06001000 + c) (s3.chanRecord c)
  (if s4.pw.state = .run ∨ s4.pw.state = .watch then s4.thermalFunctions c else s4).baseplateSample c

/-- TEMPERATURE_CHANNEL_EVALUATION (10 R267). -/
def execTemperatureChannelEvaluation (t : Nat) (chan : Nat) (conv : List Int) (openShort : Bool) (s : State) :
    Host.Outcome State Fault Refusal :=
  s.run t fun s => if s.sageRuns && s.chanUsed chan then s.turn (0x1000 + chan) (s.evalPeriod chan) (channelEvaluation chan conv openShort) else s

/-! ### Node sensors that disagree (10 R269) -/

/-- The valid sensors a neighbour median rests on (10 R269): the other 7 of the node and all 8 of the nodes of adjacent stacks of the
same branch; a sensor held broken is none of them. -/
def State.neighbourValues (s : State) (c : Nat) : List Int :=
  match s.cfg.nodeEntry (c / 8) with
  | none => []
  | some e =>
    let adj := (s.cfg.nodes.filter fun o => decide (o.branch = e.branch ∧ (o.stack + 1 = e.stack ∨ o.stack = e.stack + 1))).map fun o => o.index
    let chans := ((List.range 8).map fun i => 8 * (c / 8) + i) ++ adj.flatMap fun n => (List.range 8).map fun i => 8 * n + i
    (chans.filter fun k => !decide (k = c) && qValid (s.tchan k).rawQ && !decide ((s.tchan k).sensor = .broken)).map fun k => (s.tchan k).raw

/-- The neighbour median, where at least 4 sensors are valid. -/
def State.neighbourMedian (s : State) (c : Nat) : Option Int :=
  let vs := s.neighbourValues c
  if vs.length < 4 then none else (medianI vs).map (roundOpen 37)

/-- A sensor becomes broken (10 R269). -/
def State.breakSensor (s : State) (c : Nat) : State :=
  (s.onTchan c fun x => { x with
    sensor := .broken, caseCode := 0, caseRun := 0, agreeRun := 0, rangeRun := 0
    brokenAt := (s.now :: x.brokenAt).filter fun t => decide (s.now < t + sec 2592000) }).record .sensorBroken c []

/-- A sensor becomes healthy. -/
def State.healSensor (s : State) (c : Nat) : State :=
  s.onTchan c fun x => { x with sensor := .healthy, caseCode := 0, caseRun := 0, agreeRun := 0, rangeRun := 0 }

/-- The check of one node sensor (10 R269). -/
def State.checkSensor (s : State) (c : Nat) : State :=
  let med := s.neighbourMedian c
  let s0 := s.onTchan c fun x => { x with median := med }
  let x := s0.tchan c
  let int := s.internalMean c
  let valid := qValid x.rawQ
  let diffN := match med with | some m => decide (s.cfg.neighbourLimit < (x.raw - m).natAbs) | none => false
  let diffI := match int with | some m => decide ((s.cfg.derived.crossLimit : Rat) < absR ((x.raw : Rat) - m)) | none => false
  let okN := med.isSome && !diffN
  let okI := int.isSome && !diffI
  let outRun := if qRange x.rawQ && !okI then x.rangeRun + 1 else 0
  let s1 := s0.onTchan c fun x => { x with rangeRun := outRun }
  let code : Nat := if !valid then 0
    else match x.sensor with
      | .healthy => if diffN && okI then 1 else if diffN && diffI then 2 else if diffN then 3 else if okN && diffI then 4 else 0
      | .suspect => if diffI then 5 else 0
      | .broken => 0
  let run := if code ≠ 0 ∧ code = x.caseCode then x.caseRun + 1 else if code ≠ 0 then 1 else 0
  let agree := match x.sensor with
    | .healthy => 0
    | .suspect => if valid && okN then x.agreeRun + 1 else 0
    | .broken => if valid && okN && okI then x.agreeRun + 1 else 0
  let s2 := s1.onTchan c fun x => { x with caseCode := code, caseRun := run, agreeRun := agree }
  let hit := decide (run = 60)
  let s3 := match x.sensor with
    | .healthy =>
      if decide (10 ≤ outRun) then s2.breakSensor c
      else if !hit then s2
      else if code = 1 then s2.record .hotSpot c []
      else if code = 2 then s2.breakSensor c
      else if code = 3 then (s2.onTchan c fun x => { x with sensor := .suspect, caseCode := 0, caseRun := 0 }).record .sensorSuspect c []
      else if code = 4 then s2.record .intTempCross c []
      else s2
    | .suspect =>
      if decide (10 ≤ outRun) || hit then s2.breakSensor c
      else if 600 ≤ agree then s2.healSensor c else s2
    | .broken =>
      let entries := (x.brokenAt.filter fun t => decide (s.now < t + sec 2592000)).length
      if 3600 ≤ agree ∧ entries < 3 then (s2.healSensor c).record .sensorRestored c [] else s2
  match med, x.sensor with
  | some m, .healthy => if valid then s3.onTchan c fun x => { x with learnedOff := fine (x.learnedOff + (((x.raw - m : Int) : Rat) - x.learnedOff) / 3600) } else s3
  | _, _ => s3

/-- SENSOR_CROSS_CHECK (10 R269; 11 R301): every second; the mask of broken sensors goes into island memory. -/
def execSensorCrossCheck (t : Nat) (s : State) : Host.Outcome State Fault Refusal :=
  s.run t fun s => if !s.sageRuns then s else s.turn 12 (sec 1) fun s =>
    let chans := s.cfg.nodes.flatMap fun n => (List.range 8).map fun i => 8 * n.index + i
    let s1 := chans.foldl (fun s c => s.checkSensor c) s
    s1.onTherm fun g => { g with
      brokenMask := chans.filter fun c => decide ((s1.tchan c).sensor = .broken), brokenSweep := some s1.sweepNo }

/-- CLEAR_SENSOR (10 R269; 17 R436): a broken sensor returns to healthy. -/
def execClearSensor (t : Nat) (m : Maint) (chan : Nat) (s : State) : Host.Outcome State Fault Refusal :=
  s.run t fun s => s.maint m 0x0601 fun s =>
    if !isChannel chan then (s, stInvalid, 0, [])
    else if (s.tchan chan).sensor = .broken then done (s.healSensor chan)
    else done s

/-- CONVERTER_COMPENSATION_UPDATE (10 R276): the gain temperature coefficients about 25 degC from BP1, or BP2 while BP1 is not valid. -/
def execConverterCompensationUpdate (t : Nat) (s : State) : Host.Outcome State Fault Refusal :=
  s.run t fun s => if !s.sageRuns then s else s.turn 2 (ms 100) fun s =>
    let a := s.tchan 0x410
    let b := s.tchan 0x411
    let temp := if qValid a.quality then some a.value else if qValid b.quality then some b.value else none
    match temp with
    | some v =>
      let g := (List.range 13).foldl (fun (tb : Table Int) i => tb.put i 0 (s.acq.applied.gainTemp.get i 0 * (v - 2500))) {}
      s.onAcq fun q => { q with compGain := g, compLost := false }
    | none => if s.acq.compLost then s else (s.onAcq fun q => { q with compLost := true }).record .compLost 0 []

/-! ### Valve drives (10 R277 to R281) -/

/-- The entry of a drive. -/
def State.valveCfg (s : State) (v : Nat) : CfgValve := s.cfg.valves.list.getD v {}

/-- The valve item (10 R280). -/
def Valve.item (x : Valve) : List Nat :=
  enc [(4, x.pos), (4, x.target), fN 1 (x.phase % 256), fB [x.moving, x.uncertain, x.fault, x.homed], fN 2 0]

/-- Write the item of a drive (10 R280; 07 R211). -/
def State.writeValve (s : State) (v : Nat) : State := s.writeItem (itemKey 6 1 v) (s.valve v).item

/-- Microsteps per second of a velocity word (10 R277). -/
def wordRate (w : Nat) : Rat := (w : Rat) * 1000000 / (two32 : Rat)

/-- A target as the drive takes it (10 R278): within 0 to the travel, a multiple of 64. -/
def clampTarget (k : CfgValve) (x : Rat) : Int := clampInt 0 (k.travel : Int) (64 * nearestOpen 38 (x / 64))

/-- Begin a move (10 R280): the item is written with move-in-progress first, and the drive runs at the run current. -/
def State.startMove (s : State) (v : Nat) (target : Int) : State :=
  let s1 := s.onValve v fun x => { x with target := target }
  if (s.valve v).moving then s1
  else
    let s2 := (s1.onValve v fun x => { x with moving := true }).writeValve v
    s2.onValve v fun x => { x with energy := 2, holdUntil := none, stallRun := 0 }

/-- Begin a homing run (10 R281). -/
def State.startHoming (s : State) (v : Nat) (cmd : Bool) : State :=
  let s1 := (s.onValve v fun x => { x with moving := true, target := 0 }).writeValve v
  s1.onValve v fun x => { x with
    homing := true, homeTravel := 0, stallRun := 0, homeCmd := cmd, fault := false, retryAt := none, stalls := 0, halfSpeed := false, energy := 2
    holdUntil := none, opening := if x.vel = 0 then false else x.opening }

/-- The final response of a home valve command (17 R435): DONE, or REFUSED with reason 13 where the run ended in valve fault. -/
def State.homeAnswer (s : State) (v : Nat) (ok : Bool) : State :=
  if (s.valve v).homeCmd then
    (s.onValve v fun x => { x with homeCmd := false }).cmdFinal 0x0602 (if ok then stDone else stRefused) (if ok then 0 else 13) []
  else s

/-- Valve fault (10 R279, R281): the drive stops, de-energises and records it. -/
def State.valveFaulted (s : State) (v : Nat) : State :=
  let s1 := (s.onValve v fun x => { x with
    fault := true, uncertain := true, moving := false, homing := false, vel := 0, energy := 0, retryAt := none, holdUntil := none }).writeValve v
  let s2 := (s1.record .valveFault v []).homeAnswer v false
  s2.coolCheck (s.valveCfg v).loop

/-- The microsteps of 1 000 ticks of 1 µs (10 R277): the accumulator and the number of carries. -/
def Valve.ticks (x : Valve) : Nat × Nat := let a := x.acc + 1000 * x.vel; (a % two32, a / two32)

/-- The velocity word of the next millisecond (10 R278): up by the acceleration to the greatest word, down by it where the stopping
distance or a reversal asks for it. -/
def Valve.nextVel (x : Valve) (accel top : Nat) : Nat × Bool :=
  let dv := accel * two32 / 1000000000
  let away : Int := x.target - x.pos
  let want := decide (0 < away)
  let left : Rat := (away.natAbs : Rat)
  let r := wordRate x.vel
  let wrong := !x.homing && decide (x.vel ≠ 0 ∧ want ≠ x.opening)
  let brake := !x.homing && decide (left ≤ r * r / (2 * (accel : Rat)))
  if wrong ∨ brake then (x.vel - min dv x.vel, x.opening)
  else
    let dir := if x.homing then false else if x.vel = 0 then want else x.opening
    if x.homing ∧ x.opening ∧ x.vel ≠ 0 then (x.vel - min dv x.vel, true)
    else if x.vel ≤ top then (min top (x.vel + dv), dir) else (max top (x.vel - min dv x.vel), dir)

/-- The consecutive milliseconds that show a stall, after one of load angle `angle` and a back-EMF of `emf` per cent (10 R279), up to 8. -/
def Valve.stallAfter (x : Valve) (k : CfgValve) (angle emf : Nat) : Nat :=
  if (k.stallMin : Rat) < wordRate x.vel ∧ (k.stallAngle ≤ angle ∨ emf < 30) then min 8 (x.stallRun + 1) else 0

/-- VALVE_VELOCITY_UPDATE (10 R277 to R279, R281): the millisecond that ends moves the rotor; then the velocity word changes. A homing
run of 1.1 times the travel ends in valve fault. -/
def velocityUpdate (v angle emf : Nat) (s : State) : State :=
  let k := s.valveCfg v
  let x := s.valve v
  let (acc, n) := x.ticks
  let left := (x.target - x.pos).natAbs
  let over_ := !x.homing && decide (left ≤ n) && decide (decide (x.pos < x.target) = x.opening)
  let n := if over_ then left else n
  let pos := if x.opening then x.pos + n else x.pos - n
  let phase := ((((x.phase : Int) + (if x.opening then (n : Int) else -(n : Int))) % 256).toNat)
  let x1 : Valve := { x with acc := acc, pos := pos, phase := phase, loadAngle := angle, stallRun := x.stallAfter k angle emf, homeTravel := if x.homing then x.homeTravel + n else 0 }
  if x.homing ∧ 11 * k.travel ≤ 10 * x1.homeTravel then (s.onValve v fun _ => x1).valveFaulted v
  else if over_ ∨ (¬ x.homing ∧ left = 0) then s.onValve v fun _ => { x1 with vel := 0 }
  else
    let top := if x.homing then k.homeVel else if x.halfSpeed then k.maxVel / 2 else k.maxVel
    let r := x1.nextVel k.accel top
    s.onValve v fun _ => { x1 with vel := r.1, opening := r.2 }

/-- VALVE_VELOCITY_UPDATE (10 R278). -/
def execValveVelocityUpdate (t : Nat) (v : Fin 2) (m : MotorIn) (s : State) : Host.Outcome State Fault Refusal :=
  s.run t fun s => if (s.valve v.val).moving then s.turn (0x20 + v.val) (ms 1) (velocityUpdate v.val m.angle m.emf) else s

/-- VALVE_MOVE_END (10 R278, R280): on its target the drive holds for the hold time; the item is written. -/
def execValveMoveEnd (t : Nat) (v : Fin 2) (s : State) : Host.Outcome State Fault Refusal :=
  s.run t fun s =>
    let x := s.valve v.val
    if x.moving ∧ ¬ x.homing ∧ x.pos = x.target ∧ x.vel = 0 then
      (s.onValve v.val fun x => { x with
        moving := false, energy := 1, holdUntil := some (s.now + ms (s.valveCfg v.val).holdMs), stalls := 0, halfSpeed := false }).writeValve v.val
    else s

/-- VALVE_HOLD_TIME_EXPIRY (10 R278). -/
def execValveHoldTimeExpiry (t : Nat) (v : Fin 2) (s : State) : Host.Outcome State Fault Refusal :=
  s.run t fun s => if s.due (s.valve v.val).holdUntil then s.onValve v.val fun x => { x with energy := 0, holdUntil := none } else s

/-- The loop output a drive follows in percent (10 R284): the leader's while the link is up, else its own. -/
def State.loopOutput (s : State) (l : Nat) : Rat :=
  if s.isTwin ∧ s.tw.role = .follower ∧ ¬ (s.tw.paths.get 0 {}).lost then s.tm.leaderU.get l (s.loopSt l).u else (s.loopSt l).u

/-- The target of a drive for its loop's output (10 R282). -/
def State.loopTarget (s : State) (v : Nat) : Int :=
  let k := s.valveCfg v
  clampTarget k (s.loopOutput k.loop / 100 * (k.travel : Rat))

/-- A homing run stops at the closed stop (10 R281), and the drive returns to the loop's target. -/
def State.homed (s : State) (v : Nat) : State :=
  let s1 := (s.onValve v fun x => { x with
    pos := 0, phase := ((64 * nearestOpen 39 ((x.phase : Rat) / 64)) % 256).toNat, vel := 0, acc := 0
    uncertain := false, fault := false, homed := true, homing := false, moving := false, stalls := 0, energy := 1
    holdUntil := some (s.now + ms (s.valveCfg v).holdMs) }).writeValve v
  let s2 := ((s1.homeAnswer v true).testDone 4).coolCheck (s.valveCfg v).loop
  if s2.loopTarget v = 0 then s2 else s2.startMove v (s2.loopTarget v)

/-- VALVE_STALL (10 R279, R281). -/
def valveStall (v : Nat) (s : State) : State :=
  let x := s.valve v
  let k := s.valveCfg v
  if !x.moving ∨ wordRate x.vel ≤ (k.stallMin : Rat) ∨ x.stallRun < 8 then s
  else if x.homing then s.homed v
  else if 1 ≤ x.stalls then (s.onValve v fun x => { x with stalls := 2 }).valveFaulted v
  else
    ((s.onValve v fun x => { x with
      vel := 0, stallRun := 0, uncertain := true, stalls := 1, moving := false, energy := 2, retryAt := some (s.now + sec 1) }).writeValve v).record .valveStall v []

/-- VALVE_STALL (10 R279). -/
def execValveStall (t : Nat) (v : Fin 2) (s : State) : Host.Outcome State Fault Refusal := s.run t (valveStall v.val)

/-- VALVE_STALL_RETRY (10 R279). -/
def execValveStallRetry (t : Nat) (v : Fin 2) (s : State) : Host.Outcome State Fault Refusal :=
  s.run t fun s =>
    let x := s.valve v.val
    if s.due x.retryAt ∧ ¬ x.fault then
      (s.onValve v.val fun x => { x with retryAt := none, halfSpeed := true }).startMove v.val x.target
    else s

/-- HOME_VALVE (10 R281; 17 R436): with service-enable asserted. -/
def execHomeValve (t : Nat) (m : Maint) (valve : Nat) (s : State) : Host.Outcome State Fault Refusal :=
  s.run t fun s => s.maint m 0x0602 fun s =>
    if 2 ≤ valve then (s, stInvalid, 0, [])
    else if !s.pw.serviceEnable || !(s.valveCfg valve).enable || !s.ownValve valve then refuse 13 s
    else (s.startHoming valve true, stStarted, 0, [])

/-! ### The coolant loops (10 R282, R283) -/

/-- The 95th percentile of temperatures (10 R282): a free value between the order statistics on either side of it. -/
def State.percentile95 (s : State) (l : List Int) : Int × State :=
  let o := sortI l
  let k := 95 * (o.length - 1) / 100
  let lo := o.getD k 0
  let hi := o.getD (min (k + 1) (o.length - 1)) 0
  if lo = hi then (lo, s) else let r := freeIn 0 (hi - lo).toNat s; (lo + (r.1 : Int), r.2)

/-- A chiller supply set-point within the record's bounds (10 R283). -/
def chillerBound (k : CfgLoop) (x : Int) : Int := clampInt k.chMin k.chMax x

/-- The chiller set-point step (10 R283). -/
def State.chillerStep (s : State) (l : Nat) : State :=
  let k := s.loopCfg l
  let s1 := s.onLoop l fun x => { x with
    chiller := chillerBound k x.chiller, highRun := if 90 ≤ x.u then x.highRun + 1 else 0, lowRun := if x.u ≤ 30 then x.lowRun + 1 else 0 }
  let x := s1.loopSt l
  let may := match x.changeAt with | some a => decide (a + sec 60 ≤ s.now) | none => true
  let next := if 60 ≤ x.highRun then chillerBound k (x.chiller - k.chStep) else if 300 ≤ x.lowRun then chillerBound k (x.chiller + k.chStep) else x.chiller
  if may && !decide (next = x.chiller) then s1.onLoop l fun x => { x with chiller := next, changeAt := some s.now } else s1

/-- The drive of a valve at a loop evaluation (10 R281, R282, R284; a homing put off is the self-test task 4 deferred, 23 R555, R556). -/
def State.driveValve (s : State) (v : Nat) : State :=
  let x := s.valve v
  let k := s.valveCfg v
  if !s.ownValve v || x.homing then s
  else if (x.uncertain || x.fault) && decide (s.pw.state = .watch) && s.atRest then s.startHoming v false
  else
    let late := (x.uncertain || x.fault) && decide (s.pw.state = .run)
    let s0 := if x.homeDeferred = late then s else s.onValve v fun x => { x with homeDeferred := late }
    let s1 := if late && !x.homeDeferred then s0.deferTest 4 3 else s0
    let t := s1.loopTarget v
    if x.fault then s1
    else if x.retryAt.isSome then s1.onValve v fun x => { x with target := t }
    else if (k.deadband : Int) ≤ ((t - x.pos).natAbs : Int) then s1.startMove v t else s1

/-- The controller of one loop (10 R282). -/
def State.loopControl (s : State) (l : Nat) : State :=
  let k := s.loopCfg l
  let vs := s.loopValves l
  let cells := (s.loopBranches l).flatMap s.cfg.branchCells
  let temps := (cells.filter fun c => qValid (s.cellTempQ c)).map s.cellTemp
  if vs.isEmpty ∧ (s.loopBranches l).isEmpty then s
  else if temps.isEmpty then
    let s1 := s.onLoop l fun x => { x with tc := none, inputLost := true }
    if (s.loopSt l).inputLost then s1 else s1.record .loopInputLost l []
  else
    let (tc, s1) := s.percentile95 temps
    let e : Rat := ((tc - k.setpoint : Int) : Rat)
    let x := s1.loopSt l
    let hold := x.clamped || vs.any s.valveOut
    let i := if hold then x.integ else x.integ + (k.ki : Rat) / 100 * e / 100
    let raw := (k.kp : Rat) / 10 * e / 100 + i
    let lo : Rat := ((vs.map fun v => (s.valveCfg v).minOpen).foldl max 0 : Nat) / 10
    let u := max lo (min 100 raw)
    let s2 := s1.onLoop l fun x => { x with tc := some tc, inputLost := false, integ := i, u := u, clamped := decide (u ≠ raw) }
    vs.foldl (fun s v => s.driveValve v) (s2.chillerStep l)

/-- The consumers of the equipment status objects read them (18 R450): a loop's chiller status, and the HVAC status. -/
def State.readEquip (s : State) : State :=
  s.onCan fun c => { c with chans := c.chans.mapAll {} fun _ x => { x with
    rx := x.rx.mapAll {} fun _ r => { r with lost := false, unread := false } } }

/-- COOLANT_LOOP_EVALUATION (10 R282, R283; 18 R450): every second in Run and Watch. -/
def execCoolantLoopEvaluation (t : Nat) (s : State) : Host.Outcome State Fault Refusal :=
  s.run t fun s =>
    if s.pw.state = .run ∨ s.pw.state = .watch then s.turn 13 (sec 1) fun s =>
      let s1 := s.readEquip
      (((s1.coolCheck 0).coolCheck 1).loopControl 0).loopControl 1
    else s

end Sys2Proof.Machine
end

