-- ==== Sys2Proof/Machine/Protection.lean ====
section
/-! DEFINITION. Sys2Proof/Machine/Protection.lean: the conditions of the protection functions, their evaluation, delays and resets, the
current comparators and the insulation monitor (chapter 11). -/

namespace Sys2Proof.Machine

open Sys2Proof

/-! ### Conditions (11 R292 to R309, 12 R321, 13 R344 to R346, 16 R419) -/

/-- A current lies at or beyond the comparator levels of its channel (11 R302; record 0x0701). -/
def State.beyondLevel (s : State) (chan : Nat) (value : Int) : Bool :=
  let c := s.cfg.comp
  if chan = 4 then decide ((c.isPos : Int) ≤ value ∨ value ≤ -(c.isNeg : Int))
  else decide (((c.pos.getD chan 0 : Nat) : Int) ≤ value ∨ value ≤ -((c.neg.getD chan 0 : Nat) : Int))

/-- Node over-voltage threshold V_ov - M and under-voltage threshold V_uv + M, uV (11 R294). -/
def State.nodeOv (s : State) : Int := (s.cfg.cellProt.vOv : Int) - s.cfg.cellProt.m
/-- Node under-voltage threshold. -/
def State.nodeUv (s : State) : Int := (s.cfg.cellProt.vUv : Int) + s.cfg.cellProt.m

/-- The latest entered sample of a cell. -/
def State.sampleOf (s : State) (c : Nat) : Sample := s.acq.latest.get c {}

/-- The latest corrected value of a cell, where it is valid. -/
def State.corrOf (s : State) (c : Nat) : Option Int := if qValid (s.sampleOf c).quality then some (s.sampleOf c).corr else none

/-- Some node of a branch has a standing alarm with a code, with the cells it names (11 R297). -/
def State.alarmNodes (s : State) (b : Nat) (codes : List Nat) : List Nat :=
  (s.branchNodes b).filter fun n => (s.node n).alarms.any fun a => decide (a.code ∈ codes)

/-- The cells a standing alarm names: its mask, or every served cell of the node until a record carried the mask (11 R297). -/
def State.alarmCells (s : State) (n code : Nat) : List Nat :=
  match (s.node n).alarms.find? fun a => decide (a.code = code) with
  | some a => match a.mask with
    | some m => (s.cfg.cellsOfNode n).filter fun c => m.testBit (c % 16)
    | none => s.cfg.cellsOfNode n
  | none => []

/-- A node's sweep status shows a node alarm held (04 R103). -/
def State.alarmHeld (s : State) (n : Nat) : Bool := (s.node n).sweepStatus.testBit 1

/-- The nodes of a list of cells. -/
def State.nodesOfCells (s : State) (cs : List Nat) : List Nat := cs.filterMap s.cfg.nodeOfCell

/-- Function 0x0E: the figure that is compared and whether it lies beyond the factor times the rating (11 R303). -/
def State.timedOver (s : State) (b : Nat) : Bool × Int :=
  let js := s.joinedForCurrent
  let rate := fun (i : Int) => ((if 0 ≤ i then s.cfg.ratingDis.getD b 0 else s.cfg.ratingChg.getD b 0 : Nat) : Int)
  let beyond := fun (i : Int) => decide ((s.cfg.timed.ocFactor : Int) * rate i < 100 * (i.natAbs : Int))
  let ib := s.ib b
  let others := js.filter fun x => !decide (x = b)
  let isOk := qValid (s.achan 4).quality && others.all fun x => qValid (s.achan x).quality
  let second := (s.achan 4).avg - sumI (others.map s.ib)
  let ibOver := qValid (s.achan b).quality && beyond ib
  let isOver := isOk && beyond second
  (decide (b ∈ js) && (ibOver || isOver), if isOver && (!ibOver || decide (ib.natAbs < second.natAbs)) then second else ib)

/-- A cell meets the condition of function 0x0F (11 R305). -/
def State.predictMeets (s : State) (b c : Nat) : Bool :=
  let set := if s.holdDemand then 0 else s.rt.setA
  let w := s.lim.weights.get (if 0 ≤ set then b else 4 + b) 0
  let v : Rat := ((s.acq.lastAdmitted.get c 0 : Int) : Rat)
  let vp := v - (s.protR0 c : Rat) * (w * (set : Rat) - (s.ib b : Rat)) / 1000000
  decide (s.acq.noAdmitSets.get c 0 = 0) && (s.cell c).live &&
    decide ((s.cfg.cellProt.vOv : Rat) ≤ vp ∨ vp ≤ (s.cfg.cellProt.vUv : Rat))

/-- The cells of the joined branches that meet it. -/
def State.predicted (s : State) : List Nat := s.joined.flatMap fun b => (s.cfg.branchCells b).filter (s.predictMeets b)

/-- An insulation level is met: at or below it, and once standing until R_iso lies above it by 20 % (11 R308). -/
def State.isoMet (s : State) (code level : Nat) : Bool :=
  let stands := match s.fn code strGroup with | some f => f.condition || f.delaySince.isSome | none => false
  if qMissing s.pr.risoQuality then stands && (match s.fn code strGroup with | some f => f.condition | none => false)
  else if stands then decide (10 * s.pr.riso ≤ 12 * level) else decide (s.pr.riso ≤ level)

/-- Temperatures of the cells a temperature alarm names have left its threshold by the hysteresis (11 R309). -/
def State.tempsClear (s : State) (high : Bool) (cs : List Nat) : Bool :=
  let t := s.cfg.cellTemp
  cs.all fun c => qValid (s.cellTempQ c) &&
    decide (if high then s.cellTemp c < t.high - t.hyst else t.low + t.hyst < s.cellTemp c)

/-- A safety input's function has become absent (13 R340): in permit with its partner, both in demand together since the demand began, and
every expected pulse seen for 10 periods. -/
def State.inputAbsent (s : State) (i : Nat) : Bool :=
  let x := s.sf.inputs.get i {}
  let src := s.cfg.safeIn.source.getD (i - 1) 0
  let mate := if i % 2 = 1 then i + 1 else i - 1
  let pair := s.cfg.safeIn.pair.getD (i - 1) false
  let y := s.sf.inputs.get mate {}
  !x.episode || (!x.demand && decide (x.fault = 0) && (decide (src = 0) || (decide (10 ≤ x.goodPulses) && !decide (src ∈ s.sf.srcFault))) &&
    (!pair || (!y.demand && decide (y.fault = 0) && x.bothDemand)))

/-- The emergency stop and external trip inputs of the module and its partner are all absent. -/
def State.tripAbsent (s : State) : Bool :=
  (s.inputsOf 1 ++ s.inputsOf 2).all fun i => s.inputAbsent i && !decide (i ∈ s.sf.partnerDemand)

/-- Some input that function 0x30 or 0x31 rests on is not absent (13 R339, R340): the inputs it names, or, after a restart, every input of its
kind. -/
def State.inputFaultStands (s : State) (f : Fn) : Bool :=
  (if f.cells.isEmpty then s.inputsOf 1 ++ s.inputsOf 2 ++ s.inputsOf 3 else f.cells).any fun i =>
    decide ((s.cfg.safeIn.fn.getD (i - 1) 0 = 3) ↔ f.group = permitGroup) && !s.inputAbsent i

/-- Every switch of the outputs with function 0x32 has passed since (13 R344), for the outputs that act or those that do not. -/
def State.outputsPassed (s : State) (acts : Bool) : Bool :=
  [1, 2].all fun o =>
    let x := s.sf.outputs.get o {}
    !x.fault || !decide (decide (s.cfg.safeOut.fn.getD (o - 1) 0 = 3) = !acts) || decide (x.passedSince = 3)

/-- The condition of a function that stands, as its evaluation finds it now. -/
def State.condNow (s : State) (f : Fn) : Bool :=
  let b := f.group
  let ks := allK.filter fun k => decide (groupOfK k = b) && decide (k ≤ 11)
  match f.code with
  | 0x01 => s.beyondLevel b (s.achan b).max || s.beyondLevel b (s.achan b).min
  | 0x02 => s.beyondLevel 4 (s.achan 4).max || s.beyondLevel 4 (s.achan 4).min
  | 0x03 => f.cells.any fun c => match s.corrOf c with | some v => decide (s.nodeOv - s.cfg.cellProt.hyst < v) | none => true
  | 0x04 => f.cells.any fun c => match s.corrOf c with | some v => decide (v < s.nodeUv + s.cfg.cellProt.hyst) | none => true
  | 0x05 => (s.cfg.branchCells b).any fun c => match s.corrOf c with | some v => decide ((s.cfg.cellProt.vOv : Int) ≤ v) | none => decide (c ∈ f.cells)
  | 0x06 => (s.cfg.branchCells b).any fun c => match s.corrOf c with | some v => decide (v ≤ (s.cfg.cellProt.vUv : Int)) | none => decide (c ∈ f.cells)
  | 0x07 => !s.tempsClear true f.cells
  | 0x08 => (s.branchNodes b).any s.nodeSilent
  | 0x0B => !s.tripAbsent
  | 0x0C => if f.condition then !s.tempsClear false f.cells else !(s.alarmNodes b [4]).isEmpty
  | 0x0D => if f.condition then (f.cells.any fun c => (s.corrOf c).isNone) || (s.nodesOfCells f.cells).any s.alarmHeld
      else !(s.alarmNodes b [5, 6]).isEmpty
  | 0x0E => (s.timedOver b).1
  | 0x0F => decide (2 ≤ s.pr.predRun)
  | 0x10 => !s.tm.shutdowns.isEmpty
  | 0x11 => s.tm.chans.keys.any fun k => (s.tchan k).rise
  | 0x12 => (s.cfg.branchCells b).any fun c => decide ((s.cell c).precursor = 2)
  | 0x13 => s.isoMet 0x13 s.cfg.ins.trip
  | 0x14 => ((s.acq.mismatch.get b {}).tripOver).getD false
  | 0x15 => !s.pr.gooseTrip.isEmpty
  | 0x16 => s.isoMet 0x16 s.cfg.ins.warn
  | 0x17 => s.acq.xReported
  | 0x18 => (s.acq.mismatch.get b {}).reported
  | 0x1A => if f.condition then (s.nodesOfCells f.cells).any s.alarmHeld else !(s.alarmNodes b [7, 8]).isEmpty
  | 0x20 => ks.any fun k => (s.coil k).failed.testBit 0 && !s.coilOn k && !s.confirmedOpen k
  | 0x21 => ks.any fun k => (s.coil k).failed.testBit 1 && s.coilOn k && !s.confirmedClosed k
  | 0x22 => ks.any fun k => (s.coil k).failed.testBit 2 && (if s.coilOn k then s.confirmedOpen k else s.confirmedClosed k)
  | 0x23 => ks.any fun k => (s.coil k).failed.testBit 3 && s.coilOn k
  | 0x24 => false
  | 0x25 => s.attemptsFull
  | 0x26 => s.ct.lowSupplySince.isSome
  | 0x27 => s.cfg.branchList.any fun x => decide (10 ≤ s.ct.ibOpenRun.get x 0)
  | 0x28 => decide (10 ≤ s.ct.ibOddRun.get b 0)
  | 0x30 => s.inputFaultStands f
  | 0x31 => s.inputFaultStands f
  | 0x32 => !s.outputsPassed (!decide (b = permitGroup))
  | 0x33 => ks.any fun k => !(s.coil k).driverPass || !(s.coil k).tripPass
  | 0x34 => s.rt.linkLost
  | _ => f.condition

/-! ### Evaluation (11 R292, R309, R310) -/

/-- The functions evaluated elsewhere: 0x10 and 0x11 with their channels, 0x14, 0x17 and 0x18 at the ends of their windows, 0x19 at insulation
periods, 0x09 by its resolution, 0x0A by a warm reset. -/
def evaluatedElsewhere : List Nat := [0x09, 0x0A, 0x10, 0x11, 0x14, 0x17, 0x18, 0x19]

/-- Evaluate every standing function once (11 R309, R310). -/
def State.evaluateStanding (s : State) : State :=
  (s.pr.fns.filter fun f => (f.condition || f.latched || f.demanding) && !decide (f.code ∈ evaluatedElsewhere)).foldl
    (fun s f => s.evalFn f.code f.group (s.condNow f)) s

/-- Cells named by the alarms of a branch with a code. -/
def State.namedCells (s : State) (b : Nat) (codes : List Nat) : List Nat :=
  (s.alarmNodes b codes).flatMap fun n => codes.flatMap fun c => s.alarmCells n c

/-- Start, run on or give up a class C or D function that has not decided yet (11 R292). -/
def State.watchFn (s : State) (code group subject : Nat) (value : Int) (cells : List Nat) : State :=
  match s.fn code group with
  | some f => if f.condition || f.latched || f.demanding then s
              else s.evalAndDecide code group (s.condNow { f with code := code, group := group }) subject value cells
  | none => s.evalAndDecide code group (s.condNow { code := code, group := group }) subject value cells

/-- The class C and D functions of one evaluation (11 R292). -/
def State.evaluateClassC (s : State) : State :=
  let s0 := s.evaluateStanding
  let s1 := s0.cfg.branchList.foldl (fun s b =>
    let n4 := s.alarmNodes b [4]
    let n5 := s.alarmNodes b [5, 6]
    let n7 := s.alarmNodes b [7, 8]
    let s1 := s.watchFn 0x0C b (n4.headD 0) 4 (s.namedCells b [4])
    let s2 := s1.watchFn 0x0D b (n5.headD 0) 5 (s.namedCells b [5, 6])
    let s3 := s2.watchFn 0x0E b b (s2.timedOver b).2 []
    s3.watchFn 0x1A b (n7.headD 0) 7 (s.namedCells b [7, 8])) s0
  let p := s1.predicted
  let s2 := s1.watchFn 0x0F strGroup (p.headD 0) (s1.acq.lastAdmitted.get (p.headD 0) 0) p
  let s4 := s2.watchFn 0x13 strGroup 0 s2.pr.riso []
  let s5 := s4.watchFn 0x15 strGroup (s4.pr.gooseTrip.headD 0) 1 []
  let s6 := s5.watchFn 0x16 strGroup 0 s5.pr.riso []
  s6.watchFn 0x34 strGroup 0 s6.rt.missed []

/-- Function 0x0F at a closed set (11 R305): consecutive sets in which some cell meets the condition. -/
def State.predictStep (s : State) : State :=
  let met := !s.predicted.isEmpty
  s.onProt fun p => { p with predRun := if met then min 2 (p.predRun + 1) else 0 }

/-- CLASS_C_DELAY_EXPIRY (11 R292). -/
def execClassCDelayExpiry (t : Nat) (code group : Nat) (s : State) : Host.Outcome State Fault Refusal :=
  s.run t fun s =>
    match s.fn code group, s.fnInfo code group with
    | some f, some i =>
      if !f.condition && !f.latched && !f.demanding && s.heldFor f.delaySince (ms i.delay) then
        s.decideFn code group f.subject f.value f.cells
      else s
    | _, _ => s

/-- Safety inputs whose function has reset carry no episode any more (13 R340). -/
def State.clearEpisodes (s : State) (is_ : List Nat) : State :=
  s.onSafety fun g => { g with inputs := is_.foldl (fun tb i =>
    if s.inputAbsent i then tb.upd i {} fun x => { x with episode := false, bothDemand := false } else tb) g.inputs }

/-- A function resets with what it holds (11 R309, 13 R340, R344). -/
def State.resetWhole (s : State) (code group : Nat) : State :=
  let s1 := s.resetFn code group
  if code = 0x0B ∨ ((code = 0x30 ∨ code = 0x31) ∧ group = strGroup) then s1.clearEpisodes (s.inputsOf 1 ++ s.inputsOf 2)
  else if code = 0x30 ∨ code = 0x31 then s1.clearEpisodes (s.inputsOf 3)
  else if code = 0x32 then
    s1.onSafety fun g => { g with outputs := g.outputs.mapAll {} fun o x =>
      if x.fault ∧ x.passedSince = 3 ∧ (decide (s.cfg.safeOut.fn.getD (o - 1) 0 = 3) = decide (group = permitGroup)) then
        { x with fault := false, failedSwitch := 0, passedSince := 0 } else x }
  else s1

/-- AUTOMATIC_RESET (11 R310). -/
def execAutomaticReset (t : Nat) (code group : Nat) (s : State) : Host.Outcome State Fault Refusal :=
  s.run t fun s =>
    match s.fn code group, s.fnInfo code group with
    | some f, some i =>
      if !f.latched && !decide (code = 0x0A ∨ code = 0x09) && !f.condition && f.absentSince.isSome && s.heldFor f.absentSince (ms i.clear) then
        s.resetWhole code group
      else s
    | _, _ => s

/-- The condition of a latched function has been absent for long enough (11 R309, 13 R340): 100 consecutive evaluations, or 100 ms for the
functions of the safety inputs. -/
def State.mayReset (s : State) (f : Fn) : Bool :=
  if f.code = 0x0B ∨ f.code = 0x30 ∨ f.code = 0x31 then !f.condition && f.absentSince.isSome && s.heldFor f.absentSince (ms 100)
  else !f.condition && decide (100 ≤ f.absent)

/-- PROTECTION_RESET (11 R309; 17 R435, R436): the named latched functions reset whose condition has been absent; one that still stands is
refused BUSY and named. -/
def protectionReset (code : Nat) (s : State) : State × Nat × Nat × List Nat :=
  if !s.leads then refuse 1 s
  else if !decide (code = 0xFF) && !decide (code ∈ fnCodes) then (s, stInvalid, 0, [])
  else
    let fs := s.pr.fns.filter fun f => f.latched && !decide (f.code = 0x0A) && decide (code = 0xFF ∨ f.code = code)
    let s1 := (fs.filter s.mayReset).foldl (fun s f => s.resetWhole f.code f.group) s
    match fs.find? fun f => !s.mayReset f with
    | some f => (s1, stBusy, 0, [f.code])
    | none => (s1, stDone, 0, [])

/-- PROTECTION_RESET (11 R309). -/
def execProtectionReset (t : Nat) (m : Maint) (code : Nat) (s : State) : Host.Outcome State Fault Refusal :=
  s.run t fun s => s.maint m 0x0701 (protectionReset code)

/-! ### Comparators (11 R302) -/

/-- A wake source sets its latch (19 R471): source numbers 1 to 7. -/
def State.setWake (s : State) (src : Nat) : State := s.onPower fun p => { p with latches := p.latches ||| (2 ^ (src - 1)) }

/-- CURRENT_COMPARATOR_CROSSING (11 R302): a class A decision in Run and Watch; with the contactors open in Hibernate it is recorded and wakes
the module at once (log 113). An IS comparator without its sensor supply is blind (25 R576). -/
def comparatorCrossing (chan : Nat) (value : Int) (s : State) : State :=
  if !s.beyondLevel chan value || s.pw.haltedIsland then s
  else if s.pw.state = .hibernate then (s.recordAlways .openCurrent chan (octetsOf 4 (wrapInt 4 value))).setWake 1
  else if s.pw.state = .run ∨ s.pw.state = .watch then
    if chan = 4 then (if s.acq.hallLost then s else s.decideFn 0x02 strGroup 4 value)
    else if s.cfg.hasBranch chan then s.decideFn 0x01 chan chan value else s
  else s

/-- CURRENT_COMPARATOR_CROSSING (11 R302). -/
def execCurrentComparatorCrossing (t : Nat) (chan : Fin 5) (value : Int) (s : State) : Host.Outcome State Fault Refusal :=
  s.run t (comparatorCrossing chan.val value)

/-! ### Insulation (11 R306 to R308) -/

/-- R_iso from the difference of two halves in V (11 R307): within 10 kOhm to 5 MOhm, and whether it lies beyond; in kOhm. -/
def isoOf (dv : Rat) : Nat × Bool :=
  if dv ≤ 0 then (10, true)
  else if 60 ≤ dv then (5000, true)
  else
    let r := 100 * dv / (60 - dv)
    if r < 10 then (10, true) else if 5000 < r then (5000, true) else ((roundOpen 40 r).toNat, false)

/-- The insulation figures of a half-period (11 R307). -/
def State.isoStep (s : State) (x : InsIn) : State :=
  let plus := s.pr.injPlus
  let keep := fun (p : Prot) => { p with risoQuality := if qMissing p.risoQuality then p.risoQuality else qMarkStale p.risoQuality }
  let s1 := s.onProt fun p => { p with injPlus := !p.injPlus }
  match x.hv5 with
  | some v5 =>
    if 5000 < x.change then s1.onProt fun p => { keep p with hv5Prev := none, hv4Prev := none }
    else
      let s2 := s1.onProt fun p => { p with hv5Prev := some v5, hv4Prev := some x.hv4 }
      match s.pr.hv5Prev, s.pr.hv4Prev with
      | some p5, some p4 =>
        let (share, s3) := if x.hv4 = p4 then ((0 : Rat), s2) else s2.freshRat
        let raw : Rat := ((v5 - p5 : Int) : Rat) / 1000 - share
        let r := isoOf (if plus then raw else -raw)
        s3.onProt fun p => { p with riso := r.1, risoQuality := mkQuality true false false false false false false r.2 }
      | _, _ => s2.onProt keep
  | none => s1.onProt fun p => { keep p with hv5Prev := none, hv4Prev := none }

/-- Pole shift over the last whole insulation period (11 R308). -/
def State.poleStep (s : State) (x : InsIn) : State :=
  let s1 := s.onProt fun p => { p with poleSum := ((x.full5, x.full4, x.hv5.isSome) :: p.poleSum).take 2 }
  match s1.pr.poleSum with
  | [(a5, a4, av), (b5, b4, bv)] =>
    if !av || !bv then s1
    else
      let m5 : Rat := ((a5 + b5 : Int) : Rat) / 2
      let m4 : Rat := ((a4 + b4 : Int) : Rat) / 2
      let dev := m5 + m4 / 2
      let shift := decide ((s.cfg.ins.poleShare : Rat) / 100 * absR m4 < absR dev)
      s1.evalAndDecide 0x19 strGroup shift 0 (roundOpen 41 dev)
  | _ => s1

/-- INSULATION_HALF_PERIOD (11 R307, R308). -/
def insulationHalf (x : InsIn) (s : State) : State :=
  let s1 := if s.monitorCoupled then s.isoStep x
    else s.onProt fun p => { p with risoQuality := qAbsent, hv5Prev := none, hv4Prev := none }
  let s2 := s1.poleStep x
  let s3 := [0x16, 0x13].foldl (fun s code => match s.fn code strGroup with
    | some f => if f.condition || f.latched || f.demanding then s.evalFn code strGroup (s.condNow f) else s
    | none => s) s2
  (s3.watchFn 0x16 strGroup 0 s3.pr.riso []).watchFn 0x13 strGroup 0 s3.pr.riso []

/-- INSULATION_HALF_PERIOD (11 R307). -/
def execInsulationHalfPeriod (t : Nat) (x : InsIn) (s : State) : Host.Outcome State Fault Refusal :=
  s.run t fun s =>
    if (s.pr.halfAt.isNone || s.heldFor s.pr.halfAt (500000 * s.cfg.ins.period)) && decide (s.pw.state = .run ∨ s.pw.state = .watch) then
      insulationHalf x (s.onProt fun p => { p with halfAt := some s.now })
    else s

/-- The strings listed before this one in the coupling list (11 R306). -/
def State.earlierStrings (s : State) : List Nat := s.cfg.ins.list.takeWhile fun i => !decide (i = s.cfg.string.index)

/-- K12 may be energised (11 R306): always in mode 0; in mode 1 when listed first without a Thyme failure, or when every earlier string has
been uncoupled or silent for 2 s. -/
def State.mayCouple (s : State) : Bool :=
  s.leads && decide (s.pw.state = .run ∨ s.pw.state = .watch) &&
    (decide (s.cfg.ins.mode = 0) ||
      (decide (s.cfg.string.index ∈ s.cfg.ins.list) &&
        ((s.earlierStrings.isEmpty && !s.th.failure) ||
          (!s.earlierStrings.isEmpty && s.earlierStrings.all fun i => decide (i ∈ s.pr.couple.keys) && decide (s.pr.couple.get i 0 + sec 2 ≤ s.now)))))

/-- Energise K12 (11 R306). -/
def State.couple (s : State) : State := if s.mayCouple && !s.coilOn 12 then (s.coilOnReq 12).record .monitorCoupled 0 [] else s

/-- MONITOR_COUPLING_WAIT_EXPIRY (11 R306). -/
def execMonitorCouplingWaitExpiry (t : Nat) (s : State) : Host.Outcome State Fault Refusal := s.run t State.couple

end Sys2Proof.Machine
end

