-- ==== Sys2Proof/Machine/SafetyIO.lean ====
section
/-! DEFINITION. Sys2Proof/Machine/SafetyIO.lean: safety inputs, test pulses, safe outputs and the tests of the disconnect path
(chapter 13). -/

namespace Sys2Proof.Machine

open Sys2Proof

/-! ### Inputs (13 R336 to R340) -/

/-- A safety input. -/
def State.input (s : State) (i : Nat) : SafeIn := s.sf.inputs.get i {}

/-- Update of an input. -/
def State.onInput (s : State) (i : Nat) (f : SafeIn → SafeIn) : State := s.onSafety fun g => { g with inputs := g.inputs.upd i {} f }

/-- Function of an input (13 R336). -/
def State.inputFn (s : State) (i : Nat) : Nat := s.cfg.safeIn.fn.getD (i - 1) 0

/-- Source of an input: 0 static, 1 T1, 2 T2. -/
def State.inputSource (s : State) (i : Nat) : Nat := s.cfg.safeIn.source.getD (i - 1) 0

/-- Filter time of an input, µs (13 R337; record 0x0706). -/
def State.filterUs (s : State) (i : Nat) : Nat := s.cfg.safeIn.filterUs.getD (i - 1) 1000

/-- The island samples the inputs: it runs, and the module is not in Off or Hibernate (11 R311, 13 R337). -/
def State.islandReads (s : State) : Bool :=
  s.pw.islandUp && !s.pw.haltedIsland && !decide (s.pw.state = .off ∨ s.pw.state = .hibernate)

/-- The other channel of an equivalent pair, if it is one. -/
def State.mateOf (s : State) (i : Nat) : Option Nat :=
  if s.cfg.safeIn.pair.getD (i - 1) false then some (if i % 2 = 1 then i + 1 else i - 1) else none

/-- The channels of an input: itself, and its mate in a pair. -/
def State.channelsOf (s : State) (i : Nat) : List Nat := i :: (s.mateOf i).toList

/-- The group a fault of an input's function acts on (13 R339, R346). -/
def State.inputGroup (s : State) (i : Nat) : Nat := if s.inputFn i = 3 then permitGroup else strGroup

/-- Note whether the channels of a pair disagree, and since when (13 R339). -/
def State.noteDisagree (s : State) (i : Nat) : State :=
  match s.mateOf i with
  | none => s
  | some j =>
    let dis := !decide ((s.input i).demand = (s.input j).demand)
    [i, j].foldl (fun s k => s.onInput k fun x => { x with disSince := since s.now dis x.disSince }) s

/-- A demand or fault begins at an input (13 R340): a fresh episode starts without a common demand. -/
def State.beginEpisode (s : State) (i : Nat) : State :=
  let cs := s.channelsOf i
  let fresh := cs.all fun k => !(s.input k).demand && decide ((s.input k).fault = 0 ∨ (s.input k).fault = 2)
  cs.foldl (fun s k => s.onInput k fun x => { x with episode := true, bothDemand := x.bothDemand && !fresh }) s

/-- Evaluate the functions of the safety inputs that stand (13 R340). -/
def State.evaluateInputs (s : State) : State :=
  (s.pr.fns.filter fun f => decide (f.code = 0x0B ∨ f.code = 0x30 ∨ f.code = 0x31)).foldl (fun s f => s.evalFn f.code f.group (s.condNow f)) s

/-- A fault code at an input (13 R339): it counts as a demand, and function 0x30 acts as the input's function does. -/
def State.raiseInputFault (s : State) (i code : Nat) : State :=
  if s.inputFn i = 0 ∨ (s.input i).fault = code ∨ (s.input i).fault = 3 then s
  else
    let s1 := ((s.beginEpisode i).onInput i fun x => { x with fault := code, goodPulses := 0 }).interruptTests
    if code = 3 then s1 else s1.decideFn 0x30 (s.inputGroup i) i code (s.channelsOf i)

/-- A pair that returned to permit without both channels in demand together stays with fault code 2 (13 R340). -/
def State.lonePair (s : State) (i : Nat) : State :=
  match s.mateOf i with
  | none => s
  | some j =>
    let x := s.input i
    let y := s.input j
    if x.episode && !x.demand && !y.demand && !x.bothDemand && decide (x.fault = 0) && decide (y.fault = 0) then
      (s.raiseInputFault i 2).raiseInputFault j 2
    else s

/-- SAFETY_INPUT_DEMAND (13 R336, R337, R343): an unused input has no demand; a level that the island does not sample is only kept, and a
demand it finds after a restart begins afresh. -/
def inputDemand (i : Nat) (s : State) : State :=
  if s.inputFn i = 0 then s
  else if !s.islandReads then s.onInput i fun x => { x with demand := true, permitSince := none }
  else if (s.input i).demand ∧ (s.input i).episode then s
  else
    let s1 := ((s.beginEpisode i).onInput i fun x => { x with demand := true, permitSince := none, goodPulses := 0 }).interruptTests
    let both := match s1.mateOf i with | some j => (s1.input j).demand | none => false
    let s2 := if both then (s1.channelsOf i).foldl (fun s k => s.onInput k fun x => { x with
      bothDemand := true, fault := if x.fault = 2 then 0 else x.fault }) s1 else s1
    let s3 := s2.noteDisagree i
    if s.inputFn i = 1 ∨ s.inputFn i = 2 then s3.decideFn 0x0B strGroup i 1 else s3

/-- SAFETY_INPUT_DEMAND (13 R337): SI1 to SI8. -/
def execSafetyInputDemand (t : Nat) (x : InputRun) (s : State) : Host.Outcome State Fault Refusal :=
  s.run t fun s => if s.filterUs (x.input.val + 1) ≤ x.span then inputDemand (x.input.val + 1) s else s

/-- SAFETY_INPUT_PERMIT (13 R337). -/
def inputPermit (i : Nat) (s : State) : State :=
  if !(s.input i).demand then s
  else if !s.islandReads then s.onInput i fun x => { x with demand := false, permitSince := some s.now }
  else
    let s1 := (s.onInput i fun x => { x with demand := false, permitSince := some s.now }).noteDisagree i
    (s1.lonePair i).evaluateInputs

/-- SAFETY_INPUT_PERMIT (13 R337). -/
def execSafetyInputPermit (t : Nat) (x : InputRun) (s : State) : Host.Outcome State Fault Refusal :=
  s.run t fun s => if s.filterUs (x.input.val + 1) ≤ x.span then inputPermit (x.input.val + 1) s else s

/-- The inputs fed by a test-pulse source. -/
def State.inputsOfSource (s : State) (src : Nat) : List Nat :=
  ((List.range 8).map (· + 1)).filter fun i => decide (s.inputSource i = src) && !decide (s.inputFn i = 0)

/-- One input at a pulse of its source (13 R339, R340): read high throughout, or the pulse is seen. Pulses count while the input is in permit,
since a low input shows none; a missing-pulse fault ends when every pulse has been seen for 10 periods. -/
def State.pulseSeen (s : State) (i : Nat) (high : Bool) : State :=
  if high then
    let s1 := s.onInput i fun x => { x with missRun := min 2 (x.missRun + 1), goodPulses := 0 }
    if 2 ≤ (s1.input i).missRun ∧ s.inputSource i ∉ s.sf.srcFault then s1.raiseInputFault i 1 else s1
  else
    let s1 := s.onInput i fun x =>
      let n := if x.demand then 0 else min 10 (x.goodPulses + 1)
      { x with missRun := 0, goodPulses := n, fault := if x.fault = 1 ∧ 10 ≤ n then 0 else x.fault }
    if (s.input i).fault = 1 then s1.lonePair i else s1

/-- The verdict on a source over its pulse (13 R339); a source fault ends after 10 good pulses (13 R340). -/
def State.sourcePulse (s : State) (src : Nat) (bad : Bool) : State :=
  let run := if bad then min 2 (s.sf.srcRun.get src 0 + 1) else 0
  let good := if bad ∨ src ∉ s.sf.srcFault then 0 else min 10 (s.sf.srcGood.get src 0 + 1)
  let s1 := s.onSafety fun g => { g with srcRun := g.srcRun.put src 0 run, srcGood := g.srcGood.put src 0 good }
  let ins := s.inputsOfSource src
  if 2 ≤ run ∧ src ∉ s.sf.srcFault then
    let s2 := s1.onSafety fun g => { g with srcFault := insertN src g.srcFault }
    let s3 := ins.foldl (fun s i => (s.onInput i fun x => { x with missRun := 0 }).raiseInputFault i 3) s2
    let trip := ins.filter fun i => decide (s.inputFn i = 1 ∨ s.inputFn i = 2)
    let per := ins.filter fun i => decide (s.inputFn i = 3)
    let s4 := if trip.isEmpty then s3 else s3.decideFn 0x31 strGroup src 3 trip
    if per.isEmpty then s4 else s4.decideFn 0x31 permitGroup src 3 per
  else if 10 ≤ good then
    let s2 := s1.onSafety fun g => { g with srcFault := g.srcFault.filter fun x => !decide (x = src) }
    ins.foldl (fun s i => (s.onInput i fun x => { x with fault := if x.fault = 3 then 0 else x.fault }).lonePair i) s2
  else s1

/-- TEST_PULSE (13 R338, R339): `high` are the inputs that read high through the whole pulse window; the source's output fails below 18 V
outside its pulses or above 3 V inside them. -/
def testPulse (src : Nat) (high : List Nat) (volts : SourceIn) (s : State) : State :=
  let s1 := s.sourcePulse src (decide (volts.least < 18000 ∨ 3000 < volts.most))
  ((s1.inputsOfSource src).foldl (fun s i => s.pulseSeen i (decide (i ∈ high))) s1).evaluateInputs

/-- TEST_PULSE (13 R338): T1 or T2. -/
def execTestPulse (t : Nat) (src : Fin 2) (high : List Nat) (volts : SourceIn) (s : State) : Host.Outcome State Fault Refusal :=
  s.run t fun s =>
    if s.islandReads then s.turnFrom (0x50 + src.val) (1000 * s.cfg.test.periodUs) (500 * s.cfg.test.periodUs * src.val) (testPulse (src.val + 1) high volts)
    else s

/-- DISCREPANCY_TIME_EXPIRY (13 R339): pair 1 to 4. -/
def discrepancy (p : Nat) (s : State) : State :=
  let i := 2 * p + 1
  match s.mateOf i with
  | none => s
  | some j =>
    if s.islandReads && s.heldFor (s.input i).disSince (ms (s.cfg.safeIn.discMs.getD p 100)) then (s.raiseInputFault i 2).raiseInputFault j 2 else s

/-- DISCREPANCY_TIME_EXPIRY (13 R339). -/
def execDiscrepancyTimeExpiry (t : Nat) (p : Fin 4) (s : State) : Host.Outcome State Fault Refusal := s.run t (discrepancy p.val)

/-! ### Outputs (13 R341 to R344) -/

/-- A safe output. -/
def State.output (s : State) (o : Nat) : SafeOut := s.sf.outputs.get o {}

/-- Update of an output. -/
def State.onOutput (s : State) (o : Nat) (f : SafeOut → SafeOut) : State := s.onSafety fun g => { g with outputs := g.outputs.upd o {} f }

/-- The verdicts of a whole test (13 R344): a switch that fails holds the output off and raises function 0x32; passes since a failure are
kept. -/
def State.testVerdict (s : State) (o : Nat) (a b : Bool) : State :=
  let s1 := s.onOutput o fun x => { x with testing := 0 }
  if a && b then s1.onOutput o fun x => { x with passedSince := if x.fault then 3 else 0 }
  else
    let s2 := s1.onOutput o fun x => { x with fault := true, failedSwitch := x.failedSwitch ||| bitsOf [!a, !b], passedSince := 0 }
    s2.decideFn 0x32 (if s.cfg.safeOut.fn.getD (o - 1) 0 = 3 then permitGroup else strGroup) o (bitsOf [!a, !b])

/-- The output's state allows a dark test. -/
def State.darkAllowed (s : State) (o : Nat) : Bool := (s.output o).energised

/-- The output's state allows a bright test (13 R342, R344). -/
def State.brightAllowed (s : State) (o : Nat) : Bool :=
  !(s.output o).energised && !decide (s.cfg.safeOut.fn.getD (o - 1) 0 = 0) && (s.cfg.safeOut.brightOn.getD (o - 1) true || (s.output o).fault)

/-- A test of kind 1 dark or 2 bright at an output, once per interval: without verdicts it begins, with those of switches A and B it ends. -/
def outputTest (o kind seconds : Nat) (allowed : Bool) (verdict : Option (Bool × Bool)) (s : State) : State :=
  match verdict with
  | none => if (s.output o).testing = 0 ∧ allowed ∧ s.islandOn then
      s.turn (0x50 + 2 * kind + o) (sec seconds) fun s => s.onOutput o fun x => { x with testing := kind }
    else s
  | some (a, b) => if (s.output o).testing = kind then s.testVerdict o a b else s

/-- DARK_TEST (13 R342). -/
def execDarkTest (t : Nat) (o : Fin 2) (verdict : Option (Bool × Bool)) (s : State) : Host.Outcome State Fault Refusal :=
  s.run t fun s => outputTest (o.val + 1) 1 (s.cfg.safeOut.darkS.getD o.val 60) (s.darkAllowed (o.val + 1)) verdict s

/-- BRIGHT_TEST (13 R342). -/
def execBrightTest (t : Nat) (o : Fin 2) (verdict : Option (Bool × Bool)) (s : State) : Host.Outcome State Fault Refusal :=
  s.run t fun s => outputTest (o.val + 1) 2 (s.cfg.safeOut.brightS.getD o.val 60) (s.brightAllowed (o.val + 1)) verdict s

/-- SAFE_OUTPUT_TEST_RERUN (13 R343). -/
def execSafeOutputTestRerun (t : Nat) (o : Fin 2) (s : State) : Host.Outcome State Fault Refusal :=
  s.run t fun s =>
    let x := s.output (o.val + 1)
    if x.rerunWait ∧ s.due x.rerunAt ∧ x.testing = 0 then
      s.onOutput (o.val + 1) fun x => { x with testing := if x.rerunDark then 1 else 2, rerunWait := false, rerunAt := none }
    else s

/-! ### Tests of the disconnect path (13 R345, 14 R369) -/

/-- Function 0x33 acts for an output (13 R345); its condition is absent when both tests of the group's coils pass. -/
def State.dipVerdict (s : State) (k : Nat) (pass : Bool) : State :=
  if pass ∨ 11 < k then s else s.decideFn 0x33 (groupOfK k) k 0

/-- Offset of a twin's tests in their period of 600 s (13 R345), ns. -/
def State.dipOffset (s : State) : Nat := if s.isTwin then sec (150 * s.cfg.twin.position) else 0

/-- DRIVER_DIP_TEST (13 R345): once in every 600 s, the driver of a coil in hold, where this module's driver conducts. -/
def execDriverDipTest (t : Nat) (k : Nat) (pass : Bool) (s : State) : Host.Outcome State Fault Refusal :=
  s.run t fun s =>
    if (s.coil k).phase = .hold ∧ s.leads then
      s.turnFrom (0x60 + k) (sec 600) s.dipOffset fun s => (s.onCoil k fun c => { c with driverPass := pass }).dipVerdict k pass
    else s

/-- The ride-through flag (13 R345, 14 R369): every driver and cross-hold test passed last. -/
def State.rideFlag (s : State) : State :=
  s.onTwin fun w => { w with rideThrough := allK.all fun k => (s.coil k).driverPass && (s.coil k).xhPass }

/-- TRIP_SWITCH_DIP_TEST (13 R345, 14 R369): the trip switch of a coil in hold; or, at the partner's test, this twin's cross-hold switch. -/
def tripDip (k : Nat) (pass : Bool) (partner : Bool) (s : State) : State :=
  if partner then
    if s.isTwin ∧ ¬ s.tw.partnerFailed then s.turnFrom (0x90 + k) (sec 600) (sec 300 + sec (150 * (1 - s.cfg.twin.position))) fun s =>
      let s1 := (s.onCoil k fun c => { c with xhPass := pass }).rideFlag
      if pass then s1 else s1.record .crossHoldFault k []
    else s
  else if (s.coil k).phase = .hold ∨ (s.isTwin ∧ s.tw.role = .follower ∧ s.tw.partnerCoils.testBit (k - 1) ∧ ¬ s.tw.partnerPull.testBit (k - 1)) then
    s.turnFrom (0x70 + k) (sec 600) (sec 300 + s.dipOffset) fun s => (s.onCoil k fun c => { c with tripPass := pass }).dipVerdict k pass
  else s

/-- TRIP_SWITCH_DIP_TEST (13 R345). -/
def execTripSwitchDipTest (t : Nat) (k : Nat) (pass partner : Bool) (s : State) : Host.Outcome State Fault Refusal :=
  s.run t (tripDip k pass partner)

/-- FOLLOWER_DRIVER_TEST (13 R345): for a coil in hold at the leader. -/
def execFollowerDriverTest (t : Nat) (k : Nat) (pass : Bool) (s : State) : Host.Outcome State Fault Refusal :=
  s.run t fun s =>
    if s.isTwin ∧ s.tw.role = .follower ∧ s.tw.partnerCoils.testBit (k - 1) ∧ ¬ s.tw.partnerPull.testBit (k - 1) then s.turnFrom (0x80 + k) (sec 600) s.dipOffset fun s =>
      let s1 := (s.onCoil k fun c => { c with driverPass := pass }).rideFlag
      if pass then s1 else s1.record .followerDriver k []
    else s

end Sys2Proof.Machine
end

