-- ==== Sys2Proof/Machine/Reset.lean ====
section
/-! DEFINITION. Sys2Proof/Machine/Reset.lean: what starts, resets and wakes do (19 R463 to R479): reading the learned state
(07 R213 to R216), selecting firmware (21 R516), reading the Bay plug (20 R499, R500), and restarting. -/

namespace Sys2Proof.Machine

open Sys2Proof

/-! ### Reading items (07 R213) -/

/-- An unsigned field of `w` octets at an offset (00 R3). -/
def rdU (l : List Nat) (off w : Nat) : Nat := ((l.drop off).take w).foldl (fun a o => 256 * a + o) 0

/-- A signed field of `w` octets at an offset. -/
def rdS (l : List Nat) (off w : Nat) : Int :=
  let n := rdU l off w
  if 256 ^ w ≤ 2 * n then (n : Int) - (256 ^ w : Int) else (n : Int)

/-- The payload of an item, if one of its copies serves. -/
def State.item (s : State) (key : Nat) : Option (List Nat) := (s.ls.items.get key {}).read

/-- The losses a start records (07 R213). -/
def State.recordLosses (s : State) : State :=
  s.ls.items.keys.foldl (fun s k => match (s.ls.items.get k {}).loss with
    | 1 => s.record .updateLost k []
    | 2 => s.record .stateLost k []
    | _ => s) s

/-- Nominal leakage at 25 degC, mA: what a stored leakage contains beside the relative one (07 R205, R214). -/
def State.nominalLeak (s : State) : Rat := (s.cfg.leak.nom : Rat) / 1000

/-- A cell entry of a node block (07 R214); an open check opens anew at the start (log 113). -/
def State.loadCell (s : State) (c : Nat) (e : List Nat) : State :=
  let f := rdU e 20 1
  s.onCell c fun x => { x with
    q := (rdU e 0 4 : Rat)
    qSigma := (rdU e 4 2 : Rat) / 10000
    lRel := (rdS e 6 4 : Rat) / 1000 - s.nominalLeak
    sigmaRel := (rdU e 10 2 : Rat) / 1000
    leakValid := decide (0 < rdU e 10 2)
    lRelOld := (rdS e 12 4 : Rat) / 1000
    efc := (rdU e 16 4 : Rat) / 100
    defaultState := f.testBit 0
    learned := f.testBit 1
    checkOpen := f.testBit 2
    checkAt := s.now
    checkQ := (rdU e 0 4 : Rat)
    checkL := (rdS e 6 4 : Rat) / 1000 - s.nominalLeak }

/-- Items 0x03 to 0x05 of a node (07 R214). -/
def State.loadTaps (s : State) (n : Nat) (p : List Nat) : State :=
  (List.range 17).foldl (fun s j =>
    let e := p.drop (8 + 12 * j)
    s.onTap n j fun _ => { rho := rdU e 0 4, sigma := rdU e 4 4, steps := rdU e 8 2, converged := (rdU e 10 1).testBit 0, written := rdU e 0 4 }) s

/-- Temperature coefficient block (07 R214); where b is still to be learned, the first equilibrium stands again as a and its temperature give it
(log 49). -/
def State.loadCoefs (s : State) (n : Nat) (p : List Nat) : State :=
  (List.range 64).foldl (fun s k =>
    let e := p.drop (8 + 20 * k)
    let v : Coef := { a := rdS e 0 4, b := rdU e 4 4, intercept := rdS e 8 4, slope := rdU e 12 4, firstTemp := rdS e 16 2, flags := rdU e 18 1 }
    let first : EqPoint := {
      temp := v.firstTemp
      y := (v.a : Rat) / 1000000 + (s.cfg.derived.bDefault : Rat) / kelvin v.firstTemp
      z := (v.intercept : Rat) / 1000000 + (v.slope : Rat) / 100 / kelvin v.firstTemp }
    let v := if v.flags % 4 = 1 then { v with lo := some first, hi := some first } else v
    s.onSage fun g => { g with coefs := g.coefs.put (4 * s.cfg.cellOfNode n (k / 4) + k % 4) {} v }) s

/-- Baseline block (07 R214): the running median stands for the fits of the days collected (log 111). -/
def State.loadBases (s : State) (n : Nat) (p : List Nat) : State :=
  (List.range 16).foldl (fun s j =>
    let e := p.drop (8 + 16 * j)
    let v : Baseline := { r0 := rdU e 0 4, tempCo := rdS e 4 4, running := rdU e 8 4, days := rdU e 12 2, fixed := (rdU e 14 1).testBit 0, dayAt := s.now
                          samples := if (rdU e 14 1).testBit 0 ∨ rdU e 8 4 = 0 then [] else [(rdU e 8 4, 8640 * max 1 (rdU e 12 2))] }
    s.onSage fun g => { g with bases := g.bases.put (s.cfg.cellOfNode n j) {} v }) s

/-- A block that carries a node identifier. -/
def identBlock (id : Option Nat) (p : Option (List Nat)) : List (List Nat) :=
  match p, id with
  | some p, some d => if rdU p 0 8 = d then [p] else []
  | _, _ => []

/-- The learned state of a node's cells (07 R214 to R216): its blocks, or the default learned state. A block counts for the node whose
identifier it carries. -/
def State.loadNode (s : State) (n : Nat) : State :=
  let it := fun (i : Nat) => s.item (itemKey 4 i n)
  let id := ([1, 3, 4, 5].filterMap it).head?.map fun p => rdU p 0 8
  let s0 := (s.defaultNode n).onNode n fun x => { x with blockIdent := id }
  let s1 := (identBlock id (it 1)).foldl (fun s p => (s.cfg.cellsOfNode n).foldl (fun s c => s.loadCell c (p.drop (8 + 24 * (c % 16)))) s) s0
  let s2 := (identBlock id (it 3)).foldl (fun s p => s.loadTaps n p) s1
  let s3 := (identBlock id (it 4)).foldl (fun s p => s.loadCoefs n p) s2
  (identBlock id (it 5)).foldl (fun s p => s.loadBases n p) s3

/-- A cell's filter takes its values from the snapshot, corrected for the time since by its leakage, at a start the one its block stores (07 R215). -/
def State.loadSnapCell (s : State) (leak : Rat) (age : Option Nat) (known forced : Bool) (c : Nat) (e : List Nat) : State :=
  let x := s.cell c
  let soc0 : Rat := (rdU e 0 2 : Rat) / 40000
  let sg0 : Rat := (rdU e 2 2 : Rat) / 40000
  let o := rdU e 6 1
  let q := x.q
  let change : Rat := match age with
    | some a => if known ∧ a ≤ 315576000 ∧ q ≠ 0 then (leak + (s.cfg.rating.sleepUa : Rat) / 1000) * (a : Rat) / q else 0
    | none => 0
  let aged := match age with | some a => known && decide (a ≤ 315576000) | none => false
  let days : Rat := match age with | some a => (a : Rat) / 86400 | none => 0
  let sg1 : Rat := if aged then sg0 + change / 2 + days / 1000 else if known then sg0 else 1 / 10
  let sg2 : Rat := if forced ∧ q ≠ 0 then sg1 + 3000 / q else sg1
  let soc := soc0 - change
  s.onCell c fun x => { x with
    live := true
    soc := soc
    u1 := 0
    u2 := 0
    h := (rdS e 4 2 : Rat) / 32768
    cov := (sg2 * sg2) :: List.replicate 15 0
    count := 0
    broken := true
    agree := match o % 4 with | 1 => .countEmpty | 2 => .voltageEmpty | _ => .agree
    learnOff := o.testBit 2
    anchor := { kind := 6, value := soc, sigma := sg2, sweep := s.sweepNo, a := soc, atNs := s.now } }

/-- The node block of a cell was read and stands (07 R215, R216): without it the cell takes the default learned state. -/
def State.hasBlock (s : State) (c : Nat) : Bool :=
  match s.cfg.nodeOfCell c with
  | some n => !(identBlock (s.node n).blockIdent (s.item (itemKey 4 1 n))).isEmpty
  | none => false

/-- An entry of the snapshot without a reserved value (00 R4, R6; 07 R214). -/
def snapEntryOk (e : List Nat) : Bool := decide (rdU e 0 2 ≤ 40000) && decide (rdU e 2 2 ≤ 40000) && decide (rdU e 6 1 % 4 ≤ 2)

/-- The snapshot (07 R214, R215): discarded when its plug check differs, and as a whole when an entry holds a reserved value (00 R4). `known` says that the time state before
the restart or the Hibernate was locked or holdover (log 85), `forced` that a fault forced the reset. -/
def State.loadSnapshot (s : State) (leak : State → Nat → Rat) (known forced : Bool) : State :=
  match (s.ls.items.get (itemKey 4 2 0) {}).newer with
  | none => s
  | some c =>
    if rdU c.payload 0 4 ≠ Config.crc32 (octetsOf 8 s.pg.ident) || !s.cfg.allCells.all (fun k => snapEntryOk (c.payload.drop (4 + 8 * k))) then s
    else
      let t := s.th.reading / 1000000000
      let age := if c.time ≤ t then some (t - c.time) else none
      s.cfg.allCells.foldl (fun s k =>
        if (s.cell k).live || s.hasBlock k then s.loadSnapCell (leak s k) age known forced k (c.payload.drop (4 + 8 * k)) else s) s

/-- The latched functions (11 R310): kept, with nothing counted since the restart; 0x0A resets by the restart (11 R292). -/
def State.loadLatches (s : State) : State :=
  match s.item (itemKey 7 1 0) with
  | none => s
  | some p =>
    let l := (List.range (p.length / 2)).filterMap fun i =>
      let code := rdU p (2 * i) 1
      let group := rdU p (2 * i + 1) 1
      if code = 0x0A then none else (s.fnInfo code group).map fun f =>
        ({ code := code, group := group, action := f.action, latched := true, demanding := !decide (f.action = .none), decidedAt := s.now } : Fn)
    let s1 := s.onProt fun q => { q with fns := l }
    if l.length = p.length / 2 then s1 else s1.writeLatches

/-- The pre-charge starts and lockout (12 R327): function 0x24 stands until the lockout ends. -/
def State.loadPrecharge (s : State) : State :=
  match s.item (itemKey 2 1 0) with
  | none => s
  | some p =>
    let lock := rdU p 0 4
    let s1 := s.onCont fun c => { c with
      lockout := if lock = 0 then none else some lock
      attempts := (List.range (p.length / 4 - 1)).map fun i => rdU p (4 * i + 4) 4 }
    if s.opTime < lock then
      let left := sec (lock - s.opTime)
      s1.setFn { code := 0x24, group := strGroup, action := .sd, demanding := true, decidedAt := s.now,
                 absentSince := some (s.now + left - sec s.cfg.pre.lockout) }
    else s1

/-- A wired and enabled drive energises at its phase index at power-up, at the hold current for the hold time (10 R280; log 93). -/
def State.energise (s : State) (v : Nat) : State :=
  if (s.valveCfg v).enable && s.ownValve v then
    s.onValve v fun x => { x with energy := 1, holdUntil := some (s.now + ms (s.valveCfg v).holdMs) }
  else s

/-- The valve items (10 R280): energised at the stored position and phase index; a move in progress or a lost item makes the position uncertain. -/
def State.loadValves (s : State) : State :=
  [0, 1].foldl (fun s v =>
    let i := s.ls.items.get (itemKey 6 1 v) {}
    let lost := decide (i.loss = 2)
    match i.read with
    | some p =>
      let f := rdU p 9 1
      (s.onValve v fun _ => { pos := rdS p 0 4, target := rdS p 4 4, phase := rdU p 8 1, uncertain := f.testBit 0 || f.testBit 1,
                              fault := f.testBit 2, homed := f.testBit 3 }).energise v
    | none => (s.onValve v fun _ => { uncertain := lost }).energise v) s

/-- The leadership epoch and the master epoch (14 R363, 15 R402). -/
def State.loadEpochs (s : State) : State :=
  let e := (s.item (itemKey 0x0A 1 0)).map fun p => rdU p 0 4
  let m := (s.item (itemKey 0x0B 1 0)).map fun p => rdU p 0 4
  (s.onTwin fun w => { w with epoch := e.getD w.epoch, highEpoch := max w.highEpoch (e.getD 0) }).onMaster fun a => { a with epoch := m.getD a.epoch }

/-- LEARNED_STATE_READ (07 R213, 19 R463). -/
def State.loadLearned (s : State) (known forced : Bool) : State :=
  let s1 := s.recordLosses.loadEpochs.loadLatches.loadPrecharge.loadValves
  let s2 := (s1.cfg.nodes.map fun e => e.index).foldl State.loadNode s1
  (s2.loadSnapshot (fun s c => (s.cell c).lRel + s.nominalLeak) known forced).onPower fun p => { p with itemsRead := true }

/-! ### Update sessions and boot selection (21 R507, R515, R516) -/

/-- The update session ends (21 R507). -/
def Update.endSession (u : Update) : Update := { u with session := 0, offer := none, verifying := false, reply := none }

/-- Copy A of the boot-selection record is the newer. -/
def Update.bootNewerIsA (u : Update) : Bool :=
  match u.bootA, u.bootB with
  | some a, some b => !laterThan b.seq a.seq
  | some _, none => true
  | _, _ => false

/-- Write the boot-selection record: to the copy that is not newer, with the next sequence (21 R515). -/
def State.writeBoot (s : State) (f : BootRec → BootRec) : State :=
  s.onUpdate fun u =>
    let b := { f u.boot with seq := wrapInc u.boot.seq }
    if u.bootNewerIsA then { u with bootB := some b } else { u with bootA := some b }

/-- A firmware slot. -/
def Update.slot (u : Update) (k : Nat) : Option ImgHeader := if k = 0 then u.slotA else u.slotB

/-- A slot verifies as the boot ROM loads it (21 R516). -/
def State.slotOk (s : State) (i : StartIn) (k : Nat) : Bool :=
  match s.up.slot k with
  | some h => h.endorseOk && h.sigOk && h.hashOk && (if k = 0 then i.okA else i.okB)
  | none => false

/-- Boot a slot. -/
def State.bootFrom (s : State) (k : Nat) : State :=
  s.onUpdate fun u => { u with bootSlot := k, runVersion := ((u.slot k).map fun h => h.version).getD 0 }

/-- The recovery ROM runs, under no configuration (21 R526). -/
def State.toRecovery (s : State) : State :=
  ({ s with cfg := {} } : State).onPower fun p => { p with recovery := true, islandUp := false, portsUp := false }

/-- Boot the committed slot, or the other one where that verifies and its counter is not below the stored one (21 R516). -/
def State.bootCommitted (s : State) (i : StartIn) : State :=
  let b := s.up.boot
  let k := b.committed
  let o := 1 - k
  if s.slotOk i k then s.bootFrom k
  else if s.slotOk i o && decide (b.antiRollback ≤ ((s.up.slot o).map fun h => h.antiRollback).getD 0) then
    (s.bootFrom o).record .slotCorrupt k []
  else s.toRecovery

/-- Roll back (21 R516). -/
def State.rollBack (s : State) (i : StartIn) : State :=
  let v := s.up.boot.trialVersion
  let s1 := s.writeBoot fun b => { b with trial := false, trialSlot := none, attempts := 0, trialVersion := 0 }
  (((s1.onUpdate fun u => { u with lastResult := 2, trialKind := 0, probation := none, trialDeadline := none }).bootCommitted i)).record .rollback 0 (octetsOf 4 v)

/-- BOOT_SELECTION (21 R516). -/
def State.bootSelect (s : State) (i : StartIn) : State :=
  let b := s.up.boot
  if !s.slotOk i 0 && !s.slotOk i 1 then s.toRecovery
  else if !b.trial then s.bootCommitted i
  else if b.attempts = 0 then s.rollBack i
  else
    let s1 := s.writeBoot fun b => { b with attempts := b.attempts - 1 }
    match b.trialSlot with
    | some k => if s.slotOk i k then (s1.bootFrom k).onUpdate fun u => { u with trialKind := 1 } else s1.rollBack i
    | none => s1.rollBack i

/-! ### The Bay plug (20 R489, R490, R499, R500) -/

/-- The copy in force is copy A. -/
def Plug.newerIsA (p : Plug) : Bool :=
  match p.dirA with
  | some a => decide (a.plug = p.ident) && (match p.dirB with | some b => !(decide (b.plug = p.ident) && laterThan b.seq a.seq) | none => true)
  | none => false

/-- DIRECTORY_WRITE (20 R490): programmed into the copy that is not in force, with the next sequence. -/
def State.writeDir (s : State) (f : DirEntry → DirEntry) : State :=
  s.onPlug fun p =>
    let d := p.dir.getD {}
    let e := { f d with seq := wrapInc d.seq, time := s.th.reading, plug := p.ident }
    if p.newerIsA then { p with dirB := some e } else { p with dirA := some e }

/-- An image area. -/
def Plug.area (p : Plug) (a : Nat) : Option Image := if a = 0 then p.area0 else p.area1

/-- Stages 4 to 15 of 20 R499 on an image: the first stage that fails, 0 when all pass. -/
def State.imageStage (s : State) (g : Image) : Nat :=
  let h := g.header
  let highest := (s.pg.dir.getD {}).antiRollback
  if !h.magicOk || !decide (h.kind = 2) || !h.built.ok then 4
  else if !decide (h.product = 0x2048) || !h.hwMask.testBit s.pw.variant || !decide (h.minFirmware ≤ s.up.runVersion) then 5
  else if !decide (h.plug = s.pg.ident) then 6
  else if !decide (h.length ≤ 4194304) || !decide (highest ≤ h.antiRollback) then 7
  else if !h.endorseOk || !h.usage.testBit 0 then 8
  else if !h.sigOk then 9
  else if !h.hashOk then 10
  else if !h.sectionsOk then 11
  else if !h.unwrapOk then 12
  else if !g.decodes || !g.cfg.rangesOk then 13
  else if !h.rulesOk || !g.holdsRequired || !g.cfg.rulesOk then 14
  else if !decide (g.cfg.string.index = h.string) || !decide (g.cfg.string.plantId = h.plant) || !decide (g.safetyHash = h.safetyHash) then 15
  else 0

/-- The outcome code of a failed stage (19 R464, 20 R499). -/
def stageOutcome (n : Nat) : Nat := match n with | 0 => 0 | 1 => 1 | 2 => 2 | 5 => 4 | _ => 3

/-- The image of an area, or a blank one. -/
def Plug.areaOr (p : Plug) (a : Nat) : Image := (p.area a).getD { header := { magicOk := false } }

/-- An image becomes the configuration in working memory (20 R500). -/
def State.useImage (s : State) (g : Image) : State :=
  { (s.onPlug fun p => { p with running := some g.header, outcome := 0, failedStage := 0 }) with cfg := g.cfg }

/-- The record a stage fails on (20 R499): one that does not decode, a required one that is absent; which record fails a range or a rule is a
free value (log 108). -/
def State.rejectTag (s : State) (g : Image) (stage : Nat) : List Nat × State :=
  if stage = 13 || stage = 14 then
    match g.records.find? fun r => !decide (g.cfg.recordBody r.1 = some r.2) with
    | some r => (octetsOf 2 r.1, s)
    | none => match requiredTags.find? fun t => stage = 14 && !(g.records.any fun r => decide (r.1 = t)) with
      | some t => (octetsOf 2 t, s)
      | none => let r := s.freshNat; (octetsOf 2 (r.1 % 65536), r.2)
  else ([], s)

/-- CONFIGURATION_REJECTED of an image, with the stage and the tag where a record is concerned (20 R499). -/
def State.recordRejected (s : State) (g : Image) (stage : Nat) : State :=
  let r := s.rejectTag g stage
  r.2.record .configRejected stage r.1

/-- A read that fails a stage leaves no configuration (19 R464; 20 R499). -/
def State.rejectPlug (s : State) (stage : Nat) (g : Image := { header := { magicOk := false } }) : State :=
  { ((s.recordRejected g stage).onPlug fun p => { p with running := none, outcome := stageOutcome stage, failedStage := stage }) with cfg := {} }

/-- BAY_PLUG_READ (19 R464; 20 R499, R500), with the fallback of a trial that fails. -/
def State.readPlug (s : State) (i : StartIn) : State :=
  let s0 := match i.fitted with
    | some f => s.onPlug fun p => { p with ident := f.ident, dirA := f.dirA, dirB := f.dirB, area0 := f.area0, area1 := f.area1 }
    | none => s
  let s1 := (s0.onPlug fun p => { p with removed := false, fallback := false }).onPower fun p => { p with plugPresent := i.present }
  if !i.present then s1.rejectPlug 1
  else if !i.readable then s1.rejectPlug 2
  else match s1.pg.dir with
    | none => s1.rejectPlug 3
    | some d => match d.active with
      | none => s1.rejectPlug 3
      | some a =>
        let g := s1.pg.areaOr a
        let st := s1.imageStage g
        if st = 0 then
          (s1.useImage g).onUpdate fun u => { u with trialKind := if d.trial then 2 else if u.trialKind = 2 then 0 else u.trialKind }
        else
          let o := s1.pg.areaOr (1 - a)
          if d.trial ∧ s1.imageStage o = 0 then
            let s2 := (s1.recordRejected g st).writeDir fun d => { d with active := some (1 - a), trial := false, empty := false, staged := none, epoch := o.header.version }
            (((s2.useImage o).onPlug fun p => { p with fallback := true, failedStage := st }).onUpdate fun u =>
              { u with trialKind := 0, probation := none, trialDeadline := none }).record .trialFailed 0 []
          else s1.rejectPlug st g

/-! ### Restarting (19 R463, R475) -/

/-- The entry of a CAN channel, with the defaults of record 0x0F01 (18 R460). -/
def State.canCfg (s : State) (c : Nat) : CfgCan := s.cfg.can.getD c {}

/-- What the restart of the cores, Sage, Chive and the network stacks clears, and what every restart keeps (19 R475): Thyme's reading
and rate, the calibration as applied, the configuration in working memory, the learned state, the safety authorisation, the event store,
and what stands outside the block. -/
def State.clearWorking (s : State) : State :=
  { s with
    th := { state := s.th.state, reading := s.th.reading, phase := s.th.phase, addend := s.th.addend, compPpb := s.th.compPpb,
            oscTemp := s.th.oscTemp, labelled := s.th.labelled, lockedAt := s.th.lockedAt }
    ra := { devs := s.ra.devs }
    acq := { cal := s.acq.cal, applied := s.acq.applied, calFault := s.acq.calFault, coilSupply := s.acq.coilSupply,
             lastIsTest := s.acq.lastIsTest }
    sg := {}
    ch := {}
    lim := {}
    ba := {}
    tm := {}
    pr := {}
    ct := { coils := s.ct.coils.mapAll {} fun _ c => { mirrorClosed := c.mirrorClosed, failed := c.failed }
            attempts := s.ct.attempts
            lockout := s.ct.lockout }
    sf := { inputs := s.sf.inputs.mapAll {} fun _ x => { demand := x.demand }
            outputs := s.sf.outputs.mapAll {} fun _ x => { fault := x.fault, failedSwitch := x.failedSwitch }
            counter := s.sf.counter
            rejects := s.sf.rejects
            lockUntil := s.sf.lockUntil
            log := s.sf.log
            logSeq := s.sf.logSeq }
    tw := { epoch := s.tw.epoch, highEpoch := s.tw.highEpoch, takeovers := s.tw.takeovers, handovers := s.tw.handovers,
            lastTakeover := s.tw.lastTakeover, cause := s.tw.cause, partnerCommitted := s.tw.partnerCommitted }
    ma := { epoch := s.ma.epoch }
    di := {}
    rt := {}
    nt := { ports := s.nt.ports, nextSession := s.nt.nextSession }
    cn := {}
    dl := {}
    up := { s.up with session := 0, offer := none, offset := 0, verifying := false, buckets := {}, reply := none, probation := none } }

/-- A single module leads from its start on; a twin starts (14 R363; 19 R463). -/
def State.startRole (s : State) : State :=
  s.onTwin fun w => { w with
    role := if s.isTwin then .starting else .leader
    pairUntil := if s.isTwin then some (s.now + sec s.cfg.twin.waitS) else none }

/-- The working blocks start under the configuration read: CAN channels, radio, and the monitors' cumulative sets (18 R455, 19 R463,
22 R545). -/
def State.startBlocks (s : State) : State :=
  let s1 := s.onCan fun c => { c with chans := [0, 1].foldl (fun (tb : Table CanChan) k =>
    let x := s.canCfg k
    tb.put k {} { state := if x.enable then .active else .disabled, term := if s.isTwin && decide (s.cfg.twin.position = 1) then x.term1 else x.term0 }) c.chans }
  let s2 := s1.onRadio fun r => { r with transmit := true, keyEpoch := (s.pg.running.map fun h => h.version).getD 0 }
  s2.onDill fun d => { d with
    windows := (List.range 15).foldl (fun (tb : Table MonSet) k => tb.put (k + 1) {} { start := s.sweepNo }) d.windows
    cumulative := (List.range 15).foldl (fun (tb : Table MonSet) k => tb.put (k + 1) {} { start := s.sweepNo }) d.cumulative }

/-- CALIBRATION_BLOCK_READ (05 R147). -/
def State.readCal (s : State) (i : StartIn) : State :=
  let s1 := if s.acq.cal.valid && i.calOk then s.onAcq fun a => { a with applied := a.cal, calFault := false }
    else (s.onAcq fun a => { a with calFault := true }).record .calFault 0 []
  s1.publish 0x01004000 s1.calRecord

/-- The last time written to the learned-state store, in s (02 R50). -/
def State.storedTime (s : State) : Nat :=
  s.ls.items.keys.foldl (fun m k => match (s.ls.items.get k {}).newer with | some c => max m c.time | none => m) 0

/-- Counted fault resets (19 R479). -/
def faultCause (c : Nat) : Bool := decide ((3 ≤ c ∧ c ≤ 6) ∨ c = 9)

/-- A reset from the application-cluster watchdog loses the open block and the open records (22 R538). -/
def State.loseStore (s : State) : State := s.onRosemary fun r => { r with openBlock := { number := r.openBlock.number }, openSince := none, opened := [] }

/-- Revert a configuration trial (21 R520): the former area active and committed, no area staged. -/
def State.revertDir (s : State) : State :=
  let s1 := match (s.pg.dir.getD {}).active with
    | some a => s.writeDir fun d => { d with active := some (1 - a), trial := false, empty := false, staged := none, epoch := (s.pg.areaOr (1 - a)).header.version }
    | none => s
  s1.onUpdate fun u => { u with lastResult := 3, trialKind := 0, probation := none, trialDeadline := none }

/-- The rows of a start that follow the boot selection (19 R463): calibration and plug where the level reads them, the learned state, ports
and beacons. An outcome other than valid ends in Unconfigured (19 R464). -/
def State.startRows (s : State) (level : Nat) (forced : Bool) (i : StartIn) : State :=
  let s1 := if level = 2 then s else (s.readCal i).readPlug i
  if s1.pg.outcome ≠ 0 then
    ((({ s1 with cfg := {} }).record .plugOutcome s1.pg.outcome []).toAcquiring).onPower fun p => { p with state := .unconfigured }
  else
    let s2 := s1.startRole.startBlocks.toAcquiring
    let s3 := s2.loadLearned (decide (s.th.state = .locked ∨ s.th.state = .holdover)) forced
    let s4 := s3.onPower fun p => { p with portsUp := true }
    s4.onUpdate fun u => { u with trialDeadline := if u.trialKind = 0 then none else some (s.now + sec 120) }

/-- A restart (19 R463, R475 to R479): level 0 after Off, 2 warm, 3 cold. A failed copy check turns a warm reset into a cold one with cause
0x09 (R477); a fault reset in a configuration trial reverts it (21 R520); the fifth fault reset within 600 s locks (R479). -/
def State.restart (s : State) (level cause : Nat) (i : StartIn) : State :=
  let bad := decide (level = 2) && !i.copyOk
  let l1 := if bad then 3 else level
  let c1 := if bad then 9 else cause
  let revert := decide (level ≠ 0) && faultCause c1 && decide (s.up.trialKind = 2)
  let l2 := if revert then 3 else l1
  let c2 := if revert then 8 else c1
  let counted := decide (level ≠ 0) && faultCause c1
  let faults := if counted then s.now :: s.pw.faultResets.filter fun t => decide (s.now < t + sec 600) else s.pw.faultResets
  let s0 := if level = 0 then s else if cause = 4 then s.loseStore else s.commitStop
  let s1 := (s0.clearWorking).onPower fun p => { p with
    state := .starting
    bootDone := true
    islandUp := true
    itemsRead := false
    portsUp := false
    armed := false
    startDone := false
    resetLevel := l2
    resetCause := c2
    withdrawCause := if c1 = 3 then s.tw.cause else p.withdrawCause
    faultResets := faults
    resetWait := none
    resetHold := none
    flushFrom := none
    runRequestAt := none
    watchSince := none
    hibSince := none
    coresMasked := false
    visit := false
    recovery := false
    overCurrentRun := 0
    haltedApp := false
    haltedIsland := false
    latches := 0 }
  let s2 := s1.recorderStart
  let s3 := if revert then s2.revertDir.record .reverted 0 [] else s2
  let s4 := s3.bootSelect i
  if s4.pw.recovery then s4.toAcquiring
  else if counted ∧ 5 ≤ faults.length then
    (s4.record .resetLocked c1 []).toAcquiring.onPower fun p => { p with state := .resetLocked }
  else s4.startRows l2 (decide (level ≠ 0) && faultCause c1) i

/-- A start after Off (19 R463, R475; 02 R50): the power-cycle count, time from the learned-state store, the label lost. -/
def State.startAfterOff (s : State) (i : StartIn) : State :=
  let s1 := s.onPower fun p => { p with
    powerCycles := wrapInc p.powerCycles
    p0 := some s.now
    recoveryReleases := 0
    lastWake := 0
    faultResets := []
    holdUpReady := false }
  let s2 := s1.onThyme fun h => { h with reading := s.storedTime * 1000000000, phase := 0, labelled := false, source := 0, offsets := [], state := .acquiring }
  s2.restart 0 1 i

/-- The module is Off (19 R461): working memory is lost; what the stores hold stays. -/
def State.toOff (s : State) : State :=
  let s1 := s.loseStore.clearWorking
  let s2 := { s1 with cfg := {} }
  ((s2.onPlug fun p => { p with running := none }).onThyme fun h => { h with state := .unset, labelled := false }).onPower fun p =>
    { state := .off, feed1 := p.feed1, feed2 := p.feed2, powerCycles := p.powerCycles, opTimeNs := p.opTimeNs, plugPresent := p.plugPresent,
      serviceEnable := p.serviceEnable, holdUpMs := p.holdUpMs, variant := p.variant, shortPresses := p.shortPresses }

end Sys2Proof.Machine
end

