-- ==== Sys2Proof/Machine/TwinOps.lean ====
section
/-! DEFINITION. Sys2Proof/Machine/TwinOps.lean: the operations of a twin pair (14 R356 to R372), and of resets and flushes that may hand
over first (19 R476 to R483). -/

namespace Sys2Proof.Machine

open Sys2Proof

/-! ### Twin-link frames (14 R374, R375) -/

/-- The twin link and X11 work: the island runs, and the module is not in Off or Hibernate (11 R311; 14 R359). -/
def State.twinOn (s : State) : Bool := s.isTwin && s.pw.islandUp && !s.pw.haltedIsland && !decide (s.pw.state = .off ∨ s.pw.state = .hibernate)

/-- Heartbeat number at this instant: E + h × 5 us (14 R359, R375). -/
def State.heartbeatNo (s : State) : Nat := (s.sinceEpoch / 5000) % two32

/-- Own series trip switches are closed for every coil commanded on (14 R375 health bit 3). -/
def State.tripsClosed (s : State) : Bool :=
  s.tw.trips && allK.all fun k => (s.coil k).tripClosed || !(s.coilOn k || (decide (s.tw.role = .follower) && s.tw.partnerCoils.testBit (k - 1)))

/-- The heartbeat payload (14 R375). -/
def State.heartbeatPayload (s : State) (advanced : Bool) : List Nat :=
  enc [fN 4 s.heartbeatNo, fN 2 s.coilMask, fN 2 (maskOf 12 ((allK.filter fun k => decide ((s.coil k).phase = .pullIn)).map fun k => k - 1)),
    fN 2 s.tw.crossHold,
    fN 1 (bitsOf [!s.pw.haltedIsland, advanced, (s.tw.lockHeldSince.isSome || s.leads) && !s.th.failure, s.tripsClosed, s.pw.armed]), fN 1 s.tw.cause, fN 4 s.sweepNo]

/-- A header is taken (14 R374): its CRC is correct and it carries this string's index. -/
def State.hdrOk (s : State) (h : TwHdr) : Bool := h.crcOk && decide (h.string = s.cfg.string.index)

/-- Count a frame discarded, or the gap before one taken, by its type (14 R374); another string index is a mismatch too (14 R372). -/
def State.takeHdr (s : State) (ftype : Nat) (h : TwHdr) : State :=
  if !s.hdrOk h then
    let s1 := s.onTwin fun w => { w with gaps := wrapInc w.gaps }
    if h.crcOk && !s.tw.mismatch then (s1.onTwin fun w => { w with mismatch := true }).record .twinMismatch 0 [] else s1
  else
    let key := 16 + ftype
    let last := s.tw.seqs.get key 0
    let gap := (h.seq + two32 - last % two32) % two32
    s.onTwin fun w => { w with
      gaps := if last = 0 ∨ gap ≤ 1 then w.gaps else (w.gaps + gap - 1) % two32
      seqs := w.seqs.put key 0 h.seq
      highEpoch := max w.highEpoch h.epoch }

/-- The comparison of 14 R372 on a frame taken: protocol version and position by the header, the rest as last heard. -/
def State.compareTwin (s : State) (h : TwHdr) : State :=
  let bad := decide (h.version ≠ 1) || decide (h.position = s.cfg.twin.position) || s.tw.mismatchId
  let s1 := if bad && !s.tw.mismatch then s.record .twinMismatch 0 [h.version, h.position] else s
  s1.onTwin fun w => { w with
    partnerProto := h.version
    mismatch := bad
    role := if bad ∧ w.role = .syncing then .starting else w.role }

/-- A probation begins (21 R520). -/
def State.beginProbation (s : State) : State :=
  if s.up.trialKind = 0 ∨ s.up.probation.isSome then s
  else s.onUpdate fun u => { u with probation := some (u.trialKind, s.now), trialDeadline := none }

/-- The start after an activation is complete (21 R520): probation begins, or, for a twin that syncs, when it becomes ready, within 300 s of
the reset. -/
def State.startProbation (s : State) : State :=
  if s.tw.role = .syncing then s.onUpdate fun u => { u with trialDeadline := u.trialDeadline.map fun t => t + sec 180 } else s.beginProbation

/-- The partner activates its image (21 R522, R523): this twin holds its schedule for it, the deadline void. -/
def State.holdFollow (s : State) : State :=
  s.onUpdate fun u => { u with schedule := u.schedule.map fun x =>
    if x.a0 ≤ s.th.reading ∧ x.kind = s.tw.partnerType then { x with follow := true } else x }

/-! ### Leading (14 R363 to R366) -/

/-- Take the lead: the epoch is one above the highest seen, and is kept as item 0x01 of group 0x0A (14 R363). -/
def State.newEpoch (s : State) : State :=
  let e := wrapInc (max s.tw.epoch s.tw.highEpoch)
  (s.onTwin fun w => { w with epoch := e, highEpoch := e }).writeItem (itemKey 0x0A 1 0) (octetsOf 4 e)

/-- The role leader, with its trip switches closed; each GOOSE dataset goes out anew under the next stNum (14 R363; 17 R440). -/
def State.toLeader (s : State) : State :=
  let stale := fun (_ : Nat) (g : GooseSet) => { g with members := [] }
  ((s.newEpoch.onTwin fun w => { w with role := .leader, ready := false, trips := true, pairUntil := none, leadAt := s.now }).onNet fun n =>
    { n with pubs := n.pubs.mapAll {} stale }).sourcesChanged

/-- The own drivers conduct for the coils commanded on at the partner (14 R358, R364): a coil in pull-in restarts its pull-in for the full
time, and the coils waiting there wait here. -/
def State.driveCoils (s : State) : State :=
  let f := fun (k : Nat) (c : Coil) =>
    if s.tw.partnerPull.testBit (k - 1) then { c with phase := .pullIn, pullAt := s.now, tripClosed := true }
    else if s.tw.partnerCoils.testBit (k - 1) then { c with phase := .hold, currentMa := s.holdMa k, tripClosed := true }
    else if k ∈ s.ct.queue then { c with phase := .waiting }
    else c
  s.onCont fun c => { c with coils := allK.foldl (fun (tb : Table Coil) k => tb.upd k {} (f k)) c.coils }

/-- Counters of the nodes continue 256 above the highest heard; a command in flight keeps its own (04 R112). -/
def State.raiseCounters (s : State) : State :=
  let f := fun (_ : Nat) (x : NodeCtl) => if x.adm = .unadmitted then x else { x with counter := x.counter + 256 }
  s.onRadio fun r => { r with nodes := r.nodes.mapAll {} f, transmit := true }

/-- What a new leader does at once (14 R364; 08 R235; 04 R112), a key roll that is due among it (21 R525). -/
def State.leadNow (s : State) : State :=
  ((s.driveCoils.toLeader.raiseCounters).onLimits fun l => { l with disCount := 0 }).rollStart

/-- TAKEOVER (14 R364): by a ready follower. -/
def State.takeover (s : State) (cause : Nat) : State :=
  ((s.leadNow.onTwin fun w => { w with cause := cause, takeovers := wrapInc w.takeovers, durPending := true, notReadyTakeover := false,
                                         handoverAt := none }).record .takeover 0 [cause])

/-- SAFE_TAKEOVER (14 R365): the coils are held, the string is stopped, limits are zero, the string disconnects, and the plant master role is
not taken up. -/
def State.safeTakeover (s : State) (cause : Nat) : State :=
  let s1 := s.leadNow.onTwin fun w => { w with cause := cause, takeovers := wrapInc w.takeovers, durPending := true, notReadyTakeover := true,
                                                handoverAt := none }
  let s2 := (s1.onLimits fun _ => {}).onMaster fun m => { m with holds := false }
  s2.beginDisconnect.record .takeoverNotReady 0 [cause]

/-- PARTNER_DECLARED_FAILED (14 R361, R363, R366). -/
def State.declareFailed (s : State) (cause : Nat) : State :=
  let s1 := s.onTwin fun w => { w with partnerFailed := true, partnerReady := false }
  match s.tw.role with
  | .follower => if s.tw.ready then s1.takeover cause else s1.safeTakeover cause
  | .syncing => s1.safeTakeover cause
  | .leader => s1.onTwin fun w => { w with cause := cause }
  | _ => s1

/-! ### Withdrawal and handover (14 R362, R367) -/

/-- An immediate withdrawal (14 R362 steps 1 to 3): the withdraw frame goes out and the discretes and transmitters stop. -/
def State.withdraw (s : State) (cause : Nat) : State :=
  if s.tw.role = .withdrawn then s
  else
    let s1 := (s.record .withdrawal 0 [cause]).onTwin fun w => { w with
      role := .withdrawn, ready := false, cause := cause, withdrawAt := some s.now, handoverAt := none, pairUntil := none }
    (s1.twinSend .withdrawFrame 7 [cause]).onMaster fun m => { m with holds := false }

/-- A handover is possible (14 R367): the follower is ready, and no contactor step waits for confirmation. -/
def State.handoverPossible (s : State) : Bool :=
  s.isTwin && s.leads && decide (s.tw.partner = .follower) && s.tw.partnerReady && !s.tw.partnerFailed && !(s.path 0).lost &&
    s.tw.handoverAt.isNone && !(allK.any fun k => s.coilOn k && !(s.coil k).confirmed)

/-- The first converter-cycle start at least the handover lead from now, in plant time since the epoch, ns (14 R367). -/
def State.handoverInstant (s : State) : Nat :=
  let x := s.sinceEpoch + 1000 * s.cfg.twin.leadUs
  (x + 99999) / 100000 * 100000

/-- HANDOVER_REQUEST (14 R367): the handover frame names T_h. -/
def State.requestHandover (s : State) (cause : Nat) : State :=
  let x := s.handoverInstant
  let s1 := s.onTwin fun w => { w with
    handoverAt := some (s.now + (x - s.sinceEpoch))
    handoverAck := false
    handoverCause := cause
    f0 := s.now }
  s1.twinSend .handoverFrame 8 (enc [fN 4 (x / 1000000 % two32), fN 1 (x / 100000 % 10), fN 1 0])

/-! ### Resets (19 R475 to R478) -/

/-- The withdrawal cause of a reset cause (14 R362). -/
def withdrawCauseOf (cause : Nat) : Nat := match cause with | 6 => 2 | 5 => 3 | 7 | 8 => 7 | _ => 5

/-- Some coil of K1 to K11 is on. -/
def State.mainOn (s : State) : Bool := mainK.any s.coilOn

/-- Every sequence in hand ends and no coil-on of it is issued (19 R476). -/
def State.endSequences (s : State) : State :=
  s.onCont fun c => { c with due := [], joinStep := 0, leaveAt := none, autoArmed := false }

/-- A reset in preparation (19 R476): the string is held, K12 and the safe outputs go off, and K1 to K11 wait for the current. With none of
K1 to K11 on the restart follows at once (log 35). -/
def State.prepareReset (s : State) (level cause : Nat) (i : StartIn) : State :=
  if s.mainOn then
    ((s.endSequences.coilOff 12).interruptTests).onPower fun p => { p with
      resetHold := some (level, cause, s.now), resetIn := i, resetSweep := (s.sweepNo + 1) % two32, resetWait := none }
  else (s.coilOff 12).restart level cause i

/-- A second request while one is pending: a cold reset supersedes a warm one, any other is discarded (19 R478). -/
def State.supersede (s : State) (level cause : Nat) (i : StartIn) : State :=
  s.onPower fun p =>
    let up := fun (x : Nat × Nat × Nat) => if level = 3 ∧ x.1 = 2 then (3, cause, x.2.2) else x
    { p with
      resetHold := p.resetHold.map up
      resetWait := p.resetWait.map up
      resetNext := p.resetNext.map fun x => if level = 3 ∧ x.1 = 2 then (3, cause) else x
      resetIn := if level = 3 then i else p.resetIn }

/-- A reset of a twin that stands beside a partner (14 R362, R367; 19 R476, R478). -/
def State.twinReset (s : State) (level cause : Nat) (i : StartIn) : State :=
  let wc := withdrawCauseOf cause
  let s1 := s.onPower fun p => { p with resetNext := some (level, cause), resetIn := i }
  if !s.leads then s1.withdraw wc
  else if decide (2 ≤ wc ∧ wc ≤ 4) then s1.withdraw wc
  else if s.handoverPossible then s1.requestHandover wc
  else if cause = 2 ∧ !s.tw.partnerReady then
    (s.onPower fun p => { p with resetWait := some (level, cause, s.now), resetIn := i }).record .resetDeferred 0 [level, cause]
  else s1.withdraw wc

/-- The partner is there at all: heard on the link or on a discrete, and not declared failed. -/
def State.partnerThere (s : State) : Bool :=
  s.isTwin && !s.tw.partnerFailed && !decide (s.tw.partner = .absent ∨ s.tw.partner = .withdrawn) && (List.range 3).any fun p => !(s.path p).lost

/-- A warm (2) or cold (3) reset is requested (19 R461, R475 to R478); the recovery ROM leaves only through its own (21 R527). -/
def State.requestReset (s : State) (level cause : Nat) (i : StartIn) : State :=
  match s.pw.state with
  | .off | .flushing | .hibernate => s
  | .resetLocked => if cause = 0x0C then s.restart level cause i else s.record .resetRefused 0 [level, cause]
  | .starting | .unconfigured => if s.pw.recovery && !decide (cause = 7) then s else (s.coilsOff allK).restart level cause i
  | .watch | .run | .enteringHib =>
    if s.pw.haltedIsland then (s.coilsOff allK).restart level cause i
    else if s.pw.resetHold.isSome || s.pw.resetWait.isSome || s.pw.resetNext.isSome then s.supersede level cause i
    else if s.partnerThere then s.twinReset level cause i
    else s.prepareReset level cause i

/-- The sum of the branch currents has stayed below the break current for one full sweep since the preparation began (19 R476, 11 R289). -/
def State.resetLow (s : State) : Bool := notBefore s.acq.sweep s.pw.resetSweep && decide (s.sumPeak < s.cfg.timed.breakMa)

/-- The break wait of a reset, capped at 180 ms in a flush (19 R476, R482). -/
def State.resetWaitMs (s : State) (level : Nat) : Nat := if level = 0 then min 180 s.cfg.timed.breakMs else s.cfg.timed.breakMs

/-- Coil-off to K1 to K11 ends the preparation, and the restart follows; in a flush K1 to K12 go off and the flush runs on. -/
def State.resetOpen (s : State) (level cause : Nat) : State :=
  let s1 := s.openString
  if level = 0 then s1.coilOff 12 else s1.restart level cause s.pw.resetIn

/-- A reset in preparation at a sweep end (19 R476). -/
def State.resetStep (s : State) : State :=
  match s.pw.resetHold with
  | some (l, c, _) => if s.mainOn && s.resetLow then s.resetOpen l c else s
  | none => s

/-- The break wait of a reset in preparation has expired (19 R476). -/
def State.resetExpiry (s : State) : State :=
  match s.pw.resetHold with
  | some (l, c, t) => if s.mainOn && decide (t + ms (s.resetWaitMs l) ≤ s.now) then s.resetOpen l c else s
  | none => s

/-- A deferred reset proceeds once the partner is ready (19 R478). -/
def State.resumeReset (s : State) : State :=
  match s.pw.resetWait with
  | some (l, c, _) =>
    if s.handoverPossible then
      (s.onPower fun p => { p with resetWait := none, resetNext := some (l, c) }).requestHandover (withdrawCauseOf c)
    else s
  | none => s

/-- The first waiting node blocks, at most `n`; the items still waiting, those of 0x03 to 0x05 among them, are counted (07 R212). -/
def State.flushBlocks (s : State) (n : Nat) : State :=
  let ws := (s.cfg.nodes.map fun e => e.index).filter fun k => (s.node k).waiting
  let s1 := (ws.take n).foldl State.writeBlock s
  let items := (s.cfg.nodes.map fun e => (bitsIn 3 (s.node e.index).waitItems).length).foldl (· + ·) 0
  let left := (ws.drop n).length + items
  if left = 0 then s1 else s1.record .itemsUnwritten 0 (octetsOf 2 left)

/-- BOTH_FEEDS_LOST (19 R482, R483): the flush begins. A twin with a ready partner hands over, otherwise the string is held; the valve drives
stop; snapshot and up to 8 node blocks are written unless the items were never read; the store is committed with "power lost". -/
def State.beginFlush (s : State) : State :=
  let from_ := s.pw.state
  let locked := decide (from_ = .resetLocked)
  let s1 := s.onPower fun p => { p with state := .flushing, flushFrom := some from_, flushAt := s.now, runRequestAt := none,
                                        resetWait := none, resetNext := none, resetHold := none }
  let s2 := if locked then s1
    else if s1.handoverPossible then s1.requestHandover 8
    else s1.endSequences.onPower fun p => { p with resetHold := some (0, 0x0A, s.now), resetSweep := (s.sweepNo + 1) % two32 }
  let stop := fun (_ : Nat) (v : Valve) => { v with energy := 0 }
  let s3 := s2.onTherm fun g => { g with valves := g.valves.mapAll {} stop }
  let s4 := if s.pw.itemsRead && !locked then s3.writeSnapshot.flushBlocks 8 else s3
  (s4.record .powerLost 0 []).commitStop

end Sys2Proof.Machine
end

