-- ==== Sys2Proof/Machine/Twin.lean ====
section
/-! DEFINITION. Sys2Proof/Machine/Twin.lean: the commands of the twin pair (chapter 14; 11 R312; 13 R347). -/

namespace Sys2Proof.Machine

open Sys2Proof

/-! ### Heartbeats (14 R359 to R363) -/

/-- HEARTBEAT_INSTANT (14 R357, R359, R362, R375, R377): the heartbeat frame and both discretes, the refresh of the trip switches, and the
liveness check; a withdrawn twin has stopped its discretes. -/
def heartbeatInstant (s : State) : State :=
  if !s.twinOn then s
  else s.turn 0x18 5000 fun s =>
    let live := if s.pw.haltedApp then s.tw.liveness else wrapInc s.tw.liveness
    let adv := !decide (live = s.tw.liveSeen)
    let run := if adv then 0 else min 3 (s.tw.stallRun + 1)
    let s1 := s.onTwin fun w => { w with
      liveness := live
      liveSeen := live
      stallRun := run
      hbNumber := s.heartbeatNo
      discretes := if w.role = .withdrawn then w.discretes else !w.discretes
      lastRefresh := s.now
      lastTakeover := if w.durPending ∧ w.role = .leader then min 65535 ((s.now - w.f0) / 10) else w.lastTakeover
      durPending := w.durPending && !decide (w.role = .leader) }
    let s2 := s1.twinSend .heartbeat 1 (s1.heartbeatPayload adv)
    if run = 3 ∧ s2.tw.role ≠ .withdrawn then s2.withdraw 4 else s2

/-- HEARTBEAT_INSTANT (14 R359). -/
def execHeartbeatInstant (t : Nat) (s : State) : Host.Outcome State Fault Refusal := s.run t heartbeatInstant

/-- A heartbeat counts on its path (14 R360): a lost path is restored after 200 in a row. -/
def State.pathHeard (s : State) (p : Nat) : State :=
  (s.turnTaken (0x40 + p)).onTwin fun w => { w with paths := w.paths.upd p { } fun x =>
    { x with missed := 0, received := min 200 (x.received + 1), lost := x.lost && decide (x.received + 1 < 200) } }

/-- LEADERSHIP_CONFLICT (14 R370): two leaders meet; the higher epoch keeps the lead, position 0 at equal epochs. -/
def State.meetLeader (s : State) (epoch : Nat) : State :=
  let s1 := if s.tw.partner = .leader then s else s.record .conflict 0 (octetsOf 4 epoch)
  if s.tw.epoch < epoch ∨ (s.tw.epoch = epoch ∧ s.cfg.twin.position = 1) then
    (s1.onTwin fun w => { w with role := .syncing, ready := false, cause := 9, conflictLost := true, itemsSynced := false, bulkSynced := false
                                 handoverAt := none }).onMaster fun m => { m with holds := false }
  else s1

/-- What a heartbeat's header says of the partner (14 R363, R374, R375). -/
def State.partnerHeard (s : State) (hb : HbIn) : State :=
  let r : Role := match hb.hdr.role with
    | 1 => .follower
    | 2 => .leader
    | 3 => .withdrawn
    | _ => if s.leads then .syncing else .starting
  let s0 := if s.leads && decide (r = .leader) then s.meetLeader hb.hdr.epoch else s
  let rising := hb.coils - (hb.coils &&& s.tw.partnerCoils)
  let s1 := s0.onTwin fun w => { w with
    partner := r
    partnerReady := hb.hdr.ready
    partnerFailed := w.partnerFailed && ((s.path 0).lost || decide (r = .withdrawn))
    partnerCoils := hb.coils
    partnerPull := hb.pull
    partnerXh := hb.xh
    partnerHealth := hb.health
    f0 := if w.durPending ∨ w.handoverAt.isSome then w.f0 else s.now }
  let s1 := if hb.cause = 7 ∧ r = .withdrawn then s1.holdFollow else s1
  if s1.tw.role = .follower then
    s1.onCont fun c => { c with coils := (bitsIn 12 rising).foldl (fun (tb : Table Coil) b => tb.upd (b + 1) {} fun x => { x with tripClosed := true }) c.coils }
  else s1

/-- Roles follow the partner heard (14 R363): a starting twin syncs to a leader, and of two starting twins position 0 leads. -/
def State.roleHeard (s : State) : State :=
  if s.tw.mismatch || !s.pw.portsUp then s
  else match s.tw.role, s.tw.partner with
    | .starting, .leader => s.onTwin fun w => { w with role := .syncing, pairUntil := none, itemsSynced := false, bulkSynced := false }
    | .starting, .starting => if s.cfg.twin.position = 0 then s.toLeader else s
    | _, _ => s

/-- HEARTBEAT_RECEIVED (14 R359, R360, R363, R370, R375; 22 R544 monitor 0xB): on the link with its frame, on a discrete by its edge. -/
def heartbeatReceived (path : Nat) (hb : HbIn) (late : Nat) (s : State) : State :=
  if !s.twinOn then s
  else if path = 0 then
    let s1 := s.takeHdr 1 hb.hdr
    if s.hdrOk hb.hdr then
      let ready0 := decide (s.tw.role = .follower)
      let s2 := (s1.pathHeard 0).sample 11 late
      let s3 := (s2.compareTwin hb.hdr).partnerHeard hb
      let s4 := s3.roleHeard.onTwin fun w => { w with ready := if ready0 ∧ w.role = .follower ∧ !(s2.path 0).lost then true else w.ready }
      s4.resumeReset
    else s1
  else (s.pathHeard path).sample 11 late

/-- HEARTBEAT_RECEIVED (14 R375). -/
def execHeartbeatReceived (t : Nat) (path : Fin 3) (hb : HbIn) (late : Nat) (s : State) : Host.Outcome State Fault Refusal :=
  s.run t (heartbeatReceived path.val hb late)

/-- A path is newly lost (14 R361): the partner is declared failed where the link and a discrete are lost, else the loss is recorded. A
follower without the link is not ready and takes its time from discrete A. -/
def State.pathLost (s : State) (p : Nat) : State :=
  let gone := (s.path 0).lost && ((s.path 1).lost || (s.path 2).lost)
  let s1 := if p = 0 then
      (s.onTwin fun w => { w with ready := false }).onSafety fun f => { f with partnerDemand := [] }
    else s
  if gone && !s.tw.partnerFailed then (if p = 0 ∧ s.tw.role = .follower ∧ s.tw.ready then s.declareFailed 1 else s1.declareFailed 1)
  else if gone then s1
  else if p = 0 then s1.record .twinLinkLost 0 [] else s1.record .discreteLost p []

/-- HEARTBEAT_MISSED (14 R360, R361): 1 us after a heartbeat instant for which none has come on the path. -/
def heartbeatMissed (p : Nat) (s : State) : State :=
  if !s.twinOn || decide (s.sinceEpoch % 5000 < 1000) then s
  else s.turn (0x40 + p) 5000 fun s =>
    let was := (s.path p).lost
    let s1 := s.onTwin fun w => { w with paths := w.paths.upd p {} fun x =>
      { x with received := 0, missed := min 255 (x.missed + 1), lost := x.lost || decide (3 ≤ x.missed + 1) } }
    if !was && (s1.path p).lost then s1.pathLost p else s1

/-- HEARTBEAT_MISSED (14 R360). -/
def execHeartbeatMissed (t : Nat) (path : Fin 3) (s : State) : Host.Outcome State Fault Refusal := s.run t (heartbeatMissed path.val)

/-- WITHDRAW_FRAME_RECEIVED (14 R361). -/
def execWithdrawFrameReceived (t : Nat) (hdr : TwHdr) (cause : Nat) (s : State) : Host.Outcome State Fault Refusal :=
  s.run t fun s =>
    if !s.twinOn then s
    else
      let s1 := s.takeHdr 7 hdr
      if s.hdrOk hdr then (s1.onTwin fun w => { w with partner := .withdrawn }).declareFailed cause else s1

/-- TRIP_SWITCH_REFRESH_EXPIRY (14 R357): the series trip switches open between 8 us and 12 us after the last refresh. -/
def execTripSwitchRefreshExpiry (t : Nat) (s : State) : Host.Outcome State Fault Refusal :=
  s.run t fun s =>
    if s.isTwin && s.tw.trips && decide (s.tw.lastRefresh + 8000 ≤ s.now) then
      let open_ := fun (_ : Nat) (c : Coil) => { c with tripClosed := false }
      (s.onTwin fun w => { w with trips := false }).onCont fun c => { c with coils := c.coils.mapAll {} open_ }
    else s

/-! ### Withdrawal and handover (14 R362, R367) -/

/-- WITHDRAW_TRIP_HOLD_EXPIRY (14 R362 steps 3 to 5): once the partner's heartbeat shows the cross-hold switches closed, or after 100 us, the
trip switches and drivers go off and the twin resets, or its flush runs on. -/
def withdrawExpiry (i : StartIn) (s : State) : State :=
  if !decide (s.tw.role = .withdrawn) then s
  else match s.tw.withdrawAt with
  | none => s
  | some w0 =>
    let covered := decide (s.coilMask &&& s.tw.partnerXh = s.coilMask)
    if covered || decide (w0 + 100000 ≤ s.now) then
      let s1 := (s.coilsOff allK).onTwin fun w => { w with trips := false, withdrawAt := none }
      if s.pw.state = .flushing then s1
      else match s.pw.resetNext with
        | some (l, c) => (s1.onPower fun p => { p with resetNext := none }).restart l c i
        | none => s1.restart 2 3 i
    else s

/-- WITHDRAW_TRIP_HOLD_EXPIRY (14 R362). -/
def execWithdrawTripHoldExpiry (t : Nat) (i : StartIn) (s : State) : Host.Outcome State Fault Refusal := s.run t (withdrawExpiry i)

/-- HAND_OVER (17 R436 command 0x0A01; 14 R367): a follower refuses with reason 1, absent conditions with reason 13. -/
def execHandOver (t : Nat) (m : Maint) (s : State) : Host.Outcome State Fault Refusal :=
  s.run t fun s => s.maint m 0x0A01 fun s =>
    if !s.leads then refuse 1 s
    else if s.handoverPossible then done (s.requestHandover 6)
    else refuse 13 s

/-- HANDOVER_REQUEST (14 R367). -/
def execHandoverRequest (t : Nat) (cause : Nat) (s : State) : Host.Outcome State Fault Refusal :=
  s.run t fun s => if 5 ≤ cause ∧ cause ≤ 8 ∧ s.handoverPossible then s.requestHandover cause else s

/-- The local instant of a sweep number and converter cycle ahead (14 R375). -/
def State.instantOf (s : State) (sweep cycle : Nat) : Nat :=
  let x := s.sinceEpoch
  let ahead := (sweep + two32 - s.sweepNo) % two32
  s.now + (ahead * 1000000 + cycle * 100000 - x % 1000000)

/-- HANDOVER_FRAME_RECEIVED (14 R367): the ready follower acknowledges the named instant; the leader takes the acknowledgement. -/
def handoverFrame (hdr : TwHdr) (ack : Bool) (sweep cycle : Nat) (s : State) : State :=
  if !s.twinOn then s
  else
    let s1 := s.takeHdr 8 hdr
    if !s.hdrOk hdr then s1
    else if ack then (if s.leads ∧ s.tw.handoverAt.isSome then s1.onTwin fun w => { w with handoverAck := true } else s1)
    else if s.tw.role = .follower ∧ s.tw.ready then
      let s2 := s1.onTwin fun w => { w with handoverAt := some (s.instantOf sweep cycle), handoverAck := true, f0 := s.now }
      s2.twinSend .handoverFrame 8 (enc [fN 4 sweep, fN 1 cycle, fN 1 1])
    else s1

/-- HANDOVER_FRAME_RECEIVED (14 R367). -/
def execHandoverFrameReceived (t : Nat) (hdr : TwHdr) (ack : Bool) (sweep cycle : Nat) (s : State) : Host.Outcome State Fault Refusal :=
  s.run t (handoverFrame hdr ack sweep cycle)

/-- The leader's side of T_h (14 R367): acknowledged, it stops its drivers and becomes follower, or withdraws for its reset or flush;
unacknowledged, 14 R362 proceeds. -/
def State.leaderHandsOver (s : State) : State :=
  let c := s.tw.handoverCause
  let s0 := s.onTwin fun w => { w with handoverAt := none }
  if s.tw.handoverAck then
    let mask := s.coilMask
    let idle := fun (_ : Nat) (x : Coil) => { x with phase := .off, currentMa := 0 }
    let s1 := (s0.record .handover 0 [c]).onCont fun k => { k with coils := k.coils.mapAll {} idle }
    s1.onTwin fun w => { w with
      partnerCoils := mask, handovers := wrapInc w.handovers, cause := c, partner := .leader, partnerReady := false
      role := if c = 6 then .follower else .withdrawn
      ready := decide (c = 6)
      withdrawAt := if c = 6 then none else some s.now }
  else if c = 8 then s0.endSequences.onPower fun p => { p with resetHold := some (0, 0x0A, s.now), resetSweep := (s.sweepNo + 1) % two32 }
  else s0.withdraw c

/-- HANDOVER_INSTANT (14 R367): the follower leads from T_h on, under a new epoch, and drives the coils; the leader stops. -/
def handoverInstant (s : State) : State :=
  if !s.due s.tw.handoverAt then s
  else match s.tw.role with
    | .leader => s.leaderHandsOver
    | .follower =>
      let s0 := (s.driveCoils.toLeader).onRadio fun r => { r with transmit := true }
      let s1 := s0.onTwin fun w => { w with
        handoverAt := none, handovers := wrapInc w.handovers, durPending := true, partner := .follower, partnerReady := false }
      s1.record .handover 0 [s1.tw.cause]
    | _ => s.onTwin fun w => { w with handoverAt := none }

/-- HANDOVER_INSTANT (14 R367). -/
def execHandoverInstant (t : Nat) (s : State) : Host.Outcome State Fault Refusal := s.run t handoverInstant

/-! ### Starting, syncing, rejoining (14 R363, R371, R372) -/

/-- PAIRING_WAIT_EXPIRY (14 R363): with the link lost, whether the partner's discretes toggle decides; the command names the end of the wait that expires. -/
def pairingExpiry (end_ : Nat) (s : State) : State :=
  let toggling := !(s.path 1).lost || !(s.path 2).lost
  if decide (s.tw.role = .starting) && decide (s.tw.pairUntil = some end_) && s.due s.tw.pairUntil && (s.path 0).lost && !s.tw.mismatch then
    let s1 := s.onTwin fun w => { w with pairUntil := none }
    if !toggling then s1.toLeader
    else
      let s2 := s1.record .twinLinkLost 0 []
      if s.cfg.twin.position = 0 then s2.toLeader else s2
  else s

/-- PAIRING_WAIT_EXPIRY (14 R363). -/
def execPairingWaitExpiry (t : Nat) (end_ : Nat) (s : State) : Host.Outcome State Fault Refusal := s.run t (pairingExpiry end_)

/-- The own accepted feedback agrees with the leader's (14 R371). -/
def State.feedbackAgrees (s : State) : Bool :=
  mainK.all fun k => !s.usedK k || decide ((s.coil k).accepted = some (s.tw.partnerMirror.testBit (k - 1)))

/-- Sync is complete (14 R371). -/
def State.syncReady (s : State) : Bool :=
  decide (s.tw.role = .syncing) && !s.tw.mismatch && s.tw.itemsSynced && s.tw.bulkSynced && s.heldFor s.tw.lockHeldSince (sec s.cfg.twin.holdS) &&
    s.feedbackAgrees && s.pw.armed && (List.range 3).all fun p => !(s.path p).lost

/-- SYNC_COMPLETE (14 R371, R363): the own trip switches close and ready is set. -/
def execSyncComplete (t : Nat) (s : State) : Host.Outcome State Fault Refusal :=
  s.run t fun s =>
    if s.syncReady then
      let close := fun (k : Nat) (c : Coil) => { c with tripClosed := c.tripClosed || s.tw.partnerCoils.testBit (k - 1) }
      ((s.onTwin fun w => { w with role := .follower, ready := true, trips := true }).onCont fun c =>
        { c with coils := allK.foldl (fun (tb : Table Coil) k => tb.upd k {} (close k)) c.coils }).beginProbation
    else s

/-- A learned-state item of the leader (07 R219): written with its sequence number and write time to the copy that is not the newer one. -/
def State.mirrorItem (s : State) (key seq time : Nat) (payload : List Nat) : State :=
  s.onLearned fun l => { l with items := l.items.upd key {} fun i =>
    let c : StoreCopy := { seq := seq, time := time, payload := payload, valid := true, blank := false }
    if i.newerIsA then { i with b := c } else { i with a := c } }

/-- The contactor state of the leader (12 R333): sequences and timers are shadowed; this twin's own feedback, drivers and trip switches stay
its own. -/
def State.shadowCont (s : State) (c : Cont) : State :=
  let own := fun (k : Nat) => { s.coil k with
    requestedAt := (c.coils.get k {}).requestedAt
    commandAt := (c.coils.get k {}).commandAt
    supplyWait := (c.coils.get k {}).supplyWait
    confirmed := (c.coils.get k {}).confirmed }
  (s.onCont fun me => { c with
    coils := allK.foldl (fun (tb : Table Coil) k => tb.put k {} (own k)) me.coils
    fbChecked := me.fbChecked }).onTwin fun w => { w with
      partnerMirror := maskOf 12 ((allK.filter fun k => decide ((c.coils.get k {}).accepted = some true)).map fun k => k - 1) }

/-- A node entry in the shadow (03 R96; 04 R113): admission, keys, routes, sets and work are the leader's; what this module received from the node
itself stays its own; of the counters the greater one holds. -/
def NodeCtl.shadowed (own lead : NodeCtl) : NodeCtl :=
  { lead with
    counter := if own.adm = .unadmitted ∨ own.nonce ≠ lead.nonce then lead.counter else max own.counter lead.counter
    authFails := own.authFails, silence := own.silence, heardIn := own.heardIn, lostRun := own.lostRun, quality := own.quality
    qualityMax := own.qualityMax, degraded := own.degraded, directHist := own.directHist, directLost := own.directLost, directSeen := own.directSeen
    relayLost := own.relayLost, relaySeen := own.relaySeen, reportPower := own.reportPower, statusBits := own.statusBits
    sweepStatus := own.sweepStatus, alarms := own.alarms, seqActed := own.seqActed, planId := own.planId, toneFrags := own.toneFrags
    toneBlock := own.toneBlock, waiting := own.waiting, waitItems := own.waitItems, tapAt := own.tapAt, blockIdent := own.blockIdent
    marginal := own.marginal }

/-- The state a twin-link frame carries (14 R371, R374; 08 R235; 09 R259; 10 R284; 15 R404). -/
def State.shadowView (s : State) (v : TwinView) : State :=
  let s1 := v.cont.elim s s.shadowCont
  let s2 := s1.onDispatch fun d => v.di.getD d
  let s3 := s2.onMaster fun m => v.ma.getD m
  let s4 := s3.onBasil fun b => v.ba.getD b
  let s5 := s4.onTherm fun g =>
    let other := fun (tb : Table Valve) (x : Nat) => if s.cfg.valves.list.getD x {} |>.twin |> fun w => decide (w = s.cfg.twin.position) then tb else
      tb.put x {} ((v.valves.getD g.valves).get x {})
    { g with
      valves := [0, 1].foldl other g.valves
      leaderU := v.loopU.getD g.leaderU
      chans := v.locals.foldl (fun (tb : Table TempChan) x => tb.upd x.1 {} fun y => { y with acc := y.acc ++ [x.2] }) g.chans }
  let s6 := s5.onRadio fun r => { r with nodes := (v.nodes.map fun l => l.mapAll {} fun n x => (r.nodes.get n {}).shadowed x).getD r.nodes, keyEpoch := v.keyEpoch.getD r.keyEpoch }
  let s6 := s6.onSage fun g => { g with plans := (v.plans.map Prod.fst).getD g.plans, lastPlanAt := (v.plans.map Prod.snd).getD g.lastPlanAt }
  let s7 := s6.onCharge fun h => { h with cells := v.cells.getD h.cells }
  let s8 := s7.onNet fun n => { n with pubs := v.pubs.getD n.pubs }
  match v.can with
  | none => s8
  | some k => s8.onCan fun c => { c with chans := c.chans.mapAll {} fun i x => { x with tx := (k.chans.get i {}).tx } }

/-- The partner's energy slots of its last superframe join this module's (11 R312). -/
def State.partnerSlots (s : State) (f : IslandIn) : State :=
  (List.range 4).foldl (fun s c =>
    let ns := (f.energy.filter fun x => decide (x / 4 = c)).map fun x => 4 * (s.superframeOf c + two32 - 1) % (4 * two32) + x % 4
    if ns.isEmpty then s else (s.onChan c fun x => { x with energyNums := (ns ++ x.energyNums).take 8 }).energyHold c) s

/-- ISLAND_FRAME (11 R312; 13 R347): the partner's reception, inputs and decisions of its last superframe; a demand of the partner on an
emergency stop or external trip acts here as its own does. -/
def islandFrame (f : IslandIn) (s : State) : State :=
  if !s.twinOn then s
  else
    let s1 := s.takeHdr 2 f.hdr
    if !s.hdrOk f.hdr then s1
    else
      let fresh := f.demand.filter fun i => !decide (i ∈ s.sf.partnerDemand)
      let s2 := (s1.onProt fun p => { p with partnerHeard := f.heard, partnerEnergy := f.energy, partnerAt := some s.now, partnerFns := f.decisions }).partnerSlots f
      let s3 := s2.onSafety fun g => { g with partnerDemand := f.demand }
      let s4 := if fresh.isEmpty then s3 else s3.interruptTests
      let s5 := (fresh.filter fun i => decide (i ∈ s.inputsOf 1 ++ s.inputsOf 2)).foldl (fun s i => s.decideFn 0x0B strGroup i 1) s4
      s5.evaluateInputs

/-- ISLAND_FRAME (11 R312). -/
def execIslandFrame (t : Nat) (f : IslandIn) (s : State) : Host.Outcome State Fault Refusal := s.run t (islandFrame f)

/-- ISLAND_FAULT (14 R362; 19 R475, R476): a twin withdraws at once with cause 0x03, or its island halts and falls silent; a single module
resets with cause 0x05, its coils dropping where the island halted. -/
def islandFault (halted : Bool) (i : StartIn) (s : State) : State :=
  if s.isTwin && decide (s.pw.state = .watch ∨ s.pw.state = .run ∨ s.pw.state = .enteringHib) then
    if halted then
      (s.onPower fun p => { p with haltedIsland := true }).onTwin fun w => { w with role := .withdrawn, ready := false, cause := 3, handoverAt := none }
    else if s.partnerThere then s.withdraw 3
    else s.requestReset 2 5 i
  else if halted then ((s.coilsOff allK).onPower fun p => { p with haltedIsland := true }).requestReset 2 5 i
  else s.requestReset 2 5 i

/-- ISLAND_FAULT (14 R362). -/
def execIslandFault (t : Nat) (halted : Bool) (i : StartIn) (s : State) : Host.Outcome State Fault Refusal := s.run t (islandFault halted i)

/-- THYME_SUPERVISION_WINDOW (02 R57; 11 R312; 14 R362; 19 R475): two consecutive windows beyond 300 counts declare a Thyme failure; a twin
withdraws with cause 0x02 and moves no contactor, a single module takes function 0x0A and a warm reset. -/
def supervisionWindow (count : Nat) (i : StartIn) (s : State) : State :=
  let bad := decide (300 < ((count : Int) - 1000000).natAbs)
  let n := if bad then min 2 (s.th.badWindows + 1) else 0
  let s1 := s.onThyme fun h => { h with badWindows := n }
  if n < 2 ∨ s.th.failure then s1
  else
    let s2 := (s1.onThyme fun h => { h with failure := true }).record .thymeFailure 0 (octetsOf 4 count)
    if s.partnerThere ∧ (s.pw.state = .watch ∨ s.pw.state = .run ∨ s.pw.state = .enteringHib) then s2.withdraw 2
    else (s2.decideFn 0x0A strGroup 0 count).requestReset 2 6 i

/-- THYME_SUPERVISION_WINDOW (02 R57). -/
def execThymeSupervisionWindow (t : Nat) (count : Nat) (i : StartIn) (s : State) : Host.Outcome State Fault Refusal :=
  s.run t (supervisionWindow count i)

end Sys2Proof.Machine
end

