-- ==== Sys2Proof/Machine/Power.lean ====
section
/-! DEFINITION. Sys2Proof/Machine/Power.lean: starts, resets, power states, the pushbutton, feeds and the hold-up store (chapter 19), and the
break wait of 11 R289. -/

namespace Sys2Proof.Machine

open Sys2Proof

/-! ### Feeds and flush (19 R461, R462, R482 to R484) -/

/-- Set the presence of a feed: 0 is feed 1, 1 is feed 2. -/
def State.setFeed (s : State) (k : Nat) (v : Bool) : State :=
  s.onPower fun p => if k = 0 then { p with feed1 := v } else { p with feed2 := v }

/-- Some feed is present. -/
def State.anyFeed (s : State) : Bool := s.pw.feed1 || s.pw.feed2

/-- A wake source is enabled (19 R470): sources 1 and 4 to 7 by record 0x0101, the CAN channels by their wake mode, source 7 in a twin pair. -/
def State.wakeEnabled (s : State) (src : Nat) : Bool :=
  match src with
  | 2 => !decide ((s.canCfg 0).wake = 0)
  | 3 => !decide ((s.canCfg 1).wake = 0)
  | 7 => s.isTwin && decide (7 ∈ s.cfg.power.wakeEnables)
  | n => decide (n ∈ s.cfg.power.wakeEnables)

/-- A wake source acts (19 R471): in Hibernate and during its entry an enabled one sets its latch; before the cores have masked their
interrupts it aborts the entry. -/
def State.wakeSource (s : State) (src : Nat) : State :=
  if !s.wakeEnabled src || !decide (s.pw.state = .hibernate ∨ s.pw.state = .enteringHib) then s
  else
    let s1 := s.setWake src
    if decide (s.pw.state = .enteringHib) && !s.pw.coresMasked then
      (s1.onPower fun p => { p with state := .watch, lastWake := src, latches := 0, hibSince := none, watchSince := none, visit := false }).onCan
        fun c => { c with sleepAt := none }
    else s1

/-- FEED_PRESENT (19 R461 to R463, R470, R484): in Off it starts the module; in Hibernate with both feeds lost it is wake source 6. -/
def feedPresent (k : Nat) (i : StartIn) (s : State) : State :=
  let none_ := !s.anyFeed
  let s1 := s.setFeed k true
  if s.pw.state = .off then s1.startAfterOff i
  else if s.pw.state = .hibernate && none_ then s1.wakeSource 6 else s1

/-- FEED_PRESENT (19 R462). -/
def execFeedPresent (t : Nat) (feed : Fin 2) (i : StartIn) (s : State) : Host.Outcome State Fault Refusal := s.run t (feedPresent feed.val i)

/-- BOTH_FEEDS_LOST (19 R461, R482). -/
def bothFeedsLost (s : State) : State :=
  let s1 := [0, 1].foldl (fun s k =>
    let was := if k = 0 then s.pw.feed1 else s.pw.feed2
    let s' := s.setFeed k false
    if was && s.powered then s'.record .feedLost (k + 1) [] else s') s
  match s.pw.state with
  | .starting | .unconfigured | .resetLocked | .watch | .run | .enteringHib => s1.beginFlush
  | .off | .flushing | .hibernate => s1

/-- FEED_LOST (19 R462): recorded with the feed, and nothing else changes while the other feed is present; the loss of the second is F0. -/
def execFeedLost (t : Nat) (feed : Fin 2) (s : State) : Host.Outcome State Fault Refusal :=
  s.run t fun s =>
    let was := if feed.val = 0 then s.pw.feed1 else s.pw.feed2
    let s1 := s.setFeed feed.val false
    if was && !s1.anyFeed then bothFeedsLost s
    else if was && s.powered then s1.record .feedLost (feed.val + 1) [] else s1

/-- BOTH_FEEDS_LOST (19 R482). -/
def execBothFeedsLost (t : Nat) (s : State) : Host.Outcome State Fault Refusal := s.run t bothFeedsLost

/-- FLUSH_END (19 R461, R482, R483): 250 ms after F0. -/
def flushEnd (i : StartIn) (s : State) : State :=
  if s.pw.state ≠ .flushing then s
  else
    let s1 := s.coilsOff allK
    if !s.anyFeed then s1.toOff
    else if s.pw.flushFrom = some .resetLocked then
      (s1.onPower fun p => { p with state := .resetLocked, flushFrom := none, resetHold := none }).record .flushLocked 0 []
    else s1.restart 2 0x0A i

/-- FLUSH_END (19 R482). -/
def execFlushEnd (t : Nat) (i : StartIn) (s : State) : Host.Outcome State Fault Refusal := s.run t (flushEnd i)

/-- ALWAYS_ON_MINIMUM_REACHED (19 R484): in Hibernate with no feed present the module is Off. -/
def execAlwaysOnMinimumReached (t : Nat) (s : State) : Host.Outcome State Fault Refusal :=
  s.run t fun s => if s.pw.state = .hibernate ∧ !s.anyFeed then s.toOff else s

/-- HOLD_UP_MEASUREMENT (19 R484; 23 R555, R556): once every 24 h in Watch or Run; deferred with reason 4 while a feed is not present. -/
def execHoldUpMeasurement (t : Nat) (ms : Nat) (s : State) : Host.Outcome State Fault Refusal :=
  s.run t fun s =>
    if decide (s.pw.state = .watch ∨ s.pw.state = .run) && (decide (s.pw.lastHoldUp = 0) || decide (s.pw.lastHoldUp + sec 86400 ≤ s.now)) then
      if !s.pw.feed1 || !s.pw.feed2 then (s.onPower fun p => { p with lastHoldUp := s.now }).deferTest 5 4
      else
      let v := min 65535 ms
      let s1 := (s.onPower fun p => { p with holdUpMs := v, lastHoldUp := s.now }).testDone 5
      if v < 300 then s1.record .holdUpReduced 0 (octetsOf 2 v) else s1
    else s

/-! ### Start complete, Watch and Run (19 R461, R463, R466 to R468) -/

/-- Every row of the start but the arming is complete (19 R463): the plug is valid, ports and beacons are up, and the role is taken. -/
def State.startReady (s : State) : Bool :=
  decide (s.pw.state = .starting) && s.pw.portsUp && s.pw.itemsRead && decide (s.pg.outcome = 0) && !s.pw.recovery &&
    decide (s.tw.role = .leader ∨ s.tw.role = .syncing ∨ s.tw.role = .follower)

/-- START_COMPLETE (19 R461, R463; 11 R306, R311; 12 R324; 02 R66; 21 R520). -/
def startComplete (s : State) : State :=
  if s.startReady then
    let s1 := (s.onPower fun p => { p with state := .watch, armed := true, startDone := true, holdUpReady := true }).record .startComplete 0 []
    let s2 := s1.onCont fun c => { c with autoArmed := s.leads && s.cfg.join.autoConnect }
    (s2.restartPulses.armConfigured.couple).startProbation
  else s

/-- START_COMPLETE (19 R463). -/
def execStartComplete (t : Nat) (s : State) : Host.Outcome State Fault Refusal := s.run t startComplete

/-- The module holds the plant master role, or follows in the master pair (19 R466, R468; 15 R404). -/
def State.masterPair (s : State) : Bool := s.ma.holds && decide (s.tw.role = .leader ∨ s.tw.role = .follower)

/-- A set-point other than zero stands: that of the entry, or the one still ramped to zero, for which set-point valid stays set (19 R468,
15 R383). -/
def State.setpointStands (s : State) : Bool :=
  (s.di.entryValid && !decide (s.di.setpoint = 0)) || (s.di.applying && !decide (s.di.applied = 0))

/-- The Watch conditions (19 R468). -/
def State.watchConditions (s : State) : Bool :=
  !s.setpointStands && decide (s.ibSumAbs ≤ s.cfg.power.watchCurrent) && s.toneSlots.isEmpty && !s.sequenceInHand && !s.masterPair

/-- RUN_REQUEST (19 R466): its events are a non-zero set-point taken, current in two sweeps, or a master role. -/
def execRunRequest (t : Nat) (s : State) : Host.Outcome State Fault Refusal :=
  s.run t fun s => if s.setpointStands || s.masterPair || decide (2 ≤ s.pw.overCurrentRun) then s.requestRun else s

/-- Time since the start of the superframe in progress, ns (01 R38). -/
def State.sinceFrame (s : State) : Nat := s.sinceEpoch % 4000000

/-- RUN_ENTRY (19 R466, R467): at the first superframe start at least 200 us after the fast clocks are stable, 200 us after the request; not
with a calibration fault, which holds the module in Watch (05 R147). The 20 ms of 08 R234 count from it. -/
def execRunEntry (t : Nat) (s : State) : Host.Outcome State Fault Refusal :=
  s.run t fun s =>
    if decide (s.pw.state = .watch) && s.heldFor s.pw.runRequestAt (400000 + s.sinceFrame) && !s.acq.calFault then
      (s.onPower fun p => { p with state := .run, runRequestAt := none, watchSince := none, hibSince := none, visit := false }).onLimits fun l =>
        { l with freshAt := s.now }
    else s

/-- RUN_DWELL_EXPIRY (19 R461, R468): Watch begins at the next superframe whose number is divisible by 25. -/
def execRunDwellExpiry (t : Nat) (s : State) : Host.Outcome State Fault Refusal :=
  s.run t fun s =>
    if decide (s.pw.state = .run) && s.watchConditions && s.heldFor s.pw.watchSince (sec s.cfg.power.runDwell) && decide (s.sweepAbs % 100 = 0) then
      s.onPower fun p => { p with state := .watch, watchSince := none, hibSince := none, overCurrentRun := 0 }
    else s

/-! ### Hibernate (19 R469 to R474) -/

/-- The level wake sources asserted (19 R470, R472): 5 is read here, 1 and 6 are latched by their own events. -/
def State.levelAsserted (s : State) : Bool :=
  (s.pw.serviceEnable && s.wakeEnabled 5) || !decide (s.pw.levels = 0)

/-- The Hibernate conditions (19 R469); a calibration fault holds the module in Watch (05 R147). -/
def State.hibConditions (s : State) : Bool :=
  s.cfg.power.hibEnable && !s.acq.calFault && s.watchConditions && !s.levelAsserted && !s.sequenceInHand && decide (s.up.session = 0) &&
    (!s.isTwin || ((decide (s.tw.role = .leader) && s.tw.partnerReady || decide (s.tw.role = .follower) && s.tw.ready) && s.tw.hibAgree))

/-- The timers of Watch and Hibernate at a sweep (19 R468, R469). -/
def State.dwellSweep (s : State) : State :=
  s.onPower fun p => { p with
    watchSince := since s.now (decide (p.state = .run) && s.watchConditions) p.watchSince
    hibSince := since s.now (decide (p.state = .watch) && s.hibConditions) p.hibSince }

/-- The string status becomes pending on each channel that is not off (18 R457). -/
def State.finalFrames (s : State) : State :=
  let one := fun (c i : Nat) (x : CanChan) =>
    let m := s.cfg.msgs.getD i {}
    if decide (m.fn = 1) && (m.chans).testBit c && !decide (x.state = .stopped ∨ x.state = .disabled ∨ x.state = .restricted) && !(x.tx.get i {}).withdrawn then
      { x with tx := x.tx.upd i {} fun o => { o with pending := true } }
    else x
  s.onCan fun c => { c with chans := c.chans.mapAll {} fun k x => (List.range s.cfg.msgs.length).foldl (fun x i => one k i x) x }

/-- Steps 2 to 4 of the entry once the string is open (19 R469): K12 off, the snapshot, the event store, the final CAN frames. -/
def State.hibSteps (s : State) : State :=
  if decide (s.pw.state = .enteringHib) && decide (s.ct.stage = .opened) && s.cn.sleepAt.isNone && !s.pw.coresMasked then
    let s1 := (s.coilOff 12).writeSnapshot.commitStop
    s1.finalFrames.onCan fun c => { c with sleepAt := some s.now }
  else s

/-- A cell holds precursor level 2 (07 R218). -/
def State.precursorHeld (s : State) : Bool := s.cfg.allCells.any fun c => decide ((s.cell c).precursor = 2)

/-- HIBERNATE_DELAY_EXPIRY (19 R469; 07 R218): the entry begins; a self-discharge visit re-enters without the delay, unless another source is
active or a cell holds precursor level 2. -/
def hibernateBegin (s : State) : State :=
  let again := s.pw.visit && decide (s.pw.latches = 0) && !s.precursorHeld
  if decide (s.pw.state = .watch) && s.hibConditions && (again || s.heldFor s.pw.hibSince (sec s.cfg.power.hibDelay)) then
    let s1 := s.onPower fun p => { p with state := .enteringHib, hibSince := none, coresMasked := false, visit := false, latches := 0 }
    if s.ct.stage = .opened then s1.hibSteps else s1.beginDisconnect
  else s

/-- HIBERNATE_DELAY_EXPIRY (19 R469). -/
def execHibernateDelayExpiry (t : Nat) (s : State) : Host.Outcome State Fault Refusal := s.run t hibernateBegin

/-- HIBERNATE_ENTRY_COMPLETE (19 R461, R469, R471): only the always-on domain and the comparators stay on; a latch set after the masking lets
the power-down complete. -/
def hibernateComplete (s : State) : State :=
  if s.pw.state = .enteringHib ∧ s.pw.coresMasked then
    let s1 := s.onPower fun p => { p with state := .hibernate, hibAt := s.now, portsUp := false, armed := false, runRequestAt := none }
    (s1.onRadio fun r => { r with transmit := false }).onTwin fun w => { w with role := if s.isTwin then .starting else w.role, ready := false, trips := false }
  else s

/-- HIBERNATE_ENTRY_COMPLETE (19 R469). -/
def execHibernateEntryComplete (t : Nat) (s : State) : Host.Outcome State Fault Refusal := s.run t hibernateComplete

/-- The event of a wake source can have come (19 R470): the timer runs from Hibernate entry, service-enable is the input's, a feed is present. -/
def State.wakeCause (s : State) (n : Nat) : Bool :=
  match n with
  | 4 => decide (s.pw.state = .hibernate) && decide (s.pw.hibAt + sec s.cfg.power.selfDischarge ≤ s.now)
  | 5 => s.pw.serviceEnable
  | 6 => s.anyFeed
  | _ => true

/-- WAKE_LATCH_SET (19 R470, R471): a level source counts as asserted until it is sampled again. -/
def execWakeLatchSet (t : Nat) (source : Fin 7) (s : State) : Host.Outcome State Fault Refusal :=
  s.run t fun s =>
    let n := source.val + 1
    if !s.wakeCause n then s else
    let s1 := if n = 1 ∨ n = 5 ∨ n = 6 then s.onPower fun p => { p with levels := if s.wakeEnabled n then p.levels ||| 2 ^ (n - 1) else p.levels } else s
    s1.wakeSource n

/-- The lowest set wake latch, 0 for none. -/
def lowestLatch (m : Nat) : Nat := match bitsIn 7 m with | b :: _ => b + 1 | [] => 0

/-- The time kept in Hibernate is in error by at most 5 ppm of the time spent there (02 R58): the error is free within that. -/
def State.wakeTime (s : State) : State :=
  let bound := (s.now - s.pw.hibAt) * 5 / 1000000
  let (e, s1) := freeIn 0 (2 * bound) s
  (s1.onThyme fun h => { h with reading := h.reading + e - bound, labelled := false, offsets := [], lockRun := 0, unlockRun := 0 }).toAcquiring

/-- SELF_DISCHARGE_VISIT (07 R218 steps 2 and 3): the snapshot of the entry corrected for the time since, and the rest time that has passed. -/
def State.beginVisit (s : State) (known : Bool) : State :=
  let rest := (s.now - s.pw.hibAt) / 1000000
  let s1 := s.loadSnapshot State.leakage known false
  (s1.cfg.allCells.foldl (fun s c => s.onCell c fun x => { x with restRun := x.restRun + rest }) s1).onPower fun p => { p with visit := true }

/-- A node to be admitted afresh (04 R116): what its index holds of its learned state and of items waiting to be written stays. -/
def NodeCtl.afresh (x : NodeCtl) : NodeCtl := { blockIdent := x.blockIdent, waiting := x.waiting, waitItems := x.waitItems, tapAt := x.tapAt }

/-- WAKE_SEQUENCE (19 R472 to R474, R477; 02 R58; 07 R218): the copies are checked, a failure being a cold reset with cause 0x09; the island is
armed, the nodes are admitted afresh, a twin takes its role afresh, and the module is in Watch. -/
def wakeSequence (i : StartIn) (s : State) : State :=
  if s.pw.state ≠ .hibernate ∨ s.pw.latches = 0 then s
  else if !i.copyOk then s.wakeTime.restart 3 9 i
  else
    let src := lowestLatch s.pw.latches
    let timer := s.pw.latches.testBit 3
    let alone := decide (s.pw.latches = 8)
    let known := decide (s.th.state = .locked ∨ s.th.state = .holdover)
    let s1 := (s.onPower fun p => { p with
      state := .watch, lastWake := src, latches := 0, coresMasked := false, portsUp := true, armed := true, watchSince := none, hibSince := none }).wakeTime
    let fresh := fun (_ : Nat) (c : Coil) => { c with accepted := none, confirmed := false }
    let s2 := s1.onCont fun c => { c with coils := c.coils.mapAll {} fresh, fbChecked := false }
    let s3 := (s2.onRadio fun r => { r with nodes := r.nodes.mapAll {} fun _ x => x.afresh, transmit := true, chans := {} }).onAcq fun a => { a with published := false }
    let s4 := s3.startRole.onCan fun c => { c with sleepAt := none, chans := [0, 1].foldl (fun (tb : Table CanChan) k =>
      tb.upd k {} fun x => { x with state := if x.state = .asleep then (if s.leads then .active else .restricted) else x.state }) c.chans }
    let s5 := if timer then s4.beginVisit known else s4
    (if timer && !alone then s5.onPower fun p => { p with visit := false } else s5).couple

/-- WAKE_SEQUENCE (19 R473). -/
def execWakeSequence (t : Nat) (i : StartIn) (s : State) : Host.Outcome State Fault Refusal := s.run t (wakeSequence i)

/-- WAKE_SERVICE_COMPLETE (19 R472): every level source is sampled again when entry would begin; one still asserted sets its latch at once and
the module stays in Watch. -/
def execWakeServiceComplete (t : Nat) (levels : List Nat) (s : State) : Host.Outcome State Fault Refusal :=
  s.run t fun s =>
    if s.pw.state ≠ .watch then s
    else
      let on := levels.filter fun n => decide (n = 1 ∨ n = 5 ∨ n = 6) && s.wakeEnabled n
      let m := maskOf 7 (on.map fun n => n - 1)
      s.onPower fun p => { p with levels := m, latches := m, hibSince := if m = 0 then p.hibSince else none }

/-! ### Resets (19 R475 to R481) -/

/-- WARM_RESET (19 R475): a request with its cause. -/
def execWarmReset (t : Nat) (cause : Nat) (i : StartIn) (s : State) : Host.Outcome State Fault Refusal := s.run t fun s => s.requestReset 2 cause i

/-- COLD_RESET (19 R475): a request with its cause. -/
def execColdReset (t : Nat) (cause : Nat) (i : StartIn) (s : State) : Host.Outcome State Fault Refusal := s.run t fun s => s.requestReset 3 cause i

/-- A session ended: number, sequence and bucket start afresh (15 R406, 17 R429). -/
def State.endSessions (s : State) : State :=
  let end_ := fun (_ : Nat) (c : Client) => { c with session := 0, lastSeq := 0, stored := [] }
  ((s.onMaster fun m => { m with clients := m.clients.mapAll {} end_ }).onNet fun n => { n with sessions := {} }).onUpdate Update.endSession

/-- INTERFACE_LEVEL_RESET (19 R475, R479; 15 R406; 17 R429): cause 0x0B; every dispatch and telemetry session ends, and with it
the update session it carries (21 R507); nothing else changes. -/
def execInterfaceLevelReset (t : Nat) (s : State) : Host.Outcome State Fault Refusal :=
  s.run t fun s =>
    if s.pw.state = .off ∨ s.pw.state = .hibernate then s
    else s.endSessions.onPower fun p => { p with resetLevel := 1, resetCause := 0x0B }

/-- APPLICATION_CLUSTER_WATCHDOG (19 R475, R479): a warm reset with cause 0x04. -/
def execApplicationClusterWatchdog (t : Nat) (i : StartIn) (s : State) : Host.Outcome State Fault Refusal :=
  s.run t fun s => s.requestReset 2 4 i

/-- APPLICATION_CLUSTER_HALT (01 R35): Chive keeps its schedule and sends bitmap frames alone; the liveness word stops. -/
def execApplicationClusterHalt (t : Nat) (s : State) : Host.Outcome State Fault Refusal :=
  s.run t fun s => if s.powered then s.onPower fun p => { p with haltedApp := true } else s

/-- RESET_DEFERRAL_EXPIRY (19 R478): after 60 s the reset proceeds with an immediate withdrawal; without a partner left, under 19 R476. -/
def resetDeferral (s : State) : State :=
  match s.pw.resetWait with
  | some (l, c, t0) =>
    if t0 + sec 60 ≤ s.now then
      let s1 := s.onPower fun p => { p with resetWait := none }
      if s.partnerThere then (s1.onPower fun p => { p with resetNext := some (l, c) }).withdraw (withdrawCauseOf c)
      else s1.prepareReset l c s.pw.resetIn
    else s
  | none => s

/-- RESET_DEFERRAL_EXPIRY (19 R478). -/
def execResetDeferralExpiry (t : Nat) (s : State) : Host.Outcome State Fault Refusal := s.run t resetDeferral

/-- RESET_BUTTON_HELD (19 R480): a press that reaches 10 s is recorded and disregarded. -/
def execResetButtonHeld (t : Nat) (s : State) : Host.Outcome State Fault Refusal :=
  s.run t fun s =>
    if s.pw.state = .off ∨ s.pw.state = .hibernate ∨ s.pw.state = .flushing ∨ s.pw.pressDead then s
    else (s.onPower fun p => { p with pressAt := some (s.now - sec 10), pressDead := true }).record .buttonHeld 0 []

/-- A release counts toward recovery (19 R481): in the 5 s after P0 with service-enable asserted. -/
def State.recoveryWindow (s : State) : Bool :=
  s.pw.serviceEnable && (match s.pw.p0 with | some p => decide (s.now ≤ p + sec 5) | none => false)

/-- The third release enters the recovery ROM (19 R481; 21 R526): the island stops, every coil and safe output goes off, and what the cores
worked on is lost. -/
def State.enterRecovery (s : State) : State :=
  (s.coilsOff allK).clearWorking.toRecovery.toAcquiring.onPower fun p => { p with
    state := .starting
    startDone := false
    armed := false
    resetHold := none
    resetWait := none
    resetNext := none
    runRequestAt := none }

/-- RESET_PUSHBUTTON_RELEASE (19 R480, R481; 21 R526). -/
def buttonRelease (heldMs : Nat) (i : StartIn) (s : State) : State :=
  let s0 := s.onPower fun p => { p with pressAt := none }
  match s.pw.state with
  | .off | .hibernate | .flushing => s0.onPower fun p => { p with pressDead := false }
  | _ =>
    if s.pw.pressDead then (s0.onPower fun p => { p with pressDead := false, buttonOpenAt := s.now }).record .buttonReleased 0 []
    else if s.pw.buttonOpenAt ≠ 0 ∧ s.now < s.pw.buttonOpenAt + sec 1 + ms heldMs then s0.onPower fun p => { p with buttonOpenAt := s.now }
    else if heldMs < 100 then s0.onPower fun p => { p with shortPresses := wrapInc p.shortPresses }
    else if 10000 ≤ heldMs then s0
    else if s.recoveryWindow then
      let s1 := s0.onPower fun p => { p with recoveryReleases := p.recoveryReleases + 1 }
      if s1.pw.recoveryReleases = 3 then s1.enterRecovery else s1
    else if s.pw.state = .resetLocked then s0.requestReset 3 0x0C i
    else s0.requestReset 2 2 i

/-- RESET_PUSHBUTTON_RELEASE (19 R480). -/
def execResetPushbuttonRelease (t : Nat) (heldMs : Nat) (i : StartIn) (s : State) : Host.Outcome State Fault Refusal :=
  s.run t (buttonRelease heldMs i)

/-- SERVICE_ENABLE_CHANGE (25 R588; 19 R470): asserted, it is level wake source 5. -/
def execServiceEnableChange (t : Nat) (asserted : Bool) (s : State) : Host.Outcome State Fault Refusal :=
  s.run t fun s =>
    let s1 := s.onPower fun p => { p with serviceEnable := asserted }
    if asserted then s1.wakeSource 5 else s1

/-- BAY_PLUG_REMOVED (19 R465): recorded, with no change of behaviour. -/
def execBayPlugRemoved (t : Nat) (s : State) : Host.Outcome State Fault Refusal :=
  s.run t fun s =>
    let s1 := s.onPower fun p => { p with plugPresent := false }
    if s.pw.state = .off ∨ s.pw.state = .hibernate ∨ ¬ s.pw.plugPresent then s1
    else (s1.onPlug fun p => { p with removed := true }).record .plugRemoved 0 []

/-- CONFIGURATION_ACCEPTED_ON_X13 (19 R461, R464; 20 R490): in Unconfigured an image that passes the stages is written to the area not in force,
becomes active, and a cold reset follows. -/
def configurationAccepted (img : Image) (i : StartIn) (s : State) : State :=
  if s.pw.state = .unconfigured ∧ s.pw.plugPresent ∧ s.pg.outcome ≠ 2 ∧ s.imageStage img = 0 then
    let a := match (s.pg.dir.getD {}).active with | some x => 1 - x | none => 0
    let s1 := s.onPlug fun p => if a = 0 then { p with area0 := some img } else { p with area1 := some img }
    let s2 := s1.writeDir fun d => { d with
      active := some a, trial := false, empty := false, staged := none, epoch := img.header.version
      antiRollback := max d.antiRollback img.header.antiRollback }
    s2.requestReset 3 8 i
  else s

/-- CONFIGURATION_ACCEPTED_ON_X13 (19 R464). -/
def execConfigurationAcceptedOnX13 (t : Nat) (img : Image) (i : StartIn) (s : State) : Host.Outcome State Fault Refusal :=
  s.run t (configurationAccepted img i)

/-! ### The break wait (11 R289) -/

/-- BREAK_WAIT_EXPIRY (11 R289; 12 R331; 19 R476): coil-off is issued regardless of the current. -/
def breakExpiry (group : Nat) (s : State) : State :=
  let over_ := s.pr.waits.filter fun w => decide (w.group = group) && decide (w.since + ms s.cfg.timed.breakMs ≤ s.now)
  let s1 := if over_.isEmpty then s else s.breakNow group
  if group < 4 then s1
  else
    let s2 := if !s1.ct.mainsOff && s1.heldFor s1.ct.discAt (ms s1.cfg.timed.breakMs) then s1.mainsOffNow.advanceDisconnect else s1
    s2.resetExpiry

/-- BREAK_WAIT_EXPIRY (11 R289): 0 to 3 the branch, 4 the string. -/
def execBreakWaitExpiry (t : Nat) (group : Fin 5) (s : State) : Host.Outcome State Fault Refusal := s.run t (breakExpiry group.val)

end Sys2Proof.Machine
end

