-- ==== Sys2Proof/Machine/Can.lean ====
section
/-! DEFINITION. Sys2Proof/Machine/Can.lean: the auxiliary CAN bus (chapter 18): transmit and receive objects, error confinement, identifier
conflicts, bus load, equipment and sleep. -/

namespace Sys2Proof

/-- A message the module sends: string status or chiller command (18 R446 table). -/
def CfgMsg.sends (m : CfgMsg) : Bool := decide (m.fn = 1 ∨ m.fn = 2)

/-- The channel takes part in traffic of its own. -/
def CanState.sending (x : CanState) : Bool := decide (x = .active ∨ x = .passive)

end Sys2Proof

namespace Sys2Proof.Machine

open Sys2Proof

/-- The module sends or receives a message entry on a channel (18 R447). -/
def State.canMsg (s : State) (c i : Nat) : Option CfgMsg :=
  match s.cfg.msgs[i]? with
  | some m => if m.chans.testBit c then some m else none
  | none => none

/-- Run requested of a chiller command (18 R448): Run or Watch, with a branch of the loop that is not open. -/
def State.chillerRun (s : State) (l : Nat) : Bool :=
  decide (s.pw.state = .run ∨ s.pw.state = .watch) && (s.loopBranches l).any fun b => !decide (s.branch b = .opened)

/-- The fields of a sent message that drive it by their change, and what follows them before the alive counter (18 R448, R451). -/
def State.canFields (s : State) (m : CfgMsg) : List Nat × List Nat :=
  if m.fn = 1 then
    ([if s.pw.state = .enteringHib then 0 else if s.pw.state = .run then 2 else 1, strCode s.ct.stage, s.stringActionCode,
      ((List.range 4).map fun b => s.branchActionCode b * 4 ^ b).foldl (· + ·) 0, s.firstFn, s.insulationState,
      bitsOf [s.sf.reduced, s.leads, s.tm.loops.entries.any fun e => e.2.lost]], [])
  else
    ([m.loop, bitsOf [s.chillerRun m.loop, s.leads]] ++ octetsOf 2 (wrapInt 2 (s.loopSt m.loop).chiller),
      octetsOf 2 (wrapInt 2 (roundOpen 35 ((s.loopSt m.loop).u * 10))))

/-- The payload of a sent message with its alive counter (18 R448). -/
def State.canData (s : State) (m : CfgMsg) (alive : Nat) : List Nat :=
  let f := s.canFields m
  if m.fn = 1 then f.1 ++ [alive] else f.1 ++ f.2 ++ [alive, 0]

/-- An instant of the plant-epoch lattice of a period lies within the last millisecond (18 R451). -/
def State.canPeriodic (s : State) (m : CfgMsg) : Bool := decide (((s.th.reading : Int) - (s.epochNs : Int)) % (ms (max 1 m.period) : Int) < (ms 1 : Int))

/-- The place of an identifier in arbitration (18 R452): a base identifier goes before the extended ones that begin with it. -/
def canRank (m : CfgMsg) : Nat := if m.ext then m.ident / 262144 * 524288 + 262144 + m.ident % 262144 else m.ident * 524288

/-- The pending object of lowest identifier on a channel (18 R452). -/
def State.canLowest (s : State) (c : Nat) : Option Nat :=
  let ps := (List.range s.cfg.msgs.length).filter fun i => (((s.can c).tx.get i {}).pending && (s.canMsg c i).isSome)
  ps.foldl (fun (a : Option Nat) i => match a with
    | some j => if canRank (s.cfg.msgs.getD i {}) < canRank (s.cfg.msgs.getD j {}) then some i else some j
    | none => some i) none

/-- The latest content of a transmit object (18 R448). -/
def State.canNow (s : State) (c i : Nat) : List Nat := s.canData (s.cfg.msgs.getD i {}) (((s.can c).tx.get i {}).alive)

/-- A free controller enters the lowest-identifier pending object into arbitration with its latest content (18 R451, R452). -/
def State.arbitrate (s : State) (c : Nat) : State :=
  if (s.can c).arb.isSome || !(s.can c).state.sending then s
  else s.onCanChan c fun x => { x with arb := (s.canLowest c).map fun i => (i, s.canNow c i) }

/-- The content an object sends now (18 R452): what it took when it entered arbitration; an object the controller took after a lost arbitration
has the lowest identifier and the latest content. -/
def State.canContent (s : State) (c i : Nat) : Option (List Nat) :=
  match (s.can c).arb with
  | some (j, d) => if j = i then some d else if s.canLowest c = some i then some (s.canNow c i) else none
  | none => if s.canLowest c = some i then some (s.canNow c i) else none

/-- CAN_TRANSMISSION_DUE (18 R451, R458): the object becomes pending, unless a conflict has withdrawn it; a pending one stays one frame. -/
def canDue (c i : Nat) (s : State) : State :=
  let x := s.can c
  let o := x.tx.get i {}
  let up := decide (s.pw.state = .run ∨ s.pw.state = .watch ∨ s.pw.state = .enteringHib)
  match s.canMsg c i with
  | some m =>
    if up && m.sends && (s.leads || !s.isTwin) && !o.withdrawn && !decide (x.state = .disabled ∨ x.state = .asleep) &&
        (s.canPeriodic m || !decide ((s.canFields m).1 = o.last)) then
      (s.onCanChan c fun x => { x with tx := x.tx.upd i {} fun o => { o with pending := true } }).arbitrate c
    else s
  | none => s

/-- CAN_TRANSMISSION_DUE (18 R451). -/
def execCanTransmissionDue (t : Nat) (chan : Fin 2) (msg : Fin 16) (s : State) : Host.Outcome State Fault Refusal := s.run t (canDue chan.val msg.val)

/-- The confinement state after a change of the counters (18 R454): error-passive from 128, error-active when both lie below. -/
def CanChan.confine (x : CanChan) : CanChan :=
  if !x.state.sending then x
  else { x with state := if 128 ≤ x.tec ∨ 128 ≤ x.recv then .passive else .active }

/-- Record a change of confinement state, with the channel and both counters (18 R454). -/
def State.canChanged (s old : State) (c : Nat) : State :=
  if (s.can c).state = (old.can c).state then s
  else s.record .canChange c [canCode (s.can c).state, min 255 (s.can c).tec, min 255 (s.can c).recv]

/-- CAN_TRANSMISSION_SUCCESS (18 R451, R456): the latest content has gone out, the alive counter advances, the conflict count ends and the
transmit error counter falls by 1. -/
def canSuccess (c i : Nat) (s : State) : State :=
  let x := s.can c
  let o := x.tx.get i {}
  match s.canMsg c i, s.canContent c i with
  | some m, some d =>
    if m.sends && o.pending && x.state.sending then
      let s1 := s.onCanChan c fun x => { x with
        tx := x.tx.upd i {} fun o => { o with pending := false, alive := (o.alive + 1) % 256, conflict := 0, last := d.take (if m.fn = 1 then 7 else 4) }
        tec := x.tec - 1
        sent := wrapInc x.sent
        arb := none }
      let s2 := s1.onCanChan c CanChan.confine
      ((s2.canChanged s c).emit .can c (octetsOf 4 m.ident ++ [if m.ext then 1 else 0, m.ftype] ++ d)).arbitrate c
    else s
  | _, _ => s

/-- CAN_TRANSMISSION_SUCCESS (18 R451). -/
def execCanTransmissionSuccess (t : Nat) (chan : Fin 2) (msg : Fin 16) (s : State) : Host.Outcome State Fault Refusal :=
  s.run t (canSuccess chan.val msg.val)

/-- Bus-off (18 R455): every pending frame stays; at the third within 60 s the channel stays off until reset. -/
def State.canBusOff (s : State) (c : Nat) : State :=
  let recent := s.now :: (s.can c).busOffs.filter fun t => decide (s.now ≤ t + sec 60)
  let s1 := s.onCanChan c fun x => { x with busOffs := recent, state := if 3 ≤ recent.length then .stopped else .busOff }
  if 3 ≤ recent.length then s1.record .canOff c [] else s1

/-- CAN_TRANSMIT_ERROR (18 R454 to R456): the transmit error counter rises by 8, and a bit error after the arbitration field counts towards an
identifier conflict, declared at 8. -/
def canTransmitError (c i : Nat) (afterArb counts : Bool) (s : State) : State :=
  let x := s.can c
  match s.canMsg c i, s.canContent c i with
  | some m, some _ =>
    if m.sends && (x.tx.get i {}).pending && x.state.sending then
      let n := if afterArb then (x.tx.get i {}).conflict + 1 else (x.tx.get i {}).conflict
      let s1 := s.onCanChan c fun x => { x with
        tx := x.tx.upd i {} fun o => { o with conflict := n, withdrawn := o.withdrawn || decide (8 ≤ n), pending := o.pending && decide (n < 8) }
        tec := if counts then x.tec + 8 else x.tec
        errors := wrapInc x.errors
        arb := none }
      let s2 := if 256 ≤ (s1.can c).tec then s1.canBusOff c else s1.onCanChan c CanChan.confine
      let s3 := s2.canChanged s c
      (if 8 ≤ n then s3.record .canConflict c (octetsOf 4 m.ident) else s3).arbitrate c
    else s
  | _, _ => s

/-- CAN_TRANSMIT_ERROR (18 R456). -/
def execCanTransmitError (t : Nat) (chan : Fin 2) (msg : Fin 16) (afterArb counts : Bool) (s : State) : Host.Outcome State Fault Refusal :=
  s.run t (canTransmitError chan.val msg.val afterArb counts)

/-- CAN_RECEIVE_ERROR (18 R454): the receive error counter rises; in restricted operation the counters stand. -/
def execCanReceiveError (t : Nat) (chan : Fin 2) (eight : Bool) (s : State) : Host.Outcome State Fault Refusal :=
  s.run t fun s =>
    let x := s.can chan.val
    if x.state.sending then
      let s1 := s.onCanChan chan.val fun x => { x with recv := min 255 (x.recv + if eight then 8 else 1), errors := wrapInc x.errors }
      (s1.onCanChan chan.val CanChan.confine).canChanged s chan.val
    else if x.state = .restricted then s.onCanChan chan.val fun x => { x with errors := wrapInc x.errors }
    else s

/-- CAN_BUS_OFF_RECOVERY (18 R455): error-active with both counters at zero; a channel off until reset does not recover. -/
def execCanBusOffRecovery (t : Nat) (chan : Fin 2) (s : State) : Host.Outcome State Fault Refusal :=
  s.run t fun s =>
    if (s.can chan.val).state = .busOff then
      ((s.onCanChan chan.val fun x => { x with state := .active, tec := 0, recv := 0, arb := none }).canChanged s chan.val).arbitrate chan.val
    else s

/-! ### Reception and equipment (18 R448 to R450) -/

/-- The more recently received copy of a received message (18 R447). -/
def State.canCopy (s : State) (i : Nat) : Option (Nat × RxObj) :=
  let copy := fun (c : Nat) => let r := (s.can c).rx.get i {}; r.at_.map fun a => (a, r)
  match copy 0, copy 1 with
  | some a, some b => some (if a.1 < b.1 then b else a)
  | some a, none => some a
  | none, b => b

/-- Equipment behind a received message is available (18 R449): its status is fresh, with available set and fault clear. -/
def State.equipOk (s : State) (i : Nat) (m : CfgMsg) : Bool :=
  match s.canCopy i with
  | some (a, r) => decide (s.now < a + ms m.timeout) && r.fresh && (r.data.getD 1 0).testBit 0 && !(r.data.getD 1 0).testBit 2
  | none => false

/-- The equipment available, and what its change means for cooling (18 R449; 10 R275). -/
def State.equipCheck (s : State) : State :=
  let ok := fun (fn l : Nat) => (List.range s.cfg.msgs.length).any fun i =>
    let m := s.cfg.msgs.getD i {}
    decide (m.fn = fn) && (decide (fn = 4) || decide (m.loop = l)) && s.equipOk i m
  let e := ([0, 1].filter (ok 3)) ++ (if ok 4 0 then [8] else [])
  ((s.onCan fun c => { c with equip := e }).coolCheck 0).coolCheck 1

/-- Fault bit and fault code of an equipment status (18 R448). -/
def faultOf (d : List Nat) : Nat × Nat := (if (d.getD 1 0).testBit 2 then 1 else 0, d.getD 7 0)

/-- The receive object of a frame on a channel: identifier and format match (18 R450). -/
def State.rxMatch (s : State) (c : Nat) (f : CanRx) : Option Nat :=
  (List.range s.cfg.msgs.length).find? fun i =>
    match s.canMsg c i with
    | some m => !m.sends && decide (m.ident = f.ident) && decide (m.ext = f.ext)
    | none => false

/-- A frame was received without error: the receive error counter falls, from the passive range to a value of 119 to 127 that the standard
leaves open. -/
def State.recvDown (s : State) (c : Nat) : State :=
  let x := s.can c
  if !x.state.sending then s
  else if 128 ≤ x.recv then
    let r := freeIn 119 127 s
    (r.2.onCanChan c fun x => { x with recv := r.1 }).onCanChan c CanChan.confine
  else (s.onCanChan c fun x => { x with recv := x.recv - 1 }).onCanChan c CanChan.confine

/-- CAN_FRAME_RECEIVED (18 R444, R449, R450). -/
def canReceive (c : Nat) (f : CanRx) (s : State) : State :=
  let x := s.can c
  let count := fun (s : State) => s.onCanChan c fun x => { x with unknown := wrapInc x.unknown }
  if !(x.state.sending || decide (x.state = .restricted)) then s
  else if f.exception_ then count s
  else
    let s1 := ((s.onCanChan c fun x => { x with received := wrapInc x.received }).recvDown c).canChanged s c
    if f.remote then count s1
    else match s.rxMatch c f with
      | none => count s1
      | some i =>
        if f.dlc ≠ 8 then count s1
        else
          let r := x.rx.get i {}
          let seen := r.at_.isSome
          let s2 := s1.onCanChan c fun x => { x with
            rx := x.rx.put i {} { data := f.data, at_ := some s.now, lost := r.lost || r.unread,
                                  fresh := !seen || !decide (f.data.getD 6 0 = r.data.getD 6 0), unread := true }
            lostCount := if r.unread then wrapInc x.lostCount else x.lostCount }
          let s3 := if faultOf f.data = faultOf r.data then s2
            else s2.record .equipFault (f.data.getD 0 0) [(faultOf f.data).1, (faultOf f.data).2]
          s3.equipCheck

/-- CAN_FRAME_RECEIVED (18 R450). -/
def execCanFrameReceived (t : Nat) (chan : Fin 2) (f : CanRx) (s : State) : Host.Outcome State Fault Refusal := s.run t (canReceive chan.val f)

/-- EQUIPMENT_TIMEOUT (18 R449; 10 R275): equipment whose status is no longer fresh becomes unavailable. -/
def execEquipmentTimeout (t : Nat) (s : State) : Host.Outcome State Fault Refusal := s.run t State.equipCheck

/-- CAN_LOAD_WINDOW (18 R453): the load of the window, and the event at 10 consecutive windows above 70 %, again at 10 below. -/
def execCanLoadWindow (t : Nat) (chan : Fin 2) (load : Nat) (s : State) : Host.Outcome State Fault Refusal :=
  s.run t fun s => if !s.publishes then s else s.turn (0x24 + chan.val) (sec 1) fun s =>
    let s1 := s.onCanChan chan.val fun x => { x with
      load := load, loadRun := if 700 < load then min 10 (x.loadRun + 1) else 0, calmRun := if load < 700 then min 10 (x.calmRun + 1) else 0 }
    let x := s1.can chan.val
    if !x.loadHigh && decide (10 ≤ x.loadRun) then (s1.onCanChan chan.val fun x => { x with loadHigh := true }).record .canLoad chan.val [1]
    else if x.loadHigh && decide (10 ≤ x.calmRun) then (s1.onCanChan chan.val fun x => { x with loadHigh := false }).record .canLoad chan.val [0]
    else s1

/-- CAN_SLEEP (18 R457; 19 R469): the final frames have succeeded or 20 ms have passed; the transceivers sleep, and the cores mask their
interrupts for step 5 of Hibernate entry. -/
def execCanSleep (t : Nat) (s : State) : Host.Outcome State Fault Refusal :=
  s.run t fun s =>
    let open_ := s.cn.chans.entries.any fun e => e.2.state.sending &&
      (List.range s.cfg.msgs.length).any fun i => decide ((s.cfg.msgs.getD i {}).fn = 1) && (e.2.tx.get i {}).pending
    if decide (s.pw.state = .enteringHib) && s.cn.sleepAt.isSome && (!open_ || s.heldFor s.cn.sleepAt (ms 20)) then
      let f := fun (_ : Nat) (x : CanChan) => if x.state = .disabled then x else { x with state := .asleep }
      (s.onCan fun c => { c with sleepAt := none, chans := c.chans.mapAll {} f }).onPower fun p => { p with coresMasked := true }
    else s

end Sys2Proof.Machine
end

