-- ==== Sys2Proof/Machine/Radio.lean ====
section
/-! DEFINITION. Sys2Proof/Machine/Radio.lean: the module's side of the radio and of admission (chapters 03, 04), the
report, alarm-slot and sweep-set commands apart. -/

namespace Sys2Proof.Machine

open Sys2Proof

/-! ### Beacons -/

/-- Relay assigns of a channel still to be sent. -/
def State.assignsQueued (s : State) (c : Nat) : Nat :=
  ((s.cfg.nodesOfChan c).map fun n => ((s.node n).work.filter fun w => decide (w.code = 7)).length).sum

/-- A route takes effect (03 R88, R90): direct reports and link tests count afresh where the report path changes. -/
def NodeCtl.takeRoute (k : Nat) (x : NodeCtl) : NodeCtl :=
  match x.relayPending with
  | some (role, partner, slot, _) =>
    let path := decide (role = 2 ∨ x.relayRole = 2)
    { x with
      relayRole := role, relayPartner := partner, forwardSlot := slot, relayPending := none
      directHist := if path then [] else x.directHist
      testHist := if path then [] else x.testHist
      routeAt := k
      lostRun := 0 }
  | none => x

/-- Start superframe k of a channel: the routes that take effect in it, once their announcements have been sent (03 R90, R91; 04 R102), and whether
the next one brings a route change. While the application cluster is stopped the last schedule stays (01 R35). -/
def State.beginSuperframe (s : State) (c k : Nat) : State :=
  if (s.rchan c).superframe = some k then s
  else
    let from_ := fun (n e : Nat) => match (s.node n).relayPending with | some (_, _, _, x) => !laterThan x e | none => false
    let ns := if s.pw.haltedApp || decide (s.assignsQueued c ≠ 0) then [] else (s.cfg.nodesOfChan c).filter fun n => from_ n k
    let s1 := ns.foldl (fun s n => s.onNode n (NodeCtl.takeRoute k)) s
    let next := !s.pw.haltedApp && (s1.cfg.nodesOfChan c).any fun n =>
      match (s1.node n).relayPending with | some (_, _, _, x) => decide (x = (k + 1) % two32) | none => false
    (s1.onRadio fun r => { r with superframe := k, schedule := if ns.isEmpty then r.schedule else (r.schedule + 1) % 256 }).onChan c
      fun x => { x with superframe := some k, routeChange := next }

/-- The time block of channel c's beacon in superframe k (02 R59): T_tx is B0 + 72 us, B0 of an unlocked channel c ms later (03 R77). -/
def State.timeBlock (s : State) (c k : Nat) : List Nat :=
  let tx := s.epochNs + s.chanShift c + (s.sinceEpoch - s.chanShift c) / 4000000 * 4000000 + 72000 - wrapSpan
  enc ([fN 6 (tx / 1000000000), fN 4 (tx % 1000000000), fN 2 0, fN 4 (4 * k % two32), fN 1 s.timeByte, fN 3 0])

/-- The beacon of a channel (04 R102), with its retry ceiling and listening pause within their ranges. -/
def State.beaconFrame (s : State) (c k : Nat) : List Nat :=
  let ctl := bitsOf [c.testBit 0, c.testBit 1, !decide (s.pw.state = .run), s.contentionIn k, (s.rchan c).routeChange]
  psdu s.keyBeacon k ([0x11, s.cfg.string.index, ctl, s.ra.schedule] ++ s.timeBlock c k ++ octetsOf 4 (s.rchan c).beaconAck ++
    [max 4 (min 16 s.cfg.contend.ceiling)] ++ octetsOf 2 (max 10 (min 600 s.cfg.contend.pause)) ++ [0])

/-- One channel's beacon: sent once by the leader, in the beacon window of an active superframe (01 R39; 03 R75, R94, R96). -/
def State.sendBeacon (s : State) (c k : Nat) : State :=
  if s.mayTransmit c 0 && s.chanActive c && decide (s.chanPhase c < 120000 ∧ (s.rchan c).beaconIn ≠ some k) then
    (s.onChan c fun x => { x with beaconIn := some k }).emit .beacon c (s.beaconFrame c k)
  else s

/-- BEACON_TRANSMIT (02 R59, R62; 03 R75, R77, R94; 04 R102): at a superframe start. -/
def execBeaconTransmit (t : Nat) (chan : Fin 4) (s : State) : Host.Outcome State Fault Refusal :=
  s.run t fun s =>
    (if s.cfg.locked then List.range 4 else [chan.val]).foldl (fun s c => (s.beginSuperframe c (s.superframeOf c)).sendBeacon c (s.superframeOf c)) s

/-! ### Management frames -/

/-- The nodes of a channel with addressed work (03 R86). -/
def State.withWork (s : State) (c : Nat) : List Nat :=
  (s.cfg.nodesOfChan c).filter fun n => (s.node n).inflight.isSome || !(s.node n).work.isEmpty

/-- The node addressed next (03 R86, R91): one with a relay assign to send, else the next in node-index order after the one addressed last, so that
none is addressed twice before every one with work has been addressed once. -/
def State.nextNode (s : State) (c : Nat) : Option Nat :=
  let ns := (s.withWork c).foldr insertN []
  match ns.find? fun n => (s.node n).work.any fun w => decide (w.code = 7) with
  | some n => some n
  | none => match ns.find? fun n => decide ((s.rchan c).rotation ≤ slotOf n) with
    | some n => some n
    | none => ns.head?

/-- What sending a new command does to the node's entry beside its counter: Commits of areas 0x03 and 0x04 are noted
(04 R117, 09 R254), a Release makes the node unadmitted (04 R117; log 16). -/
def State.noteSent (s : State) (n : Nat) (cmd : NodeCmd) : State :=
  if cmd.code = 9 then s.unadmit n
  else if cmd.code = 6 ∧ cmd.params.head? = some 4 then
    s.onNode n fun x => { x with keyCommits := x.keyCommits + 1, keyCommitAt := some (s.superframeOf (n / 32)) }
  else if cmd.code = 6 ∧ cmd.params.head? = some 3 then s.onNode n fun x => { x with commitSent := true, commitAcked := false }
  else s

/-- The addressed command of this window: a repeat with the same counter, or the node's next command with the next
counter (04 R111). Answers target, code, counter, parameters. -/
def State.addressed (s : State) (n : Nat) : State × Nat × Nat × Nat × List Nat :=
  let x := s.node n
  match x.inflight with
  | some f =>
    (s.onNode n fun y => { y with inflight := some { f with repeats := f.repeats + 1, sentAt := s.superframeOf (n / 32) } },
     n, f.cmd.code, f.counter, f.cmd.params)
  | none => match x.work with
    | cmd :: r =>
      let ctr := x.counter + 1
      let s1 := s.onNode n fun y => { y with counter := ctr, work := r, inflight := some { cmd := cmd, counter := ctr, sentAt := s.superframeOf (n / 32) } }
      let s2 := if cmd.code = 5 ∧ cmd.params.head? = some 2 then s1.startPlan else s1
      (s2.noteSent n cmd, n, cmd.code, ctr, cmd.params)
    | [] => (s, 255, 0, 0, [])

/-- The poll bitmap (03 R82): after an energy result every admitted or pending node whose bit is not acknowledged, and
the candidates whose report was lost. -/
def State.pollMask (s : State) (c ack : Nat) : Nat :=
  let x := s.rchan c
  maskOf 32 (((s.cfg.nodesOfChan c).filter fun n => (s.node n).inService && !ack.testBit (slotOf n) &&
    (x.pollDue || x.repoll.testBit (slotOf n))).map slotOf)

/-- The bitmaps of a management window (03 R81 to R83): the next beacon repeats the acknowledgements, and an energy result polled resolves at the
close of the next superframe. -/
def State.closeWindow (s : State) (c ack poll : Nat) : State :=
  s.onChan c fun y => { y with
    mgmtIn := some (s.superframeOf c)
    beaconAck := ack
    ackBitmap := 0
    polled := poll
    repoll := 0
    pollDue := false
    resolveAt := if y.pollDue && y.unidentified.isSome then some ((s.superframeOf c + 1) % two32) else y.resolveAt }

/-- The management frame of superframe k (04 R106): contention, the addressed command, or none. -/
def State.sendManagement (s : State) (c k : Nat) : State :=
  let ack := (s.rchan c).ackBitmap
  let poll := s.pollMask c ack
  let (s1, target, code, ctr, params) : State × Nat × Nat × Nat × List Nat :=
    if s.contentionIn k then (s, 255, 1, 0, [])
    else if s.pw.haltedApp then (s, 255, 0, 0, [])
    else match s.nextNode c with
      | some n => (s.onChan c fun y => { y with rotation := slotOf n + 1 }).addressed n
      | none => (s, 255, 0, 0, [])
  let body := [0x31, s.cfg.string.index, target, code] ++ octetsOf 4 ctr ++ octetsOf 4 ack ++ octetsOf 4 poll ++ (params ++ List.replicate 10 0).take 10
  (s1.closeWindow c ack poll).emit .management c (psdu s.keyBeacon k body)

/-- MANAGEMENT_FRAME_TRANSMIT (01 R35, R39; 03 R75, R81, R82, R84, R86, R94, R96; 04 R106, R111): once in the window of an active superframe. A
follower sends nothing: its bitmaps and its unidentified alarms follow the leader's window. -/
def managementTransmit (c : Nat) (s : State) : State :=
  let k := s.superframeOf c
  if !s.chanActive c || decide (s.chanPhase c < mgmtBegin) || decide ((s.rchan c).mgmtIn = some k) then s
  else if s.isTwin && !s.leads && s.pw.portsUp then s.closeWindow c (s.rchan c).ackBitmap (s.pollMask c (s.rchan c).ackBitmap)
  else if s.mayTransmit c mgmtBegin then s.sendManagement c k
  else s

/-- MANAGEMENT_FRAME_TRANSMIT (04 R106). -/
def execManagementFrameTransmit (t : Nat) (chan : Fin 4) (s : State) : Host.Outcome State Fault Refusal :=
  s.run t (managementTransmit chan.val)

/-! ### Responses -/

/-- The set loaded for a node becomes what the module takes as active when its Commit was answered late (09 R254). -/
def State.confirmSet (s : State) (n : Nat) : State :=
  let b := (s.node n).nextSet.getD (s.node n).activeSet
  let s1 := s.endUncertain n 0 fun x => { (x.takeSet b s.nextFrameSweep) with nextSet := none, commitSent := false }
  (s1.onNode n fun x => { x with commitAcked := true }).writeIslandTable n

/-- A Commit of area 0x03 that was refused leaves the node's active set in force (04 R110, 09 R243, R254). -/
def State.refuseSet (s : State) (n : Nat) : State :=
  let s1 := s.endUncertain n 0 fun x => x.takeSet x.activeSet s.nextFrameSweep
  s1.onNode n fun x => { x with nextSet := none, commitSent := false, commitAcked := false }

/-- A link test enters the history of the last 2 500 superframes (03 R90). -/
def NodeCtl.tested (x : NodeCtl) (k : Nat) (lost : Bool) : List (Nat × Bool) :=
  (k, lost) :: x.testHist.filter fun e => !laterThan k ((e.1 + 2500) % two32)

/-- An authentic response to the command in flight (04 R107, R111, R112, R115, R117). -/
def State.responseTo (s : State) (n : Nat) (f : Inflight) (r : Resp) : State :=
  let s1 := s.onNode n fun x => { x with inflight := none, authFails := if f.cmd.code = 2 then 0 else x.authFails
                                         beaconPower := if f.cmd.code = 2 then ((r.payload.getD 0 0 * 256 + r.payload.getD 1 0 : Nat) : Int).bmod 65536 else x.beaconPower
                                         respAt := some (s.superframeOf (n / 32))
                                         testHist := if f.cmd.code = 2 then x.tested (s.superframeOf (n / 32)) false else x.testHist }
  let s2 :=
    if r.status = 3 ∧ (s.node n).linked then (s1.record .lostAdmission n []).unadmit n
    else if f.cmd.code = 6 ∧ f.cmd.params.head? = some 4 ∧ (r.status = 1 ∨ r.status = 2) then
      if (s1.node n).keyCommits < 4 then s1.addWork n (s1.keyLoad n) else s1.sendRelease n
    else if f.cmd.code = 6 ∧ f.cmd.params.head? = some 4 ∧ r.status = 0 ∧ s.ra.rollStage = 3 then
      s1.onRadio fun x => { x with rollConfirmed := insertN n x.rollConfirmed }
    else if f.cmd.code = 6 ∧ f.cmd.params.head? = some 3 then (if r.status = 0 then s1.confirmSet n else s1.refuseSet n)
    else s1
  let s3 := s2.rollStep
  if (s3.node n).linked && decide (4294901760 ≤ (s3.node n).counter) then s3.challenge n else s3

/-- RESPONSE_RECEIVED (04 R107, R114): the checks in order, then the response against the command in flight. A
response is authentic under the node's link key, before admission under the zero key; one with status 0x03 under
either (R117). -/
def responseReceived (c : Nat) (r : Resp) (s : State) : State :=
  if !r.fcsOk then s.countFrame c 1
  else if !r.typeOk then s.countFrame c 5
  else if r.string ≠ s.cfg.string.index then s.countFrame c 2
  else
    let x := s.node r.node
    let authentic := if r.status = 3 then r.linkOk || r.zeroOk else if x.linked then r.linkOk else r.zeroOk
    if !authentic then s.countFrame c 3
    else match x.inflight with
      | some f =>
        if f.cmd.code = r.code ∧ f.counter = r.counter ∧ r.node / 32 = c then (s.countFrame c 0).responseTo r.node f r
        else s.countFrame c 4
      | none => s.countFrame c 4

/-- RESPONSE_RECEIVED (04 R107). -/
def execResponseReceived (t : Nat) (chan : Fin 4) (r : Resp) (s : State) : Host.Outcome State Fault Refusal :=
  s.run t (responseReceived chan.val r)

/-- The response sub-window of a channel's last management window has closed, 76 us after its begin (03 R75). -/
def State.windowOver (s : State) (c : Nat) : Bool :=
  !decide ((s.rchan c).mgmtIn = some (s.superframeOf c)) || decide (mgmtBegin + 76000 ≤ s.chanPhase c)

/-- NO_RESPONSE (04 R111, R115, R117): the command is repeated in the node's next addressed window; after its third
repeat it ends, recorded, and Release is sent; a challenge ends with a record, unadmitted. -/
def noResponse (c : Nat) (s : State) : State :=
  match (s.cfg.nodesOfChan c).find? fun n => match (s.node n).inflight with | some f => decide (some f.sentAt = (s.rchan c).mgmtIn) | none => false with
  | none => s
  | some n => match (s.node n).inflight with
    | none => s
    | some f =>
      if !s.windowOver c then s
      else
        let s0 := if f.cmd.code = 2 then s.onNode n fun x => { x with testHist := x.tested f.sentAt true } else s
        if f.repeats < 3 then s0
        else if (s.node n).adm = .challenged then (s0.record .noTag n (octetsOf 8 (s.node n).ident)).unadmit n
        else (s0.record .nodeUnresponsive n [f.cmd.code]).sendRelease n

/-- NO_RESPONSE (04 R111). -/
def execNoResponse (t : Nat) (chan : Fin 4) (s : State) : Host.Outcome State Fault Refusal := s.run t (noResponse chan.val)

/-! ### Unidentified alarms -/

/-- Function 0x09 no longer rests on a channel: it resets when no channel is left (11 R299). -/
def State.clearEnergyHold (s : State) (c : Nat) : State :=
  match s.fn 9 strGroup with
  | some f =>
    let left := f.cells.filter fun x => !decide (x = c)
    if left.isEmpty then s.resetFn 9 strGroup else s.setFn { f with cells := left }
  | none => s

/-- UNIDENTIFIED_ALARM_RESOLUTION (03 R83): at the resolution instant, the close of its superframe, the named alarms replace the unidentified one, or it
clears with the event, which names the latest of several energy slots (log 97); function 0x09 resets (11 R299). -/
def execUnidentifiedAlarmResolution (t : Nat) (chan : Fin 4) (s : State) : Host.Outcome State Fault Refusal :=
  s.run t fun s =>
    let c := chan.val
    let x := s.rchan c
    match x.unidentified, x.resolveAt with
    | some _, some k =>
      if !laterThan (s.superframeOf c) k then s
      else
        let s1 := if x.namedSince then s
          else (s.onChan c fun y => { y with noSource := wrapInc y.noSource }).record .energyNoSource c [(x.lastEnergySlot.getD 0) % 4]
        (s1.onChan c fun y => { y with unidentified := none, resolveAt := none, namedSince := false, energyNums := [] }).clearEnergyHold c
    | _, _ => s

/-! ### Admission -/

/-- The node index configured for a harness code, if any (04 R117): bits [7:6] branch, [5:0] stack. -/
def State.indexOf (s : State) (harness : Nat) : Option Nat :=
  (s.cfg.nodes.find? fun e => decide (e.branch = harness / 64 % 4 ∧ e.stack = harness % 64)).map fun e => e.index

/-- Count an event of 04 R117 against an identifier and publish the stranger record (24 R567). Causes: 1 wrong class or position, 2 position
conflict, 3 stranger, 4 unlisted node with replacements disabled. -/
def State.countStranger (s : State) (ident harness cause : Nat) : State :=
  let s1 := s.onRadio fun r => { r with strangers := r.strangers.upd ident 0 (satInc 16) }
  s1.publish 0x05003000 (s1.body [fN 8 ident, fN 1 harness, fN 1 cause, fN 2 (s1.ra.strangers.get ident 0)])

/-- Hold an identifier out for 60 s (04 R117, R120). -/
def State.holdOut (s : State) (ident : Nat) : State :=
  s.onRadio fun r => { r with holdOuts := r.holdOuts.put ident 0 (s.now + sec 60) }

/-- The data of an admission event: identifier, harness code. -/
def admData (ident harness : Nat) : List Nat := octetsOf 8 ident ++ [harness % 256]

/-- ADMISSION_REQUEST_RECEIVED (04 R114, R117, R120). -/
def admissionRequest (c : Nat) (r : AdmReq) (s : State) : State :=
  if !r.fcsOk then s.countFrame c 1
  else if !r.typeOk then s.countFrame c 5
  else if r.string ≠ s.cfg.string.index then s.countFrame c 2
  else if !r.cmacOk then s.countFrame c 3
  else if s.now < s.ra.holdOuts.get r.ident 0 then s.countFrame c 0
  else
    let s0 := s.countFrame c 0
    match s.indexOf r.harness with
    | none => (s0.record .wrongClass r.harness (admData r.ident r.harness)).countStranger r.ident r.harness 1
    | some n =>
      if r.cls ≠ 16 ∨ n / 32 ≠ c then (s0.record .wrongClass r.harness (admData r.ident r.harness)).countStranger r.ident r.harness 1
      else if (s.node n).adm ≠ .unadmitted then (s0.record .positionConflict n (admData r.ident r.harness)).countStranger r.ident r.harness 2
      else
        let s1 := s0.challenge n
        (s1.onNode n fun x => { x with ident := r.ident, harness := r.harness }).onChan c fun x => { x with contentionFor := some n }

/-- ADMISSION_REQUEST_RECEIVED (04 R117). -/
def execAdmissionRequestReceived (t : Nat) (chan : Fin 4) (r : AdmReq) (s : State) : Host.Outcome State Fault Refusal :=
  s.run t (admissionRequest chan.val r)

/-- Begin keying: Admit, then load and commit area 0x04 (04 R117). -/
def State.beginKeying (s : State) (n : Nat) (replacement : Bool) : State :=
  let s1 := s.onNode n fun x => { x with adm := .keying, replacement := replacement, inflight := none, keyCommits := 0, keyCommitAt := none }
  s1.onNode n fun x => { x with work := s1.admitCmd n :: s1.keyLoad n }

/-- Reject a challenged node: the event with its identifier, and the hold-out (04 R117). -/
def State.rejectNode (s : State) (n : Nat) (ev : Ev) : State :=
  let id := (s.node n).ident
  (((s.record ev n (octetsOf 8 id)).countStranger id (s.node n).harness (if ev = .stranger then 3 else 4)).holdOut id).unadmit n

/-- The learned state of a node's cells is that of the node whose identifier it carries; another one starts in the default learned state
(07 R215, R216). -/
def State.takeIdent (s : State) (n id : Nat) : State :=
  if (s.node n).blockIdent = some id then s else (s.defaultNode n).onNode n fun x => { x with blockIdent := some id }

/-- CHALLENGE_TAG_RECEIVED (04 R117). -/
def challengeTag (c n : Nat) (tagOk frameOk : Bool) (s : State) : State :=
  if !frameOk then s.countFrame c 3
  else if (s.node n).adm ≠ .challenged ∨ n / 32 ≠ c ∨ (s.node n).inflight.isNone then s.countFrame c 4
  else
    let s0 := (s.countFrame c 0).onChan c fun x => { x with contentionFor := none }
    let id := (s.node n).ident
    let entry := s.cfg.nodes.find? fun e => decide (e.ident = id)
    if !tagOk then s0.rejectNode n .stranger
    else match entry with
      | some e => if e.index = n then (s0.beginKeying n false).takeIdent n id else s0.rejectNode n .stranger
      | none => if s.cfg.repl.enable then (s0.beginKeying n true).takeIdent n id else s0.rejectNode n .unlisted

/-- CHALLENGE_TAG_RECEIVED (04 R117). -/
def execChallengeTagReceived (t : Nat) (chan : Fin 4) (node : Fin 128) (tagOk frameOk : Bool) (s : State) :
    Host.Outcome State Fault Refusal := s.run t (challengeTag chan.val node.val tagOk frameOk)

/-- KEYING_TIMEOUT (04 R117): no authentic report within 25 superframes after the Commit of area 0x04. -/
def execKeyingTimeout (t : Nat) (node : Fin 128) (s : State) : Host.Outcome State Fault Refusal :=
  s.run t fun s =>
    match (s.node node.val).adm, (s.node node.val).keyCommitAt with
    | .keying, some k => if laterThan (s.superframeOf (node.val / 32)) ((k + 25) % two32) then s.sendRelease node.val else s
    | _, _ => s

/-- STRANGER_HOLD_OUT_EXPIRY (04 R120). -/
def execStrangerHoldOutExpiry (t : Nat) (ident : Nat) (s : State) : Host.Outcome State Fault Refusal :=
  s.run t fun s =>
    if s.ra.holdOuts.get ident 0 ≤ s.now then s.onRadio fun r => { r with holdOuts := r.holdOuts.put ident 0 0 } else s

/-! ### Relaying -/

/-- Lost reports in a history. -/
def lostIn (h : List Bool) : Nat := (h.filter id).length

/-- The admitted nodes of a channel. -/
def State.servedOn (s : State) (c : Nat) : List Nat := (s.cfg.nodesOfChan c).filter fun n => (s.node n).inService

/-- Nodes of a channel with a relay role of 2 (relayed), counting routes that wait. -/
def NodeCtl.roleNext (x : NodeCtl) : Nat := match x.relayPending with | some (r, _, _, _) => r | none => x.relayRole

/-- A free forward slot after a node's own (03 R88, R89): the lowest slot of the channel that no admitted node and no
other forward holds (log 18). -/
def State.freeSlot (s : State) (c n : Nat) : Option Nat :=
  let used := (s.servedOn c).flatMap fun m => slotOf m :: (if (s.node m).roleNext = 2 then
    [match (s.node m).relayPending with | some (_, _, f, _) => f | none => (s.node m).forwardSlot] else [])
  (List.range 32).find? fun x => decide (slotOf n < x) && !decide (x ∈ used)

/-- The relay for a node (03 R90): a directly served node of the channel with no relay role and the best reported link to
it; ties go to the lower index. -/
def State.bestRelay (s : State) (c n : Nat) (links : List (Nat × Nat × Int)) : Option Nat :=
  let cands := (s.servedOn c).filter fun m => decide (m ≠ n) && decide ((s.node m).roleNext = 0)
  let pw := fun m => ((links.find? fun l => decide (l.1 = n ∧ l.2.1 = m)).map fun l => l.2.2)
  (cands.foldl (fun (b : Option (Nat × Int)) m => match pw m, b with
    | some p, some (m', p') => if p' < p ∨ (p' = p ∧ m < m') then some (m, p) else some (m', p')
    | some p, none => some (m, p)
    | none, b => b) none).map Prod.fst

/-- A command can be addressed on a channel in superframe k: it is active, and contention is closed (03 R86, R94). -/
def State.windowIn (s : State) (c k : Nat) : Bool := s.activeIn c k && !s.contentionIn k

/-- The superframe after the one whose window sends the q-th of the commands waiting, from superframe k on; it looks `fuel` superframes ahead. -/
def State.windowAfter (s : State) (c : Nat) : Nat → Nat → Nat → Nat
  | 0, k, _ => k
  | _, k, 0 => k
  | fuel + 1, k, q + 1 =>
    if s.windowIn c k then State.windowAfter s c fuel ((k + 1) % two32) q else State.windowAfter s c fuel ((k + 1) % two32) (q + 1)

/-- Announce a route (03 R90, R91; 04 R102, R109; log 98): the commands to node and relay go out first, and the change takes effect in the superframe
after the last of them, `lead` superframes from now at the earliest. -/
def State.announceRoute (s : State) (n role relay slot lead : Nat) : State :=
  let c := n / 32
  let old := s.node n
  let ends : List (Nat × Nat × Nat × Nat) :=
    (if role = 2 then [(relay, 1, slotOf n, slot)] else []) ++
    (if old.relayRole = 2 ∧ 32 * c + old.relayPartner ≠ relay then [(32 * c + old.relayPartner, 0, 0, 0)] else []) ++ [(n, role, slotOf relay, slot)]
  let k := s.superframeOf c
  let k0 := if (s.rchan c).mgmtIn = some k then (k + 1) % two32 else k
  let sent := s.windowAfter c 400 k0 (s.assignsQueued c + ends.length)
  let e := if laterThan ((k + lead) % two32) sent then (k + lead) % two32 else sent
  (ends.foldl (fun s d => s.onNode d.1 fun x => { x with
    relayPending := some (d.2.1, d.2.2.1, d.2.2.2, e)
    work := { code := 7, params := [d.2.1, d.2.2.1, d.2.2.2] ++ octetsOf 2 (e % 65536) } :: x.work }) s).record .relayChange n [role, relay, slot]

/-- A node may be served through a relay (03 R87): it hears the leader's frames directly and is heard directly, as its last authentic response within
the 2 500 superframes shows, a frame of the preamble of an alarm frame (03 R71; log 99). -/
def State.relayable (s : State) (n : Nat) : Bool :=
  match (s.node n).respAt with | some k => !laterThan (s.superframeOf (n / 32)) ((k + 2500) % two32) | none => false

/-- Give a node a relay when one qualifies within the slots of the channel (03 R87 to R90, record 0x0503). Answers the
state and whether a route was announced. -/
def State.tryRelay (s : State) (n : Nat) (links : List (Nat × Nat × Int)) (lead : Nat) : State × Bool :=
  let c := n / 32
  let relayed := ((s.servedOn c).filter fun m => decide ((s.node m).roleNext = 2) && decide (m ≠ n)).length
  if s.cfg.relay.enable && s.relayable n && decide (relayed < s.cfg.relay.pairs) && decide ((s.servedOn c).length + relayed + 1 ≤ 32) then
    match s.bestRelay c n links, s.freeSlot c n with
    | some m, some f => (s.announceRoute n 2 m f lead, true)
    | _, _ => (s, false)
  else (s, false)

/-- The direct link of a relayed node qualifies (03 R90): over the 2 500 superframes since its route, a link-test loss below one fifth of the
relay threshold. -/
def State.directOk (s : State) (n : Nat) : Bool :=
  let x := s.node n
  let k := s.superframeOf (n / 32)
  let h := x.testHist.filter fun e => !laterThan k ((e.1 + 2500) % two32)
  notBefore k ((x.routeAt + 2500) % two32) && !h.isEmpty &&
    decide (5 * 10000 * (h.filter fun e => e.2).length < s.cfg.link.relayLoss * h.length)

/-- Direct report loss over the last 250 superframes exceeds the relay threshold (03 R90). -/
def State.directBad (s : State) (x : NodeCtl) : Bool :=
  decide (250 ≤ x.directHist.length ∧ s.cfg.link.relayLoss * 250 < 10000 * lostIn x.directHist)

/-- One node's evaluation (03 R90). A relay whose own direct link fails first gives its relayed node to another one. -/
def State.evalRoute (s : State) (links : List (Nat × Nat × Int)) (n : Nat) : State :=
  let x := s.node n
  if !x.inService || x.relayPending.isSome then s
  else if x.relayRole = 0 then (if s.directBad x then (s.tryRelay n links 2).1 else s)
  else if x.relayRole = 1 then
    (if s.directBad x && (s.node (32 * (n / 32) + x.relayPartner)).relayPending.isNone then (s.tryRelay (32 * (n / 32) + x.relayPartner) links 2).1 else s)
  else if s.directOk n then s.announceRoute n 0 0 0 2
  else s

/-- RELAY_EVALUATION (03 R90, R96): routes are changed by the leader alone. -/
def execRelayEvaluation (t : Nat) (links : List (Nat × Nat × Int)) (s : State) : Host.Outcome State Fault Refusal :=
  s.run t fun s =>
    if s.leads && !s.pw.haltedApp then (s.cfg.nodes.map fun e => e.index).foldl (fun s n => s.evalRoute links n) s else s

/-- OCCUPANCY_MEASUREMENT (03 R93, 23 R558): above 40 % for 10 consecutive seconds the event is recorded, and again when
it has fallen back for 10 s. -/
def execOccupancyMeasurement (t : Nat) (chan : Fin 4) (occupancy : Nat) (s : State) : Host.Outcome State Fault Refusal :=
  s.run t fun s => if !s.radioOn then s else s.turn (0x10 + chan.val) (sec 1) fun s =>
    let c := chan.val
    let x := s.rchan c
    let up := if 400 < occupancy then min 10 (x.overRun + 1) else 0
    let down := if 400 < occupancy then 0 else min 10 (x.underRun + 1)
    let s1 := s.onChan c fun y => { y with occupancy := occupancy, overRun := up, underRun := down }
    let s2 := s1
    if !x.interference && decide (10 ≤ up) then
      (s2.onChan c fun y => { y with interference := true }).record .interference c (octetsOf 2 occupancy ++ [1])
    else if x.interference && decide (10 ≤ down) then
      (s2.onChan c fun y => { y with interference := false }).record .interference c (octetsOf 2 occupancy ++ [0])
    else s2

end Sys2Proof.Machine
end

