-- ==== Sys2Proof/Machine/MasterOps.lean ====
section
/-! DEFINITION. Sys2Proof/Machine/MasterOps.lean: what plant master and strings share in dispatch (chapter 15): header checks, eligibility,
allocation, interleave groups, responses, operations and the loss of the role. -/

namespace Sys2Proof

/-- The 16-octet request body (15 R392). -/
def ReqIn.body (q : ReqIn) (kind : Nat) : List Nat :=
  [kind, q.string, q.branch, q.horizon] ++ Machine.enc [(4, q.target), Machine.fN 4 q.ramp, Machine.fN 2 q.life, Machine.fN 2 0]

end Sys2Proof

namespace Sys2Proof.Machine

open Sys2Proof

/-- This module acts as plant master (15 R402; 01 R42), in Watch or Run alone: in a flush master work stops (19 R482). -/
def State.isMaster (s : State) : Bool := s.ma.holds && s.leads && decide (s.pw.state = .run ∨ s.pw.state = .watch)

/-- Nanoseconds of one dispatch cycle (15 R381). -/
def cycleNs : Nat := 2000000

/-- The local instant of a plant time. -/
def State.localOf (s : State) (plant : Nat) : Nat :=
  if plant ≤ s.th.reading then s.now - (s.th.reading - plant) else s.now + (plant - s.th.reading)

/-- The plant time of a sweep number near the present one. -/
def State.sweepStart (s : State) (n : Nat) : Nat :=
  let d := (n + two32 - s.sweepNo) % two32
  s.epochNs + (if d < two32 / 2 then s.sweepAbs + d else s.sweepAbs - (two32 - d)) * 1000000 - wrapSpan

/-- The sweep number at a local instant that has passed. -/
def State.sweepAt (s : State) (t : Nat) : Nat := ((s.th.reading + wrapSpan - (s.now - t) - s.epochNs) / 1000000) % two32

/-! ### The plant master's counters (24 R569) -/

/-- Count an occurrence of the last second; older ones leave the list. -/
def State.count (s : State) (kind octets : Nat) : State :=
  s.onMaster fun m => { m with recent := (s.now, kind, octets) :: m.recent.filter fun e => decide (s.now < e.1 + sec 1) }

/-- Occurrences of a kind in the last second. -/
def State.counted (s : State) (kind : Nat) : Nat :=
  (s.ma.recent.filter fun e => decide (e.2.1 = kind) && decide (s.now < e.1 + sec 1)).length

/-- Payload ingested in the last second, octets. -/
def State.ingestOctets (s : State) : Nat :=
  ((s.ma.recent.filter fun e => decide (e.2.1 = 3) && decide (s.now < e.1 + sec 1)).map fun e => e.2.2).foldl (· + ·) 0

/-! ### Eligibility and allocation (15 R385, R386) -/

/-- The configured strings of the plant as this module knows them: its own, those of record 0x0B01, and those heard. -/
def State.plantStrings (s : State) : List Nat :=
  (s.cfg.string.index :: s.cfg.masters ++ s.ma.stats.keys).foldl (fun l i => insertN i l) []

/-- A string is eligible in a cycle (15 R385). -/
def State.eligibleIn (s : State) (cycle i : Nat) : Bool :=
  let x := s.ma.stats.get i {}
  decide (i ∈ s.ma.stats.keys) && decide ((cycle + two32 - x.limitSweep) % two32 ≤ 12) && decide (x.strState = strCode .connected) &&
    decide (x.action = 0) && !decide (i ∈ s.ma.excluded) && !decide (x.timeState % 16 = 0)

/-- Its time state admits it to interleaving and localisation (15 R385). -/
def StringStat.goodTime (x : StringStat) : Bool := decide (1 ≤ x.timeState % 16 ∧ x.timeState % 16 ≤ 3)

/-- Weight and capacity of a string for a plant set-point and a horizon (15 R386). -/
def StringStat.share (x : StringStat) (charge : Bool) (h : Nat) : Int × Int :=
  if charge then (x.headroom, x.chgW.getD h 0) else (x.charge, x.disW.getD h 0)

/-- The passes of the allocation: the strings free with weight and capacity, what remains, and the strings capped so far. -/
def allocate : Nat → Rat → List (Nat × Rat × Rat) → List (Nat × Rat) → List (Nat × Rat)
  | 0, _, _, fixed => fixed
  | n + 1, rem, free, fixed =>
    let w := sumR (free.map fun e => e.2.1)
    let capped := free.filter fun e => decide (e.2.2 ≤ rem * e.2.1 / w)
    let left := free.filter fun e => !decide (e.2.2 ≤ rem * e.2.1 / w)
    if capped.isEmpty then fixed ++ free.map fun e => (e.1, rem * e.2.1 / w)
    else allocate n (rem - sumR (capped.map fun e => e.2.2)) left (fixed ++ capped.map fun e => (e.1, e.2.2))

/-- The set-points of the strings the allocation serves (15 R386). -/
def State.allocation (s : State) (p : Rat) (cycle horizon : Nat) : List (Nat × Int) :=
  let charge := decide (p < 0)
  let one := fun (i : Nat) => let x := (s.ma.stats.get i {}).share charge horizon; (i, (x.1 : Rat), (x.2 : Rat))
  let free := ((s.plantStrings.filter (s.eligibleIn cycle)).map one).filter fun e => decide (0 < e.2.1) && decide (0 < e.2.2)
  (allocate 129 (absR p) free []).map fun e => (e.1, roundZero (if charge then -e.2 else e.2))

/-- Sum of the capacities of the eligible strings at a horizon: discharge, charge (15 R393). -/
def State.capacity (s : State) (cycle horizon : Nat) : Int × Int :=
  let el := (s.plantStrings.filter (s.eligibleIn cycle)).map fun i => s.ma.stats.get i {}
  (sumI (el.map fun x => x.disW.getD horizon 0), sumI (el.map fun x => x.chgW.getD horizon 0))

/-! ### Carrier interleaving (15 R388, R389) -/

/-- The carrier frequency of the group a string belongs to now, 0 for none. -/
def State.groupNow (s : State) (cycle i : Nat) : Nat :=
  let x := s.ma.stats.get i {}
  if s.eligibleIn cycle i && x.goodTime && x.flags.testBit 2 && s.cfg.inter.enable then x.carrier else 0

/-- INTERLEAVE_RECOMPUTE of one group (15 R388, R389): at a change of its members and at most once per interval. -/
def State.recomputeGroup (s : State) (cycle f : Nat) : State :=
  let now := s.plantStrings.filter fun i => decide (s.groupNow cycle i = f)
  let was := s.plantStrings.filter fun i => decide (s.ma.groupOf.get i 0 = f)
  let free := !decide (f ∈ s.ma.phasesAt.keys) || decide (s.ma.phasesAt.get f 0 + sec s.cfg.inter.interval ≤ s.now)
  if now = was ∨ free = false then s
  else
    let drop := was.foldl (fun (tb : Table Nat) i => tb.put i 0 0) s.ma.groupOf
    s.onMaster fun m => { m with
      groupOf := now.foldl (fun (tb : Table Nat) i => tb.put i 0 f) drop
      phases := now.zipIdx.foldl (fun (tb : Table Nat) e => tb.put e.1 0 (e.2 * 65536 / now.length)) m.phases
      phasesAt := m.phasesAt.put f 0 s.now }

/-- Every group is followed (15 R389). -/
def State.recomputeGroups (s : State) (cycle : Nat) : State :=
  let fs := (s.plantStrings.map (s.groupNow cycle)) ++ (s.plantStrings.map fun i => s.ma.groupOf.get i 0)
  ((fs.foldl (fun l i => insertN i l) []).filter fun f => !decide (f = 0)).foldl (fun s f => s.recomputeGroup cycle f) s

/-- A string's carrier phase is valid: it belongs now to the group whose phases were computed with it (15 R388). -/
def State.phaseValidOf (s : State) (cycle i : Nat) : Bool :=
  !decide (s.groupNow cycle i = 0) && decide (s.ma.groupOf.get i 0 = s.groupNow cycle i)

/-! ### Clients and responses (15 R390 to R393, R397) -/

/-- A client's session state. -/
def State.client (s : State) (c : Nat) : Client := s.ma.clients.get c {}

/-- Update of a client's session state. -/
def State.onClient (s : State) (c : Nat) (f : Client → Client) : State := s.onMaster fun m => { m with clients := m.clients.upd c {} f }

/-- A response payload (15 R393). -/
def State.responseTo_ (s : State) (status reason : Nat) (allocated : Int) (horizon session : Nat) : List Nat :=
  let a := s.ma.avail.getD horizon (0, 0)
  [status, reason, 0, 0] ++ enc [(4, allocated), (4, a.1), (4, a.2), fN 4 session]

/-- Send a response to a client. -/
def State.sendResponse (s : State) (c : Nat) (p : List Nat) : State := s.dispatchSend .response c 4 s.seenEpoch p

/-- Answer a request of a session that still stands, and store the answer (15 R391, R406). -/
def State.respond (s : State) (c session status reason : Nat) (allocated : Int) (horizon : Nat) : State :=
  if (s.client c).session ≠ session then s
  else
    let p := s.responseTo_ status reason allocated horizon 0
    (s.sendResponse c p).onClient c fun x => { x with stored := p }

/-- A frame found no token (15 R397): BUSY with reason 2, itself limited to the client's rate. -/
def State.rateExceeded (s : State) (c : Nat) (k : CfgClient) : State :=
  let b := bucketNow k.rate k.depth (s.client c).busyTokens (s.client c).busyAt s.now
  if b < 1 then (s.onClient c fun x => { x with dropped := wrapInc x.dropped }).count 2 0
  else
    let s1 := s.onClient c fun x => { x with busyTokens := b - 1, busyAt := some s.now }
    (s1.count 1 0).sendResponse c (s.responseTo_ stBusy 2 0 s.ma.horizon 0)

/-- Take a token of a client's bucket (15 R397); none where it lacks one. -/
def State.takeToken (s : State) (c : Nat) (k : CfgClient) : Option State :=
  let b := bucketNow k.rate k.depth (s.client c).tokens (s.client c).filledAt s.now
  if b < 1 then none else some ((s.onClient c fun x => { x with tokens := b - 1, filledAt := some s.now }).count 0 0)

/-- A request frame at the plant master (15 R380, R391 to R393, R397): source, token, session, sequence, right, then `body`, which answers
BUSY, REFUSED or INVALID at once or takes the request. -/
def State.request (s : State) (q : ReqIn) (right : Nat) (body : Nat → State → State) : State :=
  if !s.isMaster then s
  else if !q.ok then s.badDispatch
  else
    let s := s.received q.port
    match q.client with
    | none => s
    | some c =>
      match s.cfg.clients[c]? with
      | none => s
      | some k =>
        match s.takeToken c k with
        | none => s.rateExceeded c k
        | some s1 =>
          let x := s1.client c
          if q.session = 0 ∨ x.session ≠ q.session then s1.sendResponse c (s1.responseTo_ stUnknown 0 0 s.ma.horizon 0)
          else if q.seq = x.lastSeq then (if x.stored.isEmpty then s1 else s1.sendResponse c x.stored)
          else if q.seq < x.lastSeq then s1.onClient c fun x => { x with lower := wrapInc x.lower }
          else
            let s2 := s1.onClient c fun x => { x with lastSeq := q.seq, stored := [] }
            if !k.rights.testBit right then s2.respond c q.session stNotAllowed 0 0 s.ma.horizon else body c s2

/-! ### Operations (15 R394 to R396) -/

/-- Send an operation's frame (15 R395). -/
def State.sendOperation (s : State) (o : Operation) : State :=
  s.dispatchSend .operation 0 5 s.seenEpoch (octetsOf 4 o.ident ++ octetsOf 4 o.deadline ++ o.body)

/-- A master handover is in progress (15 R405). -/
def State.handingOver (s : State) : Bool := s.ma.draining.isSome || s.ma.handover.isSome

/-- A request becomes an operation (15 R394, R395): an out-of-range value is INVALID, an unknown string REFUSED with reason 12, during a
master handover BUSY with reason 4, beyond two in flight for its string BUSY with reason 1. -/
def State.newOperation (s : State) (q : ReqIn) (kind c : Nat) : State :=
  let branchOk := if kind = 4 ∨ kind = 5 then decide (q.branch ≤ 3) else decide (q.branch = 255)
  if !branchOk || !decide (q.string ≤ 127) then s.respond c q.session stInvalid 0 0 s.ma.horizon
  else if !decide (q.string ∈ s.plantStrings) then s.respond c q.session stRefused 12 0 s.ma.horizon
  else if s.handingOver then s.respond c q.session stBusy 4 0 s.ma.horizon
  else if 2 ≤ (s.ma.ops.filter fun o => decide (o.string = q.string)).length then s.respond c q.session stBusy 1 0 s.ma.horizon
  else
    let o : Operation := { ident := s.ma.nextOp, string := q.string, kind := kind, branch := q.branch, deadline := (s.sweepNo + 300) % two32,
                           client := c, session := q.session, body := q.body kind, receivedAt := s.now, sentAt := s.now }
    (s.onMaster fun m => { m with ops := m.ops ++ [o], nextOp := wrapInc m.nextOp }).sendOperation o

/-- An operation ends with an answer to its client (15 R396). -/
def State.endOperation (s : State) (o : Operation) (status reason : Nat) : State :=
  (s.onMaster fun m => { m with ops := m.ops.filter fun x => !decide (x.ident = o.ident) }).respond o.client o.session status reason 0 s.ma.horizon

/-! ### Taking up and losing the role (15 R402 to R405) -/

/-- Keep the master epoch as item 0x01 of group 0x0B (15 R402). -/
def State.keepEpoch (s : State) (e : Nat) : State :=
  (s.onMaster fun m => { m with epoch := e }).writeItem (itemKey 0x0B 1 0) (octetsOf 4 e)

/-- MASTER_ROLE_LOST (15 R404). -/
def State.loseMaster (s : State) : State :=
  let s1 := s.onMaster fun m => { m with
    holds := false, draining := none, handover := none, spRequests := [], exRequests := [], ops := [], claiming := false }
  let s2 := if s.ma.draining.isSome then s1.cmdFinal 0x0B01 stRefused 13 [] else s1
  s2.record .masterRoleLost 0 (octetsOf 4 s.ma.epoch)

/-- The plant master role is taken with an epoch: no sessions, and the set-point as given (15 R404, R405). -/
def State.takeMaster (s : State) (e : Nat) (f : Master → Master) : State :=
  let s1 := s.keepEpoch e
  (s1.onMaster fun m => f { m with
    holds := true, clients := {}, spRequests := [], exRequests := [], ops := [], claiming := false, draining := none, handover := none,
    incoming := none, expired := false, expiryRamp := false, cycle := none, sent := none }).record .masterTaken 0 (octetsOf 4 e)

end Sys2Proof.Machine
end

