-- ==== Sys2Proof/Machine/Master.lean ====
section
/-! DEFINITION. Sys2Proof/Machine/Master.lean: the plant master's commands (chapter 15): the dispatch cycle, requests, operations, streams,
localisation, election and handover. -/

namespace Sys2Proof.Machine

open Sys2Proof

/-! ### The dispatch cycle (15 R381 to R389) -/

/-- A plant set-point request is taken into the cycle (15 R387): target, ramp, lifetime and horizon. -/
def State.takeSetpoint (s : State) (r : SpRequest) : State :=
  s.onMaster fun m => { m with
    target := r.target, ramp := r.ramp, horizon := r.horizon, expiryRamp := false, expired := false,
    lifeUntil := if r.life = 0 then none else some (r.at_ + ms r.life) }

/-- The set-point in force moves towards the target by at most the ramp rate times 2 ms; a rate of 0 is a step (15 R387). -/
def Master.move (m : Master) (expiry : Nat) : Rat :=
  let rate : Nat := if m.expiryRamp then expiry else m.ramp
  let step : Rat := (rate : Rat) * 2 / 1000
  let d : Rat := (m.target : Rat) - m.inForce
  if rate = 0 ∨ absR d ≤ step then (m.target : Rat) else if 0 < d then m.inForce + step else m.inForce - step

/-- The work of one allocation for dispatch cycle `c` (15 R381, R386 to R389, R396). `shed` is what the master's load makes it shed: 0 none,
1 localisation records, 2 stream ingest too (15 R401). -/
def State.allocateCycle (s : State) (c shed : Nat) : State :=
  let cycle := (2 * c) % two32
  let reqs := s.ma.spRequests
  let exs := s.ma.exRequests
  let s1 := reqs.foldl State.takeSetpoint s
  let s2 := exs.foldl (fun (s : State) (e : Nat × Nat × Nat × Bool) => s.onMaster fun m =>
    { m with excluded := if e.2.2.2 then m.excluded.filter fun x => !decide (x = e.2.2.1) else insertN e.2.2.1 m.excluded }) s1
  let p := s2.ma.move s.cfg.alloc.expiry
  let h := s2.ma.horizon
  let alloc := s2.allocation p cycle h
  let total := sumI (alloc.map fun e => e.2)
  let cap := s2.capacity cycle h
  let limited := decide (((if p < 0 then cap.2 else cap.1 : Int) : Rat) < absR p)
  let relax := fun (_ : Nat) (x : Stream) =>
    let up := (if x.pend then 1 else 0) + (if shed = 2 then 1 else 0)
    if up = 0 then x else { x with decim := min 7 (x.decim + up), pend := false, lastDiscard := s.now }
  let s3 := s2.onMaster fun m => { m with
    inForce := p, allocated := total, limited := limited, setpoints := alloc, spRequests := [], exRequests := [], cycle := some c,
    shedding := decide (0 < shed), streams := m.streams.mapAll {} relax
    avail := (List.range 5).map fun i => s2.capacity cycle i
    eligible := (s2.plantStrings.filter (s2.eligibleIn cycle)).length }
  let s4 := s3.recomputeGroups cycle
  let s5 := s4.onMaster fun m => { m with interleaved := (s4.plantStrings.filter (s4.phaseValidOf cycle)).length }
  let s6 := reqs.foldl (fun s r => s.respond r.client r.session (if limited then stLimited else stDone) 0 total r.horizon) s5
  exs.foldl (fun s e => s.respond e.1 e.2.1 stDone 0 total h) s6

/-- The dispatch cycle that begins next, counted from the plant epoch. -/
def State.nextCycle (s : State) : Nat := s.sinceEpoch / cycleNs + 1

/-- The dispatch cycle in progress, counted from the plant epoch. -/
def State.thisCycle (s : State) : Nat := s.sinceEpoch / cycleNs

/-- The handover cycle has come by a cycle: the old plant master sends nothing from it on (15 R405). -/
def State.handedBy (s : State) (c : Nat) : Bool :=
  match s.ma.handover with
  | some (_, n) => notBefore ((2 * c) % two32) n
  | none => false

/-- DISPATCH_ALLOCATION (15 R381, R386): once per cycle, from 400 us before its start. -/
def execDispatchAllocation (t : Nat) (shed : Fin 3) (s : State) : Host.Outcome State Fault Refusal :=
  s.run t fun s =>
    if s.isMaster && decide (1600000 ≤ s.sinceEpoch % cycleNs) && !decide (s.ma.cycle = some s.nextCycle) && !s.handedBy s.nextCycle then s.allocateCycle s.nextCycle shed.val else s

/-- One entry of the set-point multicast (15 R382). -/
def State.mcEntry (s : State) (cycle i : Nat) : List Nat :=
  let sp := s.ma.setpoints.lookup i
  let pv := s.phaseValidOf cycle i
  let x := s.ma.stats.get i {}
  [i, bitsOf [sp.isSome, decide (i ∈ s.ma.excluded), pv]] ++ enc [(4, sp.getD 0), fN 2 (if pv then s.ma.phases.get i 0 else 0)] ++
    [if x.flags.testBit 3 then (s.ma.streams.get i {}).decim else 255, 0]

/-- The plant record (24 R569). -/
def State.plantRecord (s : State) (cycle : Nat) : List Nat :=
  let m := s.ma
  enc ([fN 4 cycle, (4, m.target), (4, roundOpen 42 m.inForce), (4, m.allocated)] ++
    ((List.range 5).flatMap fun i => let a := m.avail.getD i (0, 0); [(4, a.1), (4, a.2)]) ++
    [fN 4 m.epoch, fN 1 m.eligible, fN 1 m.interleaved, fB [m.limited, m.expired, m.shedding], fQ qGood, fN 4 (s.counted 0), fN 4 (s.counted 1),
     fN 4 (s.counted 2), fN 4 (s.counted 3), fN 4 (s.counted 4), fN 4 (8 * s.ingestOctets / 1000000)])

/-- The master handover frame (15 R405). -/
def State.sendHandover (s : State) : State :=
  match s.ma.handover with
  | none => s
  | some (target, cycle) =>
    let m := s.ma
    let life := match m.lifeUntil with | some u => (u - s.now + 999999) / 1000000 | none => 0
    s.dispatchSend .masterHandover 0 9 m.epoch (octetsOf 4 (wrapInc m.epoch) ++ octetsOf 4 cycle ++ [target, m.horizon, 0, 0] ++
      enc [(4, m.target), (4, roundOpen 42 m.inForce), fN 4 m.ramp, fN 4 life, fN 16 (maskOf 128 m.excluded), fN 4 0])

/-- The multicast of a cycle, the handover frame while one is announced, and the plant record (15 R381, R382, R405, R407). -/
def State.sendMulticast (s : State) (c : Nat) : State :=
  let cycle := (2 * c) % two32
  let es := s.plantStrings.take 128
  let s1 := s.onMaster fun m => { m with sent := some c }
  let s2 := s1.dispatchSend .multicast 0 1 s.ma.epoch (enc [fN 4 cycle, (4, roundOpen 42 s.ma.inForce), (4, s.ma.allocated)] ++
    [es.length, s.ma.horizon, 0, 0] ++ es.flatMap (s.mcEntry cycle))
  s2.sendHandover.publish 0x0B001000 (s.plantRecord cycle)

/-- SETPOINT_MULTICAST_SEND (15 R381, R382): at the start of the cycle that was allocated, once. -/
def execSetpointMulticastSend (t : Nat) (s : State) : Host.Outcome State Fault Refusal :=
  s.run t fun s =>
    if s.isMaster && decide (s.ma.cycle = some s.thisCycle) && !decide (s.ma.sent = some s.thisCycle) && !s.handedBy s.thisCycle then
      s.sendMulticast s.thisCycle
    else s

/-- SETPOINT_LIFETIME_EXPIRY (15 R387): a set-point request accepted since, which the next allocation takes, renews the lifetime. -/
def execSetpointLifetimeExpiry (t : Nat) (s : State) : Host.Outcome State Fault Refusal :=
  s.run t fun s =>
    if s.isMaster && s.due s.ma.lifeUntil && s.ma.spRequests.isEmpty then
      (s.onMaster fun m => { m with target := 0, expiryRamp := true, expired := true, lifeUntil := none }).record .setpointExpired 0 []
    else s

/-! ### Requests (15 R390 to R397) -/

/-- DISPATCH_INTERFACE_RESET (15 R390, R397): a new session, whose first sequence is 1; the previous one ends. -/
def dispatchReset (q : ReqIn) (s : State) : State :=
  if !s.isMaster then s
  else if !q.ok then s.badDispatch
  else
    let s := s.received q.port
    match q.client with
    | none => s
    | some c =>
      match s.cfg.clients[c]? with
      | none => s
      | some k =>
        match s.takeToken c k with
        | none => s.rateExceeded c k
        | some s1 =>
          let n := s1.ma.nextSession
          let s2 := s1.onMaster fun m => { m with nextSession := max 1 (wrapInc n) }
          let s3 := s2.onClient c fun x => { x with session := n, lastSeq := 0, stored := [] }
          s3.sendResponse c (s3.responseTo_ stDone 0 0 s3.ma.horizon n)

/-- DISPATCH_INTERFACE_RESET (15 R390). -/
def execDispatchInterfaceReset (t : Nat) (q : ReqIn) (s : State) : Host.Outcome State Fault Refusal := s.run t (dispatchReset q)

/-- PLANT_SETPOINT_REQUEST (15 R387, R392, R396): taken by the next allocation and answered there. -/
def execPlantSetpointRequest (t : Nat) (q : ReqIn) (s : State) : Host.Outcome State Fault Refusal :=
  s.run t fun s => s.request q 0 fun c s =>
    if !decide (q.string = 255) || !decide (q.branch = 255) || !decide (q.horizon ≤ 4) then
      s.respond c q.session stInvalid 0 0 s.ma.horizon
    else
      let r : SpRequest := { client := c, session := q.session, at_ := s.now, target := q.target, ramp := q.ramp, life := q.life, horizon := q.horizon }
      s.onMaster fun m => { m with spRequests := m.spRequests ++ [r] }

/-- CONNECT_REQUEST (15 R394). -/
def execConnectRequest (t : Nat) (q : ReqIn) (s : State) : Host.Outcome State Fault Refusal :=
  s.run t fun s => s.request q 1 fun c s => s.newOperation q 2 c

/-- DISCONNECT_REQUEST (15 R394). -/
def execDisconnectRequest (t : Nat) (q : ReqIn) (s : State) : Host.Outcome State Fault Refusal :=
  s.run t fun s => s.request q 1 fun c s => s.newOperation q 3 c

/-- JOIN_BRANCH_REQUEST (15 R394). -/
def execJoinBranchRequest (t : Nat) (q : ReqIn) (s : State) : Host.Outcome State Fault Refusal :=
  s.run t fun s => s.request q 1 fun c s => s.newOperation q 4 c

/-- LEAVE_BRANCH_REQUEST (15 R394). -/
def execLeaveBranchRequest (t : Nat) (q : ReqIn) (s : State) : Host.Outcome State Fault Refusal :=
  s.run t fun s => s.request q 1 fun c s => s.newOperation q 5 c

/-- An exclusion or inclusion waits for the next cycle (15 R396). -/
def State.exclusion (s : State) (q : ReqIn) (include_ : Bool) (c : Nat) : State :=
  if !decide (q.string ≤ 127) || !decide (q.branch = 255) then s.respond c q.session stInvalid 0 0 s.ma.horizon
  else if !decide (q.string ∈ s.plantStrings) then s.respond c q.session stRefused 12 0 s.ma.horizon
  else s.onMaster fun m => { m with exRequests := m.exRequests ++ [(c, q.session, q.string, include_)] }

/-- EXCLUDE_STRING (15 R396). -/
def execExcludeString (t : Nat) (q : ReqIn) (s : State) : Host.Outcome State Fault Refusal :=
  s.run t fun s => s.request q 2 fun c s => s.exclusion q false c

/-- INCLUDE_STRING (15 R396). -/
def execIncludeString (t : Nat) (q : ReqIn) (s : State) : Host.Outcome State Fault Refusal :=
  s.run t fun s => s.request q 2 fun c s => s.exclusion q true c

/-! ### Operations in flight (15 R395, R396) -/

/-- An operation in flight. -/
def State.opOf (s : State) (ident : Nat) : Option Operation := s.ma.ops.find? fun o => decide (o.ident = ident)

/-- OPERATION_FRAME_REPEAT (15 R395): 20 ms after the last sending. -/
def execOperationFrameRepeat (t : Nat) (ident : Nat) (s : State) : Host.Outcome State Fault Refusal :=
  s.run t fun s =>
    match s.opOf ident with
    | some o =>
      if s.isMaster && decide (o.sentAt + ms 20 ≤ s.now) then
        let f := fun (x : Operation) => if x.ident = ident then { x with sentAt := s.now } else x
        (s.onMaster fun m => { m with ops := m.ops.map f }).sendOperation o
      else s
    | none => s

/-- OPERATION_TIMEOUT (15 R396): 450 ms after receipt. -/
def execOperationTimeout (t : Nat) (ident : Nat) (s : State) : Host.Outcome State Fault Refusal :=
  s.run t fun s =>
    match s.opOf ident with
    | some o => if s.isMaster && decide (o.receivedAt + ms 450 ≤ s.now) then s.endOperation o stTimeout 0 else s
    | none => s

/-- OPERATION_RESULT_RECEIVED (15 R395, R396, R404): the result is forwarded; one of an older epoch is ignored. -/
def execOperationResultReceived (t : Nat) (h : DHdr) (ident status reason sweep : Nat) (s : State) : Host.Outcome State Fault Refusal :=
  s.run t fun s =>
    if !s.netOn then s
    else if !hdrGood h || !decide (status ≤ 8) then s.badDispatch
    else
      let s1 := (s.received h.port).acceptedDispatch h
      match s1.opOf ident with
      | some o =>
        if s1.isMaster && decide (s1.ma.epoch ≤ h.epoch) && decide (o.string = h.sender) && decide (sweep < two32) then s1.endOperation o status reason
        else s1
      | none => s1

/-! ### String statuses, localisation and streams (15 R384, R398 to R400) -/

/-- The first sweep at which a kept cell's deviation from its branch median exceeded the threshold (15 R400). -/
def firstCrossing (kept : List (Nat × Nat × Int)) (threshold : Nat) (cell : Nat) (sweeps : List Nat) : Option Nat :=
  sweeps.find? fun n =>
    let br := kept.filter fun e => decide (e.1 = n) && decide (e.2.1 / 512 = cell / 512)
    match medianI (br.map fun e => e.2.2), br.find? fun e => decide (e.2.1 = cell) with
    | some m, some e => decide ((threshold : Rat) < absR ((e.2.2 : Rat) - m))
    | _, _ => false

/-- LOCALISATION (15 R400; 24 R569): the earliest cells of every string admitted to it, by first sweep. -/
def State.localise (s : State) (string sweep : Nat) : State :=
  let look := 1000 * s.cfg.local_.lookback
  let strs := s.ma.streams.keys.filter fun i => s.eligibleIn (2 * s.thisCycle % two32) i && (s.ma.stats.get i {}).goodTime
  let found := strs.flatMap fun i =>
    let kept := ((s.ma.streams.get i {}).kept).filter fun e => decide ((sweep + two32 - e.1) % two32 ≤ look)
    let order := ((kept.map fun e => (e.1 + two32 - (sweep + two32 - look)) % two32).foldl (fun l x => insertN x l) []).map
      fun d => (d + sweep + two32 - look) % two32
    let cells := (kept.map fun e => e.2.1).foldl (fun l x => insertN x l) []
    cells.filterMap fun c => (firstCrossing kept s.cfg.local_.threshold c order).map fun n => (i, c, n)
  let age := fun (e : Nat × Nat × Nat) => (sweep + two32 - e.2.2) % two32
  let sorted := found.foldr (fun e l => (l.filter fun x => decide (age e < age x)) ++ [e] ++ l.filter fun x => !decide (age e < age x)) []
  let cells := sorted.take s.cfg.local_.cells
  let dec := s.ma.shedding || s.sg.corrDecimated || strs.any fun i => decide (0 < (s.ma.streams.get i {}).decim)
  (s.publish 0x0B002000 (octetsOf 4 sweep ++ [string, if dec then 1 else 0, cells.length, 0] ++
    cells.flatMap fun e => [e.1, 0] ++ octetsOf 2 e.2.1 ++ octetsOf 4 e.2.2))

/-- No enumerated or bounded field of a string status holds a reserved value (00 R4; 11 R313, 12 R334, 15 R384). -/
def statusGood (x : StringStat) : Bool :=
  decide (x.strState ≤ 5) && decide (x.action ≤ 2) && (List.range 4).all (fun b => !decide (x.branchActions / 4 ^ b % 4 = 3)) &&
    decide (x.decimation ≤ 7 ∨ x.decimation = 255)

/-- STRING_STATUS_RECEIVED (15 R384, R385, R400): the latest status of a string; a new action makes the plant master localise. A status
with a reserved value is invalid as a whole (00 R4). -/
def stringStatus (h : DHdr) (x : StringStat) (s : State) : State :=
  if !s.netOn then s
  else if !hdrGood h || !statusGood x then s.badDispatch
  else
    let s1 := (s.received h.port).acceptedDispatch h
    let old := s1.ma.stats.get h.sender {}
    let s2 := s1.onMaster fun m => { m with stats := m.stats.put h.sender {} { x with at_ := s.now, timeState := h.timeState } }
    let branchNew := (List.range 4).any fun b => !decide (x.branchActions / 4 ^ b % 4 = 0) && !decide (x.branchActions / 4 ^ b % 4 = old.branchActions / 4 ^ b % 4)
    if s.isMaster && ((!decide (x.action = 0) && !decide (x.action = old.action)) || branchNew) then
      s2.localise h.sender (((h.sent.ns + wrapSpan - s.epochNs) / 1000000) % two32)
    else s2

/-- STRING_STATUS_RECEIVED (15 R385). -/
def execStringStatusReceived (t : Nat) (h : DHdr) (x : StringStat) (s : State) : Host.Outcome State Fault Refusal := s.run t (stringStatus h x)

/-- STREAM_FRAME_INGEST (15 R399, R400): the plant master and the follower of its pair take the frame against the string's bucket, 1.05 times
its stream rate and 8 ms deep; without tokens it is discarded and counted, and D doubles in the next multicast. -/
def streamIngest (h : DHdr) (f : StreamIn) (s : State) : State :=
  if !s.netOn || !s.ma.holds || !decide (s.tw.role = .leader ∨ s.tw.role = .follower) then s
  else if !hdrGood h then s.badDispatch
  else
    let s0 := (s.received h.port).acceptedDispatch h
    let x := s0.ma.streams.get h.sender {}
    let rate : Rat := (Config.streamRate h.sender : Rat) * 105 / 100
    let depth := rate * 8 / 1000
    let b : Rat := match x.filledAt with
      | none => depth
      | some t0 => min depth (x.tokens + rate * ((s.now - t0 : Nat) : Rat) / 1000000000)
    let put := fun (s : State) (y : Stream) => s.onMaster fun m => { m with streams := m.streams.put h.sender {} y }
    if b < (f.octets : Rat) then
      (put s0 { x with tokens := b, filledAt := some s.now, pend := true, lastDiscard := s.now }).count 4 f.octets
    else
      let kept := (f.cells ++ x.kept).filter fun e => decide ((f.sweep + two32 - e.1) % two32 ≤ 10000 ∨ two32 / 2 ≤ (f.sweep + two32 - e.1) % two32)
      (put s0 { x with tokens := b - f.octets, filledAt := some s.now, kept := kept }).count 3 f.octets

/-- STREAM_FRAME_INGEST (15 R399). -/
def execStreamFrameIngest (t : Nat) (h : DHdr) (f : StreamIn) (s : State) : Host.Outcome State Fault Refusal := s.run t (streamIngest h f)

/-- STREAM_DECIMATION_RELAX (15 R399): D halves after 10 s without a discard. -/
def execStreamDecimationRelax (t : Nat) (string : Nat) (s : State) : Host.Outcome State Fault Refusal :=
  s.run t fun s =>
    let x := s.ma.streams.get string {}
    if 0 < x.decim ∧ x.lastDiscard + sec 10 ≤ s.now then
      s.onMaster fun m => { m with streams := m.streams.put string {} { x with decim := x.decim - 1, lastDiscard := s.now } }
    else s

/-! ### Election (15 R402 to R404) -/

/-- Send a claim (15 R403). -/
def State.sendClaim (s : State) (epoch : Nat) (abandoned : Bool) : State :=
  s.dispatchSend .claim 0 8 s.seenEpoch (octetsOf 4 epoch ++ [s.masterRank.getD 0, if abandoned then 1 else 0, 0, 0] ++ octetsOf 4 (s.sweepAt s.ma.l0))

/-- CLAIM_SEND (15 R403): the master timeout and the rank's stagger have passed since L0. -/
def execClaimSend (t : Nat) (s : State) : Host.Outcome State Fault Refusal :=
  s.run t fun s =>
    let r := s.masterRank.getD 0
    if s.isCandidate && s.ma.candidate && !s.ma.holds && !s.ma.claiming && decide (s.ma.l0 + ms (s.cfg.elect.timeout + r * s.cfg.elect.stagger) ≤ s.now) then
      let e := wrapInc s.seenEpoch
      (s.onMaster fun m => { m with claiming := true, claimAt := s.now, claimSent := s.now, claimEpoch := e }).sendClaim e false
    else s

/-- CLAIM_REPEAT (15 R403): every 2 ms. -/
def execClaimRepeat (t : Nat) (s : State) : Host.Outcome State Fault Refusal :=
  s.run t fun s =>
    if s.ma.claiming && s.isCandidate && decide (s.ma.claimSent + ms 2 ≤ s.now) then
      (s.onMaster fun m => { m with claimSent := s.now }).sendClaim s.ma.claimEpoch false
    else s

/-- CLAIM_RECEIVED (15 R403, R404): a higher epoch takes the role from a plant master; a better claim makes a claimant abandon its own, and its
send time is the new L0. -/
def claimReceived (h : DHdr) (epoch rank : Nat) (abandoned : Bool) (s : State) : State :=
  if !s.netOn then s
  else if !hdrGood h then s.badDispatch
  else
    let s1 := (s.received h.port).acceptedDispatch h
    if h.sender = s.cfg.string.index ∨ abandoned = true then s1
    else
      let s2 := if s1.isMaster && decide (s1.ma.epoch < epoch) then s1.loseMaster else s1
      let mine := if s2.ma.claiming then s2.ma.claimEpoch else wrapInc s2.seenEpoch
      let better := decide (mine < epoch) || (decide (mine = epoch) && decide (rank < s2.masterRank.getD 256))
      if better && s2.ma.candidate then
        let s3 := if s2.ma.claiming then s2.sendClaim s2.ma.claimEpoch true else s2
        s3.onMaster fun m => { m with claiming := false, l0 := s.localOf h.sent.ns }
      else s2

/-- CLAIM_RECEIVED (15 R403). -/
def execClaimReceived (t : Nat) (h : DHdr) (epoch rank : Nat) (abandoned : Bool) (s : State) : Host.Outcome State Fault Refusal :=
  s.run t (claimReceived h epoch rank abandoned)

/-- CLAIM_WINDOW_EXPIRY (15 R403, R404): the candidate becomes plant master; target and set-point in force are the sum of the applied
set-points. -/
def execClaimWindowExpiry (t : Nat) (s : State) : Host.Outcome State Fault Refusal :=
  s.run t fun s =>
    if s.ma.claiming && s.isCandidate && decide (s.ma.claimAt + ms s.cfg.elect.claim ≤ s.now) then
      let sum := sumI (s.ma.stats.entries.map fun e => e.2.applied)
      s.takeMaster s.ma.claimEpoch fun m => { m with
        target := sum, inForce := (sum : Rat), ramp := 0, lifeUntil := none, horizon := s.cfg.alloc.horizon, excluded := [] }
    else s

/-! ### Planned handover (15 R405) -/

/-- A string is reported as a candidate: candidate eligible in its latest status (15 R384, R402). -/
def State.candidateString (s : State) (i : Nat) : Bool :=
  decide (i ∈ s.cfg.masters) && decide (i ≠ s.cfg.string.index) && decide (i ∈ s.ma.stats.keys) && (s.ma.stats.get i {}).flags.testBit 1

/-- MASTER_HAND_OVER (15 R405; 17 R436 code 0x0B01): plant master only, towards a candidate; the module then waits until no operation is in
flight. -/
def execMasterHandOver (t : Nat) (m : Maint) (string : Nat) (s : State) : Host.Outcome State Fault Refusal :=
  s.run t fun s => s.maint m 0x0B01 fun s =>
    if !s.leads then refuse 1 s
    else if 127 < string then (s, stInvalid, 0, [])
    else if !s.isMaster || !s.candidateString string || s.handingOver then refuse 13 s
    else (s.onMaster fun x => { x with draining := some (string, s.now) }, stStarted, 0, [])

/-- MASTER_HANDOVER_DRAINED (15 R405): with no operation in flight the handover frame names a cycle 10 cycles ahead; when the wait of 500 ms
expires first, the command ends BUSY, whose reason the spec leaves open. -/
def execMasterHandoverDrained (t : Nat) (s : State) : Host.Outcome State Fault Refusal :=
  s.run t fun s =>
    match s.ma.draining with
    | none => s
    | some (target, since_) =>
      if !s.isMaster then s
      else if s.ma.ops.isEmpty then
        let s1 := s.onMaster fun m => { m with draining := none, handover := some (target, (2 * (s.nextCycle + 10)) % two32) }
        s1.sendHandover.cmdFinal 0x0B01 stDone 0 []
      else if since_ + ms 500 ≤ s.now then
        let r := (s.onMaster fun m => { m with draining := none }).freshNat
        r.2.cmdFinal 0x0B01 stBusy (r.1 % 256) []
      else s

/-- MASTER_HANDOVER_FRAME_RECEIVED (15 R404, R405): the target keeps the latest copy; a plant master that sees a higher epoch loses the role. -/
def handoverFrameReceived (h : DHdr) (target : Nat) (f : Handover) (s : State) : State :=
  if !s.netOn then s
  else if !hdrGood h || !decide (target ≤ 127) || !decide (f.horizon ≤ 4) || !decide (f.cycle % 2 = 0) then s.badDispatch
  else
    let s1 := (s.received h.port).acceptedDispatch h
    if h.sender = s.cfg.string.index then s1
    else if h.epoch < s1.seenEpoch then s1
    else
      let s2 := if s1.isMaster && decide (s1.ma.epoch < f.epoch) then s1.loseMaster else s1
      if decide (target = s.cfg.string.index) && s2.isCandidate then s2.onMaster fun m => { m with incoming := some f } else s2

/-- MASTER_HANDOVER_FRAME_RECEIVED (15 R405). -/
def execMasterHandoverFrameReceived (t : Nat) (h : DHdr) (target : Nat) (f : Handover) (s : State) : Host.Outcome State Fault Refusal :=
  s.run t (handoverFrameReceived h target f)

/-- MASTER_HANDOVER_CYCLE (15 R405): the target takes the role and sends the multicast of the handover cycle; the old plant master ends. -/
def handoverCycle (s : State) : State :=
  let s1 := if s.ma.holds && s.handedBy s.thisCycle then s.onMaster fun m => { m with holds := false, handover := none, clients := {}, spRequests := [], exRequests := [] } else s
  match s1.ma.incoming with
  | none => s1
  | some f =>
    if s1.isCandidate && notBefore ((2 * s1.thisCycle) % two32) f.cycle then
      let s2 := s1.takeMaster f.epoch fun m => { m with
        target := f.target, inForce := (f.inForce : Rat), ramp := f.ramp, horizon := f.horizon, excluded := f.excluded,
        lifeUntil := if f.life = 0 then none else some (s.now + ms f.life) }
      (s2.allocateCycle s2.thisCycle 0).sendMulticast s2.thisCycle
    else s1

/-- MASTER_HANDOVER_CYCLE (15 R405). -/
def execMasterHandoverCycle (t : Nat) (s : State) : Host.Outcome State Fault Refusal := s.run t handoverCycle

end Sys2Proof.Machine
end

