-- ==== Sys2Proof/Machine/Rantus.lean ====
section
/-! DEFINITION. Sys2Proof/Machine/Rantus.lean: the string's side of dispatch (15 R383, R384, R389) and the converter link (chapter 16). -/

namespace Sys2Proof.Machine

open Sys2Proof

/-! ### The set-point multicast at a string (15 R383, R389; 23 R559) -/

/-- Take the carrier phase of an entry (15 R389): a changed one waits for its instant, the same one keeps its receipt. -/
def State.takePhase (s : State) (e : McEntry) : State :=
  s.onDispatch fun d =>
    if !e.phaseValid then { d with phaseValid := false, newPhase := none }
    else if d.phaseValid && decide (d.phase = e.phase) then { d with newPhase := none }
    else match d.newPhase with
      | some (p, r) => if p = e.phase then { d with newPhase := some (p, r) } else { d with newPhase := some (e.phase, s.now) }
      | none => { d with newPhase := some (e.phase, s.now) }

/-- The entry of an accepted multicast (15 R381, R383): it applies from M0 + 500 us or its receipt; a missing entry clears set-point valid; a
non-zero set-point in Watch asks for Run. -/
def State.takeEntry (s : State) (m : McIn) (m0 : Nat) : State :=
  let e := m.entry.getD {}
  let s1 := s.onDispatch fun d => { d with
    setpoint := e.setpoint, entryValid := e.valid, nextCycle := m.cycle, taken := false, decim := e.decim
    applyFrom := max (m0 + 500000) s.now }
  let s2 := s1.takePhase e
  if e.valid && !decide (e.setpoint = 0) then s2.requestRun else s2

/-- SETPOINT_MULTICAST_RECEIVED (15 R381, R383, R403, R404; 23 R559). -/
def multicastReceived (h : DHdr) (m : McIn) (s : State) : State :=
  let m0 := s.sweepStart m.cycle
  if !hdrGood h then s.badDispatch
  else if !decide (s.pw.state = .run ∨ s.pw.state = .watch ∨ s.pw.state = .enteringHib) then s
  else if m.cycle % 2 = 1 then (s.received h.port).onDispatch fun d => { d with invalid := wrapInc d.invalid }
  else if h.epoch < s.seenEpoch then (s.received h.port).onDispatch fun d => { d with stale := wrapInc d.stale }
  else if m0 + cycleNs < s.th.reading then (s.received h.port).onDispatch fun d => { d with late := wrapInc d.late }
  else
    let s1 := (s.received h.port).acceptedDispatch h
    let gap := match s1.di.mcastSeq with
      | some q => decide (s1.di.master = some h.sender) && !decide (h.seq = wrapInc q)
      | none => false
    let s2 := if s1.isMaster && decide (s1.ma.epoch < h.epoch) then s1.loseMaster else s1
    let s3 := if s2.ma.epoch < h.epoch then s2.keepEpoch h.epoch else s2
    let s4 := s3.onDispatch fun d => { d with
      masterEpoch := h.epoch, master := some h.sender, mcastSeq := some h.seq, heardAt := some s.now, masterLost := false
      lateRun := d.lateRun || gap
      lateFrom := if gap then h.sender else d.lateFrom }
    let s5 := s4.onMaster fun x => { x with l0 := s.localOf m0, claiming := false }
    let s6 := s5.sample 0xA (roundOpen 46 (((s.th.reading - m0 : Nat) : Rat) / 1000))
    if s6.leads then s6.takeEntry m (s.localOf m0) else s6

/-- SETPOINT_MULTICAST_RECEIVED (15 R383). -/
def execSetpointMulticastReceived (t : Nat) (h : DHdr) (m : McIn) (s : State) : Host.Outcome State Fault Refusal := s.run t (multicastReceived h m)

/-- The applied set-point begins its ramp to zero (15 R383). -/
def State.startRamp (s : State) (from_ : Nat) : State :=
  s.onDispatch fun d => if d.applying && !d.ramping then { d with ramping := true, rampAt := from_ } else d

/-- MASTER_LOSS_HOLD_EXPIRY (15 R383). -/
def execMasterLossHoldExpiry (t : Nat) (s : State) : Host.Outcome State Fault Refusal :=
  s.run t fun s =>
    if s.leads && !s.di.masterLost && s.heldFor s.di.heardAt (ms s.cfg.alloc.holdMs) then
      ((s.onDispatch fun d => { d with masterLost := true, entryValid := false, taken := true }).startRamp s.now).record .masterLost 0 []
    else s

/-- The first sweep divisible by 1000 at least 20 ms after a receipt (15 R389). -/
def State.phaseApplySweep (s : State) (receipt : Nat) : Nat :=
  let earliest := (s.th.reading - (s.now - receipt) + ms 20 + wrapSpan - s.epochNs + 999999) / 1000000
  ((earliest + 999) / 1000 * 1000) % two32

/-- CARRIER_PHASE_APPLY (15 R389). -/
def execCarrierPhaseApply (t : Nat) (s : State) : Host.Outcome State Fault Refusal :=
  s.run t fun s =>
    match s.di.newPhase with
    | some (p, r) =>
      if s.leads && decide (s.sweepNo % 1000 = 0) && decide (r + ms 20 ≤ s.now) then
        s.onDispatch fun d => { d with phase := p, phaseValid := true, phaseSweep := s.sweepNo, newPhase := none }
      else s
    | none => s

/-- The string status payload (15 R384): the limit record and the charge summary travel as last published. -/
def State.statusPayload (s : State) : List Nat :=
  let store := fun (oid n : Nat) => let r := s.nt.store.get oid []; if r.isEmpty then List.replicate n 0 else r
  let d := s.di
  [bitsOf [s.masterRank.isSome, s.isCandidate, s.rt.conv.running, s.cfg.streaming], strCode s.ct.stage, s.stringActionCode,
    if s.cfg.streaming then d.decim else 255] ++
    enc [(4, roundOpen 42 d.applied), fN 4 d.cycle, fN 4 s.rt.conv.carrier, fN 2 d.phase, fN 2 0] ++
    store 0x02002000 116 ++ store 0x02001000 34 ++ [0, 0]

/-- STRING_STATUS_SEND (15 R384): every leader, at the close of a sweep set. -/
def State.sendStatus (s : State) : State := if s.leads then s.dispatchSend .stringStatus 0 2 s.seenEpoch s.statusPayload else s

/-! ### The command frame (16 R410 to R412, R414) -/

/-- The module sends command frames (16 R410, R420): in Watch, Run, Entering Hibernate until the cores power down, and Flushing; the leader
alone. -/
def State.commands (s : State) : Bool :=
  s.leads && (decide (s.pw.state = .run ∨ s.pw.state = .watch ∨ s.pw.state = .flushing) || (decide (s.pw.state = .enteringHib) && !s.pw.coresMasked))

/-- The bus voltage of 16 R412, mV: HV4 of the last sweep, else its latest valid value within 100 sweeps, else the mean of the valid HV_b
averages of the joined branches. -/
def State.busVoltage (s : State) : Option Rat :=
  if qValid (s.achan 9).quality then some (s.hv 4 : Rat)
  else
    let back := match s.acq.lastHv4 with
      | some (n, v) => if (s.acq.sweep + two32 - n) % two32 ≤ 100 then some (v : Rat) else none
      | none => none
    match back with
    | some v => some v
    | none =>
      let vs := (s.joined.filter fun b => qValid (s.achan (5 + b)).quality).map s.hv
      if vs.isEmpty then none else some (meanR vs)

/-- The entry last accepted comes into force at its instant (15 R381, R383). -/
def State.applyEntry (s : State) : State :=
  if s.di.taken || !decide (s.di.applyFrom ≤ s.now) then s
  else
    let s1 := s.onDispatch fun d => { d with taken := true, cycle := d.nextCycle }
    if s1.di.entryValid then s1.onDispatch fun d => { d with power := d.setpoint, applying := true, ramping := false }
    else s1.startRamp s1.di.applyFrom

/-- The applied set-point now (15 R383; 16 R412): the entry clamped to the dispatch power limits at 2 s, or the ramp to zero under them; none
outside Run. -/
def State.stepSetpoint (s : State) : State :=
  let lim := fun (x : Rat) =>
    max (-((s.lim.dispatch.chgW.vals.getD 0 0 : Int) : Rat)) (min ((s.lim.dispatch.disW.vals.getD 0 0 : Int) : Rat) x)
  s.onDispatch fun d =>
    if s.pw.state ≠ .run then { d with applied := 0, applying := d.applying && !d.ramping, ramping := false }
    else if !d.applying then { d with applied := 0 }
    else if !d.ramping then { d with applied := lim (d.power : Rat) }
    else
      let v := lim d.applied
      let fall : Rat := (s.cfg.alloc.fallback : Rat) * ((s.now - d.rampAt : Nat) : Rat) / 1000000000
      let left := if absR v ≤ fall then 0 else if 0 < v then v - fall else v + fall
      { d with applied := left, rampAt := s.now, applying := !decide (left = 0), ramping := !decide (left = 0) }

/-- The power and current set-points of the frame, none with set-point valid clear (16 R411, R412). The current set-point
at a bus voltage of 0 is a free value (log 89). -/
def State.frameSetpoint (s : State) : State × Option (Int × Int) :=
  if !s.di.applying || !decide (s.pw.state = .run) then (s, none)
  else match s.busVoltage with
    | none => (s, none)
    | some v =>
      let p := roundOpen 42 s.di.applied
      if v = 0 then
        let r := s.freshNat
        (r.2, some (p, (BitVec.ofNat 32 r.1).toInt))
      else (s, some (p, clampS 32 (roundZero ((p : Rat) * 1000000 / v))))

/-- The octets of the command frame of a converter cycle (16 R411). -/
def State.commandFrame (s : State) (c : Nat) (sp : Option (Int × Int)) : List Nat :=
  let d := s.di
  let ph := match d.newPhase with | some (p, r) => (p, s.phaseApplySweep r) | none => (d.phase, d.phaseSweep)
  let tones := (List.range 8).flatMap fun i => enc [fN 4 (freqWord (s.cfg.tone.freqs.getD i 0)), fN 2 (s.sg.toneReq.get i 0)]
  let h := [0x11, s.cfg.string.index, if s.rt.islandStop then 0xA5 else 0, bitsOf [sp.isSome, s.leads, d.phaseValid]] ++
    octetsOf 4 (c / 10 % two32) ++ [c % 10, s.timeByte, 0, 0] ++
    enc [fN 4 (if s.isTwin then s.tw.epoch else 0), (4, (sp.getD (0, 0)).1), (4, (sp.getD (0, 0)).2), fN 4 s.lim.hard.sweep,
      (4, s.lim.hard.dis.vals.getD 0 0), (4, s.lim.hard.chg.vals.getD 0 0), fN 4 s.rt.delay, fN 2 ph.1, fN 2 0, fN 4 ph.2] ++ tones
  h ++ octetsOf 4 (Config.crc32 h)

/-- The converter cycle in progress, counted from the plant epoch (02 R38). -/
def State.converterCycle (s : State) : Nat := s.sinceEpoch / 100000

/-- COMMAND_FRAME_TRANSMIT (16 R409 to R412), with its transmit timestamp (02 R68); the tone requests are judged with the set-point it carries
(06 R162). -/
def commandTransmit (s : State) : State :=
  let c := s.converterCycle
  if !s.commands || decide (s.rt.cycle = c) then s
  else
    let s1 := s.applyEntry.stepSetpoint
    let (s1, sp) := s1.frameSetpoint
    let s1 := (s1.onRantus fun r => { r with setA := (sp.getD (0, 0)).2, setValid := sp.isSome }).toneCheck
    let f := s1.commandFrame c sp
    let s2 := s1.onRantus fun r => { r with
      cycle := c, frame := f, answered := false, judged := false
      limitSweep := s.lim.hard.sweep }
    (s2.emit .rantusCommand 0 f).timestamp 4 (c % 65536)

/-- COMMAND_FRAME_TRANSMIT (16 R411). -/
def execCommandFrameTransmit (t : Nat) (s : State) : Host.Outcome State Fault Refusal := s.run t commandTransmit

/-! ### The status frame (16 R416, R417, R419, R420) -/

/-- One-way delays of 1000 cycles give the mean carried in the frames; a change of more than 10 ns is recorded (16 R417). Delays in 2^-8 ns,
the sum in halves. -/
def State.linkDelay (s : State) (twice : Int) : State :=
  let sum := s.rt.delaySum + twice
  let s1 := s.sample 9 (roundOpen 46 ((twice : Rat) / 512))
  if s.rt.delayCount + 1 < 1000 then s1.onRantus fun r => { r with delaySum := sum, delayCount := r.delayCount + 1 }
  else
    let mean := (roundOpen 43 ((sum : Rat) / 2000)).toNat
    let s2 := s1.onRantus fun r => { r with delaySum := 0, delayCount := 0, delay := mean, delayKnown := true }
    if s.rt.delayKnown && (decide (s.rt.delay + 2560 < mean) || decide (mean + 2560 < s.rt.delay)) then s2.record .delayChange 0 (octetsOf 4 mean) else s2

/-- Rantus reads its timestamp queue in order as far as the entry of the cycle's command frame (02 R68, R69; 16 R417). -/
def State.readRantus (s : State) (tag : Nat) : State :=
  let es := (s.th.queues.get 5 {}).entries
  match es.findIdx? fun e => decide (e.tag = tag) with
  | some i =>
    let s1 := s.onThyme fun h => { h with queues := h.queues.upd 5 {} fun x => { x with entries := es.drop (i + 1) } }
    match es[i]? with
    | some e => s1.onRantus fun r => { r with sentAt := ((256 * e.at_ + e.frac / 256 : Nat) : Int) }
    | none => s1
  | none => s

/-- A status frame of the present cycle is used (16 R416): the converter's state and ratings, the tones active, and a changed fault code. -/
def State.useStatus (s : State) (f : StatusIn) : State :=
  let first := !s.rt.answered
  let s1 := s.onRantus fun r => { r with
    conv := f.conv, answered := true, missed := 0, linkLost := false, used := if first then r.used + 1 else r.used
    toneUnit := r.toneUnit &&& f.conv.tones }
  let s2 := if f.conv.faultCode = s.rt.conv.faultCode then s1 else s1.record .convFault 0 (octetsOf 2 f.conv.faultCode)
  let s3 := s2.sample 8 ((s.sinceEpoch % 100000 / 1000 : Nat) : Int)
  let s4 := if s.leads && first && decide (s.rt.cycle = s.converterCycle) then
      let s4 := s3.readRantus (s.rt.cycle % 65536)
      s4.linkDelay ((f.received : Int) - s4.rt.sentAt - 256 * (f.turnaround : Int))
    else s3
  s4.toneCheck

/-- STATUS_FRAME_RECEIVED (16 R410, R416). -/
def statusReceived (f : StatusIn) (s : State) : State :=
  let c := s.converterCycle
  if !decide (s.pw.state = .run ∨ s.pw.state = .watch ∨ s.pw.state = .flushing ∨ s.pw.state = .enteringHib) then s
  else if 60000 < s.sinceEpoch % 100000 then s.onRantus fun r => { r with lateFrames := wrapInc r.lateFrames }
  else if !f.ok || !decide (f.string = s.cfg.string.index) || !decide (f.echoSweep = c / 10 % two32) || !decide (f.echoCycle = c % 10) then
    s.onRantus fun r => { r with badFrames := wrapInc r.badFrames }
  else s.useStatus f

/-- STATUS_FRAME_RECEIVED (16 R416). -/
def execStatusFrameReceived (t : Nat) (f : StatusIn) (s : State) : Host.Outcome State Fault Refusal := s.run t (statusReceived f)

/-- A missed cycle breaks the second of used frames that resets function 0x34 (16 R419). -/
def State.breakLinkReset (s : State) : State :=
  s.onProt fun p => { p with fns := p.fns.map fun f => if f.code = 0x34 then { f with absentSince := none, absent := 0 } else f }

/-- STATUS_DEADLINE_MISSED (16 R419, R420): after 3 missed cycles the converter counts as not ready, not running and not accepting tones; after
10 the link is lost, which function 0x34 evaluates. -/
def deadlineMissed (s : State) : State :=
  if !s.commands || s.rt.answered || s.rt.judged || !decide (s.rt.cycle = s.converterCycle) || decide (s.sinceEpoch % 100000 < 60000) then s
  else
    let n := s.rt.missed + 1
    let s1 := (s.onRantus fun r => { r with missed := n, used := 0, judged := true, toneUnit := 0, linkLost := r.linkLost || decide (10 ≤ n) }).breakLinkReset
    if n < 3 then s1
    else (s1.onRantus fun r => { r with conv := { r.conv with ready := false, running := false, accepting := false } }).toneCheck

/-- STATUS_DEADLINE_MISSED (16 R419). -/
def execStatusDeadlineMissed (t : Nat) (s : State) : Host.Outcome State Fault Refusal := s.run t deadlineMissed

/-- A carrier reference instant E + (n + phase / 65536) / f_c (15 R388), less the sync fibre delay, lies within this nanosecond (16 R414); the
module's output delay is that of the pulse itself (log 93). -/
def State.syncInstant (s : State) : Bool :=
  let step := s.rt.conv.carrier * 65536
  let at_ := (s.sinceEpoch + s.cfg.conv.fibre / 256) * step
  decide ((s.di.phase * 1000000000000 + (65536000000000000 - at_ % 65536000000000000)) % 65536000000000000 < step)

/-- CARRIER_SYNC_PULSE (16 R414): the leader, while carrier phase valid is set, at its carrier reference instants. -/
def execCarrierSyncPulse (t : Nat) (s : State) : Host.Outcome State Fault Refusal :=
  s.run t fun s =>
    if s.commands && s.di.phaseValid && decide (0 < s.rt.conv.carrier) && s.syncInstant then
      (s.onRantus fun r => { r with pulses := wrapInc r.pulses }).emit .carrierSync 0 (octetsOf 2 s.di.phase ++ octetsOf 4 s.rt.conv.carrier)
    else s

end Sys2Proof.Machine
end

