-- ==== Sys2Proof/Machine/Net.lean ====
section
/-! DEFINITION. Sys2Proof/Machine/Net.lean: the plant network (chapter 17) and the object table of chapter 24: ports, telemetry sessions, reads,
subscriptions, data frames, GOOSE, and the commands that belong to no other chapter. -/

namespace Sys2Proof.Machine

open Sys2Proof

/-! ### Ports (17 R422 to R426) -/

/-- Update of one port. -/
def State.onPort (s : State) (p : Nat) (f : Port → Port) : State := s.onNet fun n => { n with ports := n.ports.upd p {} f }

/-- PLANT_PORT_DOWN (17 R423): link lost for 100 ms; with both plant ports down the plant network is lost. -/
def execPlantPortDown (t : Nat) (port : Fin 3) (s : State) : Host.Outcome State Fault Refusal :=
  s.run t fun s =>
    let p := port.val + 1
    if !s.portUp p then s
    else
      let s1 := s.onPort p fun x => { x with up := false }
      if p = 3 then s1
      else
        let s2 := s1.record .portDown p []
        if s2.portUp 1 || s2.portUp 2 then s2 else (s2.onNet fun n => { n with netLost := true }).record .networkLost 0 []

/-- PLANT_PORT_UP (17 R423, 15 R402). -/
def execPlantPortUp (t : Nat) (port : Fin 3) (s : State) : Host.Outcome State Fault Refusal :=
  s.run t fun s =>
    let s1 := s.onPort (port.val + 1) fun x => { x with up := true }
    if port.val < 2 then s1.onNet fun n => { n with netLost := false } else s1

/-- PRP_SUPERVISION_TRANSMIT (17 R422), on both LANs. -/
def execPrpSupervisionTransmit (t : Nat) (s : State) : Host.Outcome State Fault Refusal :=
  s.run t fun s =>
    if !s.netOn then s
    else s.turn 0x19 (ms s.cfg.plant.prpMs) fun s => (s.onNet fun n => { n with prpSeq := (n.prpSeq + 1) % 65536 }).emit .prpSupervision 0 (octetsOf 2 s.nt.prpSeq)

/-- ICMP_ECHO_REQUEST (17 R424): answered at up to 10 per second in total, the excess discarded and counted; one from outside the own unicast
prefix is not accepted. -/
def execIcmpEchoRequest (t : Nat) (port : Fin 3) (own : Bool) (ident : Nat) (s : State) : Host.Outcome State Fault Refusal :=
  s.run t fun s =>
    if !s.netOn then s
    else
      let p := port.val + 1
      let s0 := s.received p
      let b := bucketNow 10 10 s.nt.echoTokens s.nt.echoAt s.now
      if !own then s0.onPort p fun x => { x with discarded := wrapInc x.discarded }
      else if b < 1 then s0.onNet fun n => { n with echoDropped := wrapInc n.echoDropped }
      else (s0.onNet fun n => { n with echoTokens := b - 1, echoAt := some s.now }).emit .icmpReply p (octetsOf 4 ident)

/-- ADDRESS_RESOLUTION_REQUEST (17 R424): an ARP or neighbour discovery request for an own address is answered. -/
def execAddressResolutionRequest (t : Nat) (port : Fin 3) (own : Bool) (s : State) : Host.Outcome State Fault Refusal :=
  s.run t fun s =>
    if !s.netOn then s
    else
      let s0 := s.received (port.val + 1)
      if own then s0.emit .addressReply (port.val + 1) [] else s0

/-- UNACCEPTED_FRAME_DISCARD (17 R423, R425): outside the accepted set (0), a duplicate (1), from the wrong LAN (2), or errored (3). -/
def execUnacceptedFrameDiscard (t : Nat) (port : Fin 3) (why : Fin 4) (s : State) : Host.Outcome State Fault Refusal :=
  s.run t fun s =>
    if !s.netOn then s
    else (s.received (port.val + 1)).onPort (port.val + 1) fun x =>
      match why.val with
      | 0 => { x with discarded := wrapInc x.discarded }
      | 1 => { x with duplicates := wrapInc x.duplicates }
      | 2 => { x with wrongLan := wrapInc x.wrongLan }
      | _ => { x with errored := wrapInc x.errored }

/-! ### The object table (24 R561, R562) -/

/-- Period in sweeps (0: change-driven only) and highest instance of an object, by its identifier with instance 0; none for a reserved one. -/
def State.plainObject (s : State) (o : Nat) : Option (Nat × Nat) :=
  match o with
  | 0x01001000 | 0x01002000 | 0x01003000 => some (1000, 0)
  | 0x01004000 | 0x01005000 => some (0, 0)
  | 0x01010000 => some (1, 0)
  | 0x02001000 => some (100, 0)
  | 0x02002000 | 0x02003000 => some (4, 0)
  | 0x02004000 => some (100, 0)
  | 0x02005000 => some (10000, 0)
  | 0x02006000 => some (10000, 15)
  | 0x03001000 => some (100, 3)
  | 0x03002000 => some (4, 3)
  | 0x04001000 => some (4, 2047)
  | 0x04002000 => some (100, 2047)
  | 0x04003000 | 0x04004000 | 0x04005000 => some (10000, 2047)
  | 0x04006000 => some (1000, 2047)
  | 0x05001000 => some (10000, 127)
  | 0x05002000 => some (1000, 3)
  | 0x05003000 => some (0, 0)
  | 0x06001000 => some (10, 0x416)
  | 0x06002000 => some (100, 1)
  | 0x07001000 | 0x07002000 => some (4, 0)
  | 0x07003000 => some (0, 63)
  | 0x08001000 => some (1000, 0)
  | 0x08002000 => some (1000, 127)
  | 0x09001000 => some (1000, 3)
  | 0x0A001000 => some (4, 0)
  | 0x0B001000 => some (2, 0)
  | 0x0B002000 => some (0, 0)
  | 0x0C001000 => some (60000, 15)
  | 0x0D001000 => some (0, 0)
  | 0x0D002000 => some (1000, 0)
  | 0x0E001000 => some (1000, 0)
  | 0x0F001000 => some (1000, 1)
  | _ =>
    if 0x04010000 ≤ o ∧ o ≤ 0x04017000 then
      some (if windowBand (s.cfg.tone.freqs.getD ((o - 0x04010000) / 4096) 0) then 1000 else 10000, 2047)
    else if 0x0D200000 ≤ o ∧ o < 0x0D400000 then some (0, 4095)
    else none

/-- An object of chapter 24, plain or shadow (24 R561, R563). -/
def State.object (s : State) (o : Nat) : Option (Nat × Nat) :=
  let g := o / 16777216
  if 2 ≤ g ∧ g ≤ 7 ∧ o.testBit 23 then s.plainObject (o - 0x800000) else s.plainObject o

/-- The octets of a block of the event store (22 R537). -/
def EvBlock.bytes (b : EvBlock) : List Nat :=
  let body := b.records.flatMap EvRecord.bytes
  let r := octetsOf 4 b.number ++ octetsOf 4 ((b.records.head?.map fun e => e.seq).getD 0) ++ octetsOf 2 b.records.length ++
    octetsOf 2 body.length ++ octetsOf 4 0 ++ body
  r ++ List.replicate (1024 - r.length) 0

/-- What a read of an identifier gives (17 R430; 22 R541; 24 R564): the latest publication, or a block of the event store. -/
def State.readObject (s : State) (oid : Nat) : List Nat :=
  if 0x0D200000 ≤ oid ∧ oid < 0x0D400000 then
    match (s.ro.openBlock :: s.ro.held).find? fun b => decide (b.number % 2097152 = oid - 0x0D200000) with
    | some b => b.bytes
    | none => []
  else s.nt.store.get oid []

/-! ### Telemetry sessions (17 R428 to R434) -/

/-- Octets of UDP payload of a telemetry frame with a payload (17 R428: header 32, CRC 4). -/
def udp (payload : Nat) : Nat := payload + 36

/-- A frame that fails its header checks is counted (17 R428). -/
def State.badTele (s : State) : State := s.onNet fun n => { n with teleBad := wrapInc n.teleBad }

/-- TELEMETRY_INTERFACE_RESET (17 R429): a new session; the previous one ends with every subscription. -/
def teleReset (m : Maint) (ok : Bool) (s : State) : State :=
  if !s.reach m.key 1 then s
  else if !ok then s.badTele
  else
    let s := s.received (if m.key = 8 then 3 else m.port)
    match s.teleCfg m.key with
    | none => s
    | some _ =>
      let n := s.nt.nextSession
      let s1 := s.onNet fun x => { x with nextSession := max 1 (wrapInc n) }
      let ended := if s1.up.session ≠ 0 ∧ s1.up.server = m.key then
          s1.onUpdate fun u => { u with session := 0, offer := none, verifying := false, reply := none } else s1
      let s2 := ended.onTele m.key fun x => { x with
        client := { x.client with session := n, lastSeq := 0, stored := [] }
        selectors := [], shed := 0, sent10 := 0, dropped := 0, lastDrop := s.now, inFlight := none }
      s2.teleSend .teleReady m.key 2 m.seq ([stDone, 0, 0, 0] ++ octetsOf 4 n)

/-- TELEMETRY_INTERFACE_RESET (17 R429). -/
def execTelemetryInterfaceReset (t : Nat) (m : Maint) (ok : Bool) (s : State) : Host.Outcome State Fault Refusal := s.run t (teleReset m ok)

/-- A client frame that needs a session (17 R429, 15 R391): session, sequence and right, then `body`, which answers the payload; the answer is
stored with its frame type. -/
def State.sessionFrame (s : State) (m : Maint) (ok : Bool) (kind : EmKind) (rtype right : Nat) (plain : Nat → List Nat) (body : State → State × List Nat) :
    State :=
  if !s.reach m.key (if kind = .update then 1 else 2) then s
  else if !ok then s.badTele
  else
    let s := s.received (if m.key = 8 then 3 else m.port)
    match s.teleCfg m.key with
    | none => s
    | some c =>
      let x := s.tele m.key
      if m.session = 0 ∨ x.client.session ≠ m.session then s.teleSend kind m.key rtype m.seq (plain stUnknown)
      else if m.seq = x.client.lastSeq then s.teleSend kind m.key x.client.storedType m.seq x.client.stored
      else if m.seq < x.client.lastSeq then s.onTele m.key fun y => { y with client := { y.client with lower := wrapInc y.client.lower } }
      else
        let s1 := s.onTele m.key fun y => { y with client := { y.client with lastSeq := m.seq } }
        let r := if right < 8 ∧ !c.rights.testBit right then (s1, plain stNotAllowed) else body s1
        (r.1.teleSend kind m.key rtype m.seq r.2).onTele m.key fun y => { y with client := { y.client with stored := r.2, storedType := rtype } }

/-- A selector is accepted (17 R431; 24 R561). -/
def State.selectorOk (s : State) (x : Selector) : Bool :=
  match s.object (x.base / 4096 * 4096) with
  | some (_, top) => decide (x.last ≤ top) && decide (x.base % 4096 ≤ x.last) && decide (x.decim ≤ 7)
  | none => false

/-- SUBSCRIBE (17 R431): replaces the session's subscriptions, or is INVALID at the first bad selector with reason 1 plus its index. -/
def execSubscribe (t : Nat) (m : Maint) (ok : Bool) (dest : Nat) (sels : List Selector) (_reserved : Bool) (s : State) :
    Host.Outcome State Fault Refusal :=
  s.run t fun s => s.sessionFrame m ok .teleReply 4 0 (fun st => [st, 0, 0, 0]) fun s =>
    match sels.findIdx? fun x => !s.selectorOk x with
    | some i => (s, [stInvalid, 1 + i, 0, 0])
    | none =>
      if 64 < sels.length then (s, [stInvalid, 0, 0, 0])
      else (s.onTele m.key fun x => { x with selectors := sels, port := dest }, [stDone, 0, 0, 0])

/-- The read response's entries: a record that no longer fits is given the length 0xFFFF (17 R430). -/
def readEntries (room : Nat) : List (Nat × List Nat) → List Nat
  | [] => []
  | (oid, r) :: rest =>
    if 6 + r.length ≤ room then octetsOf 4 oid ++ octetsOf 2 r.length ++ r ++ readEntries (room - 6 - r.length) rest
    else octetsOf 4 oid ++ octetsOf 2 0xFFFF ++ readEntries (room - 6) rest

/-- READ (17 R430): 1 to 8 objects, in every state in which the ports are up; a plant client's read takes a token of its request bucket, one from
X13 the octets of its response from that port's bucket. -/
def readObjects (m : Maint) (ok : Bool) (ids : List Nat) (s : State) : State :=
  if !s.reach m.key 0 then s
  else if !ok || ids.isEmpty || !decide (ids.length ≤ 8) then s.badTele
  else
    let s := s.received (if m.key = 8 then 3 else m.port)
    match s.teleCfg m.key with
    | none => s
    | some c =>
      let x := s.tele m.key
      let room := 1416 - 6 * (ids.length - 1)
      let p := readEntries (if ids.length = 1 then 1416 else room) (ids.map fun i => (i, s.readObject i))
      if m.key = 8 then
        let b := bucketNow c.rate c.depth x.octets x.octetsAt s.now
        if b < (udp p.length : Rat) then s.onTele 8 fun y => { y with client := { y.client with dropped := wrapInc y.client.dropped } }
        else (s.onTele 8 fun y => { y with octets := b - udp p.length, octetsAt := some s.now }).teleSend .teleReply 8 7 m.seq p
      else
        let b := bucketNow c.reqRate c.reqRate x.client.tokens x.client.filledAt s.now
        if b < 1 then s.onTele m.key fun y => { y with client := { y.client with dropped := wrapInc y.client.dropped } }
        else (s.onTele m.key fun y => { y with client := { y.client with tokens := b - 1, filledAt := some s.now } }).teleSend .teleReply m.key 7 m.seq p

/-- READ (17 R430). -/
def execRead (t : Nat) (m : Maint) (ok : Bool) (ids : List Nat) (s : State) : Host.Outcome State Fault Refusal := s.run t (readObjects m ok ids)

/-! ### Data frames (17 R432 to R434) -/

/-- Records packed into payloads of at most 1408 octets after the data header (17 R432). -/
def packRecords : List (List Nat) → List (List (List Nat)) → List (List (List Nat))
  | [], acc => acc.reverse
  | r :: rest, [] => packRecords rest [[r]]
  | r :: rest, f :: acc =>
    if (f.map List.length).foldl (· + ·) 0 + r.length ≤ 1408 then packRecords rest ((f ++ [r]) :: acc) else packRecords rest ([r] :: f :: acc)

/-- Send one data frame, or drop it; after a drop every later frame of the publication is dropped too (17 R434). -/
def State.dataFrame (s : State) (key : Nat) (recs : List (List Nat)) (dry : Bool) : State × Bool :=
  let x := s.tele key
  let body := recs.flatMap id
  let size := udp (8 + body.length)
  match s.teleCfg key with
  | none => (s, dry)
  | some c =>
    let b := bucketNow c.rate c.depth x.octets x.octetsAt s.now
    if dry || decide (b < (size : Rat)) then
      (s.onTele key fun y => { y with octets := b, octetsAt := some s.now, dropped := wrapInc y.dropped, lastDrop := s.now, sent10 := 0 }, true)
    else
      let h := [bitsOf [decide (0 < x.shed), decide (0 < x.dropped)], x.shed] ++ octetsOf 2 recs.length ++ octetsOf 4 x.dropped
      ((s.onTele key fun y => { y with octets := b - size, octetsAt := some s.now, dropped := 0, sent10 := y.sent10 + size }).teleSend .teleData key 5 0
        (h ++ body), false)

/-- A selector takes a publication of an instance (17 R433). -/
def Selector.takes (x : Selector) (object inst n shed : Nat) (change : Bool) : Bool :=
  decide (x.base / 4096 * 4096 = object) && decide (x.base % 4096 ≤ inst) && decide (inst ≤ x.last) &&
    (if change then x.change else decide (n % (min 128 (2 ^ x.decim * 2 ^ shed)) = 0))

/-- A publication of instances `first` to `last` of an object, number n = floor(s / P) of its kind, goes to one session (17 R432 to R434); a flush
stops telemetry (19 R482). -/
def State.deliver (s : State) (key object first last n : Nat) (change : Bool) : State :=
  let x := s.tele key
  let insts := (List.range (last + 1 - first)).map (· + first)
  let recs := (insts.filter fun i => (x.selectors.any fun y => y.takes object i n x.shed change) && !(s.nt.store.get (object + i) []).isEmpty).map
    fun i => let r := s.nt.store.get (object + i) []; octetsOf 4 (object + i) ++ octetsOf 2 r.length ++ r
  if x.client.session = 0 ∨ recs.isEmpty ∨ s.pw.state = .flushing then s
  else
    let r := (packRecords recs []).foldl (fun (a : State × Bool) f => a.1.dataFrame key f a.2) (s, false)
    if r.2 then r.1.onTele key fun y => { y with shed := min 7 (y.shed + 1) } else r.1

/-- DATA_PUBLICATION (17 R432, R433): a change-driven publication of some instances, or the periodic one of every instance, once in its period of
P sweeps; s is the sweep count since the epoch, the one the command names. -/
def dataPublication (key object first last sweep : Nat) (change : Bool) (s : State) : State :=
  match s.object object with
  | none => s
  | some (p, top) =>
    if change then s.deliver key object first last 0 true
    else if p = 0 ∨ s.sweepAbs ≠ sweep then s
    else s.turn ((key + 2) * 0x1000000 + object / 4096) (ms p) fun s => s.deliver key object 0 top (sweep / p) false

/-- DATA_PUBLICATION (17 R432). -/
def execDataPublication (t : Nat) (key : Fin 9) (object first last sweep : Nat) (change : Bool) (s : State) : Host.Outcome State Fault Refusal :=
  s.run t (dataPublication key.val object first last sweep change)

/-- SHED_FACTOR_RELAX (17 R434): 10 s without a drop, at or below 45 % of the bucket rate; otherwise the next 10 s begin. -/
def execShedFactorRelax (t : Nat) (key : Fin 9) (s : State) : Host.Outcome State Fault Refusal :=
  s.run t fun s =>
    let x := s.tele key.val
    if x.lastDrop + sec 10 ≤ s.now ∧ 0 < x.shed then
      match s.teleCfg key.val with
      | none => s
      | some c =>
        let calm := decide (x.sent10 * 100 ≤ 45 * c.rate * 10)
        s.onTele key.val fun y => { y with shed := if calm then y.shed - 1 else y.shed, lastDrop := s.now, sent10 := 0 }
    else s

/-! ### Maintenance commands (17 R435, R436) -/

/-- The command codes of 17 R436. -/
def commandCodes : List Nat := [0x0101, 0x0102, 0x0103, 0x0501, 0x0601, 0x0602, 0x0701, 0x0801, 0x0A01, 0x0B01]

/-- UNKNOWN_COMMAND (17 R436): a reserved code is INVALID. -/
def execUnknownCommand (t : Nat) (m : Maint) (code : Nat) (s : State) : Host.Outcome State Fault Refusal :=
  s.run t fun s => if code ∈ commandCodes then s else s.maint m code fun s => (s, stInvalid, 0, [])

/-- CONFIRM_REPLACEMENT (17 R436 code 0x0501; 04 R117): a pending node becomes admitted, and with it its derating ends. -/
def execConfirmReplacement (t : Nat) (m : Maint) (node : Nat) (s : State) : Host.Outcome State Fault Refusal :=
  s.run t fun s => s.maint m 0x0501 fun s =>
    if !s.leads then refuse 1 s
    else if 127 < node then (s, stInvalid, 0, [])
    else if (s.node node).adm ≠ .pending then refuse 13 s
    else done (s.onNode node fun x => { x with adm := .admitted, replacement := false })

/-! ### GOOSE (17 R438 to R442) -/

/-- GOOSE_REPETITION (17 R440): at the doubling interval up to the maximum time. -/
def execGooseRepetition (t : Nat) (set : Fin 3) (s : State) : Host.Outcome State Fault Refusal :=
  s.run t fun s =>
    let g := s.nt.pubs.get set.val {}
    if s.gooseOn && s.due g.nextAt then
      let w := min (max 2 (s.gooseCfg set.val).maxMs) (2 * g.interval)
      let g1 := { g with sqNum := max 1 (wrapInc g.sqNum), interval := w, nextAt := some (s.now + ms w) }
      (s.onNet fun n => { n with pubs := n.pubs.put set.val {} g1 }).emit .goose set.val (s.gooseFrame set.val g1)
    else s

/-- An earlier string of the coupling list reports or falls silent (11 R306): coupled, and K12 goes off; uncoupled or silent, and its wait runs. -/
def State.couplingSeen (s : State) (string : Nat) (coupled : Bool) : State :=
  if !decide (s.cfg.ins.mode = 1) || !decide (string ∈ s.earlierStrings) then s
  else if coupled then
    let s1 := s.onProt fun p => { p with couple := p.couple.put string 0 0, coupledSeen := p.coupledSeen.put string 0 s.now }
    if s1.coilOn 12 then s1.coilOff 12 else s1
  else if string ∈ s.pr.couple.keys then s
  else s.onProt fun p => { p with couple := p.couple.put string 0 s.now }

/-- GOOSE_FRAME_RECEIVED (17 R441, R442). -/
def gooseReceived (f : GooseIn) (s : State) : State :=
  if !s.netOn then s
  else
    let s := s.received f.port
    let es := s.cfg.gooseSubs.zipIdx.filter fun e => decide (e.1.appid = f.appid)
    if es.isEmpty then s.onPort f.port fun x => { x with discarded := wrapInc x.discarded }
    else es.foldl (fun (s : State) (e : CfgGooseSub × Nat) =>
      let k := e.1
      let x := s.nt.subs.get e.2 {}
      let put := fun (s : State) (y : GooseSub) => s.onNet fun n => { n with subs := n.subs.put e.2 {} y }
      let newer := match x.stNum with | some n => notBefore f.stNum n | none => true
      let count := if k.coupling then 8 else f.count
      match (f.members[k.member - 1]?).join with
      | some v =>
        if decide (k.cbRef = f.cbRef) && decide (k.datSet = f.datSet) && decide (k.confRev = f.confRev) && decide (f.members.length = count) &&
            decide (1 ≤ k.member) && !f.flags && newer then
          let s1 := put s { x with stNum := some f.stNum, until_ := some (s.now + ms f.ttl), silent := false, value := v }
          if k.coupling then s1.couplingSeen k.string v
          else s1.onProt fun p => { p with gooseTrip := if v then insertN e.2 p.gooseTrip else p.gooseTrip.filter fun i => !decide (i = e.2) }
        else put s { x with rejected := wrapInc x.rejected }
      | none => put s { x with rejected := wrapInc x.rejected }) s

/-- GOOSE_FRAME_RECEIVED (17 R441). -/
def execGooseFrameReceived (t : Nat) (f : GooseIn) (s : State) : Host.Outcome State Fault Refusal := s.run t (gooseReceived f)

/-- GOOSE_SUBSCRIPTION_SILENT (17 R441, R442; 11 R306): timeAllowedToLive has run out, or no frame was ever accepted; a trip condition stays as it
was. -/
def execGooseSubscriptionSilent (t : Nat) (sub : Fin 16) (s : State) : Host.Outcome State Fault Refusal :=
  s.run t fun s =>
    match s.cfg.gooseSubs[sub.val]? with
    | none => s
    | some k =>
      let x := s.nt.subs.get sub.val {}
      if s.netOn && !x.silent && (s.due x.until_ || x.stNum.isNone) then
        let s1 := s.onNet fun n => { n with subs := n.subs.put sub.val {} { x with silent := true, until_ := none } }
        if k.coupling then s1.couplingSeen k.string false else s1.record .gooseSilent sub.val []
      else s

end Sys2Proof.Machine
end

