-- ==== Sys2Proof/Machine/Update.lean ====
section
/-! DEFINITION. Sys2Proof/Machine/Update.lean: firmware and configuration update (chapter 21; 20 R502, R503), and the twin-link frames that
carry state (14 R371, R374, R375). -/

namespace Sys2Proof.Machine

open Sys2Proof

/-! ### Sources, sessions and frames (21 R507 to R511) -/

/-- The bucket entry of an update source: X13, or a client whose address record 0x0E01 lists (21 R507, R510). -/
def State.updateServer (s : State) (m : Maint) : Option CfgServer :=
  if m.key = 8 then some { rate := s.cfg.maint.rate, depth := s.cfg.maint.depth }
  else match s.teleCfg m.key with
    | some c => s.cfg.servers.find? fun x => decide (x.addr = c.addr)
    | none => none

/-- The source has precedence (21 R508). -/
def State.precedence (s : State) (plant : Bool) : Bool := if s.pw.serviceEnable then !plant else plant

/-- Octets left to a source in its bucket: X13's is that of record 0x0903 (21 R510). -/
def State.tokensLeft (s : State) (m : Maint) (c : CfgServer) : Rat :=
  if m.key = 8 then bucketNow c.rate c.depth (s.tele 8).octets (s.tele 8).octetsAt s.now
  else
    let x := s.up.buckets.get m.key (0, 0)
    bucketNow c.rate c.depth x.1 (if m.key ∈ s.up.buckets.keys then some x.2 else none) s.now

/-- Take a frame's tokens from its source's octet bucket; none where too few (21 R510). -/
def State.takeTokens (s : State) (m : Maint) (c : CfgServer) (size : Nat) : Option State :=
  let b := s.tokensLeft m c
  if b < (size : Rat) then none
  else some (if m.key = 8 then s.onTele 8 fun y => { y with octets := b - size, octetsAt := some s.now }
    else s.onUpdate fun u => { u with buckets := u.buckets.put m.key (0, 0) (b - size, s.now) })

/-- An update frame of `size` octets of payload: the session and sequence rules of telemetry, the source, its tokens, and the answer with what
follows its status (21 R510). -/
def State.updateFrame (s : State) (m : Maint) (rtype size : Nat) (extra : State → Nat → List Nat) (body : State → State × Nat × Nat) : State :=
  s.sessionFrame m true .update rtype 8 (fun st => [st, 0, 0, 0] ++ extra s st) fun s =>
    match s.updateServer m with
    | none => (s, [stNotAllowed, 0, 0, 0] ++ extra s stNotAllowed)
    | some c =>
      let own := decide (s.up.session ≠ 0 ∧ s.up.server = m.key)
      let s := if own then s.onUpdate fun u => { u with lastFrame := s.now } else s
      let r := match s.takeTokens m c (udp size) with
        | some s1 => body s1
        | none => (s, stBusy, 2)
      (r.1, [r.2.1, r.2.2, 0, 0] ++ extra r.1 r.2.1)

/-- The update state item (21 R514, R517): staged slot and version, the schedule with its instants. -/
def State.writeUpdateItem (s : State) : State :=
  let u := s.up
  let x := u.schedule.getD {}
  s.writeItem (itemKey 0x0E 3 0) (enc ([fN 1 (u.stagedSlot.getD 255), fN 4 ((u.stagedFw.map fun h => h.version).getD 0), fN 1 x.kind] ++
    timeFields x.a0 ++ timeFields x.deadline))

/-- The checkpoint item (21 R513). -/
def State.writeCheckpoint (s : State) (h : ImgHeader) (at_ : Nat) : State :=
  (s.onUpdate fun u => { u with checkpoint := at_, checkDigest := some (h.kind, h.digest) }).writeItem (itemKey 0x0E 2 0)
    (h.kind :: octetsOf 16 h.digest ++ octetsOf 4 at_)

/-! ### The header check (21 R512) -/

/-- Anti-rollback counter an image is held against: the boot-selection record's, the higher of its two copies in recovery (21 R526), or the
directory's. -/
def State.storedCounter (s : State) (kind : Nat) : Nat :=
  if kind = 2 then (s.pg.dir.getD {}).antiRollback
  else if s.pw.recovery then max ((s.up.bootA.map fun b => b.antiRollback).getD 0) ((s.up.bootB.map fun b => b.antiRollback).getD 0)
  else s.up.boot.antiRollback

/-- A version is above a cancelled one. -/
def aboveCancelled (v : Nat) (c : Option Nat) : Bool := match c with | some x => decide (x < v) | none => true

/-- The first failed stage of the header check, 0 when all pass (21 R512). -/
def State.offerStage (s : State) (h : ImgHeader) : Nat :=
  let run := s.pg.running.getD {}
  let fw := decide (h.kind = 1)
  if !h.magicOk then 1
  else if !fw && (!decide (h.kind = 2) || s.pw.recovery) then 2
  else if h.product ≠ 0x2048 then 3
  else if !h.hwMask.testBit s.pw.variant then 4
  else if !(if fw then decide (1 ≤ h.length ∧ h.length ≤ 267386368) else decide (8 ≤ h.length ∧ h.length ≤ 4194304)) then 5
  else if h.antiRollback < s.storedCounter h.kind then 6
  else if !(if fw then decide (h.version ≠ s.up.boot.version) && aboveCancelled h.version s.up.cancelFw &&
                decide (h.plug = 0 ∧ h.safetyHash = 0 ∧ h.plant = 0 ∧ h.string = 255)
            else aboveCancelled h.version s.up.cancelCfg && decide (h.plug = s.pg.ident) && decide (h.minFirmware ≤ s.up.runVersion) &&
                (s.pg.running.isNone || (decide (run.version < h.version) && decide (h.string = run.string) && decide (h.plant = run.plant)))) then 7
  else if !(h.endorseOk && h.usage.testBit (if fw then 1 else 0)) then 8
  else if !h.sigOk then 9
  else 0

/-! ### Offer, data, verify (21 R509 to R514) -/

/-- The target of a download is cleared: the earlier partial payload is discarded (21 R513). -/
def State.clearTarget (s : State) (kind : Nat) : State :=
  if s.pw.recovery then s
  else if kind = 1 then
    s.onUpdate fun u => if u.boot.committed = 0 then { u with slotB := none } else { u with slotA := none }
  else
    let a := ((s.pg.dir.getD {}).active.map fun a => 1 - a).getD 0
    s.onPlug fun p => if a = 0 then { p with area0 := none } else { p with area1 := none }

/-- An accepted offer opens a session, at the checkpoint of the same header or at offset 0 (21 R507, R513). -/
def State.openUpdate (s : State) (m : Maint) (h : ImgHeader) : State :=
  let resume := decide (s.up.checkDigest = some (h.kind, h.digest))
  let s1 := if resume then s else (s.clearTarget h.kind).onUpdate fun u => { u with checkpoint := 0, checkDigest := none }
  s1.onUpdate fun u => { u with
    session := if m.key = 8 then 2 else 1
    server := m.key
    offer := some h
    offset := if resume then u.checkpoint else 0
    verifying := false
    lastFrame := s.now
    failedStage := 0
    reply := none }

/-- UPDATE_OFFER (21 R507 to R513). -/
def updateOffer (m : Maint) (h : ImgHeader) (s : State) : State × Nat × Nat :=
  let u := s.up
  if u.session ≠ 0 then (s, stBusy, 6)
  else if m.key ≠ 8 ∧ s.pw.serviceEnable = true then (s, stBusy, 9)
  else if u.trialKind ≠ 0 ∨ u.probation.isSome then (s, stBusy, 8)
  else
    let st := s.offerStage h
    if st = 1 ∨ st = 2 then (s.onUpdate fun u => { u with failedStage := st }, stRefused, 20 + st)
    else if (if h.kind = 1 then u.stagedFw.isSome else u.stagedCfg.isSome) then (s, stBusy, 7)
    else if st ≠ 0 then (s.onUpdate fun u => { u with failedStage := st }, stRefused, 20 + st)
    else (s.openUpdate m h, stDone, 0)

/-- UPDATE_OFFER (21 R512). -/
def execUpdateOffer (t : Nat) (m : Maint) (h : ImgHeader) (s : State) : Host.Outcome State Fault Refusal :=
  s.run t fun s => s.updateFrame m 0x21 512 (fun s st => octetsOf 4 (if st = stDone then s.up.offset else 0)) (updateOffer m h)

/-- UPDATE_DATA (21 R510, R513): taken at the next offset only; the checkpoint item follows each 64 KiB and the end of the payload. -/
def updateData (m : Maint) (offset len : Nat) (s : State) : State × Nat × Nat :=
  match s.up.offer with
  | none => (s, stInvalid, 0)
  | some h =>
    if s.up.session = 0 ∨ s.up.server ≠ m.key then (s, stInvalid, 0)
    else if offset ≠ s.up.offset then (s, stDone, 0)
    else if 1024 < len ∨ h.length < offset + len then (s, stInvalid, 0)
    else
      let e := offset + len
      let cp := if e = h.length then e else e / 65536 * 65536
      let s1 := s.onUpdate fun u => { u with offset := e }
      (if s.up.checkpoint < cp then s1.writeCheckpoint h cp else s1, stDone, 0)

/-- UPDATE_DATA (21 R510). -/
def execUpdateData (t : Nat) (m : Maint) (offset len : Nat) (s : State) : Host.Outcome State Fault Refusal :=
  s.run t fun s => s.updateFrame m 0x23 (8 + len) (fun s _ => octetsOf 4 s.up.offset ++ octetsOf 4 s.up.checkpoint) (updateData m offset len)

/-- The verified length in an answer: the next offset of the session (21 R510). -/
def verifiedLength (s : State) (_ : Nat) : List Nat := octetsOf 4 s.up.offset

/-- UPDATE_VERIFY (21 R514): accepted when the payload is in. -/
def updateVerify (m : Maint) (s : State) : State × Nat × Nat :=
  match s.up.offer with
  | none => (s, stInvalid, 0)
  | some h =>
    if s.up.session = 0 ∨ s.up.server ≠ m.key ∨ s.up.offset ≠ h.length then (s, stInvalid, 0)
    else if s.up.verifying then (s, stBusy, 6)
    else (s.onUpdate fun u => { u with verifying := true, verifyAt := s.now, reply := some (m.key, m.seq) }, stStarted, 0)

/-- UPDATE_VERIFY (21 R514). -/
def execUpdateVerify (t : Nat) (m : Maint) (s : State) : Host.Outcome State Fault Refusal :=
  s.run t fun s => s.updateFrame m 0x25 0 verifiedLength (updateVerify m)

/-- The final response of a verification, under the sequence of its request; it is what a repeated request is answered (21 R514; 15 R391). -/
def State.verifyAnswer (s : State) (status reason : Nat) : State :=
  match s.up.reply with
  | none => s
  | some (k, q) =>
    let p := [status, reason, 0, 0] ++ verifiedLength s status
    let s1 := s.teleSend .update k 0x25 q p
    if (s.tele k).client.lastSeq = q then s1.onTele k fun y => { y with client := { y.client with stored := p, storedType := 0x25 } } else s1

/-- A verification has failed: nothing is staged (21 R514). -/
def State.verifyFailed (s : State) (stage : Nat) : State :=
  (s.onUpdate fun u => { u with lastResult := 6, failedStage := stage }).verifyAnswer stRefused 34

/-- The offered header with the payload's own verdicts (20 R499; 21 R514). -/
def ImgHeader.withPayload (o p : ImgHeader) : ImgHeader :=
  { o with hashOk := p.hashOk, sectionsOk := p.sectionsOk, unwrapOk := p.unwrapOk, rulesOk := p.rulesOk }

/-- A verified firmware image is staged in the slot that is not committed (21 R513, R514). -/
def State.stageFirmware (s : State) (h : ImgHeader) (versions : List Nat) : State :=
  let k := 1 - s.up.boot.committed
  (s.onUpdate fun u => { (if k = 0 then { u with slotA := some h } else { u with slotB := some h } : Update) with
    stagedFw := some h
    stagedSlot := some k
    stagedVersions := versions
    stagedFwPlant := decide (u.session = 1) }).writeUpdateItem

/-- A verified configuration image is staged in the area that is not active, and the directory names it (20 R502; 21 R514). -/
def State.stageConfig (s : State) (g : Image) : State :=
  let a := ((s.pg.dir.getD {}).active.map fun a => 1 - a).getD 0
  let s1 := (s.onPlug fun p => if a = 0 then { p with area0 := some g } else { p with area1 := some g }).writeDir fun d => { d with staged := some a }
  s1.onUpdate fun u => { u with stagedCfg := some g.header, stagedCfgPlant := decide (u.session = 1) }

/-- VERIFICATION_COMPLETE (21 R514): the payload as read back, or the protocol versions of a firmware's manifest. -/
def verificationComplete (img : Image) (versions : List Nat) (s : State) : State :=
  match s.up.offer with
  | none => s
  | some o =>
    if !s.up.verifying || s.pw.recovery then s
    else
      let h := ImgHeader.withPayload o img.header
      let g : Image := { header := h, records := img.records, cfg := img.cfg }
      let st := if h.kind = 1 then (if h.hashOk then 0 else 10) else s.imageStage g
      let s1 := if st ≠ 0 then s.verifyFailed st
        else ((if h.kind = 1 then s.stageFirmware h versions else s.stageConfig g).verifyAnswer stDone 0)
      s1.onUpdate Update.endSession

/-- VERIFICATION_COMPLETE (21 R514). -/
def execVerificationComplete (t : Nat) (img : Image) (versions : List Nat) (s : State) : Host.Outcome State Fault Refusal :=
  s.run t (verificationComplete img versions)

/-! ### Schedule and cancel (21 R509, R517) -/

/-- The staged image of a type. -/
def Update.staged (u : Update) (kind : Nat) : Option ImgHeader := if kind = 1 then u.stagedFw else if kind = 2 then u.stagedCfg else none

/-- The staged image still verifies (20 R502). -/
def State.stagedOk (s : State) (kind : Nat) : Bool :=
  match s.up.staged kind with
  | none => false
  | some _ => if kind = 1 then true else decide (s.imageStage (s.pg.areaOr (((s.pg.dir.getD {}).staged).getD 0)) = 0)

/-- The new firmware speaks the partner's protocol version (21 R522). -/
def State.speaksPartner (s : State) (kind : Nat) : Bool := !s.isTwin || !decide (kind = 1) || decide (s.tw.partnerProto ∈ s.up.stagedVersions)

/-- UPDATE_SCHEDULE (21 R509, R511, R517; 13 R350, R351): a change of the safety hash needs an authorisation with operation 1, and the safety
counter advances on acceptance. An instant whose nanoseconds are 10^9 or more is invalid (00 R8). -/
def updateSchedule (m : Maint) (kind : Nat) (a0 deadline : PTime) (auth : AuthIn) (s : State) : State × Nat × Nat :=
  let now := s.th.reading
  if !a0.ok || !deadline.ok then (s, stInvalid, 0)
  else if s.up.schedule.isSome ∨ s.up.trialKind ≠ 0 ∨ s.up.probation.isSome then (s, stBusy, 8)
  else if a0.ns < now + sec 10 ∨ deadline.ns < a0.ns ∨ a0.ns + sec 86400 < deadline.ns ∨ s.stagedOk kind = false then (s, stRefused, 33)
  else if !s.speaksPartner kind then (s, stRefused, 31)
  else
    let after := ((s.up.staged kind).map fun h => h.safetyHash).getD 0
    let r := if kind = 2 ∧ after ≠ s.safetyHash then s.authorise 1 auth after else (s, 0)
    if r.2 ≠ 0 then (r.1, stRefused, 32)
    else
      ((r.1.onUpdate fun u => { u with schedule := some { kind := kind, a0 := a0.ns, deadline := deadline.ns, plantSource := !decide (m.key = 8) } }).writeUpdateItem,
        stDone, 0)

/-- UPDATE_SCHEDULE (21 R517). -/
def execUpdateSchedule (t : Nat) (m : Maint) (kind : Nat) (a0 deadline : PTime) (auth : AuthIn) (s : State) : Host.Outcome State Fault Refusal :=
  s.run t fun s => s.updateFrame m 0x27 40 verifiedLength (updateSchedule m kind a0 deadline auth)

/-- The staged image of a type and its schedule are removed; a later image must exceed its version (21 R509). -/
def State.removeStaged (s : State) (kind : Nat) : State :=
  match s.up.staged kind with
  | none => s
  | some h =>
    let s1 := s.onUpdate fun u => { (if kind = 1 then { u with stagedFw := none, stagedSlot := none, cancelFw := some h.version }
        else { u with stagedCfg := none, cancelCfg := some h.version } : Update) with
      schedule := u.schedule.filter fun x => !decide (x.kind = kind) }
    (if kind = 2 then s1.writeDir fun d => { d with staged := none } else s1).writeUpdateItem

/-- UPDATE_CANCEL (21 R507 to R509): not of what the source with precedence staged or scheduled. -/
def updateCancel (m : Maint) (kind : Nat) (s : State) : State × Nat × Nat :=
  let u := s.up
  let plant := !decide (m.key = 8)
  let fromPlant := if kind = 1 then u.stagedFwPlant else u.stagedCfgPlant
  let other := (u.staged kind).isSome && (!(fromPlant == plant) ||
    (match u.schedule with | some x => decide (x.kind = kind) && !(x.plantSource == plant) | none => false))
  if kind ≠ 1 ∧ kind ≠ 2 then (s, stInvalid, 0)
  else if !s.precedence plant && other then (s, stBusy, 9)
  else ((s.removeStaged kind).onUpdate Update.endSession, stDone, 0)

/-- UPDATE_CANCEL (21 R509). -/
def execUpdateCancel (t : Nat) (m : Maint) (kind : Nat) (s : State) : Host.Outcome State Fault Refusal :=
  s.run t fun s => s.updateFrame m 0x29 4 verifiedLength (updateCancel m kind)

/-- UPDATE_SESSION_TIMEOUT (21 R507): 60 s without an update frame from the source. -/
def execUpdateSessionTimeout (t : Nat) (s : State) : Host.Outcome State Fault Refusal :=
  s.run t fun s => if s.up.session ≠ 0 ∧ s.up.lastFrame + sec 60 ≤ s.now then s.onUpdate Update.endSession else s

/-! ### Activation (20 R503; 21 R518, R519, R522, R523) -/

/-- The partner's conditions of 21 R522. -/
def State.partnerAgrees (s : State) (x : Schedule) : Bool :=
  !s.isTwin || (s.leads && s.tw.partnerReady && decide (s.tw.partnerType = x.kind) && decide (s.tw.partnerA0 = x.a0) &&
    decide (((s.up.staged x.kind).map fun h => h.version) = some s.tw.partnerVersion) && s.speaksPartner x.kind)

/-- The conditions of 21 R518 without the twin's. -/
def State.activatable (s : State) (x : Schedule) : Bool :=
  decide (s.pw.state = .watch ∨ s.pw.state = .run) && !decide (s.th.state = .unset) && !s.sequenceInHand && (s.up.staged x.kind).isSome

/-- FIRMWARE_ACTIVATION (21 R519). -/
def State.activateFirmware (s : State) (i : StartIn) : State :=
  match s.up.stagedFw, s.up.stagedSlot with
  | some h, some k =>
    let s1 := s.writeBoot fun b => { b with trial := true, trialSlot := some k, attempts := 3, trialVersion := h.version }
    let s2 := s1.onUpdate fun u => { u.endSession with schedule := none, stagedFw := none, stagedSlot := none, trialKind := 1, committedSelf := false }
    s2.writeUpdateItem.requestReset 3 7 i
  | _, _ => s

/-- CONFIGURATION_ACTIVATION (20 R503): abandoned where the plug is unreadable (1), absent (2) or another (3), or its directory cannot be
written (4). -/
def State.activateConfig (s : State) (i : StartIn) (dirOk : Bool) : State :=
  let why := if !i.present then 2 else if !i.readable then 1
    else if (match i.fitted with | some f => !decide (f.ident = s.pg.ident) | none => false) then 3 else if !dirOk then 4 else 0
  if why ≠ 0 then ((s.onUpdate fun u => { u with schedule := none, lastResult := 5 }).writeUpdateItem).record .activationAbandoned 0 [why]
  else match (s.pg.dir.getD {}).staged with
    | none => s
    | some a =>
      let h := (s.pg.areaOr a).header
      let s1 := s.writeDir fun d => { d with
        active := some a
        trial := true
        empty := false
        staged := none
        epoch := h.version
        antiRollback := max d.antiRollback h.antiRollback }
      let s2 := s1.onUpdate fun u => { u.endSession with schedule := none, stagedCfg := none, trialKind := 2, committedSelf := false }
      s2.writeUpdateItem.requestReset 3 8 i

/-- Activate the scheduled image. -/
def State.activate (s : State) (x : Schedule) (i : StartIn) (dirOk : Bool) : State :=
  if x.kind = 1 then s.activateFirmware i else s.activateConfig i dirOk

/-- ACTIVATION (21 R518, R519, R522): at the first sweep start from A0 on at which the conditions hold, before the deadline. -/
def activation (i : StartIn) (dirOk : Bool) (s : State) : State :=
  match s.up.schedule with
  | none => s
  | some x =>
    if !x.follow && decide (x.a0 ≤ s.th.reading ∧ s.th.reading ≤ x.deadline) && s.activatable x && s.partnerAgrees x then
      (s.onTwin fun w => { w with partnerCommitted := false }).activate x i dirOk
    else s

/-- ACTIVATION (21 R518). -/
def execActivation (t : Nat) (i : StartIn) (dirOk : Bool) (s : State) : Host.Outcome State Fault Refusal := s.run t (activation i dirOk)

/-- ACTIVATION_LAPSED (21 R518): the image stays staged. -/
def execActivationLapsed (t : Nat) (s : State) : Host.Outcome State Fault Refusal :=
  s.run t fun s =>
    match s.up.schedule with
    | none => s
    | some x =>
      if !x.follow && decide (x.deadline < s.th.reading) then
        ((s.onUpdate fun u => { u with schedule := none, lastResult := 4 }).writeUpdateItem).record .lapsed x.kind []
      else s

/-- FOLLOW_ACTIVATION (21 R523): the follow delay after the partner's commit, while the partner is ready; the deadline no longer applies. -/
def followActivation (i : StartIn) (dirOk : Bool) (s : State) : State :=
  match s.up.schedule with
  | none => s
  | some x =>
    if x.follow && decide (x.followAt ≠ 0 ∧ x.followAt ≤ s.now) && s.activatable x then
      if s.leads && s.tw.partnerReady then s.activate x i dirOk
      else s.onUpdate fun u => { u with schedule := some { x with waitSince := some (x.waitSince.getD s.now) } }
    else s

/-- FOLLOW_ACTIVATION (21 R523). -/
def execFollowActivation (t : Nat) (i : StartIn) (dirOk : Bool) (s : State) : Host.Outcome State Fault Refusal := s.run t (followActivation i dirOk)

/-- FOLLOW_ACTIVATION_WAITING (21 R523): recorded after 600 s. -/
def execFollowActivationWaiting (t : Nat) (s : State) : Host.Outcome State Fault Refusal :=
  s.run t fun s =>
    match s.up.schedule with
    | none => s
    | some x =>
      if x.follow && decide (x.followAt ≠ 0 ∧ x.followAt + sec 600 ≤ s.now) && !x.waitRecorded && !s.tw.partnerReady then
        (s.onUpdate fun u => { u with schedule := some { x with waitRecorded := true } }).record .followWaiting x.kind []
      else s

/-! ### Probation (21 R520, R525) -/

/-- Both twins have committed an activation (21 R524, R525): after a configuration a key roll is due, which the leader begins. -/
def State.bothCommitted (s : State) (kind : Nat) : State :=
  if s.isTwin && s.up.committedSelf && s.tw.partnerCommitted then
    let s1 := (s.onUpdate fun u => { u with committedSelf := false, keyRollDue := u.keyRollDue || decide (kind = 2) }).onTwin fun w =>
      { w with partnerCommitted := false }
    s1.rollStart
  else s

/-- The image in trial is committed (21 R520). -/
def State.commitTrial (s : State) (kind : Nat) : State :=
  let s1 :=
    if kind = 1 then
      let c := match s.up.boot.trialSlot with | some k => ((s.up.slot k).map fun h => h.antiRollback).getD 0 | none => 0
      s.writeBoot fun b => { b with
        committed := b.trialSlot.getD b.committed
        trial := false
        trialSlot := none
        attempts := 0
        version := b.trialVersion
        trialVersion := 0
        antiRollback := max b.antiRollback c }
    else s.writeDir fun d => { d with trial := false }
  let v := if kind = 1 then s.up.boot.trialVersion else (s.pg.dir.getD {}).epoch
  ((s1.onUpdate fun u => { u with probation := none, trialKind := 0, trialDeadline := none, lastResult := 1, committedSelf := true }).record
    .committed kind (octetsOf 4 v)).bothCommitted kind

/-- PROBATION_END (21 R520): after 600 s. -/
def execProbationEnd (t : Nat) (s : State) : Host.Outcome State Fault Refusal :=
  s.run t fun s =>
    match s.up.probation with
    | some (k, b) => if b + sec 600 ≤ s.now then s.commitTrial k else s
    | none => s

/-- PROBATION_START_TIMEOUT (21 R520): the start is not complete within 120 s of the reset, or ready not reached within 300 s. -/
def probationStartTimeout (i : StartIn) (s : State) : State :=
  if s.due s.up.trialDeadline && s.up.probation.isNone then
    let s1 := s.onUpdate fun u => { u with trialDeadline := none }
    if s.up.trialKind = 1 then (s1.writeBoot fun b => { b with attempts := 0 }).requestReset 3 7 i
    else if s.up.trialKind = 2 then (s1.revertDir.record .reverted 0 []).requestReset 3 8 i
    else s1
  else s

/-- PROBATION_START_TIMEOUT (21 R520). -/
def execProbationStartTimeout (t : Nat) (i : StartIn) (s : State) : Host.Outcome State Fault Refusal := s.run t (probationStartTimeout i)

/-- ROLL_SWEEP (21 R525). -/
def execRollSweep (t : Nat) (s : State) : Host.Outcome State Fault Refusal := s.run t State.rollDue

/-! ### Recovery (21 R526, R527) -/

/-- RECOVERY_VERIFICATION_COMPLETE (21 R527): the slot that is not committed is written, or the committed one where that fails verification; it
is in trial where the other slot verifies, else committed; then the module resets with cause 0x07. -/
def recoveryVerified (p : ImgHeader) (i : StartIn) (s : State) : State :=
  match s.up.offer with
  | none => s
  | some o =>
    if !s.up.verifying || !s.pw.recovery then s
    else
      let h := ImgHeader.withPayload o p
      if !h.hashOk then (s.verifyFailed 10).onUpdate Update.endSession
      else
        let b := s.up.boot
        let k := if s.slotOk i b.committed then 1 - b.committed else b.committed
        let s1 := (s.verifyAnswer stDone 0).onUpdate fun u => if k = 0 then { u with slotA := some h } else { u with slotB := some h }
        let o := 1 - k
        let s2 := if s1.slotOk i o then
            s1.writeBoot fun b => { b with
              committed := o
              trial := true
              trialSlot := some k
              attempts := 3
              version := ((s1.up.slot o).map fun h => h.version).getD 0
              trialVersion := h.version }
          else s1.writeBoot fun b => { b with
              committed := k
              trial := false
              trialSlot := none
              attempts := 0
              version := h.version
              trialVersion := 0
              antiRollback := max b.antiRollback h.antiRollback }
        (s2.onUpdate Update.endSession).requestReset 3 7 i

/-- RECOVERY_VERIFICATION_COMPLETE (21 R527). -/
def execRecoveryVerificationComplete (t : Nat) (h : ImgHeader) (i : StartIn) (s : State) : Host.Outcome State Fault Refusal :=
  s.run t (recoveryVerified h i)

/-! ### Twin-link frames that carry state (14 R371, R372, R374, R375; 21 R522 to R525) -/

/-- The configuration epoch of this twin's fallback while its configuration is in trial (21 R524). -/
def State.fallbackEpoch (s : State) : Option Nat :=
  if s.up.trialKind = 2 then (s.pg.dir.getD {}).active.map fun a => (s.pg.areaOr (1 - a)).header.version else none

/-- The twins may differ in epoch and hash (21 R524): one is in trial with the other's running image as fallback, or one alone has committed. -/
def State.mayDiffer (s : State) (f : ShadowIn) : Bool :=
  decide (s.fallbackEpoch = some f.cfgEpoch) || f.trial || s.up.committedSelf || s.tw.partnerCommitted

/-- What the partner says of its image and update (21 R522 to R525). -/
def State.updateHeard (s : State) (f : ShadowIn) : State :=
  let own := s.pg.running.getD {}
  let s1 := s.onTwin fun w => { w with
    partnerType := f.stagedKind
    partnerVersion := f.stagedVersion
    partnerA0 := f.stagedA0
    partnerTrial := f.trial
    partnerHash := some f.hash
    flowEpoch := f.cfgEpoch
    hibAgree := f.hibAgree
    mismatchId := (!decide (f.cfgEpoch = own.version) || !decide (f.hash = own.safetyHash)) && !s.mayDiffer f }
  let s2 := if f.trial then s1.holdFollow else s1
  let s3 := if f.committed = 0 then s2
    else ((s2.onTwin fun w => { w with partnerCommitted := true }).onUpdate fun u => { u with schedule := u.schedule.map fun x =>
      if x.kind = f.committed ∧ x.a0 ≤ s.th.reading then { x with follow := true, followAt := s.now + sec s.cfg.upBeh.followS } else x }).bothCommitted f.committed
  let s4 := if f.abandoned ∧ (s3.up.schedule.any fun x => x.follow) then
      ((s3.onUpdate fun u => { u with schedule := none, lastResult := 5 }).writeUpdateItem).record .staggered 0 [] else s3
  if f.view.keyEpoch = some own.version ∧ !s4.leads then s4.onUpdate fun u => { u with keyRollDue := false } else s4

/-- The frame type of 14 R374: learned-state item, bulk state or shadow. -/
def ShadowIn.ftype (f : ShadowIn) : Nat := if f.item.isSome || f.lastItem then 5 else if f.lastBulk then 6 else 4

/-- TWIN_SHADOW_FRAME (14 R371, R372, R374, R375; 07 R219; 21 R522): a follower or syncing twin takes the leader's state and items. -/
def twinShadowFrame (f : ShadowIn) (s : State) : State :=
  if !s.twinOn then s
  else
    let s1 := s.takeHdr f.ftype f.hdr
    if !s.hdrOk f.hdr then s1
    else
      let s2 := (s1.updateHeard f).compareTwin f.hdr
      if s2.tw.role = .follower ∨ s2.tw.role = .syncing then
        let s3 := s2.shadowView f.view
        let s4 := match f.item with | some (k, q, w, p) => s3.mirrorItem k q w p | none => s3
        s4.onTwin fun w => { w with itemsSynced := w.itemsSynced || f.lastItem, bulkSynced := w.bulkSynced || f.lastBulk }
      else s2

/-- TWIN_SHADOW_FRAME (14 R375). -/
def execTwinShadowFrame (t : Nat) (f : ShadowIn) (s : State) : Host.Outcome State Fault Refusal := s.run t (twinShadowFrame f)

end Sys2Proof.Machine
end

