-- ==== Sys2Proof/Machine/Store.lean ====
section
/-! DEFINITION. Sys2Proof/Machine/Store.lean: the windows of the recorder and its monitors (22 R533 to R545), the memory scrub (23 R555) and
the plant delivery window (23 R559). -/

namespace Sys2Proof.Machine

open Sys2Proof

/-- The plant time lies at the start of a window of `n` s, counted from the epoch, to the sweep. -/
def State.atWindow (s : State) (n : Nat) : Bool := decide (s.sweepAbs % (1000 * n) = 0)

/-- EVENT_RECORD_CLOSE (22 R533): 1 s after its last occurrence. -/
def execEventRecordClose (t : Nat) (ev : Ev) (subject : Nat) (s : State) : Host.Outcome State Fault Refusal :=
  s.run t fun s =>
    s.closeOld ev subject

/-- The open block is due: full, or 1 s after the first record entered it (22 R538). -/
def State.blockDue (s : State) : Bool :=
  !s.ro.fault && !s.ro.openBlock.records.isEmpty && (decide (1008 ≤ s.ro.openBlock.used) || s.heldFor s.ro.openSince (sec 1))

/-- An erase block that fails is retired (22 R539): it takes a spare, or else its blocks leave the ring; with no block left to write the store
is at fault (22 R542). -/
def State.retire (s : State) (eraseBlock blocks : Nat) : State :=
  let s1 := s.onRosemary fun r =>
    if 0 < r.spares then { r with spares := r.spares - 1 }
    else { r with
      ringSize := r.ringSize - blocks
      held := r.held.take (r.ringSize - blocks)
      fault := decide (r.ringSize ≤ blocks) }
  s1.record .blockRetired eraseBlock (octetsOf 4 s1.ro.spares)

/-- EVENT_BLOCK_COMMIT (22 R538, R539): the block is read back; one that fails is retired and the block goes to another. -/
def execEventBlockCommit (t : Nat) (good : Bool) (eraseBlock blocks : Nat) (s : State) : Host.Outcome State Fault Refusal :=
  s.run t fun s =>
    if s.blockDue then
      let s1 := if good then s else s.retire eraseBlock blocks
      if s1.ro.fault then s1 else s1.onRosemary Rosemary.commit
    else s

/-- WRITE_CEILING_WINDOW (22 R535, R542, R544 monitor 0xD): a window of 1 s ends. -/
def execWriteCeilingWindow (t : Nat) (s : State) : Host.Outcome State Fault Refusal :=
  s.run t fun s =>
    if s.powered then s.turn 14 (sec 1) fun s =>
      (s.sample 13 (roundOpen 46 ((s.ro.windowOctets : Rat) / 1024))).onRosemary fun r =>
        { r with ceiling := r.discardWindow, discardWindow := false, windowOctets := 0 }
    else s

/-- The monitor record of a set (22 R545). -/
def State.monitorRecord (s : State) (n set : Nat) (m : MonSet) : List Nat :=
  let none_ := decide (m.count = 0)
  s.body ([fN 2 n, fN 1 set, fQ (qIf !none_), fN 4 m.start, fN 4 m.count, (4, m.min), (4, m.max),
    (4, if none_ then 0 else roundZero ((m.sum : Rat) / (m.count : Rat)))] ++ (List.range 32).map fun k => fN 4 (m.bins.get k 0))

/-- MONITOR_WINDOW_END (22 R543, R545): the window set and the cumulative set are published, in that order, and the window set starts anew. -/
def execMonitorWindowEnd (t : Nat) (mon : Fin 15) (s : State) : Host.Outcome State Fault Refusal :=
  s.run t fun s =>
    let n := mon.val + 1
    if s.powered && s.atWindow (max 1 (s.monCfg n).window) then s.turn (0x30 + n) (sec 1) fun s =>
      let oid := 0x0C001000 + n
      let s1 := s.publish oid (s.monitorRecord n 0 (s.dl.windows.get n {}))
      let s2 := s1.publish oid (s1.monitorRecord n 1 (s1.dl.cumulative.get n {}))
      s2.onDill fun d => { d with windows := d.windows.put n {} { start := s.sweepNo } }
    else s

/-- PLANT_DELIVERY_WINDOW (23 R559): a late frame or a loss in a window of 1 s; it clears after 10 windows without. -/
def execPlantDeliveryWindow (t : Nat) (s : State) : Host.Outcome State Fault Refusal :=
  s.run t fun s => if !s.publishes then s else s.turn 15 (sec 1) fun s =>
    if s.di.lateRun then
      let s1 := s.record .plantDelivery s.di.lateFrom []
      (s1.onDispatch fun d => { d with lateRun := false, cleanWindows := 0 }).onDill fun d => { d with delivery := true }
    else
      let n := min 10 (s.di.cleanWindows + 1)
      (s.onDispatch fun d => { d with cleanWindows := n }).onDill fun d => { d with delivery := d.delivery && decide (n < 10) }

/-- A scrub is due: 1 h after the last of the working memory, 24 h after the last of the stores, at once after a start (23 R555). -/
def State.scrubDue (s : State) (stores : Bool) : Bool :=
  let last := if stores then s.dl.lastStoreScrub else s.dl.lastScrub
  decide (last = 0) || decide (last + sec (if stores then 86400 else 3600) ≤ s.now)

/-- MEMORY_SCRUB (23 R555): working memory every hour, the firmware and learned-state stores every 24 h; an uncorrectable error in working
memory is an application-cluster fault, and the watchdog reset follows (19 R479). -/
def execMemoryScrub (t : Nat) (stores : Bool) (corrected : Nat) (uncorrectable : Bool) (i : StartIn) (s : State) : Host.Outcome State Fault Refusal :=
  s.run t fun s =>
    if !s.publishes || !s.scrubDue stores then s
    else
      let s1 := s.onDill fun d => { d with
        corrected := (d.corrected + corrected) % two32
        lastScrub := if stores then d.lastScrub else s.now
        lastStoreScrub := if stores then s.now else d.lastStoreScrub }
      let s2 := s1.testDone 6
      if uncorrectable && !stores then s2.requestReset 2 4 i else s2

end Sys2Proof.Machine
end

