-- ==== Sys2Proof/Machine/Slots.lean ====
section
/-! DEFINITION. Sys2Proof/Machine/Slots.lean: what the module takes from report slots and alarm slots (03 R79 to R83, R90 to R92, R124; 04 R103 to
R105, R114, R115, R117, R122, R123; 05 R133 to R139; 11 R295 to R301). -/

namespace Sys2Proof.Machine

open Sys2Proof

/-! ### Values of a report (05 R133 to R140) -/

/-- Both cells beside an unconverged tap t of a node balance in a sweep (05 R139). -/
def State.adjacentTap (s : State) (n t sweep : Nat) : Bool :=
  let x := s.node n
  decide (1 ≤ t ∧ t ≤ 15) && !(s.tap n t).converged && !decide (x.effCur sweep ((t : Int) - 1) = 0) && !decide (x.effCur sweep (t : Int) = 0)

/-- The value of sweep i of a report for a cell, with its quality (04 R104; 05 R133 to R136, R139; 09 R254). -/
def State.reportSample (s : State) (n c : Nat) (r : ReportRx) (i : Nat) : Sample :=
  let j := c % 16
  let sweep := (r.first + i) % two32
  let raw := r.volts.getD (16 * i + j) noVolt
  let st := r.status.getD i 0
  let x := s.node n
  let deg := st.testBit 0 || decide (50 < r.tq)
  if raw = noVolt then { quality := mkQuality false false true deg false (st.testBit 1) x.replacement false }
  else
    let v := clampInt (-500000) 5000000 raw
    let range := decide (raw ≤ -500000 ∨ 5000000 ≤ raw)
    let term := s.correction n j sweep
    { raw := v
      corr := clampS 24 (v + term)
      quality := mkQuality true false false deg (!decide (term = 0)) (st.testBit 1) x.replacement (range || overS 24 (v + term))
      excluded := x.uncertainAt sweep || s.adjacentTap n j sweep || s.adjacentTap n (j + 1) sweep }

/-- Samples enter the open set of their sweeps (01 R40). -/
def enterSet (first : Nat) (vals : List (Nat × Sample)) : List Sweep4 → List Sweep4
  | [] => [{ first := first, samples := vals.foldl (fun (tb : Table Sample) e => tb.put e.1 {} e.2) {} }]
  | w :: r =>
    if w.first = first then { w with samples := vals.foldl (fun (tb : Table Sample) e => tb.put e.1 {} e.2) w.samples } :: r
    else w :: enterSet first vals r

/-- The island compares a reported value with V_ov and V_uv (11 R295, R296): functions 0x05 and 0x06 after the debounce. -/
def State.islandCompare (s : State) (c sweep : Nat) (x : Sample) : State :=
  if !qValid x.quality then s
  else
    let p := s.cfg.cellProt
    let v := x.raw + s.islandTerm c sweep
    let n := max 1 p.debounce
    let up := if (p.vOv : Int) ≤ v then min 4 (s.pr.ovRun.get c 0 + 1) else 0
    let dn := if v ≤ (p.vUv : Int) then min 4 (s.pr.uvRun.get c 0 + 1) else 0
    let s1 := s.onProt fun q => { q with ovRun := q.ovRun.put c 0 up, uvRun := q.uvRun.put c 0 dn }
    let s2 := if n ≤ up then s1.decideFn 0x05 (c / 512) c v [c] else s1
    if n ≤ dn then s2.decideFn 0x06 (c / 512) c v [c] else s2

/-- The 64 values of an accepted report enter the sweep set and the island (05 R133, R139, R140; 11 R295). -/
def State.enterReport (s : State) (n : Nat) (r : ReportRx) : State :=
  let cells := s.cfg.cellsOfNode n
  let vals := cells.flatMap fun c => (List.range 4).map fun i => (4 * c + i, s.reportSample n c r i)
  let s1 := s.onAcq fun a => { a with
    sets := enterSet r.first vals a.sets
    latest := (vals.filter fun e => decide (e.1 % 4 = 3)).foldl (fun (tb : Table Sample) e => tb.put (e.1 / 4) {} e.2) a.latest }
  let beside := (List.range 16).filter fun t => (List.range 4).any fun i => s.adjacentTap n t ((r.first + i) % two32)
  let s2 := match beside with | t :: _ => s1.record .adjacentTap n [t] | [] => s1
  if s2.pw.haltedIsland then s2 else vals.foldl (fun s e => s.islandCompare (e.1 / 4) ((r.first + e.1 % 4) % two32) e.2) s2

/-- The temperatures of a report's bank, with its node-alarm flag (04 R103; 05 R134; 10 R267, R268). -/
def State.enterTemps (s : State) (n : Nat) (r : ReportRx) : State :=
  (List.range 4).foldl (fun s b => match r.temps[b]? with
    | some v => s.onTchan (8 * n + (if r.bank then 4 else 0) + b) fun x => { x with
      acc := x.acc ++ [v], hist := (s.now, v) :: x.hist, alarmed := (r.status.getD 3 0).testBit 1 }
    | none => s) s

/-- A tone fragment enters the node's block under its number (04 R105). -/
def State.enterTone (s : State) (n k : Nat) (r : ReportRx) : State :=
  match r.tone with
  | some (p, f, oct) =>
    if f = s.frameAbs k % 25 ∧ f < 25 then
      s.onNode n fun x =>
        { x with
          planId := p
          toneFrags := (if f = 0 then 0 else x.toneFrags) ||| 2 ^ f
          toneBlock := (if f = 0 then ({} : Table (List Nat)) else x.toneBlock).put f [] oct }
    else s
  | none => s

/-- At fragment 24, received or lost, the block of the window is taken (04 R105; 03 R124). -/
def State.endTone (s : State) (n k : Nat) : State := if s.frameAbs k % 25 = 24 ∧ (s.node n).inService then s.takeBlock n k else s

/-! ### Node alarms (04 R122, R123; 09 R239, R254; 11 R297, R301) -/

/-- The class B function of an alarm code (11 R292): the others are evaluated with the class C and D functions. -/
def alarmFn (code : Nat) : Option Nat := match code with | 1 => some 0x03 | 2 => some 0x04 | 3 => some 0x07 | _ => none

/-- Function 0x07 disregards an over-temperature alarm whose cells all map to sensors held broken, with substitutes valid and below the
threshold, on a mask no older than 2 s (11 R301). -/
def State.disregards (s : State) (cells : List Nat) : Bool :=
  match s.tm.brokenSweep with
  | none => false
  | some w => decide ((s.sweepNo + two32 - w) % two32 ≤ 2000) &&
      cells.all fun c => decide (s.sensorChan c ∈ s.tm.brokenMask) && qValid (s.cellTempQ c) && decide (s.cellTemp c < (s.cfg.cellTemp.high : Int))

/-- The island acts on an alarm of a node (11 R297): a sequence number already acted on causes no new decision. -/
def State.actAlarm (s : State) (n code seq subject : Nat) (cells : List Nat) : State :=
  match alarmFn code with
  | none => s
  | some f =>
    if s.pw.haltedIsland || decide ((s.node n).seqActed = some (seq % 16)) then s
    else
      let s1 := s.onNode n fun x => { x with seqActed := some (seq % 16) }
      if f = 0x07 ∧ s.disregards cells = true then s1.record .alarmDisregarded n [code]
      else s1.decideFn f (s.cfg.branchOfNode n) subject code cells

/-- Once a record has come, its mask names the cells of the function the alarm's frame decided (11 R297, R309). -/
def State.nameCells (s : State) (n code : Nat) (cells : List Nat) : State :=
  match alarmFn code with
  | none => s
  | some f => match s.fn f (s.cfg.branchOfNode n) with
    | none => s
    | some x => s.setFn { x with cells := cells ++ x.cells.filter fun c => !decide (s.cfg.nodeOfCell c = some n) }

/-- An alarm code of 04 R122; the others are reserved, and what carries one is invalid (00 R4; log 106). -/
def alarmCode (code : Nat) : Bool := decide (1 ≤ code ∧ code ≤ 8)

/-- An alarm record of an accepted report (04 R122, R123; 09 R239, R254; 11 R297). -/
def State.alarmRecord (s : State) (n code mask first seq : Nat) : State :=
  let c := n / 32
  let s0 := s.onChan c fun y => { y with
    ackBitmap := y.ackBitmap ||| 2 ^ slotOf n
    namedSince := y.namedSince || (y.unidentified.isSome && y.polled.testBit (slotOf n)) }
  let m := mask &&& s.servedMask n
  if mask ≠ 0 ∧ m = 0 then s0.record .alarmAbsent n [code]
  else
    let x := s.node n
    let framed := x.alarms.any fun a => decide (a.code = code ∧ a.seq % 16 = seq % 16) && a.mask.isNone
    let stops := guardStops x.activeSet code m
    let rec_ : AlarmRec := { code := code, mask := some m, firstSweep := first, seq := seq, slotSweep := first }
    let alarms := (x.alarms.filter fun a => !decide (a.code = code)) ++ [rec_]
    let cells := (s.cfg.cellsOfNode n).filter fun e => m.testBit (e % 16)
    let s1 := s0.onNode n fun y => { y with
      alarms := alarms
      guardMask := y.guardMask ||| stops
      guardAt := ((List.range 17).filter fun j => stops.testBit j && !y.guardMask.testBit j).foldl
        (fun (tb : Table Nat) j => tb.put j 0 ((first + 1) % two32)) y.guardAt }
    let s2 := if framed then (s1.record .energySlots n ([code] ++ octetsOf 2 m ++ octetsOf 4 first ++ [seq])).nameCells n code cells else s1
    let s3 := if alarms.all fun a => a.mask.isSome then s2.endUncertain n 1 (fun y => y) else s2
    (s3.writeIslandTable n).actAlarm n code seq (cells.headD (65536 + n)) cells

/-- The alarms of a node that its latest sweep status no longer shows held (04 R103). -/
def State.dropAlarms (s : State) (n : Nat) (r : ReportRx) : State :=
  let s := if (s.node n).alarms.any fun a => decide (a.code = 7) then s.onNode n fun x => { x with convFaultAt := some s.now } else s
  if (r.status.getD 3 0).testBit 1 then s
  else s.onNode n fun x => { x with alarms := x.alarms.filter fun a => laterThan a.slotSweep ((r.first + 3) % two32) }

/-! ### Report slots (03 R90, R91, R124; 04 R103, R114, R115, R117) -/

/-- A silence of a node ends with an accepted report (09 R240, R254): after 25 superframes in Run, 2 active ones in Watch, its set is zero. -/
def State.endSilence (s : State) (n : Nat) : State :=
  let sil := (s.node n).silence
  let zero := if s.pw.state = .run then decide (25 ≤ sil) else decide (2 ≤ sil)
  let s1 := if (s.node n).uncertain.testBit 2 then s.endUncertain n 2 fun x => if zero then x.takeSet {} s.nextFrameSweep else x
    else if zero then (s.onNode n fun x => x.takeSet {} s.nextFrameSweep).writeIslandTable n
    else s
  s1.onNode n fun x => { x with silence := 0 }

/-- The node's first authentic report ends its keying (04 R117). -/
def State.endKeying (s : State) (n : Nat) : State :=
  if (s.node n).adm = .keying then
    (s.onNode n fun x => { x with adm := if x.replacement then .pending else .admitted, keyCommitAt := none }).addWork n (s.parameterLoads n)
  else s

/-- A report that passed every check and is the node's first of the superframe (04 R114; 05 R133): the stops of its alarm record are known before its
values enter (09 R239). -/
def State.acceptReport (s : State) (n k : Nat) (r : ReportRx) : State :=
  let s1 := (s.endSilence n).endKeying n
  let s2 := s1.onNode n fun x => { x with
    heardIn := some k
    authFails := 0
    quality := r.tq
    qualityMax := max x.qualityMax r.tq
    degraded := decide (50 < r.tq) || r.status.any fun b => b.testBit 0
    reportPower := r.power
    statusBits := r.nodeStatus
    sweepStatus := r.status.getD 3 0 }
  let s3 := match r.alarm with | some (code, mask, first, seq) => if alarmCode code then s2.alarmRecord n code mask first seq else s2 | none => s2
  let s4 := (((s3.sample 5 r.tq).enterReport n r).enterTemps n r).enterTone n k r
  (s4.dropAlarms n r).rollStep

/-- Route repair after two superframes without the relayed report (03 R91): a new relay, or direct service where the direct link qualifies. -/
def State.repairRoute (s : State) (n : Nat) (links : List (Nat × Nat × Int)) : State :=
  if !s.leads || s.pw.haltedApp || (s.node n).relayPending.isSome then s
  else
    let r := s.tryRelay n links 1
    if r.2 then r.1 else if s.directOk n then s.announceRoute n 0 0 0 1 else s

/-- Statistics of a report slot: the direct link, or the relayed one (03 R90, R97). -/
def State.slotSeen (s : State) (n : Nat) (forward lost : Bool) : State :=
  s.onNode n fun x =>
    if forward then { x with relaySeen := x.relaySeen + 1, relayLost := if lost then x.relayLost + 1 else x.relayLost }
    else { x with
      directSeen := x.directSeen + 1
      directLost := if lost then x.directLost + 1 else x.directLost
      directHist := (lost :: x.directHist).take (if x.relayRole = 2 then 2500 else 250) }

/-- A slot ended without an accepted report of its node (03 R82, R91, R124). -/
def State.reportLost (s : State) (n k : Nat) (forward : Bool) (links : List (Nat × Nat × Int)) : State :=
  let x := s.node n
  let last := forward || !decide (x.relayRole = 2)
  let s1 := s.slotSeen n forward true
  if !last || decide (x.heardIn = some k) then s1
  else
    let c := n / 32
    let s2 := s1.onChan c fun y => if y.polled.testBit (slotOf n) then { y with repoll := y.repoll ||| 2 ^ slotOf n } else y
    let s3 := s2.endTone n k
    if forward then
      let run := min 255 (x.lostRun + 1)
      let s4 := (s3.onNode n fun y => { y with lostRun := run }).record .relayLost n []
      if 2 ≤ run then s4.repairRoute n links else s4
    else s3

/-- A report that fails authentication (04 R114, R115): the third in a row of a node in service brings a link test. -/
def State.authFailed (s : State) (n : Nat) : State :=
  if !(s.node n).inService then s
  else
    let f := min 255 ((s.node n).authFails + 1)
    let s1 := s.onNode n fun x => { x with authFails := f }
    if f = 3 then (s1.record .authLost n []).addWork n [{ code := 2 }] else s1

/-- The slot of a report: the node's own, or the forward slot of its relay (03 R75, R88). -/
def State.reportSlot (s : State) (n : Nat) (forward : Bool) : Nat := if forward then (s.node n).forwardSlot else slotOf n

/-- REPORT_SLOT_CLOSE (01 R39, R40; 03 R75, R88 to R92, R124; 04 R103, R114, R115; 05 R133; 11 R295): once the slot has ended, the checks in the
order of 04 R114, then the report. -/
def reportSlotClose (n : Nat) (forward : Bool) (r : Option ReportRx) (links : List (Nat × Nat × Int)) (s : State) : State :=
  let c := n / 32
  let k := s.superframeOf c
  let slot := s.reportSlot n forward
  if !s.netOn || !s.chanActive c || decide (s.chanPhase c < slotEnd slot) then s
  else match r with
    | none => if (s.node n).linked then s.reportLost n k forward links else s
    | some r =>
      let first := (4 * k + 4 * two32 - 4) % two32
      let fail := fun (s : State) => if (s.node n).linked then s.reportLost n k forward links else s
      if !r.fcsOk then fail (s.countFrame c 1)
      else if !r.typeOk then fail (s.countFrame c 5)
      else if r.string ≠ s.cfg.string.index then fail (s.countFrame c 2)
      else if !r.macOk || decide (127 < r.node) || !(s.node r.node).linked then fail ((s.countFrame c 3).authFailed r.node)
      else if r.node ≠ n ∨ r.at_ < slotBegin slot ∨ slotEnd slot ≤ r.at_ then fail (s.countFrame c 4)
      else if r.first ≠ first then fail ((s.countFrame c 3).authFailed n)
      else if match s.acq.closedTo with | some w => notBefore w first | none => false then
        fail ((s.countFrame c 0).onAcq fun a => { a with late := wrapInc a.late })
      else
        let s1 := ((s.countFrame c 0).slotSeen n forward false).onNode n fun x => { x with lostRun := 0 }
        if (s.node n).heardIn = some k then s1 else (s1.acceptReport n k r).endTone n k

/-- REPORT_SLOT_CLOSE (04 R114). -/
def execReportSlotClose (t : Nat) (node : Fin 128) (forward : Bool) (r : Option ReportRx) (links : List (Nat × Nat × Int)) (s : State) :
    Host.Outcome State Fault Refusal := s.run t (reportSlotClose node.val forward r links)

/-! ### Alarm slots (03 R78 to R83, R94; 11 R297, R299) -/

/-- The sweep in which an alarm slot of superframe k lies, by its start after B0 (01 R39; 02 R62). -/
def State.slotSweep (s : State) (c k slot : Nat) : Nat :=
  (4 * k + [1, 1, 2, 3].getD slot 0 + if s.cfg.locked then 0 else c) % two32

/-- The instant of an alarm slot of the current superframe, plant time in ns (01 R39; 03 R80). -/
def State.slotInstant (s : State) (c slot : Nat) : Nat := s.chanB0 c + alarmBegin slot

/-- A decoded alarm frame (03 R80, R81; 09 R239; 11 R297): acknowledged, its node set-uncertain until the record comes, its function decided. -/
def State.alarmFrame (s : State) (c k slot : Nat) (a : AlarmRx) (act : Nat) : State :=
  let n := a.node
  let at_ := s.slotSweep c k slot
  let s0 := (s.countFrame c 0).onChan c fun y => { y with ackBitmap := y.ackBitmap ||| 2 ^ slotOf n }
  if (s.node n).alarms.any fun x => decide (x.code = a.code ∧ x.seq % 16 = a.seq % 16) then s0
  else
    let s1 := s0.onNode n fun x => { x with
      alarms := (x.alarms.filter fun y => !decide (y.code = a.code)) ++ [{ code := a.code, firstSweep := at_, seq := a.seq, slotSweep := at_ }] }
    let s2 := s1.enterUncertain n 1 ((at_ + two32 - 1) % two32)
    let s3 := s2.actAlarm n a.code a.seq (65536 + n) (s.cfg.cellsOfNode n)
    if (s3.node n).seqActed = (s2.node n).seqActed then s3 else s3.sample 6 act

/-- An energy result (03 R79, R80, R82, R83, R94; 11 R299): an unidentified alarm stands, and the poll is due. -/
def State.energyResult (s : State) (c k slot : Nat) : State :=
  let num := (4 * k + slot) % (4 * two32)
  let s1 := s.onChan c fun y => { y with
    energyCount := wrapInc y.energyCount
    unidentified := some (y.unidentified.getD (s.slotInstant c slot))
    resolveAt := none
    pollDue := true
    lastEnergySlot := some num
    energyNums := (num :: y.energyNums).take 8
    forcedIn := if s.chanActive c then y.forcedIn else (((k + 1) % two32) :: y.forcedIn).take 4 }
  s1.energyHold c

/-- An alarm frame is authentic (04 R114). -/
def State.alarmOk (s : State) (c : Nat) (a : AlarmRx) : Bool :=
  a.fcsOk && a.typeOk && decide (a.string = s.cfg.string.index) && a.macOk && decide (a.node / 32 = c) && (s.node a.node).linked

/-- The class of an alarm frame that fails a check (03 R92; 04 R114). -/
def State.alarmClass (s : State) (a : AlarmRx) : Nat := if !a.fcsOk then 1 else if !a.typeOk then 5 else if a.string ≠ s.cfg.string.index then 2 else 3

/-- ALARM_SLOT_CLOSE (01 R39; 03 R75, R79 to R83; 04 R108, R114; 11 R297, R299): from 25 us after its begin, decoded, energy above the threshold of
record 0x0505, or quiet. -/
def alarmSlotClose (c slot : Nat) (energy : Int) (a : Option AlarmRx) (act : Nat) (s : State) : State :=
  let k := s.superframeOf c
  if !s.netOn || decide (s.chanPhase c < alarmBegin slot + 25000) then s
  else match a with
    | some f => if !s.alarmOk c f then (s.countFrame c (s.alarmClass f)).energyResult c k slot
      else if alarmCode f.code then s.alarmFrame c k slot f act else s.energyResult c k slot
    | none => if (10 * s.cfg.link.energyDb : Int) < energy then s.energyResult c k slot else s

/-- ALARM_SLOT_CLOSE (03 R79). -/
def execAlarmSlotClose (t : Nat) (chan : Fin 4) (slot : Fin 4) (energy : Int) (a : Option AlarmRx) (act : Nat) (s : State) :
    Host.Outcome State Fault Refusal := s.run t (alarmSlotClose chan.val slot.val energy a act)

end Sys2Proof.Machine
end

