-- ==== Sys2Proof/Machine/Cycle.lean ====
section
/-! DEFINITION. Sys2Proof/Machine/Cycle.lean: what happens at every sweep end and at every sweep set close (01 R40, R94; 05 R133, R141; 07 R186,
R217; 08 R231; 11 R292, R300, R312; 15 R384, R398). -/

namespace Sys2Proof.Machine

open Sys2Proof

/-! ### The sweep end -/

/-- The module's own channels sample (19 R463): the always-on domain has started the block. -/
def State.samples (s : State) : Bool := s.pw.bootDone && !s.pw.recovery && !decide (s.pw.state = .off ∨ s.pw.state = .hibernate)

/-- SWEEP_END (05 R130 to R134; 12 R321, R326, R328, R330, R331; 19 R466 to R469, R476): the module's channels, then everything that watches
one sweep; each sweep ends once (01 R38). -/
def sweepEnd (x : SweepIn) (s : State) : State :=
  let ended := (s.sweepNo + two32 - 1) % two32
  if !s.samples || decide (s.acq.endedAt = some ended) then s
  else
    let s1 := (((s.onAcq fun a => { a with endedAt := some ended }).acquireSweep x).mirrorSweep x.mirrors).openCurrentSweep.prechargeSweep.joinSweep.leaveSweepEnd.breakSweep
    s1.resetStep.watchSweep.toneCheck.dwellSweep.hibSteps

/-- SWEEP_END (05 R130). -/
def execSweepEnd (t : Nat) (x : SweepIn) (s : State) : Host.Outcome State Fault Refusal := s.run t (sweepEnd x)

/-! ### The set that closes (01 R40; 03 R94) -/

/-- Superframes complete on every channel since the epoch: unlocked channels end 3 ms later (01 R40; 03 R77). -/
def State.framesDone (s : State) : Nat := (s.sinceEpoch - (if s.cfg.locked then 0 else ms 3)) / 4000000

/-! ### Silence (09 R240; 11 R300, R312) -/

/-- A node's report was accepted in superframe k, by this module or, while the island channel runs, by its partner (11 R300, R312). -/
def State.heardNode (s : State) (n k : Nat) : Bool :=
  decide ((s.node n).heardIn = some (k % two32)) ||
    (s.isTwin && !(s.path 0).lost && s.heldFor s.pr.partnerAt 0 && !s.heldFor s.pr.partnerAt (ms 8) && decide (n ∈ s.pr.partnerHeard))

/-- One node at the close of superframe k (11 R300; 09 R240, R254): the third silent one makes it set-uncertain, and function 0x08 decides while
the contactors of its branch are closed or closing. -/
def State.silenceStep (s : State) (n k : Nat) : State :=
  if s.heardNode n k then s.onNode n fun x => { x with silence := 0 }
  else
    let v := min 65535 ((s.node n).silence + 1)
    let s1 := s.onNode n fun x => { x with silence := v }
    let s2 := if v = 3 ∧ (s1.node n).linked then s1.enterUncertain n 2 (4 * k % two32) else s1
    let b := s.cfg.branchOfNode n
    if decide (3 ≤ v) && (s2.coilOn (b + 1) || s2.coilOn (b + 5)) && !s2.pw.haltedIsland then s2.decideFn 0x08 b n v (s.cfg.cellsOfNode n) else s2

/-! ### Branch voltage windows (05 R141) -/

/-- A set enters the window of a branch: in Run its four sweeps; in Watch the other sweeps of the window have no values, and it is skipped. -/
def State.windowStep (s : State) (w : Sweep4) (b : Nat) : State :=
  let x := s.acq.mismatch.get b {}
  let put := fun (y : MismatchWin) => s.onAcq fun a => { a with mismatch := a.mismatch.put b {} y }
  if b ∉ s.joined then put { x with count := 0, usable := true, sumCells := 0, sumHv := 0, sumIb := 0 }
  else if s.pw.state ≠ .run then put { x with count := 100, usable := false }
  else if 100 ≤ x.count then s
  else
    let cells := s.cfg.branchCells b
    let sweep := fun (i : Nat) => (w.first + i) % two32
    let four := List.range 4
    let ok := cells.all fun c => four.all fun i => qValid (w.samples.get (4 * c + i) {}).quality
    put { x with
      count := x.count + 4
      usable := x.usable && ok
      sumCells := x.sumCells + sumI (four.flatMap fun i => cells.map fun c => (w.samples.get (4 * c + i) {}).corr)
      sumHv := x.sumHv + sumI (four.map fun i => (s.chanAt (sweep i) (5 + b)).avg)
      sumIb := x.sumIb + sumI (four.map fun i => (s.chanAt (sweep i) b).avg) }

/-! ### Streams and island frames (15 R398; 11 R312; 14 R375) -/

/-- The samples of a node in a sweep of a set, by cell channel. -/
def State.setRow (s : State) (w : Sweep4) (n i : Nat) : List Sample :=
  (List.range 16).map fun j =>
    let c := s.cfg.cellOfNode n j
    if s.cfg.cellPresent c then w.samples.get (4 * c + i) {} else {}

/-- A node block of a stream frame (15 R398). -/
def State.streamBlock (s : State) (w : Sweep4) (n : Nat) : List Nat :=
  let rows := (List.range 4).map fun i => s.setRow w n i
  let st := fun (r : List Sample) => bitsOf [r.any fun x => x.quality.getLsbD 3, r.any fun x => x.quality.getLsbD 5,
    r.any fun x => x.quality.getLsbD 4, r.any fun x => x.quality.getLsbD 7, r.any fun x => x.quality.getLsbD 6]
  rows.map st ++ rows.flatMap fun r => enc (r.map fun x => (3, if qMissing x.quality then noVolt else x.corr))

/-- Runs of consecutive configured node indices, at most 7 each (15 R398). -/
def nodeRuns : List Nat → List (List Nat) → List (List Nat)
  | [], acc => (acc.map List.reverse).reverse
  | n :: r, [] => nodeRuns r [[n]]
  | n :: r, run :: acc =>
    if run.length < 7 ∧ run.head? = some (n - 1) ∧ 0 < n then nodeRuns r ((n :: run) :: acc) else nodeRuns r ([n] :: run :: acc)

/-- STREAM_FRAME_SEND (15 R398, R399): for the sets whose superframe number is divisible by D, from the leader of a streaming string. -/
def State.sendStreams (s : State) (w : Sweep4) (k : Nat) : State :=
  let d := s.di.decim
  if !s.leads || !s.cfg.streaming || decide (7 < d) || !decide (k % 2 ^ d = 0) then s
  else
    let ns := (s.cfg.nodes.map fun e => e.index).foldr insertN []
    (nodeRuns ns []).foldl (fun s run => match run with
      | [] => s
      | n :: _ => s.dispatchSend .stream 0 7 s.seenEpoch
          (octetsOf 4 w.first ++ [n, run.length, d + (if decide (0 < d) || s.sg.corrDecimated then 128 else 0), 0] ++ run.flatMap (s.streamBlock w))) s

/-- The island frame of a twin, once per superframe (11 R312; 14 R375): nodes received, alarm slots with energy, inputs in demand, decisions of
the superframe. -/
def State.sendIsland (s : State) (k : Nat) : State :=
  if !s.isTwin || s.pw.haltedIsland || decide (s.tw.role = .withdrawn) then s
  else
    let heard := (s.cfg.nodes.map fun e => e.index).filter fun n => decide ((s.node n).heardIn = some (k % two32))
    let energy := (List.range 4).flatMap fun c => ((s.rchan c).energyNums.filter fun x => decide (x / 4 = k % two32)).map fun x => 4 * c + x % 4
    let inputs := ((List.range 8).map (· + 1)).filter s.inputDemand
    let fns := s.pr.fns.filter fun f => f.condition && decide (s.now < f.decidedAt + ms 4)
    s.twinSend .islandFrame 2 (enc [fN 16 (maskOf 128 heard), fN 2 (maskOf 16 energy), fN 1 (maskOf 8 (inputs.map fun i => i - 1))] ++
      fns.flatMap fun f => [f.code, f.group] ++ octetsOf 4 f.subject ++ octetsOf 4 (wrapInt 4 f.value))

/-! ### The close of a sweep set -/

/-- Count the four sweeps of a set with their admitted values (07 R186 to R189). -/
def State.countSet (s : State) (w : Sweep4) : State :=
  (List.range 4).foldl (fun s i =>
    let sweep := (w.first + i) % two32
    if s.uncounted sweep then s.countSweep sweep
      (fun c => let x := w.samples.get (4 * c + i) {}; if qValid x.quality then some x.corr else none)
      (fun c => (w.samples.get (4 * c + i) {}).admitted) true else s) s

/-- The protection and limit evaluation of a set, in Run at every one, in Watch every 1 s (08 R231; 11 R292). -/
def State.evaluateSet (s : State) (w : Sweep4) (k limitUs : Nat) : State :=
  if decide (s.pw.state = .run) || decide (k % 250 = 0) then
    ((s.evaluateClassC.computeLimits ((w.first + 3) % two32)).sample 7 limitUs)
  else s

/-- The taps of a node whose balancing currents stepped at a sweep of a set (05 R138): the branch current changed by less than 1 A from the
sweep before, the node reports no alarm, and a cell beside the tap has its raw value. -/
def State.learnTaps (s : State) (w : Sweep4) (n : Nat) : State :=
  let x := s.node n
  let a := x.activeFrom
  let i := (a + two32 - w.first) % two32
  let b := s.cfg.branchOfNode n
  let quiet := decide (((s.chanAt a b).avg - (s.chanAt ((a + two32 - 1) % two32) b).avg).natAbs < 1000) && x.alarms.isEmpty && !x.uncertainAt a
  if i < 4 ∧ quiet = true then ((List.range 17).map fun j => (j, s.tapSteps w n i j)).foldl (fun s e => s.tapStep n e.1 e.2) s
  else s

/-- What follows a set that formed (07 R186; 08 R231; 09 R255; 11 R292, R305; 15 R384, R398). -/
def State.afterSet (s : State) (w : Sweep4) (k limitUs : Nat) : State :=
  let s1 := (if s.pw.state = .run then s.countSet w else s).noteVolts w
  let s2 := s1.cfg.branchList.foldl (fun s b => s.windowStep w b) s1
  let s2 := (s2.cfg.nodes.map fun e => e.index).foldl (fun s n => s.learnTaps w n) s2
  let s3 := (s2.predictStep.evaluateSet w k limitUs).onBasil fun g => { g with lastClose := s.now }
  (s3.onAcq fun a => { a with published := true }).sendStatus.sendStreams w k

/-- Monitor 0x00C takes the plant master's ingest of the 4 ms of the set, in Mbit/s (22 R544). -/
def State.ingestSample (s : State) : State :=
  if s.isMaster then
    let n : Nat := ((s.ma.recent.filter fun e => decide (e.2.1 = 3) && decide (s.now < e.1 + ms 4)).map fun e => e.2.2).foldl (· + ·) 0
    s.sample 12 (roundOpen 46 (8 * (n : Rat) / 4000))
  else s

/-- SWEEP_SET_CLOSE (01 R40; 03 R94; 11 R300): superframe k has ended on every channel, and the set of sweeps 4(k - 1) to 4k - 1 closes. In Watch a
set forms for active superframes alone, of the nodes of the channels active in it. -/
def sweepSetClose (limitUs : Nat) (s : State) : State :=
  let done := s.framesDone
  if !s.netOn || decide (s.pw.state = .hibernate ∨ s.pw.state = .off) then s
  else
    let k := done - 1
    let chans := (List.range 4).filter fun c => s.activeIn c k
    let first := 4 * (k - 1) % two32
    let nodes := (s.cfg.nodes.map fun e => e.index).filter fun n => decide (n / 32 ∈ chans)
    let s0 := s.ingestSample
    if chans.isEmpty || (match s.acq.closedTo with | some w => notBefore w first | none => false) then s0.sendIsland k
    else
      let cells := nodes.flatMap s.cfg.cellsOfNode
      let w := s.formSet first cells
      let s1 := s0.closeSet w cells
      let s2 := nodes.foldl (fun s n => s.silenceStep n k) s1
      (s2.afterSet w k limitUs).sendIsland k

/-- SWEEP_SET_CLOSE (01 R40). -/
def execSweepSetClose (t : Nat) (limitUs : Nat) (s : State) : Host.Outcome State Fault Refusal := s.run t (sweepSetClose limitUs)

end Sys2Proof.Machine
end

