-- ==== Sys2Proof/Machine/Publish.lean ====
section
/-! DEFINITION. Sys2Proof/Machine/Publish.lean: the records of chapter 24 that no other file forms, and the periodic publications
(24 R562 to R568). -/

namespace Sys2Proof.Machine

open Sys2Proof

/-! ### Records of chapter 24 -/

/-- The cell sample record of the last closed set (24 R566). -/
def State.cellRecord (s : State) (c : Nat) : List Nat :=
  let w := s.acq.closed
  octetsOf 4 w.first ++ octetsOf 2 c ++ [0, 0] ++ (List.range 4).flatMap fun i =>
    let x := w.samples.get (4 * c + i) {}
    enc [(3, if qMissing x.quality then 0 else x.corr), (3, if qMissing x.quality then 0 else x.raw), fQ x.quality, fN 1 0]

/-- A loss ratio in ppm (24 R567; rounding log 8); with no report expected there is no measurement, and the value is zero (00 R18). -/
def lossPpm (lost seen : Nat) : Int := if seen = 0 then 0 else roundOpen 44 ((lost : Rat) * 1000000 / (seen : Rat))

/-- Code of an admission state (24 R567). -/
def admCode : AdmState → Nat
  | .unadmitted => 0 | .challenged => 1 | .keying => 2 | .admitted => 3 | .pending => 4

/-- The direct report loss of a period exceeds 10^-3 (03 R97). -/
def NodeCtl.lossy (x : NodeCtl) : Bool := decide (x.directSeen < 1000 * x.directLost)

/-- The node link record (24 R567). -/
def State.linkRecord (s : State) (n : Nat) : List Nat :=
  let x := s.node n
  s.body [fN 1 n, fN 1 (admCode x.adm), fN 1 x.relayRole, fB [x.lossy, decide (3 ≤ x.silence), x.statusBits.testBit 3],
    (4, lossPpm x.directLost x.directSeen), (4, if x.relayRole = 2 then lossPpm x.relayLost x.relaySeen else 0),
    (2, clampS 16 x.reportPower), (2, clampS 16 x.beaconPower), fN 1 x.quality,
    fQ (mkQuality true false (decide (x.directSeen = 0)) false false false (decide (x.adm = .pending)) (overS 16 x.reportPower || overS 16 x.beaconPower)), fN 2 0, fN 4 x.counter]

/-- A link test waits to be sent to a node or answered. -/
def NodeCtl.testing (x : NodeCtl) : Bool := x.work.any (fun c => decide (c.code = 2)) || x.inflight.any fun f => decide (f.cmd.code = 2)

/-- The leader tests the link of every node in service once per period of 10 s (03 R86; log 86). -/
def State.periodicTest (s : State) (n : Nat) : State :=
  if s.leads && (s.node n).inService && !(s.node n).testing then s.addWork n [{ code := 2 }] else s

/-- The node link record is published at the end of its period, whose figures then begin anew (03 R97). -/
def State.publishLink (s : State) (n : Nat) : State :=
  ((s.publish (0x05001000 + n) (s.linkRecord n)).onNode n fun x => { x with
    marginal := x.lossy, directLost := 0, directSeen := 0, relayLost := 0, relaySeen := 0 }).periodicTest n

/-- The radio channel record (24 R567). -/
def State.radioRecord (s : State) (c : Nat) : List Nat :=
  let x := s.rchan c
  s.body ([fN 1 c, fB [x.interference], fN 2 x.occupancy] ++ ((List.range 6).map fun i => fN 4 (x.counters.getD i 0)) ++
    [fN 4 x.energyCount, fN 4 x.noSource, fQ qGood, fN 3 0])

/-- The valve record (24 R567; flags 10 R280). -/
def State.valveRecord (s : State) (v : Nat) : List Nat :=
  let x := s.valve v
  s.body [fN 1 v, fB [x.moving, x.uncertain, x.fault, x.homed], fN 2 x.loadAngle, (4, x.pos), (4, x.target), fN 4 x.vel, fQ qGood, fN 3 0]

/-- The node time record (24 R568). The module cannot see a node's missed beacons (09 R240), so that count is free (log 26). -/
def State.nodeTimeRecord (s : State) (n missed : Nat) : List Nat :=
  let x := s.node n
  s.body [fN 1 n, fN 1 x.quality, fN 1 x.qualityMax, fB [x.degraded], fN 4 x.propDelay, fN 4 missed,
    fQ (qIf x.linked), fN 3 0]

/-- The node time record is published, and the second of its maximum begins anew. -/
def State.publishNodeTime (s : State) (n : Nat) : State :=
  let (m, s1) := s.freshNat
  (s1.publish (0x08002000 + n) (s1.nodeTimeRecord n (m % two32))).onNode n fun x => { x with qualityMax := x.quality }

/-- The port record (24 R568). -/
def State.portRecord (s : State) (p : Nat) : List Nat :=
  let x := s.nt.ports.get p {}
  s.body [fN 1 p, fN 1 (if x.up then 1 else 0), fN 2 0, fN 4 x.received, fN 4 x.sent, fN 4 x.duplicates, fN 4 x.wrongLan, fN 4 x.errored,
    fN 4 x.discarded, fQ qGood, fN 3 0]

/-- The string limit record as last computed (08 R232). -/
def State.limitNow (s : State) : List Nat := limitRecord s.lim.dispatch s.lim.hard s.lim.flags s.lim.reserve

/-- A branch limit record as last computed (08 R232). -/
def State.branchLimitNow (s : State) (b : Nat) : List Nat :=
  let l := s.lim.branch.get b {}
  limitRecord l l (s.limitFlags (s.cfg.branchCells b) l false (!decide (b ∈ s.limitJoined))) 0

/-! ### Periodic publication (24 R562, R563) -/

/-- Publish every member of a list under its number. -/
def State.publishEach (s : State) (oid : Nat) (l : List Nat) (bytes : State → Nat → List Nat) : State :=
  l.foldl (fun s i => s.publish (oid + i) (bytes s i)) s

/-- The configured nodes in ascending order. -/
def State.nodesUp (s : State) : List Nat := (s.cfg.nodes.map fun e => e.index).foldr insertN []

/-- The configured cells in ascending order. -/
def State.cellsUp (s : State) : List Nat := s.cfg.allCells.foldr insertN []

/-- A sweep set has closed within the last 12 sweeps: the set of this publication was formed (03 R94; 24 R566). -/
def State.setFresh (s : State) : Bool :=
  s.acq.closedTo.isSome && decide ((s.sweepNo + two32 - s.acq.closed.first) % two32 < 12)

/-- The publication of a periodic object of groups 0x01 to 0x04, instance by instance. -/
def State.publishLow (s : State) : Nat → State
  | 0x01001000 => if s.anyPort then s.publish 0x01001000 s.modRecord else s
  | 0x01002000 => s.publish 0x01002000 (s.body s.cfgKey)
  | 0x01003000 => s.publish 0x01003000 (s.body s.guaranteeKey)
  | 0x01010000 => s.publish 0x01010000 s.sweepRecord
  | 0x02001000 => s.publish 0x02001000 (s.summaryRecord s.cfg.allCells s.stringCharge)
  | 0x02002000 => s.publish 0x02002000 s.limitNow
  | 0x02003000 => s.publish 0x02003000 s.contRecord
  | 0x02004000 => s.publish 0x02004000 s.thermalRecord
  | 0x02005000 => s.publish 0x02005000 s.planRecord
  | 0x02006000 => s.cfg.buses.zipIdx.foldl (fun s e => s.publish (0x02006000 + e.2) (s.busRecord e.2 e.1)) s
  | 0x03001000 => s.publishEach 0x03001000 s.cfg.branchList fun s b => s.summaryRecord (s.cfg.branchCells b) (s.branchCharge b)
  | 0x03002000 => s.publishEach 0x03002000 s.cfg.branchList State.branchLimitNow
  | 0x04001000 => if s.setFresh then s.publishEach 0x04001000 s.cellsUp State.cellRecord else s
  | 0x04002000 => s.publishEach 0x04002000 s.cellsUp State.chargeRecord
  | 0x04003000 => s.publishEach 0x04003000 s.cellsUp State.healthRecord
  | 0x04004000 => s.publishEach 0x04004000 s.cellsUp State.balRecord
  | 0x04005000 => s.publishEach 0x04005000 s.cellsUp State.fitRecord
  | 0x04006000 => s.publishEach 0x04006000 s.cellsUp State.derivedRecord
  | _ => s

/-- The publication of a periodic object of groups 0x05 to 0x0F, instance by instance. -/
def State.publishHigh (s : State) : Nat → State
  | 0x05001000 => s.nodesUp.foldl State.publishLink s
  | 0x05002000 => s.publishEach 0x05002000 (List.range 4) State.radioRecord
  | 0x06001000 => s.publishEach 0x06001000 ((List.range 0x417).filter s.chanUsed) State.chanRecord
  | 0x06002000 => s.publishEach 0x06002000 ((List.range 2).filter fun v => s.ownValve v && decide (v < s.cfg.valves.list.length)) State.valveRecord
  | 0x07001000 => s.publish 0x07001000 s.protRecord
  | 0x07002000 => s.publish 0x07002000 (s.body s.safetyKey)
  | 0x08001000 => s.publish 0x08001000 s.timeRecord
  | 0x08002000 => s.nodesUp.foldl State.publishNodeTime s
  | 0x09001000 => s.publishEach 0x09001000 [1, 2, 3] State.portRecord
  | 0x0A001000 => if s.isTwin then s.publish 0x0A001000 s.twinRecord else s
  | 0x0B001000 => if s.isMaster then s.publish 0x0B001000 (s.plantRecord (s.sweepNo - s.sweepNo % 2)) else s
  | 0x0D002000 => s.publish 0x0D002000 s.recorderRecord
  | 0x0E001000 => s.publish 0x0E001000 s.updateRecord
  | 0x0F001000 => s.publishEach 0x0F001000 [0, 1] State.canRecord
  | _ => s

/-- PERIODIC_PUBLICATION (24 R562 to R564; 03 R97; 07 R203, R209, R210): the object of identifier `oid` (instance 0) falls due and every
instance that exists is published in ascending order. An object that changes alone publish, or that its own command publishes (impedance
records, monitor records), is not published here. It runs once in each period of the object. Nothing is published in Hibernate or Off, and the
figures run on. -/
def execPeriodicPublication (t : Nat) (oid : Nat) (s : State) : Host.Outcome State Fault Refusal :=
  s.run t fun s =>
    match s.plainObject oid with
    | none => s
    | some (p, _) =>
      if !s.publishes || decide (s.pw.state = .flushing ∨ p = 0) then s
      else s.turn (0x1000000 + oid / 4096) (ms p) fun s => if oid / 16777216 ≤ 4 then s.publishLow oid else s.publishHigh oid

end Sys2Proof.Machine
end

