-- ==== Sys2Proof/Machine/Dispatch.lean ====
section
/-! DEFINITION. Sys2Proof/Machine/Dispatch.lean: one arm per command. -/

namespace Sys2Proof.Machine

open Sys2Proof

def exec (i : Instr) (s : State) : Host.Outcome State Fault Refusal :=
  match i with
  | .ptpMessageReceived t port m => Sys2Proof.Machine.execPtpMessageReceived t port m s
  | .announceReceiptTimeout t port => Sys2Proof.Machine.execAnnounceReceiptTimeout t port s
  | .startWaitExpiry t => Sys2Proof.Machine.execStartWaitExpiry t s
  | .holdoverWindowExpiry t => Sys2Proof.Machine.execHoldoverWindowExpiry t s
  | .stepSafeConditionBegins t => Sys2Proof.Machine.execStepSafeConditionBegins t s
  | .ppsInEdge t offset => Sys2Proof.Machine.execPpsInEdge t offset s
  | .temperatureCompensationUpdate t temp => Sys2Proof.Machine.execTemperatureCompensationUpdate t temp s
  | .converterCompensationUpdate t => Sys2Proof.Machine.execConverterCompensationUpdate t s
  | .thymeSupervisionWindow t count i0 => Sys2Proof.Machine.execThymeSupervisionWindow t count i0 s
  | .ppsOutPulse t rise => Sys2Proof.Machine.execPpsOutPulse t rise s
  | .timedOutputPulse t output rise => Sys2Proof.Machine.execTimedOutputPulse t output rise s
  | .armPulse t m output start sub => Sys2Proof.Machine.execArmPulse t m output start sub s
  | .timestampEntryExpiry t queue => Sys2Proof.Machine.execTimestampEntryExpiry t queue s
  | .twinTimeExchange t offset edge => Sys2Proof.Machine.execTwinTimeExchange t offset edge s
  | .twinOffsetDisagreement t => Sys2Proof.Machine.execTwinOffsetDisagreement t s
  | .propagationDelayMeasurement t node delay => Sys2Proof.Machine.execPropagationDelayMeasurement t node delay s
  | .beaconTransmit t chan => Sys2Proof.Machine.execBeaconTransmit t chan s
  | .reportSlotClose t node forward r links => Sys2Proof.Machine.execReportSlotClose t node forward r links s
  | .alarmSlotClose t chan slot energy a act => Sys2Proof.Machine.execAlarmSlotClose t chan slot energy a act s
  | .managementFrameTransmit t chan => Sys2Proof.Machine.execManagementFrameTransmit t chan s
  | .responseReceived t chan r => Sys2Proof.Machine.execResponseReceived t chan r s
  | .noResponse t chan => Sys2Proof.Machine.execNoResponse t chan s
  | .sweepSetClose t limitUs => Sys2Proof.Machine.execSweepSetClose t limitUs s
  | .unidentifiedAlarmResolution t chan => Sys2Proof.Machine.execUnidentifiedAlarmResolution t chan s
  | .admissionRequestReceived t chan r => Sys2Proof.Machine.execAdmissionRequestReceived t chan r s
  | .challengeTagReceived t chan node tagOk frameOk => Sys2Proof.Machine.execChallengeTagReceived t chan node tagOk frameOk s
  | .keyingTimeout t node => Sys2Proof.Machine.execKeyingTimeout t node s
  | .strangerHoldOutExpiry t ident => Sys2Proof.Machine.execStrangerHoldOutExpiry t ident s
  | .relayEvaluation t links => Sys2Proof.Machine.execRelayEvaluation t links s
  | .occupancyMeasurement t chan occupancy => Sys2Proof.Machine.execOccupancyMeasurement t chan occupancy s
  | .commandNone t m => Sys2Proof.Machine.execCommandNone t m s
  | .contentionOpen t m => Sys2Proof.Machine.execContentionOpen t m s
  | .linkTest t m power turn => Sys2Proof.Machine.execLinkTest t m power turn s
  | .challenge t m part nonce => Sys2Proof.Machine.execChallenge t m part nonce s
  | .admitNode t m level flags served => Sys2Proof.Machine.execAdmitNode t m level flags served s
  | .load t m area offset data => Sys2Proof.Machine.execLoad t m area offset data s
  | .commit t m area crc activation => Sys2Proof.Machine.execCommit t m area crc activation s
  | .relayAssign t m role partner slot effective => Sys2Proof.Machine.execRelayAssign t m role partner slot effective s
  | .propagationDelay t m delay => Sys2Proof.Machine.execPropagationDelay t m delay s
  | .release t m => Sys2Proof.Machine.execRelease t m s
  | .nodeBeaconReceived t node b => Sys2Proof.Machine.execNodeBeaconReceived t node b s
  | .nodeMissedBeacon t node failed => Sys2Proof.Machine.execNodeMissedBeacon t node failed s
  | .nodeBeaconSilence t node => Sys2Proof.Machine.execNodeBeaconSilence t node s
  | .nodeAlarmDecision t node m => Sys2Proof.Machine.execNodeAlarmDecision t node m s
  | .nodeAlarmSlot t node slot => Sys2Proof.Machine.execNodeAlarmSlot t node slot s
  | .nodeReportTransmit t node => Sys2Proof.Machine.execNodeReportTransmit t node s
  | .relayForward t node heard => Sys2Proof.Machine.execRelayForward t node heard s
  | .nodeSetActivation t node => Sys2Proof.Machine.execNodeSetActivation t node s
  | .nodeAdmissionBackoff t node => Sys2Proof.Machine.execNodeAdmissionBackoff t node s
  | .listeningPauseExpiry t node => Sys2Proof.Machine.execListeningPauseExpiry t node s
  | .nodeToneWindowEnd t node samples => Sys2Proof.Machine.execNodeToneWindowEnd t node samples s
  | .sweepEnd t x => Sys2Proof.Machine.execSweepEnd t x s
  | .branchVoltageCrossCheck t b => Sys2Proof.Machine.execBranchVoltageCrossCheck t b s
  | .currentCrossCheck t => Sys2Proof.Machine.execCurrentCrossCheck t s
  | .shuntOffsetUpdate t b => Sys2Proof.Machine.execShuntOffsetUpdate t b s
  | .spareSelfTestStep t hv zeroOk refsOk => Sys2Proof.Machine.execSpareSelfTestStep t hv zeroOk refsOk s
  | .isOffsetTest t => Sys2Proof.Machine.execIsOffsetTest t s
  | .calibrationBegin t m mask => Sys2Proof.Machine.execCalibrationBegin t m mask s
  | .capturePoint t m point => Sys2Proof.Machine.execCapturePoint t m point s
  | .capturePointComplete t point entry => Sys2Proof.Machine.execCapturePointComplete t point entry s
  | .calibrationCommit t m ref a => Sys2Proof.Machine.execCalibrationCommit t m ref a s
  | .authorisationLockoutExpiry t => Sys2Proof.Machine.execAuthorisationLockoutExpiry t s
  | .impedanceIntervalEnd t => Sys2Proof.Machine.execImpedanceIntervalEnd t s
  | .lowBandSubblockEnd t => Sys2Proof.Machine.execLowBandSubblockEnd t s
  | .tonePlanChange t => Sys2Proof.Machine.execTonePlanChange t s
  | .restExcitationSwap t => Sys2Proof.Machine.execRestExcitationSwap t s
  | .toneRequestStart t => Sys2Proof.Machine.execToneRequestStart t s
  | .equivalentCircuitFit t => Sys2Proof.Machine.execEquivalentCircuitFit t s
  | .internalTemperatureUpdate t => Sys2Proof.Machine.execInternalTemperatureUpdate t s
  | .equilibriumLearning t cell => Sys2Proof.Machine.execEquilibriumLearning t cell s
  | .sageCycle t work => Sys2Proof.Machine.execSageCycle t work s
  | .restAnchor t cell => Sys2Proof.Machine.execRestAnchor t cell s
  | .endOfChargeAnchor t b => Sys2Proof.Machine.execEndOfChargeAnchor t b s
  | .endOfDischargeAnchor t b => Sys2Proof.Machine.execEndOfDischargeAnchor t b s
  | .fadeAndLeakageCheckClose t cell => Sys2Proof.Machine.execFadeAndLeakageCheckClose t cell s
  | .leakageEstimate t => Sys2Proof.Machine.execLeakageEstimate t s
  | .chargeSummaryPublication t => Sys2Proof.Machine.execChargeSummaryPublication t s
  | .periodicPublication t oid => Sys2Proof.Machine.execPeriodicPublication t oid s
  | .snapshotWrite t => Sys2Proof.Machine.execSnapshotWrite t s
  | .nodeBlockWrite t => Sys2Proof.Machine.execNodeBlockWrite t s
  | .limitWatchdogExpiry t => Sys2Proof.Machine.execLimitWatchdogExpiry t s
  | .balancingPlanStart t => Sys2Proof.Machine.execBalancingPlanStart t s
  | .balancingSolveComplete t plan => Sys2Proof.Machine.execBalancingSolveComplete t plan s
  | .solverLimitExpiry t => Sys2Proof.Machine.execSolverLimitExpiry t s
  | .commitDeadline t => Sys2Proof.Machine.execCommitDeadline t s
  | .planActivation t => Sys2Proof.Machine.execPlanActivation t s
  | .temperatureChannelEvaluation t chan conv openShort => Sys2Proof.Machine.execTemperatureChannelEvaluation t chan conv openShort s
  | .sensorCrossCheck t => Sys2Proof.Machine.execSensorCrossCheck t s
  | .coolingLoss t loop => Sys2Proof.Machine.execCoolingLoss t loop s
  | .coolantLoopEvaluation t => Sys2Proof.Machine.execCoolantLoopEvaluation t s
  | .valveVelocityUpdate t v m => Sys2Proof.Machine.execValveVelocityUpdate t v m s
  | .valveMoveEnd t v => Sys2Proof.Machine.execValveMoveEnd t v s
  | .valveHoldTimeExpiry t v => Sys2Proof.Machine.execValveHoldTimeExpiry t v s
  | .valveStall t v => Sys2Proof.Machine.execValveStall t v s
  | .valveStallRetry t v => Sys2Proof.Machine.execValveStallRetry t v s
  | .homeValve t m valve => Sys2Proof.Machine.execHomeValve t m valve s
  | .clearSensor t m chan => Sys2Proof.Machine.execClearSensor t m chan s
  | .currentComparatorCrossing t chan value => Sys2Proof.Machine.execCurrentComparatorCrossing t chan value s
  | .classCDelayExpiry t code group => Sys2Proof.Machine.execClassCDelayExpiry t code group s
  | .breakWaitExpiry t group => Sys2Proof.Machine.execBreakWaitExpiry t group s
  | .automaticReset t code group => Sys2Proof.Machine.execAutomaticReset t code group s
  | .protectionReset t m code => Sys2Proof.Machine.execProtectionReset t m code s
  | .insulationHalfPeriod t x => Sys2Proof.Machine.execInsulationHalfPeriod t x s
  | .monitorCouplingWaitExpiry t => Sys2Proof.Machine.execMonitorCouplingWaitExpiry t s
  | .coilOn t k => Sys2Proof.Machine.execCoilOn t k s
  | .coilBudgetAvailable t => Sys2Proof.Machine.execCoilBudgetAvailable t s
  | .coilSupplyRecovered t supply => Sys2Proof.Machine.execCoilSupplyRecovered t supply s
  | .coilSupplyWaitExpiry t k => Sys2Proof.Machine.execCoilSupplyWaitExpiry t k s
  | .pullInEnd t k => Sys2Proof.Machine.execPullInEnd t k s
  | .coilOff t k => Sys2Proof.Machine.execCoilOff t k s
  | .coilSupplyLow t supply => Sys2Proof.Machine.execCoilSupplyLow t supply s
  | .coilCircuitFault t k current peak => Sys2Proof.Machine.execCoilCircuitFault t k current peak s
  | .feedbackAccepted t k closed => Sys2Proof.Machine.execFeedbackAccepted t k closed s
  | .closeLimitExpiry t k => Sys2Proof.Machine.execCloseLimitExpiry t k s
  | .dropOutLimitExpiry t k => Sys2Proof.Machine.execDropOutLimitExpiry t k s
  | .prechargeTimeLimitExpiry t => Sys2Proof.Machine.execPrechargeTimeLimitExpiry t s
  | .prechargeLockoutExpiry t => Sys2Proof.Machine.execPrechargeLockoutExpiry t s
  | .autoConnect t => Sys2Proof.Machine.execAutoConnect t s
  | .leaveWaitExpiry t => Sys2Proof.Machine.execLeaveWaitExpiry t s
  | .connectOperation t o => Sys2Proof.Machine.execConnectOperation t o s
  | .disconnectOperation t o => Sys2Proof.Machine.execDisconnectOperation t o s
  | .joinBranchOperation t o => Sys2Proof.Machine.execJoinBranchOperation t o s
  | .leaveBranchOperation t o => Sys2Proof.Machine.execLeaveBranchOperation t o s
  | .safetyInputDemand t x => Sys2Proof.Machine.execSafetyInputDemand t x s
  | .safetyInputPermit t x => Sys2Proof.Machine.execSafetyInputPermit t x s
  | .testPulse t src high volts => Sys2Proof.Machine.execTestPulse t src high volts s
  | .discrepancyTimeExpiry t p => Sys2Proof.Machine.execDiscrepancyTimeExpiry t p s
  | .darkTest t o verdict => Sys2Proof.Machine.execDarkTest t o verdict s
  | .brightTest t o verdict => Sys2Proof.Machine.execBrightTest t o verdict s
  | .safeOutputTestRerun t o => Sys2Proof.Machine.execSafeOutputTestRerun t o s
  | .driverDipTest t k pass => Sys2Proof.Machine.execDriverDipTest t k pass s
  | .tripSwitchDipTest t k pass partner => Sys2Proof.Machine.execTripSwitchDipTest t k pass partner s
  | .followerDriverTest t k pass => Sys2Proof.Machine.execFollowerDriverTest t k pass s
  | .heartbeatInstant t => Sys2Proof.Machine.execHeartbeatInstant t s
  | .heartbeatReceived t path hb late => Sys2Proof.Machine.execHeartbeatReceived t path hb late s
  | .heartbeatMissed t path => Sys2Proof.Machine.execHeartbeatMissed t path s
  | .withdrawFrameReceived t hdr cause => Sys2Proof.Machine.execWithdrawFrameReceived t hdr cause s
  | .withdrawTripHoldExpiry t i0 => Sys2Proof.Machine.execWithdrawTripHoldExpiry t i0 s
  | .handOver t m => Sys2Proof.Machine.execHandOver t m s
  | .handoverRequest t cause => Sys2Proof.Machine.execHandoverRequest t cause s
  | .handoverFrameReceived t hdr ack sweep cycle => Sys2Proof.Machine.execHandoverFrameReceived t hdr ack sweep cycle s
  | .handoverInstant t => Sys2Proof.Machine.execHandoverInstant t s
  | .syncComplete t => Sys2Proof.Machine.execSyncComplete t s
  | .pairingWaitExpiry t end_ => Sys2Proof.Machine.execPairingWaitExpiry t end_ s
  | .twinShadowFrame t f => Sys2Proof.Machine.execTwinShadowFrame t f s
  | .islandFrame t f => Sys2Proof.Machine.execIslandFrame t f s
  | .dispatchAllocation t shed => Sys2Proof.Machine.execDispatchAllocation t shed s
  | .setpointMulticastSend t => Sys2Proof.Machine.execSetpointMulticastSend t s
  | .setpointMulticastReceived t h m => Sys2Proof.Machine.execSetpointMulticastReceived t h m s
  | .masterLossHoldExpiry t => Sys2Proof.Machine.execMasterLossHoldExpiry t s
  | .carrierPhaseApply t => Sys2Proof.Machine.execCarrierPhaseApply t s
  | .stringStatusReceived t h x => Sys2Proof.Machine.execStringStatusReceived t h x s
  | .dispatchInterfaceReset t q => Sys2Proof.Machine.execDispatchInterfaceReset t q s
  | .plantSetpointRequest t q => Sys2Proof.Machine.execPlantSetpointRequest t q s
  | .connectRequest t q => Sys2Proof.Machine.execConnectRequest t q s
  | .disconnectRequest t q => Sys2Proof.Machine.execDisconnectRequest t q s
  | .joinBranchRequest t q => Sys2Proof.Machine.execJoinBranchRequest t q s
  | .leaveBranchRequest t q => Sys2Proof.Machine.execLeaveBranchRequest t q s
  | .excludeString t q => Sys2Proof.Machine.execExcludeString t q s
  | .includeString t q => Sys2Proof.Machine.execIncludeString t q s
  | .setpointLifetimeExpiry t => Sys2Proof.Machine.execSetpointLifetimeExpiry t s
  | .operationFrameRepeat t ident => Sys2Proof.Machine.execOperationFrameRepeat t ident s
  | .operationTimeout t ident => Sys2Proof.Machine.execOperationTimeout t ident s
  | .operationResultReceived t h ident status reason sweep => Sys2Proof.Machine.execOperationResultReceived t h ident status reason sweep s
  | .streamFrameIngest t h f => Sys2Proof.Machine.execStreamFrameIngest t h f s
  | .streamDecimationRelax t string => Sys2Proof.Machine.execStreamDecimationRelax t string s
  | .claimSend t => Sys2Proof.Machine.execClaimSend t s
  | .claimRepeat t => Sys2Proof.Machine.execClaimRepeat t s
  | .claimReceived t h epoch rank abandoned => Sys2Proof.Machine.execClaimReceived t h epoch rank abandoned s
  | .claimWindowExpiry t => Sys2Proof.Machine.execClaimWindowExpiry t s
  | .masterHandOver t m string => Sys2Proof.Machine.execMasterHandOver t m string s
  | .masterHandoverDrained t => Sys2Proof.Machine.execMasterHandoverDrained t s
  | .masterHandoverFrameReceived t h target f => Sys2Proof.Machine.execMasterHandoverFrameReceived t h target f s
  | .masterHandoverCycle t => Sys2Proof.Machine.execMasterHandoverCycle t s
  | .commandFrameTransmit t => Sys2Proof.Machine.execCommandFrameTransmit t s
  | .statusFrameReceived t f => Sys2Proof.Machine.execStatusFrameReceived t f s
  | .statusDeadlineMissed t => Sys2Proof.Machine.execStatusDeadlineMissed t s
  | .carrierSyncPulse t => Sys2Proof.Machine.execCarrierSyncPulse t s
  | .plantPortDown t port => Sys2Proof.Machine.execPlantPortDown t port s
  | .prpSupervisionTransmit t => Sys2Proof.Machine.execPrpSupervisionTransmit t s
  | .icmpEchoRequest t port own ident => Sys2Proof.Machine.execIcmpEchoRequest t port own ident s
  | .addressResolutionRequest t port own => Sys2Proof.Machine.execAddressResolutionRequest t port own s
  | .unacceptedFrameDiscard t port why => Sys2Proof.Machine.execUnacceptedFrameDiscard t port why s
  | .telemetryInterfaceReset t m ok => Sys2Proof.Machine.execTelemetryInterfaceReset t m ok s
  | .subscribe t m ok dest sels reserved => Sys2Proof.Machine.execSubscribe t m ok dest sels reserved s
  | .read t m ok ids => Sys2Proof.Machine.execRead t m ok ids s
  | .dataPublication t key object first last sweep change => Sys2Proof.Machine.execDataPublication t key object first last sweep change s
  | .shedFactorRelax t key => Sys2Proof.Machine.execShedFactorRelax t key s
  | .unknownCommand t m code => Sys2Proof.Machine.execUnknownCommand t m code s
  | .confirmReplacement t m node => Sys2Proof.Machine.execConfirmReplacement t m node s
  | .gooseRepetition t set => Sys2Proof.Machine.execGooseRepetition t set s
  | .gooseFrameReceived t f => Sys2Proof.Machine.execGooseFrameReceived t f s
  | .gooseSubscriptionSilent t sub => Sys2Proof.Machine.execGooseSubscriptionSilent t sub s
  | .canTransmissionDue t chan msg => Sys2Proof.Machine.execCanTransmissionDue t chan msg s
  | .canTransmissionSuccess t chan msg => Sys2Proof.Machine.execCanTransmissionSuccess t chan msg s
  | .canTransmitError t chan msg afterArb counts => Sys2Proof.Machine.execCanTransmitError t chan msg afterArb counts s
  | .canBusOffRecovery t chan => Sys2Proof.Machine.execCanBusOffRecovery t chan s
  | .canFrameReceived t chan f => Sys2Proof.Machine.execCanFrameReceived t chan f s
  | .canLoadWindow t chan load => Sys2Proof.Machine.execCanLoadWindow t chan load s
  | .equipmentTimeout t => Sys2Proof.Machine.execEquipmentTimeout t s
  | .canSleep t => Sys2Proof.Machine.execCanSleep t s
  | .feedPresent t feed i0 => Sys2Proof.Machine.execFeedPresent t feed i0 s
  | .feedLost t feed => Sys2Proof.Machine.execFeedLost t feed s
  | .bothFeedsLost t => Sys2Proof.Machine.execBothFeedsLost t s
  | .flushEnd t i0 => Sys2Proof.Machine.execFlushEnd t i0 s
  | .startComplete t => Sys2Proof.Machine.execStartComplete t s
  | .configurationAcceptedOnX13 t img i0 => Sys2Proof.Machine.execConfigurationAcceptedOnX13 t img i0 s
  | .runRequest t => Sys2Proof.Machine.execRunRequest t s
  | .runEntry t => Sys2Proof.Machine.execRunEntry t s
  | .runDwellExpiry t => Sys2Proof.Machine.execRunDwellExpiry t s
  | .hibernateDelayExpiry t => Sys2Proof.Machine.execHibernateDelayExpiry t s
  | .hibernateEntryComplete t => Sys2Proof.Machine.execHibernateEntryComplete t s
  | .wakeLatchSet t source => Sys2Proof.Machine.execWakeLatchSet t source s
  | .wakeSequence t i0 => Sys2Proof.Machine.execWakeSequence t i0 s
  | .wakeServiceComplete t levels => Sys2Proof.Machine.execWakeServiceComplete t levels s
  | .warmReset t cause i0 => Sys2Proof.Machine.execWarmReset t cause i0 s
  | .coldReset t cause i0 => Sys2Proof.Machine.execColdReset t cause i0 s
  | .interfaceLevelReset t => Sys2Proof.Machine.execInterfaceLevelReset t s
  | .applicationClusterWatchdog t i0 => Sys2Proof.Machine.execApplicationClusterWatchdog t i0 s
  | .resetDeferralExpiry t => Sys2Proof.Machine.execResetDeferralExpiry t s
  | .resetPushbuttonRelease t heldMs i0 => Sys2Proof.Machine.execResetPushbuttonRelease t heldMs i0 s
  | .resetButtonHeld t => Sys2Proof.Machine.execResetButtonHeld t s
  | .serviceEnableChange t asserted => Sys2Proof.Machine.execServiceEnableChange t asserted s
  | .holdUpMeasurement t ms => Sys2Proof.Machine.execHoldUpMeasurement t ms s
  | .alwaysOnMinimumReached t => Sys2Proof.Machine.execAlwaysOnMinimumReached t s
  | .updateOffer t m h => Sys2Proof.Machine.execUpdateOffer t m h s
  | .updateData t m offset len => Sys2Proof.Machine.execUpdateData t m offset len s
  | .updateVerify t m => Sys2Proof.Machine.execUpdateVerify t m s
  | .verificationComplete t img versions => Sys2Proof.Machine.execVerificationComplete t img versions s
  | .updateSchedule t m kind a0 deadline auth => Sys2Proof.Machine.execUpdateSchedule t m kind a0 deadline auth s
  | .updateCancel t m kind => Sys2Proof.Machine.execUpdateCancel t m kind s
  | .updateSessionTimeout t => Sys2Proof.Machine.execUpdateSessionTimeout t s
  | .activation t i0 dirOk => Sys2Proof.Machine.execActivation t i0 dirOk s
  | .activationLapsed t => Sys2Proof.Machine.execActivationLapsed t s
  | .probationEnd t => Sys2Proof.Machine.execProbationEnd t s
  | .probationStartTimeout t i0 => Sys2Proof.Machine.execProbationStartTimeout t i0 s
  | .followActivation t i0 dirOk => Sys2Proof.Machine.execFollowActivation t i0 dirOk s
  | .followActivationWaiting t => Sys2Proof.Machine.execFollowActivationWaiting t s
  | .rollSweep t => Sys2Proof.Machine.execRollSweep t s
  | .recoveryVerificationComplete t h i0 => Sys2Proof.Machine.execRecoveryVerificationComplete t h i0 s
  | .eventRecordClose t ev subject => Sys2Proof.Machine.execEventRecordClose t ev subject s
  | .eventBlockCommit t good eraseBlock blocks => Sys2Proof.Machine.execEventBlockCommit t good eraseBlock blocks s
  | .writeCeilingWindow t => Sys2Proof.Machine.execWriteCeilingWindow t s
  | .monitorWindowEnd t mon => Sys2Proof.Machine.execMonitorWindowEnd t mon s
  | .plantDeliveryWindow t => Sys2Proof.Machine.execPlantDeliveryWindow t s
  | .memoryScrub t stores corrected uncorrectable i0 => Sys2Proof.Machine.execMemoryScrub t stores corrected uncorrectable i0 s
  | .islandFault t halted i0 => Sys2Proof.Machine.execIslandFault t halted i0 s
  | .tripSwitchRefreshExpiry t => Sys2Proof.Machine.execTripSwitchRefreshExpiry t s
  | .applicationClusterHalt t => Sys2Proof.Machine.execApplicationClusterHalt t s
  | .bayPlugRemoved t => Sys2Proof.Machine.execBayPlugRemoved t s
  | .nodeStart t node => Sys2Proof.Machine.execNodeStart t node s
  | .plantPortUp t port => Sys2Proof.Machine.execPlantPortUp t port s
  | .ptpMessageTransmit t port kind => Sys2Proof.Machine.execPtpMessageTransmit t port kind s
  | .canReceiveError t chan eight => Sys2Proof.Machine.execCanReceiveError t chan eight s

end Sys2Proof.Machine
end

