-- ==== Sys2Proof/Machine/Panel.lean ====
section
/-! DEFINITION. Sys2Proof/Machine/Panel.lean: the six lights of the front panel (25 R588), a view of the state. -/

namespace Sys2Proof.Machine

open Sys2Proof

/-- What one colour of a light does (25 R588). -/
inductive Light where
  /-- not lit -/
  | dark
  /-- steady -/
  | steady
  /-- blinking, where the table says no more -/
  | blink
  /-- blinking slowly -/
  | slowBlink
  /-- blinking fast -/
  | fastBlink
  deriving DecidableEq, Repr

/-- The colours of one front light (25 R588). -/
structure Led where
  /-- green -/
  green : Light := .dark
  /-- yellow -/
  yellow : Light := .dark
  /-- red -/
  red : Light := .dark
  deriving DecidableEq, Repr

/-- Steady where a condition holds. -/
def lit (b : Bool) : Light := if b then .steady else .dark

/-- Light 1, power: the feeds, and the coil supply below the pull-in minimum. -/
def State.ledPower (s : State) : Led :=
  { green := lit (s.pw.feed1 && s.pw.feed2), yellow := lit (s.pw.feed1 != s.pw.feed2), red := lit (s.powered && !s.supplyOk) }

/-- Light 2, module: its power state; the recovery ROM blinks fast. -/
def State.ledModule (s : State) : Led :=
  if s.powered && s.pw.recovery then { red := .fastBlink }
  else match s.pw.state with
    | .run => { green := .steady }
    | .watch => { green := .slowBlink }
    | .starting | .enteringHib | .flushing => { yellow := .steady }
    | .unconfigured | .resetLocked => { red := .steady }
    | .off | .hibernate => {}

/-- Light 3, twin: dark in single-module operation. -/
def State.ledTwin (s : State) : Led :=
  if !s.powered || !s.isTwin then {}
  else
    { green := match s.tw.role with | .leader => .steady | .follower => .blink | _ => .dark
      yellow := lit s.sf.reduced
      red := lit s.tw.mismatch }

/-- Light 4, time. -/
def State.ledTime (s : State) : Led :=
  if !s.powered then {}
  else match s.th.state with
    | .locked => { green := .steady }
    | .acquiring | .holdover => { yellow := .steady }
    | .freeRunning | .unaligned => { red := .steady }
    | .unset => {}

/-- Light 5, protection: a hold in progress; a branch or string disconnect, or a latched function. -/
def State.ledProtection (s : State) : Led :=
  if !s.powered then {}
  else
    { yellow := lit s.holdActive
      red := lit (s.sdActive || (List.range 4).any s.bdActive || s.pr.fns.any fun f => f.latched) }

/-- Light 6, service: steady under service-enable, blinking while an update session is open, open where both hold; a calibration fault. -/
def State.ledService (s : State) : Led :=
  if !s.powered then {}
  else
    { yellow :=
        if s.pw.serviceEnable && decide (s.up.session ≠ 0) then (if Config.serviceBlinks then .blink else .steady)
        else if s.up.session ≠ 0 then .blink else lit s.pw.serviceEnable
      red := lit s.acq.calFault }

/-- The six lights in order (25 R588). -/
def State.leds (s : State) : List Led := [s.ledPower, s.ledModule, s.ledTwin, s.ledTime, s.ledProtection, s.ledService]

end Sys2Proof.Machine
end

