-- ==== Sys2Proof/Safety.lean ====
section
/-! DEFINITION. Sys2Proof/Safety.lean: the terms the statements use: a command's answer, what its own effect writes, and the settled state that
every command leaves. -/

namespace Sys2Proof.Machine

open Sys2Proof

/-- The command is carried out: it answers a next state, of which `P` holds. -/
def Answers (c : Instr) (s : State) (P : State → Prop) : Prop := ∃ s', exec c s = .next s' ∧ P s'

/-- The state without what every step advances or follows up by rule, whatever the command: the time of the step, plant and operating time, the marks
of the turns taken (log 93), the emissions, the recorder and the learned-state and publication stores (event records and change-driven publications), the GOOSE datasets and frame
counts of the ports, the end of an opening, the holds of disconnects that are over, the stop-request, the safe outputs, the reduced safety
configuration, a twin's cross-hold switches and CAN roles, and candidacy. What is left is written by a command's own effect alone. -/
def State.bare (s : State) : State :=
  { s with
    now := 0
    out := []
    ro := {}
    ls := {}
    nt := { s.nt with store := {}, pubs := {}, ports := {} }
    ct := { s.ct with stage := .opened, first := none, discAt := none, mainsOff := false, reopenHold := false, branches := {} }
    pr := { s.pr with holdBranches := [] }
    rt := { s.rt with islandStop := false }
    sf := { s.sf with outputs := {}, reduced := false }
    tw := { s.tw with crossHold := 0, conflictLost := false }
    cn := { s.cn with chans := {} }
    ma := { s.ma with candidate := false, claiming := false, l0 := 0 }
    pw := { s.pw with opTimeNs := 0 }
    th := { s.th with reading := 0, phase := 0, turns := {} }
    acq := { s.acq with runNs := 0 } }

/-- The command answers with exactly this effect: beside what every step follows up, the next state is `u`. -/
def Does (c : Instr) (s u : State) : Prop := Answers c s fun s' => s'.bare = u.bare

/-- The command has no effect of its own. -/
def Idles (c : Instr) (s : State) : Prop := Does c s s

/-- An emission in the Ethernet frame of its kind (14 R373; 17 R425, R426). -/
def wrapped (c : Cfg) (e : Emission) : Emission :=
  { e with etherType := (linkOf c e.kind e.port).1, tag := (linkOf c e.kind e.port).2.1, mac := (linkOf c e.kind e.port).2.2 }

/-- The command is carried out and emits `e`, in its Ethernet frame. -/
def Sends (c : Instr) (s : State) (e : Emission) : Prop := Answers c s fun s' => wrapped s.cfg e ∈ s'.out

/-- A maintenance command is taken: its port answers, its client has the right and an open session that matches, its sequence is new, and no command of the
client is in flight (17 R430, R435). -/
def State.takes (s : State) (m : Maint) : Prop :=
  s.reach m.key 2 = true ∧ (∃ c, s.teleCfg m.key = some c ∧ c.rights.testBit 1 = true) ∧ m.session ≠ 0 ∧ (s.tele m.key).client.session = m.session ∧
    (s.tele m.key).client.lastSeq < m.seq ∧ (s.tele m.key).inFlight = none

/-- A frame of a telemetry or update session is taken: its port answers frames of that level, its client is configured, its session is open and matches,
and its sequence is new (17 R429; 15 R391). -/
def State.sessionTakes (s : State) (m : Maint) (level : Nat) (c : CfgTele) : Prop :=
  s.reach m.key level = true ∧ s.teleCfg m.key = some c ∧ m.session ≠ 0 ∧ (s.tele m.key).client.session = m.session ∧ (s.tele m.key).client.lastSeq < m.seq

/-- The update state but for the octet buckets and the last frame's instant, which every update frame of a source moves (21 R507, R510). -/
def State.upKept (s : State) : Update := { s.up with buckets := {}, lastFrame := 0 }

/-- An update frame of `n` octets of payload, `t` ns later, is taken: its session and sequence are good, its source may update and its octet bucket
holds it (21 R510). -/
def State.updateTakes (s : State) (t : Nat) (m : Maint) (n : Nat) : Prop :=
  ∃ c v, s.sessionTakes m 1 c ∧ s.updateServer m = some v ∧ (udp n : Rat) ≤ (s.begin t).tokensLeft m v

/-- Its source's bucket is too low for it (21 R510). -/
def State.updateStarves (s : State) (t : Nat) (m : Maint) (n : Nat) : Prop :=
  ∃ c v, s.sessionTakes m 1 c ∧ s.updateServer m = some v ∧ (s.begin t).tokensLeft m v < (udp n : Rat)

/-- A request frame is admitted at the plant master: its source is client `c` with entry `k` of record 0x0B03, a token is left, it names the session that
stands, and its sequence is new (15 R390, R391, R397). -/
def State.admits (s : State) (q : ReqIn) (c : Nat) (k : CfgClient) : Prop :=
  s.isMaster = true ∧ q.ok = true ∧ q.client = some c ∧ s.cfg.clients[c]? = some k ∧
    1 ≤ bucketNow k.rate k.depth (s.client c).tokens (s.client c).filledAt s.now ∧ q.session ≠ 0 ∧ (s.client c).session = q.session ∧
    (s.client c).lastSeq < q.seq

/-- The stop-request field follows every demand of a hold (01 R33; 11 R288). -/
def State.StopFollows (s : State) : Prop := s.rt.islandStop = s.holdDemand

/-- A safe output is energised exactly while the island drives it, its function's condition holds and no test has found it faulty (13 R341). -/
def State.OutputFollows (s : State) (o : Nat) : Prop :=
  (s.sf.outputs.get o {}).energised = (s.islandOn && s.outCondition o && !(s.sf.outputs.get o {}).fault)

/-- Candidacy for the plant master role follows its conditions (15 R402). -/
def State.CandidacyFollows (s : State) : Prop := s.ma.candidate = s.isCandidate

/-- No opening is still in hand once every used contactor is confirmed open (12 R324). -/
def State.OpeningEnds (s : State) : Prop := ¬ (s.ct.stage = .disconnecting ∧ s.allOpen = true)

/-- The settled state: what every command leaves behind. -/
structure State.Settled (s : State) : Prop where
  stop : s.StopFollows
  out1 : s.OutputFollows 1
  out2 : s.OutputFollows 2
  candidacy : s.CandidacyFollows
  opening : s.OpeningEnds

end Sys2Proof.Machine
end

