-- ==== Sys2Proof/Certificates/Slice0/Obligations.lean ====
section
/-! DEFINITION. Sys2Proof/Certificates/Slice0/Obligations.lean: the statements for the provers, chapter by chapter. Every `Answers`, `Does`, `Idles` and `Sends` says that the command is carried out (Sys2Proof/Safety.lean). -/

open Sys2Proof Sys2Proof.Machine

/-- Waits and losses of the time base (02 R48, R50, R52, R56). With no source left the end of the start wait takes Thyme from acquiring, and the end of
the holdover window takes it from holdover, to free-running, and nothing else changes but the void assumption on time. An Announce receipt timeout
ends a port's availability; where no source is left a locked Thyme goes to holdover with its last rate addend. An unaligned Thyme steps to its source
once the step-safe condition begins: the sets still open are closed, and it is acquiring. -/
def Obligations.TimeExpiries : Prop :=
  (∀ t d s, s.th.state = .acquiring → s.th.startWaitAt = some d → d ≤ max s.now t → s.bestSource = 0 →
    Does (.startWaitExpiry t) s { s with
      th := { s.th with state := .freeRunning, lockRun := 0, unlockRun := 0, startWaitAt := none }, dl := { s.dl with timeBad := true } }) ∧
  (∀ t d s, s.th.state = .holdover → s.th.holdoverAt = some d → d ≤ max s.now t →
    Does (.holdoverWindowExpiry t) s { s with
      th := { s.th with state := .freeRunning, lockRun := 0, unlockRun := 0, holdoverAt := none }, dl := { s.dl with timeBad := true } }) ∧
  (∀ t (p : Fin 2) s, (s.ptp (p.val + 1)).lastAnnounce + sec 3 ≤ max s.now t →
    (s.onPtp (p.val + 1) fun x => { x with available := false, master := s.cfg.ptp.boundary }).bestSource = 0 → s.th.state = .locked →
    Answers (.announceReceiptTimeout t p) s fun s' => (s'.ptp (p.val + 1)).available = false ∧ s'.th.state = .holdover ∧ s'.th.source = 0 ∧
      s'.th.addend = s.th.addend ∧ s'.th.holdoverAt = some (max s.now t + sec s.cfg.steer.holdS) ∧
      { s'.bare with th := {} } = { s.bare with th := {} }) ∧
  (∀ t (p : Fin 2) s, max s.now t < (s.ptp (p.val + 1)).lastAnnounce + sec 3 → Idles (.announceReceiptTimeout t p) s) ∧
  (∀ t s, s.th.state = .unaligned → s.th.source ≠ 0 → s.th.offsets ≠ [] → s.stepSafe = true → s.pulsing = false →
    Answers (.stepSafeConditionBegins t) s fun s' => s'.th.state = .acquiring ∧
      (s'.th.reading : Int) = max 0 (((s.begin t).th.reading : Int) + roundZero s.filtered) ∧ s'.acq.sets = [] ∧ s'.th.offsets = [] ∧
      s'.th.startWaitAt = some (max s.now t + sec s.cfg.startWait) ∧
      { s'.bare with th := {}, acq := {}, sg := {} } = { s.bare with th := {}, acq := {}, sg := {} })

/-- A measurement of the source in use, by a one-step Sync of that port, with the offset filtered over the last 8 measurements (02 R50, R52; that the
filter is the mean is the model's choice, log 12, and the form of the offset log 93). In holdover an offset within the step threshold leads to acquiring and a larger one to
unaligned; a locked Thyme stays locked until the 16th consecutive offset beyond the lock threshold, which leads to acquiring. A message of another domain is not taken, one of
an unsupported type is counted, an Announce makes the port available as its best master clock algorithm decides, and a Pdelay_Req is answered with its follow-up due. PTP does
nothing while the ports are down (01 R37). -/
def Obligations.TimeMeasurements : Prop :=
  (∀ t (p : Fin 2) m s, (m.domain ≠ s.cfg.ptp.domain ∨ s.ptpRuns (p.val + 1) = false) → Idles (.ptpMessageReceived t p m) s) ∧
  (∀ t (p : Fin 2) m s, m.domain = s.cfg.ptp.domain → s.ptpRuns (p.val + 1) = true → m.kind = .unsupported →
    Does (.ptpMessageReceived t p m) s { s with th := { s.th with ptpIgnored := wrapInc s.th.ptpIgnored } }) ∧
  (∀ t (p : Fin 2) m s, m.domain = s.cfg.ptp.domain → s.ptpRuns (p.val + 1) = true → m.kind = .announce →
    Answers (.ptpMessageReceived t p m) s fun s' => (s'.ptp (p.val + 1)).available = m.selected ∧
      (s'.ptp (p.val + 1)).lastAnnounce = max s.now t ∧ { s'.bare with th := {}, dl := {} } = { s.bare with th := {}, dl := {} }) ∧
  (∀ t (p : Fin 2) m s, m.domain = s.cfg.ptp.domain → s.ptpRuns (p.val + 1) = true → m.kind = .pdelayReq →
    Answers (.ptpMessageReceived t p m) s fun s' => (s'.ptp (p.val + 1)).respFollowUpDue = some (ptpTag 3 m.seq, max s.now t) ∧
      wrapped s.cfg { kind := .ptp, port := p.val + 1, bytes := [3, s.cfg.ptp.domain] ++ octetsOf 2 m.seq } ∈ s'.out ∧
      { s'.bare with th := {} } = { s.bare with th := {} }) ∧
  (∀ t (p : Fin 2) m s, m.domain = s.cfg.ptp.domain → s.ptpRuns (p.val + 1) = true → m.kind = .syncOneStep → s.bestSource = p.val + 1 →
    s.th.source = p.val + 1 →
    Answers (.ptpMessageReceived t p m) s fun s' =>
      let one := s.syncOffset (p.val + 1) m.carried m.rx
      let off := meanR ((one :: s.th.offsets).take 8)
      let step : Rat := (s.cfg.steer.stepUs * 1000 : Nat)
      (s'.ptp (p.val + 1)).offset = one ∧
      (s.th.state = .holdover → absR off ≤ step → s'.th.state = .acquiring) ∧
      (s.th.state = .holdover → step < absR off → s'.th.state = .unaligned ∧ s'.dl.timeBad = true) ∧
      (s.th.state = .locked → s.th.unlockRun < 15 → s'.th.state = .locked) ∧
      (s.th.state = .locked → 15 ≤ s.th.unlockRun → (s.cfg.steer.lockNs : Rat) < absR off → s'.th.state = .acquiring))

/-- PPS carries phase alone: an edge is taken as a measurement where PPS is the source in use, and only there (02 R48). In a module that is no twin the twin
exchange has no effect; in a twin, once in 125 µs (log 93), it sends its message and leaves its offsets, and the disagreement of more than 50 ns for 1 s is recorded once outside the
leader (02 R63). Every 100 ms the temperature table moves the addend by the change of the compensation alone (02 R45). Without a valid BP1 or BP2 the gain compensation stands as it was,
and with one it follows the coefficients about 25 degC (10 R276). -/
def Obligations.TimeCompensation : Prop :=
  (∀ t off s, (s.onThyme fun h => { h with ppsAvail := true }).bestSource ≠ 4 →
    Does (.ppsInEdge t off) s { s with th := { s.th with ppsAvail := true } }) ∧
  (∀ t off s, (s.onThyme fun h => { h with ppsAvail := true }).bestSource = 4 → s.th.source = 4 → s.th.state = .locked → s.th.unlockRun < 15 →
    Answers (.ppsInEdge t off) s fun s' => s'.th.ppsAvail = true ∧ s'.th.source = 4 ∧ s'.th.offsets = (off :: s.th.offsets).take 8 ∧ s'.th.state = .locked ∧
      { s'.bare with th := {}, dl := {}, freeIdx := 0 } = { s.bare with th := {}, dl := {}, freeIdx := 0 }) ∧
  (∀ t off edge s, s.isTwin = false → Idles (.twinTimeExchange t off edge) s) ∧
  (∀ t off edge s, s.isTwin = true → s.thymeRuns = true → (s.begin t).turnOpen 3 125000 0 = true →
    Sends (.twinTimeExchange t off edge) s { kind := .twinTime, port := 0, bytes := s.twinFrame 3 (s.tw.seqs.get 3 0) [] }) ∧
  (∀ t off edge s, s.isTwin = true → s.thymeRuns = true → (s.begin t).turnOpen 3 125000 0 = true →
    (s.onThyme fun h => { h with twinAvail := true }).bestSource ≠ 3 →
    Answers (.twinTimeExchange t off edge) s fun s' => s'.th.twinOffset = off ∧ s'.th.edgeOffset = edge ∧ s'.th.twinAvail = true ∧
      s'.th.state = s.th.state ∧ (s'.th.disagreeSince.isSome = true ↔ 12800 < (off - edge).natAbs) ∧
      { s'.bare with th := {}, tw := {} } = { s.bare with th := {}, tw := {} }) ∧
  (∀ t d s, s.th.disagreeSince = some d → d + sec 1 ≤ max s.now t → s.tw.role ≠ .leader →
    Does (.twinOffsetDisagreement t) s { s with th := { s.th with disagreeSince := none } }) ∧
  (∀ t temp s, s.thymeRuns = true → (s.begin t).turnOpen 1 (ms 100) 0 = true →
    Does (.temperatureCompensationUpdate t temp) s { s with th := { s.th with
      oscTemp := temp, compPpb := freqEntry s.acq.applied.freqTable temp
      addend := ((s.th.addend : Int) + (compAddend (freqEntry s.acq.applied.freqTable temp) - compAddend s.th.compPpb)).toNat } }) ∧
  (∀ t s, s.sageRuns = true → (s.begin t).turnOpen 2 (ms 100) 0 = true → qValid (s.tchan 0x410).quality = false → qValid (s.tchan 0x411).quality = false →
    Does (.converterCompensationUpdate t) s { s with acq := { s.acq with compLost := true } }) ∧
  (∀ t s, s.sageRuns = true → (s.begin t).turnOpen 2 (ms 100) 0 = true → qValid (s.tchan 0x410).quality = true →
    Answers (.converterCompensationUpdate t) s fun s' => s'.acq.compLost = false ∧
      (∀ i, i < 13 → s'.acq.compGain.get i 0 = s.acq.applied.gainTemp.get i 0 * ((s.tchan 0x410).value - 2500)) ∧
      { s'.bare with acq := {} } = { s.bare with acq := {} })

/-- PPS out rises once in a whole second, within its width, only while the time state is no worse than the squelch state, and falls when its configured width is over (02 R64). A once
pulse that is armed and due rises and is no longer armed, and its trailing edge stands the configured width after its start; a pulse in progress falls there (02 R65, R66). A second
arming replaces the first, one less than 1 ms ahead leaves none; arming a periodic output is answered BUSY and changes no output, and a nanosecond field of 10^9 or more INVALID
(02 R65; 17 R436; 00 R8). The oldest timestamp entry, 10 ms old, is dropped with a count, and the next stored entry carries loss-before (02 R69). A Pdelay_Req goes out on an enabled port, a
Sync of the boundary master with its Follow_Up due (02 R52, R53). A measured propagation delay is used and sent to its node, every 10 s (02 R60). -/
def Obligations.TimedOutputs : Prop :=
  (∀ t s, s.thymeRuns = true → timeRank s.th.state ≤ timeRank (timeOfCode s.cfg.pps.squelch) → s.th.ppsSecond ≠ some ((s.begin t).th.reading / 1000000000) →
    (s.begin t).th.reading % 1000000000 < ms s.cfg.pps.widthMs →
    Does (.ppsOutPulse t true) s { s with th := { s.th with ppsHigh := true, ppsSecond := some ((s.begin t).th.reading / 1000000000) } } ∧
    Sends (.ppsOutPulse t true) s { kind := .ppsOut, port := 0, bytes := [1] }) ∧
  (∀ t s, (timeRank (timeOfCode s.cfg.pps.squelch) < timeRank s.th.state ∨ s.th.ppsSecond = some ((s.begin t).th.reading / 1000000000) ∨
    ms s.cfg.pps.widthMs ≤ (s.begin t).th.reading % 1000000000) → Idles (.ppsOutPulse t true) s) ∧
  (∀ t n s, s.thymeRuns = true → s.th.ppsHigh = true → s.th.ppsSecond = some n → n * 1000000000 + ms s.cfg.pps.widthMs ≤ (s.begin t).th.reading → s.th.state = .locked →
    Does (.ppsOutPulse t false) s { s with th := { s.th with ppsHigh := false } } ∧
    Sends (.ppsOutPulse t false) s { kind := .ppsOut, port := 0, bytes := [0] }) ∧
  (∀ t (o : Fin 2) a s, s.thymeRuns = true → (s.th.tp.get (o.val + 1) {}).high = false → (s.th.tp.get (o.val + 1) {}).armedAt = some a → a ≤ (s.begin t).th.reading →
    Answers (.timedOutputPulse t o true) s fun s' => (s'.th.tp.get (o.val + 1) {}).high = true ∧ (s'.th.tp.get (o.val + 1) {}).armedAt = none ∧
      (s'.th.tp.get (o.val + 1) {}).fallAt = a + (s.tpCfg (o.val + 1)).width ∧
      (∀ k, k ≠ o.val + 1 → s'.th.tp.get k {} = s.th.tp.get k {}) ∧ { s'.bare with th := {} } = { s.bare with th := {} }) ∧
  (∀ t (o : Fin 2) a s, (s.th.tp.get (o.val + 1) {}).armedAt = some a → (s.begin t).th.reading < a → Idles (.timedOutputPulse t o true) s) ∧
  (∀ t (o : Fin 2) s, s.thymeRuns = true → (s.th.tp.get (o.val + 1) {}).high = true → (s.th.tp.get (o.val + 1) {}).fallAt ≤ (s.begin t).th.reading → s.th.state = .locked →
    Answers (.timedOutputPulse t o false) s fun s' => (s'.th.tp.get (o.val + 1) {}).high = false ∧
      wrapped s.cfg { kind := .timedPulse, port := o.val + 1, bytes := [if (s.tpCfg (o.val + 1)).low then 1 else 0] } ∈ s'.out ∧
      { s'.bare with th := {} } = { s.bare with th := {} }) ∧
  (∀ t m o a sub s, s.takes m → 1 ≤ o → o ≤ 2 → sub < 65536 → a.ok = true → (s.tpCfg o).mode ≠ 2 →
    (s.begin t).th.reading + 1000000 ≤ a.ns →
    Answers (.armPulse t m o a sub) s fun s' => (s'.th.tp.get o {}).armedAt = some a.ns ∧ (s'.th.tp.get o {}).armedSub = sub ∧
      { s'.bare with th := {}, nt := {} } = { s.bare with th := {}, nt := {} }) ∧
  (∀ t m o a sub s, s.takes m → 1 ≤ o → o ≤ 2 → sub < 65536 → a.ok = true → (s.tpCfg o).mode ≠ 2 →
    a.ns < (s.begin t).th.reading + 1000000 →
    Answers (.armPulse t m o a sub) s fun s' => (s'.th.tp.get o {}).armedAt = none ∧
      { s'.bare with th := {}, nt := {} } = { s.bare with th := {}, nt := {} }) ∧
  (∀ t m o a sub s, s.takes m → 1 ≤ o → o ≤ 2 → sub < 65536 → a.ok = true → (s.tpCfg o).mode = 2 →
    Answers (.armPulse t m o a sub) s fun s' => (s'.tele m.key).client.stored = cmdReply 0x0801 stBusy 0 [] ∧
      { s'.bare with nt := {} } = { s.bare with nt := {} }) ∧
  (∀ t m o a sub s, s.takes m → a.ok = false →
    Answers (.armPulse t m o a sub) s fun s' => (s'.tele m.key).client.stored = cmdReply 0x0801 stInvalid 0 [] ∧
      { s'.bare with nt := {} } = { s.bare with nt := {} }) ∧
  (∀ t (q : Fin 5) e r s, (s.th.queues.get (q.val + 1) {}).entries = e :: r → e.at_ + ms 10 ≤ (s.begin t).th.reading →
    Answers (.timestampEntryExpiry t q) s fun s' =>
      s'.th.queues.get (q.val + 1) {} = { s.th.queues.get (q.val + 1) {} with
        entries := r, expired := wrapInc (s.th.queues.get (q.val + 1) {}).expired, lossPending := true } ∧
      (∀ k, k ≠ q.val + 1 → s'.th.queues.get k {} = s.th.queues.get k {}) ∧ { s'.bare with th := {} } = { s.bare with th := {} }) ∧
  (∀ t (p : Fin 2) s, s.ptpRuns (p.val + 1) = false → ∀ k, Idles (.ptpMessageTransmit t p k) s) ∧
  (∀ t (p : Fin 2) s, s.ptpRuns (p.val + 1) = true →
    Answers (.ptpMessageTransmit t p .pdelayReq) s fun s' =>
      (s'.ptp (p.val + 1)).seqPdelay = ((s.ptp (p.val + 1)).seqPdelay + 1) % 65536 ∧
      wrapped s.cfg { kind := .ptp, port := p.val + 1, bytes := [2, s.cfg.ptp.domain] ++ octetsOf 2 (s.ptp (p.val + 1)).seqPdelay } ∈ s'.out ∧
      { s'.bare with th := {} } = { s.bare with th := {} }) ∧
  (∀ t (p : Fin 2) s, s.ptpRuns (p.val + 1) = true → s.ptpMaster (p.val + 1) = true →
    Answers (.ptpMessageTransmit t p .syncTwoStep) s fun s' =>
      (s'.ptp (p.val + 1)).followUpDue = some (ptpTag 0 (s.ptp (p.val + 1)).seqSync, max s.now t) ∧
      wrapped s.cfg { kind := .ptp, port := p.val + 1, bytes := [0, s.cfg.ptp.domain] ++ octetsOf 2 (s.ptp (p.val + 1)).seqSync } ∈ s'.out ∧
      { s'.bare with th := {} } = { s.bare with th := {} }) ∧
  (∀ t (n : Fin 128) d s, s.leads = true → s.ra.transmit = true → s.thymeRuns = true → (s.cfg.nodeEntry n.val).isSome = true →
    (s.begin t).turnOpen (0x100 + n.val) (sec 10) 0 = true → d < two32 →
    Answers (.propagationDelayMeasurement t n d) s fun s' =>
      s'.node n.val = { s.node n.val with propDelay := d, work := (s.node n.val).work ++ [{ code := 8, params := octetsOf 4 d }] } ∧
      (∀ k, k ≠ n.val → s'.node k = s.node k) ∧ { s'.bare with ra := {} } = { s.bare with ra := {} })

/-- The leader of a string whose transmitters are on, leading since before the segment, sends a beacon at the begin of a superframe in Run (03 R75, R94, R96): it opens with the frame type and the
string index, and carries the time block after them (02 R59; 04 R102). The management frame of a window, once in it, goes out to no node in an open contention window (03 R84); to a node it carries
the next addressed command with the next counter, which is then in flight (04 R106, R111), and it takes the acknowledgement bitmap along. A module that may not send
leaves everything else as it is. -/
def Obligations.RadioFrames : Prop :=
  (∀ t (c : Fin 4) s, s.pw.state = .run → (s.begin t).mayTransmit c.val 0 = true → (s.begin t).chanPhase c.val < 120000 →
    (s.rchan c.val).beaconIn ≠ some ((s.begin t).superframeOf c.val) →
    Answers (.beaconTransmit t c) s fun s' =>
      let k := (s.begin t).superframeOf c.val
      (s'.rchan c.val).superframe = some k ∧ (s'.rchan c.val).beaconIn = some k ∧
        (∃ e ∈ s'.out, e.kind = .beacon ∧ e.port = c.val ∧ e.bytes.take 2 = [0x11, s.cfg.string.index] ∧
          (e.bytes.drop 4).take 20 = (s.begin t).timeBlock c.val k) ∧ { s'.bare with ra := {} } = { s.bare with ra := {} }) ∧
  (∀ t (c : Fin 4) s, s.radioOn = false →
    Answers (.beaconTransmit t c) s fun s' => (s'.rchan c.val).superframe = some ((s.begin t).superframeOf c.val) ∧
      (s'.rchan c.val).beaconIn = (s.rchan c.val).beaconIn ∧ { s'.bare with ra := {} } = { s.bare with ra := {} }) ∧
  (∀ t (c : Fin 4) s, ((s.begin t).mayTransmit c.val mgmtBegin = false ∧ (s.isTwin = false ∨ s.leads = true) ∨ (s.begin t).chanPhase c.val < mgmtBegin ∨
      (s.rchan c.val).mgmtIn = some ((s.begin t).superframeOf c.val)) → Idles (.managementFrameTransmit t c) s) ∧
  (∀ t (c : Fin 4) s, (s.begin t).mayTransmit c.val mgmtBegin = true → (s.begin t).chanActive c.val = true → mgmtBegin ≤ (s.begin t).chanPhase c.val →
    (s.rchan c.val).mgmtIn ≠ some ((s.begin t).superframeOf c.val) → (s.begin t).contentionIn ((s.begin t).superframeOf c.val) = true →
    Answers (.managementFrameTransmit t c) s fun s' => s'.ra.nodes = s.ra.nodes ∧ (s'.rchan c.val).ackBitmap = 0 ∧
      (s'.rchan c.val).beaconAck = (s.rchan c.val).ackBitmap ∧ (s'.rchan c.val).mgmtIn = some ((s.begin t).superframeOf c.val) ∧
      (∃ e ∈ s'.out, e.kind = .management ∧ e.port = c.val ∧ e.bytes.take 4 = [0x31, s.cfg.string.index, 255, 1]) ∧
      { s'.bare with ra := {} } = { s.bare with ra := {} }) ∧
  (∀ t (c : Fin 4) n cmd rest s, (s.begin t).mayTransmit c.val mgmtBegin = true → (s.begin t).chanActive c.val = true → mgmtBegin ≤ (s.begin t).chanPhase c.val →
    (s.rchan c.val).mgmtIn ≠ some ((s.begin t).superframeOf c.val) → (s.begin t).contentionIn ((s.begin t).superframeOf c.val) = false → s.pw.haltedApp = false →
    s.nextNode c.val = some n → (s.node n).inflight = none → (s.node n).work = cmd :: rest → cmd.code ≠ 6 → cmd.code ≠ 9 →
    ¬ (cmd.code = 5 ∧ cmd.params.head? = some 2) →
    Answers (.managementFrameTransmit t c) s fun s' =>
      s'.node n = { s.node n with
        counter := (s.node n).counter + 1, work := rest,
        inflight := some { cmd := cmd, counter := (s.node n).counter + 1, sentAt := (s.begin t).superframeOf (n / 32) } } ∧
      (∀ j, j ≠ n → s'.node j = s.node j) ∧
      (∃ e ∈ s'.out, e.kind = .management ∧ e.port = c.val ∧ e.bytes.take 4 = [0x31, s.cfg.string.index, n, cmd.code]) ∧
      { s'.bare with ra := {} } = { s.bare with ra := {} })

/-- A response that fails its check value, string or authentication is counted in its class and nothing else (03 R92; 04 R107). One that answers the command in flight ends
it (04 R111); status 0x03 from a node with a link key ends its admission with the counter at 0 (04 R112). Without a response a command is repeated
three times; after that a challenge ends unadmitted, and any other node is sent Release in place of its work (04 R111, R115, R117). At its resolution instant an
unidentified alarm clears, counted where no candidate named an alarm since (03 R83). -/
def Obligations.RadioResponses : Prop :=
  (∀ t (c : Fin 4) r s, r.fcsOk = false → Does (.responseReceived t c r) s (s.countFrame c.val 1)) ∧
  (∀ t (c : Fin 4) r s, r.fcsOk = true → r.typeOk = true → r.string ≠ s.cfg.string.index → Does (.responseReceived t c r) s (s.countFrame c.val 2)) ∧
  (∀ t (c : Fin 4) r s, r.fcsOk = true → r.typeOk = true → r.string = s.cfg.string.index → r.linkOk = false → r.zeroOk = false →
    Does (.responseReceived t c r) s (s.countFrame c.val 3)) ∧
  (∀ t (c : Fin 4) f r s, r.fcsOk = true → r.typeOk = true → r.string = s.cfg.string.index → r.status ≠ 3 → (s.node r.node).linked = true → r.linkOk = true →
    (s.node r.node).inflight = some f → f.cmd.code = r.code → f.counter = r.counter → r.node / 32 = c.val → r.code ≠ 2 → r.code ≠ 6 →
    s.ra.rollStage = 0 → (s.node r.node).counter < 4294901760 →
    Does (.responseReceived t c r) s ((s.countFrame c.val 0).onNode r.node fun x => { x with inflight := none, respAt := some ((s.begin t).superframeOf (r.node / 32)) })) ∧
  (∀ t (c : Fin 4) f r s, r.fcsOk = true → r.typeOk = true → r.string = s.cfg.string.index → r.status = 3 → (s.node r.node).linked = true → r.linkOk = true →
    (s.node r.node).inflight = some f → f.cmd.code = r.code → f.counter = r.counter → r.node / 32 = c.val → s.ra.rollStage = 0 →
    Answers (.responseReceived t c r) s fun s' => (s'.node r.node).adm = .unadmitted ∧ (s'.node r.node).counter = 0 ∧
      (s'.node r.node).work = [] ∧ (s'.node r.node).activeSet = {}) ∧
  (∀ t (c : Fin 4) n f s, n ∈ s.cfg.nodesOfChan c.val → (s.node n).inflight = some f → (s.rchan c.val).mgmtIn = some f.sentAt →
    (∀ m g, m ∈ s.cfg.nodesOfChan c.val → (s.node m).inflight = some g → (s.rchan c.val).mgmtIn = some g.sentAt → m = n) → f.cmd.code ≠ 2 → f.repeats < 3 →
    Idles (.noResponse t c) s) ∧
  (∀ t (c : Fin 4) n f s, n ∈ s.cfg.nodesOfChan c.val → (s.node n).inflight = some f → (s.rchan c.val).mgmtIn = some f.sentAt → (s.begin t).windowOver c.val = true →
    (∀ m g, m ∈ s.cfg.nodesOfChan c.val → (s.node m).inflight = some g → (s.rchan c.val).mgmtIn = some g.sentAt → m = n) → f.cmd.code ≠ 2 → 3 ≤ f.repeats →
    Answers (.noResponse t c) s fun s' =>
      ((s.node n).adm = .challenged → (s'.node n).adm = .unadmitted ∧ (s'.node n).work = []) ∧
      ((s.node n).adm ≠ .challenged → s'.node n = { s.node n with work := [{ code := 9 }], inflight := none }) ∧ (∀ j, j ≠ n → s'.node j = s.node j)) ∧
  (∀ t (c : Fin 4) u k s, (s.rchan c.val).unidentified = some u → (s.rchan c.val).resolveAt = some k → laterThan ((s.begin t).superframeOf c.val) k = true →
    Answers (.unidentifiedAlarmResolution t c) s fun s' => (s'.rchan c.val).unidentified = none ∧ (s'.rchan c.val).resolveAt = none ∧
      (s'.rchan c.val).noSource = (if (s.rchan c.val).namedSince then (s.rchan c.val).noSource else wrapInc (s.rchan c.val).noSource) ∧
      (∀ j, j ≠ c.val → s'.rchan j = s.rchan j) ∧ s'.ra.nodes = s.ra.nodes) ∧
  (∀ t (c : Fin 4) s, (s.rchan c.val).unidentified = none → Idles (.unidentifiedAlarmResolution t c) s)

/-- An admission request is counted and not taken where a check fails or its identifier is held out (04 R114, R120). One from the configured position of an unadmitted node
begins a challenge with a new counter series, and one for an index that is not unadmitted leaves that node as it is (04 R117). An authentic challenge response with a
valid tag from the node configured there begins keying with Admit in front; a bad tag holds the identifier out for 60 s and leaves the node unadmitted. Keying ends
with Release when 25 superframes after the key Commit have passed (04 R117). A hold-out ends at its instant (04 R120). -/
def Obligations.NodeAdmission : Prop :=
  (∀ t (c : Fin 4) r s, r.fcsOk = false → Does (.admissionRequestReceived t c r) s (s.countFrame c.val 1)) ∧
  (∀ t (c : Fin 4) r s, r.fcsOk = true → r.typeOk = true → r.string = s.cfg.string.index → r.cmacOk = false → Does (.admissionRequestReceived t c r) s (s.countFrame c.val 3)) ∧
  (∀ t (c : Fin 4) r s, r.fcsOk = true → r.typeOk = true → r.string = s.cfg.string.index → r.cmacOk = true → max s.now t < s.ra.holdOuts.get r.ident 0 →
    Does (.admissionRequestReceived t c r) s (s.countFrame c.val 0)) ∧
  (∀ t (c : Fin 4) n r s, r.fcsOk = true → r.typeOk = true → r.string = s.cfg.string.index → r.cmacOk = true → s.ra.holdOuts.get r.ident 0 ≤ max s.now t →
    s.indexOf r.harness = some n → r.cls = 16 → n / 32 = c.val → (s.node n).adm = .unadmitted →
    Answers (.admissionRequestReceived t c r) s fun s' => (s'.node n).adm = .challenged ∧ (s'.node n).ident = r.ident ∧ (s'.node n).counter = 0 ∧
      (s'.node n).inflight = none ∧ (s'.node n).work.map (fun x => x.code) = [3, 3] ∧ (∀ j, j ≠ n → s'.node j = s.node j) ∧
      { s'.bare with ra := {}, freeIdx := 0 } = { s.bare with ra := {}, freeIdx := 0 }) ∧
  (∀ t (c : Fin 4) n r s, r.fcsOk = true → r.typeOk = true → r.string = s.cfg.string.index → r.cmacOk = true → s.ra.holdOuts.get r.ident 0 ≤ max s.now t →
    s.indexOf r.harness = some n → r.cls = 16 → n / 32 = c.val → (s.node n).adm ≠ .unadmitted →
    Answers (.admissionRequestReceived t c r) s fun s' => s'.ra.nodes = s.ra.nodes ∧
      s'.ra.strangers.get r.ident 0 = satInc 16 (s.ra.strangers.get r.ident 0) ∧ { s'.bare with ra := {} } = { s.bare with ra := {} }) ∧
  (∀ t (c : Fin 4) (n : Fin 128) s, (s.node n.val).adm = .challenged → n.val / 32 = c.val → (s.node n.val).inflight.isSome = true →
    (s.cfg.nodes.find? fun e => decide (e.ident = (s.node n.val).ident)).map (fun e => e.index) = some n.val →
    Answers (.challengeTagReceived t c n true true) s fun s' => (s'.node n.val).adm = .keying ∧ (s'.node n.val).replacement = false ∧
      (s'.node n.val).inflight = none ∧ ((s'.node n.val).work.map fun x => x.code).head? = some 4 ∧
      (s'.node n.val).blockIdent = some (s.node n.val).ident) ∧
  (∀ t (c : Fin 4) (n : Fin 128) s, (s.node n.val).adm = .challenged → n.val / 32 = c.val → (s.node n.val).inflight.isSome = true →
    Answers (.challengeTagReceived t c n false true) s fun s' => (s'.node n.val).adm = .unadmitted ∧
      s'.ra.holdOuts.get (s.node n.val).ident 0 = max s.now t + sec 60) ∧
  (∀ t (c : Fin 4) (n : Fin 128) b s, Does (.challengeTagReceived t c n b false) s (s.countFrame c.val 3)) ∧
  (∀ t (n : Fin 128) k s, (s.node n.val).adm = .keying → (s.node n.val).keyCommitAt = some k → laterThan ((s.begin t).superframeOf (n.val / 32)) ((k + 25) % two32) = true →
    Does (.keyingTimeout t n) s (s.onNode n.val fun x => { x with work := [{ code := 9 }], inflight := none })) ∧
  (∀ t i s, s.ra.holdOuts.get i 0 ≤ max s.now t →
    Does (.strangerHoldOutExpiry t i) s { s with ra := { s.ra with holdOuts := s.ra.holdOuts.put i 0 0 } }) ∧
  (∀ t i s, max s.now t < s.ra.holdOuts.get i 0 → Idles (.strangerHoldOutExpiry t i) s)

/-- A report slot that closes without a report of a node that holds no link key has no effect, and none that has not ended (01 R39). An accepted report is noted under its superframe: silence and failed
authentications are back at 0 and its figure is kept (04 R114; 05 R133). Energy in an alarm slot raises an unidentified alarm and a poll (03 R79, R80, R82, R83), and a quiet slot
does nothing. A set closes once its superframe has ended on every channel: it is the last closed one, and no older one stays open (01 R40). A relayed node whose direct link
qualifies is given the direct route, announced to it (03 R90). Occupancy above 40 % for 10 s is interference above the assumption until it has stayed at or below for 10 s (03 R93). -/
def Obligations.ReportsAndSets : Prop :=
  (∀ t (n : Fin 128) f links s, (s.node n.val).linked = false → Idles (.reportSlotClose t n f none links) s) ∧
  (∀ t (n : Fin 128) f r links s, (s.begin t).chanPhase (n.val / 32) < slotEnd (s.reportSlot n.val f) → Idles (.reportSlotClose t n f r links) s) ∧
  (∀ t (n : Fin 128) r links s, s.netOn = true → (s.begin t).chanActive (n.val / 32) = true → slotEnd (slotOf n.val) ≤ (s.begin t).chanPhase (n.val / 32) →
    r.fcsOk = false → (s.node n.val).linked = false →
    Does (.reportSlotClose t n false (some r) links) s (s.countFrame (n.val / 32) 1)) ∧
  (∀ t (n : Fin 128) r links s, s.netOn = true → s.pw.state = .run → slotEnd (slotOf n.val) ≤ (s.begin t).chanPhase (n.val / 32) →
    r.fcsOk = true → r.typeOk = true → r.string = s.cfg.string.index → r.macOk = true →
    r.node = n.val → slotBegin (slotOf n.val) ≤ r.at_ → r.at_ < slotEnd (slotOf n.val) → r.alarm = none → (s.node n.val).adm = .admitted → s.ra.rollStage = 0 →
    r.first = (4 * (s.begin t).superframeOf (n.val / 32) + 4 * two32 - 4) % two32 →
    (∀ w, s.acq.closedTo = some w → notBefore w r.first = false) → (s.node n.val).heardIn ≠ some ((s.begin t).superframeOf (n.val / 32)) →
    Answers (.reportSlotClose t n false (some r) links) s fun s' =>
      (s'.node n.val).heardIn = some ((s.begin t).superframeOf (n.val / 32)) ∧ (s'.node n.val).silence = 0 ∧ (s'.node n.val).authFails = 0 ∧
      (s'.node n.val).quality = r.tq ∧ (s'.node n.val).adm = .admitted ∧ (s'.node n.val).reportPower = r.power) ∧
  (∀ t (c : Fin 4) (a : Fin 4) energy act s, energy ≤ (10 * s.cfg.link.energyDb : Int) → Idles (.alarmSlotClose t c a energy none act) s) ∧
  (∀ t (c : Fin 4) (a : Fin 4) energy act s, s.netOn = true → alarmBegin a.val + 25000 ≤ (s.begin t).chanPhase c.val → (10 * s.cfg.link.energyDb : Int) < energy →
    Answers (.alarmSlotClose t c a energy none act) s fun s' =>
      let x := s.rchan c.val
      let k := (s.begin t).superframeOf c.val
      let num := (4 * k + a.val) % (4 * two32)
      s'.rchan c.val = { x with
        energyCount := wrapInc x.energyCount, unidentified := some (x.unidentified.getD ((s.begin t).slotInstant c.val a.val)), resolveAt := none, pollDue := true,
        lastEnergySlot := some num, energyNums := (num :: x.energyNums).take 8,
        forcedIn := if (s.begin t).chanActive c.val then x.forcedIn else (((k + 1) % two32) :: x.forcedIn).take 4 } ∧
      (∀ j, j ≠ c.val → s'.rchan j = s.rchan j) ∧ s'.ra.nodes = s.ra.nodes) ∧
  (∀ t lim s, s.netOn = true → s.pw.state = .run →
    let first := 4 * ((s.begin t).framesDone - 2) % two32
    (∀ w, s.acq.closedTo = some w → notBefore w first = false) →
    Answers (.sweepSetClose t lim) s fun s' => s'.acq.closed.first = first ∧ s'.acq.closedTo = some first ∧ ∀ w ∈ s'.acq.sets, laterThan w.first first = true) ∧
  (∀ t links s, s.leads = false → Idles (.relayEvaluation t links) s) ∧
  (∀ t links n s, s.leads = true → s.pw.haltedApp = false → n ∈ s.cfg.nodes.map (fun e => e.index) → (s.cfg.nodes.map fun e => e.index).Nodup →
    (∀ m ∈ s.cfg.nodes.map (fun e => e.index), m ≠ n → (s.node m).inService = false) → (s.node n).inService = true → (s.node n).relayPending = none →
    (s.node n).relayRole = 2 → (s.begin t).directOk n = true →
    Answers (.relayEvaluation t links) s fun s' => (∃ k, (s'.node n).relayPending = some (0, 0, 0, k)) ∧
      ((s'.node n).work.map fun w => w.code).head? = some 7 ∧ { s'.bare with ra := {} } = { s.bare with ra := {} }) ∧
  (∀ t (c : Fin 4) occ s, s.radioOn = true → (s.begin t).turnOpen (0x10 + c.val) (sec 1) 0 = true → 400 < occ →
    Answers (.occupancyMeasurement t c occ) s fun s' => (s'.rchan c.val).occupancy = occ ∧ (s'.rchan c.val).overRun = min 10 ((s.rchan c.val).overRun + 1) ∧
      (s'.rchan c.val).underRun = 0 ∧ (s'.rchan c.val).interference = ((s.rchan c.val).interference || decide (10 ≤ (s.rchan c.val).overRun + 1)) ∧
      (∀ j, j ≠ c.val → s'.rchan j = s.rchan j) ∧ { s'.bare with ra := {} } = { s.bare with ra := {} }) ∧
  (∀ t (c : Fin 4) occ s, s.radioOn = true → (s.begin t).turnOpen (0x10 + c.val) (sec 1) 0 = true → occ ≤ 400 →
    Answers (.occupancyMeasurement t c occ) s fun s' => (s'.rchan c.val).overRun = 0 ∧ (s'.rchan c.val).underRun = min 10 ((s.rchan c.val).underRun + 1) ∧
      (s'.rchan c.val).interference = ((s.rchan c.val).interference && !decide (10 ≤ (s.rchan c.val).underRun + 1)) ∧
      { s'.bare with ra := {} } = { s.bare with ra := {} })

/-- Every receiver of a management frame first reads its bitmaps (04 R123); d is the target after that. A frame without a command does no more. A command the target obeys, with a counter above
the last one, is carried out once: its counter is kept with the response (04 R109, R111). Link Test changes nothing else; part 0 of Challenge takes the node out of
its admission and keeps the first half of the nonce (04 R112, R116); Admit gives level, replacement flag and served channels; Load writes 8 octets of a staging copy; Commit with a correct
check moves the copy to wait for its sweep (04 R110); a relay role waits for its superframe; a propagation delay is kept; Release leaves the node unadmitted (04 R112).
In an open contention window a node that seeks admission sends its request when its backoff is over (04 R109). A follower takes the counter of what it hears, where it is
greater, and the command in flight (04 R113). -/
def Obligations.NodeCommands : Prop :=
  (∀ t m s, Does (.commandNone t m) s (s.readBitmaps m)) ∧
  (∀ t (m : Mgmt) n s, m.heard = [n] → ((s.readBitmaps m).dev n).seeks (max s.now t) = true → ((s.readBitmaps m).dev n).backoff = 0 →
    Does (.contentionOpen t m) s ((s.readBitmaps m).onDev n fun d => { d with requestSent := true }) ∧
    Answers (.contentionOpen t m) s fun s' => ∃ e ∈ s'.out, e.kind = .nodeRequest ∧ e.port = n ∧ e.bytes.take 4 = [0x51, s.cfg.string.index, 255, 1]) ∧
  (∀ t (m : Mgmt) n s, m.heard = [n] → ((s.readBitmaps m).dev n).seeks (max s.now t) = true → 0 < ((s.readBitmaps m).dev n).backoff →
    Does (.contentionOpen t m) s ((s.readBitmaps m).onDev n fun d => { d with backoff := d.backoff - 1 })) ∧
  (∀ t (m : Mgmt) s, m.target < 128 → m.target ∈ m.heard → (s.isTwin && !s.leads && s.pw.portsUp) = false → ((s.readBitmaps m).dev m.target).adm = .admitted →
    ((s.readBitmaps m).dev m.target).lastCounter < m.counter →
    (∀ power turn, Does (.linkTest t m power turn) s ((s.readBitmaps m).onDev m.target fun d =>
      { d with addressedAt := max s.now t, lastCounter := m.counter, stored := some { code := 2, status := 0, counter := m.counter, payload := enc [(2, power), fN 2 turn] } })) ∧
    (∀ nonce, Answers (.challenge t m 0 nonce) s fun s' =>
      (s'.dev m.target).adm = .challenged ∧ (s'.dev m.target).nonce = nonce % 2 ^ 64 * 2 ^ 64 ∧ (s'.dev m.target).lastCounter = m.counter ∧
      (s'.dev m.target).balSet = {} ∧ (s'.dev m.target).keyed = false) ∧
    (∀ level flags served, Does (.admitNode t m level flags served) s ((s.readBitmaps m).onDev m.target fun d =>
      { d with adm := .admitted, requestSent := false, index := m.target, txLevel := level % 256, replacement := flags.testBit 0, served := served % 65536, attempts := 0,
               addressedAt := max s.now t, lastCounter := m.counter, stored := some { code := 4, status := 0, counter := m.counter } })) ∧
    (∀ area offset data, areaLength area ≠ 0 → offset % 8 = 0 → offset < areaLength area → Answers (.load t m area offset data) s fun s' =>
      List.take 8 (List.drop offset ((s'.dev m.target).staging.get area [])) = (data ++ List.replicate 8 0).take 8) ∧
    (∀ area offset data, (areaLength area = 0 ∨ offset % 8 ≠ 0 ∨ areaLength area ≤ offset) → Does (.load t m area offset data) s
      ((s.readBitmaps m).onDev m.target fun d => { d with
        addressedAt := max s.now t, lastCounter := m.counter, stored := some { code := 5, status := 2, counter := m.counter } })) ∧
    (∀ area crc act, areaLength area ≠ 0 →
      crc ≠ Config.crc32 ((((s.readBitmaps m).dev m.target).staging.get area [] ++ List.replicate (areaLength area) 0).take (areaLength area)) →
      Does (.commit t m area crc act) s ((s.readBitmaps m).onDev m.target fun d => { d with
        staging := d.staging.put area [] [], addressedAt := max s.now t, lastCounter := m.counter,
        stored := some { code := 6, status := 1, counter := m.counter } })) ∧
    (∀ area crc act, areaLength area ≠ 0 → area ≠ 3 →
      crc = Config.crc32 ((((s.readBitmaps m).dev m.target).staging.get area [] ++ List.replicate (areaLength area) 0).take (areaLength area)) →
      laterThan act (s.begin t).sweepNo = true → Answers (.commit t m area crc act) s fun s' =>
      (s'.dev m.target).commitAt.get area 0 = act % two32 + 1 ∧ (s'.dev m.target).staging.get area [] = [] ∧
      (s'.dev m.target).active = ((s.readBitmaps m).dev m.target).active) ∧
    (∀ role partner slot eff, Does (.relayAssign t m role partner slot eff) s ((s.readBitmaps m).onDev m.target fun d =>
      { d with nextRole := some (role, partner, slot, eff % 65536), addressedAt := max s.now t, lastCounter := m.counter,
               stored := some { code := 7, status := 0, counter := m.counter } })) ∧
    (∀ delay, Does (.propagationDelay t m delay) s ((s.readBitmaps m).onDev m.target fun d =>
      { d with propDelay := delay % two32, addressedAt := max s.now t, lastCounter := m.counter, stored := some { code := 8, status := 0, counter := m.counter } })) ∧
    (Does (.release t m) s ((s.readBitmaps m).onDev m.target fun d => { d.leave with addressedAt := max s.now t }))) ∧
  (∀ t (m : Mgmt) cmd s, s.isTwin = true → s.leads = false → s.pw.portsUp = true → m.target < 128 →
    (s.overhear m cmd).node m.target = { s.node m.target with
      counter := if cmd.code = 3 ∧ cmd.params.head? = some 0 then m.counter else max (s.node m.target).counter m.counter
      inflight := if (s.node m.target).counter ≤ m.counter then some { cmd := cmd, counter := m.counter, sentAt := s.superframeOf (m.target / 32) }
        else (s.node m.target).inflight } ∧
    Answers (.linkTest t m 0 0) s fun s' => s'.node m.target = ((s.begin t).overhear m { code := 2 }).node m.target)

/-- For every addressed command: a target that has accepted its counter already is left as it is by a repeat, and one with a greater last counter ignores and counts it
(04 R111); a command a node that is not admitted does not obey changes nothing in it (04 R116). -/
def Obligations.NodeCommandCounters : Prop :=
  ∀ t (m : Mgmt) (c : Instr) s, m.target < 128 → m.target ∈ m.heard → (s.isTwin && !s.leads && s.pw.portsUp) = false →
    let seen := (s.readBitmaps m).onDev m.target fun d => { d with addressedAt := max s.now t }
    ((∃ a b o d w r p sl e dl, c = .linkTest t m a b ∨ c = .admitNode t m b o w ∨ c = .load t m b o d ∨ c = .commit t m b o w ∨ c = .relayAssign t m r p sl e ∨
      c = .propagationDelay t m dl ∨ c = .release t m ∨ c = .challenge t m 1 b) →
      (((s.readBitmaps m).dev m.target).lastCounter = m.counter → Does c s seen) ∧
      (m.counter < ((s.readBitmaps m).dev m.target).lastCounter → Does c s (seen.onDev m.target fun d => { d with lowerCounters := wrapInc d.lowerCounters }))) ∧
    ((∃ a b o d w r p sl e dl, c = .linkTest t m a b ∨ (b ≠ 4 ∧ (c = .load t m b o d ∨ c = .commit t m b o w)) ∨ c = .relayAssign t m r p sl e ∨
      c = .propagationDelay t m dl ∨ c = .release t m) →
      ((s.readBitmaps m).dev m.target).adm ≠ .admitted → ((s.readBitmaps m).dev m.target).lastCounter < m.counter → Does c s seen)

/-- A beacon heard ends the run of missed ones, brings the quality figure and the timing-degraded mark of 02 R61, and a new key that checks lets the node report (04 R118). A missed one counts; at the 25th in
Run and the 2nd in Watch transmissions stop and the set is zero (03 R76; 09 R240). Ten seconds without a beacon end the admission (04 R112). A committed area becomes active
at its sweep (04 R110). A start leaves the node's identity alone (09 R240). An unanswered request raises the attempt count, and the retry ceiling brings the listening pause, whose end starts afresh (03 R85). -/
def Obligations.NodeBeacons : Prop :=
  (∀ t (n : Fin 128) b s, Answers (.nodeBeaconReceived t n b) s fun s' =>
    (s'.dev n.val).missed = 0 ∧ (s'.dev n.val).lastBeacon = max s.now t ∧
    (s'.dev n.val).tq = min 255 b.quality ∧ (s'.dev n.val).silentTx = false ∧
    (s'.dev n.val).clockCorr = ((b.tx + 256 * (s.dev n.val).propDelay : Nat) : Int) - b.rx ∧ (50 < b.quality → (s'.dev n.val).degraded = true) ∧
    (b.quality ≤ 50 → 3 ≤ (s.dev n.val).goodRun → (s'.dev n.val).degraded = false) ∧
    ((s.dev n.val).newKey = true → b.keyOk = true → (s'.dev n.val).adm = .admitted ∧ (s'.dev n.val).keyed = true) ∧
    ((s.dev n.val).newKey = true → b.keyOk = false → (s'.dev n.val).adm = .unadmitted) ∧
    (∀ j, j ≠ n.val → s'.dev j = s.dev j) ∧ { s'.bare with ra := {} } = { s.bare with ra := {} }) ∧
  (∀ t (n : Fin 128) f s, Answers (.nodeMissedBeacon t n f) s fun s' =>
    (s'.dev n.val).missed = (s.dev n.val).missed + 1 ∧
    ((s.dev n.val).watch = false → 24 ≤ (s.dev n.val).missed → (s.dev n.val).silentTx = false → (s'.dev n.val).silentTx = true ∧ (s'.dev n.val).balSet = {}) ∧
    ((s.dev n.val).watch = true → 1 ≤ (s.dev n.val).missed → (s.dev n.val).silentTx = false → (s'.dev n.val).silentTx = true ∧ (s'.dev n.val).balSet = {}) ∧
    ((s.dev n.val).watch = false → (s.dev n.val).missed < 10 → (s'.dev n.val).degraded = (s.dev n.val).degraded) ∧
    (∀ j, j ≠ n.val → s'.dev j = s.dev j) ∧ { s'.bare with ra := {} } = { s.bare with ra := {} }) ∧
  (∀ t (n : Fin 128) s, (s.dev n.val).lastBeacon + sec 10 ≤ max s.now t → Does (.nodeBeaconSilence t n) s (s.onDev n.val fun d => d.leave)) ∧
  (∀ t (n : Fin 128) s, max s.now t < (s.dev n.val).lastBeacon + sec 10 → Idles (.nodeBeaconSilence t n) s) ∧
  (∀ t (n : Fin 128) a s, (s.dev n.val).commitAt.get 1 0 = a + 1 → notBefore (s.begin t).sweepNo a = true →
    Answers (.nodeSetActivation t n) s fun s' => (s'.dev n.val).active.get 1 [] = (s.dev n.val).committed.get 1 [] ∧ (s'.dev n.val).commitAt.get 1 0 = 0 ∧
      (∀ j, j ≠ n.val → s'.dev j = s.dev j) ∧ { s'.bare with ra := {} } = { s.bare with ra := {} }) ∧
  (∀ t (n : Fin 128) s, Does (.nodeStart t n) s (s.onDev n.val fun d => { ident := d.ident, key := d.key, harness := d.harness, fw := d.fw })) ∧
  (∀ t (n : Fin 128) s, (s.dev n.val).adm ≠ .admitted → (s.dev n.val).requestSent = true → (s.dev n.val).ceiling ≤ (s.dev n.val).attempts + 1 →
    Does (.nodeAdmissionBackoff t n) s (s.onDev n.val fun d => { d with
      attempts := d.attempts + 1, requestSent := false, listenUntil := some (max s.now t + sec d.pause) })) ∧
  (∀ t (n : Fin 128) s, (s.dev n.val).adm ≠ .admitted → (s.dev n.val).requestSent = true → (s.dev n.val).attempts + 1 < (s.dev n.val).ceiling →
    Answers (.nodeAdmissionBackoff t n) s fun s' => (s'.dev n.val).attempts = (s.dev n.val).attempts + 1 ∧
      (s'.dev n.val).backoff < 2 ^ (min ((s.dev n.val).attempts + 1) 5) ∧ (s'.dev n.val).requestSent = false ∧ (∀ j, j ≠ n.val → s'.dev j = s.dev j) ∧
      { s'.bare with ra := {}, freeIdx := 0 } = { s.bare with ra := {}, freeIdx := 0 }) ∧
  (∀ t (n : Fin 128) d s, (s.dev n.val).listenUntil = some d → d ≤ max s.now t →
    Does (.listeningPauseExpiry t n) s (s.onDev n.val fun d => { d with listenUntil := none, attempts := 0, backoff := 0 }))

/-- The values of a sweep enter the next report (04 R103, R122). A node that may transmit sends its highest-priority unacknowledged alarm, whose number it notes as sent (04 R123); one without an alarm, or whose
repetition a poll stopped, sends none (03 R82). Its report, once in its slot, carries the values and turns to the other temperature bank (04 R103); a node that may not transmit sends nothing. A relay
forwards the frame its partner sent, unchanged (03 R88). The end of a tone window leaves a block of that window (06 R155). -/
def Obligations.NodeReports : Prop :=
  (∀ t (n : Fin 128) m s, Answers (.nodeAlarmDecision t n m) s fun s' =>
    (s'.dev n.val).temps = m.temps ∧ ((s'.dev n.val).decided.head?.map fun e => (e.1, e.2.1)) = some (s.devSweep (s.dev n.val) m, (List.range 16).map fun j =>
      match nodeVolt m j with | some v => clampInt (-500000) 5000000 v | none => -8388608) ∧
    (∀ j, j ≠ n.val → s'.dev j = s.dev j) ∧ { s'.bare with ra := {} } = { s.bare with ra := {} }) ∧
  (∀ t (n : Fin 128) (a : Fin 4) x s, (s.dev n.val).top = some x → (s.dev n.val).mayReport = true → (s.dev n.val).polled = false →
    alarmBegin a.val + 5000 ≤ (s.begin t).chanPhase (n.val / 32) → (s.begin t).chanPhase (n.val / 32) < alarmBegin a.val + 30000 →
    Does (.nodeAlarmSlot t n a) s (s.onDev n.val fun d => { d with sentSeqs := insertN x.seq d.sentSeqs }) ∧
    Answers (.nodeAlarmSlot t n a) s fun s' => ∃ e ∈ s'.out, e.kind = .nodeAlarm ∧ e.port = n.val / 32 ∧
      e.bytes.take 4 = [0x40 + x.seq % 16, s.cfg.string.index, n.val, x.code]) ∧
  (∀ t (n : Fin 128) (a : Fin 4) s, ((s.dev n.val).top = none ∨ (s.dev n.val).polled = true ∨ (s.begin t).chanPhase (n.val / 32) < alarmBegin a.val + 5000) →
    Idles (.nodeAlarmSlot t n a) s) ∧
  (∀ t (n : Fin 128) s, let k := (s.begin t).superframeOf (n.val / 32)
    (s.begin t).reportsIn (s.dev n.val) k = true → (s.begin t).inReportSlot (n.val / 32) (slotOf n.val) = true → (s.dev n.val).reportedIn ≠ some k →
    Answers (.nodeReportTransmit t n) s fun s' =>
      (s'.dev n.val).tempBank = 1 - (s.dev n.val).tempBank ∧ (s'.dev n.val).reportedIn = some k ∧ (s'.dev n.val).sentReport = (s.begin t).reportFrame n.val k ∧
      wrapped s.cfg { kind := .nodeReport, port := n.val / 32, bytes := (s.begin t).reportFrame n.val k } ∈ s'.out ∧
      (∀ j, j ≠ n.val → s'.dev j = s.dev j) ∧ { s'.bare with ra := {} } = { s.bare with ra := {} }) ∧
  (∀ (s : State) n k, (s.reportFrame n k).take 3 = [0x21, s.cfg.string.index, n]) ∧
  (∀ t (n : Fin 128) s, (s.dev n.val).mayReport = false → Idles (.nodeReportTransmit t n) s ∧ ∀ h, Idles (.relayForward t n h) s) ∧
  (∀ t (n : Fin 128) s, let k := (s.begin t).superframeOf (n.val / 32)
    let src := s.dev (32 * (n.val / 32) + (s.dev n.val).partner)
    (s.begin t).reportsIn (s.dev n.val) k = true → (s.dev n.val).role = 1 → (s.begin t).inReportSlot (n.val / 32) (s.dev n.val).fwdSlot = true →
    Does (.relayForward t n false) s (s.onDev n.val fun d => { d with relayed := [] }) ∧
    (src.reportedIn = some k → Does (.relayForward t n true) s (s.onDev n.val fun d => { d with relayed := src.sentReport }) ∧
      Sends (.relayForward t n true) s { kind := .relayForward, port := n.val / 32, bytes := src.sentReport })) ∧
  (∀ t (n : Fin 128) x s, Answers (.nodeToneWindowEnd t n x) s fun s' => (∀ j, j ≠ n.val → s'.dev j = s.dev j) ∧
    (s'.dev n.val).toneWindow = ((s.begin t).sweepAbs - 100) % two32 ∧ { s'.bare with ra := {} } = { s.bare with ra := {} })

/-- At a sweep end the block numbers the sweep before this instant and takes the value of every channel from its samples (05 R130 to R132): the mean, least and greatest in the
channel's unit, out of range at full scale, and missing without samples (05 R134); a block that does not sample is left as it is, and a sweep ends once (01 R38). The coil supply is taken along. -/
def Obligations.SweepEndChannels : Prop :=
  (∀ t x s, s.samples = false → Idles (.sweepEnd t x) s) ∧
  (∀ t x s, s.acq.endedAt = some (((s.begin t).sweepNo + two32 - 1) % two32) → Idles (.sweepEnd t x) s) ∧
  (∀ t x s, s.samples = true → s.pw.resetHold = none → s.acq.endedAt ≠ some (((s.begin t).sweepNo + two32 - 1) % two32) →
    Answers (.sweepEnd t x) s fun s' => let n := ((s.begin t).sweepAbs + two32 - 1) % two32
      s'.acq.sweep = n ∧ s'.acq.endedAt = some n ∧ s'.acq.coilSupply = x.supply ∧
      (∀ c, c < 11 → c ≠ 4 → s'.achan c = s.chanValue n c (x.samples.getD (s.calEntry n c) []))) ∧
  (∀ n c (s : State), s.chanValue n c [] = {})

/-- A branch window of fewer than 100 sweeps is not judged, and one that is not usable is skipped and counted (05 R141). A current window is judged after 10 sweeps and starts anew, with its run of windows beyond the tolerance
(05 R142). A branch without 1 000 sweeps confirmed open leaves the running offset as it is, and otherwise the average of IB joins it within 5 uV (05 R143). A swap begins; 101 sweeps later a good
comparison moves on to the next channel; of a bad one with good reference points the spare is faulty, or else the channel is held on the spare; with no spare path the test is deferred (05 R144; 06 R181). The IS offset test runs in a zero-current interval, and is deferred after 24 h of Run without one (05 R145). -/
def Obligations.AcquisitionChecks : Prop :=
  (∀ t (b : Fin 4) s, (s.acq.mismatch.get b.val {}).count < 100 → Idles (.branchVoltageCrossCheck t b) s) ∧
  (∀ t (b : Fin 4) s, 100 ≤ (s.acq.mismatch.get b.val {}).count → (s.acq.mismatch.get b.val {}).usable = false →
    Does (.branchVoltageCrossCheck t b) s (s.onAcq fun a => { a with mismatch := a.mismatch.upd b.val {} fun w =>
      { w with count := 0, usable := true, sumCells := 0, sumHv := 0, sumIb := 0, skipped := wrapInc w.skipped } })) ∧
  (∀ t (b : Fin 4) s, 100 ≤ (s.acq.mismatch.get b.val {}).count → (s.acq.mismatch.get b.val {}).usable = true →
    Answers (.branchVoltageCrossCheck t b) s fun s' => (s'.acq.mismatch.get b.val {}).count = 0 ∧ (s'.acq.mismatch.get b.val {}).skipped = (s.acq.mismatch.get b.val {}).skipped ∧
      ((s'.acq.mismatch.get b.val {}).overRun = 0 ∨ (s'.acq.mismatch.get b.val {}).underRun = 0)) ∧
  (∀ t s, s.acq.xCount < 10 → Idles (.currentCrossCheck t) s) ∧
  (∀ t s, 10 ≤ s.acq.xCount → Answers (.currentCrossCheck t) s fun s' =>
    let is : Rat := (s.acq.xSumIs : Rat) / 10
    let beyond := (s.cfg.cross.iShare : Rat) / 10000 * absR is + (s.cfg.cross.iFixed : Rat) < absR (is - (s.acq.xSumIb : Rat) / 10)
    s'.acq.xCount = 0 ∧ s'.acq.xSumIs = 0 ∧ s'.acq.xSumIb = 0 ∧ (beyond → s'.acq.xRun = min 127 (s.acq.xRun + 1)) ∧ (¬ beyond → s'.acq.xRun = 0) ∧
    s'.acq.xReported = decide (s.cfg.cross.iWindows ≤ s'.acq.xRun)) ∧
  (∀ t (b : Fin 4) s, (s.confirmedOpen (b.val + 1) = false ∨ s.acq.openRun.get b.val 0 < 1000) → Idles (.shuntOffsetUpdate t b) s) ∧
  (∀ t (b : Fin 4) s, s.confirmedOpen (b.val + 1) = true → s.confirmedOpen (b.val + 5) = true → 1000 ≤ s.acq.openRun.get b.val 0 →
    Answers (.shuntOffsetUpdate t b) s fun s' =>
      let v := roundOpen 5 (((s.acq.offsets.get b.val 0 : Int) : Rat) +
        meanR ((s.acq.ring.take 1000).flatMap fun e => e.2.getD b.val []) * (s.cfg.shunts.rNano.getD b.val 0 : Rat) / 1000)
      s'.acq.openRun.get b.val 0 = 0 ∧ (∀ j, j ≠ b.val → s'.acq.offsets.get j 0 = s.acq.offsets.get j 0) ∧
      (v.natAbs ≤ 5000 → s'.acq.offsets.get b.val 0 = v) ∧ (5000 < v.natAbs → s'.acq.offsets = s.acq.offsets) ∧ { s'.bare with acq := {} } = { s.bare with acq := {} }) ∧
  (∀ t z pts s, s.acq.spareFaultHv = false → s.spareBusy true = false → s.acq.swapHv = none →
    Does (.spareSelfTestStep t true z pts) s { s with acq := { s.acq with swapHv := some (s.begin t).sweepNo, cmpHv := true } }) ∧
  (∀ t z pts n s, s.acq.spareFaultIb = false → s.spareBusy false = false → s.acq.swapIb = some n → notBefore (s.begin t).sweepNo ((n + 101) % two32) = true →
    Answers (.spareSelfTestStep t false z pts) s fun s' => s'.acq.swapIb = none ∧ s'.acq.testIb = (s.acq.testIb + 1) % 4 ∧
      (s.acq.cmpIb = true → s'.acq.faulty = s.acq.faulty ∧ s'.acq.spareFaultIb = false) ∧
      (s.acq.cmpIb = false → (z && pts) = true → s'.acq.spareFaultIb = true ∧ s'.acq.faulty = s.acq.faulty) ∧
      (s.acq.cmpIb = false → (z && pts) = false → s'.acq.faulty = insertN s.acq.testIb s.acq.faulty ∧ s'.acq.spareFaultIb = false)) ∧
  (∀ t z pts s, s.spareBusy true = true → s.pw.state ≠ .watch → 1 ∉ s.dl.deferred →
    Does (.spareSelfTestStep t true z pts) s { s with dl := { s.dl with deferred := insertN 1 s.dl.deferred } }) ∧
  (∀ t z s, s.acq.zeroSince = some z → z + sec 1 ≤ max s.now t →
    Does (.isOffsetTest t) s { s with acq := { s.acq with lastIsTest := max s.now t }, dl := { s.dl with deferred := s.dl.deferred.filter fun x => !decide (x = 3) } }) ∧
  (∀ t s, s.acq.zeroSince = none → sec 86400 ≤ s.acq.runNs →
    Does (.isOffsetTest t) s { s with acq := { s.acq with lastIsTest := max s.now t }, dl := { s.dl with deferred := insertN 3 s.dl.deferred } })

/-- A field recalibration outside its conditions is answered BUSY and changes no calibration (05 R148; the reason code is free, log 20). Inside them it begins with the points of its channel mask (05 R149); a point is captured over 2 000 sweeps with its mean, or
refused for more than three times the noise of the channel; the commit of captured points within the limits, under a correct authorisation, replaces the set, and the counter advances (13 R351); it is applied
at the next analog initialisation and not before. A lockout ends at its instant, with the rejections forgotten. -/
def Obligations.Recalibration : Prop :=
  (∀ t m mask s, s.takes m → s.calAllowed m = false →
    Answers (.calibrationBegin t m mask) s fun s' => s'.acq = (s.begin t).acq ∧ (∃ r, r < 256 ∧ (s'.tele m.key).client.stored = cmdReply 0x0101 stBusy r [])) ∧
  (∀ t m mask s, s.takes m → s.calAllowed m = true → mask < 16384 →
    Answers (.calibrationBegin t m mask) s fun s' => s'.acq.calMask = some mask ∧ s'.acq.calPoints = (bitsIn 13 mask).flatMap pointsOf ∧ s'.acq.calMeans = {} ∧
      s'.acq.calCapture = none ∧ (s'.tele m.key).client.stored = cmdReply 0x0101 stDone 0 [] ∧
      { s'.bare with acq := {}, nt := {} } = { s.bare with acq := {}, nt := {} }) ∧
  (∀ t m p mask s, s.takes m → s.calAllowed m = true → s.acq.calMask = some mask → p < s.acq.calPoints.length →
    Answers (.capturePoint t m p) s fun s' => s'.acq.calCapture = some p ∧ (s'.tele m.key).inFlight = some (0x0102, m.seq) ∧
      { s'.bare with acq := {}, nt := {} } = { s.bare with acq := {}, nt := {} }) ∧
  (∀ t p s, s.acq.calCapture = some p → 2000 ≤ s.acq.calSweeps.length →
    Answers (.capturePointComplete t p (s.acq.calPoints.getD p (0, 0)).1) s fun s' =>
      let m := avgR s.acq.calSweeps
      let noise := (clampU 32 (roundOpen 6 (Config.sqrt (avgR (s.acq.calSweeps.map fun x => (x - m) * (x - m)))))).toNat
      s'.acq.calCapture = none ∧ s'.acq.calSweeps = [] ∧
      (noise ≤ 3 * noiseOf (s.acq.calPoints.getD p (0, 0)).1 → s'.acq.calMeans.get p notCaptured = (clampS 32 (roundOpen 6 m), noise)) ∧
      (3 * noiseOf (s.acq.calPoints.getD p (0, 0)).1 < noise → s'.acq.calMeans = s.acq.calMeans) ∧
      { s'.bare with acq := {}, nt := {} } = { s.bare with acq := {}, nt := {} }) ∧
  (∀ t p e q s, s.acq.calCapture = some q → s.acq.calSweeps.length < 2000 ∨ q ≠ p ∨ (s.acq.calPoints.getD q (0, 0)).1 ≠ e → Idles (.capturePointComplete t p e) s) ∧
  (∀ t m ref a mask s, s.takes m → s.calAllowed m = true → s.acq.calMask = some mask → s.calWithin mask = true → (s.begin t).authLocked = false →
    a.counter = wrapInc s.sf.counter → a.ok = true →
    Answers (.calibrationCommit t m ref a) s fun s' => s'.acq.cal.valid = true ∧ s'.acq.cal.origin = 2 ∧ s'.acq.cal.fieldMask = mask ∧ s'.acq.cal.reference = ref.take 8 ∧
      s'.acq.calMask = none ∧ s'.acq.applied = s.acq.applied ∧ s'.acq.calSweeps = [] ∧ s'.sf.counter = wrapInc s.sf.counter ∧
      (s'.tele m.key).client.stored = cmdReply 0x0103 stDone 0 [] ∧ { s'.bare with acq := {}, nt := {}, sf := {}, freeIdx := 0 } = { s.bare with acq := {}, nt := {}, sf := {}, freeIdx := 0 }) ∧
  (∀ t m ref a mask s, s.takes m → s.calAllowed m = true → s.acq.calMask = some mask → s.calWithin mask = true → (s.begin t).authLocked = false →
    a.counter = wrapInc s.sf.counter → a.ok = false →
    Answers (.calibrationCommit t m ref a) s fun s' => s'.acq = (s.begin t).acq ∧ s'.sf.counter = s.sf.counter ∧ s'.sf.rejects.head? = some (max s.now t) ∧
      (s'.tele m.key).client.stored = cmdReply 0x0103 stRefused 13 []) ∧
  (∀ t d s, s.sf.lockUntil = some d → d ≤ max s.now t →
    Does (.authorisationLockoutExpiry t) s { s with sf := { s.sf with lockUntil := none, rejects := [] } })

/-- The leading module issues the first tone plan with identifier 0 (model's choice, log 43) and a later one, whose content differs and which comes at least 10 s after the last, under the next identifier,
each from a window start at least 2 000 sweeps after the sweep in progress, fixed by its first Load; the last 8 are kept (06 R153). A follower issues none. Every 60 s at rest the even and odd assignments swap (06 R163). Tone requests start only at a tone window start;
outside their conditions every request is withdrawn, and inside them the configured amplitudes are requested (06 R160 to R162). -/
def Obligations.TonePlans : Prop :=
  (∀ t s, s.leads = false → Idles (.tonePlanChange t) s) ∧
  (∀ t s, s.leads = true → s.sageRuns = true → s.sg.plans = [] →
    Answers (.tonePlanChange t) s fun s' => s'.sg.plans = [(s.begin t).planFor 0 (s.begin t).planStart] ∧ s'.sg.lastPlanAt = (s.begin t).sweepNo ∧ s'.sg.planOpen = true ∧
      { s'.bare with sg := {}, ra := {} } = { s.bare with sg := {}, ra := {} }) ∧
  (∀ t p l s, s.leads = true → s.sageRuns = true → s.sg.plans = p :: l → 10000 ≤ ((s.begin t).sweepNo + two32 - s.sg.lastPlanAt) % two32 →
    ((s.begin t).planFor p.ident p.fromSweep) ≠ p →
    Answers (.tonePlanChange t) s fun s' => s'.sg.plans = ((s.begin t).planFor ((p.ident + 1) % 8) (s.begin t).planStart :: p :: l).take 8 ∧
      s'.sg.lastPlanAt = (s.begin t).sweepNo) ∧
  (∀ t s, s.sg.plans ≠ [] → ((s.begin t).sweepNo + two32 - s.sg.lastPlanAt) % two32 < 10000 → Idles (.tonePlanChange t) s) ∧
  (∀ s : State, s.planStart < two32 ∧ ∃ k, s.sweepAbs + 2001 ≤ 100 * k ∧ 100 * k < s.sweepAbs + 2101 ∧ s.planStart = (100 * k) % two32) ∧
  (∀ t s, s.leads = false → Idles (.restExcitationSwap t) s) ∧
  (∀ t s, s.leads = true → s.sageRuns = true → s.sg.rest = true → (s.begin t).atRest = true → s.sg.lastSwap + sec 60 ≤ max s.now t →
    Answers (.restExcitationSwap t) s fun s' => s'.sg.swapped = !s.sg.swapped ∧ s'.sg.lastSwap = max s.now t ∧ s'.sg.rest = true) ∧
  (∀ t s, s.leads = true → s.sageRuns = true → s.sg.rest = false → (s.begin t).atRest = true →
    Answers (.restExcitationSwap t) s fun s' => s'.sg.swapped = s.sg.swapped ∧ s'.sg.lastSwap = max s.now t ∧ s'.sg.rest = true) ∧
  (∀ t s, (s.begin t).sweepAbs % 100 ≠ 0 → Idles (.toneRequestStart t) s) ∧
  (∀ t s, (s.begin t).sweepAbs % 100 = 0 → s.toneAllowed = false →
    Answers (.toneRequestStart t) s fun s' => s'.sg.toneReq = {} ∧ s'.rt.toneUnit = 255) ∧
  (∀ t s, (s.begin t).sweepAbs % 100 = 0 → s.toneAllowed = true → s.sg.toneReq = {} → s.sg.toneBan = false →
    (s.onSage fun g => { g with toneReq := s.toneAmps.foldl (fun t e => t.put e.1 0 e.2) {} }).toneOverLimit = false →
    Answers (.toneRequestStart t) s fun s' => s'.sg.toneReq = s.toneAmps.foldl (fun t e => t.put e.1 0 e.2) {} ∧ s'.sg.toneBan = false ∧
      { s'.bare with sg := {}, rt := {} } = { s.bare with sg := {}, rt := {} })

/-- Without a tone plan an interval end and a fit do nothing. A window-band interval with fewer units than required and none excluded gives status 3 (06 R170); fewer than 4 valid estimates give the fit status 2 and keep its
numbers (06 R171, R172). Every second each cell's internal temperature is computed anew (06 R174). The first equilibrium that is reached of a cell and SoC band sets its coefficient a and keeps the temperature (06 R175). A Sage cycle whose
foreground fits in 850 us carries no work on, and one that overruns 1 ms counts a carry and carries the rest (06 R179). -/
def Obligations.ImpedanceEstimates : Prop :=
  (∀ t s, s.sg.plans = [] → Idles (.impedanceIntervalEnd t) s ∧ Idles (.lowBandSubblockEnd t) s ∧ Idles (.equivalentCircuitFit t) s) ∧
  (∀ t p s, s.sageRuns = true → s.planAt (((s.begin t).sweepAbs / 1000 * 1000 + two32 - 1) % two32) = some p → (s.begin t).turnOpen 4 (sec 1) 0 = true →
    Answers (.impedanceIntervalEnd t) s fun s' => s'.sg.shedInterval = false ∧
    (∀ c, c ∈ s.cfg.allCells → s'.sg.winBegin.get c (noTemp, 0) = (s.cellTemp c, (s.cell c).soc)) ∧
    (∀ c i, c ∈ s.cfg.allCells → i < 8 → i < p.count → windowBand (p.freqs.getD i 0) = true → (s.imp c i).units.length < s.cfg.est.minWin → (s.imp c i).excl = [] →
      (s'.imp c i).status = 3 ∧ (s'.imp c i).eligible = (s.imp c i).eligible) ∧
    { s'.bare with sg := {}, freeIdx := 0 } = { s.bare with sg := {}, freeIdx := 0 }) ∧
  (∀ t p s, s.sageRuns = true → s.planAt (((s.begin t).sweepAbs / 10000 * 10000 - 10000) % two32) = some p → (s.begin t).turnOpen 5 (sec 10) 0 = true →
    Answers (.lowBandSubblockEnd t) s fun s' => s'.sg.excludedSub = false ∧
    (∀ c, c ∈ s.cfg.allCells → (s'.sg.lowBegin.get c []).head? = some (s.cellTemp c, (s.cell c).soc)) ∧
    { s'.bare with sg := {}, freeIdx := 0 } = { s.bare with sg := {}, freeIdx := 0 }) ∧
  (∀ t p s, s.sageRuns = true → s.planAt (s.begin t).sweepNo = some p → (s.begin t).turnOpen 6 (sec 10) 0 = true →
    Answers (.equivalentCircuitFit t) s fun s' => (∀ c, c ∈ s.cfg.allCells →
    ((List.range p.count).filter fun i => decide ((s.imp c i).okFreq ≠ 0 ∧ (s.imp c i).okFreq = p.freqs.getD i 0)).length < 4 →
    (s'.fit c).status = 2 ∧ (s'.fit c).r0 = (s.fit c).r0 ∧ (s'.fit c).r1 = (s.fit c).r1 ∧ (s'.fit c).validR0 = (s.fit c).validR0 ∧ (s'.fit c).sweep = (s.begin t).sweepNo) ∧
    { s'.bare with sg := {}, ra := {} } = { s.bare with sg := {}, ra := {} }) ∧
  (∀ t s, s.sageRuns = true → (s.begin t).turnOpen 7 (sec 1) 0 = true → Answers (.internalTemperatureUpdate t) s fun s' => (∀ c, c ∈ s.cfg.allCells → s'.sg.tInt.get c noTemp = s.internalTemp c) ∧
    { s'.bare with sg := {} } = { s.bare with sg := {} }) ∧
  (∀ t (c : Fin 2048) s, s.dR c.val = none ∨ (s.begin t).atEquilibrium c.val = false → Idles (.equilibriumLearning t c) s) ∧
  (∀ t (c : Fin 2048) d s, s.sageRuns = true → s.dR c.val = some d → (s.begin t).atEquilibrium c.val = true →
    (s.coef c.val (s.socBand c.val)).flags.testBit 0 = false → (s.coef c.val (s.socBand c.val)).lo = none → (s.coef c.val (s.socBand c.val)).hi = none →
    Answers (.equilibriumLearning t c) s fun s' => let k := s'.coef c.val (s.socBand c.val)
      k.flags = (s.coef c.val (s.socBand c.val)).flags ||| 5 ∧ k.firstTemp = s.cellTemp c.val ∧ k.b = (s.coef c.val (s.socBand c.val)).b ∧
      k.slope = (s.coef c.val (s.socBand c.val)).slope ∧ { s'.bare with sg := {}, ra := {} } = { s.bare with sg := {}, ra := {} }) ∧
  (∀ t w s, s.sageRuns = true → (s.begin t).turnOpen 8 (ms 1) 0 = true → s.sg.fgLeft + w ≤ 850 → Answers (.sageCycle t w) s fun s' => s'.sg.fgLeft = 0 ∧ s'.sg.carried = 0 ∧ s'.sg.carries = s.sg.carries ∧
    s'.sg.bgHist = (150 :: s.sg.bgHist).take 99 ∧ s'.sg.corrDecimated = false) ∧
  (∀ t w s, s.sageRuns = true → (s.begin t).turnOpen 8 (ms 1) 0 = true → 1000 < s.sg.fgLeft + w → s.sg.carried < 4 → Answers (.sageCycle t w) s fun s' => s'.sg.carried = s.sg.carried + 1 ∧ s'.sg.carries = wrapInc s.sg.carries ∧
    s'.sg.fgLeft + 850 + min 150 (s.sg.bgHist.foldl (· + ·) 0 + 150 - 10000) = s.sg.fgLeft + w ∧ s'.sg.excludedSub = s.sg.excludedSub)

/-- A rest anchor waits for the rest time, and a window anchor for the hold time of its window, which then lapses before it can anchor again (07 R194 to R197). An anchor is kept with its kind, value and
uncertainty, restarts the count, and clears its degradation (07 R193); at zero slope the uncertainty of a rest anchor is a free value (log 25). The window anchors act on each cell of the branch whose latest valid
value lies in the window's voltage band, and on no other. A fade-and-leakage check that is due closes (07 R200). -/
def Obligations.ChargeAnchors : Prop :=
  (∀ t (c : Fin 2048) s, (s.cell c.val).restRun < 1000 * s.cfg.anchor.restS → Idles (.restAnchor t c) s) ∧
  (∀ t (c : Fin 2048) s, 1000 * s.cfg.anchor.restS ≤ (s.cell c.val).restRun → (s.cell c.val).restVolts ≠ [] → (s.cell c.val).live = true →
    let x := s.cell c.val
    let pts := s.ocvPoints (s.cellTemp c.val) x.h
    let a := invCurve (meanR (x.restVolts.map fun e => e.2) / 1000000) pts
    Answers (.restAnchor t c) s fun s' => let y := s'.cell c.val
      y.anchor.kind = 1 ∧ y.anchor.a = a ∧ y.anchor.atNs = max s.now t ∧ y.anchor.sweep = (s.begin t).sweepNo ∧ y.count = 0 ∧ y.degraded = false ∧ y.live = true ∧ y.soc = y.anchor.value ∧
      (slopeCurve a pts ≠ 0 → y.anchor.sigma = absR ((s.cfg.anchor.restUv : Rat) / 1000000 / slopeCurve a pts)) ∧ (∀ k, k ≠ c.val → s'.cell k = s.cell k) ∧
      { s'.bare with ch := {}, ra := {}, freeIdx := 0 } = { s.bare with ch := {}, ra := {}, freeIdx := 0 }) ∧
  (∀ t (b : Fin 4) s, (s.ch.eoc.get b.val {}).done = true ∨ (s.ch.eoc.get b.val {}).run < 1000 * s.cfg.anchor.holdS → Idles (.endOfChargeAnchor t b) s) ∧
  (∀ t (b : Fin 4) s, (s.ch.eoc.get b.val {}).done = false → 1000 * s.cfg.anchor.holdS ≤ (s.ch.eoc.get b.val {}).run →
    Answers (.endOfChargeAnchor t b) s fun s' => (s'.ch.eoc.get b.val {}).done = true ∧ (s'.ch.eoc.get b.val {}).run = 0 ∧
      (∀ c v, c ∈ s.cfg.branchCells b.val → s.latestValid c = some v → (s.cfg.anchor.vEoc : Int) - s.cfg.anchor.vEocBand ≤ v →
        (s'.cell c).anchor.kind = 2 ∧ (s'.cell c).anchor.a = (s.cfg.anchor.socEoc : Rat) / 10000 ∧ (s'.cell c).anchor.sigma = (s.cfg.anchor.sigma : Rat) / 10000 ∧ (s'.cell c).count = 0) ∧
      (∀ c, c ∉ s.cfg.branchCells b.val ∨ s.latestValid c = none → s'.cell c = s.cell c) ∧ { s'.bare with ch := {}, ra := {} } = { s.bare with ch := {}, ra := {} }) ∧
  (∀ t (b : Fin 4) s, (s.ch.eod.get b.val {}).done = true ∨ (s.ch.eod.get b.val {}).run < 1000 * s.cfg.anchor.holdS → Idles (.endOfDischargeAnchor t b) s) ∧
  (∀ t (b : Fin 4) s, (s.ch.eod.get b.val {}).done = false → 1000 * s.cfg.anchor.holdS ≤ (s.ch.eod.get b.val {}).run →
    Answers (.endOfDischargeAnchor t b) s fun s' => let w := s.ch.eod.get b.val {}
      (s'.ch.eod.get b.val {}).done = true ∧ (s'.ch.eod.get b.val {}).run = 0 ∧
      (∀ c v, c ∈ s.cfg.branchCells b.val → s.latestValid c = some v → v ≤ (s.cfg.anchor.vEod : Int) + s.cfg.anchor.vEodBand →
        (s'.cell c).anchor.kind = 3 ∧ (s'.cell c).count = 0 ∧ (s'.cell c).anchor.a = min 1 ((s.cfg.anchor.socEod : Rat) / 10000 +
          (1 - s.capFactor (s.cellTemp c) (s.cRate (absR ((w.sumI : Rat) / (w.run : Rat))) * 100)))) ∧
      (∀ c, c ∉ s.cfg.branchCells b.val ∨ s.latestValid c = none → s'.cell c = s.cell c) ∧ { s'.bare with ch := {}, ra := {} } = { s.bare with ch := {}, ra := {} }) ∧
  (∀ t (c : Fin 2048) s, (s.cell c.val).checkOpen = false ∨ max s.now t < (s.cell c.val).checkAt + sec (86400 * s.cfg.dis.days) → Idles (.fadeAndLeakageCheckClose t c) s) ∧
  (∀ t (c : Fin 2048) s, (s.cell c.val).checkOpen = true → (s.cell c.val).checkAt + sec (86400 * s.cfg.dis.days) ≤ max s.now t →
    Answers (.fadeAndLeakageCheckClose t c) s fun s' => s'.cell c.val = { s.cell c.val with checkOpen := false } ∧ (∀ k, k ≠ c.val → s'.cell k = s.cell k) ∧
      { s'.bare with ch := {}, ra := {} } = { s.bare with ch := {}, ra := {} })

/-- Each leakage evaluation keeps the median SoC of the string, and an estimate with fewer than 7 200 samples is not valid (07 R204). A publication changes nothing but the published objects (24 R562), which stand still in Hibernate and
Off (24 R564). A snapshot is written in Run and Watch alone; a node block write writes the waiting block of the lowest node (07 R212). The limit watchdog marks the limits stale 20 ms after the last in Run (08 R234). -/
def Obligations.ChargeRecordsAndLimits : Prop :=
  (∀ t s, s.sageRuns = false → Idles (.leakageEstimate t) s) ∧
  (∀ t s, s.sageRuns = true → (s.begin t).turnOpen 9 (sec 10) 0 = true → Answers (.leakageEstimate t) s fun s' => s'.ch.medianSoc = s.socMedian ∧
    (∀ c, (s'.cell c).q = (s.cell c).q ∧ (s'.cell c).soc = (s.cell c).soc ∧ (s'.cell c).count = (s.cell c).count) ∧
    (s.cfg.allCells.Nodup → ∀ c, c ∈ s.cfg.allCells → (s.cell c).leakData.length < 7199 → (s'.cell c).leakValid = false)) ∧
  (∀ t s, Idles (.chargeSummaryPublication t) s) ∧
  (∀ t s, s.sageRuns = true → (s.begin t).turnOpen 10 (ms 100) 0 = true → s.pw.recovery = false →
    Answers (.chargeSummaryPublication t) s fun s' => ∀ b, b ∈ s.cfg.branchList → b < 4096 →
    s'.nt.store.get (s.objectId (0x03001000 + b)) [] = (s.begin t).summaryRecord (s.cfg.branchCells b) ((s.begin t).branchCharge b)) ∧
  (∀ t oid s, s.publishes = false ∨ s.plainObject oid = none ∨ oid / 16777216 ≤ 4 → Idles (.periodicPublication t oid) s) ∧
  (∀ t s, s.publishes = true → s.pw.recovery = false → s.pw.state ≠ .flushing → (s.begin t).turnOpen (0x1000000 + 0x02001000 / 4096) (ms 100) 0 = true →
    Answers (.periodicPublication t 0x02001000) s fun s' =>
    s'.nt.store.get (s.objectId 0x02001000) [] = (s.begin t).summaryRecord s.cfg.allCells (s.begin t).stringCharge) ∧
  (∀ t oid s, Answers (.periodicPublication t oid) s fun s' => { s'.bare with ra := {}, freeIdx := 0 } = { s.bare with ra := {}, freeIdx := 0 }) ∧
  (∀ t s, s.pw.state ≠ .run → s.pw.state ≠ .watch → Idles (.snapshotWrite t) s) ∧
  (∀ t s, (s.pw.state = .run ∨ s.pw.state = .watch) → (s.begin t).turnOpen 11 (sec 1) 0 = true → Idles (.snapshotWrite t) s ∧ Answers (.snapshotWrite t) s fun s' => s'.ls.snapAt = max s.now t ∧
    ∃ c, (c = (s'.ls.items.get (itemKey 4 2 0) {}).a ∨ c = (s'.ls.items.get (itemKey 4 2 0) {}).b) ∧ c.valid = true ∧ c.payload = (s.begin t).snapshotBytes) ∧
  (∀ t s, (∀ n, n < 128 → (s.node n).waiting = false ∧ (s.node n).waitItems = 0) → Idles (.nodeBlockWrite t) s) ∧
  (∀ t n s, n < 128 → (s.node n).waiting = true → (∀ k, k < n → (s.node k).waiting = false) → Answers (.nodeBlockWrite t) s fun s' =>
    s'.node n = { s.node n with waiting := false } ∧ (∀ k, k ≠ n → s'.node k = s.node k) ∧
    ∃ c, (c = (s'.ls.items.get (itemKey 4 1 n) {}).a ∨ c = (s'.ls.items.get (itemKey 4 1 n) {}).b) ∧ c.valid = true ∧ c.payload = (s.begin t).nodeBlockBytes n) ∧
  (∀ t s, s.pw.state = .run → s.lim.freshAt + ms 20 ≤ max s.now t → Does (.limitWatchdogExpiry t) s { s with lim := { s.lim with stale := true } }) ∧
  (∀ t s, s.pw.state ≠ .run ∨ max s.now t < s.lim.freshAt + ms 20 → Idles (.limitWatchdogExpiry t) s)

/-- In Run each plan period, and in Watch each sixth, starts a plan, once, that is activated at the next period boundary (09 R253, R256), with status 1 exactly where the sets are zero sets (09 R255). A solve that completes loads each node whose
set differs, or that was guarded (09 R249, R253); one beyond its limit is abandoned with status 3 (09 R250). At the commit deadline a set not sent is dropped; at the activation sweep a confirmed set becomes active, and an unconfirmed one
leaves the node set-uncertain (09 R254). -/
def Obligations.BalancingPlan : Prop :=
  (∀ t s, ((s.pw.state ≠ .run ∧ (s.pw.state = .watch → (s.begin t).sweepAbs / 10000 % 6 ≠ 0)) ∨ s.ba.begun = some ((s.begin t).sweepAbs / 10000)) → Idles (.balancingPlanStart t) s) ∧
  (∀ t s, s.pw.state = .run → s.ba.begun ≠ some ((s.begin t).sweepAbs / 10000) → Answers (.balancingPlanStart t) s fun s' => let p := (s.begin t).sweepAbs / 10000
    s'.ba.begun = some p ∧ s'.ba.plan = p % two32 ∧ s'.ba.activation = (10000 * (p + 1)) % two32 ∧ s'.ba.solving = true ∧ s'.ba.solvedOk = false ∧ s'.ba.startedAt = max s.now t ∧
    s'.ba.flow = {} ∧ s'.ba.busFlow = {} ∧ s'.ba.nodesLoaded = 0 ∧ (s'.ba.status = 1 ↔ (s.begin t).zeroPlan = true) ∧ { s'.bare with ba := {} } = { s.bare with ba := {} }) ∧
  (∀ t s, s.pw.state = .watch → (s.begin t).sweepAbs / 10000 % 6 = 0 → s.ba.begun ≠ some ((s.begin t).sweepAbs / 10000) →
    Answers (.balancingPlanStart t) s fun s' => let p := (s.begin t).sweepAbs / 10000
    s'.ba.plan = p % two32 ∧ s'.ba.activation = (10000 * (p + 6)) % two32 ∧ s'.ba.solving = true) ∧
  (∀ t p s, s.ba.solving = false ∨ s.ba.plan ≠ p → Idles (.balancingSolveComplete t p) s) ∧
  (∀ t s, s.ba.solving = true → max s.now t < s.ba.startedAt + ms s.cfg.bal.solveMs → Answers (.balancingSolveComplete t s.ba.plan) s fun s' => s'.ba.solving = false ∧ s'.ba.solvedOk = true ∧
    s'.ba.solveMs = min 65535 ((max s.now t - s.ba.startedAt) / 1000000) ∧ s'.ba.solved = wrapInc s.ba.solved ∧
    (s.ba.status = 1 → ∀ n, n < 128 → (s.cfg.nodeEntry n).isSome = true → (s.node n).inService = true → (s.node n).guardMask ≠ 0 →
      (s'.node n).nextSet = some { currents := List.replicate 16 0, power := 0, flags := 2 } ∧ (s'.node n).commitSent = false) ∧
    (∀ n, (s'.node n).activeSet = (s.node n).activeSet) ∧ { s'.bare with ba := {}, ra := {} } = { s.bare with ba := {}, ra := {} }) ∧
  (∀ t s, s.ba.solving = false ∨ max s.now t < s.ba.startedAt + ms s.cfg.bal.solveMs → Idles (.solverLimitExpiry t) s) ∧
  (∀ t s, s.ba.solving = true → s.ba.startedAt + ms s.cfg.bal.solveMs ≤ max s.now t →
    let u : State := { s with ba := { s.ba with
      solving := false, solvedOk := false, status := 3, solved := wrapInc s.ba.solved, solveMs := min 65535 ((max s.now t - s.ba.startedAt) / 1000000) } }
    Does (.solverLimitExpiry t) s u ∧ Does (.balancingSolveComplete t s.ba.plan) s u) ∧
  (∀ t s, (s.ba.status = 3 ∨ s.ba.solvedOk = false ∨ s.ba.deadlineDone = true ∨
    notBefore (s.begin t).sweepNo ((s.ba.activation + two32 - s.deadlineLead) % two32) = false) → Idles (.commitDeadline t) s) ∧
  (∀ t s, s.ba.status ≠ 3 → s.ba.solvedOk = true → s.ba.deadlineDone = false → notBefore (s.begin t).sweepNo ((s.ba.activation + two32 - s.deadlineLead) % two32) = true →
    Answers (.commitDeadline t) s fun s' =>
    (∀ n, n < 128 → (s.node n).commitSent = false → (s'.node n).nextSet = none ∧ (s'.node n).activeSet = (s.node n).activeSet) ∧
    (∀ n, (s.node n).commitSent = true → s'.node n = s.node n) ∧ s'.ba = { s.ba with deadlineDone := true } ∧ { s'.bare with ra := {}, ba := {} } = { s.bare with ra := {}, ba := {} }) ∧
  (∀ t s, (s.ba.begun = none ∨ s.ba.activated = true ∨ notBefore (s.begin t).sweepNo s.ba.activation = false) → Idles (.planActivation t) s) ∧
  (∀ t s, s.ba.begun ≠ none → s.ba.activated = false → notBefore (s.begin t).sweepNo s.ba.activation = true → s.ba.solvedOk = false →
    Does (.planActivation t) s { s with ba := { s.ba with activated := true } }) ∧
  (∀ t s, s.ba.begun ≠ none → s.ba.activated = false → notBefore (s.begin t).sweepNo s.ba.activation = true → s.ba.solvedOk = true →
    Answers (.planActivation t) s fun s' => s'.ba.solvedOk = false ∧ s'.ba.activated = true ∧
    (∀ n b, n < 128 → (s.node n).nextSet = some b → (s.node n).commitSent = true → (s.node n).commitAcked = true →
      (s'.node n).activeSet = b ∧ (s'.node n).activeFrom = s.ba.activation ∧ (s'.node n).nextSet = none ∧ (s'.node n).guardMask = (s.node n).heldStops b) ∧
    (∀ n b, n < 128 → (s.node n).nextSet = some b → (s.node n).commitSent = true → (s.node n).commitAcked = false →
      (s'.node n).uncertain = (s.node n).uncertain ||| 1 ∧ (s'.node n).activeSet = (s.node n).activeSet) ∧
    (∀ n, n < 128 → (s.node n).nextSet = none → (s'.node n).activeSet = (s.node n).activeSet ∧ (s'.node n).uncertain = (s.node n).uncertain))

/-- A channel that is not used is not evaluated, and each channel once in its period. An open or shorted sensor reads missing; otherwise the mean of the new values, clamped to the channel's range and marked where it lay beyond, is the value of a channel without a broken sensor
(10 R265 to R268); how that mean is rounded is left open (log 8). A healthy node sensor out of range for 10 seconds without an internal temperature in agreement becomes broken, and the mask of broken sensors follows (10 R269). Cooling is
lost 60 s after a loop's valves or equipment went out, and is there again at once with them (10 R275). A loop evaluation happens in Run and Watch alone; without a valid cell temperature, or while the output was clamped, a loop keeps its integral (10 R282). -/
def Obligations.TemperatureAndCooling : Prop :=
  (∀ t c conv o s, s.chanUsed c = false ∨ s.sageRuns = false → Idles (.temperatureChannelEvaluation t c conv o) s) ∧
  (∀ t c conv s, s.sageRuns = true → s.chanUsed c = true → (s.begin t).turnOpen (0x1000 + c) (s.evalPeriod c) 0 = true → (s.tchan c).sensor ≠ .broken →
    Answers (.temperatureChannelEvaluation t c conv true) s fun s' => (s'.tchan c).rawQ = qAbsent ∧ (s'.tchan c).quality = qAbsent ∧ (s'.tchan c).source = 0 ∧ (s'.tchan c).raw = (s.tchan c).raw) ∧
  (∀ t c conv s, s.sageRuns = true → s.chanUsed c = true → (s.begin t).turnOpen (0x1000 + c) (s.evalPeriod c) 0 = true → isNodeSensor c = false → s.inputAway c = false → conv ≠ [] → (s.tchan c).sensor ≠ .broken →
    Answers (.temperatureChannelEvaluation t c conv false) s fun s' => (s'.tchan c).raw = clampInt (chanRange c).1 (chanRange c).2 (roundOpen 32 (meanR conv)) ∧
      (s'.tchan c).value = (s'.tchan c).raw ∧ (s'.tchan c).lastNew = max s.now t ∧ qValid (s'.tchan c).quality = true) ∧
  (∀ t c conv s, s.sageRuns = true → s.chanUsed c = true → (s.begin t).turnOpen (0x1000 + c) (s.evalPeriod c) 0 = true → isNodeSensor c = true → (s.tchan c).acc ≠ [] → (s.tchan c).sensor ≠ .broken →
    Answers (.temperatureChannelEvaluation t c conv false) s fun s' => (s'.tchan c).raw = clampInt (chanRange c).1 (chanRange c).2 (roundOpen 32 (meanR (s.tchan c).acc)) ∧
      (s'.tchan c).value = (s'.tchan c).raw ∧ (s'.tchan c).acc = [] ∧ qValid (s'.tchan c).quality = true) ∧
  (∀ t s, s.sageRuns = true → (s.begin t).turnOpen 12 (sec 1) 0 = true → Answers (.sensorCrossCheck t) s fun s' => s'.tm.brokenSweep = some (s.begin t).sweepNo ∧
    (∀ c, c ∈ s'.tm.brokenMask ↔ (c ∈ s.cfg.nodes.flatMap (fun n => (List.range 8).map fun i => 8 * n.index + i) ∧ (s'.tchan c).sensor = .broken)) ∧
    (∀ c, c ∈ s.cfg.nodes.flatMap (fun n => (List.range 8).map fun i => 8 * n.index + i) → (s.tchan c).sensor = .healthy → qRange (s.tchan c).rawQ = true → s.internalMean c = none →
      9 ≤ (s.tchan c).rangeRun → (s'.tchan c).sensor = .broken) ∧
    { s'.bare with tm := {} } = { s.bare with tm := {} }) ∧
  (∀ t (l : Fin 2) d s, s.loopOut l.val = true → (s.loopSt l.val).outSince = some d → d + sec 60 ≤ max s.now t →
    Answers (.coolingLoss t l) s fun s' => (s'.loopSt l.val).lost = true ∧ { s'.bare with tm := {} } = { s.bare with tm := {} }) ∧
  (∀ t (l : Fin 2) s, s.loopOut l.val = false → Answers (.coolingLoss t l) s fun s' => (s'.loopSt l.val).lost = false ∧ (s'.loopSt l.val).outSince = none) ∧
  (∀ t s, s.pw.state ≠ .run → s.pw.state ≠ .watch → Idles (.coolantLoopEvaluation t) s) ∧
  (∀ t l s, (s.pw.state = .run ∨ s.pw.state = .watch) → (s.begin t).turnOpen 13 (sec 1) 0 = true → l < 2 → Answers (.coolantLoopEvaluation t) s fun s' =>
    ((s.loopSt l).clamped = true → (s'.loopSt l).integ = (s.loopSt l).integ) ∧
    (s.loopBranches l ≠ [] → (∀ c, c ∈ (s.loopBranches l).flatMap s.cfg.branchCells → qValid (s.cellTempQ c) = false) →
      (s'.loopSt l).tc = none ∧ (s'.loopSt l).integ = (s.loopSt l).integ ∧ (s'.loopSt l).u = (s.loopSt l).u) ∧
    { s'.bare with tm := {}, di := {}, freeIdx := 0 } = { s.bare with tm := {}, di := {}, freeIdx := 0 })

/-- The velocity word rises by the acceleration, up to the greatest one, while the rotor stands away from its target (10 R278). A move ends on the target and holds for the hold time (10 R278). After eight milliseconds that show a stall, a first one marks the position uncertain and retries 1 s later at half
speed, a second one is a valve fault, and a stall of a homing run is the closed stop, position 0 (10 R279 to R281). HOME_VALVE begins a homing run with service-enable asserted, and CLEAR_SENSOR returns a broken sensor to healthy (17 R436). -/
def Obligations.ValveDrives : Prop :=
  (∀ t (v : Fin 2) m s, (s.valve v.val).moving = false → Idles (.valveVelocityUpdate t v m) s) ∧
  (∀ t (v : Fin 2) m s, let x := s.valve v.val
    x.moving = true → x.homing = false → x.vel = 0 → x.pos < x.target → x.acc < two32 → (s.begin t).turnOpen (0x20 + v.val) (ms 1) 0 = true →
    Answers (.valveVelocityUpdate t v m) s fun s' => let y := s'.valve v.val
      y.vel = min (if x.halfSpeed then (s.valveCfg v.val).maxVel / 2 else (s.valveCfg v.val).maxVel) ((s.valveCfg v.val).accel * two32 / 1000000000) ∧ y.opening = true ∧ y.pos = x.pos ∧ y.loadAngle = m.angle ∧
      { s'.bare with tm := {} } = { s.bare with tm := {} }) ∧
  (∀ t (v : Fin 2) s, (s.valve v.val).moving = false ∨ (s.valve v.val).homing = true ∨ (s.valve v.val).pos ≠ (s.valve v.val).target ∨ (s.valve v.val).vel ≠ 0 → Idles (.valveMoveEnd t v) s) ∧
  (∀ t (v : Fin 2) s, (s.valve v.val).moving = true → (s.valve v.val).homing = false → (s.valve v.val).pos = (s.valve v.val).target → (s.valve v.val).vel = 0 →
    Does (.valveMoveEnd t v) s (s.onValve v.val fun x => { x with moving := false, energy := 1, holdUntil := some (max s.now t + ms (s.valveCfg v.val).holdMs), stalls := 0, halfSpeed := false })) ∧
  (∀ t (v : Fin 2) d s, (s.valve v.val).holdUntil = some d → d ≤ max s.now t → Does (.valveHoldTimeExpiry t v) s (s.onValve v.val fun x => { x with energy := 0, holdUntil := none })) ∧
  (∀ t (v : Fin 2) s, (∀ d, (s.valve v.val).holdUntil = some d → max s.now t < d) → Idles (.valveHoldTimeExpiry t v) s) ∧
  (∀ t (v : Fin 2) s, (s.valve v.val).moving = false ∨ wordRate (s.valve v.val).vel ≤ ((s.valveCfg v.val).stallMin : Rat) ∨ (s.valve v.val).stallRun < 8 → Idles (.valveStall t v) s) ∧
  (∀ t (v : Fin 2) s, (s.valve v.val).moving = true → ((s.valveCfg v.val).stallMin : Rat) < wordRate (s.valve v.val).vel → 8 ≤ (s.valve v.val).stallRun → (s.valve v.val).homing = false → (s.valve v.val).stalls = 0 →
    Does (.valveStall t v) s (s.onValve v.val fun x => { x with vel := 0, stallRun := 0, uncertain := true, stalls := 1, moving := false, energy := 2, retryAt := some (max s.now t + sec 1) })) ∧
  (∀ t (v : Fin 2) s, (s.valve v.val).moving = true → ((s.valveCfg v.val).stallMin : Rat) < wordRate (s.valve v.val).vel → 8 ≤ (s.valve v.val).stallRun → (s.valve v.val).homing = false → 1 ≤ (s.valve v.val).stalls →
    Answers (.valveStall t v) s fun s' => let y := s'.valve v.val
      y.fault = true ∧ y.uncertain = true ∧ y.energy = 0 ∧ y.vel = 0 ∧ y.moving = false ∧ y.retryAt = none) ∧
  (∀ t (v : Fin 2) s, (s.valve v.val).moving = true → ((s.valveCfg v.val).stallMin : Rat) < wordRate (s.valve v.val).vel → 8 ≤ (s.valve v.val).stallRun → (s.valve v.val).homing = true →
    Answers (.valveStall t v) s fun s' => let y := s'.valve v.val
      y.pos = 0 ∧ y.uncertain = false ∧ y.fault = false ∧ y.homed = true ∧ y.homing = false ∧ y.vel = 0) ∧
  (∀ t (v : Fin 2) d s, (s.valve v.val).retryAt = some d → d ≤ max s.now t → (s.valve v.val).fault = false →
    Answers (.valveStallRetry t v) s fun s' => let y := s'.valve v.val
      y.retryAt = none ∧ y.halfSpeed = true ∧ y.moving = true ∧ y.target = (s.valve v.val).target ∧ { s'.bare with tm := {} } = { s.bare with tm := {} }) ∧
  (∀ t (v : Fin 2) s, (∀ d, (s.valve v.val).retryAt = some d → max s.now t < d) ∨ (s.valve v.val).fault = true → Idles (.valveStallRetry t v) s) ∧
  (∀ t m v s, s.takes m → 2 ≤ v → Answers (.homeValve t m v) s fun s' => (s'.tele m.key).client.stored = cmdReply 0x0602 stInvalid 0 [] ∧ s'.tm = s.tm) ∧
  (∀ t m v s, s.takes m → v < 2 → s.pw.serviceEnable = true → (s.valveCfg v).enable = true → s.ownValve v = true →
    Answers (.homeValve t m v) s fun s' => (s'.valve v).homing = true ∧ (s'.valve v).moving = true ∧ (s'.valve v).homeTravel = 0 ∧ (s'.tele m.key).inFlight = some (0x0602, m.seq) ∧
      { s'.bare with tm := {}, nt := {} } = { s.bare with tm := {}, nt := {} }) ∧
  (∀ t m c s, s.takes m → isChannel c = true → (s.tchan c).sensor = .broken →
    Answers (.clearSensor t m c) s fun s' => (s'.tchan c).sensor = .healthy ∧ (s'.tele m.key).client.stored = cmdReply 0x0601 stDone 0 [] ∧ (∀ k, k ≠ c → s'.tchan k = s.tchan k) ∧
      { s'.bare with tm := {}, nt := {} } = { s.bare with tm := {}, nt := {} }) ∧
  (∀ t m c s, s.takes m → isChannel c = false → Answers (.clearSensor t m c) s fun s' => (s'.tele m.key).client.stored = cmdReply 0x0601 stInvalid 0 [] ∧ s'.tm = s.tm)

/-- A crossing at or beyond its comparator's level in Run or Watch decides function 0x01 at once: it latches, demands a disconnect of its branch, both contactors of the branch go off and the stop-request stands while they are not confirmed open; the IS comparator
opens the whole string by function 0x02 (11 R288, R290, R302). In Hibernate a crossing wakes the module by source 1; an IS comparator without its sensor supply, and one of an absent branch, decides nothing. A class C function decides
when its delay is over: a disconnect first holds and waits for the current, and the coils go off when the wait expires (11 R289, R292). -/
def Obligations.ProtectionDecisions : Prop :=
  (∀ t (c : Fin 5) v s, s.beyondLevel c.val v = false ∨ s.pw.haltedIsland = true → Idles (.currentComparatorCrossing t c v) s) ∧
  (∀ t (c : Fin 5) v s, s.beyondLevel c.val v = true → s.pw.haltedIsland = false → s.pw.state = .hibernate → Does (.currentComparatorCrossing t c v) s { s with pw := { s.pw with latches := s.pw.latches ||| 1 } }) ∧
  (∀ t (c : Fin 5) v s, s.pw.state ≠ .hibernate → ((s.pw.state ≠ .run ∧ s.pw.state ≠ .watch) ∨ (c.val = 4 ∧ s.acq.hallLost = true) ∨ (c.val ≠ 4 ∧ s.cfg.hasBranch c.val = false)) →
    Idles (.currentComparatorCrossing t c v) s) ∧
  (∀ t (c : Fin 5) v s, s.beyondLevel c.val v = true → s.pw.haltedIsland = false → (s.pw.state = .run ∨ s.pw.state = .watch) → c.val ≠ 4 → s.cfg.hasBranch c.val = true → s.fn 1 c.val = none →
    Answers (.currentComparatorCrossing t c v) s fun s' => (∃ f, s'.fn 1 c.val = some f ∧ f.condition = true ∧ f.latched = true ∧ f.demanding = true ∧ f.action = .bd ∧ f.value = v ∧ f.decidedAt = max s.now t) ∧
      (s'.coil (c.val + 1)).phase = .off ∧ (s'.coil (c.val + 5)).phase = .off ∧ (s'.coil (c.val + 1)).tripClosed = false ∧ s'.bdActive c.val = true ∧
      (s'.confirmedOpen (c.val + 1) = false → s'.rt.islandStop = true)) ∧
  (∀ t (c : Fin 5) v s, s.beyondLevel c.val v = true → s.pw.haltedIsland = false → (s.pw.state = .run ∨ s.pw.state = .watch) → c.val = 4 → s.acq.hallLost = false → s.fn 2 strGroup = none →
    Answers (.currentComparatorCrossing t c v) s fun s' => (∃ f, s'.fn 2 strGroup = some f ∧ f.condition = true ∧ f.latched = true ∧ f.demanding = true ∧ f.action = .sd ∧ f.value = v) ∧
      (∀ k, 1 ≤ k → k ≤ 11 → (s'.coil k).phase = .off ∧ (s'.coil k).tripClosed = false) ∧ s'.rt.islandStop = true ∧ s'.sdActive = true) ∧
  (∀ t code g s, s.fn code g = none → Idles (.classCDelayExpiry t code g) s) ∧
  (∀ t code g f i s, s.fn code g = some f → s.fnInfo code g = some i → (f.condition || f.latched || f.demanding) = true ∨ (∀ d, f.delaySince = some d → max s.now t < d + ms i.delay) →
    Idles (.classCDelayExpiry t code g) s) ∧
  (∀ t code g f i d s, s.fn code g = some f → s.fnInfo code g = some i → f.condition = false → f.latched = false → f.demanding = false → f.delaySince = some d → d + ms i.delay ≤ max s.now t →
    Answers (.classCDelayExpiry t code g) s fun s' => (∃ f', s'.fn code g = some f' ∧ f'.condition = true ∧ f'.latched = i.latched ∧ f'.action = i.action ∧ f'.subject = f.subject ∧ f'.decidedAt = max s.now t) ∧
      (i.action = .hold → s'.rt.islandStop = true) ∧
      (i.action = .bd → i.cls = 2 → s'.pr.waits = s.pr.waits ++ [{ group := g, since := max s.now t, sinceSweep := (s.begin t).sweepNo + 1 }] ∧ ∀ k, (s.coil k).phase ≠ .waiting → s'.coil k = s.coil k) ∧
      (i.action = .sd → i.cls = 2 → s'.pr.waits = s.pr.waits ++ [{ group := strGroup, since := max s.now t, sinceSweep := (s.begin t).sweepNo + 1 }] ∧ s'.rt.islandStop = true ∧ ∀ k, (s.coil k).phase ≠ .waiting → s'.coil k = s.coil k)) ∧
  (∀ t (b : Fin 5) s, b.val < 4 → (∀ w, w ∈ s.pr.waits → w.group = b.val → max s.now t < w.since + ms s.cfg.timed.breakMs) → Idles (.breakWaitExpiry t b) s) ∧
  (∀ t (b : Fin 5) w s, b.val < 4 → w ∈ s.pr.waits → w.group = b.val → w.since + ms s.cfg.timed.breakMs ≤ max s.now t →
    Answers (.breakWaitExpiry t b) s fun s' => (∀ x, x ∈ s'.pr.waits ↔ (x ∈ s.pr.waits ∧ x.group ≠ b.val)) ∧ (s'.coil (b.val + 1)).phase = .off ∧ (s'.coil (b.val + 5)).phase = .off) ∧
  (∀ t (b : Fin 5) w s, b.val = 4 → s.pw.resetHold = none → w ∈ s.pr.waits → w.group = strGroup → w.since + ms s.cfg.timed.breakMs ≤ max s.now t →
    Answers (.breakWaitExpiry t b) s fun s' => ∀ k, 1 ≤ k → k ≤ 11 → (s'.coil k).phase = .off)

/-- An unlatched function resets by itself once its condition has been absent for its clear time; function 0x0A and a latched one do not (11 R310). PROTECTION_RESET is refused at a follower and invalid for an unknown code; it resets the named latched functions
whose condition has been absent long enough, and is answered BUSY with the code of one that still stands (11 R309; that code 0xFF names all is the model's reading). An uncoupled monitor has no insulation value; a coupled one
derives it from the difference of two half-periods (11 R306, R307). -/
def Obligations.ProtectionResets : Prop :=
  (∀ t code g f i d s, s.fn code g = some f → s.fnInfo code g = some i → f.latched = false → code ≠ 0x0A → code ≠ 0x09 → f.condition = false → f.absentSince = some d → d + ms i.clear ≤ max s.now t →
    Answers (.automaticReset t code g) s fun s' => s'.fn code g = none ∧ (∀ c h, (c, h) ≠ (code, g) → s'.fn c h = s.fn c h)) ∧
  (∀ t code g f s, s.fn code g = some f → (f.latched = true ∨ code = 0x0A ∨ f.condition = true ∨ f.absentSince = none) → Idles (.automaticReset t code g) s) ∧
  (∀ t code g s, s.fn code g = none → Idles (.automaticReset t code g) s) ∧
  (∀ t m code s, s.takes m → s.leads = false → Answers (.protectionReset t m code) s fun s' => (s'.tele m.key).client.stored = cmdReply 0x0701 stRefused 1 [] ∧ s'.pr.fns = s.pr.fns) ∧
  (∀ t m code s, s.takes m → s.leads = true → code ≠ 0xFF → code ∉ fnCodes → Answers (.protectionReset t m code) s fun s' => (s'.tele m.key).client.stored = cmdReply 0x0701 stInvalid 0 [] ∧ s'.pr.fns = s.pr.fns) ∧
  (∀ t m code s, s.takes m → s.leads = true → code ∈ fnCodes → (∀ f, f ∈ s.pr.fns → f.code = code → f.latched = true → (s.begin t).mayReset f = true) → code ≠ 0x0A →
    Answers (.protectionReset t m code) s fun s' => (s'.tele m.key).client.stored = cmdReply 0x0701 stDone 0 [] ∧
      (∀ f, f ∈ s.pr.fns → f.code = code → f.latched = true → s'.fn code f.group = none) ∧ (∀ c g, c ≠ code → s'.fn c g = s.fn c g)) ∧
  (∀ t m code f s, s.takes m → s.leads = true → code ∈ fnCodes → code ≠ 0x0A → f ∈ s.pr.fns → f.code = code → f.latched = true → (s.begin t).mayReset f = false →
    Answers (.protectionReset t m code) s fun s' => (s'.tele m.key).client.stored = cmdReply 0x0701 stBusy 0 [code]) ∧
  (∀ t x s, s.pw.state ≠ .run → s.pw.state ≠ .watch → Idles (.insulationHalfPeriod t x) s) ∧
  (∀ t x s, (s.pw.state = .run ∨ s.pw.state = .watch) → s.pr.halfAt = none → s.monitorCoupled = false → Answers (.insulationHalfPeriod t x) s fun s' => s'.pr.risoQuality = qAbsent ∧ s'.pr.riso = s.pr.riso ∧ s'.pr.hv5Prev = none ∧ s'.pr.hv4Prev = none) ∧
  (∀ t x v5 p5 s, (s.pw.state = .run ∨ s.pw.state = .watch) → (∀ h, s.pr.halfAt = some h → h + 500000 * s.cfg.ins.period ≤ max s.now t) → s.monitorCoupled = true → x.hv5 = some v5 → x.change ≤ 5000 → s.pr.hv5Prev = some p5 → s.pr.hv4Prev = some x.hv4 → Answers (.insulationHalfPeriod t x) s fun s' =>
    let raw : Rat := ((v5 - p5 : Int) : Rat) / 1000
    let r := isoOf (if s.pr.injPlus then raw else -raw)
    s'.pr.riso = r.1 ∧ s'.pr.risoQuality = mkQuality true false false false false false false r.2 ∧ s'.pr.injPlus = !s.pr.injPlus ∧ s'.pr.hv5Prev = some v5 ∧ s'.pr.hv4Prev = some x.hv4) ∧
  (∀ dv : Rat, dv ≤ 0 → isoOf dv = (10, true)) ∧ (∀ dv : Rat, 60 ≤ dv → isoOf dv = (5000, true)) ∧ (∀ dv : Rat, 10 ≤ (isoOf dv).1 ∧ (isoOf dv).1 ≤ 5000) ∧
  (∀ t s, (s.begin t).mayCouple = false ∨ s.coilOn 12 = true → Idles (.monitorCouplingWaitExpiry t) s) ∧
  (∀ t s, (s.begin t).mayCouple = true → s.coilOn 12 = false → s.ct.queue = [] → s.mayPullIn 12 = true →
    Answers (.monitorCouplingWaitExpiry t) s fun s' => (s'.coil 12).phase = .pullIn ∧ (s'.coil 12).tripClosed = true ∧ (s'.coil 12).pullAt = max s.now t)

/-- A due coil-on whose conditions hold starts its pull-in, a waiting coil starts in the order of requests while the budget and the supply allow it (12 R315 to R317), and an output that is not due is not touched. After 500 ms without the supply a waiting coil gives up.
A pull-in ends in hold. A coil-off is never delayed and opens the trip switch with the driver (12 R315, R316). The functions 0x20 to 0x23 and 0x26 decide on a contactor that stays closed, stays open, contradicts its coil, a coil circuit fault, and a low
coil supply (12 R317 to R321); a feedback state is accepted once the debounce number of sweeps has read it (12 R319), and an unused output's is not evaluated. -/
def Obligations.Coils : Prop :=
  (∀ t k s, k ∉ s.ct.due ∨ s.leads = false → Idles (.coilOn t k) s) ∧
  (∀ t k s, k ∈ s.ct.due → k ≠ 12 → s.absentNow (s.stepBranch k) (k :: s.stepOutputs) s.connecting = none → s.usedK k = true → s.coilOn k = false → s.ct.queue = [] → s.mayPullIn k = true →
    Answers (.coilOn t k) s fun s' => (s'.coil k).phase = .pullIn ∧ (s'.coil k).tripClosed = true ∧ (s'.coil k).commandAt = max s.now t ∧ (s'.coil k).confirmed = false ∧ k ∉ s'.ct.due ∧
      (∀ j, j ≠ k → s'.coil j = s.coil j) ∧ { s'.bare with ct := {} } = { s.bare with ct := {} }) ∧
  (∀ t k c s, k ∈ s.ct.due → k ≠ 12 → s.absentNow (s.stepBranch k) (k :: s.stepOutputs) s.connecting = some c → s.leads = true → s.connecting = true →
    Answers (.coilOn t k) s fun s' => (s'.ct.stage = .disconnecting ∨ s'.ct.stage = .opened) ∧ s'.ct.due = [] ∧ s'.ct.step = 0 ∧ s'.ct.autoArmed = false ∧ (∀ j, (s.coil j).phase ≠ .waiting → s'.coil j = s.coil j)) ∧
  (∀ t s, s.ct.queue = [] → Idles (.coilBudgetAvailable t) s) ∧
  (∀ t k l s, s.ct.queue = k :: l → s.mayPullIn k = false → Idles (.coilBudgetAvailable t) s) ∧
  (∀ t k s, s.ct.queue = [k] → s.mayPullIn k = true → (k = 12 ∨ s.absentNow (s.stepBranch k) (k :: s.stepOutputs) s.connecting = none) → Answers (.coilBudgetAvailable t) s fun s' => (s'.coil k).phase = .pullIn ∧ (s'.coil k).tripClosed = true) ∧
  (∀ t v l s, s.ct.queue = 12 :: l → s.ct.fbChecked = true → (s.cfg.coil.pullMin : Int) ≤ v → s.pullInUse + s.pullW 12 ≤ s.cfg.coil.budget →
    Answers (.coilSupplyRecovered t v) s fun s' => s'.acq.coilSupply = v ∧ (s'.coil 12).phase = .pullIn) ∧
  (∀ t v s, s.ct.queue = [] → Answers (.coilSupplyRecovered t v) s fun s' => s'.acq.coilSupply = v ∧ ((s.cfg.coil.holdMin : Int) ≤ v → s'.ct.lowSupplySince = none) ∧ s'.ct.coils = s.ct.coils) ∧
  (∀ t k s, (s.coil k).phase = .waiting → (s.coil k).supplyWait = true → (s.coil k).requestedAt + ms 500 ≤ max s.now t → s.supplyOk = false →
    Answers (.coilSupplyWaitExpiry t k) s fun s' => (s'.coil k).phase = .off ∧ k ∉ s'.ct.queue ∧ (k ≠ 12 → s.connecting = true → s'.ct.due = [] ∧ s'.ct.step = 0)) ∧
  (∀ t k s, (s.coil k).phase ≠ .waiting ∨ (s.coil k).supplyWait = false ∨ max s.now t < (s.coil k).requestedAt + ms 500 ∨ s.supplyOk = true → Idles (.coilSupplyWaitExpiry t k) s) ∧
  (∀ t k s, (s.coil k).phase = .pullIn → (s.coil k).pullAt + ms (s.pullMs k) ≤ max s.now t → Does (.pullInEnd t k) s (s.onCoil k fun c => { c with phase := .hold, currentMa := s.holdMa k })) ∧
  (∀ t k s, (s.coil k).phase ≠ .pullIn ∨ max s.now t < (s.coil k).pullAt + ms (s.pullMs k) → Idles (.pullInEnd t k) s) ∧
  (∀ t k s, Answers (.coilOff t k) s fun s' => (s'.coil k).phase = .off ∧ (s'.coil k).tripClosed = false ∧ k ∉ s'.ct.due ∧ ((s.coil k).phase ≠ .off → k ∉ s'.ct.queue) ∧ ((s.coil k).phase ≠ .off → (s.coil k).phase ≠ .waiting → (s'.coil k).commandAt = max s.now t) ∧
    (∀ j, j ≠ k → s'.coil j = s.coil j) ∧ { s'.bare with ct := {} } = { s.bare with ct := {} }) ∧
  (∀ t v k d s, v < (s.cfg.coil.holdMin : Int) → k < 12 → (s.coil (k + 1)).phase = .hold → s.ct.lowSupplySince = some d → d + ms 20 ≤ max s.now t → s.fn 0x26 strGroup = none →
    Answers (.coilSupplyLow t v) s fun s' => (∃ f, s'.fn 0x26 strGroup = some f ∧ f.condition = true ∧ f.action = .hold ∧ f.value = v) ∧ s'.acq.coilSupply = v ∧ s'.rt.islandStop = true) ∧
  (∀ t v s, (s.cfg.coil.holdMin : Int) ≤ v → Answers (.coilSupplyLow t v) s fun s' => s'.ct.lowSupplySince = none ∧ s'.acq.coilSupply = v ∧ s'.pr.fns = s.pr.fns) ∧
  (∀ t k c w s, s.coilOn k = false ∨ (s.coil k).phase = .waiting → Idles (.coilCircuitFault t k c w) s) ∧
  (∀ t k c w s, (s.coil k).phase = .hold → c ≤ 10000 → w ≤ 10000 → s.holdMa k ≤ 2 * c → Does (.coilCircuitFault t k c w) s (s.onCoil k fun x => { x with currentMa := c })) ∧
  (∀ t k c w s, s.coilOn k = true → (s.coil k).phase ≠ .waiting → k ≤ 11 → 10000 < c ∨ 10000 < w → s.fn 0x23 (groupOfK k) = none →
    Answers (.coilCircuitFault t k c w) s fun s' => (s'.coil k).phase = .off ∧ (s'.coil k).failed.testBit 3 = true ∧ ∃ f, s'.fn 0x23 (groupOfK k) = some f ∧ f.condition = true ∧ f.latched = true ∧ f.subject = k) ∧
  (∀ t k c w s, (s.coil k).phase = .hold → k ≤ 11 → 2 * c < s.holdMa k → c ≤ 10000 → w ≤ 10000 → s.fn 0x23 (groupOfK k) = none →
    Answers (.coilCircuitFault t k c w) s fun s' => (s'.coil k).failed.testBit 3 = true ∧ ∃ f, s'.fn 0x23 (groupOfK k) = some f ∧ f.condition = true ∧ f.latched = true ∧ f.subject = k) ∧
  (∀ t k c s, s.usedK k = false ∨ k = 0 ∨ (s.coil k).mirrorRun < s.cfg.contSup.debounce ∨ (s.coil k).mirrorClosed ≠ c → Idles (.feedbackAccepted t k c) s) ∧
  (∀ t k s, s.usedK k = true → k ≠ 0 → max 1 s.cfg.contSup.debounce ≤ (s.coil k).mirrorRun → Answers (.feedbackAccepted t k (s.coil k).mirrorClosed) s fun s' => (s'.coil k).accepted = some (s.coil k).mirrorClosed) ∧
  (∀ t f s, s.ct.stage = .closingFirst → s.ct.step = 1 → s.ct.first = some f → f < 4 → s.usedK (f + 5) = true → s.coilOn (f + 5) = true → (s.coil (f + 5)).phase ≠ .waiting → (s.coil (f + 5)).confirmed = false → s.joining = none → s.ct.fbChecked = true →
    max 1 s.cfg.contSup.debounce ≤ (s.coil (f + 5)).mirrorRun → (s.coil (f + 5)).mirrorClosed = false → (s.coil (f + 5)).accepted ≠ some false →
    Answers (.feedbackAccepted t (f + 5) false) s fun s' => s'.ct.stage = .closingFirst ∧ s'.ct.step = 2 ∧ s'.ct.due = [f + 1] ∧ (s'.coil (f + 5)).confirmed = true) ∧
  (∀ t k s, s.usedK k = true → k ≠ 0 → k ≤ 11 → (s.coil k).confirmed = true → (s.coil k).phase = .hold → max 1 s.cfg.contSup.debounce ≤ (s.coil k).mirrorRun → (s.coil k).mirrorClosed = true → (s.coil k).accepted ≠ some true → s.fn 0x22 (groupOfK k) = none →
    Answers (.feedbackAccepted t k true) s fun s' => (s'.coil k).failed.testBit 2 = true ∧ ∃ f, s'.fn 0x22 (groupOfK k) = some f ∧ f.condition = true ∧ f.latched = true ∧ f.subject = k) ∧
  (∀ t k s, ((s.coil k).phase = .pullIn ∨ (s.coil k).phase = .hold) → k ≤ 11 → (s.coil k).commandAt + ms s.cfg.contSup.closeMs ≤ max s.now t → s.confirmedClosed k = false → s.fn 0x21 (groupOfK k) = none →
    Answers (.closeLimitExpiry t k) s fun s' => (s'.coil k).failed.testBit 1 = true ∧ ∃ f, s'.fn 0x21 (groupOfK k) = some f ∧ f.condition = true ∧ f.latched = true ∧ f.subject = k) ∧
  (∀ t k s, (s.coil k).phase = .off ∨ s.confirmedClosed k = true ∨ max s.now t < (s.coil k).commandAt + ms s.cfg.contSup.closeMs → Idles (.closeLimitExpiry t k) s) ∧
  (∀ t k s, s.usedK k = true → k ≤ 11 → (s.coil k).phase = .off → (s.coil k).accepted = some false → (s.coil k).commandAt + ms s.cfg.contSup.dropMs ≤ max s.now t → s.fn 0x20 (groupOfK k) = none →
    Answers (.dropOutLimitExpiry t k) s fun s' => (s'.coil k).failed.testBit 0 = true ∧ ∃ f, s'.fn 0x20 (groupOfK k) = some f ∧ f.condition = true ∧ f.latched = true ∧ f.subject = k) ∧
  (∀ t k s, (s.coil k).phase ≠ .off ∨ s.confirmedOpen k = true ∨ max s.now t < (s.coil k).commandAt + ms s.cfg.contSup.dropMs → Idles (.dropOutLimitExpiry t k) s)

/-- A pre-charge beyond its limit, or without its begin of change 100 ms after K11, is function 0x24 with its lockout, which ends in operating time together with the function (12 R326, R327). Auto-connect, while armed, begins the connection with the first branch and its negative
contactor once no condition is absent; at the attempt limit function 0x25 decides instead (12 R324, R327). A leave whose wait expires opens the branch at or below the leave break limit, and is abandoned above it (12 R330). -/
def Obligations.PrechargeAndLeave : Prop :=
  (∀ t s, s.ct.stage ≠ .preCharging ∨ s.coilOn 11 = false → Idles (.prechargeTimeLimitExpiry t) s) ∧
  (∀ t s, s.ct.stage = .preCharging → s.coilOn 11 = true → (s.coil 11).phase ≠ .waiting → s.ct.k11At + ms s.cfg.pre.limitMs ≤ max s.now t → s.fn 0x24 strGroup = none →
    Answers (.prechargeTimeLimitExpiry t) s fun s' => s'.ct.lockout = some ((s.begin t).opTime + s.cfg.pre.lockout) ∧ (∃ f, s'.fn 0x24 strGroup = some f ∧ f.condition = true ∧ f.action = .sd) ∧ s'.rt.islandStop = true) ∧
  (∀ t s, (∀ e, s.ct.lockout = some e → (s.begin t).opTime < e) → Idles (.prechargeLockoutExpiry t) s) ∧
  (∀ t e s, s.ct.lockout = some e → e ≤ (s.begin t).opTime → Answers (.prechargeLockoutExpiry t) s fun s' => s'.ct.lockout = none ∧ s'.fn 0x24 strGroup = none ∧ (∀ c g, (c, g) ≠ (0x24, strGroup) → s'.fn c g = s.fn c g)) ∧
  (∀ t s, s.ct.autoArmed = false ∨ s.leads = false ∨ s.ct.stage ≠ .opened ∨ s.connectCondition ≠ none → Idles (.autoConnect t) s) ∧
  (∀ t s, s.ct.autoArmed = true → s.leads = true → s.ct.stage = .opened → s.connectCondition = none → (s.begin t).attemptsFull = false → Answers (.autoConnect t) s fun s' => ∃ f, s.firstBranch = some f ∧
    s'.ct.stage = .closingFirst ∧ s'.ct.step = 1 ∧ s'.ct.first = some f ∧ s'.ct.due = [f + 5] ∧ s'.ct.autoArmed = false ∧ { s'.bare with ct := {} } = { s.bare with ct := {} }) ∧
  (∀ t s, s.ct.autoArmed = true → s.leads = true → s.ct.stage = .opened → s.connectCondition = none → (s.begin t).attemptsFull = true → s.fn 0x25 strGroup = none → Answers (.autoConnect t) s fun s' =>
    s'.ct.autoArmed = false ∧ s'.ct.stage = .opened ∧ ∃ f, s'.fn 0x25 strGroup = some f ∧ f.latched = true ∧ f.action = .sd) ∧
  (∀ t s, s.leaving = none → Idles (.leaveWaitExpiry t) s) ∧
  (∀ t b d s, s.leaving = some b → s.ct.leaveAt = some d → d + ms s.cfg.join.leaveMs ≤ max s.now t → s.ct.stage = .connected → s.ibPeak b ≤ s.cfg.join.leaveBreakMa →
    Answers (.leaveWaitExpiry t) s fun s' => s'.branch b = .blocked ∧ (s'.coil (b + 1)).phase = .off ∧ (s'.coil (b + 5)).phase = .off ∧ b ∈ s'.ct.heldOut ∧ s'.ct.leaveAt = none) ∧
  (∀ t b d s, s.leaving = some b → s.ct.leaveAt = some d → d + ms s.cfg.join.leaveMs ≤ max s.now t → s.ct.stage = .connected → s.cfg.join.leaveBreakMa < s.ibPeak b →
    Answers (.leaveWaitExpiry t) s fun s' => s'.branch b = .joined ∧ s'.ct.leaveAt = none ∧ s'.ct.coils = s.ct.coils)

/-- Only a string's leader executes an operation; a repeated identifier is answered with the stored result, one first received after its start deadline with REFUSED 11, and an unknown branch with INVALID (15 R395). A connect begins the connection; a disconnect of an open
string is DONE, and otherwise runs the order of R331 and ends auto-connect; a join makes its branch pending and ends its hold-out; a leave makes a joined branch leaving, unless it is the last one (12 R330, R331, R602). -/
def Obligations.StringOperations : Prop :=
  (∀ t o s, s.leads = true → s.netOn = true → hdrGood o.hdr = false → Does (.connectOperation t o) s { s with di := { s.di with badFrames := wrapInc s.di.badFrames } } ∧
    Does (.disconnectOperation t o) s { s with di := { s.di with badFrames := wrapInc s.di.badFrames } }) ∧
  (∀ t o s, s.leads = false ∨ s.netOn = false → Idles (.connectOperation t o) s ∧ Idles (.disconnectOperation t o) s ∧ Idles (.joinBranchOperation t o) s ∧ Idles (.leaveBranchOperation t o) s) ∧
  (∀ t o d s, s.leads = true → s.netOn = true → hdrGood o.hdr = true → s.ct.done.find? (fun d => decide (d.1 = o.ident)) = some d →
    Answers (.connectOperation t o) s fun s' => s'.ct.done = s.ct.done ∧ s'.ct.stage = s.ct.stage ∧ (∃ e, e ∈ s'.out ∧ e.kind = .operationResult)) ∧
  (∀ t o s, s.leads = true → s.netOn = true → hdrGood o.hdr = true → s.ct.done.find? (fun d => decide (d.1 = o.ident)) = none → laterThan (s.begin t).sweepNo o.deadline = true →
    Answers (.connectOperation t o) s (fun s' => s'.ct.done = (o.ident, stRefused, 11, 0) :: s.ct.done ∧ (∃ e, e ∈ s'.out ∧ e.kind = .operationResult)) ∧
    Answers (.disconnectOperation t o) s (fun s' => s'.ct.done = (o.ident, stRefused, 11, 0) :: s.ct.done)) ∧
  (∀ t o s, s.leads = true → s.netOn = true → hdrGood o.hdr = true → s.ct.done.find? (fun d => decide (d.1 = o.ident)) = none → laterThan (s.begin t).sweepNo o.deadline = false → o.hasBranch = false → s.sequenceInHand = false → s.ct.stage = .opened →
    s.connectCondition = none → (s.begin t).attemptsFull = false → Answers (.connectOperation t o) s fun s' => s'.ct.stage = .closingFirst ∧ s'.ct.step = 1 ∧ s'.ct.first = s.firstBranch ∧
      s'.ct.done = (o.ident, stStarted, 0, (s.begin t).sweepNo) :: s.ct.done) ∧
  (∀ t o c s, s.leads = true → s.netOn = true → hdrGood o.hdr = true → s.ct.done.find? (fun d => decide (d.1 = o.ident)) = none → laterThan (s.begin t).sweepNo o.deadline = false → o.hasBranch = false → s.sequenceInHand = false → s.ct.stage ≠ .connected →
    s.connectCondition = some c → Answers (.connectOperation t o) s fun s' => s'.ct.done = (o.ident, stRefused, c, 0) :: s.ct.done ∧ s'.ct.coils = s.ct.coils) ∧
  (∀ t o s, s.leads = true → s.netOn = true → hdrGood o.hdr = true → s.ct.done.find? (fun d => decide (d.1 = o.ident)) = none → laterThan (s.begin t).sweepNo o.deadline = false → o.hasBranch = false → s.ct.stage = .opened → s.allOpen = true →
    Answers (.disconnectOperation t o) s fun s' => s'.ct.done = (o.ident, stDone, 0, 0) :: s.ct.done ∧ s'.ct.autoArmed = false ∧ s'.ct.stage = .opened) ∧
  (∀ t o s, s.leads = true → s.netOn = true → hdrGood o.hdr = true → s.ct.done.find? (fun d => decide (d.1 = o.ident)) = none → laterThan (s.begin t).sweepNo o.deadline = false → o.hasBranch = false → s.allOpen = false → s.ct.stage ≠ .disconnecting →
    Answers (.disconnectOperation t o) s fun s' => s'.ct.stage = .disconnecting ∧ s'.ct.discAt = some (max s.now t) ∧ s'.ct.autoArmed = false ∧ s'.rt.islandStop = true ∧
      s'.ct.done = (o.ident, stStarted, 0, (s.begin t).sweepNo) :: s.ct.done) ∧
  (∀ t o s, s.leads = true → s.netOn = true → hdrGood o.hdr = true → s.ct.done.find? (fun d => decide (d.1 = o.ident)) = none → laterThan (s.begin t).sweepNo o.deadline = false → o.branch < 4 → s.cfg.hasBranch o.branch = true → s.sequenceInHand = false → s.ct.stage = .connected →
    s.branch o.branch ≠ .joined → s.branch o.branch ≠ .pending → s.branchClear o.branch = true →
    Answers (.joinBranchOperation t o) s fun s' => s'.branch o.branch = .pending ∧ o.branch ∉ s'.ct.heldOut ∧ s'.ct.done = (o.ident, stStarted, 0, (s.begin t).sweepNo) :: s.ct.done) ∧
  (∀ t o s, s.leads = true → s.netOn = true → hdrGood o.hdr = true → s.ct.done.find? (fun d => decide (d.1 = o.ident)) = none → laterThan (s.begin t).sweepNo o.deadline = false → o.branch < 4 → s.cfg.hasBranch o.branch = true → s.sequenceInHand = false → s.ct.stage = .connected →
    s.branch o.branch = .joined → 1 < s.joined.length →
    Answers (.leaveBranchOperation t o) s fun s' => s'.branch o.branch = .leaving ∧ s'.ct.leaveAt = some (max s.now t) ∧ s'.ct.done = (o.ident, stStarted, 0, (s.begin t).sweepNo) :: s.ct.done) ∧
  (∀ t o s, s.leads = true → s.netOn = true → hdrGood o.hdr = true → s.ct.done.find? (fun d => decide (d.1 = o.ident)) = none → laterThan (s.begin t).sweepNo o.deadline = false → s.cfg.hasBranch o.branch = false →
    Answers (.leaveBranchOperation t o) s (fun s' => s'.ct.done = (o.ident, stInvalid, 0, 0) :: s.ct.done) ∧ Answers (.joinBranchOperation t o) s (fun s' => s'.ct.done = (o.ident, stInvalid, 0, 0) :: s.ct.done))

/-- A demand that lasts for its input's filter time is taken at once: an emergency stop or an external trip decides function 0x0B, which latches and opens the string with class B (13 R337, R346). A return to permit is kept with its instant. An input that reads high through two consecutive pulses of its source
has fault code 1, a source that fails two consecutive pulses gives fault code 3 to each of its inputs, and a pair that disagrees for the discrepancy time gives both channels fault code 2 (13 R338, R339). A good pulse is counted (13 R340). -/
def Obligations.SafetyInputs : Prop :=
  (∀ t (i : Fin 8) w s, w < s.filterUs (i.val + 1) ∨ s.inputFn (i.val + 1) = 0 ∨ s.islandReads = true ∧ (s.input (i.val + 1)).demand = true ∧ (s.input (i.val + 1)).episode = true → Idles (.safetyInputDemand t ⟨i, w⟩) s) ∧
  (∀ t (i : Fin 8) w s, s.filterUs (i.val + 1) ≤ w → s.islandReads = true → s.inputFn (i.val + 1) ≠ 0 → (s.input (i.val + 1)).demand = false → Answers (.safetyInputDemand t ⟨i, w⟩) s fun s' => (s'.input (i.val + 1)).demand = true ∧ (s'.input (i.val + 1)).permitSince = none ∧ (s'.input (i.val + 1)).episode = true) ∧
  (∀ t (i : Fin 8) w s, s.filterUs (i.val + 1) ≤ w → s.islandReads = true → (s.input (i.val + 1)).demand = false → (s.inputFn (i.val + 1) = 1 ∨ s.inputFn (i.val + 1) = 2) → s.fn 0x0B strGroup = none →
    Answers (.safetyInputDemand t ⟨i, w⟩) s fun s' => (∃ f, s'.fn 0x0B strGroup = some f ∧ f.condition = true ∧ f.latched = true ∧ f.demanding = true ∧ f.action = .sd ∧ f.subject = i.val + 1) ∧
      (∀ k, 1 ≤ k → k ≤ 11 → (s'.coil k).phase = .off) ∧ s'.rt.islandStop = true) ∧
  (∀ t (i : Fin 8) w s, (s.input (i.val + 1)).demand = false → s.inputFn (i.val + 1) ≠ 1 → s.inputFn (i.val + 1) ≠ 2 → Answers (.safetyInputDemand t ⟨i, w⟩) s fun s' => s'.pr.fns = s.pr.fns ∧ s'.ct.coils = s.ct.coils) ∧
  (∀ t (i : Fin 8) w s, w < s.filterUs (i.val + 1) ∨ (s.input (i.val + 1)).demand = false → Idles (.safetyInputPermit t ⟨i, w⟩) s) ∧
  (∀ t (i : Fin 8) w s, s.filterUs (i.val + 1) ≤ w → (s.input (i.val + 1)).demand = true → Answers (.safetyInputPermit t ⟨i, w⟩) s fun s' => (s'.input (i.val + 1)).demand = false ∧ (s'.input (i.val + 1)).permitSince = some (max s.now t)) ∧
  (∀ t (src : Fin 2) l lo hi i s, s.islandReads = true → (s.begin t).turnOpen (0x50 + src.val) (1000 * s.cfg.test.periodUs) (500 * s.cfg.test.periodUs * src.val) = true → 18000 ≤ lo → hi ≤ 3000 → i ∈ s.inputsOfSource (src.val + 1) → i ∈ l → src.val + 1 ∉ s.sf.srcFault → 1 ≤ (s.input i).missRun → (s.input i).fault = 0 →
    Answers (.testPulse t src l ⟨lo, hi⟩) s fun s' => (s'.input i).fault = 1 ∧ (s'.input i).goodPulses = 0) ∧
  (∀ t (src : Fin 2) l lo hi i s, s.islandReads = true → (s.begin t).turnOpen (0x50 + src.val) (1000 * s.cfg.test.periodUs) (500 * s.cfg.test.periodUs * src.val) = true → 18000 ≤ lo → hi ≤ 3000 → i ∈ s.inputsOfSource (src.val + 1) → i ∉ l → src.val + 1 ∉ s.sf.srcFault → (s.input i).fault = 0 → (s.input i).demand = false → (∀ j, s.mateOf j ≠ some i) →
    Answers (.testPulse t src l ⟨lo, hi⟩) s fun s' => (s'.input i).fault = 0 ∧ (s'.input i).missRun = 0 ∧ (s'.input i).goodPulses = min 10 ((s.input i).goodPulses + 1)) ∧
  (∀ t (src : Fin 2) l lo hi s, s.islandReads = true → (s.begin t).turnOpen (0x50 + src.val) (1000 * s.cfg.test.periodUs) (500 * s.cfg.test.periodUs * src.val) = true → (lo < 18000 ∨ 3000 < hi) → src.val + 1 ∉ s.sf.srcFault → 1 ≤ s.sf.srcRun.get (src.val + 1) 0 →
    Answers (.testPulse t src l ⟨lo, hi⟩) s fun s' => src.val + 1 ∈ s'.sf.srcFault ∧ ∀ i, i ∈ s.inputsOfSource (src.val + 1) → (s'.input i).fault = 3) ∧
  (∀ t (p : Fin 4) s, s.mateOf (2 * p.val + 1) = none ∨ (∀ d, (s.input (2 * p.val + 1)).disSince = some d → max s.now t < d + ms (s.cfg.safeIn.discMs.getD p.val 100)) → Idles (.discrepancyTimeExpiry t p) s) ∧
  (∀ t (p : Fin 4) j d s, s.islandReads = true → s.mateOf (2 * p.val + 1) = some j → (s.input (2 * p.val + 1)).disSince = some d → d + ms (s.cfg.safeIn.discMs.getD p.val 100) ≤ max s.now t →
    s.inputFn (2 * p.val + 1) ≠ 0 → s.inputFn j ≠ 0 → (s.input (2 * p.val + 1)).fault = 0 → (s.input j).fault = 0 →
    Answers (.discrepancyTimeExpiry t p) s fun s' => (s'.input (2 * p.val + 1)).fault = 2 ∧ (s'.input j).fault = 2)

/-- A dark test runs on an energised output and a bright test on a de-energised one (13 R342). A whole test that passes ends; one that fails holds the output off, raises function 0x32 and keeps which switch failed (13 R344). An interrupted test runs
again when it is due (13 R343). A dip test keeps its verdict for the coil in hold, and a failed one raises function 0x33 for its group (13 R345); a follower tests its own drivers and the partner's cross-hold switches (14 R369). -/
def Obligations.DisconnectPathTests : Prop :=
  (∀ t (o : Fin 2) s, (s.output (o.val + 1)).testing = 0 → (s.output (o.val + 1)).energised = true → s.islandOn = true → (s.begin t).turnOpen (0x52 + (o.val + 1)) (sec (s.cfg.safeOut.darkS.getD o.val 60)) 0 = true →
    Answers (.darkTest t o none) s fun s' => (s'.output (o.val + 1)).energised = true → (s'.output (o.val + 1)).testing = 1) ∧
  (∀ t (o : Fin 2) s, (s.output (o.val + 1)).testing = 0 → s.brightAllowed (o.val + 1) = true → s.islandOn = true → (s.begin t).turnOpen (0x54 + (o.val + 1)) (sec (s.cfg.safeOut.brightS.getD o.val 60)) 0 = true →
    Answers (.brightTest t o none) s fun s' => (s'.output (o.val + 1)).energised = false → (s'.output (o.val + 1)).testing = 2) ∧
  (∀ t (o : Fin 2) s, (s.output (o.val + 1)).testing = 0 → Answers (.darkTest t o (some (true, true))) s fun s' => (s'.output (o.val + 1)).testing = 0 ∧ (s'.output (o.val + 1)).fault = (s.output (o.val + 1)).fault ∧ s'.pr.fns = s.pr.fns) ∧
  (∀ t (o : Fin 2) s, (s.output (o.val + 1)).testing = 1 → Answers (.darkTest t o (some (true, true))) s fun s' => (s'.output (o.val + 1)).testing = 0 ∧ (s'.output (o.val + 1)).fault = (s.output (o.val + 1)).fault) ∧
  (∀ t (o : Fin 2) a b s, (s.output (o.val + 1)).testing = 1 → (a && b) = false → Answers (.darkTest t o (some (a, b))) s fun s' => (s'.output (o.val + 1)).fault = true ∧ (s'.output (o.val + 1)).energised = false ∧ (s'.output (o.val + 1)).testing = 0) ∧
  (∀ t (o : Fin 2) a b s, (s.output (o.val + 1)).testing = 2 → (a && b) = false → Answers (.brightTest t o (some (a, b))) s fun s' => (s'.output (o.val + 1)).fault = true ∧ (s'.output (o.val + 1)).energised = false ∧ (s'.output (o.val + 1)).testing = 0 ∧
    ∃ f, s'.fn 0x32 (if s.cfg.safeOut.fn.getD o.val 0 = 3 then permitGroup else strGroup) = some f ∧ f.condition = true) ∧
  (∀ t (o : Fin 2) d s, (s.output (o.val + 1)).rerunWait = true → (s.output (o.val + 1)).rerunAt = some d → d ≤ max s.now t → (s.output (o.val + 1)).testing = 0 →
    Answers (.safeOutputTestRerun t o) s fun s' => (s'.output (o.val + 1)).energised = (s.output (o.val + 1)).energised →
      (s'.output (o.val + 1)).testing = (if (s.output (o.val + 1)).rerunDark then 1 else 2) ∧ (s'.output (o.val + 1)).rerunWait = false) ∧
  (∀ t (o : Fin 2) s, Idles (.safeOutputTestRerun t o) s) ∧
  (∀ t k p s, (s.coil k).phase ≠ .hold ∨ s.leads = false → Idles (.driverDipTest t k p) s) ∧
  (∀ t k p s, (s.coil k).phase = .hold → s.leads = true → (s.begin t).turnOpen (0x60 + k) (sec 600) s.dipOffset = true → Answers (.driverDipTest t k p) s fun s' => (s'.coil k).driverPass = p ∧ (∀ j, j ≠ k → s'.coil j = s.coil j) ∧
    (p = true → s'.pr.fns = s.pr.fns) ∧ (p = false → k ≤ 11 → ∃ f, s'.fn 0x33 (groupOfK k) = some f ∧ f.condition = true)) ∧
  (∀ t k p s, (s.coil k).phase = .hold → (s.begin t).turnOpen (0x70 + k) (sec 600) (sec 300 + s.dipOffset) = true → Answers (.tripSwitchDipTest t k p false) s fun s' => (s'.coil k).tripPass = p ∧ (p = false → k ≤ 11 → ∃ f, s'.fn 0x33 (groupOfK k) = some f ∧ f.condition = true)) ∧
  (∀ t k p s, s.isTwin = true → s.tw.partnerFailed = false → (s.begin t).turnOpen (0x90 + k) (sec 600) (sec 300 + sec (150 * (1 - s.cfg.twin.position))) = true → Answers (.tripSwitchDipTest t k p true) s fun s' => (s'.coil k).xhPass = p ∧ s'.pr.fns = s.pr.fns ∧
    s'.tw.rideThrough = allK.all fun j => (s'.coil j).driverPass && (s'.coil j).xhPass) ∧
  (∀ t k p s, s.isTwin = false ∨ s.tw.partnerFailed = true → Idles (.tripSwitchDipTest t k p true) s) ∧
  (∀ t k p s, s.isTwin = false ∨ s.tw.role ≠ .follower → Idles (.followerDriverTest t k p) s) ∧
  (∀ t k p s, s.isTwin = true → s.tw.role = .follower → s.tw.partnerCoils.testBit (k - 1) = true → s.tw.partnerPull.testBit (k - 1) = false → (s.begin t).turnOpen (0x80 + k) (sec 600) s.dipOffset = true →
    Answers (.followerDriverTest t k p) s fun s' => (s'.coil k).driverPass = p ∧ s'.pr.fns = s.pr.fns ∧ s'.tw.rideThrough = allK.all fun j => (s'.coil j).driverPass && (s'.coil j).xhPass)

/-- At a heartbeat instant a twin refreshes its trip switches and sends its frame; its discretes toggle unless it has withdrawn, and one whose application cluster stood still for three instants withdraws with cause 4 (14 R359, R362). A heartbeat taken says what the partner is; a
starting twin syncs to a leader, and a leader that meets a higher epoch gives up the lead (14 R363, R370). A discrete path that misses three heartbeats is lost, and is restored by 200 (14 R360); with the link and a discrete lost the partner has failed, and a
ready follower leads under a new epoch (14 R361, R363). A refresh that ends opens the trip switches (14 R357). -/
def Obligations.TwinHeartbeats : Prop :=
  (∀ t s, s.twinOn = false → Idles (.heartbeatInstant t) s) ∧
  (∀ t s, s.twinOn = true → (s.begin t).turnOpen 0x18 5000 0 = true → s.pw.haltedApp = false → s.tw.liveSeen = s.tw.liveness →
    Answers (.heartbeatInstant t) s fun s' => s'.tw.lastRefresh = max s.now t ∧ s'.tw.hbNumber = (s.begin t).heartbeatNo ∧ s'.tw.liveness = wrapInc s.tw.liveness ∧ s'.tw.stallRun = 0 ∧ s'.tw.role = s.tw.role ∧
      s'.tw.discretes = (if s.tw.role = .withdrawn then s.tw.discretes else !s.tw.discretes) ∧ (∃ e, e ∈ s'.out ∧ e.kind = .heartbeat) ∧ { s'.bare with tw := {} } = { s.bare with tw := {} }) ∧
  (∀ t s, s.twinOn = true → (s.begin t).turnOpen 0x18 5000 0 = true → s.pw.haltedApp = true → s.tw.liveSeen = s.tw.liveness → 2 ≤ s.tw.stallRun → s.tw.role ≠ .withdrawn →
    Answers (.heartbeatInstant t) s fun s' => s'.tw.role = .withdrawn ∧ s'.tw.cause = 4 ∧ s'.tw.withdrawAt = some (max s.now t) ∧ s'.ma.holds = false ∧ (∃ e, e ∈ s'.out ∧ e.kind = .withdrawFrame)) ∧
  (∀ t (p : Fin 3) hb l s, s.twinOn = false → Idles (.heartbeatReceived t p hb l) s) ∧
  (∀ t (p : Fin 3) hb l s, s.twinOn = true → p.val ≠ 0 → Answers (.heartbeatReceived t p hb l) s fun s' => let x := s.path p.val
    (s'.path p.val).missed = 0 ∧ (s'.path p.val).received = min 200 (x.received + 1) ∧ (s'.path p.val).lost = (x.lost && decide (x.received + 1 < 200)) ∧ s'.tw.role = s.tw.role ∧ s'.tw.partner = s.tw.partner) ∧
  (∀ t (p : Fin 3) hb l s, s.twinOn = true → p.val = 0 → s.hdrOk hb.hdr = false → Answers (.heartbeatReceived t p hb l) s fun s' => s'.tw.gaps = wrapInc s.tw.gaps ∧ s'.tw.partner = s.tw.partner ∧ s'.tw.role = s.tw.role ∧ s'.tw.paths = s.tw.paths) ∧
  (∀ t (p : Fin 3) hb l s, s.twinOn = true → p.val = 0 → s.hdrOk hb.hdr = true → Answers (.heartbeatReceived t p hb l) s fun s' => s'.tw.partnerCoils = hb.coils ∧ s'.tw.partnerPull = hb.pull ∧ s'.tw.partnerXh = hb.xh ∧
    s'.tw.partnerHealth = hb.health ∧ s'.tw.partnerReady = hb.hdr.ready ∧ (hb.hdr.role = 1 → s'.tw.partner = .follower) ∧ (hb.hdr.role = 2 → s'.tw.partner = .leader) ∧ (hb.hdr.role = 3 → s'.tw.partner = .withdrawn) ∧ (s'.path 0).missed = 0) ∧
  (∀ t (p : Fin 3) hb l s, s.twinOn = true → p.val = 0 → s.hdrOk hb.hdr = true → hb.hdr.version = 1 → hb.hdr.position ≠ s.cfg.twin.position → s.tw.mismatchId = false → hb.hdr.role = 2 → s.tw.role = .starting → s.pw.portsUp = true →
    Answers (.heartbeatReceived t p hb l) s fun s' => s'.tw.role = .syncing ∧ s'.tw.itemsSynced = false ∧ s'.tw.bulkSynced = false) ∧
  (∀ t (p : Fin 3) hb l s, s.twinOn = true → p.val = 0 → s.hdrOk hb.hdr = true → hb.hdr.role = 2 → s.tw.role = .leader → s.tw.epoch < hb.hdr.epoch → hb.hdr.version = 1 → hb.hdr.position ≠ s.cfg.twin.position → s.tw.mismatchId = false →
    Answers (.heartbeatReceived t p hb l) s fun s' => s'.tw.role = .syncing ∧ s'.tw.cause = 9 ∧ s'.tw.ready = false ∧ s'.ma.holds = false) ∧
  (∀ t (p : Fin 3) s, s.twinOn = false ∨ (s.begin t).sinceEpoch % 5000 < 1000 → Idles (.heartbeatMissed t p) s) ∧
  (∀ t (p : Fin 3) s, s.twinOn = true → 1000 ≤ (s.begin t).sinceEpoch % 5000 → (s.begin t).turnOpen (0x40 + p.val) 5000 0 = true → (s.path p.val).missed < 2 → (s.path p.val).lost = false → Answers (.heartbeatMissed t p) s fun s' => (s'.path p.val).missed = (s.path p.val).missed + 1 ∧ (s'.path p.val).received = 0 ∧
    (s'.path p.val).lost = false ∧ s'.tw.role = s.tw.role ∧ { s'.bare with tw := {} } = { s.bare with tw := {} }) ∧
  (∀ t (p : Fin 3) s, s.twinOn = true → p.val = 0 → 1000 ≤ (s.begin t).sinceEpoch % 5000 → (s.begin t).turnOpen (0x40 + p.val) 5000 0 = true → 2 ≤ (s.path 0).missed → (s.path 0).lost = false → (s.path 1).lost = true → s.tw.partnerFailed = false → s.tw.role = .follower → s.tw.ready = true →
    Answers (.heartbeatMissed t p) s fun s' => (s'.path 0).lost = true ∧ s'.tw.partnerFailed = true ∧ s'.tw.role = .leader ∧ s'.tw.cause = 1 ∧ s'.tw.epoch = wrapInc (max s.tw.epoch s.tw.highEpoch) ∧
      s'.tw.takeovers = wrapInc s.tw.takeovers ∧ s'.tw.trips = true ∧ s'.tw.notReadyTakeover = false) ∧
  (∀ t h c s, s.twinOn = false → Idles (.withdrawFrameReceived t h c) s) ∧
  (∀ t h c s, s.twinOn = true → s.hdrOk h = true → s.tw.role = .leader → Answers (.withdrawFrameReceived t h c) s fun s' => s'.tw.partner = .withdrawn ∧ s'.tw.partnerFailed = true ∧ s'.tw.cause = c ∧ s'.tw.role = .leader) ∧
  (∀ t h c s, s.twinOn = true → s.hdrOk h = true → s.tw.role = .follower → s.tw.ready = true → Answers (.withdrawFrameReceived t h c) s fun s' => s'.tw.partner = .withdrawn ∧ s'.tw.role = .leader ∧ s'.tw.cause = c) ∧
  (∀ t s, s.isTwin = true → s.tw.trips = true → s.tw.lastRefresh + 8000 ≤ max s.now t → Answers (.tripSwitchRefreshExpiry t) s fun s' => s'.tw.trips = false ∧ (∀ k, (s'.coil k).tripClosed = false ∧ (s'.coil k).phase = (s.coil k).phase)) ∧
  (∀ t s, s.isTwin = false ∨ s.tw.trips = false ∨ max s.now t < s.tw.lastRefresh + 8000 → Idles (.tripSwitchRefreshExpiry t) s)

/-- A handover, by command, by request or for a reset, is possible only to a ready follower and while no contactor step waits (14 R367): HAND_OVER is refused at a follower with reason 1, and outside the conditions with reason 13. A ready follower acknowledges the instant; at it the
follower leads, and the acknowledged leader stops its drivers and becomes follower. A withdrawn twin opens its trip switches after the hold (14 R362). With neither the link nor a discrete heard a starting twin leads after its wait (14 R363); a twin whose sync is complete is a ready follower (14 R371). -/
def Obligations.TwinHandover : Prop :=
  (∀ t i s, s.tw.role ≠ .withdrawn ∨ s.tw.withdrawAt = none → Idles (.withdrawTripHoldExpiry t i) s) ∧
  (∀ t i w s, s.tw.role = .withdrawn → s.tw.withdrawAt = some w → w + 100000 ≤ max s.now t → s.pw.state = .flushing →
    Answers (.withdrawTripHoldExpiry t i) s fun s' => s'.tw.trips = false ∧ s'.tw.withdrawAt = none ∧ ∀ k, 1 ≤ k → k ≤ 12 → (s'.coil k).phase = .off ∧ (s'.coil k).tripClosed = false) ∧
  (∀ t i w s, s.tw.role = .withdrawn → s.tw.withdrawAt = some w → max s.now t < w + 100000 → s.coilMask &&& s.tw.partnerXh ≠ s.coilMask → Idles (.withdrawTripHoldExpiry t i) s) ∧
  (∀ t i w s, s.tw.role = .withdrawn → s.tw.withdrawAt = some w → w + 100000 ≤ max s.now t → s.pw.state ≠ .flushing → s.pw.resetNext = none → i.copyOk = true → s.up.trialKind ≠ 2 →
    Answers (.withdrawTripHoldExpiry t i) s fun s' => s'.pw.resetLevel = 2 ∧ s'.pw.resetCause = 3 ∧ ∀ k, (s'.coil k).phase = .off) ∧
  (∀ t m s, s.takes m → s.leads = false → Answers (.handOver t m) s fun s' => (s'.tele m.key).client.stored = cmdReply 0x0A01 stRefused 1 [] ∧ s'.tw.role = s.tw.role ∧ s'.tw.handoverAt = s.tw.handoverAt) ∧
  (∀ t m s, s.takes m → s.leads = true → s.handoverPossible = false → Answers (.handOver t m) s fun s' => (s'.tele m.key).client.stored = cmdReply 0x0A01 stRefused 13 [] ∧ s'.tw.handoverAt = s.tw.handoverAt) ∧
  (∀ t m s, s.takes m → s.handoverPossible = true → Answers (.handOver t m) s fun s' => (s'.tele m.key).client.stored = cmdReply 0x0A01 stDone 0 [] ∧ s'.tw.handoverCause = 6 ∧ s'.tw.handoverAt.isSome = true ∧ s'.tw.handoverAck = false ∧
    (∃ e, e ∈ s'.out ∧ e.kind = .handoverFrame)) ∧
  (∀ t c s, (s.handoverPossible = false ∨ c < 5 ∨ 8 < c) → Idles (.handoverRequest t c) s) ∧
  (∀ t c s, 5 ≤ c → c ≤ 8 → s.handoverPossible = true → Answers (.handoverRequest t c) s fun s' => s'.tw.handoverCause = c ∧ s'.tw.handoverAck = false ∧
    s'.tw.handoverAt = some (max s.now t + ((s.begin t).handoverInstant - (s.begin t).sinceEpoch)) ∧ (∃ e, e ∈ s'.out ∧ e.kind = .handoverFrame) ∧ { s'.bare with tw := {} } = { s.bare with tw := {} }) ∧
  (∀ t h a w c s, s.twinOn = false → Idles (.handoverFrameReceived t h a w c) s) ∧
  (∀ t h w c s, s.twinOn = true → s.hdrOk h = true → s.tw.role = .follower → s.tw.ready = true → Answers (.handoverFrameReceived t h false w c) s fun s' =>
    s'.tw.handoverAt = some ((s.begin t).instantOf w c) ∧ s'.tw.handoverAck = true ∧ s'.tw.role = .follower ∧ (∃ e, e ∈ s'.out ∧ e.kind = .handoverFrame)) ∧
  (∀ t h w c s, s.twinOn = true → s.hdrOk h = true → s.tw.role = .leader → s.tw.handoverAt.isSome = true → Answers (.handoverFrameReceived t h true w c) s fun s' => s'.tw.handoverAck = true ∧ s'.tw.handoverAt = s.tw.handoverAt) ∧
  (∀ t s, (∀ d, s.tw.handoverAt = some d → max s.now t < d) → Idles (.handoverInstant t) s) ∧
  (∀ t d s, s.tw.handoverAt = some d → d ≤ max s.now t → s.tw.role = .follower → Answers (.handoverInstant t) s fun s' => s'.tw.role = .leader ∧ s'.tw.epoch = wrapInc (max s.tw.epoch s.tw.highEpoch) ∧ s'.tw.handoverAt = none ∧
    s'.tw.handovers = wrapInc s.tw.handovers ∧ s'.tw.partner = .follower ∧ s'.ra.transmit = true) ∧
  (∀ t d s, s.tw.handoverAt = some d → d ≤ max s.now t → s.tw.role = .leader → s.tw.handoverAck = true → s.tw.handoverCause = 6 → Answers (.handoverInstant t) s fun s' => s'.tw.role = .follower ∧ s'.tw.ready = true ∧ s'.tw.partner = .leader ∧
    s'.tw.partnerCoils = s.coilMask ∧ s'.tw.handoverAt = none ∧ ∀ k, (s'.coil k).phase = .off ∧ (s'.coil k).tripClosed = (s.coil k).tripClosed) ∧
  (∀ t d s, s.tw.handoverAt = some d → d ≤ max s.now t → s.tw.role = .leader → s.tw.handoverAck = false → s.tw.handoverCause = 6 → Answers (.handoverInstant t) s fun s' => s'.tw.role = .withdrawn ∧ s'.tw.cause = 6 ∧ s'.tw.handoverAt = none ∧ s'.tw.withdrawAt = some (max s.now t)) ∧
  (∀ t d s, s.tw.role ≠ .starting ∨ s.tw.mismatch = true ∨ (s.path 0).lost = false ∨ s.tw.pairUntil ≠ some d ∨ max s.now t < d → Idles (.pairingWaitExpiry t d) s) ∧
  (∀ t d s, s.tw.role = .starting → s.tw.mismatch = false → (s.path 0).lost = true → s.tw.pairUntil = some d → d ≤ max s.now t → (s.path 1).lost = true → (s.path 2).lost = true → Answers (.pairingWaitExpiry t d) s fun s' => s'.tw.role = .leader ∧ s'.tw.trips = true ∧ s'.tw.pairUntil = none ∧
    s'.tw.epoch = wrapInc (max s.tw.epoch s.tw.highEpoch)) ∧
  (∀ t d s, s.tw.role = .starting → s.tw.mismatch = false → (s.path 0).lost = true → s.tw.pairUntil = some d → d ≤ max s.now t → ((s.path 1).lost = false ∨ (s.path 2).lost = false) → s.cfg.twin.position ≠ 0 → Answers (.pairingWaitExpiry t d) s fun s' => s'.tw.role = .starting ∧ s'.tw.pairUntil = none) ∧
  (∀ t s, (s.begin t).syncReady = false → Idles (.syncComplete t) s) ∧
  (∀ t s, (s.begin t).syncReady = true → Answers (.syncComplete t) s fun s' => s'.tw.role = .follower ∧ s'.tw.ready = true ∧ s'.tw.trips = true ∧ ∀ k, 1 ≤ k → k ≤ 12 → (s'.coil k).tripClosed = ((s.coil k).tripClosed || s.tw.partnerCoils.testBit (k - 1)))

/-- A frame whose header is not taken is counted and changes nothing else (14 R374). An island frame brings the partner's reception, inputs and decisions; a fresh demand on an emergency stop acts here as well (11 R312, 13 R347). A follower takes the state of a shadow frame, and a leader
takes none (14 R371). An island that halts in a twin in Run falls silent as withdrawn, one that does not withdraws with cause 3; of a single module it is a warm reset with cause 5 (14 R362; 19 R475). The second bad supervision window in a row is a Thyme failure: a twin withdraws with cause 2, moving no
contactor, and a single module opens its string and resets with cause 6 (02 R57). -/
def Obligations.TwinStateAndFaults : Prop :=
  (∀ t f s, s.twinOn = false → Idles (.twinShadowFrame t f) s) ∧
  (∀ t f s, s.twinOn = true → s.hdrOk f.hdr = false → Answers (.twinShadowFrame t f) s fun s' => s'.tw.gaps = wrapInc s.tw.gaps ∧ s'.tw.role = s.tw.role ∧ { s'.bare with tw := {} } = { s.bare with tw := {} }) ∧
  (∀ t f d v s, s.twinOn = true → s.hdrOk f.hdr = true → s.tw.role = .follower → f.view.di = some d → f.view.ba = some v → f.view.nodes = none → f.view.cells = none →
    Answers (.twinShadowFrame t f) s fun s' => s'.di = d ∧ s'.ba = v ∧ s'.tw.partnerHash = some f.hash ∧ s'.tw.partnerVersion = f.stagedVersion ∧ (f.lastItem = true → s'.tw.itemsSynced = true) ∧ s'.ch.cells = s.ch.cells) ∧
  (∀ t f s, s.twinOn = true → s.hdrOk f.hdr = true → s.tw.role = .leader → Answers (.twinShadowFrame t f) s fun s' => s'.di = s.di ∧ s'.ba = s.ba ∧ s'.ch = s.ch ∧ s'.tm = s.tm ∧ s'.tw.partnerHash = some f.hash) ∧
  (∀ t f s, s.twinOn = false → Idles (.islandFrame t f) s) ∧
  (∀ t f s, s.twinOn = true → s.hdrOk f.hdr = false → Answers (.islandFrame t f) s fun s' => s'.tw.gaps = wrapInc s.tw.gaps ∧ s'.pr.partnerHeard = s.pr.partnerHeard ∧ s'.pr.fns = s.pr.fns ∧ s'.sf.partnerDemand = s.sf.partnerDemand) ∧
  (∀ t f s, s.twinOn = true → s.hdrOk f.hdr = true → Answers (.islandFrame t f) s fun s' => s'.pr.partnerHeard = f.heard ∧ s'.pr.partnerEnergy = f.energy ∧ s'.pr.partnerAt = some (max s.now t) ∧ s'.pr.partnerFns = f.decisions ∧ s'.sf.partnerDemand = f.demand) ∧
  (∀ t f i s, s.twinOn = true → s.hdrOk f.hdr = true → i ∈ f.demand → i ∉ s.sf.partnerDemand → i ∈ s.inputsOf 1 ++ s.inputsOf 2 → s.fn 0x0B strGroup = none →
    Answers (.islandFrame t f) s fun s' => (∃ g, s'.fn 0x0B strGroup = some g ∧ g.latched = true ∧ g.action = .sd ∧ g.demanding = true) ∧ (∀ k, 1 ≤ k → k ≤ 11 → (s'.coil k).phase = .off) ∧ s'.rt.islandStop = true) ∧
  (∀ t i s, s.isTwin = true → (s.pw.state = .watch ∨ s.pw.state = .run ∨ s.pw.state = .enteringHib) → Answers (.islandFault t true i) s fun s' => s'.pw.haltedIsland = true ∧ s'.tw.role = .withdrawn ∧ s'.tw.cause = 3 ∧ s'.ct.coils = s.ct.coils) ∧
  (∀ t i s, s.isTwin = true → (s.pw.state = .watch ∨ s.pw.state = .run ∨ s.pw.state = .enteringHib) → s.partnerThere = true → s.tw.role ≠ .withdrawn →
    Answers (.islandFault t false i) s fun s' => s'.tw.role = .withdrawn ∧ s'.tw.cause = 3 ∧ s'.tw.withdrawAt = some (max s.now t) ∧ s'.ct.coils = s.ct.coils) ∧
  (∀ t i s, s.isTwin = false → (s.pw.state = .watch ∨ s.pw.state = .run) → s.pw.haltedIsland = false → s.pw.resetHold = none → s.pw.resetWait = none → s.pw.resetNext = none → s.mainOn = true →
    Answers (.islandFault t false i) s fun s' => s'.pw.resetHold = some (2, 5, max s.now t) ∧ s'.rt.islandStop = true ∧ (s'.coil 12).phase = .off) ∧
  (∀ t (c : Nat) i s, ((c : Int) - 1000000).natAbs ≤ 300 → Does (.thymeSupervisionWindow t c i) s { s with th := { s.th with badWindows := 0 } }) ∧
  (∀ t (c : Nat) i s, 300 < ((c : Int) - 1000000).natAbs → s.th.badWindows = 0 → Does (.thymeSupervisionWindow t c i) s { s with th := { s.th with badWindows := 1 } }) ∧
  (∀ t (c : Nat) i s, 300 < ((c : Int) - 1000000).natAbs → s.th.badWindows = 1 → s.th.failure = false → s.partnerThere = true → (s.pw.state = .watch ∨ s.pw.state = .run) → s.tw.role ≠ .withdrawn →
    Answers (.thymeSupervisionWindow t c i) s fun s' => s'.th.failure = true ∧ s'.tw.role = .withdrawn ∧ s'.tw.cause = 2 ∧ s'.ct.coils = s.ct.coils) ∧
  (∀ t (c : Nat) i s, 300 < ((c : Int) - 1000000).natAbs → s.th.badWindows = 1 → s.th.failure = false → s.isTwin = false → (s.pw.state = .watch ∨ s.pw.state = .run) → s.pw.haltedIsland = false → s.pw.resetHold = none → s.pw.resetWait = none → s.pw.resetNext = none →
    s.fn 0x0A strGroup = none → i.copyOk = true → s.up.trialKind ≠ 2 → Answers (.thymeSupervisionWindow t c i) s fun s' => s'.pw.resetLevel = 2 ∧ s'.pw.resetCause = 6 ∧ ∀ k, (s'.coil k).phase = .off)

/-- A feed that becomes present in Off starts the module, with its power cycle counted; in a powered state it is only noted (19 R461, R462), and so is the loss of one of two. With both feeds lost a powered module begins its flush (19 R482), from which it goes to Off, or with a feed back to where R461 says. A complete start is Watch (19 R463); a
request in Watch leads to Run from the first superframe start that lies 200 us after the fast clocks are stable, 200 us after the request (19 R466, R467), but not with a calibration fault (05 R147), and the dwell in Run back to Watch at a superframe divisible by 25 (19 R468). The hold-up measurement runs once in 24 h with both feeds and is deferred without (19 R484). -/
def Obligations.FeedsAndStates : Prop :=
  (∀ t (k : Fin 2) i s, s.pw.state = .off → Answers (.feedPresent t k i) s fun s' => s'.pw.powerCycles = wrapInc s.pw.powerCycles ∧ s'.pw.resetLevel = 0 ∧ s'.pw.resetCause = 1 ∧ s'.pw.p0 = some (max s.now t) ∧
    (if k.val = 0 then s'.pw.feed1 = true else s'.pw.feed2 = true) ∧ (s'.pw.state = .starting ∨ s'.pw.state = .unconfigured)) ∧
  (∀ t (k : Fin 2) i s, s.pw.state ≠ .off → s.pw.state ≠ .hibernate → Does (.feedPresent t k i) s (s.setFeed k.val true)) ∧
  (∀ t (k : Fin 2) s, (if k.val = 0 then s.pw.feed1 = false ∨ s.pw.feed2 = true else s.pw.feed2 = false ∨ s.pw.feed1 = true) → Does (.feedLost t k) s (s.setFeed k.val false)) ∧
  (∀ t (k : Fin 2) s, (if k.val = 0 then s.pw.feed1 = true ∧ s.pw.feed2 = false else s.pw.feed2 = true ∧ s.pw.feed1 = false) → (s.pw.state = .watch ∨ s.pw.state = .run) → Answers (.feedLost t k) s fun s' =>
    s'.pw.state = .flushing ∧ s'.pw.flushFrom = some s.pw.state ∧ s'.pw.flushAt = max s.now t ∧ s'.pw.feed1 = false ∧ s'.pw.feed2 = false) ∧
  (∀ t s, (s.pw.state = .off ∨ s.pw.state = .flushing ∨ s.pw.state = .hibernate) → Does (.bothFeedsLost t) s { s with pw := { s.pw with feed1 := false, feed2 := false } }) ∧
  (∀ t s, (s.pw.state = .watch ∨ s.pw.state = .run) → s.handoverPossible = false → Answers (.bothFeedsLost t) s fun s' => s'.pw.state = .flushing ∧ s'.pw.flushFrom = some s.pw.state ∧ s'.pw.flushAt = max s.now t ∧ s'.pw.feed1 = false ∧
    s'.pw.feed2 = false ∧ s'.pw.resetHold = some (0, 0x0A, max s.now t) ∧ s'.rt.islandStop = true ∧ s'.ct.due = []) ∧
  (∀ t i s, s.pw.state ≠ .flushing → Idles (.flushEnd t i) s) ∧
  (∀ t i s, s.pw.state = .flushing → s.anyFeed = false → Answers (.flushEnd t i) s fun s' => s'.pw.state = .off ∧ s'.cfg = {} ∧ s'.pw.powerCycles = s.pw.powerCycles ∧ s'.ls = s.ls ∧ ∀ k, (s'.coil k).phase = .off) ∧
  (∀ t i s, s.pw.state = .flushing → s.anyFeed = true → s.pw.flushFrom = some .resetLocked → Answers (.flushEnd t i) s fun s' => s'.pw.state = .resetLocked ∧ s'.pw.flushFrom = none) ∧
  (∀ t i s, s.pw.state = .flushing → s.anyFeed = true → s.pw.flushFrom ≠ some .resetLocked → i.copyOk = true → Answers (.flushEnd t i) s fun s' => s'.pw.resetLevel = 2 ∧ s'.pw.resetCause = 0x0A ∧ s'.pw.flushFrom = none ∧ (s'.pw.state = .starting ∨ s'.pw.state = .unconfigured)) ∧
  (∀ t s, s.pw.state ≠ .hibernate ∨ s.anyFeed = true → Idles (.alwaysOnMinimumReached t) s) ∧
  (∀ t s, s.pw.state = .hibernate → s.anyFeed = false → Answers (.alwaysOnMinimumReached t) s fun s' => s'.pw.state = .off ∧ s'.cfg = {}) ∧
  (∀ t v s, s.pw.state ≠ .watch → s.pw.state ≠ .run → Idles (.holdUpMeasurement t v) s) ∧
  (∀ t v s, (s.pw.state = .watch ∨ s.pw.state = .run) → s.pw.lastHoldUp + sec 86400 ≤ max s.now t → s.pw.feed1 = true → s.pw.feed2 = true →
    Does (.holdUpMeasurement t v) s { s with pw := { s.pw with holdUpMs := min 65535 v, lastHoldUp := max s.now t }, dl := { s.dl with deferred := s.dl.deferred.filter fun x => !decide (x = 5) } }) ∧
  (∀ t v s, (s.pw.state = .watch ∨ s.pw.state = .run) → s.pw.lastHoldUp + sec 86400 ≤ max s.now t → (s.pw.feed1 = false ∨ s.pw.feed2 = false) →
    Does (.holdUpMeasurement t v) s { s with pw := { s.pw with lastHoldUp := max s.now t }, dl := { s.dl with deferred := insertN 5 s.dl.deferred } }) ∧
  (∀ t s, s.startReady = false → Idles (.startComplete t) s) ∧
  (∀ t s, s.startReady = true → Answers (.startComplete t) s fun s' => s'.pw.state = .watch ∧ s'.pw.armed = true ∧ s'.pw.startDone = true ∧ s'.ct.autoArmed = (s.leads && s.cfg.join.autoConnect)) ∧
  (∀ t s, s.setpointStands = false → s.masterPair = false → s.pw.overCurrentRun < 2 → Idles (.runRequest t) s) ∧
  (∀ t s, s.pw.state = .watch → s.setpointStands = true ∨ s.masterPair = true ∨ 2 ≤ s.pw.overCurrentRun → Does (.runRequest t) s { s with pw := { s.pw with runRequestAt := some (s.pw.runRequestAt.getD (max s.now t)) } }) ∧
  (∀ t d s, s.pw.state = .watch → s.pw.runRequestAt = some d → d + 400000 + (s.begin t).sinceFrame ≤ max s.now t → s.acq.calFault = false →
    Does (.runEntry t) s { s with pw := { s.pw with state := .run, runRequestAt := none, watchSince := none, hibSince := none, visit := false }, lim := { s.lim with freshAt := max s.now t } }) ∧
  (∀ t s, s.pw.state ≠ .watch ∨ s.pw.runRequestAt = none ∨ s.acq.calFault = true → Idles (.runEntry t) s) ∧
  (∀ t d s, s.pw.state = .run → s.watchConditions = true → s.pw.watchSince = some d → d + sec s.cfg.power.runDwell ≤ max s.now t → (s.begin t).sweepAbs % 100 = 0 →
    Does (.runDwellExpiry t) s { s with pw := { s.pw with state := .watch, watchSince := none, hibSince := none, overCurrentRun := 0 } }) ∧
  (∀ t s, s.pw.state ≠ .run ∨ s.watchConditions = false ∨ s.pw.watchSince = none ∨ (s.begin t).sweepAbs % 100 ≠ 0 → Idles (.runDwellExpiry t) s)

/-- Under its conditions and after its delay, Watch begins the entry, and once the cores are masked the module is in Hibernate with its ports and transmitters off (19 R469). An enabled wake source sets its latch in Hibernate, and aborts an entry whose cores are not yet masked (19 R471). A wake
with good copies is Watch again, armed, its nodes to be admitted afresh, with the lowest latch as its source; a failed copy check is a cold reset with cause 0x09 (19 R473, R477). Level sources still asserted set their latches again (19 R472). -/
def Obligations.Hibernation : Prop :=
  (∀ t s, s.pw.state ≠ .watch ∨ s.hibConditions = false → Idles (.hibernateDelayExpiry t) s) ∧
  (∀ t d s, s.pw.state = .watch → s.hibConditions = true → s.pw.hibSince = some d → d + sec s.cfg.power.hibDelay ≤ max s.now t → Answers (.hibernateDelayExpiry t) s fun s' => s'.pw.state = .enteringHib ∧ s'.pw.hibSince = none ∧
    s'.pw.coresMasked = false ∧ s'.pw.latches = 0) ∧
  (∀ t s, s.pw.state ≠ .enteringHib ∨ s.pw.coresMasked = false → Idles (.hibernateEntryComplete t) s) ∧
  (∀ t s, s.pw.state = .enteringHib → s.pw.coresMasked = true → Does (.hibernateEntryComplete t) s { s with
    pw := { s.pw with state := .hibernate, hibAt := max s.now t, portsUp := false, armed := false, runRequestAt := none }
    ra := { s.ra with transmit := false }
    tw := { s.tw with role := if s.isTwin then .starting else s.tw.role, ready := false, trips := false } }) ∧
  (∀ t (n : Fin 7) s, s.wakeEnabled (n.val + 1) = false ∨ (s.begin t).wakeCause (n.val + 1) = false → Idles (.wakeLatchSet t n) s) ∧
  (∀ t (n : Fin 7) s, s.wakeEnabled (n.val + 1) = true → (s.begin t).wakeCause (n.val + 1) = true → s.pw.state = .hibernate → Answers (.wakeLatchSet t n) s fun s' => s'.pw.latches = s.pw.latches ||| 2 ^ n.val ∧ s'.pw.state = .hibernate ∧ { s'.bare with pw := {} } = { s.bare with pw := {} }) ∧
  (∀ t (n : Fin 7) s, s.wakeEnabled (n.val + 1) = true → (s.begin t).wakeCause (n.val + 1) = true → s.pw.state = .enteringHib → s.pw.coresMasked = false → Answers (.wakeLatchSet t n) s fun s' => s'.pw.state = .watch ∧ s'.pw.lastWake = n.val + 1 ∧ s'.pw.latches = 0 ∧ s'.cn.sleepAt = none) ∧
  (∀ t i s, s.pw.state ≠ .hibernate ∨ s.pw.latches = 0 → Idles (.wakeSequence t i) s) ∧
  (∀ t i s, s.pw.state = .hibernate → s.pw.latches ≠ 0 → i.copyOk = false → s.up.trialKind ≠ 2 → Answers (.wakeSequence t i) s fun s' => s'.pw.resetLevel = 3 ∧ s'.pw.resetCause = 9) ∧
  (∀ t i s, s.pw.state = .hibernate → s.pw.latches ≠ 0 → i.copyOk = true → Answers (.wakeSequence t i) s fun s' => s'.pw.state = .watch ∧ s'.pw.lastWake = lowestLatch s.pw.latches ∧ s'.pw.latches = 0 ∧ s'.pw.portsUp = true ∧ s'.pw.armed = true ∧
    s'.pw.coresMasked = false ∧ (∀ n, s'.node n = (s.node n).afresh) ∧ s'.ra.transmit = true ∧ s'.tw.role = (if s.isTwin then .starting else .leader) ∧ (∀ k, (s'.coil k).accepted = none) ∧ s'.ct.fbChecked = false) ∧
  (∀ t l s, s.pw.state ≠ .watch → Idles (.wakeServiceComplete t l) s) ∧
  (∀ t l s, s.pw.state = .watch → Answers (.wakeServiceComplete t l) s fun s' => s'.pw.levels = s'.pw.latches ∧ s'.pw.state = .watch ∧
    (∀ n, n < 7 → (s'.pw.latches.testBit n = true ↔ ((n = 0 ∨ n = 4 ∨ n = 5) ∧ n + 1 ∈ l ∧ s.wakeEnabled (n + 1) = true))) ∧ (s'.pw.latches ≠ 0 → s'.pw.hibSince = none) ∧ { s'.bare with pw := {} } = { s.bare with pw := {} })

/-- A reset requested in Watch or Run of a single module with a main coil on is prepared: the string is held and the reset waits for the current (19 R476); in Starting or Unconfigured it acts at once. In Reset-locked only the pushbutton restarts (19 R479). An interface-level reset ends every session and nothing else (19 R475). A
deferred reset proceeds after 60 s (19 R478). A short press is counted, an ordinary press asks for a warm reset with cause 2, and one of 10 s is disregarded (19 R480). An image accepted on X13 in Unconfigured is stored and followed by a cold reset with cause 8 (19 R464); a removed plug is only noted (19 R465). -/
def Obligations.Resets : Prop :=
  (∀ t c i s, (s.pw.state = .off ∨ s.pw.state = .flushing ∨ s.pw.state = .hibernate) → Idles (.warmReset t c i) s ∧ Idles (.coldReset t c i) s ∧ Idles (.applicationClusterWatchdog t i) s) ∧
  (∀ t c i s, s.pw.state = .resetLocked → c ≠ 0x0C → Idles (.warmReset t c i) s ∧ Idles (.coldReset t c i) s) ∧
  (∀ t c i s, s.isTwin = false → (s.pw.state = .watch ∨ s.pw.state = .run) → s.pw.haltedIsland = false → s.pw.resetHold = none → s.pw.resetWait = none → s.pw.resetNext = none → s.mainOn = true →
    Answers (.warmReset t c i) s (fun s' => s'.pw.resetHold = some (2, c, max s.now t) ∧ s'.pw.resetIn = i ∧ s'.rt.islandStop = true ∧ (s'.coil 12).phase = .off ∧ s'.pw.state = s.pw.state) ∧
    Answers (.coldReset t c i) s (fun s' => s'.pw.resetHold = some (3, c, max s.now t) ∧ s'.rt.islandStop = true) ∧
    Answers (.applicationClusterWatchdog t i) s (fun s' => s'.pw.resetHold = some (2, 4, max s.now t) ∧ s'.rt.islandStop = true)) ∧
  (∀ t c i s, (s.pw.state = .starting ∨ s.pw.state = .unconfigured) → s.up.trialKind ≠ 2 → Answers (.coldReset t c i) s fun s' => s'.pw.resetLevel = 3 ∧ s'.pw.resetCause = c ∧ ∀ k, (s'.coil k).phase = .off) ∧
  (∀ t c i s, (s.pw.state = .starting ∨ s.pw.state = .unconfigured) → s.up.trialKind ≠ 2 → i.copyOk = true → Answers (.warmReset t c i) s fun s' => s'.pw.resetLevel = 2 ∧ s'.pw.resetCause = c) ∧
  (∀ t s, (s.pw.state = .off ∨ s.pw.state = .hibernate) → Idles (.interfaceLevelReset t) s) ∧
  (∀ t s, s.pw.state ≠ .off → s.pw.state ≠ .hibernate → Answers (.interfaceLevelReset t) s fun s' => s'.nt.sessions = {} ∧ (∀ k, (s'.ma.clients.get k {}).session = 0) ∧ s'.pw.resetLevel = 1 ∧ s'.pw.resetCause = 0x0B ∧
    s'.up = s.up.endSession ∧ { s'.bare with nt := {}, ma := {}, pw := {}, up := {} } = { s.bare with nt := {}, ma := {}, pw := {}, up := {} }) ∧
  (∀ t s, s.pw.resetWait = none → Idles (.resetDeferralExpiry t) s) ∧
  (∀ t l c d s, s.pw.resetWait = some (l, c, d) → max s.now t < d + sec 60 → Idles (.resetDeferralExpiry t) s) ∧
  (∀ t l c d s, s.pw.resetWait = some (l, c, d) → d + sec 60 ≤ max s.now t → s.partnerThere = true → s.tw.role ≠ .withdrawn → Answers (.resetDeferralExpiry t) s fun s' => s'.pw.resetWait = none ∧ s'.pw.resetNext = some (l, c) ∧ s'.tw.role = .withdrawn ∧
    s'.tw.cause = withdrawCauseOf c) ∧
  (∀ t l c d s, s.pw.resetWait = some (l, c, d) → d + sec 60 ≤ max s.now t → s.partnerThere = false → s.mainOn = true → Answers (.resetDeferralExpiry t) s fun s' => s'.pw.resetWait = none ∧ s'.pw.resetHold = some (l, c, max s.now t) ∧ s'.rt.islandStop = true) ∧
  (∀ t s, (s.pw.state = .off ∨ s.pw.state = .hibernate ∨ s.pw.state = .flushing ∨ s.pw.pressDead = true) → Idles (.resetButtonHeld t) s) ∧
  (∀ t s, s.pw.state ≠ .off → s.pw.state ≠ .hibernate → s.pw.state ≠ .flushing → s.pw.pressDead = false → Does (.resetButtonHeld t) s { s with pw := { s.pw with pressAt := some (max s.now t - sec 10), pressDead := true } }) ∧
  (∀ t h i s, s.pw.state ≠ .off → s.pw.state ≠ .hibernate → s.pw.state ≠ .flushing → s.pw.pressDead = false → (s.pw.buttonOpenAt = 0 ∨ s.pw.buttonOpenAt + sec 1 + ms h ≤ max s.now t) → h < 100 → Does (.resetPushbuttonRelease t h i) s { s with pw := { s.pw with pressAt := none, shortPresses := wrapInc s.pw.shortPresses } }) ∧
  (∀ t h i s, s.pw.state ≠ .off → s.pw.state ≠ .hibernate → s.pw.state ≠ .flushing → s.pw.pressDead = true → Does (.resetPushbuttonRelease t h i) s { s with pw := { s.pw with pressAt := none, pressDead := false, buttonOpenAt := max s.now t } }) ∧
  (∀ t h i s, s.isTwin = false → (s.pw.state = .watch ∨ s.pw.state = .run) → s.pw.pressDead = false → 100 ≤ h → h < 10000 → s.pw.buttonOpenAt = 0 → (s.begin t).recoveryWindow = false → s.pw.haltedIsland = false → s.pw.resetHold = none →
    s.pw.resetWait = none → s.pw.resetNext = none → s.mainOn = true → Answers (.resetPushbuttonRelease t h i) s fun s' => s'.pw.resetHold = some (2, 2, max s.now t) ∧ s'.rt.islandStop = true) ∧
  (∀ t s, Does (.serviceEnableChange t false) s { s with pw := { s.pw with serviceEnable := false } }) ∧
  (∀ t s, s.pw.state ≠ .hibernate → s.pw.state ≠ .enteringHib → Does (.serviceEnableChange t true) s { s with pw := { s.pw with serviceEnable := true } }) ∧
  (∀ t s, s.powered = true → Does (.applicationClusterHalt t) s { s with pw := { s.pw with haltedApp := true } }) ∧ (∀ t s, s.powered = false → Idles (.applicationClusterHalt t) s) ∧
  (∀ t s, s.pw.state ≠ .off → s.pw.state ≠ .hibernate → s.pw.plugPresent = true → Does (.bayPlugRemoved t) s { s with pw := { s.pw with plugPresent := false }, pg := { s.pg with removed := true } }) ∧
  (∀ t img i s, s.pw.state ≠ .unconfigured ∨ s.pw.plugPresent = false ∨ s.pg.outcome = 2 ∨ s.imageStage img ≠ 0 → Idles (.configurationAcceptedOnX13 t img i) s) ∧
  (∀ t img i s, s.pw.state = .unconfigured → s.pw.plugPresent = true → s.pg.outcome ≠ 2 → s.imageStage img = 0 → i.fitted = none → Answers (.configurationAcceptedOnX13 t img i) s fun s' => s'.pw.resetLevel = 3 ∧ s'.pw.resetCause = 8 ∧
    s'.pg.area (match (s.pg.dir.getD {}).active with | some x => 1 - x | none => 0) = some img)

/-- A message becomes pending when its period comes round or its fields change, and a success sends the content it took into arbitration, the latest one of the lowest identifier (18 R452), ends its conflict count and advances its alive counter (18 R451). A transmit error adds 8, the eighth conflict withdraws the message, and a transmit error counter of 256 is bus-off, the
third within 60 s for good; a recovery starts with both counters at zero (18 R454 to R456). A received frame that matches is kept with its data and instant, and an unknown, malformed, remote or exception frame is only counted (18 R447, R450). Equipment without a fresh status is not available (18 R449). The bus load event
comes at the tenth high window in a row (18 R453). Asleep, the cores mask their interrupts (18 R457). -/
def Obligations.CanChannels : Prop :=
  (∀ t (c : Fin 2) (i : Fin 16) s, Idles (.canTransmissionDue t c i) s ∧ Answers (.canTransmissionDue t c i) s (fun s' => (s'.can c.val).tec = (s.can c.val).tec ∧ (s'.can c.val).sent = (s.can c.val).sent ∧
    (s.canMsg c.val i.val = none → ((s'.can c.val).tx.get i.val {}).pending = ((s.can c.val).tx.get i.val {}).pending))) ∧
  (∀ t (c : Fin 2) (i : Fin 16) m s, s.canMsg c.val i.val = some m → m.sends = true → (s.pw.state = .run ∨ s.pw.state = .watch ∨ s.pw.state = .enteringHib) → (s.leads = true ∨ s.isTwin = false) → ((s.can c.val).tx.get i.val {}).withdrawn = false →
    (s.can c.val).state ≠ .disabled → (s.can c.val).state ≠ .asleep → (s.begin t).canPeriodic m = true ∨ (s.canFields m).1 ≠ ((s.can c.val).tx.get i.val {}).last →
    Answers (.canTransmissionDue t c i) s fun s' => ((s'.can c.val).tx.get i.val {}).pending = true) ∧
  (∀ t (c : Fin 2) (i : Fin 16) s, ((s.can c.val).tx.get i.val {}).pending = false ∨ (s.can c.val).state.sending = false → Answers (.canTransmissionSuccess t c i) s fun s' => (s'.can c.val).sent = (s.can c.val).sent ∧ (s'.can c.val).tec = (s.can c.val).tec) ∧
  (∀ t (c : Fin 2) (i : Fin 16) m d s, s.canMsg c.val i.val = some m → m.sends = true → s.canContent c.val i.val = some d → ((s.can c.val).tx.get i.val {}).pending = true → (s.can c.val).state.sending = true →
    Idles (.canTransmissionSuccess t c i) s ∧ Answers (.canTransmissionSuccess t c i) s (fun s' => let o := (s'.can c.val).tx.get i.val {}
      o.pending = false ∧ o.conflict = 0 ∧ o.last = d.take (if m.fn = 1 then 7 else 4) ∧ (s'.can c.val).tec = (s.can c.val).tec - 1 ∧ (s'.can c.val).sent = wrapInc (s.can c.val).sent ∧ (∃ e, e ∈ s'.out ∧ e.kind = .can ∧ e.bytes = octetsOf 4 m.ident ++ [if m.ext then 1 else 0, m.ftype] ++ d) ∧
      ((s.isTwin = false ∨ (s.leads = true ∧ ∀ e, e ∈ s.cn.chans.entries → e.2.state ≠ .restricted)) → o.alive = (((s.can c.val).tx.get i.val {}).alive + 1) % 256))) ∧
  (∀ t (c : Fin 2) (i : Fin 16) a n m d s, s.canMsg c.val i.val = some m → m.sends = true → s.canContent c.val i.val = some d → ((s.can c.val).tx.get i.val {}).pending = true → (s.can c.val).state.sending = true →
    Idles (.canTransmitError t c i a n) s ∧ Answers (.canTransmitError t c i a n) s (fun s' => let o := (s.can c.val).tx.get i.val {}
      ((s'.can c.val).tx.get i.val {}).conflict = (if a then o.conflict + 1 else o.conflict) ∧ (s'.can c.val).tec = (if n then (s.can c.val).tec + 8 else (s.can c.val).tec) ∧
      (a = true → 7 ≤ o.conflict → ((s'.can c.val).tx.get i.val {}).withdrawn = true ∧ ((s'.can c.val).tx.get i.val {}).pending = false) ∧
      (n = true → 248 ≤ (s.can c.val).tec → ((s.can c.val).busOffs.filter fun x => decide (max s.now t ≤ x + sec 60)).length < 2 → (s'.can c.val).state = .busOff) ∧
      (n = true → 248 ≤ (s.can c.val).tec → 2 ≤ ((s.can c.val).busOffs.filter fun x => decide (max s.now t ≤ x + sec 60)).length → (s'.can c.val).state = .stopped))) ∧
  (∀ t (c : Fin 2) e s, (s.can c.val).state.sending = true → Idles (.canReceiveError t c e) s ∧ Answers (.canReceiveError t c e) s (fun s' => (s'.can c.val).recv = min 255 ((s.can c.val).recv + if e then 8 else 1) ∧
    (s'.can c.val).errors = wrapInc (s.can c.val).errors ∧ (s'.can c.val).tec = (s.can c.val).tec)) ∧
  (∀ t (c : Fin 2) s, (s.isTwin = false ∨ (s.leads = true ∧ ∀ e, e ∈ s.cn.chans.entries → e.2.state ≠ .restricted)) → (s.can c.val).state = .busOff →
    Answers (.canBusOffRecovery t c) s fun s' => (s'.can c.val).state = .active ∧ (s'.can c.val).tec = 0 ∧ (s'.can c.val).recv = 0) ∧
  (∀ t (c : Fin 2) s, (s.can c.val).state = .stopped → Answers (.canBusOffRecovery t c) s fun s' => (s'.can c.val).state = .stopped ∧ (s'.can c.val).tec = (s.can c.val).tec) ∧
  (∀ t (c : Fin 2) f s, (s.can c.val).state.sending = true ∨ (s.can c.val).state = .restricted → (f.exception_ = true ∨ f.remote = true ∨ s.rxMatch c.val f = none ∨ f.dlc ≠ 8) →
    Answers (.canFrameReceived t c f) s fun s' => (s'.can c.val).unknown = wrapInc (s.can c.val).unknown ∧ (∀ i, (s'.can c.val).rx.get i {} = (s.can c.val).rx.get i {}) ∧ { s'.bare with cn := {}, freeIdx := 0 } = { s.bare with cn := {}, freeIdx := 0 }) ∧
  (∀ t (c : Fin 2) f i s, ((s.can c.val).state.sending = true ∨ (s.can c.val).state = .restricted) → f.exception_ = false → f.remote = false → s.rxMatch c.val f = some i → f.dlc = 8 →
    Answers (.canFrameReceived t c f) s fun s' => let r := (s'.can c.val).rx.get i {}
      r.data = f.data ∧ r.at_ = some (max s.now t) ∧ r.unread = true ∧ (s'.can c.val).received = wrapInc (s.can c.val).received ∧ (s'.can c.val).unknown = (s.can c.val).unknown) ∧
  (∀ t s, (∀ i, i < s.cfg.msgs.length → (s.begin t).equipOk i (s.cfg.msgs.getD i {}) = false) → Answers (.equipmentTimeout t) s fun s' => s'.cn.equip = [] ∧ { s'.bare with cn := {}, tm := {} } = { s.bare with cn := {}, tm := {} }) ∧
  (∀ t (c : Fin 2) l s, Idles (.canLoadWindow t c l) s) ∧
  (∀ t (c : Fin 2) l s, s.publishes = true → (s.begin t).turnOpen (0x24 + c.val) (sec 1) 0 = true → Answers (.canLoadWindow t c l) s fun s' => (s'.can c.val).load = l ∧ (700 < l → 9 ≤ (s.can c.val).loadRun → (s'.can c.val).loadHigh = true) ∧
    (l < 700 → 9 ≤ (s.can c.val).calmRun → (s'.can c.val).loadHigh = false) ∧ (l = 700 → (s'.can c.val).loadHigh = (s.can c.val).loadHigh)) ∧
  (∀ t s, s.pw.state ≠ .enteringHib ∨ s.cn.sleepAt = none → Idles (.canSleep t) s) ∧
  (∀ t d s, s.pw.state = .enteringHib → s.cn.sleepAt = some d → d + ms 20 ≤ max s.now t → Answers (.canSleep t) s fun s' => s'.pw.coresMasked = true ∧ s'.cn.sleepAt = none ∧
    (∀ c, (s.can c).state ≠ .disabled → (s'.can c).state = .asleep) ∧ { s'.bare with cn := {}, pw := {} } = { s.bare with cn := {}, pw := {} })

/-- A set-point multicast is judged in order: header and reserved values, parity of the cycle, master epoch, age; a refused one is counted and changes nothing else. An accepted one is the master heard last, and a leader takes its entry, applied from M0 + 500 us or its receipt (15 R381, R383). Without one for
the hold, the entry no longer stands (15 R383). A carrier phase is applied at a sweep divisible by 1000 at least 20 ms after receipt (15 R389). The plant master allocates each cycle once, moving its set-point by the ramp, and sends that cycle's multicast once (15 R381, R386, R387); at the end of a
lifetime its target is 0 (15 R387). A string status is kept as the string's latest (15 R384). A stream frame takes tokens of its string's bucket and is kept, or it is discarded and the decimation is to double (15 R399); 10 s without a discard halve it. -/
def Obligations.DispatchCycle : Prop :=
  (∀ t h m s, hdrGood h = false → Does (.setpointMulticastReceived t h m) s { s with di := { s.di with badFrames := wrapInc s.di.badFrames } }) ∧
  (∀ t h m s, hdrGood h = true → s.pw.state ≠ .run → s.pw.state ≠ .watch → s.pw.state ≠ .enteringHib → Idles (.setpointMulticastReceived t h m) s) ∧
  (∀ t h m s, hdrGood h = true → (s.pw.state = .run ∨ s.pw.state = .watch ∨ s.pw.state = .enteringHib) → m.cycle % 2 = 1 →
    Does (.setpointMulticastReceived t h m) s { s with di := { s.di with invalid := wrapInc s.di.invalid } }) ∧
  (∀ t h m s, hdrGood h = true → (s.pw.state = .run ∨ s.pw.state = .watch ∨ s.pw.state = .enteringHib) → m.cycle % 2 = 0 → h.epoch < s.seenEpoch →
    Does (.setpointMulticastReceived t h m) s { s with di := { s.di with stale := wrapInc s.di.stale } }) ∧
  (∀ t h m s, hdrGood h = true → (s.pw.state = .run ∨ s.pw.state = .watch ∨ s.pw.state = .enteringHib) → m.cycle % 2 = 0 → s.seenEpoch ≤ h.epoch → (s.begin t).sweepStart m.cycle + 2000000 < (s.begin t).th.reading →
    Does (.setpointMulticastReceived t h m) s { s with di := { s.di with late := wrapInc s.di.late } }) ∧
  (∀ t h m s, hdrGood h = true → (s.pw.state = .run ∨ s.pw.state = .watch ∨ s.pw.state = .enteringHib) → m.cycle % 2 = 0 → s.seenEpoch ≤ h.epoch → (s.begin t).th.reading ≤ (s.begin t).sweepStart m.cycle + 2000000 →
    Answers (.setpointMulticastReceived t h m) s fun s' => s'.di.masterEpoch = h.epoch ∧ s'.di.master = some h.sender ∧ s'.di.heardAt = some (max s.now t) ∧ s'.di.masterLost = false ∧ s'.di.mcastSeq = some h.seq ∧
      (s.isMaster = true → s.ma.epoch < h.epoch → s'.ma.holds = false ∧ s'.ma.ops = []) ∧ s'.ma.claiming = false ∧ s'.di.late = s.di.late ∧ s'.di.stale = s.di.stale ∧ s'.di.invalid = s.di.invalid ∧
      (s.leads = true → s'.di.setpoint = (m.entry.getD {}).setpoint ∧ s'.di.entryValid = (m.entry.getD {}).valid ∧ s'.di.nextCycle = m.cycle ∧ s'.di.taken = false ∧
        s'.di.applyFrom = max ((s.begin t).localOf ((s.begin t).sweepStart m.cycle) + 500000) (max s.now t)) ∧
      (s.leads = false → s'.di.setpoint = s.di.setpoint ∧ s'.di.entryValid = s.di.entryValid ∧ s'.di.taken = s.di.taken)) ∧
  (∀ t s, s.leads = false ∨ s.di.masterLost = true ∨ s.di.heardAt = none → Idles (.masterLossHoldExpiry t) s) ∧
  (∀ t d s, s.leads = true → s.di.masterLost = false → s.di.heardAt = some d → d + ms s.cfg.alloc.holdMs ≤ max s.now t → Answers (.masterLossHoldExpiry t) s fun s' =>
    s'.di.masterLost = true ∧ s'.di.entryValid = false ∧ s'.di.taken = true ∧ (s.di.applying = true → s'.di.ramping = true) ∧ { s'.bare with di := {}, freeIdx := 0 } = { s.bare with di := {}, freeIdx := 0 }) ∧
  (∀ t s, s.di.newPhase = none ∨ s.leads = false ∨ (s.begin t).sweepNo % 1000 ≠ 0 → Idles (.carrierPhaseApply t) s) ∧
  (∀ t p r s, s.di.newPhase = some (p, r) → s.leads = true → (s.begin t).sweepNo % 1000 = 0 → r + ms 20 ≤ max s.now t →
    Does (.carrierPhaseApply t) s { s with di := { s.di with phase := p, phaseValid := true, phaseSweep := (s.begin t).sweepNo, newPhase := none } }) ∧
  (∀ t x s, s.isMaster = false ∨ s.ma.cycle = some (s.begin t).nextCycle ∨ (s.begin t).sinceEpoch % cycleNs < 1600000 → Idles (.dispatchAllocation t x) s) ∧
  (∀ t x s, s.isMaster = true → 1600000 ≤ (s.begin t).sinceEpoch % cycleNs → s.ma.cycle ≠ some (s.begin t).nextCycle → s.ma.handover = none → Answers (.dispatchAllocation t x) s fun s' => s'.ma.cycle = some (s.begin t).nextCycle ∧ s'.ma.spRequests = [] ∧ s'.ma.exRequests = [] ∧
    s'.ma.allocated = sumI (s'.ma.setpoints.map fun e => e.2) ∧ s'.di = s.di ∧
    (s.ma.spRequests = [] → s.ma.exRequests = [] → s'.ma.inForce = s.ma.move s.cfg.alloc.expiry ∧ s'.ma.target = s.ma.target ∧
      s'.ma.setpoints = s.allocation (s.ma.move s.cfg.alloc.expiry) (2 * (s.begin t).nextCycle % two32) s.ma.horizon)) ∧
  (∀ t s, s.isMaster = false ∨ s.ma.cycle ≠ some (s.begin t).thisCycle ∨ s.ma.sent = some (s.begin t).thisCycle → Idles (.setpointMulticastSend t) s) ∧
  (∀ t s, s.isMaster = true → s.ma.cycle = some (s.begin t).thisCycle → s.ma.sent ≠ some (s.begin t).thisCycle → s.ma.handover = none →
    Answers (.setpointMulticastSend t) s fun s' => s'.ma.sent = some (s.begin t).thisCycle ∧ (∃ e, e ∈ s'.out ∧ e.kind = .multicast) ∧ s'.ma.setpoints = s.ma.setpoints ∧ s'.ma.inForce = s.ma.inForce ∧ s'.di = s.di) ∧
  (∀ t s, s.isMaster = false ∨ s.ma.lifeUntil = none → Idles (.setpointLifetimeExpiry t) s) ∧
  (∀ t d s, s.isMaster = true → s.ma.lifeUntil = some d → d ≤ max s.now t → s.ma.spRequests = [] →
    Does (.setpointLifetimeExpiry t) s { s with ma := { s.ma with target := 0, expiryRamp := true, expired := true, lifeUntil := none } }) ∧
  (∀ t h x s, s.netOn = false → Idles (.stringStatusReceived t h x) s) ∧
  (∀ t h x s, s.netOn = true → (hdrGood h && statusGood x) = false → Does (.stringStatusReceived t h x) s { s with di := { s.di with badFrames := wrapInc s.di.badFrames } }) ∧
  (∀ t h x s, s.netOn = true → hdrGood h = true → statusGood x = true → Answers (.stringStatusReceived t h x) s fun s' => s'.ma.stats.get h.sender {} = { x with at_ := max s.now t, timeState := h.timeState } ∧ (∀ i, i ≠ h.sender → s'.ma.stats.get i {} = s.ma.stats.get i {}) ∧
    s'.ma.setpoints = s.ma.setpoints ∧ s'.ma.streams = s.ma.streams ∧ s'.di.badFrames = s.di.badFrames ∧ s'.pw = { s.pw with opTimeNs := s'.pw.opTimeNs }) ∧
  (∀ t h f s, s.netOn = false ∨ s.ma.holds = false → Idles (.streamFrameIngest t h f) s) ∧
  (∀ t h f s, s.netOn = true → s.ma.holds = true → (s.tw.role = .leader ∨ s.tw.role = .follower) → hdrGood h = true →
    let x := s.ma.streams.get h.sender {}
    let rate : Rat := (Config.streamRate h.sender : Rat) * 105 / 100
    let b : Rat := match x.filledAt with
      | none => rate * 8 / 1000
      | some t0 => min (rate * 8 / 1000) (x.tokens + rate * ((max s.now t - t0 : Nat) : Rat) / 1000000000)
    Answers (.streamFrameIngest t h f) s fun s' => let y := s'.ma.streams.get h.sender {}
      y.filledAt = some (max s.now t) ∧ y.decim = x.decim ∧ (∀ i, i ≠ h.sender → s'.ma.streams.get i {} = s.ma.streams.get i {}) ∧
      (b < (f.octets : Rat) → y.tokens = b ∧ y.pend = true ∧ y.lastDiscard = max s.now t ∧ y.kept = x.kept) ∧
      ((f.octets : Rat) ≤ b → y.tokens = b - f.octets ∧ y.pend = x.pend ∧ y.lastDiscard = x.lastDiscard)) ∧
  (∀ t i s, (s.ma.streams.get i {}).decim = 0 → Idles (.streamDecimationRelax t i) s) ∧
  (∀ t i s, 0 < (s.ma.streams.get i {}).decim → (s.ma.streams.get i {}).lastDiscard + sec 10 ≤ max s.now t → Answers (.streamDecimationRelax t i) s fun s' =>
    (s'.ma.streams.get i {}).decim = (s.ma.streams.get i {}).decim - 1 ∧ (s'.ma.streams.get i {}).lastDiscard = max s.now t ∧ ∀ j, j ≠ i → s'.ma.streams.get j {} = s.ma.streams.get j {})

/-- An interface reset opens the next session with sequence 1 expected (15 R390). A request of another session, of a repeated or lower sequence, or without the right, changes nothing in the plant (15 R391, R393). A set-point request waits for the next allocation (15 R387, R392), an exclusion or inclusion as well (15 R396). Connect,
disconnect, join and leave become an operation in flight, sent at once, unless a value is out of range (INVALID), the string is unknown (REFUSED, reason 12), a master handover is in progress (BUSY, reason 4) or two are in flight for the string (BUSY, reason 1) (15 R394, R395). Its frame repeats every 20 ms; a
result ends it with that answer, 450 ms with TIMEOUT (15 R395, R396). -/
def Obligations.MasterRequests : Prop :=
  (∀ t q s, s.isMaster = false → Idles (.dispatchInterfaceReset t q) s) ∧
  (∀ t q c k s, s.isMaster = true → q.ok = true → q.client = some c → s.cfg.clients[c]? = some k → 1 ≤ bucketNow k.rate k.depth (s.client c).tokens (s.client c).filledAt (max s.now t) →
    Answers (.dispatchInterfaceReset t q) s fun s' => (s'.client c).session = s.ma.nextSession ∧ (s'.client c).lastSeq = 0 ∧ (s'.client c).stored = [] ∧ s'.ma.nextSession = max 1 (wrapInc s.ma.nextSession) ∧
      (∃ e, e ∈ s'.out ∧ e.kind = .response ∧ e.port = c) ∧ s'.ma.target = s.ma.target ∧ s'.ma.excluded = s.ma.excluded ∧ s'.ma.ops = s.ma.ops) ∧
  (∀ t q s (cmd : Instr), (cmd = (.plantSetpointRequest t q) ∨ cmd = (.connectRequest t q) ∨ cmd = (.disconnectRequest t q) ∨ cmd = (.joinBranchRequest t q) ∨ cmd = (.leaveBranchRequest t q) ∨ cmd = (.excludeString t q) ∨ cmd = (.includeString t q)) →
    (s.isMaster = false → Idles cmd s) ∧ (s.isMaster = true → q.ok = false → Does cmd s { s with di := { s.di with badFrames := wrapInc s.di.badFrames } }) ∧
    (∀ c, q.client = some c → (q.session = 0 ∨ (s.client c).session ≠ q.session ∨ q.seq ≤ (s.client c).lastSeq) → Answers cmd s fun s' => s'.ma.spRequests = s.ma.spRequests ∧ s'.ma.exRequests = s.ma.exRequests ∧ s'.ma.ops = s.ma.ops ∧ s'.ma.target = s.ma.target)) ∧
  (∀ t q c k s (cmd : Instr) right, (s.begin t).admits q c k → (cmd = (.plantSetpointRequest t q) ∧ right = 0 ∨ cmd = (.connectRequest t q) ∧ right = 1 ∨ cmd = (.disconnectRequest t q) ∧ right = 1 ∨ cmd = (.joinBranchRequest t q) ∧ right = 1 ∨
    cmd = (.leaveBranchRequest t q) ∧ right = 1 ∨ cmd = (.excludeString t q) ∧ right = 2 ∨ cmd = (.includeString t q) ∧ right = 2) → k.rights.testBit right = false →
    Answers cmd s fun s' => (s'.client c).stored = s.responseTo_ stNotAllowed 0 0 s.ma.horizon 0 ∧ (s'.client c).lastSeq = q.seq ∧ s'.ma.spRequests = s.ma.spRequests ∧ s'.ma.exRequests = s.ma.exRequests ∧ s'.ma.ops = s.ma.ops) ∧
  (∀ t q c k s, (s.begin t).admits q c k → k.rights.testBit 0 = true → q.string = 255 → q.branch = 255 → q.horizon ≤ 4 → Answers (.plantSetpointRequest t q) s fun s' =>
    s'.ma.spRequests = s.ma.spRequests ++ [{ client := c, session := q.session, at_ := max s.now t, target := q.target, ramp := q.ramp, life := q.life, horizon := q.horizon }] ∧ s'.ma.target = s.ma.target ∧ (s'.client c).lastSeq = q.seq) ∧
  (∀ t q c k s, (s.begin t).admits q c k → k.rights.testBit 0 = true → (q.string ≠ 255 ∨ q.branch ≠ 255 ∨ 4 < q.horizon) → Answers (.plantSetpointRequest t q) s fun s' =>
    s'.ma.spRequests = s.ma.spRequests ∧ (s'.client c).stored = s.responseTo_ stInvalid 0 0 s.ma.horizon 0) ∧
  (∀ t q c k s (cmd : Instr) kind, (cmd = (.connectRequest t q) ∧ kind = 2 ∨ cmd = (.disconnectRequest t q) ∧ kind = 3 ∨ cmd = (.joinBranchRequest t q) ∧ kind = 4 ∨ cmd = (.leaveBranchRequest t q) ∧ kind = 5) → (s.begin t).admits q c k → k.rights.testBit 1 = true →
    let fits := (if 4 ≤ kind then q.branch ≤ 3 else q.branch = 255) ∧ q.string ≤ 127
    (¬ fits → Answers cmd s fun s' => s'.ma.ops = s.ma.ops ∧ (s'.client c).stored = s.responseTo_ stInvalid 0 0 s.ma.horizon 0) ∧
    (fits → q.string ∉ s.plantStrings → Answers cmd s fun s' => s'.ma.ops = s.ma.ops ∧ (s'.client c).stored = s.responseTo_ stRefused 12 0 s.ma.horizon 0) ∧
    (fits → q.string ∈ s.plantStrings → s.handingOver = true → Answers cmd s fun s' => s'.ma.ops = s.ma.ops ∧ (s'.client c).stored = s.responseTo_ stBusy 4 0 s.ma.horizon 0) ∧
    (fits → q.string ∈ s.plantStrings → s.handingOver = false → 2 ≤ (s.ma.ops.filter fun o => decide (o.string = q.string)).length →
      Answers cmd s fun s' => s'.ma.ops = s.ma.ops ∧ (s'.client c).stored = s.responseTo_ stBusy 1 0 s.ma.horizon 0) ∧
    (fits → q.string ∈ s.plantStrings → s.handingOver = false → (s.ma.ops.filter fun o => decide (o.string = q.string)).length < 2 → Answers cmd s fun s' =>
      s'.ma.ops = s.ma.ops ++ [{ ident := s.ma.nextOp, string := q.string, kind := kind, branch := q.branch, deadline := ((s.begin t).sweepNo + 300) % two32, client := c, session := q.session, body := q.body kind, receivedAt := max s.now t, sentAt := max s.now t }] ∧
      s'.ma.nextOp = wrapInc s.ma.nextOp ∧ (∃ e, e ∈ s'.out ∧ e.kind = .operation) ∧ (s'.client c).stored = [])) ∧
  (∀ t q c k s (cmd : Instr) inc, (cmd = (.excludeString t q) ∧ inc = false ∨ cmd = (.includeString t q) ∧ inc = true) → (s.begin t).admits q c k → k.rights.testBit 2 = true → q.string ≤ 127 → q.branch = 255 →
    (q.string ∈ s.plantStrings → Answers cmd s fun s' => s'.ma.exRequests = s.ma.exRequests ++ [(c, q.session, q.string, inc)] ∧ s'.ma.excluded = s.ma.excluded) ∧
    (q.string ∉ s.plantStrings → Answers cmd s fun s' => s'.ma.exRequests = s.ma.exRequests ∧ (s'.client c).stored = s.responseTo_ stRefused 12 0 s.ma.horizon 0)) ∧
  (∀ t i s, s.opOf i = none → Idles (.operationFrameRepeat t i) s ∧ Idles (.operationTimeout t i) s) ∧
  (∀ t i o s, s.opOf i = some o → s.isMaster = true → o.sentAt + ms 20 ≤ max s.now t → Answers (.operationFrameRepeat t i) s fun s' => (∃ e, e ∈ s'.out ∧ e.kind = .operation) ∧
    s'.ma.ops = s.ma.ops.map fun x => if x.ident = i then { x with sentAt := max s.now t } else x) ∧
  (∀ t i o s, s.opOf i = some o → s.isMaster = true → o.receivedAt + ms 450 ≤ max s.now t → Answers (.operationTimeout t i) s fun s' => s'.ma.ops = s.ma.ops.filter (fun x => !decide (x.ident = i)) ∧
    ((s.client o.client).session = o.session → (s'.client o.client).stored = s.responseTo_ stTimeout 0 0 s.ma.horizon 0)) ∧
  (∀ t h i st r w s, s.netOn = false → Idles (.operationResultReceived t h i st r w) s) ∧
  (∀ t h i st r w s, s.netOn = true → (hdrGood h = false ∨ 8 < st) → Does (.operationResultReceived t h i st r w) s { s with di := { s.di with badFrames := wrapInc s.di.badFrames } }) ∧
  (∀ t h i st r w s, s.netOn = true → hdrGood h = true → st ≤ 8 → s.opOf i = none → Answers (.operationResultReceived t h i st r w) s fun s' => s'.ma.ops = s.ma.ops ∧ s'.ma.clients = s.ma.clients) ∧
  (∀ t h i st r w o s, s.netOn = true → hdrGood h = true → st ≤ 8 → s.opOf i = some o → s.isMaster = true → s.ma.epoch ≤ h.epoch → o.string = h.sender → w < two32 → Answers (.operationResultReceived t h i st r w) s fun s' =>
    s'.ma.ops = s.ma.ops.filter (fun x => !decide (x.ident = i)) ∧ ((s.client o.client).session = o.session → (s'.client o.client).stored = s.responseTo_ st r 0 s.ma.horizon 0)) ∧
  (∀ t h i st r w o s, s.netOn = true → hdrGood h = true → st ≤ 8 → s.opOf i = some o → h.epoch < s.ma.epoch → Answers (.operationResultReceived t h i st r w) s fun s' => s'.ma.ops = s.ma.ops ∧ s'.ma.clients = s.ma.clients)

/-- A candidate that has heard no better claim claims the master role after the timeout and its rank's stagger, with epoch 1 plus the highest seen, repeats every 2 ms, and becomes plant master when the claim window ends, with the sum of the applied set-points as target and no session (15 R403, R404). A better
claim makes it abandon its own and take that claim's send time as L0; a higher epoch takes the role from a plant master (15 R403, R404). A master handover names a candidate and waits until no operation is in flight, for at most 500 ms; the target takes role and set-point at the handover cycle, from which the
old plant master holds no role (15 R405). That the final answer is DONE when the handover frame is sent is the model's reading. -/
def Obligations.MasterElection : Prop :=
  (∀ t s, s.isCandidate = false ∨ s.ma.candidate = false ∨ s.ma.holds = true ∨ s.ma.claiming = true ∨ max s.now t < s.ma.l0 + ms (s.cfg.elect.timeout + s.masterRank.getD 0 * s.cfg.elect.stagger) → Idles (.claimSend t) s) ∧
  (∀ t s, s.isCandidate = true → s.ma.candidate = true → s.ma.holds = false → s.ma.claiming = false → s.ma.l0 + ms (s.cfg.elect.timeout + s.masterRank.getD 0 * s.cfg.elect.stagger) ≤ max s.now t → Answers (.claimSend t) s fun s' =>
    s'.ma.claiming = true ∧ s'.ma.claimEpoch = wrapInc s.seenEpoch ∧ s'.ma.claimAt = max s.now t ∧ s'.ma.claimSent = max s.now t ∧ s'.ma.holds = false ∧ ∃ e, e ∈ s'.out ∧ e.kind = .claim) ∧
  (∀ t s, s.ma.claiming = false ∨ s.isCandidate = false ∨ max s.now t < s.ma.claimSent + ms 2 → Idles (.claimRepeat t) s) ∧
  (∀ t s, s.ma.claiming = true → s.isCandidate = true → s.ma.claimSent + ms 2 ≤ max s.now t → Answers (.claimRepeat t) s fun s' => s'.ma.claimSent = max s.now t ∧ s'.ma.claimEpoch = s.ma.claimEpoch ∧ s'.ma.claimAt = s.ma.claimAt ∧ ∃ e, e ∈ s'.out ∧ e.kind = .claim) ∧
  (∀ t h e r a s, s.netOn = false → Idles (.claimReceived t h e r a) s) ∧
  (∀ t h e r a s, s.netOn = true → hdrGood h = false → Does (.claimReceived t h e r a) s { s with di := { s.di with badFrames := wrapInc s.di.badFrames } }) ∧
  (∀ t h e r a s, s.netOn = true → hdrGood h = true → (h.sender = s.cfg.string.index ∨ a = true) → Answers (.claimReceived t h e r a) s fun s' => s'.ma.holds = s.ma.holds ∧ s'.ma.ops = s.ma.ops ∧ s'.ma.epoch = s.ma.epoch) ∧
  (∀ t h e r s, s.netOn = true → hdrGood h = true → h.sender ≠ s.cfg.string.index → s.isMaster = true → s.ma.epoch < e → Answers (.claimReceived t h e r false) s fun s' => s'.ma.holds = false ∧ s'.ma.ops = [] ∧ s'.ma.spRequests = [] ∧ s'.ma.draining = none ∧ s'.ma.handover = none) ∧
  (∀ t h e r s, s.netOn = true → hdrGood h = true → h.sender ≠ s.cfg.string.index → s.ma.holds = false → s.isCandidate = true → s.ma.candidate = true → s.ma.claiming = true → (s.ma.claimEpoch < e ∨ s.ma.claimEpoch = e ∧ r < s.masterRank.getD 256) →
    Answers (.claimReceived t h e r false) s fun s' => s'.ma.claiming = false ∧ s'.ma.l0 = (s.begin t).localOf h.sent.ns ∧ ∃ e, e ∈ s'.out ∧ e.kind = .claim) ∧
  (∀ t h e r s, s.netOn = true → hdrGood h = true → s.ma.holds = false → s.isCandidate = true → s.ma.candidate = true → s.ma.claiming = true → (e < s.ma.claimEpoch ∨ s.ma.claimEpoch = e ∧ s.masterRank.getD 256 ≤ r) →
    Answers (.claimReceived t h e r false) s fun s' => s'.ma.claiming = true ∧ s'.ma.l0 = s.ma.l0 ∧ s'.ma.claimEpoch = s.ma.claimEpoch) ∧
  (∀ t s, s.ma.claiming = false ∨ s.isCandidate = false ∨ max s.now t < s.ma.claimAt + ms s.cfg.elect.claim → Idles (.claimWindowExpiry t) s) ∧
  (∀ t s, s.ma.claiming = true → s.isCandidate = true → s.ma.claimAt + ms s.cfg.elect.claim ≤ max s.now t → Answers (.claimWindowExpiry t) s fun s' => let sum := sumI (s.ma.stats.entries.map fun e => e.2.applied)
    s'.ma.holds = true ∧ s'.ma.epoch = s.ma.claimEpoch ∧ s'.ma.target = sum ∧ s'.ma.inForce = (sum : Rat) ∧ s'.ma.horizon = s.cfg.alloc.horizon ∧ s'.ma.lifeUntil = none ∧ s'.ma.clients = {} ∧ s'.ma.ops = [] ∧ s'.ma.claiming = false) ∧
  (∀ t m i s, s.takes m → s.leads = false → Answers (.masterHandOver t m i) s fun s' => (s'.tele m.key).client.stored = cmdReply 0x0B01 stRefused 1 [] ∧ s'.ma.draining = s.ma.draining) ∧
  (∀ t m i s, s.takes m → s.leads = true → 127 < i → Answers (.masterHandOver t m i) s fun s' => (s'.tele m.key).client.stored = cmdReply 0x0B01 stInvalid 0 [] ∧ s'.ma.draining = s.ma.draining) ∧
  (∀ t m i s, s.takes m → s.leads = true → i ≤ 127 → (s.isMaster = false ∨ s.candidateString i = false ∨ s.handingOver = true) → Answers (.masterHandOver t m i) s fun s' => (s'.tele m.key).client.stored = cmdReply 0x0B01 stRefused 13 [] ∧ s'.ma.draining = s.ma.draining) ∧
  (∀ t m i s, s.takes m → s.isMaster = true → i ≤ 127 → s.candidateString i = true → s.handingOver = false → Answers (.masterHandOver t m i) s fun s' => (s'.tele m.key).inFlight = some (0x0B01, m.seq) ∧ s'.ma.draining = some (i, max s.now t) ∧ s'.ma.holds = true) ∧
  (∀ t s, s.ma.draining = none ∨ s.isMaster = false → Idles (.masterHandoverDrained t) s) ∧
  (∀ t i d s, s.ma.draining = some (i, d) → s.isMaster = true → s.ma.ops = [] → Answers (.masterHandoverDrained t) s fun s' => s'.ma.draining = none ∧ s'.ma.handover = some (i, (2 * ((s.begin t).nextCycle + 10)) % two32) ∧ ∃ e, e ∈ s'.out ∧ e.kind = .masterHandover) ∧
  (∀ t i d s, s.ma.draining = some (i, d) → s.isMaster = true → s.ma.ops ≠ [] → d + ms 500 ≤ max s.now t → Answers (.masterHandoverDrained t) s fun s' => s'.ma.draining = none ∧ s'.ma.handover = s.ma.handover ∧ s'.ma.ops = s.ma.ops ∧ s'.freeIdx = s.freeIdx + 1) ∧
  (∀ t i d s, s.ma.draining = some (i, d) → s.ma.ops ≠ [] → max s.now t < d + ms 500 → Idles (.masterHandoverDrained t) s) ∧
  (∀ t h i f s, s.netOn = false → Idles (.masterHandoverFrameReceived t h i f) s) ∧
  (∀ t h i f s, s.netOn = true → (hdrGood h = false ∨ 127 < i ∨ 4 < f.horizon ∨ f.cycle % 2 = 1) → Does (.masterHandoverFrameReceived t h i f) s { s with di := { s.di with badFrames := wrapInc s.di.badFrames } }) ∧
  (∀ t h i f s, s.netOn = true → hdrGood h = true → i ≤ 127 → f.horizon ≤ 4 → f.cycle % 2 = 0 → (h.sender = s.cfg.string.index ∨ h.epoch < s.seenEpoch) → Answers (.masterHandoverFrameReceived t h i f) s fun s' => s'.ma.incoming = s.ma.incoming ∧ s'.ma.holds = s.ma.holds) ∧
  (∀ t h i f s, s.netOn = true → hdrGood h = true → i ≤ 127 → f.horizon ≤ 4 → f.cycle % 2 = 0 → h.sender ≠ s.cfg.string.index → s.seenEpoch ≤ h.epoch → Answers (.masterHandoverFrameReceived t h i f) s fun s' => s'.ma.incoming = (if i = s.cfg.string.index ∧ s.isCandidate = true then some f else s.ma.incoming) ∧
    (s.isMaster = true → s.ma.epoch < f.epoch → s'.ma.holds = false)) ∧
  (∀ t s, s.ma.incoming = none → s.ma.handover = none → Idles (.masterHandoverCycle t) s) ∧
  (∀ t s, s.ma.incoming = none → s.ma.holds = true → (s.begin t).handedBy (s.begin t).thisCycle = true → Answers (.masterHandoverCycle t) s fun s' => s'.ma.holds = false ∧ s'.ma.handover = none ∧ s'.ma.clients = {} ∧ s'.ma.target = s.ma.target ∧ s'.out.all (fun e => !decide (e.kind = .multicast)) = true) ∧
  (∀ t f s, s.ma.incoming = some f → s.isCandidate = true → notBefore ((2 * (s.begin t).thisCycle) % two32) f.cycle = true → Answers (.masterHandoverCycle t) s fun s' => s'.ma.holds = true ∧ s'.ma.epoch = f.epoch ∧ s'.ma.target = f.target ∧ s'.ma.ramp = f.ramp ∧
    s'.ma.horizon = f.horizon ∧ s'.ma.excluded = f.excluded ∧ s'.ma.incoming = none ∧ s'.ma.sent = some (s.begin t).thisCycle ∧ ∃ e, e ∈ s'.out ∧ e.kind = .multicast)

/-- The module that commands the converter sends one command frame in each converter cycle; its stop-request octet is the island's field, and outside Run it carries no valid set-point (16 R410 to R412, R420). A late or malformed status frame is counted and not used; one of the present cycle brings the converter's state and ends the
missed count (16 R416). A cycle without one is missed: after 3 the converter counts as not ready, not running and not accepting tones, after 10 the link is lost (16 R419). Carrier-sync pulses leave at the carrier reference instants while the carrier phase is valid and the converter's carrier known (16 R414). -/
def Obligations.ConverterLink : Prop :=
  (∀ t s, s.commands = false ∨ s.rt.cycle = (s.begin t).converterCycle → Idles (.commandFrameTransmit t) s) ∧
  (∀ t s, s.commands = true → s.rt.cycle ≠ (s.begin t).converterCycle → Answers (.commandFrameTransmit t) s fun s' => s'.rt.cycle = (s.begin t).converterCycle ∧ s'.rt.answered = false ∧ s'.rt.judged = false ∧ s'.rt.limitSweep = s.lim.hard.sweep ∧
    s'.rt.frame.getD 2 0 = (if s.rt.islandStop then 0xA5 else 0) ∧ { kind := .rantusCommand, port := 0, bytes := s'.rt.frame } ∈ s'.out ∧ s'.rt.conv = s.rt.conv ∧ s'.rt.missed = s.rt.missed ∧
    (s.pw.state ≠ .run → s'.di.applied = 0 ∧ s'.rt.setValid = false ∧ s'.rt.setA = 0) ∧
    (s.di.taken = false → s.di.applyFrom ≤ max s.now t → s'.di.taken = true ∧ s'.di.cycle = s.di.nextCycle)) ∧
  (∀ t f s, s.pw.state ≠ .run → s.pw.state ≠ .watch → s.pw.state ≠ .flushing → s.pw.state ≠ .enteringHib → Idles (.statusFrameReceived t f) s) ∧
  (∀ t f s, (s.pw.state = .run ∨ s.pw.state = .watch ∨ s.pw.state = .flushing ∨ s.pw.state = .enteringHib) → 60000 < (s.begin t).sinceEpoch % 100000 → Does (.statusFrameReceived t f) s { s with rt := { s.rt with lateFrames := wrapInc s.rt.lateFrames } }) ∧
  (∀ t f s, (s.pw.state = .run ∨ s.pw.state = .watch ∨ s.pw.state = .flushing ∨ s.pw.state = .enteringHib) → (s.begin t).sinceEpoch % 100000 ≤ 60000 → (f.ok = false ∨ f.string ≠ s.cfg.string.index ∨ f.echoSweep ≠ (s.begin t).converterCycle / 10 % two32 ∨
    f.echoCycle ≠ (s.begin t).converterCycle % 10) → Does (.statusFrameReceived t f) s { s with rt := { s.rt with badFrames := wrapInc s.rt.badFrames } }) ∧
  (∀ t f s, (s.pw.state = .run ∨ s.pw.state = .watch ∨ s.pw.state = .flushing ∨ s.pw.state = .enteringHib) → (s.begin t).sinceEpoch % 100000 ≤ 60000 → f.ok = true → f.string = s.cfg.string.index → f.echoSweep = (s.begin t).converterCycle / 10 % two32 →
    f.echoCycle = (s.begin t).converterCycle % 10 → Answers (.statusFrameReceived t f) s fun s' => s'.rt.conv = f.conv ∧ s'.rt.answered = true ∧ s'.rt.missed = 0 ∧ s'.rt.linkLost = false ∧ s'.rt.used = (if s.rt.answered then s.rt.used else s.rt.used + 1) ∧
      s'.rt.badFrames = s.rt.badFrames ∧ s'.rt.lateFrames = s.rt.lateFrames ∧ s'.rt.frame = s.rt.frame) ∧
  (∀ t s, s.commands = false ∨ s.rt.answered = true ∨ s.rt.judged = true ∨ s.rt.cycle ≠ (s.begin t).converterCycle ∨ (s.begin t).sinceEpoch % 100000 < 60000 → Idles (.statusDeadlineMissed t) s) ∧
  (∀ t s, s.commands = true → s.rt.answered = false → s.rt.judged = false → s.rt.cycle = (s.begin t).converterCycle → 60000 ≤ (s.begin t).sinceEpoch % 100000 → Answers (.statusDeadlineMissed t) s fun s' => s'.rt.missed = s.rt.missed + 1 ∧ s'.rt.used = 0 ∧ s'.rt.judged = true ∧
    s'.rt.linkLost = (s.rt.linkLost || decide (9 ≤ s.rt.missed)) ∧ (s.rt.missed < 2 → s'.rt.conv = s.rt.conv) ∧ (2 ≤ s.rt.missed → s'.rt.conv = { s.rt.conv with ready := false, running := false, accepting := false })) ∧
  (∀ t s, s.commands = false ∨ s.di.phaseValid = false ∨ s.rt.conv.carrier = 0 ∨ (s.begin t).syncInstant = false → Idles (.carrierSyncPulse t) s) ∧
  (∀ t s, s.commands = true → s.di.phaseValid = true → 0 < s.rt.conv.carrier → (s.begin t).syncInstant = true → Does (.carrierSyncPulse t) s { s with rt := { s.rt with pulses := wrapInc s.rt.pulses } } ∧
    Sends (.carrierSyncPulse t) s { kind := .carrierSync, port := 0, bytes := octetsOf 2 s.di.phase ++ octetsOf 4 s.rt.conv.carrier })

/-- A plant port that loses its link is down; with both down the plant network is lost, until one is up (17 R423). Supervision frames leave with a rising sequence (17 R422). Echo requests are answered within 10 per second, address resolution for an own address always, and a frame outside the accepted set changes a
counter alone (17 R423 to R425). -/
def Obligations.PlantPorts : Prop :=
  (∀ t (p : Fin 3) s, s.portUp (p.val + 1) = false → Answers (.plantPortDown t p) s fun s' => s'.portUp (p.val + 1) = false ∧ s'.nt.netLost = s.nt.netLost) ∧
  (∀ t (p : Fin 3) s, s.portUp (p.val + 1) = true → Answers (.plantPortDown t p) s fun s' => s'.portUp (p.val + 1) = false ∧ (∀ q, q ≠ p.val + 1 → s'.portUp q = s.portUp q) ∧
    s'.nt.netLost = (s.nt.netLost || (decide (p.val < 2) && !s.portUp (2 - p.val)))) ∧
  (∀ t (p : Fin 3) s, Answers (.plantPortUp t p) s fun s' => s'.portUp (p.val + 1) = true ∧ (∀ q, q ≠ p.val + 1 → s'.portUp q = s.portUp q) ∧ s'.nt.netLost = (s.nt.netLost && decide (p.val = 2)) ∧ { s'.bare with nt := {} } = { s.bare with nt := {} }) ∧
  (∀ t s, s.netOn = false → Idles (.prpSupervisionTransmit t) s) ∧
  (∀ t s, s.netOn = true → (s.begin t).turnOpen 0x19 (ms s.cfg.plant.prpMs) 0 = true → Does (.prpSupervisionTransmit t) s { s with nt := { s.nt with prpSeq := (s.nt.prpSeq + 1) % 65536 } } ∧ Sends (.prpSupervisionTransmit t) s { kind := .prpSupervision, port := 0, bytes := octetsOf 2 s.nt.prpSeq }) ∧
  (∀ t (p : Fin 3) o i s, s.netOn = false → Idles (.icmpEchoRequest t p o i) s ∧ Idles (.addressResolutionRequest t p o) s) ∧
  (∀ t (p : Fin 3) i s, s.netOn = true → Idles (.icmpEchoRequest t p false i) s ∧ Answers (.icmpEchoRequest t p false i) s (fun s' => (s'.nt.ports.get (p.val + 1) {}).discarded = wrapInc (s.nt.ports.get (p.val + 1) {}).discarded ∧
    ∀ e, e ∈ s'.out → e.kind ≠ .icmpReply)) ∧
  (∀ t (p : Fin 3) i s, s.netOn = true → bucketNow 10 10 s.nt.echoTokens s.nt.echoAt (max s.now t) < 1 → Does (.icmpEchoRequest t p true i) s { s with nt := { s.nt with echoDropped := wrapInc s.nt.echoDropped } }) ∧
  (∀ t (p : Fin 3) i s, s.netOn = true → 1 ≤ bucketNow 10 10 s.nt.echoTokens s.nt.echoAt (max s.now t) → Sends (.icmpEchoRequest t p true i) s { kind := .icmpReply, port := p.val + 1, bytes := octetsOf 4 i } ∧
    Does (.icmpEchoRequest t p true i) s { s with nt := { s.nt with echoTokens := bucketNow 10 10 s.nt.echoTokens s.nt.echoAt (max s.now t) - 1, echoAt := some (max s.now t) } }) ∧
  (∀ t (p : Fin 3) s, s.netOn = true → Idles (.addressResolutionRequest t p false) s ∧ Idles (.addressResolutionRequest t p true) s ∧ Sends (.addressResolutionRequest t p true) s { kind := .addressReply, port := p.val + 1, bytes := [] }) ∧
  (∀ t (p : Fin 3) (w : Fin 4) s, Idles (.unacceptedFrameDiscard t p w) s) ∧
  (∀ t (p : Fin 3) (w : Fin 4) s, s.netOn = true → Answers (.unacceptedFrameDiscard t p w) s fun s' => let x := s.nt.ports.get (p.val + 1) {}
    let y := s'.nt.ports.get (p.val + 1) {}
    y.received = wrapInc x.received ∧ y.discarded = (if w.val = 0 then wrapInc x.discarded else x.discarded) ∧ y.duplicates = (if w.val = 1 then wrapInc x.duplicates else x.duplicates) ∧
    y.wrongLan = (if w.val = 2 then wrapInc x.wrongLan else x.wrongLan) ∧ y.errored = (if w.val = 3 then wrapInc x.errored else x.errored) ∧ y.up = x.up)

/-- An interface reset opens the next session and ends the client's previous one with its subscriptions and its update session (17 R429). A subscription is replaced whole or refused at its first bad selector with reason 1 plus the index (17 R431). A read of an object answers the latest publication within the request
bucket, and changes nothing else (17 R430). A publication, change-driven or once in its period, goes to a session in one data frame when its octet bucket allows, else it is dropped and the shed factor grows; after 10 s without a drop it falls again at or below 45 % of the rate (17 R432 to R434). A reserved command code is INVALID, and the confirmation
of a replacement admits a pending node (17 R435, R436). -/
def Obligations.TelemetrySessions : Prop :=
  (∀ t m k s, s.reach m.key 1 = false → Idles (.telemetryInterfaceReset t m k) s) ∧
  (∀ t m s, s.reach m.key 1 = true → Does (.telemetryInterfaceReset t m false) s { s with nt := { s.nt with teleBad := wrapInc s.nt.teleBad } }) ∧
  (∀ t m c s, s.reach m.key 1 = true → s.teleCfg m.key = some c → Answers (.telemetryInterfaceReset t m true) s fun s' => let x := s'.tele m.key
    x.client.session = s.nt.nextSession ∧ x.client.lastSeq = 0 ∧ x.selectors = [] ∧ x.shed = 0 ∧ x.inFlight = none ∧ s'.nt.nextSession = max 1 (wrapInc s.nt.nextSession) ∧
    (∃ e, e ∈ s'.out ∧ e.kind = .teleReady ∧ e.port = m.key) ∧ s'.up.session = (if s.up.server = m.key then 0 else s.up.session) ∧ ∀ k, k ≠ m.key → s'.tele k = s.tele k) ∧
  (∀ t m sels d r c s, s.sessionTakes m 2 c → c.rights.testBit 0 = true → (∀ x, x ∈ sels → s.selectorOk x = true) → sels.length ≤ 64 → Answers (.subscribe t m true d sels r) s fun s' =>
    (s'.tele m.key).selectors = sels ∧ (s'.tele m.key).port = d ∧ (s'.tele m.key).client.stored = [stDone, 0, 0, 0] ∧ (s'.tele m.key).client.lastSeq = m.seq) ∧
  (∀ t m sels d r c i s, s.sessionTakes m 2 c → c.rights.testBit 0 = true → (sels.findIdx? fun x => !s.selectorOk x) = some i → Answers (.subscribe t m true d sels r) s fun s' =>
    (s'.tele m.key).selectors = (s.tele m.key).selectors ∧ (s'.tele m.key).client.stored = [stInvalid, 1 + i, 0, 0]) ∧
  (∀ t m sels d r c s, s.sessionTakes m 2 c → c.rights.testBit 0 = true → (∀ x, x ∈ sels → s.selectorOk x = true) → 64 < sels.length → Answers (.subscribe t m true d sels r) s fun s' =>
    (s'.tele m.key).selectors = (s.tele m.key).selectors ∧ (s'.tele m.key).client.stored = [stInvalid, 0, 0, 0]) ∧
  (∀ t m sels d r c s, s.sessionTakes m 2 c → c.rights.testBit 0 = false → Answers (.subscribe t m true d sels r) s fun s' => (s'.tele m.key).selectors = (s.tele m.key).selectors ∧ (s'.tele m.key).client.stored = [stNotAllowed, 0, 0, 0]) ∧
  (∀ t m k sels d r s, (s.reach m.key 2 = false ∨ m.session = 0 ∨ (s.tele m.key).client.session ≠ m.session ∨ m.seq ≤ (s.tele m.key).client.lastSeq) → Answers (.subscribe t m k d sels r) s fun s' => (s'.tele m.key).selectors = (s.tele m.key).selectors) ∧
  (∀ t m k ids s, Answers (.read t m k ids) s fun s' => { s'.bare with nt := {} } = { s.bare with nt := {} }) ∧
  (∀ t m k ids s, s.reach m.key 0 = false → Idles (.read t m k ids) s) ∧
  (∀ t m k ids s, s.reach m.key 0 = true → (k = false ∨ ids = [] ∨ 8 < ids.length) → Does (.read t m k ids) s { s with nt := { s.nt with teleBad := wrapInc s.nt.teleBad } }) ∧
  (∀ t m i c s, s.reach m.key 0 = true → m.key ≠ 8 → s.teleCfg m.key = some c → 1 ≤ bucketNow c.reqRate c.reqRate (s.tele m.key).client.tokens (s.tele m.key).client.filledAt (max s.now t) →
    Sends (.read t m true [i]) s { kind := .teleReply, port := m.key, bytes := (s.begin t).frame protoTele 7 0 0 m.seq (readEntries 1416 [(i, s.readObject i)]) }) ∧
  (∀ t m i c s, s.reach m.key 0 = true → m.key ≠ 8 → s.teleCfg m.key = some c → bucketNow c.reqRate c.reqRate (s.tele m.key).client.tokens (s.tele m.key).client.filledAt (max s.now t) < 1 →
    Answers (.read t m true [i]) s fun s' => (s'.tele m.key).client.dropped = wrapInc (s.tele m.key).client.dropped ∧ ∀ e, e ∈ s'.out → e.kind ≠ .teleReply) ∧
  (∀ t m i c s, s.reach m.key 0 = true → m.key = 8 → s.teleCfg m.key = some c → (udp (readEntries 1416 [(i, s.readObject i)]).length : Rat) ≤ bucketNow c.rate c.depth (s.tele 8).octets (s.tele 8).octetsAt (max s.now t) →
    Sends (.read t m true [i]) s { kind := .teleReply, port := 8, bytes := (s.begin t).frame protoTele 7 0 0 m.seq (readEntries 1416 [(i, s.readObject i)]) }) ∧
  (∀ t (k : Fin 9) o a b n c s, (s.object o = none ∨ c = false ∧ (s.begin t).sweepAbs ≠ n ∨ (s.tele k.val).client.session = 0 ∨ (s.tele k.val).selectors = []) → Idles (.dataPublication t k o a b n c) s) ∧
  (∀ t (k : Fin 9) o i n ch c p top s, s.pw.state ≠ .flushing → s.object o = some (p, top) → (ch = true ∨ p ≠ 0 ∧ top = 0 ∧ i = 0 ∧ (s.begin t).sweepAbs = n ∧ (s.begin t).turnOpen ((k.val + 2) * 0x1000000 + o / 4096) (ms p) 0 = true) → s.teleCfg k.val = some c → (s.tele k.val).client.session ≠ 0 →
    ((s.tele k.val).selectors.any fun y => y.takes o i (if ch then 0 else n / p) (s.tele k.val).shed ch) = true → s.nt.store.get (o + i) [] ≠ [] →
    let size := udp (8 + (6 + (s.nt.store.get (o + i) []).length))
    let b := bucketNow c.rate c.depth (s.tele k.val).octets (s.tele k.val).octetsAt (max s.now t)
    ((size : Rat) ≤ b → Answers (.dataPublication t k o i i n ch) s fun s' => (∃ e, e ∈ s'.out ∧ e.kind = .teleData ∧ e.port = k.val) ∧ (s'.tele k.val).octets = b - size ∧ (s'.tele k.val).shed = (s.tele k.val).shed ∧
      (s'.tele k.val).dropped = 0 ∧ (s'.tele k.val).sent10 = (s.tele k.val).sent10 + size) ∧
    (b < (size : Rat) → Answers (.dataPublication t k o i i n ch) s fun s' => (s'.tele k.val).dropped = wrapInc (s.tele k.val).dropped ∧ (s'.tele k.val).shed = min 7 ((s.tele k.val).shed + 1) ∧ (s'.tele k.val).lastDrop = max s.now t)) ∧
  (∀ t (k : Fin 9) s, (s.tele k.val).shed = 0 ∨ max s.now t < (s.tele k.val).lastDrop + sec 10 → Idles (.shedFactorRelax t k) s) ∧
  (∀ t (k : Fin 9) c s, 0 < (s.tele k.val).shed → (s.tele k.val).lastDrop + sec 10 ≤ max s.now t → s.teleCfg k.val = some c → Answers (.shedFactorRelax t k) s fun s' =>
    (s'.tele k.val).shed = (if (s.tele k.val).sent10 * 100 ≤ 45 * c.rate * 10 then (s.tele k.val).shed - 1 else (s.tele k.val).shed) ∧ (s'.tele k.val).lastDrop = max s.now t ∧ (s'.tele k.val).sent10 = 0) ∧
  (∀ t m c s, c ∈ commandCodes → Idles (.unknownCommand t m c) s) ∧
  (∀ t m c s, c ∉ commandCodes → s.takes m → Answers (.unknownCommand t m c) s fun s' => (s'.tele m.key).client.stored = cmdReply c stInvalid 0 [] ∧ { s'.bare with nt := {} } = { s.bare with nt := {} }) ∧
  (∀ t m n s, s.takes m → (s.leads = false ∨ 127 < n ∨ (s.node n).adm ≠ .pending) → Answers (.confirmReplacement t m n) s fun s' => (s'.node n).adm = (s.node n).adm ∧
    (s'.tele m.key).client.stored = (if s.leads = false then cmdReply 0x0501 stRefused 1 [] else if 127 < n then cmdReply 0x0501 stInvalid 0 [] else cmdReply 0x0501 stRefused 13 [])) ∧
  (∀ t m n s, s.takes m → s.leads = true → n ≤ 127 → (s.node n).adm = .pending → Answers (.confirmReplacement t m n) s fun s' => (s'.node n).adm = .admitted ∧ (s'.node n).replacement = false ∧
    (s'.tele m.key).client.stored = cmdReply 0x0501 stDone 0 [] ∧ ∀ k, k ≠ n → s'.node k = s.node k)

/-- A dataset is repeated at its interval, doubled up to the configured maximum, with the next sqNum (17 R440). A frame whose identity, configuration revision, member count and stNum agree gives its member's value, to a trip condition or to the coupling order (17 R441, R442; 11 R306); any other is counted as
rejected. A subscription whose time to live has run out is silent, and leaves a trip condition as it was (17 R441, R442). -/
def Obligations.Goose : Prop :=
  (∀ t (d : Fin 3) s, s.gooseOn = false ∨ (s.nt.pubs.get d.val {}).nextAt = none → Idles (.gooseRepetition t d) s) ∧
  (∀ t (d : Fin 3) a s, s.gooseOn = true → (s.nt.pubs.get d.val {}).nextAt = some a → a ≤ max s.now t → let g := s.nt.pubs.get d.val {}
    let w := min (max 2 (s.gooseCfg d.val).maxMs) (2 * g.interval)
    Sends (.gooseRepetition t d) s { kind := .goose, port := d.val, bytes := s.gooseFrame d.val { g with sqNum := max 1 (wrapInc g.sqNum), interval := w, nextAt := some (max s.now t + ms w) } }) ∧
  (∀ t f s, s.netOn = false → Idles (.gooseFrameReceived t f) s) ∧
  (∀ t f s, s.netOn = true → (∀ k, k ∈ s.cfg.gooseSubs → k.appid ≠ f.appid) → Idles (.gooseFrameReceived t f) s ∧ Answers (.gooseFrameReceived t f) s (fun s' => (s'.nt.ports.get f.port {}).discarded = wrapInc (s.nt.ports.get f.port {}).discarded)) ∧
  (∀ t f k i v s, s.netOn = true → (s.cfg.gooseSubs.zipIdx.filter fun e => decide (e.1.appid = f.appid)) = [(k, i)] → k.cbRef = f.cbRef → k.datSet = f.datSet → k.confRev = f.confRev → f.members.length = (if k.coupling then 8 else f.count) →
    1 ≤ k.member → f.flags = false → (f.members[k.member - 1]?).join = some v → ((s.nt.subs.get i {}).stNum = none ∨ ∃ n, (s.nt.subs.get i {}).stNum = some n ∧ notBefore f.stNum n = true) →
    Answers (.gooseFrameReceived t f) s fun s' => s'.nt.subs.get i {} = { s.nt.subs.get i {} with stNum := some f.stNum, until_ := some (max s.now t + ms f.ttl), silent := false, value := v } ∧
      (k.coupling = false → (i ∈ s'.pr.gooseTrip ↔ v = true) ∧ ∀ j, j ≠ i → (j ∈ s'.pr.gooseTrip ↔ j ∈ s.pr.gooseTrip)) ∧ (k.coupling = true → s'.pr.gooseTrip = s.pr.gooseTrip ∧
        (v = true → s.cfg.ins.mode = 1 → k.string ∈ s.earlierStrings → (s'.coil 12).phase = .off ∧ s'.pr.coupledSeen.get k.string 0 = max s.now t))) ∧
  (∀ t f k i s, s.netOn = true → (s.cfg.gooseSubs.zipIdx.filter fun e => decide (e.1.appid = f.appid)) = [(k, i)] → (k.cbRef ≠ f.cbRef ∨ k.datSet ≠ f.datSet ∨ k.confRev ≠ f.confRev ∨ f.flags = true ∨ k.member = 0 ∨ (f.members[k.member - 1]?).join = none ∨
    ∃ n, (s.nt.subs.get i {}).stNum = some n ∧ notBefore f.stNum n = false) →
    Does (.gooseFrameReceived t f) s { s with nt := { s.nt with subs := s.nt.subs.put i {} { s.nt.subs.get i {} with rejected := wrapInc (s.nt.subs.get i {}).rejected } } }) ∧
  (∀ t (i : Fin 16) s, s.netOn = false ∨ s.cfg.gooseSubs[i.val]? = none ∨ (s.nt.subs.get i.val {}).silent = true → Idles (.gooseSubscriptionSilent t i) s) ∧
  (∀ t (i : Fin 16) k s, s.netOn = true → s.cfg.gooseSubs[i.val]? = some k → (s.nt.subs.get i.val {}).silent = false → ((s.nt.subs.get i.val {}).stNum = none ∨ ∃ d, (s.nt.subs.get i.val {}).until_ = some d ∧ d ≤ max s.now t) →
    Answers (.gooseSubscriptionSilent t i) s fun s' => s'.nt.subs.get i.val {} = { s.nt.subs.get i.val {} with silent := true, until_ := none } ∧ s'.pr.gooseTrip = s.pr.gooseTrip ∧
      (k.coupling = true → s.cfg.ins.mode = 1 → k.string ∈ s.earlierStrings → k.string ∉ s.pr.couple.keys → s'.pr.couple.get k.string 0 = max s.now t) ∧ ∀ c, s'.coil c = s.coil c)

/-- An offer from a source that may update opens a session, at the checkpoint of the same header or at 0, unless a session stands (BUSY 6), the service switch gives X13 precedence (BUSY 9), a trial or probation runs (BUSY 8), an image of its type is staged (BUSY 7) or its header fails a stage (REFUSED 20 plus the stage) (21 R507,
R508, R511, R512). Every frame takes its octets from its source's bucket, or is BUSY 2. Data are taken at the next offset, with a checkpoint each 64 KiB and at the end (21 R510, R513). A complete payload may be verified; when the verification ends, the session ends, with the image staged or with the failed stage kept (21 R514). A session falls silent after 60 s (21 R507). -/
def Obligations.UpdateSession : Prop :=
  (∀ t m h c s, s.sessionTakes m 1 c → s.updateServer m = none → Answers (.updateOffer t m h) s fun s' => s'.up = s.up ∧ (s'.tele m.key).client.stored = [stNotAllowed, 0, 0, 0] ++ octetsOf 4 0) ∧
  (∀ t m h s, s.updateStarves t m 512 → Answers (.updateOffer t m h) s fun s' => s'.upKept = s.upKept ∧ (s'.tele m.key).client.stored = [stBusy, 2, 0, 0] ++ octetsOf 4 0) ∧
  (∀ t m o n s, s.updateStarves t m (8 + n) → Answers (.updateData t m o n) s fun s' => s'.upKept = s.upKept ∧ (s'.tele m.key).client.stored = [stBusy, 2, 0, 0] ++ octetsOf 4 s.up.offset ++ octetsOf 4 s.up.checkpoint) ∧
  (∀ t m s, s.updateStarves t m 0 → Answers (.updateVerify t m) s fun s' => s'.upKept = s.upKept ∧ (s'.tele m.key).client.stored = [stBusy, 2, 0, 0] ++ octetsOf 4 s.up.offset) ∧
  (∀ t m h s, s.updateTakes t m 512 → s.up.session ≠ 0 → Answers (.updateOffer t m h) s fun s' => s'.upKept = s.upKept ∧
    (s'.tele m.key).client.stored = [stBusy, 6, 0, 0] ++ octetsOf 4 0) ∧
  (∀ t m h s, s.updateTakes t m 512 → s.up.session = 0 → m.key ≠ 8 → s.pw.serviceEnable = true → Answers (.updateOffer t m h) s fun s' => s'.upKept = s.upKept ∧ (s'.tele m.key).client.stored = [stBusy, 9, 0, 0] ++ octetsOf 4 0) ∧
  (∀ t m h s, s.updateTakes t m 512 → s.up.session = 0 → (m.key = 8 ∨ s.pw.serviceEnable = false) → (s.up.trialKind ≠ 0 ∨ s.up.probation.isSome = true) →
    Answers (.updateOffer t m h) s fun s' => s'.upKept = s.upKept ∧ (s'.tele m.key).client.stored = [stBusy, 8, 0, 0] ++ octetsOf 4 0) ∧
  (∀ t m h s, s.updateTakes t m 512 → s.up.session = 0 → (m.key = 8 ∨ s.pw.serviceEnable = false) → s.up.trialKind = 0 → s.up.probation = none →
    (s.offerStage h = 1 ∨ s.offerStage h = 2 ∨ s.offerStage h ≠ 0 ∧ (if h.kind = 1 then s.up.stagedFw else s.up.stagedCfg) = none) → Answers (.updateOffer t m h) s fun s' => s'.upKept = { s.upKept with failedStage := s.offerStage h } ∧
      (s'.tele m.key).client.stored = [stRefused, 20 + s.offerStage h, 0, 0] ++ octetsOf 4 0) ∧
  (∀ t m h s, s.updateTakes t m 512 → s.up.session = 0 → (m.key = 8 ∨ s.pw.serviceEnable = false) → s.up.trialKind = 0 → s.up.probation = none → s.offerStage h ≠ 1 → s.offerStage h ≠ 2 →
    (if h.kind = 1 then s.up.stagedFw else s.up.stagedCfg).isSome = true → Answers (.updateOffer t m h) s fun s' => s'.upKept = s.upKept ∧ (s'.tele m.key).client.stored = [stBusy, 7, 0, 0] ++ octetsOf 4 0) ∧
  (∀ t m h s, s.updateTakes t m 512 → s.up.session = 0 → (m.key = 8 ∨ s.pw.serviceEnable = false) → s.up.trialKind = 0 → s.up.probation = none → s.offerStage h = 0 →
    (if h.kind = 1 then s.up.stagedFw else s.up.stagedCfg) = none → let at_ := if s.up.checkDigest = some (h.kind, h.digest) then s.up.checkpoint else 0
    Answers (.updateOffer t m h) s fun s' => s'.up.session = (if m.key = 8 then 2 else 1) ∧ s'.up.server = m.key ∧ s'.up.offer = some h ∧ s'.up.offset = at_ ∧ s'.up.verifying = false ∧ s'.up.lastFrame = max s.now t ∧
      (s'.tele m.key).client.stored = [stDone, 0, 0, 0] ++ octetsOf 4 at_) ∧
  (∀ t m o n s, s.updateTakes t m (8 + n) → (s.up.offer = none ∨ s.up.session = 0 ∨ s.up.server ≠ m.key) → Answers (.updateData t m o n) s fun s' => s'.up.offset = s.up.offset ∧ s'.up.checkpoint = s.up.checkpoint ∧
    (s'.tele m.key).client.stored = [stInvalid, 0, 0, 0] ++ octetsOf 4 s.up.offset ++ octetsOf 4 s.up.checkpoint) ∧
  (∀ t m o n h s, s.updateTakes t m (8 + n) → s.up.offer = some h → s.up.session ≠ 0 → s.up.server = m.key →
    let e := o + n
    let cp := if e = h.length then e else e / 65536 * 65536
    (o ≠ s.up.offset → Answers (.updateData t m o n) s fun s' => s'.upKept = s.upKept ∧ (s'.tele m.key).client.stored = [stDone, 0, 0, 0] ++ octetsOf 4 s.up.offset ++ octetsOf 4 s.up.checkpoint) ∧
    (o = s.up.offset → n ≤ 1024 → e ≤ h.length → Answers (.updateData t m o n) s fun s' => s'.up.offset = e ∧ s'.up.checkpoint = max s.up.checkpoint cp ∧ s'.up.lastFrame = max s.now t ∧ s'.up.session = s.up.session ∧
      (s'.tele m.key).client.stored = [stDone, 0, 0, 0] ++ octetsOf 4 e ++ octetsOf 4 (max s.up.checkpoint cp))) ∧
  (∀ t m s, s.updateTakes t m 0 → (s.up.offer = none ∨ s.up.session = 0 ∨ s.up.server ≠ m.key ∨ ∃ h, s.up.offer = some h ∧ s.up.offset ≠ h.length) → Answers (.updateVerify t m) s fun s' =>
    s'.up.verifying = s.up.verifying ∧ (s'.tele m.key).client.stored = [stInvalid, 0, 0, 0] ++ octetsOf 4 s.up.offset) ∧
  (∀ t m h s, s.updateTakes t m 0 → s.up.offer = some h → s.up.session ≠ 0 → s.up.server = m.key → s.up.offset = h.length →
    (s.up.verifying = true → Answers (.updateVerify t m) s fun s' => s'.up.reply = s.up.reply ∧ (s'.tele m.key).client.stored = [stBusy, 6, 0, 0] ++ octetsOf 4 s.up.offset) ∧
    (s.up.verifying = false → Answers (.updateVerify t m) s fun s' => s'.up.verifying = true ∧ s'.up.verifyAt = max s.now t ∧ s'.up.reply = some (m.key, m.seq) ∧ (s'.tele m.key).client.stored = [stStarted, 0, 0, 0] ++ octetsOf 4 s.up.offset)) ∧
  (∀ t g l s, (s.up.offer = none ∨ s.up.verifying = false ∨ s.pw.recovery = true) → Idles (.verificationComplete t g l) s) ∧
  (∀ t g l o s, s.up.offer = some o → s.up.verifying = true → s.pw.recovery = false → o.kind = 1 → g.header.hashOk = true → Answers (.verificationComplete t g l) s fun s' => s'.up.stagedFw = some (ImgHeader.withPayload o g.header) ∧
    s'.up.stagedSlot = some (1 - s.up.boot.committed) ∧ s'.up.stagedVersions = l ∧ s'.up.session = 0 ∧ s'.up.offer = none ∧ s'.up.verifying = false ∧ s'.up.slot (1 - s.up.boot.committed) = some (ImgHeader.withPayload o g.header)) ∧
  (∀ t g l o s, s.up.offer = some o → s.up.verifying = true → s.pw.recovery = false → o.kind = 1 → g.header.hashOk = false → Answers (.verificationComplete t g l) s fun s' => s'.up = { s.up with session := 0, offer := none, verifying := false, reply := none, lastResult := 6, failedStage := 10 }) ∧
  (∀ t g l o s, s.up.offer = some o → s.up.verifying = true → s.pw.recovery = false → o.kind ≠ 1 → let g' : Image := { header := ImgHeader.withPayload o g.header, records := g.records, cfg := g.cfg }
    (s.imageStage g' ≠ 0 → Answers (.verificationComplete t g l) s fun s' => s'.pg = s.pg ∧ s'.up = { s.up with session := 0, offer := none, verifying := false, reply := none, lastResult := 6, failedStage := s.imageStage g' }) ∧
    (s.imageStage g' = 0 → Answers (.verificationComplete t g l) s fun s' => s'.up.stagedCfg = some g'.header ∧ s'.up.session = 0 ∧ (∃ a d, s'.pg.dir = some d ∧ d.staged = some a ∧ s'.pg.area a = some g' ∧ (d.active ≠ some a)))) ∧
  (∀ t s, s.up.session = 0 ∨ max s.now t < s.up.lastFrame + sec 60 → Idles (.updateSessionTimeout t) s) ∧
  (∀ t s, s.up.session ≠ 0 → s.up.lastFrame + sec 60 ≤ max s.now t → Does (.updateSessionTimeout t) s { s with up := { s.up with session := 0, offer := none, verifying := false, reply := none } })

/-- A staged image is scheduled for an instant at least 10 s ahead with a deadline within 24 h of it (21 R517), or refused: INVALID for an instant that is no time, BUSY 8 beside another schedule or trial, REFUSED 33 for its times or staging, 31 for a protocol version the partner does not speak. A cancel removes image and schedule (21 R509). At A0 in Watch or Run with no sequence in hand a
single module enters the trial of a firmware, or makes a staged configuration area active, and asks for a cold reset with cause 7 or 8 (20 R503; 21 R518, R519); a deadline passed removes the schedule alone (21 R518). Probation ends after 600 s with the image committed (21 R520); a start that fails in time ends the trial. A follow activation waits
for a ready partner (21 R523), a key roll ends at its sweep (21 R525), and the recovery ROM stores a verified firmware and resets (21 R527). -/
def Obligations.UpdateActivation : Prop :=
  (∀ t m k a d u s, s.updateStarves t m 40 → Answers (.updateSchedule t m k a d u) s fun s' => s'.upKept = s.upKept ∧ (s'.tele m.key).client.stored = [stBusy, 2, 0, 0] ++ octetsOf 4 s.up.offset) ∧
  (∀ t m k a d u s, s.updateTakes t m 40 → (a.ok = false ∨ d.ok = false) → Answers (.updateSchedule t m k a d u) s fun s' => s'.upKept = s.upKept ∧ (s'.tele m.key).client.stored = [stInvalid, 0, 0, 0] ++ octetsOf 4 s.up.offset) ∧
  (∀ t m k a d u s, s.updateTakes t m 40 → a.ok = true → d.ok = true → (s.up.schedule.isSome = true ∨ s.up.trialKind ≠ 0 ∨ s.up.probation.isSome = true) → Answers (.updateSchedule t m k a d u) s fun s' => s'.up.schedule = s.up.schedule ∧
    (s'.tele m.key).client.stored = [stBusy, 8, 0, 0] ++ octetsOf 4 s.up.offset) ∧
  (∀ t m k a d u s, s.updateTakes t m 40 → a.ok = true → d.ok = true → s.up.schedule = none → s.up.trialKind = 0 → s.up.probation = none →
    let fits := (s.begin t).th.reading + sec 10 ≤ a.ns ∧ a.ns ≤ d.ns ∧ d.ns ≤ a.ns + sec 86400 ∧ s.stagedOk k = true
    (¬ fits → Answers (.updateSchedule t m k a d u) s fun s' => s'.up.schedule = none ∧ (s'.tele m.key).client.stored = [stRefused, 33, 0, 0] ++ octetsOf 4 s.up.offset) ∧
    (fits → s.speaksPartner k = false → Answers (.updateSchedule t m k a d u) s fun s' => s'.up.schedule = none ∧ (s'.tele m.key).client.stored = [stRefused, 31, 0, 0] ++ octetsOf 4 s.up.offset) ∧
    (fits → s.speaksPartner k = true → k = 2 → ((s.up.staged k).map fun h => h.safetyHash).getD 0 ≠ s.safetyHash → ((s.begin t).authorise 1 u (((s.up.staged k).map fun h => h.safetyHash).getD 0)).2 ≠ 0 →
      Answers (.updateSchedule t m k a d u) s fun s' => s'.up.schedule = none ∧ (s'.tele m.key).client.stored = [stRefused, 32, 0, 0] ++ octetsOf 4 s.up.offset) ∧
    (fits → s.speaksPartner k = true → (k = 1 ∨ ((s.up.staged k).map fun h => h.safetyHash).getD 0 = s.safetyHash) → Answers (.updateSchedule t m k a d u) s fun s' =>
      s'.up.schedule = some { kind := k, a0 := a.ns, deadline := d.ns, plantSource := !decide (m.key = 8) } ∧ (s'.tele m.key).client.stored = [stDone, 0, 0, 0] ++ octetsOf 4 s.up.offset)) ∧
  (∀ t m k s, s.updateTakes t m 4 → k ≠ 1 → k ≠ 2 → Answers (.updateCancel t m k) s fun s' => s'.up.schedule = s.up.schedule ∧ s'.up.session = s.up.session ∧ (s'.tele m.key).client.stored = [stInvalid, 0, 0, 0] ++ octetsOf 4 s.up.offset) ∧
  (∀ t m k s, s.updateTakes t m 4 → (k = 1 ∨ k = 2) → s.precedence (!decide (m.key = 8)) = true → Answers (.updateCancel t m k) s fun s' => s'.up.staged k = none ∧ s'.up.session = 0 ∧
    (∀ x, s'.up.schedule = some x → s.up.schedule = some x ∧ (x.kind ≠ k ∨ s.up.staged k = none))) ∧
  (∀ t i g s, s.up.schedule = none → Idles (.activation t i g) s ∧ Idles (.followActivation t i g) s ∧ Idles (.activationLapsed t) s ∧ Idles (.followActivationWaiting t) s) ∧
  (∀ t i g x s, s.up.schedule = some x → (x.follow = true ∨ (s.begin t).th.reading < x.a0 ∨ x.deadline < (s.begin t).th.reading ∨ s.activatable x = false ∨ s.partnerAgrees x = false) → Idles (.activation t i g) s) ∧
  (∀ t i g x h k s, s.isTwin = false → s.up.schedule = some x → x.follow = false → x.a0 ≤ (s.begin t).th.reading → (s.begin t).th.reading ≤ x.deadline → s.activatable x = true → x.kind = 1 → s.up.stagedFw = some h → s.up.stagedSlot = some k →
    s.pw.haltedIsland = false → s.pw.resetHold = none → s.pw.resetWait = none → s.pw.resetNext = none → s.mainOn = true → Answers (.activation t i g) s fun s' => s'.up.boot.trial = true ∧ s'.up.boot.trialSlot = some k ∧ s'.up.boot.attempts = 3 ∧
      s'.up.boot.committed = s.up.boot.committed ∧ s'.up.schedule = none ∧ s'.up.stagedFw = none ∧ s'.up.trialKind = 1 ∧ s'.pw.resetHold = some (3, 7, max s.now t)) ∧
  (∀ t i g x a s, s.isTwin = false → s.up.schedule = some x → x.follow = false → x.a0 ≤ (s.begin t).th.reading → (s.begin t).th.reading ≤ x.deadline → s.activatable x = true → x.kind = 2 → i.present = true → i.readable = true → i.fitted = none →
    s.pw.haltedIsland = false → s.pw.resetHold = none → s.pw.resetWait = none → s.pw.resetNext = none → s.mainOn = true →
    (g = true → (s.pg.dir.getD {}).staged = some a → Answers (.activation t i g) s fun s' => (∃ d, s'.pg.dir = some d ∧ d.active = some a ∧ d.trial = true ∧ d.staged = none) ∧ s'.up.schedule = none ∧ s'.up.trialKind = 2 ∧ s'.pw.resetHold = some (3, 8, max s.now t)) ∧
    (g = false → Answers (.activation t i g) s fun s' => s'.up.schedule = none ∧ s'.up.lastResult = 5 ∧ s'.up.stagedCfg = s.up.stagedCfg ∧ s'.pg = s.pg ∧ s'.pw.resetHold = none)) ∧
  (∀ t x s, s.up.schedule = some x → (x.follow = true ∨ (s.begin t).th.reading ≤ x.deadline) → Idles (.activationLapsed t) s) ∧
  (∀ t x s, s.up.schedule = some x → x.follow = false → x.deadline < (s.begin t).th.reading → Does (.activationLapsed t) s { s with up := { s.up with schedule := none, lastResult := 4 } }) ∧
  (∀ t s, s.up.probation = none → Idles (.probationEnd t) s) ∧ (∀ t k b s, s.up.probation = some (k, b) → max s.now t < b + sec 600 → Idles (.probationEnd t) s) ∧
  (∀ t k b s, s.up.probation = some (k, b) → b + sec 600 ≤ max s.now t → Answers (.probationEnd t) s fun s' => s'.up.probation = none ∧ s'.up.trialKind = 0 ∧ s'.up.lastResult = 1 ∧ s'.up.trialDeadline = none ∧
    (k = 1 → s'.up.boot.trial = false ∧ s'.up.boot.committed = s.up.boot.trialSlot.getD s.up.boot.committed ∧ s'.up.boot.version = s.up.boot.trialVersion) ∧ (k ≠ 1 → (s'.pg.dir.getD {}).trial = false ∧ (s'.pg.dir.getD {}).active = (s.pg.dir.getD {}).active)) ∧
  (∀ t i s, (s.up.trialDeadline = none ∨ s.up.probation.isSome = true) → Idles (.probationStartTimeout t i) s) ∧
  (∀ t i d s, s.up.trialDeadline = some d → d ≤ max s.now t → s.up.probation = none → s.pw.state = .starting → (s.up.trialKind = 1 → s.up.boot.trial = true → (s.slotOk i 0 = true ∨ s.slotOk i 1 = true) →
      Answers (.probationStartTimeout t i) s fun s' => s'.up.lastResult = 2 ∧ s'.up.boot.trial = false ∧ s'.pw.resetLevel = 3 ∧ s'.pw.resetCause = 7) ∧
    (s.up.trialKind = 2 → s.up.boot.trial = false → Answers (.probationStartTimeout t i) s fun s' => s'.up.lastResult = 3 ∧ s'.pw.resetLevel = 3 ∧ s'.pw.resetCause = 8)) ∧
  (∀ t i g x s, s.up.schedule = some x → (x.follow = false ∨ x.followAt = 0 ∨ max s.now t < x.followAt ∨ s.activatable x = false) → Idles (.followActivation t i g) s) ∧
  (∀ t i g x s, s.up.schedule = some x → x.follow = true → x.followAt ≠ 0 → x.followAt ≤ max s.now t → s.activatable x = true → (s.leads = false ∨ s.tw.partnerReady = false) →
    Does (.followActivation t i g) s { s with up := { s.up with schedule := some { x with waitSince := some (x.waitSince.getD (max s.now t)) } } }) ∧
  (∀ t i g x k h s, s.up.schedule = some x → x.follow = true → x.followAt ≠ 0 → x.followAt ≤ max s.now t → s.activatable x = true → s.leads = true → s.tw.partnerReady = true → x.kind = 1 → s.up.stagedSlot = some k → s.up.stagedFw = some h →
    Answers (.followActivation t i g) s fun s' => s'.up.schedule = none ∧ s'.up.stagedFw = none) ∧
  (∀ t x s, s.up.schedule = some x → (x.follow = false ∨ x.followAt = 0 ∨ x.waitRecorded = true ∨ s.tw.partnerReady = true) → Idles (.followActivationWaiting t) s) ∧
  (∀ t x s, s.up.schedule = some x → x.follow = true → x.followAt ≠ 0 → x.followAt + sec 600 ≤ max s.now t → x.waitRecorded = false → s.tw.partnerReady = false →
    Does (.followActivationWaiting t) s { s with up := { s.up with schedule := some { x with waitRecorded := true } } }) ∧
  (∀ t s, (s.ra.rollSweep = none ∨ s.leads = false ∨ s.ra.rollStage ≠ 3) → Idles (.rollSweep t) s) ∧
  (∀ t r s, s.ra.rollSweep = some r → s.leads = true → s.ra.rollStage = 3 → (∀ n, n ∈ s.rollNodes → n ∈ s.ra.rollConfirmed) → notBefore (s.begin t).sweepNo r = true → Answers (.rollSweep t) s fun s' =>
    s'.ra.keyEpoch = s.ra.rollEpoch.getD s.ra.keyEpoch ∧ s'.ra.rollStage = 0 ∧ s'.ra.rollSweep = none ∧ s'.up.keyRollDue = false) ∧
  (∀ t r n s, s.ra.rollSweep = some r → s.leads = true → s.ra.rollStage = 3 → n ∈ s.rollNodes → n ∉ s.ra.rollConfirmed → s.ra.rollPostponed < 3 → notBefore (s.begin t).sweepNo ((r + two32 - 160) % two32) = true →
    Answers (.rollSweep t) s fun s' => s'.ra.rollSweep = some ((r + 2000) % two32) ∧ s'.ra.rollPostponed = s.ra.rollPostponed + 1 ∧ s'.ra.rollConfirmed = [] ∧ s'.ra.keyEpoch = s.ra.keyEpoch) ∧
  (∀ t h i s, (s.up.offer = none ∨ s.up.verifying = false ∨ s.pw.recovery = false) → Idles (.recoveryVerificationComplete t h i) s) ∧
  (∀ t h i o s, s.up.offer = some o → s.up.verifying = true → s.pw.recovery = true → h.hashOk = false → Answers (.recoveryVerificationComplete t h i) s fun s' => s'.up.lastResult = 6 ∧ s'.up.failedStage = 10 ∧ s'.up.session = 0 ∧ s'.up.slotA = s.up.slotA ∧ s'.up.slotB = s.up.slotB ∧ s'.pw.recovery = true) ∧
  (∀ t h i o s, s.up.offer = some o → s.up.verifying = true → s.pw.recovery = true → h.hashOk = true → s.pw.state = .starting → Answers (.recoveryVerificationComplete t h i) s fun s' => s'.pw.resetLevel = 3 ∧ s'.pw.resetCause = 7 ∧ s'.up.session = 0 ∧
    s'.up.slot (if s.slotOk i s.up.boot.committed then 1 - s.up.boot.committed else s.up.boot.committed) = some (ImgHeader.withPayload o h))

/-- An occurrence repeats the open record of its event and subject unless that lies 1 s back and closes first, or opens one with the next sequence where its bucket has a token or its event is exempt, or is suppressed and tallied; it captures the module sweep record (05 R132; 22 R533, R534). A closed record enters the open block; beyond 65 536 octets of the window it is discarded and tallied unless exempt, and the first
such discard after a window without one opens record 0x0D03 with the octets offered (22 R535). A commit makes the open block the newest held one and starts the next (22 R537 to R539). -/
def Obligations.RecorderRules : Prop :=
  (Ev.writeCeiling.code = 0x0D03 ∧ Ev.suppressionsBeforeStop.code = 0x0D06 ∧ Ev.recorderStarted.code = 0x0D01 ∧ Ev.recordsLost.code = 0x0D05) ∧
  (∀ (s : State) ev n d (r : EvRecord), (s.ro.opened.find? fun r => decide (r.ev = ev ∧ r.subject = n)) = some r → r.repeats + 1 < 65535 → let u := s.occur ev n d
    u.ro.nextSeq = s.ro.nextSeq ∧ u.ro.tallies = s.ro.tallies ∧ u.ro.buckets = s.ro.buckets ∧ u.ro.openBlock = s.ro.openBlock ∧
    u.ro.opened = s.ro.opened.map fun x => if x.ev = ev ∧ x.subject = n then { r with repeats := r.repeats + 1, lastRepeat := (s.now - r.firstAt) / 1000000, lastAt := s.now } else x) ∧
  (∀ (s : State) ev n d, (s.ro.opened.find? fun r => decide (r.ev = ev ∧ r.subject = n)) = none → s.ro.opened.length < 64 → (ev.exempt = true ∨ 1 ≤ s.evTokens ev) → let u := s.occur ev n d
    u.ro.nextSeq = wrapInc s.ro.nextSeq ∧ u.ro.openBlock = s.ro.openBlock ∧ u.ro.tallies = s.ro.tallies.filter (fun e => !decide (e.1 = ev)) ∧
    ∃ r, u.ro.opened = s.ro.opened ++ [r] ∧ r.ev = ev ∧ r.subject = n ∧ r.data = d ∧ r.seq = s.ro.nextSeq ∧ r.time = s.th.reading ∧ r.sweep = s.sweepNo ∧ r.repeats = 0 ∧ r.suppressed = min 65535 ((s.ro.tallies.lookup ev).getD 0) ∧ r.firstAt = s.now ∧ r.lastAt = s.now ∧ r.capture = s.sweepRecord) ∧
  (∀ (s : State) ev n d, (s.ro.opened.find? fun r => decide (r.ev = ev ∧ r.subject = n)) = none → ev.exempt = false → s.evTokens ev < 1 → let u := s.occur ev n d
    u.ro.nextSeq = s.ro.nextSeq ∧ u.ro.opened = s.ro.opened ∧ (u.ro.tallies.lookup ev).getD 0 = (s.ro.tallies.lookup ev).getD 0 + 1 ∧ u.ro.suppressedTotal = wrapInc s.ro.suppressedTotal ∧ ∀ e, e ≠ ev → u.ro.tallies.lookup e = s.ro.tallies.lookup e) ∧
  (∀ (s : State) ev n d, (s.record ev n d).bare = s.bare ∧ (s.publishes = false → s.record ev n d = s)) ∧
  (∀ (s : State) ev n d (r : EvRecord), s.publishes = true → (s.ro.opened.find? fun r => decide (r.ev = ev ∧ r.subject = n)) = some r → s.now < r.lastAt + sec 1 → s.record ev n d = s.occur ev n d) ∧
  (∀ (s : State) ev n d (r : EvRecord), s.publishes = true → (s.ro.opened.find? fun r => decide (r.ev = ev ∧ r.subject = n)) = some r → r.lastAt + sec 1 ≤ s.now → s.record ev n d = (s.closeAndReport r).occur ev n d) ∧
  (∀ (s : State) (er : EvRecord), s.ro.fault = false → (s.ro.windowOctets + er.length ≤ 65536 ∨ er.ev.exempt = true ∨ er.ev = .suppressionsBeforeStop) → let u := (s.enterStore er).1
    u.ro.windowOctets = s.ro.windowOctets + er.length ∧ (s.enterStore er).2 = 0 ∧ er ∈ u.ro.openBlock.records ∧ u.ro.tallies = s.ro.tallies ∧ u.ro.discardWindow = s.ro.discardWindow ∧
    (s.ro.openBlock.used + er.length ≤ 1008 → u.ro.openBlock.records = s.ro.openBlock.records ++ [er] ∧ u.ro.held = s.ro.held) ∧
    (1008 < s.ro.openBlock.used + er.length → u.ro.openBlock.records = [er] ∧ u.ro.held = (s.ro.openBlock :: s.ro.held).take s.ro.ringSize)) ∧
  (∀ (s : State) (er : EvRecord), s.ro.fault = false → 65536 < s.ro.windowOctets + er.length → er.ev.exempt = false → er.ev ≠ .suppressionsBeforeStop → let u := (s.enterStore er).1
    u.ro.openBlock = s.ro.openBlock ∧ u.ro.held = s.ro.held ∧ u.ro.windowOctets = s.ro.windowOctets ∧ u.ro.discardWindow = true ∧ (u.ro.tallies.lookup er.ev).getD 0 = (s.ro.tallies.lookup er.ev).getD 0 + 1 ∧
    (s.ro.discardWindow = false → s.ro.ceiling = false → (∀ x, x ∈ s.ro.opened → x.ev ≠ .writeCeiling) → 1 ≤ s.evTokens .writeCeiling → ∃ r, r ∈ (s.closeAndReport er).ro.opened ∧ r.ev = .writeCeiling ∧ r.subject = 0 ∧ r.data = octetsOf 4 (s.ro.windowOctets + er.length))) ∧
  (∀ r : Rosemary, r.commit.openBlock.records = [] ∧ r.commit.openBlock.number = wrapInc r.openBlock.number ∧ r.commit.held.length ≤ r.ringSize ∧ (0 < r.ringSize → r.commit.held.head? = some r.openBlock) ∧ r.commit.nextSeq = r.nextSeq ∧ r.commit.opened = r.opened)

/-- A sample above the limit of a monitor that has one opens record 0x0C01 with the monitor number as subject and the sample as signed 32-bit; a further one in the same window does not, nor one of a monitor without a limit. A window end makes the next such sample the first again. Beside the monitor's own figures and
this record, a sample changes nothing (22 R546). Opening is subject to the rules of all records (22 R533, R534). -/
def Obligations.MonitorLimit : Prop :=
  Ev.monitorLimit.code = 0x0C01 ∧
  (∀ (s : State) n v, (s.monCfg n).limit ≠ 0 → (s.monCfg n).limit < v → (s.dl.windows.get n {}).exceeded = false → ∃ u : State, u = { s with dl := u.dl } ∧ s.sample n v = u.record .monitorLimit n (octetsOf 4 (wrapInt 4 v)) ∧
    ((s.sample n v).dl.windows.get n {}).exceeded = true) ∧
  (∀ (s : State) n v, ((s.monCfg n).limit = 0 ∨ v ≤ (s.monCfg n).limit ∨ (s.dl.windows.get n {}).exceeded = true) → s.sample n v = { s with dl := (s.sample n v).dl } ∧ ((s.sample n v).dl.windows.get n {}).exceeded = (s.dl.windows.get n {}).exceeded) ∧
  (∀ (s : State) n v, { (s.sample n v).bare with dl := {} } = { s.bare with dl := {} }) ∧
  (∀ t (k : Fin 15) s, s.powered = true → (s.begin t).atWindow (max 1 (s.monCfg (k.val + 1)).window) = true → (s.begin t).turnOpen (0x30 + (k.val + 1)) (sec 1) 0 = true → Answers (.monitorWindowEnd t k) s fun s' => (s'.dl.windows.get (k.val + 1) {}).exceeded = false)

/-- A record without a repeat for 1 s closes (22 R533). The open block is committed when it is due; an erase block that fails is retired, to a spare while one is left, else out of the ring (22 R538, R539). At a window's end a monitor's window set starts anew and the cumulative set stands (22 R543, R545). A late frame or loss in a
window of 1 s marks the plant delivery below its assumption until 10 windows without (23 R559). The scrub, each hour of the working memory and each 24 h of the stores, counts corrected errors, and an uncorrectable one in working memory resets the module (23 R555). -/
def Obligations.RecorderCommands : Prop :=
  (∀ t ev n s, Idles (.eventRecordClose t ev n) s) ∧
  (∀ t ev n (r : EvRecord) s, (s.ro.opened.find? fun r => decide (r.ev = ev ∧ r.subject = n)) = some r → r.lastAt + sec 1 ≤ max s.now t → Answers (.eventRecordClose t ev n) s fun s' => ∀ x, x ∈ s'.ro.opened → x.ev = ev → x.subject = n → x.lastAt = max s.now t) ∧
  (∀ t g e b s, Idles (.eventBlockCommit t g e b) s) ∧
  (∀ t g e b s, (s.begin t).blockDue = false → Answers (.eventBlockCommit t g e b) s fun s' => s'.ro.spares = s.ro.spares ∧ s'.ro.ringSize = s.ro.ringSize ∧ s'.ro.fault = s.ro.fault) ∧
  (∀ t e b s, (s.begin t).blockDue = true → Answers (.eventBlockCommit t true e b) s fun s' => s' = (s.settle { s.begin t with ro := s.ro.commit }) ∧ s'.ro.spares = s.ro.spares ∧ s'.ro.ringSize = s.ro.ringSize) ∧
  (∀ t e b s, (s.begin t).blockDue = true → 0 < s.ro.spares → Answers (.eventBlockCommit t false e b) s fun s' => s'.ro.spares = s.ro.spares - 1 ∧ s'.ro.ringSize = s.ro.ringSize ∧ s'.ro.fault = false) ∧
  (∀ t e b s, (s.begin t).blockDue = true → s.ro.spares = 0 → Answers (.eventBlockCommit t false e b) s fun s' => s'.ro.spares = 0 ∧ s'.ro.ringSize = s.ro.ringSize - b ∧ s'.ro.fault = decide (s.ro.ringSize ≤ b)) ∧
  (∀ t s, s.powered = false → Idles (.writeCeilingWindow t) s ∧ ∀ k, Idles (.monitorWindowEnd t k) s) ∧
  (∀ t s, s.powered = true → (s.monCfg 13).limit = 0 → (s.begin t).turnOpen 14 (sec 1) 0 = true → Answers (.writeCeilingWindow t) s fun s' => s'.ro.ceiling = s.ro.discardWindow ∧ (s'.dl.windows.get 13 {}).count = satInc 32 (s.dl.windows.get 13 {}).count ∧
    (s'.dl.cumulative.get 13 {}).count = satInc 32 (s.dl.cumulative.get 13 {}).count) ∧
  (∀ t (k : Fin 15) s, (s.begin t).atWindow (max 1 (s.monCfg (k.val + 1)).window) = false → Idles (.monitorWindowEnd t k) s) ∧
  (∀ t (k : Fin 15) s, s.powered = true → (s.begin t).atWindow (max 1 (s.monCfg (k.val + 1)).window) = true → (s.begin t).turnOpen (0x30 + (k.val + 1)) (sec 1) 0 = true →
    Does (.monitorWindowEnd t k) s { s with dl := { s.dl with windows := s.dl.windows.put (k.val + 1) {} { start := (s.begin t).sweepNo } } }) ∧
  (∀ t s, s.publishes = false → Idles (.plantDeliveryWindow t) s) ∧
  (∀ t s, s.publishes = true → (s.begin t).turnOpen 15 (sec 1) 0 = true → s.di.lateRun = true → Does (.plantDeliveryWindow t) s { s with di := { s.di with lateRun := false, cleanWindows := 0 }, dl := { s.dl with delivery := true } }) ∧
  (∀ t s, s.publishes = true → (s.begin t).turnOpen 15 (sec 1) 0 = true → s.di.lateRun = false → Does (.plantDeliveryWindow t) s { s with di := { s.di with cleanWindows := min 10 (s.di.cleanWindows + 1) }, dl := { s.dl with delivery := s.dl.delivery && decide (s.di.cleanWindows < 9) } }) ∧
  (∀ t st n u i s, (s.publishes = false ∨ (s.begin t).scrubDue st = false) → Idles (.memoryScrub t st n u i) s) ∧
  (∀ t st n u i s, s.publishes = true → (s.begin t).scrubDue st = true → (u = false ∨ st = true) → Does (.memoryScrub t st n u i) s { s with dl := { s.dl with
    corrected := (s.dl.corrected + n) % two32, lastScrub := if st then s.dl.lastScrub else max s.now t, lastStoreScrub := if st then max s.now t else s.dl.lastStoreScrub, deferred := s.dl.deferred.filter fun x => !decide (x = 6) } }) ∧
  (∀ t n i s, s.isTwin = false → (s.pw.state = .watch ∨ s.pw.state = .run) → (s.begin t).scrubDue false = true → s.pw.haltedIsland = false → s.pw.resetHold = none → s.pw.resetWait = none → s.pw.resetNext = none → s.mainOn = true → Answers (.memoryScrub t false n true i) s fun s' =>
    s'.pw.resetHold = some (2, 4, max s.now t) ∧ s'.dl.corrected = (s.dl.corrected + n) % two32 ∧ s'.rt.islandStop = true)

/-- For every command and state, the step of the state with that command at the front of its queue is the command on the state with the queue's rest; with an empty queue the state stays as it is (the model's choice, log 2). The queue itself is the model's form for commands that arrive one after another (log 1). -/
def Obligations.StepRunsFrontCommand : Prop :=
  (∀ (c : Instr) (l : List Instr) (s : State), step { s with pending := c :: l } = exec c { s with pending := l }) ∧ (∀ s : State, s.pending = [] → step s = .next s)

/-- The opcode table gives no row any bits: no word decodes to a command, and placing a word changes no state. -/
def Obligations.NoWordSpellsACommand : Prop := ∀ (s : State) (n w : Nat), decodeTableWord n w = none ∧ s.withFetchWord n w = s

/-- Every command on every state answers a next state, neither a fault nor a refusal; the queue is the one it was given, and the time of the last step does not fall, being the greater of the former one and the command's. -/
def Obligations.EveryCommandAnswers : Prop := ∀ (c : Instr) (s : State), Answers c s fun s' => s'.pending = s.pending ∧ s.now ≤ s'.now

/-- At reset the time is unset, unlabelled and runs at the nominal rate (02 R44, R48, R50), no node is admitted (04 R116), every sample is missing (01 R40), every tap estimate is unconverged (05 R138), and the last reset is a start after Off with cause 0x01 (19 R479, R485). That the module is unpowered with no command waiting and nothing
listed in its stores is the model's choice (logs 1 and 3). -/
def Obligations.ResetValues : Prop :=
  State.reset.th.state = .unset ∧ State.reset.th.labelled = false ∧ State.reset.th.addend = 10 * two32 ∧ (∀ n, (State.reset.node n).adm = .unadmitted ∧ (State.reset.dev n).adm = .unadmitted) ∧
  (∀ c, qMissing (State.reset.achan c).quality = true ∧ qMissing (State.reset.acq.latest.get c {}).quality = true) ∧ (∀ k, (State.reset.acq.taps.get k {}).converged = false ∧ (State.reset.acq.taps.get k {}).steps = 0) ∧
  State.reset.pw.resetLevel = 0 ∧ State.reset.pw.resetCause = 1 ∧ State.reset.pw.state = .off ∧ State.reset.pending = [] ∧ State.reset.out = []

/-- After every step: the stop-request field is set exactly while a hold demands it (01 R33, 11 R288); each safe output is energised exactly while the island drives it, its function's condition holds and no test has found it faulty (13 R341); candidacy for the plant master role follows its conditions (15 R402); and no opening is in hand once
every used contactor is confirmed open (12 R324). A step on an empty queue keeps it. -/
def Obligations.EveryStepSettles : Prop := ∀ s s' : State, (s.pending = [] → s.Settled) → step s = .next s' → s'.Settled

/-- The reset state is a settled one. -/
def Obligations.ResetSettled : Prop := State.reset.Settled

/-- In every state a command leaves: while any H, BD or SD demand stands, the stop-request field is set (01 R33, 11 R288), whatever the command was. A safe output assigned to no function is de-energised (13 R341). -/
def Obligations.StopRequestNeverLags : Prop := ∀ (c : Instr) (s : State), Answers c s fun s' => (s'.holdDemand = true → s'.rt.islandStop = true) ∧ (s'.holdDemand = false → s'.rt.islandStop = false) ∧
  ∀ o, (o = 1 ∨ o = 2) → s'.outCondition o = false → (s'.sf.outputs.get o {}).energised = false

/-- The module holds at most one update session: an offer that arrives while one is open is answered BUSY and leaves it as it is. While service-enable is asserted the maintenance port has precedence and an offer from the plant is answered BUSY; while it is not, the plant source has precedence. A source without precedence cannot cancel
an image staged, or a schedule placed, by the source that has it (21 R508). -/
def Obligations.UpdatePrecedence : Prop :=
  (∀ t m h s, s.updateTakes t m 512 → s.up.session ≠ 0 → Answers (.updateOffer t m h) s fun s' => s'.up.session = s.up.session ∧ s'.up.server = s.up.server ∧ s'.up.offer = s.up.offer ∧ s'.up.offset = s.up.offset ∧
    (s'.tele m.key).client.stored.head? = some stBusy) ∧
  (∀ t m h s, s.updateTakes t m 512 → m.key ≠ 8 → s.pw.serviceEnable = true → Answers (.updateOffer t m h) s fun s' => s'.up.session = s.up.session ∧ s'.up.offer = s.up.offer ∧ (s'.tele m.key).client.stored.head? = some stBusy) ∧
  (∀ t m k s, s.updateTakes t m 4 → (k = 1 ∨ k = 2) → (s.pw.serviceEnable = decide (m.key ≠ 8)) → (s.up.staged k).isSome = true → (if k = 1 then s.up.stagedFwPlant else s.up.stagedCfgPlant) = decide (m.key = 8) →
    Answers (.updateCancel t m k) s fun s' => s'.up.staged k = s.up.staged k ∧ s'.up.schedule = s.up.schedule ∧ (s'.tele m.key).client.stored.head? = some stBusy) ∧
  (∀ t m k x s, s.updateTakes t m 4 → (k = 1 ∨ k = 2) → (s.pw.serviceEnable = decide (m.key ≠ 8)) → s.up.schedule = some x → x.kind = k → x.plantSource = decide (m.key = 8) →
    Answers (.updateCancel t m k) s fun s' => s'.up.schedule = s.up.schedule) ∧
  (∀ t m k s, s.updateTakes t m 4 → (k = 1 ∨ k = 2) → s.pw.serviceEnable = decide (m.key = 8) → Answers (.updateCancel t m k) s fun s' => s'.up.staged k = none ∧ (s'.tele m.key).client.stored.head? = some stDone)

/-- During the 5 s after P0, while service-enable is asserted, the release of a press from 100 ms to 10 s is counted and causes no reset; the third one enters the recovery ROM, and fewer leave everything else as it was, so the start continues (19 R481). The press is one that counts under 19 R480. -/
def Obligations.RecoveryReleases : Prop :=
  (∀ t h i p s, s.pw.state ≠ .off → s.pw.state ≠ .hibernate → s.pw.state ≠ .flushing → s.pw.pressDead = false → 100 ≤ h → h < 10000 → (s.pw.buttonOpenAt = 0 ∨ s.pw.buttonOpenAt + sec 1 + ms h ≤ max s.now t) →
    s.pw.p0 = some p → max s.now t ≤ p + sec 5 → s.pw.serviceEnable = true → s.pw.recoveryReleases ≠ 2 →
    Does (.resetPushbuttonRelease t h i) s { s with pw := { s.pw with pressAt := none, recoveryReleases := s.pw.recoveryReleases + 1 } }) ∧
  (∀ t h i p s, s.pw.state ≠ .off → s.pw.state ≠ .hibernate → s.pw.state ≠ .flushing → s.pw.pressDead = false → 100 ≤ h → h < 10000 → (s.pw.buttonOpenAt = 0 ∨ s.pw.buttonOpenAt + sec 1 + ms h ≤ max s.now t) →
    s.pw.p0 = some p → max s.now t ≤ p + sec 5 → s.pw.serviceEnable = true → s.pw.recoveryReleases = 2 → Answers (.resetPushbuttonRelease t h i) s fun s' => s'.pw.recovery = true ∧ s'.pw.recoveryReleases = 3 ∧ s'.pw.resetLevel = s.pw.resetLevel ∧
      s'.pw.resetCause = s.pw.resetCause ∧ s'.pw.resetHold = s.pw.resetHold ∧ s'.pw.portsUp = false)

/-- The sweep number counts the 1 ms sweeps since the epoch (before it, of the same lattice continued back by wrapSpan, log 92, the model's own choice), wraps at 2^32 and orders two sweeps by the difference modulo 2^32 (00 R14): exactly one of two sweeps less than 2^31 apart is later, and the wrapped successor of a sweep is later than it. -/
def Obligations.SweepOrder : Prop :=
  (∀ s : State, s.sweepNo < two32 ∧ (s.epochNs ≤ s.th.reading + wrapSpan → s.epochNs + s.sweepAbs * 1000000 ≤ s.th.reading + wrapSpan ∧ s.th.reading + wrapSpan < s.epochNs + (s.sweepAbs + 1) * 1000000)) ∧
  (∀ a d : Nat, a < two32 → 1 ≤ d → d ≤ 2147483647 → laterThan ((a + d) % two32) a = true ∧ laterThan a ((a + d) % two32) = false) ∧
  (∀ a b : Nat, a < two32 → b < two32 → a ≠ b → (a + 2147483648) % two32 ≠ b → laterThan a b = !laterThan b a) ∧ (∀ a, laterThan a a = false) ∧
  (∀ a, a < two32 → laterThan (wrapInc a) a = true)

/-- The sparse tables that hold samples, nodes, stores and ports are kept in one canonical form (the model's own form of the data): every write keeps it, reads back what was written and leaves every other entry as it was. -/
def Obligations.TablesCanonical : Prop :=
  ∀ (α : Type) [DecidableEq α] (tb : Table α) (d v : α) (k : Nat), tb.wf d = true → (tb.put k d v).wf d = true ∧ (tb.put k d v).get k d = v ∧ (∀ j, j ≠ k → (tb.put k d v).get j d = tb.get j d) ∧ (tb.put k d (tb.get k d)).entries = tb.entries

/-- The six front lights as the table gives them (25 R588): the feeds and the coil supply, the power state with the recovery ROM blinking fast, the twin's role in twin operation alone, the time state, the protection actions, and service-enable, an update session and the calibration fault. A module that is off shows none. Which of its two yellow conditions light 6 shows while both hold is open (log 88). -/
def Obligations.FrontPanelLights : Prop :=
  (∀ s : State, s.pw.state = .off → s.pw.feed1 = false → s.pw.feed2 = false → ∀ l ∈ s.leds, l = {}) ∧
  (∀ s : State, s.powered = true → (s.ledPower.green = .steady ↔ s.pw.feed1 = true ∧ s.pw.feed2 = true) ∧ (s.ledPower.yellow = .steady ↔ s.pw.feed1 ≠ s.pw.feed2) ∧
    (s.ledPower.red = .steady ↔ s.acq.coilSupply < (s.cfg.coil.pullMin : Int))) ∧
  (∀ s : State, s.powered = true → s.pw.recovery = true → s.ledModule = { red := .fastBlink }) ∧
  (∀ s : State, s.pw.recovery = false → (s.ledModule.green = .steady ↔ s.pw.state = .run) ∧ (s.ledModule.green = .slowBlink ↔ s.pw.state = .watch) ∧
    (s.ledModule.yellow = .steady ↔ s.pw.state = .starting ∨ s.pw.state = .enteringHib ∨ s.pw.state = .flushing) ∧ (s.ledModule.red = .steady ↔ s.pw.state = .unconfigured ∨ s.pw.state = .resetLocked)) ∧
  (∀ s : State, s.isTwin = false → s.ledTwin = {}) ∧
  (∀ s : State, s.isTwin = true → s.powered = true → (s.ledTwin.green = .steady ↔ s.tw.role = .leader) ∧ (s.ledTwin.green = .blink ↔ s.tw.role = .follower) ∧ (s.ledTwin.yellow = .steady ↔ s.sf.reduced = true) ∧
    (s.ledTwin.red = .steady ↔ s.tw.mismatch = true)) ∧
  (∀ s : State, s.powered = true → (s.ledTime.green = .steady ↔ s.th.state = .locked) ∧ (s.ledTime.yellow = .steady ↔ s.th.state = .acquiring ∨ s.th.state = .holdover) ∧
    (s.ledTime.red = .steady ↔ s.th.state = .freeRunning ∨ s.th.state = .unaligned)) ∧
  (∀ s : State, s.powered = true → (s.ledProtection.yellow = .steady ↔ s.holdActive = true) ∧
    (s.ledProtection.red = .steady ↔ s.sdActive = true ∨ (∃ b, b < 4 ∧ s.bdActive b = true) ∨ ∃ f ∈ s.pr.fns, f.latched = true)) ∧
  (∀ s : State, s.powered = true → (s.ledService.red = .steady ↔ s.acq.calFault = true) ∧ (s.pw.serviceEnable = true → s.up.session = 0 → s.ledService.yellow = .steady) ∧
    (s.pw.serviceEnable = false → s.up.session ≠ 0 → s.ledService.yellow = .blink) ∧ (s.pw.serviceEnable = false → s.up.session = 0 → s.ledService.yellow = .dark))
end

