-- ==== Sys2Proof/Laws/State.lean ====
section
/-! SUPPORT. Sys2Proof/Laws/State.lean: what an update of one part of the state leaves of every other part. -/

namespace Sys2Proof.Machine

@[simp] theorem State.onPower_pw (s : State) (f : Power → Power) : (s.onPower f).pw = f s.pw := rfl
@[simp] theorem State.onPower_th (s : State) (f : Power → Power) : (s.onPower f).th = s.th := rfl
@[simp] theorem State.onPower_ra (s : State) (f : Power → Power) : (s.onPower f).ra = s.ra := rfl
@[simp] theorem State.onPower_acq (s : State) (f : Power → Power) : (s.onPower f).acq = s.acq := rfl
@[simp] theorem State.onPower_sg (s : State) (f : Power → Power) : (s.onPower f).sg = s.sg := rfl
@[simp] theorem State.onPower_ch (s : State) (f : Power → Power) : (s.onPower f).ch = s.ch := rfl
@[simp] theorem State.onPower_lim (s : State) (f : Power → Power) : (s.onPower f).lim = s.lim := rfl
@[simp] theorem State.onPower_ba (s : State) (f : Power → Power) : (s.onPower f).ba = s.ba := rfl
@[simp] theorem State.onPower_tm (s : State) (f : Power → Power) : (s.onPower f).tm = s.tm := rfl
@[simp] theorem State.onPower_pr (s : State) (f : Power → Power) : (s.onPower f).pr = s.pr := rfl
@[simp] theorem State.onPower_ct (s : State) (f : Power → Power) : (s.onPower f).ct = s.ct := rfl
@[simp] theorem State.onPower_sf (s : State) (f : Power → Power) : (s.onPower f).sf = s.sf := rfl
@[simp] theorem State.onPower_tw (s : State) (f : Power → Power) : (s.onPower f).tw = s.tw := rfl
@[simp] theorem State.onPower_ma (s : State) (f : Power → Power) : (s.onPower f).ma = s.ma := rfl
@[simp] theorem State.onPower_di (s : State) (f : Power → Power) : (s.onPower f).di = s.di := rfl
@[simp] theorem State.onPower_rt (s : State) (f : Power → Power) : (s.onPower f).rt = s.rt := rfl
@[simp] theorem State.onPower_nt (s : State) (f : Power → Power) : (s.onPower f).nt = s.nt := rfl
@[simp] theorem State.onPower_cn (s : State) (f : Power → Power) : (s.onPower f).cn = s.cn := rfl
@[simp] theorem State.onPower_pg (s : State) (f : Power → Power) : (s.onPower f).pg = s.pg := rfl
@[simp] theorem State.onPower_up (s : State) (f : Power → Power) : (s.onPower f).up = s.up := rfl
@[simp] theorem State.onPower_ro (s : State) (f : Power → Power) : (s.onPower f).ro = s.ro := rfl
@[simp] theorem State.onPower_dl (s : State) (f : Power → Power) : (s.onPower f).dl = s.dl := rfl
@[simp] theorem State.onPower_ls (s : State) (f : Power → Power) : (s.onPower f).ls = s.ls := rfl
@[simp] theorem State.onPower_pending (s : State) (f : Power → Power) : (s.onPower f).pending = s.pending := rfl
@[simp] theorem State.onPower_now (s : State) (f : Power → Power) : (s.onPower f).now = s.now := rfl
@[simp] theorem State.onPower_out (s : State) (f : Power → Power) : (s.onPower f).out = s.out := rfl
@[simp] theorem State.onPower_freeIdx (s : State) (f : Power → Power) : (s.onPower f).freeIdx = s.freeIdx := rfl
@[simp] theorem State.onPower_cfg (s : State) (f : Power → Power) : (s.onPower f).cfg = s.cfg := rfl

@[simp] theorem State.onThyme_pw (s : State) (f : Thyme → Thyme) : (s.onThyme f).pw = s.pw := rfl
@[simp] theorem State.onThyme_th (s : State) (f : Thyme → Thyme) : (s.onThyme f).th = f s.th := rfl
@[simp] theorem State.onThyme_ra (s : State) (f : Thyme → Thyme) : (s.onThyme f).ra = s.ra := rfl
@[simp] theorem State.onThyme_acq (s : State) (f : Thyme → Thyme) : (s.onThyme f).acq = s.acq := rfl
@[simp] theorem State.onThyme_sg (s : State) (f : Thyme → Thyme) : (s.onThyme f).sg = s.sg := rfl
@[simp] theorem State.onThyme_ch (s : State) (f : Thyme → Thyme) : (s.onThyme f).ch = s.ch := rfl
@[simp] theorem State.onThyme_lim (s : State) (f : Thyme → Thyme) : (s.onThyme f).lim = s.lim := rfl
@[simp] theorem State.onThyme_ba (s : State) (f : Thyme → Thyme) : (s.onThyme f).ba = s.ba := rfl
@[simp] theorem State.onThyme_tm (s : State) (f : Thyme → Thyme) : (s.onThyme f).tm = s.tm := rfl
@[simp] theorem State.onThyme_pr (s : State) (f : Thyme → Thyme) : (s.onThyme f).pr = s.pr := rfl
@[simp] theorem State.onThyme_ct (s : State) (f : Thyme → Thyme) : (s.onThyme f).ct = s.ct := rfl
@[simp] theorem State.onThyme_sf (s : State) (f : Thyme → Thyme) : (s.onThyme f).sf = s.sf := rfl
@[simp] theorem State.onThyme_tw (s : State) (f : Thyme → Thyme) : (s.onThyme f).tw = s.tw := rfl
@[simp] theorem State.onThyme_ma (s : State) (f : Thyme → Thyme) : (s.onThyme f).ma = s.ma := rfl
@[simp] theorem State.onThyme_di (s : State) (f : Thyme → Thyme) : (s.onThyme f).di = s.di := rfl
@[simp] theorem State.onThyme_rt (s : State) (f : Thyme → Thyme) : (s.onThyme f).rt = s.rt := rfl
@[simp] theorem State.onThyme_nt (s : State) (f : Thyme → Thyme) : (s.onThyme f).nt = s.nt := rfl
@[simp] theorem State.onThyme_cn (s : State) (f : Thyme → Thyme) : (s.onThyme f).cn = s.cn := rfl
@[simp] theorem State.onThyme_pg (s : State) (f : Thyme → Thyme) : (s.onThyme f).pg = s.pg := rfl
@[simp] theorem State.onThyme_up (s : State) (f : Thyme → Thyme) : (s.onThyme f).up = s.up := rfl
@[simp] theorem State.onThyme_ro (s : State) (f : Thyme → Thyme) : (s.onThyme f).ro = s.ro := rfl
@[simp] theorem State.onThyme_dl (s : State) (f : Thyme → Thyme) : (s.onThyme f).dl = s.dl := rfl
@[simp] theorem State.onThyme_ls (s : State) (f : Thyme → Thyme) : (s.onThyme f).ls = s.ls := rfl
@[simp] theorem State.onThyme_pending (s : State) (f : Thyme → Thyme) : (s.onThyme f).pending = s.pending := rfl
@[simp] theorem State.onThyme_now (s : State) (f : Thyme → Thyme) : (s.onThyme f).now = s.now := rfl
@[simp] theorem State.onThyme_out (s : State) (f : Thyme → Thyme) : (s.onThyme f).out = s.out := rfl
@[simp] theorem State.onThyme_freeIdx (s : State) (f : Thyme → Thyme) : (s.onThyme f).freeIdx = s.freeIdx := rfl
@[simp] theorem State.onThyme_cfg (s : State) (f : Thyme → Thyme) : (s.onThyme f).cfg = s.cfg := rfl

@[simp] theorem State.onRadio_pw (s : State) (f : Radio → Radio) : (s.onRadio f).pw = s.pw := rfl
@[simp] theorem State.onRadio_th (s : State) (f : Radio → Radio) : (s.onRadio f).th = s.th := rfl
@[simp] theorem State.onRadio_ra (s : State) (f : Radio → Radio) : (s.onRadio f).ra = f s.ra := rfl
@[simp] theorem State.onRadio_acq (s : State) (f : Radio → Radio) : (s.onRadio f).acq = s.acq := rfl
@[simp] theorem State.onRadio_sg (s : State) (f : Radio → Radio) : (s.onRadio f).sg = s.sg := rfl
@[simp] theorem State.onRadio_ch (s : State) (f : Radio → Radio) : (s.onRadio f).ch = s.ch := rfl
@[simp] theorem State.onRadio_lim (s : State) (f : Radio → Radio) : (s.onRadio f).lim = s.lim := rfl
@[simp] theorem State.onRadio_ba (s : State) (f : Radio → Radio) : (s.onRadio f).ba = s.ba := rfl
@[simp] theorem State.onRadio_tm (s : State) (f : Radio → Radio) : (s.onRadio f).tm = s.tm := rfl
@[simp] theorem State.onRadio_pr (s : State) (f : Radio → Radio) : (s.onRadio f).pr = s.pr := rfl
@[simp] theorem State.onRadio_ct (s : State) (f : Radio → Radio) : (s.onRadio f).ct = s.ct := rfl
@[simp] theorem State.onRadio_sf (s : State) (f : Radio → Radio) : (s.onRadio f).sf = s.sf := rfl
@[simp] theorem State.onRadio_tw (s : State) (f : Radio → Radio) : (s.onRadio f).tw = s.tw := rfl
@[simp] theorem State.onRadio_ma (s : State) (f : Radio → Radio) : (s.onRadio f).ma = s.ma := rfl
@[simp] theorem State.onRadio_di (s : State) (f : Radio → Radio) : (s.onRadio f).di = s.di := rfl
@[simp] theorem State.onRadio_rt (s : State) (f : Radio → Radio) : (s.onRadio f).rt = s.rt := rfl
@[simp] theorem State.onRadio_nt (s : State) (f : Radio → Radio) : (s.onRadio f).nt = s.nt := rfl
@[simp] theorem State.onRadio_cn (s : State) (f : Radio → Radio) : (s.onRadio f).cn = s.cn := rfl
@[simp] theorem State.onRadio_pg (s : State) (f : Radio → Radio) : (s.onRadio f).pg = s.pg := rfl
@[simp] theorem State.onRadio_up (s : State) (f : Radio → Radio) : (s.onRadio f).up = s.up := rfl
@[simp] theorem State.onRadio_ro (s : State) (f : Radio → Radio) : (s.onRadio f).ro = s.ro := rfl
@[simp] theorem State.onRadio_dl (s : State) (f : Radio → Radio) : (s.onRadio f).dl = s.dl := rfl
@[simp] theorem State.onRadio_ls (s : State) (f : Radio → Radio) : (s.onRadio f).ls = s.ls := rfl
@[simp] theorem State.onRadio_pending (s : State) (f : Radio → Radio) : (s.onRadio f).pending = s.pending := rfl
@[simp] theorem State.onRadio_now (s : State) (f : Radio → Radio) : (s.onRadio f).now = s.now := rfl
@[simp] theorem State.onRadio_out (s : State) (f : Radio → Radio) : (s.onRadio f).out = s.out := rfl
@[simp] theorem State.onRadio_freeIdx (s : State) (f : Radio → Radio) : (s.onRadio f).freeIdx = s.freeIdx := rfl
@[simp] theorem State.onRadio_cfg (s : State) (f : Radio → Radio) : (s.onRadio f).cfg = s.cfg := rfl

@[simp] theorem State.onAcq_pw (s : State) (f : Acq → Acq) : (s.onAcq f).pw = s.pw := rfl
@[simp] theorem State.onAcq_th (s : State) (f : Acq → Acq) : (s.onAcq f).th = s.th := rfl
@[simp] theorem State.onAcq_ra (s : State) (f : Acq → Acq) : (s.onAcq f).ra = s.ra := rfl
@[simp] theorem State.onAcq_acq (s : State) (f : Acq → Acq) : (s.onAcq f).acq = f s.acq := rfl
@[simp] theorem State.onAcq_sg (s : State) (f : Acq → Acq) : (s.onAcq f).sg = s.sg := rfl
@[simp] theorem State.onAcq_ch (s : State) (f : Acq → Acq) : (s.onAcq f).ch = s.ch := rfl
@[simp] theorem State.onAcq_lim (s : State) (f : Acq → Acq) : (s.onAcq f).lim = s.lim := rfl
@[simp] theorem State.onAcq_ba (s : State) (f : Acq → Acq) : (s.onAcq f).ba = s.ba := rfl
@[simp] theorem State.onAcq_tm (s : State) (f : Acq → Acq) : (s.onAcq f).tm = s.tm := rfl
@[simp] theorem State.onAcq_pr (s : State) (f : Acq → Acq) : (s.onAcq f).pr = s.pr := rfl
@[simp] theorem State.onAcq_ct (s : State) (f : Acq → Acq) : (s.onAcq f).ct = s.ct := rfl
@[simp] theorem State.onAcq_sf (s : State) (f : Acq → Acq) : (s.onAcq f).sf = s.sf := rfl
@[simp] theorem State.onAcq_tw (s : State) (f : Acq → Acq) : (s.onAcq f).tw = s.tw := rfl
@[simp] theorem State.onAcq_ma (s : State) (f : Acq → Acq) : (s.onAcq f).ma = s.ma := rfl
@[simp] theorem State.onAcq_di (s : State) (f : Acq → Acq) : (s.onAcq f).di = s.di := rfl
@[simp] theorem State.onAcq_rt (s : State) (f : Acq → Acq) : (s.onAcq f).rt = s.rt := rfl
@[simp] theorem State.onAcq_nt (s : State) (f : Acq → Acq) : (s.onAcq f).nt = s.nt := rfl
@[simp] theorem State.onAcq_cn (s : State) (f : Acq → Acq) : (s.onAcq f).cn = s.cn := rfl
@[simp] theorem State.onAcq_pg (s : State) (f : Acq → Acq) : (s.onAcq f).pg = s.pg := rfl
@[simp] theorem State.onAcq_up (s : State) (f : Acq → Acq) : (s.onAcq f).up = s.up := rfl
@[simp] theorem State.onAcq_ro (s : State) (f : Acq → Acq) : (s.onAcq f).ro = s.ro := rfl
@[simp] theorem State.onAcq_dl (s : State) (f : Acq → Acq) : (s.onAcq f).dl = s.dl := rfl
@[simp] theorem State.onAcq_ls (s : State) (f : Acq → Acq) : (s.onAcq f).ls = s.ls := rfl
@[simp] theorem State.onAcq_pending (s : State) (f : Acq → Acq) : (s.onAcq f).pending = s.pending := rfl
@[simp] theorem State.onAcq_now (s : State) (f : Acq → Acq) : (s.onAcq f).now = s.now := rfl
@[simp] theorem State.onAcq_out (s : State) (f : Acq → Acq) : (s.onAcq f).out = s.out := rfl
@[simp] theorem State.onAcq_freeIdx (s : State) (f : Acq → Acq) : (s.onAcq f).freeIdx = s.freeIdx := rfl
@[simp] theorem State.onAcq_cfg (s : State) (f : Acq → Acq) : (s.onAcq f).cfg = s.cfg := rfl

@[simp] theorem State.onSage_pw (s : State) (f : Sage → Sage) : (s.onSage f).pw = s.pw := rfl
@[simp] theorem State.onSage_th (s : State) (f : Sage → Sage) : (s.onSage f).th = s.th := rfl
@[simp] theorem State.onSage_ra (s : State) (f : Sage → Sage) : (s.onSage f).ra = s.ra := rfl
@[simp] theorem State.onSage_acq (s : State) (f : Sage → Sage) : (s.onSage f).acq = s.acq := rfl
@[simp] theorem State.onSage_sg (s : State) (f : Sage → Sage) : (s.onSage f).sg = f s.sg := rfl
@[simp] theorem State.onSage_ch (s : State) (f : Sage → Sage) : (s.onSage f).ch = s.ch := rfl
@[simp] theorem State.onSage_lim (s : State) (f : Sage → Sage) : (s.onSage f).lim = s.lim := rfl
@[simp] theorem State.onSage_ba (s : State) (f : Sage → Sage) : (s.onSage f).ba = s.ba := rfl
@[simp] theorem State.onSage_tm (s : State) (f : Sage → Sage) : (s.onSage f).tm = s.tm := rfl
@[simp] theorem State.onSage_pr (s : State) (f : Sage → Sage) : (s.onSage f).pr = s.pr := rfl
@[simp] theorem State.onSage_ct (s : State) (f : Sage → Sage) : (s.onSage f).ct = s.ct := rfl
@[simp] theorem State.onSage_sf (s : State) (f : Sage → Sage) : (s.onSage f).sf = s.sf := rfl
@[simp] theorem State.onSage_tw (s : State) (f : Sage → Sage) : (s.onSage f).tw = s.tw := rfl
@[simp] theorem State.onSage_ma (s : State) (f : Sage → Sage) : (s.onSage f).ma = s.ma := rfl
@[simp] theorem State.onSage_di (s : State) (f : Sage → Sage) : (s.onSage f).di = s.di := rfl
@[simp] theorem State.onSage_rt (s : State) (f : Sage → Sage) : (s.onSage f).rt = s.rt := rfl
@[simp] theorem State.onSage_nt (s : State) (f : Sage → Sage) : (s.onSage f).nt = s.nt := rfl
@[simp] theorem State.onSage_cn (s : State) (f : Sage → Sage) : (s.onSage f).cn = s.cn := rfl
@[simp] theorem State.onSage_pg (s : State) (f : Sage → Sage) : (s.onSage f).pg = s.pg := rfl
@[simp] theorem State.onSage_up (s : State) (f : Sage → Sage) : (s.onSage f).up = s.up := rfl
@[simp] theorem State.onSage_ro (s : State) (f : Sage → Sage) : (s.onSage f).ro = s.ro := rfl
@[simp] theorem State.onSage_dl (s : State) (f : Sage → Sage) : (s.onSage f).dl = s.dl := rfl
@[simp] theorem State.onSage_ls (s : State) (f : Sage → Sage) : (s.onSage f).ls = s.ls := rfl
@[simp] theorem State.onSage_pending (s : State) (f : Sage → Sage) : (s.onSage f).pending = s.pending := rfl
@[simp] theorem State.onSage_now (s : State) (f : Sage → Sage) : (s.onSage f).now = s.now := rfl
@[simp] theorem State.onSage_out (s : State) (f : Sage → Sage) : (s.onSage f).out = s.out := rfl
@[simp] theorem State.onSage_freeIdx (s : State) (f : Sage → Sage) : (s.onSage f).freeIdx = s.freeIdx := rfl
@[simp] theorem State.onSage_cfg (s : State) (f : Sage → Sage) : (s.onSage f).cfg = s.cfg := rfl

@[simp] theorem State.onCharge_pw (s : State) (f : Charge → Charge) : (s.onCharge f).pw = s.pw := rfl
@[simp] theorem State.onCharge_th (s : State) (f : Charge → Charge) : (s.onCharge f).th = s.th := rfl
@[simp] theorem State.onCharge_ra (s : State) (f : Charge → Charge) : (s.onCharge f).ra = s.ra := rfl
@[simp] theorem State.onCharge_acq (s : State) (f : Charge → Charge) : (s.onCharge f).acq = s.acq := rfl
@[simp] theorem State.onCharge_sg (s : State) (f : Charge → Charge) : (s.onCharge f).sg = s.sg := rfl
@[simp] theorem State.onCharge_ch (s : State) (f : Charge → Charge) : (s.onCharge f).ch = f s.ch := rfl
@[simp] theorem State.onCharge_lim (s : State) (f : Charge → Charge) : (s.onCharge f).lim = s.lim := rfl
@[simp] theorem State.onCharge_ba (s : State) (f : Charge → Charge) : (s.onCharge f).ba = s.ba := rfl
@[simp] theorem State.onCharge_tm (s : State) (f : Charge → Charge) : (s.onCharge f).tm = s.tm := rfl
@[simp] theorem State.onCharge_pr (s : State) (f : Charge → Charge) : (s.onCharge f).pr = s.pr := rfl
@[simp] theorem State.onCharge_ct (s : State) (f : Charge → Charge) : (s.onCharge f).ct = s.ct := rfl
@[simp] theorem State.onCharge_sf (s : State) (f : Charge → Charge) : (s.onCharge f).sf = s.sf := rfl
@[simp] theorem State.onCharge_tw (s : State) (f : Charge → Charge) : (s.onCharge f).tw = s.tw := rfl
@[simp] theorem State.onCharge_ma (s : State) (f : Charge → Charge) : (s.onCharge f).ma = s.ma := rfl
@[simp] theorem State.onCharge_di (s : State) (f : Charge → Charge) : (s.onCharge f).di = s.di := rfl
@[simp] theorem State.onCharge_rt (s : State) (f : Charge → Charge) : (s.onCharge f).rt = s.rt := rfl
@[simp] theorem State.onCharge_nt (s : State) (f : Charge → Charge) : (s.onCharge f).nt = s.nt := rfl
@[simp] theorem State.onCharge_cn (s : State) (f : Charge → Charge) : (s.onCharge f).cn = s.cn := rfl
@[simp] theorem State.onCharge_pg (s : State) (f : Charge → Charge) : (s.onCharge f).pg = s.pg := rfl
@[simp] theorem State.onCharge_up (s : State) (f : Charge → Charge) : (s.onCharge f).up = s.up := rfl
@[simp] theorem State.onCharge_ro (s : State) (f : Charge → Charge) : (s.onCharge f).ro = s.ro := rfl
@[simp] theorem State.onCharge_dl (s : State) (f : Charge → Charge) : (s.onCharge f).dl = s.dl := rfl
@[simp] theorem State.onCharge_ls (s : State) (f : Charge → Charge) : (s.onCharge f).ls = s.ls := rfl
@[simp] theorem State.onCharge_pending (s : State) (f : Charge → Charge) : (s.onCharge f).pending = s.pending := rfl
@[simp] theorem State.onCharge_now (s : State) (f : Charge → Charge) : (s.onCharge f).now = s.now := rfl
@[simp] theorem State.onCharge_out (s : State) (f : Charge → Charge) : (s.onCharge f).out = s.out := rfl
@[simp] theorem State.onCharge_freeIdx (s : State) (f : Charge → Charge) : (s.onCharge f).freeIdx = s.freeIdx := rfl
@[simp] theorem State.onCharge_cfg (s : State) (f : Charge → Charge) : (s.onCharge f).cfg = s.cfg := rfl

@[simp] theorem State.onLimits_pw (s : State) (f : Limits → Limits) : (s.onLimits f).pw = s.pw := rfl
@[simp] theorem State.onLimits_th (s : State) (f : Limits → Limits) : (s.onLimits f).th = s.th := rfl
@[simp] theorem State.onLimits_ra (s : State) (f : Limits → Limits) : (s.onLimits f).ra = s.ra := rfl
@[simp] theorem State.onLimits_acq (s : State) (f : Limits → Limits) : (s.onLimits f).acq = s.acq := rfl
@[simp] theorem State.onLimits_sg (s : State) (f : Limits → Limits) : (s.onLimits f).sg = s.sg := rfl
@[simp] theorem State.onLimits_ch (s : State) (f : Limits → Limits) : (s.onLimits f).ch = s.ch := rfl
@[simp] theorem State.onLimits_lim (s : State) (f : Limits → Limits) : (s.onLimits f).lim = f s.lim := rfl
@[simp] theorem State.onLimits_ba (s : State) (f : Limits → Limits) : (s.onLimits f).ba = s.ba := rfl
@[simp] theorem State.onLimits_tm (s : State) (f : Limits → Limits) : (s.onLimits f).tm = s.tm := rfl
@[simp] theorem State.onLimits_pr (s : State) (f : Limits → Limits) : (s.onLimits f).pr = s.pr := rfl
@[simp] theorem State.onLimits_ct (s : State) (f : Limits → Limits) : (s.onLimits f).ct = s.ct := rfl
@[simp] theorem State.onLimits_sf (s : State) (f : Limits → Limits) : (s.onLimits f).sf = s.sf := rfl
@[simp] theorem State.onLimits_tw (s : State) (f : Limits → Limits) : (s.onLimits f).tw = s.tw := rfl
@[simp] theorem State.onLimits_ma (s : State) (f : Limits → Limits) : (s.onLimits f).ma = s.ma := rfl
@[simp] theorem State.onLimits_di (s : State) (f : Limits → Limits) : (s.onLimits f).di = s.di := rfl
@[simp] theorem State.onLimits_rt (s : State) (f : Limits → Limits) : (s.onLimits f).rt = s.rt := rfl
@[simp] theorem State.onLimits_nt (s : State) (f : Limits → Limits) : (s.onLimits f).nt = s.nt := rfl
@[simp] theorem State.onLimits_cn (s : State) (f : Limits → Limits) : (s.onLimits f).cn = s.cn := rfl
@[simp] theorem State.onLimits_pg (s : State) (f : Limits → Limits) : (s.onLimits f).pg = s.pg := rfl
@[simp] theorem State.onLimits_up (s : State) (f : Limits → Limits) : (s.onLimits f).up = s.up := rfl
@[simp] theorem State.onLimits_ro (s : State) (f : Limits → Limits) : (s.onLimits f).ro = s.ro := rfl
@[simp] theorem State.onLimits_dl (s : State) (f : Limits → Limits) : (s.onLimits f).dl = s.dl := rfl
@[simp] theorem State.onLimits_ls (s : State) (f : Limits → Limits) : (s.onLimits f).ls = s.ls := rfl
@[simp] theorem State.onLimits_pending (s : State) (f : Limits → Limits) : (s.onLimits f).pending = s.pending := rfl
@[simp] theorem State.onLimits_now (s : State) (f : Limits → Limits) : (s.onLimits f).now = s.now := rfl
@[simp] theorem State.onLimits_out (s : State) (f : Limits → Limits) : (s.onLimits f).out = s.out := rfl
@[simp] theorem State.onLimits_freeIdx (s : State) (f : Limits → Limits) : (s.onLimits f).freeIdx = s.freeIdx := rfl
@[simp] theorem State.onLimits_cfg (s : State) (f : Limits → Limits) : (s.onLimits f).cfg = s.cfg := rfl

@[simp] theorem State.onBasil_pw (s : State) (f : Basil → Basil) : (s.onBasil f).pw = s.pw := rfl
@[simp] theorem State.onBasil_th (s : State) (f : Basil → Basil) : (s.onBasil f).th = s.th := rfl
@[simp] theorem State.onBasil_ra (s : State) (f : Basil → Basil) : (s.onBasil f).ra = s.ra := rfl
@[simp] theorem State.onBasil_acq (s : State) (f : Basil → Basil) : (s.onBasil f).acq = s.acq := rfl
@[simp] theorem State.onBasil_sg (s : State) (f : Basil → Basil) : (s.onBasil f).sg = s.sg := rfl
@[simp] theorem State.onBasil_ch (s : State) (f : Basil → Basil) : (s.onBasil f).ch = s.ch := rfl
@[simp] theorem State.onBasil_lim (s : State) (f : Basil → Basil) : (s.onBasil f).lim = s.lim := rfl
@[simp] theorem State.onBasil_ba (s : State) (f : Basil → Basil) : (s.onBasil f).ba = f s.ba := rfl
@[simp] theorem State.onBasil_tm (s : State) (f : Basil → Basil) : (s.onBasil f).tm = s.tm := rfl
@[simp] theorem State.onBasil_pr (s : State) (f : Basil → Basil) : (s.onBasil f).pr = s.pr := rfl
@[simp] theorem State.onBasil_ct (s : State) (f : Basil → Basil) : (s.onBasil f).ct = s.ct := rfl
@[simp] theorem State.onBasil_sf (s : State) (f : Basil → Basil) : (s.onBasil f).sf = s.sf := rfl
@[simp] theorem State.onBasil_tw (s : State) (f : Basil → Basil) : (s.onBasil f).tw = s.tw := rfl
@[simp] theorem State.onBasil_ma (s : State) (f : Basil → Basil) : (s.onBasil f).ma = s.ma := rfl
@[simp] theorem State.onBasil_di (s : State) (f : Basil → Basil) : (s.onBasil f).di = s.di := rfl
@[simp] theorem State.onBasil_rt (s : State) (f : Basil → Basil) : (s.onBasil f).rt = s.rt := rfl
@[simp] theorem State.onBasil_nt (s : State) (f : Basil → Basil) : (s.onBasil f).nt = s.nt := rfl
@[simp] theorem State.onBasil_cn (s : State) (f : Basil → Basil) : (s.onBasil f).cn = s.cn := rfl
@[simp] theorem State.onBasil_pg (s : State) (f : Basil → Basil) : (s.onBasil f).pg = s.pg := rfl
@[simp] theorem State.onBasil_up (s : State) (f : Basil → Basil) : (s.onBasil f).up = s.up := rfl
@[simp] theorem State.onBasil_ro (s : State) (f : Basil → Basil) : (s.onBasil f).ro = s.ro := rfl
@[simp] theorem State.onBasil_dl (s : State) (f : Basil → Basil) : (s.onBasil f).dl = s.dl := rfl
@[simp] theorem State.onBasil_ls (s : State) (f : Basil → Basil) : (s.onBasil f).ls = s.ls := rfl
@[simp] theorem State.onBasil_pending (s : State) (f : Basil → Basil) : (s.onBasil f).pending = s.pending := rfl
@[simp] theorem State.onBasil_now (s : State) (f : Basil → Basil) : (s.onBasil f).now = s.now := rfl
@[simp] theorem State.onBasil_out (s : State) (f : Basil → Basil) : (s.onBasil f).out = s.out := rfl
@[simp] theorem State.onBasil_freeIdx (s : State) (f : Basil → Basil) : (s.onBasil f).freeIdx = s.freeIdx := rfl
@[simp] theorem State.onBasil_cfg (s : State) (f : Basil → Basil) : (s.onBasil f).cfg = s.cfg := rfl

@[simp] theorem State.onTherm_pw (s : State) (f : Therm → Therm) : (s.onTherm f).pw = s.pw := rfl
@[simp] theorem State.onTherm_th (s : State) (f : Therm → Therm) : (s.onTherm f).th = s.th := rfl
@[simp] theorem State.onTherm_ra (s : State) (f : Therm → Therm) : (s.onTherm f).ra = s.ra := rfl
@[simp] theorem State.onTherm_acq (s : State) (f : Therm → Therm) : (s.onTherm f).acq = s.acq := rfl
@[simp] theorem State.onTherm_sg (s : State) (f : Therm → Therm) : (s.onTherm f).sg = s.sg := rfl
@[simp] theorem State.onTherm_ch (s : State) (f : Therm → Therm) : (s.onTherm f).ch = s.ch := rfl
@[simp] theorem State.onTherm_lim (s : State) (f : Therm → Therm) : (s.onTherm f).lim = s.lim := rfl
@[simp] theorem State.onTherm_ba (s : State) (f : Therm → Therm) : (s.onTherm f).ba = s.ba := rfl
@[simp] theorem State.onTherm_tm (s : State) (f : Therm → Therm) : (s.onTherm f).tm = f s.tm := rfl
@[simp] theorem State.onTherm_pr (s : State) (f : Therm → Therm) : (s.onTherm f).pr = s.pr := rfl
@[simp] theorem State.onTherm_ct (s : State) (f : Therm → Therm) : (s.onTherm f).ct = s.ct := rfl
@[simp] theorem State.onTherm_sf (s : State) (f : Therm → Therm) : (s.onTherm f).sf = s.sf := rfl
@[simp] theorem State.onTherm_tw (s : State) (f : Therm → Therm) : (s.onTherm f).tw = s.tw := rfl
@[simp] theorem State.onTherm_ma (s : State) (f : Therm → Therm) : (s.onTherm f).ma = s.ma := rfl
@[simp] theorem State.onTherm_di (s : State) (f : Therm → Therm) : (s.onTherm f).di = s.di := rfl
@[simp] theorem State.onTherm_rt (s : State) (f : Therm → Therm) : (s.onTherm f).rt = s.rt := rfl
@[simp] theorem State.onTherm_nt (s : State) (f : Therm → Therm) : (s.onTherm f).nt = s.nt := rfl
@[simp] theorem State.onTherm_cn (s : State) (f : Therm → Therm) : (s.onTherm f).cn = s.cn := rfl
@[simp] theorem State.onTherm_pg (s : State) (f : Therm → Therm) : (s.onTherm f).pg = s.pg := rfl
@[simp] theorem State.onTherm_up (s : State) (f : Therm → Therm) : (s.onTherm f).up = s.up := rfl
@[simp] theorem State.onTherm_ro (s : State) (f : Therm → Therm) : (s.onTherm f).ro = s.ro := rfl
@[simp] theorem State.onTherm_dl (s : State) (f : Therm → Therm) : (s.onTherm f).dl = s.dl := rfl
@[simp] theorem State.onTherm_ls (s : State) (f : Therm → Therm) : (s.onTherm f).ls = s.ls := rfl
@[simp] theorem State.onTherm_pending (s : State) (f : Therm → Therm) : (s.onTherm f).pending = s.pending := rfl
@[simp] theorem State.onTherm_now (s : State) (f : Therm → Therm) : (s.onTherm f).now = s.now := rfl
@[simp] theorem State.onTherm_out (s : State) (f : Therm → Therm) : (s.onTherm f).out = s.out := rfl
@[simp] theorem State.onTherm_freeIdx (s : State) (f : Therm → Therm) : (s.onTherm f).freeIdx = s.freeIdx := rfl
@[simp] theorem State.onTherm_cfg (s : State) (f : Therm → Therm) : (s.onTherm f).cfg = s.cfg := rfl

@[simp] theorem State.onProt_pw (s : State) (f : Prot → Prot) : (s.onProt f).pw = s.pw := rfl
@[simp] theorem State.onProt_th (s : State) (f : Prot → Prot) : (s.onProt f).th = s.th := rfl
@[simp] theorem State.onProt_ra (s : State) (f : Prot → Prot) : (s.onProt f).ra = s.ra := rfl
@[simp] theorem State.onProt_acq (s : State) (f : Prot → Prot) : (s.onProt f).acq = s.acq := rfl
@[simp] theorem State.onProt_sg (s : State) (f : Prot → Prot) : (s.onProt f).sg = s.sg := rfl
@[simp] theorem State.onProt_ch (s : State) (f : Prot → Prot) : (s.onProt f).ch = s.ch := rfl
@[simp] theorem State.onProt_lim (s : State) (f : Prot → Prot) : (s.onProt f).lim = s.lim := rfl
@[simp] theorem State.onProt_ba (s : State) (f : Prot → Prot) : (s.onProt f).ba = s.ba := rfl
@[simp] theorem State.onProt_tm (s : State) (f : Prot → Prot) : (s.onProt f).tm = s.tm := rfl
@[simp] theorem State.onProt_pr (s : State) (f : Prot → Prot) : (s.onProt f).pr = f s.pr := rfl
@[simp] theorem State.onProt_ct (s : State) (f : Prot → Prot) : (s.onProt f).ct = s.ct := rfl
@[simp] theorem State.onProt_sf (s : State) (f : Prot → Prot) : (s.onProt f).sf = s.sf := rfl
@[simp] theorem State.onProt_tw (s : State) (f : Prot → Prot) : (s.onProt f).tw = s.tw := rfl
@[simp] theorem State.onProt_ma (s : State) (f : Prot → Prot) : (s.onProt f).ma = s.ma := rfl
@[simp] theorem State.onProt_di (s : State) (f : Prot → Prot) : (s.onProt f).di = s.di := rfl
@[simp] theorem State.onProt_rt (s : State) (f : Prot → Prot) : (s.onProt f).rt = s.rt := rfl
@[simp] theorem State.onProt_nt (s : State) (f : Prot → Prot) : (s.onProt f).nt = s.nt := rfl
@[simp] theorem State.onProt_cn (s : State) (f : Prot → Prot) : (s.onProt f).cn = s.cn := rfl
@[simp] theorem State.onProt_pg (s : State) (f : Prot → Prot) : (s.onProt f).pg = s.pg := rfl
@[simp] theorem State.onProt_up (s : State) (f : Prot → Prot) : (s.onProt f).up = s.up := rfl
@[simp] theorem State.onProt_ro (s : State) (f : Prot → Prot) : (s.onProt f).ro = s.ro := rfl
@[simp] theorem State.onProt_dl (s : State) (f : Prot → Prot) : (s.onProt f).dl = s.dl := rfl
@[simp] theorem State.onProt_ls (s : State) (f : Prot → Prot) : (s.onProt f).ls = s.ls := rfl
@[simp] theorem State.onProt_pending (s : State) (f : Prot → Prot) : (s.onProt f).pending = s.pending := rfl
@[simp] theorem State.onProt_now (s : State) (f : Prot → Prot) : (s.onProt f).now = s.now := rfl
@[simp] theorem State.onProt_out (s : State) (f : Prot → Prot) : (s.onProt f).out = s.out := rfl
@[simp] theorem State.onProt_freeIdx (s : State) (f : Prot → Prot) : (s.onProt f).freeIdx = s.freeIdx := rfl
@[simp] theorem State.onProt_cfg (s : State) (f : Prot → Prot) : (s.onProt f).cfg = s.cfg := rfl

@[simp] theorem State.onCont_pw (s : State) (f : Cont → Cont) : (s.onCont f).pw = s.pw := rfl
@[simp] theorem State.onCont_th (s : State) (f : Cont → Cont) : (s.onCont f).th = s.th := rfl
@[simp] theorem State.onCont_ra (s : State) (f : Cont → Cont) : (s.onCont f).ra = s.ra := rfl
@[simp] theorem State.onCont_acq (s : State) (f : Cont → Cont) : (s.onCont f).acq = s.acq := rfl
@[simp] theorem State.onCont_sg (s : State) (f : Cont → Cont) : (s.onCont f).sg = s.sg := rfl
@[simp] theorem State.onCont_ch (s : State) (f : Cont → Cont) : (s.onCont f).ch = s.ch := rfl
@[simp] theorem State.onCont_lim (s : State) (f : Cont → Cont) : (s.onCont f).lim = s.lim := rfl
@[simp] theorem State.onCont_ba (s : State) (f : Cont → Cont) : (s.onCont f).ba = s.ba := rfl
@[simp] theorem State.onCont_tm (s : State) (f : Cont → Cont) : (s.onCont f).tm = s.tm := rfl
@[simp] theorem State.onCont_pr (s : State) (f : Cont → Cont) : (s.onCont f).pr = s.pr := rfl
@[simp] theorem State.onCont_ct (s : State) (f : Cont → Cont) : (s.onCont f).ct = f s.ct := rfl
@[simp] theorem State.onCont_sf (s : State) (f : Cont → Cont) : (s.onCont f).sf = s.sf := rfl
@[simp] theorem State.onCont_tw (s : State) (f : Cont → Cont) : (s.onCont f).tw = s.tw := rfl
@[simp] theorem State.onCont_ma (s : State) (f : Cont → Cont) : (s.onCont f).ma = s.ma := rfl
@[simp] theorem State.onCont_di (s : State) (f : Cont → Cont) : (s.onCont f).di = s.di := rfl
@[simp] theorem State.onCont_rt (s : State) (f : Cont → Cont) : (s.onCont f).rt = s.rt := rfl
@[simp] theorem State.onCont_nt (s : State) (f : Cont → Cont) : (s.onCont f).nt = s.nt := rfl
@[simp] theorem State.onCont_cn (s : State) (f : Cont → Cont) : (s.onCont f).cn = s.cn := rfl
@[simp] theorem State.onCont_pg (s : State) (f : Cont → Cont) : (s.onCont f).pg = s.pg := rfl
@[simp] theorem State.onCont_up (s : State) (f : Cont → Cont) : (s.onCont f).up = s.up := rfl
@[simp] theorem State.onCont_ro (s : State) (f : Cont → Cont) : (s.onCont f).ro = s.ro := rfl
@[simp] theorem State.onCont_dl (s : State) (f : Cont → Cont) : (s.onCont f).dl = s.dl := rfl
@[simp] theorem State.onCont_ls (s : State) (f : Cont → Cont) : (s.onCont f).ls = s.ls := rfl
@[simp] theorem State.onCont_pending (s : State) (f : Cont → Cont) : (s.onCont f).pending = s.pending := rfl
@[simp] theorem State.onCont_now (s : State) (f : Cont → Cont) : (s.onCont f).now = s.now := rfl
@[simp] theorem State.onCont_out (s : State) (f : Cont → Cont) : (s.onCont f).out = s.out := rfl
@[simp] theorem State.onCont_freeIdx (s : State) (f : Cont → Cont) : (s.onCont f).freeIdx = s.freeIdx := rfl
@[simp] theorem State.onCont_cfg (s : State) (f : Cont → Cont) : (s.onCont f).cfg = s.cfg := rfl

@[simp] theorem State.onSafety_pw (s : State) (f : Safety → Safety) : (s.onSafety f).pw = s.pw := rfl
@[simp] theorem State.onSafety_th (s : State) (f : Safety → Safety) : (s.onSafety f).th = s.th := rfl
@[simp] theorem State.onSafety_ra (s : State) (f : Safety → Safety) : (s.onSafety f).ra = s.ra := rfl
@[simp] theorem State.onSafety_acq (s : State) (f : Safety → Safety) : (s.onSafety f).acq = s.acq := rfl
@[simp] theorem State.onSafety_sg (s : State) (f : Safety → Safety) : (s.onSafety f).sg = s.sg := rfl
@[simp] theorem State.onSafety_ch (s : State) (f : Safety → Safety) : (s.onSafety f).ch = s.ch := rfl
@[simp] theorem State.onSafety_lim (s : State) (f : Safety → Safety) : (s.onSafety f).lim = s.lim := rfl
@[simp] theorem State.onSafety_ba (s : State) (f : Safety → Safety) : (s.onSafety f).ba = s.ba := rfl
@[simp] theorem State.onSafety_tm (s : State) (f : Safety → Safety) : (s.onSafety f).tm = s.tm := rfl
@[simp] theorem State.onSafety_pr (s : State) (f : Safety → Safety) : (s.onSafety f).pr = s.pr := rfl
@[simp] theorem State.onSafety_ct (s : State) (f : Safety → Safety) : (s.onSafety f).ct = s.ct := rfl
@[simp] theorem State.onSafety_sf (s : State) (f : Safety → Safety) : (s.onSafety f).sf = f s.sf := rfl
@[simp] theorem State.onSafety_tw (s : State) (f : Safety → Safety) : (s.onSafety f).tw = s.tw := rfl
@[simp] theorem State.onSafety_ma (s : State) (f : Safety → Safety) : (s.onSafety f).ma = s.ma := rfl
@[simp] theorem State.onSafety_di (s : State) (f : Safety → Safety) : (s.onSafety f).di = s.di := rfl
@[simp] theorem State.onSafety_rt (s : State) (f : Safety → Safety) : (s.onSafety f).rt = s.rt := rfl
@[simp] theorem State.onSafety_nt (s : State) (f : Safety → Safety) : (s.onSafety f).nt = s.nt := rfl
@[simp] theorem State.onSafety_cn (s : State) (f : Safety → Safety) : (s.onSafety f).cn = s.cn := rfl
@[simp] theorem State.onSafety_pg (s : State) (f : Safety → Safety) : (s.onSafety f).pg = s.pg := rfl
@[simp] theorem State.onSafety_up (s : State) (f : Safety → Safety) : (s.onSafety f).up = s.up := rfl
@[simp] theorem State.onSafety_ro (s : State) (f : Safety → Safety) : (s.onSafety f).ro = s.ro := rfl
@[simp] theorem State.onSafety_dl (s : State) (f : Safety → Safety) : (s.onSafety f).dl = s.dl := rfl
@[simp] theorem State.onSafety_ls (s : State) (f : Safety → Safety) : (s.onSafety f).ls = s.ls := rfl
@[simp] theorem State.onSafety_pending (s : State) (f : Safety → Safety) : (s.onSafety f).pending = s.pending := rfl
@[simp] theorem State.onSafety_now (s : State) (f : Safety → Safety) : (s.onSafety f).now = s.now := rfl
@[simp] theorem State.onSafety_out (s : State) (f : Safety → Safety) : (s.onSafety f).out = s.out := rfl
@[simp] theorem State.onSafety_freeIdx (s : State) (f : Safety → Safety) : (s.onSafety f).freeIdx = s.freeIdx := rfl
@[simp] theorem State.onSafety_cfg (s : State) (f : Safety → Safety) : (s.onSafety f).cfg = s.cfg := rfl

@[simp] theorem State.onTwin_pw (s : State) (f : Twin → Twin) : (s.onTwin f).pw = s.pw := rfl
@[simp] theorem State.onTwin_th (s : State) (f : Twin → Twin) : (s.onTwin f).th = s.th := rfl
@[simp] theorem State.onTwin_ra (s : State) (f : Twin → Twin) : (s.onTwin f).ra = s.ra := rfl
@[simp] theorem State.onTwin_acq (s : State) (f : Twin → Twin) : (s.onTwin f).acq = s.acq := rfl
@[simp] theorem State.onTwin_sg (s : State) (f : Twin → Twin) : (s.onTwin f).sg = s.sg := rfl
@[simp] theorem State.onTwin_ch (s : State) (f : Twin → Twin) : (s.onTwin f).ch = s.ch := rfl
@[simp] theorem State.onTwin_lim (s : State) (f : Twin → Twin) : (s.onTwin f).lim = s.lim := rfl
@[simp] theorem State.onTwin_ba (s : State) (f : Twin → Twin) : (s.onTwin f).ba = s.ba := rfl
@[simp] theorem State.onTwin_tm (s : State) (f : Twin → Twin) : (s.onTwin f).tm = s.tm := rfl
@[simp] theorem State.onTwin_pr (s : State) (f : Twin → Twin) : (s.onTwin f).pr = s.pr := rfl
@[simp] theorem State.onTwin_ct (s : State) (f : Twin → Twin) : (s.onTwin f).ct = s.ct := rfl
@[simp] theorem State.onTwin_sf (s : State) (f : Twin → Twin) : (s.onTwin f).sf = s.sf := rfl
@[simp] theorem State.onTwin_tw (s : State) (f : Twin → Twin) : (s.onTwin f).tw = f s.tw := rfl
@[simp] theorem State.onTwin_ma (s : State) (f : Twin → Twin) : (s.onTwin f).ma = s.ma := rfl
@[simp] theorem State.onTwin_di (s : State) (f : Twin → Twin) : (s.onTwin f).di = s.di := rfl
@[simp] theorem State.onTwin_rt (s : State) (f : Twin → Twin) : (s.onTwin f).rt = s.rt := rfl
@[simp] theorem State.onTwin_nt (s : State) (f : Twin → Twin) : (s.onTwin f).nt = s.nt := rfl
@[simp] theorem State.onTwin_cn (s : State) (f : Twin → Twin) : (s.onTwin f).cn = s.cn := rfl
@[simp] theorem State.onTwin_pg (s : State) (f : Twin → Twin) : (s.onTwin f).pg = s.pg := rfl
@[simp] theorem State.onTwin_up (s : State) (f : Twin → Twin) : (s.onTwin f).up = s.up := rfl
@[simp] theorem State.onTwin_ro (s : State) (f : Twin → Twin) : (s.onTwin f).ro = s.ro := rfl
@[simp] theorem State.onTwin_dl (s : State) (f : Twin → Twin) : (s.onTwin f).dl = s.dl := rfl
@[simp] theorem State.onTwin_ls (s : State) (f : Twin → Twin) : (s.onTwin f).ls = s.ls := rfl
@[simp] theorem State.onTwin_pending (s : State) (f : Twin → Twin) : (s.onTwin f).pending = s.pending := rfl
@[simp] theorem State.onTwin_now (s : State) (f : Twin → Twin) : (s.onTwin f).now = s.now := rfl
@[simp] theorem State.onTwin_out (s : State) (f : Twin → Twin) : (s.onTwin f).out = s.out := rfl
@[simp] theorem State.onTwin_freeIdx (s : State) (f : Twin → Twin) : (s.onTwin f).freeIdx = s.freeIdx := rfl
@[simp] theorem State.onTwin_cfg (s : State) (f : Twin → Twin) : (s.onTwin f).cfg = s.cfg := rfl

@[simp] theorem State.onMaster_pw (s : State) (f : Master → Master) : (s.onMaster f).pw = s.pw := rfl
@[simp] theorem State.onMaster_th (s : State) (f : Master → Master) : (s.onMaster f).th = s.th := rfl
@[simp] theorem State.onMaster_ra (s : State) (f : Master → Master) : (s.onMaster f).ra = s.ra := rfl
@[simp] theorem State.onMaster_acq (s : State) (f : Master → Master) : (s.onMaster f).acq = s.acq := rfl
@[simp] theorem State.onMaster_sg (s : State) (f : Master → Master) : (s.onMaster f).sg = s.sg := rfl
@[simp] theorem State.onMaster_ch (s : State) (f : Master → Master) : (s.onMaster f).ch = s.ch := rfl
@[simp] theorem State.onMaster_lim (s : State) (f : Master → Master) : (s.onMaster f).lim = s.lim := rfl
@[simp] theorem State.onMaster_ba (s : State) (f : Master → Master) : (s.onMaster f).ba = s.ba := rfl
@[simp] theorem State.onMaster_tm (s : State) (f : Master → Master) : (s.onMaster f).tm = s.tm := rfl
@[simp] theorem State.onMaster_pr (s : State) (f : Master → Master) : (s.onMaster f).pr = s.pr := rfl
@[simp] theorem State.onMaster_ct (s : State) (f : Master → Master) : (s.onMaster f).ct = s.ct := rfl
@[simp] theorem State.onMaster_sf (s : State) (f : Master → Master) : (s.onMaster f).sf = s.sf := rfl
@[simp] theorem State.onMaster_tw (s : State) (f : Master → Master) : (s.onMaster f).tw = s.tw := rfl
@[simp] theorem State.onMaster_ma (s : State) (f : Master → Master) : (s.onMaster f).ma = f s.ma := rfl
@[simp] theorem State.onMaster_di (s : State) (f : Master → Master) : (s.onMaster f).di = s.di := rfl
@[simp] theorem State.onMaster_rt (s : State) (f : Master → Master) : (s.onMaster f).rt = s.rt := rfl
@[simp] theorem State.onMaster_nt (s : State) (f : Master → Master) : (s.onMaster f).nt = s.nt := rfl
@[simp] theorem State.onMaster_cn (s : State) (f : Master → Master) : (s.onMaster f).cn = s.cn := rfl
@[simp] theorem State.onMaster_pg (s : State) (f : Master → Master) : (s.onMaster f).pg = s.pg := rfl
@[simp] theorem State.onMaster_up (s : State) (f : Master → Master) : (s.onMaster f).up = s.up := rfl
@[simp] theorem State.onMaster_ro (s : State) (f : Master → Master) : (s.onMaster f).ro = s.ro := rfl
@[simp] theorem State.onMaster_dl (s : State) (f : Master → Master) : (s.onMaster f).dl = s.dl := rfl
@[simp] theorem State.onMaster_ls (s : State) (f : Master → Master) : (s.onMaster f).ls = s.ls := rfl
@[simp] theorem State.onMaster_pending (s : State) (f : Master → Master) : (s.onMaster f).pending = s.pending := rfl
@[simp] theorem State.onMaster_now (s : State) (f : Master → Master) : (s.onMaster f).now = s.now := rfl
@[simp] theorem State.onMaster_out (s : State) (f : Master → Master) : (s.onMaster f).out = s.out := rfl
@[simp] theorem State.onMaster_freeIdx (s : State) (f : Master → Master) : (s.onMaster f).freeIdx = s.freeIdx := rfl
@[simp] theorem State.onMaster_cfg (s : State) (f : Master → Master) : (s.onMaster f).cfg = s.cfg := rfl

@[simp] theorem State.onDispatch_pw (s : State) (f : Dispatch → Dispatch) : (s.onDispatch f).pw = s.pw := rfl
@[simp] theorem State.onDispatch_th (s : State) (f : Dispatch → Dispatch) : (s.onDispatch f).th = s.th := rfl
@[simp] theorem State.onDispatch_ra (s : State) (f : Dispatch → Dispatch) : (s.onDispatch f).ra = s.ra := rfl
@[simp] theorem State.onDispatch_acq (s : State) (f : Dispatch → Dispatch) : (s.onDispatch f).acq = s.acq := rfl
@[simp] theorem State.onDispatch_sg (s : State) (f : Dispatch → Dispatch) : (s.onDispatch f).sg = s.sg := rfl
@[simp] theorem State.onDispatch_ch (s : State) (f : Dispatch → Dispatch) : (s.onDispatch f).ch = s.ch := rfl
@[simp] theorem State.onDispatch_lim (s : State) (f : Dispatch → Dispatch) : (s.onDispatch f).lim = s.lim := rfl
@[simp] theorem State.onDispatch_ba (s : State) (f : Dispatch → Dispatch) : (s.onDispatch f).ba = s.ba := rfl
@[simp] theorem State.onDispatch_tm (s : State) (f : Dispatch → Dispatch) : (s.onDispatch f).tm = s.tm := rfl
@[simp] theorem State.onDispatch_pr (s : State) (f : Dispatch → Dispatch) : (s.onDispatch f).pr = s.pr := rfl
@[simp] theorem State.onDispatch_ct (s : State) (f : Dispatch → Dispatch) : (s.onDispatch f).ct = s.ct := rfl
@[simp] theorem State.onDispatch_sf (s : State) (f : Dispatch → Dispatch) : (s.onDispatch f).sf = s.sf := rfl
@[simp] theorem State.onDispatch_tw (s : State) (f : Dispatch → Dispatch) : (s.onDispatch f).tw = s.tw := rfl
@[simp] theorem State.onDispatch_ma (s : State) (f : Dispatch → Dispatch) : (s.onDispatch f).ma = s.ma := rfl
@[simp] theorem State.onDispatch_di (s : State) (f : Dispatch → Dispatch) : (s.onDispatch f).di = f s.di := rfl
@[simp] theorem State.onDispatch_rt (s : State) (f : Dispatch → Dispatch) : (s.onDispatch f).rt = s.rt := rfl
@[simp] theorem State.onDispatch_nt (s : State) (f : Dispatch → Dispatch) : (s.onDispatch f).nt = s.nt := rfl
@[simp] theorem State.onDispatch_cn (s : State) (f : Dispatch → Dispatch) : (s.onDispatch f).cn = s.cn := rfl
@[simp] theorem State.onDispatch_pg (s : State) (f : Dispatch → Dispatch) : (s.onDispatch f).pg = s.pg := rfl
@[simp] theorem State.onDispatch_up (s : State) (f : Dispatch → Dispatch) : (s.onDispatch f).up = s.up := rfl
@[simp] theorem State.onDispatch_ro (s : State) (f : Dispatch → Dispatch) : (s.onDispatch f).ro = s.ro := rfl
@[simp] theorem State.onDispatch_dl (s : State) (f : Dispatch → Dispatch) : (s.onDispatch f).dl = s.dl := rfl
@[simp] theorem State.onDispatch_ls (s : State) (f : Dispatch → Dispatch) : (s.onDispatch f).ls = s.ls := rfl
@[simp] theorem State.onDispatch_pending (s : State) (f : Dispatch → Dispatch) : (s.onDispatch f).pending = s.pending := rfl
@[simp] theorem State.onDispatch_now (s : State) (f : Dispatch → Dispatch) : (s.onDispatch f).now = s.now := rfl
@[simp] theorem State.onDispatch_out (s : State) (f : Dispatch → Dispatch) : (s.onDispatch f).out = s.out := rfl
@[simp] theorem State.onDispatch_freeIdx (s : State) (f : Dispatch → Dispatch) : (s.onDispatch f).freeIdx = s.freeIdx := rfl
@[simp] theorem State.onDispatch_cfg (s : State) (f : Dispatch → Dispatch) : (s.onDispatch f).cfg = s.cfg := rfl

@[simp] theorem State.onRantus_pw (s : State) (f : Rantus → Rantus) : (s.onRantus f).pw = s.pw := rfl
@[simp] theorem State.onRantus_th (s : State) (f : Rantus → Rantus) : (s.onRantus f).th = s.th := rfl
@[simp] theorem State.onRantus_ra (s : State) (f : Rantus → Rantus) : (s.onRantus f).ra = s.ra := rfl
@[simp] theorem State.onRantus_acq (s : State) (f : Rantus → Rantus) : (s.onRantus f).acq = s.acq := rfl
@[simp] theorem State.onRantus_sg (s : State) (f : Rantus → Rantus) : (s.onRantus f).sg = s.sg := rfl
@[simp] theorem State.onRantus_ch (s : State) (f : Rantus → Rantus) : (s.onRantus f).ch = s.ch := rfl
@[simp] theorem State.onRantus_lim (s : State) (f : Rantus → Rantus) : (s.onRantus f).lim = s.lim := rfl
@[simp] theorem State.onRantus_ba (s : State) (f : Rantus → Rantus) : (s.onRantus f).ba = s.ba := rfl
@[simp] theorem State.onRantus_tm (s : State) (f : Rantus → Rantus) : (s.onRantus f).tm = s.tm := rfl
@[simp] theorem State.onRantus_pr (s : State) (f : Rantus → Rantus) : (s.onRantus f).pr = s.pr := rfl
@[simp] theorem State.onRantus_ct (s : State) (f : Rantus → Rantus) : (s.onRantus f).ct = s.ct := rfl
@[simp] theorem State.onRantus_sf (s : State) (f : Rantus → Rantus) : (s.onRantus f).sf = s.sf := rfl
@[simp] theorem State.onRantus_tw (s : State) (f : Rantus → Rantus) : (s.onRantus f).tw = s.tw := rfl
@[simp] theorem State.onRantus_ma (s : State) (f : Rantus → Rantus) : (s.onRantus f).ma = s.ma := rfl
@[simp] theorem State.onRantus_di (s : State) (f : Rantus → Rantus) : (s.onRantus f).di = s.di := rfl
@[simp] theorem State.onRantus_rt (s : State) (f : Rantus → Rantus) : (s.onRantus f).rt = f s.rt := rfl
@[simp] theorem State.onRantus_nt (s : State) (f : Rantus → Rantus) : (s.onRantus f).nt = s.nt := rfl
@[simp] theorem State.onRantus_cn (s : State) (f : Rantus → Rantus) : (s.onRantus f).cn = s.cn := rfl
@[simp] theorem State.onRantus_pg (s : State) (f : Rantus → Rantus) : (s.onRantus f).pg = s.pg := rfl
@[simp] theorem State.onRantus_up (s : State) (f : Rantus → Rantus) : (s.onRantus f).up = s.up := rfl
@[simp] theorem State.onRantus_ro (s : State) (f : Rantus → Rantus) : (s.onRantus f).ro = s.ro := rfl
@[simp] theorem State.onRantus_dl (s : State) (f : Rantus → Rantus) : (s.onRantus f).dl = s.dl := rfl
@[simp] theorem State.onRantus_ls (s : State) (f : Rantus → Rantus) : (s.onRantus f).ls = s.ls := rfl
@[simp] theorem State.onRantus_pending (s : State) (f : Rantus → Rantus) : (s.onRantus f).pending = s.pending := rfl
@[simp] theorem State.onRantus_now (s : State) (f : Rantus → Rantus) : (s.onRantus f).now = s.now := rfl
@[simp] theorem State.onRantus_out (s : State) (f : Rantus → Rantus) : (s.onRantus f).out = s.out := rfl
@[simp] theorem State.onRantus_freeIdx (s : State) (f : Rantus → Rantus) : (s.onRantus f).freeIdx = s.freeIdx := rfl
@[simp] theorem State.onRantus_cfg (s : State) (f : Rantus → Rantus) : (s.onRantus f).cfg = s.cfg := rfl

@[simp] theorem State.onNet_pw (s : State) (f : Net → Net) : (s.onNet f).pw = s.pw := rfl
@[simp] theorem State.onNet_th (s : State) (f : Net → Net) : (s.onNet f).th = s.th := rfl
@[simp] theorem State.onNet_ra (s : State) (f : Net → Net) : (s.onNet f).ra = s.ra := rfl
@[simp] theorem State.onNet_acq (s : State) (f : Net → Net) : (s.onNet f).acq = s.acq := rfl
@[simp] theorem State.onNet_sg (s : State) (f : Net → Net) : (s.onNet f).sg = s.sg := rfl
@[simp] theorem State.onNet_ch (s : State) (f : Net → Net) : (s.onNet f).ch = s.ch := rfl
@[simp] theorem State.onNet_lim (s : State) (f : Net → Net) : (s.onNet f).lim = s.lim := rfl
@[simp] theorem State.onNet_ba (s : State) (f : Net → Net) : (s.onNet f).ba = s.ba := rfl
@[simp] theorem State.onNet_tm (s : State) (f : Net → Net) : (s.onNet f).tm = s.tm := rfl
@[simp] theorem State.onNet_pr (s : State) (f : Net → Net) : (s.onNet f).pr = s.pr := rfl
@[simp] theorem State.onNet_ct (s : State) (f : Net → Net) : (s.onNet f).ct = s.ct := rfl
@[simp] theorem State.onNet_sf (s : State) (f : Net → Net) : (s.onNet f).sf = s.sf := rfl
@[simp] theorem State.onNet_tw (s : State) (f : Net → Net) : (s.onNet f).tw = s.tw := rfl
@[simp] theorem State.onNet_ma (s : State) (f : Net → Net) : (s.onNet f).ma = s.ma := rfl
@[simp] theorem State.onNet_di (s : State) (f : Net → Net) : (s.onNet f).di = s.di := rfl
@[simp] theorem State.onNet_rt (s : State) (f : Net → Net) : (s.onNet f).rt = s.rt := rfl
@[simp] theorem State.onNet_nt (s : State) (f : Net → Net) : (s.onNet f).nt = f s.nt := rfl
@[simp] theorem State.onNet_cn (s : State) (f : Net → Net) : (s.onNet f).cn = s.cn := rfl
@[simp] theorem State.onNet_pg (s : State) (f : Net → Net) : (s.onNet f).pg = s.pg := rfl
@[simp] theorem State.onNet_up (s : State) (f : Net → Net) : (s.onNet f).up = s.up := rfl
@[simp] theorem State.onNet_ro (s : State) (f : Net → Net) : (s.onNet f).ro = s.ro := rfl
@[simp] theorem State.onNet_dl (s : State) (f : Net → Net) : (s.onNet f).dl = s.dl := rfl
@[simp] theorem State.onNet_ls (s : State) (f : Net → Net) : (s.onNet f).ls = s.ls := rfl
@[simp] theorem State.onNet_pending (s : State) (f : Net → Net) : (s.onNet f).pending = s.pending := rfl
@[simp] theorem State.onNet_now (s : State) (f : Net → Net) : (s.onNet f).now = s.now := rfl
@[simp] theorem State.onNet_out (s : State) (f : Net → Net) : (s.onNet f).out = s.out := rfl
@[simp] theorem State.onNet_freeIdx (s : State) (f : Net → Net) : (s.onNet f).freeIdx = s.freeIdx := rfl
@[simp] theorem State.onNet_cfg (s : State) (f : Net → Net) : (s.onNet f).cfg = s.cfg := rfl

@[simp] theorem State.onCan_pw (s : State) (f : Can → Can) : (s.onCan f).pw = s.pw := rfl
@[simp] theorem State.onCan_th (s : State) (f : Can → Can) : (s.onCan f).th = s.th := rfl
@[simp] theorem State.onCan_ra (s : State) (f : Can → Can) : (s.onCan f).ra = s.ra := rfl
@[simp] theorem State.onCan_acq (s : State) (f : Can → Can) : (s.onCan f).acq = s.acq := rfl
@[simp] theorem State.onCan_sg (s : State) (f : Can → Can) : (s.onCan f).sg = s.sg := rfl
@[simp] theorem State.onCan_ch (s : State) (f : Can → Can) : (s.onCan f).ch = s.ch := rfl
@[simp] theorem State.onCan_lim (s : State) (f : Can → Can) : (s.onCan f).lim = s.lim := rfl
@[simp] theorem State.onCan_ba (s : State) (f : Can → Can) : (s.onCan f).ba = s.ba := rfl
@[simp] theorem State.onCan_tm (s : State) (f : Can → Can) : (s.onCan f).tm = s.tm := rfl
@[simp] theorem State.onCan_pr (s : State) (f : Can → Can) : (s.onCan f).pr = s.pr := rfl
@[simp] theorem State.onCan_ct (s : State) (f : Can → Can) : (s.onCan f).ct = s.ct := rfl
@[simp] theorem State.onCan_sf (s : State) (f : Can → Can) : (s.onCan f).sf = s.sf := rfl
@[simp] theorem State.onCan_tw (s : State) (f : Can → Can) : (s.onCan f).tw = s.tw := rfl
@[simp] theorem State.onCan_ma (s : State) (f : Can → Can) : (s.onCan f).ma = s.ma := rfl
@[simp] theorem State.onCan_di (s : State) (f : Can → Can) : (s.onCan f).di = s.di := rfl
@[simp] theorem State.onCan_rt (s : State) (f : Can → Can) : (s.onCan f).rt = s.rt := rfl
@[simp] theorem State.onCan_nt (s : State) (f : Can → Can) : (s.onCan f).nt = s.nt := rfl
@[simp] theorem State.onCan_cn (s : State) (f : Can → Can) : (s.onCan f).cn = f s.cn := rfl
@[simp] theorem State.onCan_pg (s : State) (f : Can → Can) : (s.onCan f).pg = s.pg := rfl
@[simp] theorem State.onCan_up (s : State) (f : Can → Can) : (s.onCan f).up = s.up := rfl
@[simp] theorem State.onCan_ro (s : State) (f : Can → Can) : (s.onCan f).ro = s.ro := rfl
@[simp] theorem State.onCan_dl (s : State) (f : Can → Can) : (s.onCan f).dl = s.dl := rfl
@[simp] theorem State.onCan_ls (s : State) (f : Can → Can) : (s.onCan f).ls = s.ls := rfl
@[simp] theorem State.onCan_pending (s : State) (f : Can → Can) : (s.onCan f).pending = s.pending := rfl
@[simp] theorem State.onCan_now (s : State) (f : Can → Can) : (s.onCan f).now = s.now := rfl
@[simp] theorem State.onCan_out (s : State) (f : Can → Can) : (s.onCan f).out = s.out := rfl
@[simp] theorem State.onCan_freeIdx (s : State) (f : Can → Can) : (s.onCan f).freeIdx = s.freeIdx := rfl
@[simp] theorem State.onCan_cfg (s : State) (f : Can → Can) : (s.onCan f).cfg = s.cfg := rfl

@[simp] theorem State.onPlug_pw (s : State) (f : Plug → Plug) : (s.onPlug f).pw = s.pw := rfl
@[simp] theorem State.onPlug_th (s : State) (f : Plug → Plug) : (s.onPlug f).th = s.th := rfl
@[simp] theorem State.onPlug_ra (s : State) (f : Plug → Plug) : (s.onPlug f).ra = s.ra := rfl
@[simp] theorem State.onPlug_acq (s : State) (f : Plug → Plug) : (s.onPlug f).acq = s.acq := rfl
@[simp] theorem State.onPlug_sg (s : State) (f : Plug → Plug) : (s.onPlug f).sg = s.sg := rfl
@[simp] theorem State.onPlug_ch (s : State) (f : Plug → Plug) : (s.onPlug f).ch = s.ch := rfl
@[simp] theorem State.onPlug_lim (s : State) (f : Plug → Plug) : (s.onPlug f).lim = s.lim := rfl
@[simp] theorem State.onPlug_ba (s : State) (f : Plug → Plug) : (s.onPlug f).ba = s.ba := rfl
@[simp] theorem State.onPlug_tm (s : State) (f : Plug → Plug) : (s.onPlug f).tm = s.tm := rfl
@[simp] theorem State.onPlug_pr (s : State) (f : Plug → Plug) : (s.onPlug f).pr = s.pr := rfl
@[simp] theorem State.onPlug_ct (s : State) (f : Plug → Plug) : (s.onPlug f).ct = s.ct := rfl
@[simp] theorem State.onPlug_sf (s : State) (f : Plug → Plug) : (s.onPlug f).sf = s.sf := rfl
@[simp] theorem State.onPlug_tw (s : State) (f : Plug → Plug) : (s.onPlug f).tw = s.tw := rfl
@[simp] theorem State.onPlug_ma (s : State) (f : Plug → Plug) : (s.onPlug f).ma = s.ma := rfl
@[simp] theorem State.onPlug_di (s : State) (f : Plug → Plug) : (s.onPlug f).di = s.di := rfl
@[simp] theorem State.onPlug_rt (s : State) (f : Plug → Plug) : (s.onPlug f).rt = s.rt := rfl
@[simp] theorem State.onPlug_nt (s : State) (f : Plug → Plug) : (s.onPlug f).nt = s.nt := rfl
@[simp] theorem State.onPlug_cn (s : State) (f : Plug → Plug) : (s.onPlug f).cn = s.cn := rfl
@[simp] theorem State.onPlug_pg (s : State) (f : Plug → Plug) : (s.onPlug f).pg = f s.pg := rfl
@[simp] theorem State.onPlug_up (s : State) (f : Plug → Plug) : (s.onPlug f).up = s.up := rfl
@[simp] theorem State.onPlug_ro (s : State) (f : Plug → Plug) : (s.onPlug f).ro = s.ro := rfl
@[simp] theorem State.onPlug_dl (s : State) (f : Plug → Plug) : (s.onPlug f).dl = s.dl := rfl
@[simp] theorem State.onPlug_ls (s : State) (f : Plug → Plug) : (s.onPlug f).ls = s.ls := rfl
@[simp] theorem State.onPlug_pending (s : State) (f : Plug → Plug) : (s.onPlug f).pending = s.pending := rfl
@[simp] theorem State.onPlug_now (s : State) (f : Plug → Plug) : (s.onPlug f).now = s.now := rfl
@[simp] theorem State.onPlug_out (s : State) (f : Plug → Plug) : (s.onPlug f).out = s.out := rfl
@[simp] theorem State.onPlug_freeIdx (s : State) (f : Plug → Plug) : (s.onPlug f).freeIdx = s.freeIdx := rfl
@[simp] theorem State.onPlug_cfg (s : State) (f : Plug → Plug) : (s.onPlug f).cfg = s.cfg := rfl

@[simp] theorem State.onUpdate_pw (s : State) (f : Update → Update) : (s.onUpdate f).pw = s.pw := rfl
@[simp] theorem State.onUpdate_th (s : State) (f : Update → Update) : (s.onUpdate f).th = s.th := rfl
@[simp] theorem State.onUpdate_ra (s : State) (f : Update → Update) : (s.onUpdate f).ra = s.ra := rfl
@[simp] theorem State.onUpdate_acq (s : State) (f : Update → Update) : (s.onUpdate f).acq = s.acq := rfl
@[simp] theorem State.onUpdate_sg (s : State) (f : Update → Update) : (s.onUpdate f).sg = s.sg := rfl
@[simp] theorem State.onUpdate_ch (s : State) (f : Update → Update) : (s.onUpdate f).ch = s.ch := rfl
@[simp] theorem State.onUpdate_lim (s : State) (f : Update → Update) : (s.onUpdate f).lim = s.lim := rfl
@[simp] theorem State.onUpdate_ba (s : State) (f : Update → Update) : (s.onUpdate f).ba = s.ba := rfl
@[simp] theorem State.onUpdate_tm (s : State) (f : Update → Update) : (s.onUpdate f).tm = s.tm := rfl
@[simp] theorem State.onUpdate_pr (s : State) (f : Update → Update) : (s.onUpdate f).pr = s.pr := rfl
@[simp] theorem State.onUpdate_ct (s : State) (f : Update → Update) : (s.onUpdate f).ct = s.ct := rfl
@[simp] theorem State.onUpdate_sf (s : State) (f : Update → Update) : (s.onUpdate f).sf = s.sf := rfl
@[simp] theorem State.onUpdate_tw (s : State) (f : Update → Update) : (s.onUpdate f).tw = s.tw := rfl
@[simp] theorem State.onUpdate_ma (s : State) (f : Update → Update) : (s.onUpdate f).ma = s.ma := rfl
@[simp] theorem State.onUpdate_di (s : State) (f : Update → Update) : (s.onUpdate f).di = s.di := rfl
@[simp] theorem State.onUpdate_rt (s : State) (f : Update → Update) : (s.onUpdate f).rt = s.rt := rfl
@[simp] theorem State.onUpdate_nt (s : State) (f : Update → Update) : (s.onUpdate f).nt = s.nt := rfl
@[simp] theorem State.onUpdate_cn (s : State) (f : Update → Update) : (s.onUpdate f).cn = s.cn := rfl
@[simp] theorem State.onUpdate_pg (s : State) (f : Update → Update) : (s.onUpdate f).pg = s.pg := rfl
@[simp] theorem State.onUpdate_up (s : State) (f : Update → Update) : (s.onUpdate f).up = f s.up := rfl
@[simp] theorem State.onUpdate_ro (s : State) (f : Update → Update) : (s.onUpdate f).ro = s.ro := rfl
@[simp] theorem State.onUpdate_dl (s : State) (f : Update → Update) : (s.onUpdate f).dl = s.dl := rfl
@[simp] theorem State.onUpdate_ls (s : State) (f : Update → Update) : (s.onUpdate f).ls = s.ls := rfl
@[simp] theorem State.onUpdate_pending (s : State) (f : Update → Update) : (s.onUpdate f).pending = s.pending := rfl
@[simp] theorem State.onUpdate_now (s : State) (f : Update → Update) : (s.onUpdate f).now = s.now := rfl
@[simp] theorem State.onUpdate_out (s : State) (f : Update → Update) : (s.onUpdate f).out = s.out := rfl
@[simp] theorem State.onUpdate_freeIdx (s : State) (f : Update → Update) : (s.onUpdate f).freeIdx = s.freeIdx := rfl
@[simp] theorem State.onUpdate_cfg (s : State) (f : Update → Update) : (s.onUpdate f).cfg = s.cfg := rfl

@[simp] theorem State.onRosemary_pw (s : State) (f : Rosemary → Rosemary) : (s.onRosemary f).pw = s.pw := rfl
@[simp] theorem State.onRosemary_th (s : State) (f : Rosemary → Rosemary) : (s.onRosemary f).th = s.th := rfl
@[simp] theorem State.onRosemary_ra (s : State) (f : Rosemary → Rosemary) : (s.onRosemary f).ra = s.ra := rfl
@[simp] theorem State.onRosemary_acq (s : State) (f : Rosemary → Rosemary) : (s.onRosemary f).acq = s.acq := rfl
@[simp] theorem State.onRosemary_sg (s : State) (f : Rosemary → Rosemary) : (s.onRosemary f).sg = s.sg := rfl
@[simp] theorem State.onRosemary_ch (s : State) (f : Rosemary → Rosemary) : (s.onRosemary f).ch = s.ch := rfl
@[simp] theorem State.onRosemary_lim (s : State) (f : Rosemary → Rosemary) : (s.onRosemary f).lim = s.lim := rfl
@[simp] theorem State.onRosemary_ba (s : State) (f : Rosemary → Rosemary) : (s.onRosemary f).ba = s.ba := rfl
@[simp] theorem State.onRosemary_tm (s : State) (f : Rosemary → Rosemary) : (s.onRosemary f).tm = s.tm := rfl
@[simp] theorem State.onRosemary_pr (s : State) (f : Rosemary → Rosemary) : (s.onRosemary f).pr = s.pr := rfl
@[simp] theorem State.onRosemary_ct (s : State) (f : Rosemary → Rosemary) : (s.onRosemary f).ct = s.ct := rfl
@[simp] theorem State.onRosemary_sf (s : State) (f : Rosemary → Rosemary) : (s.onRosemary f).sf = s.sf := rfl
@[simp] theorem State.onRosemary_tw (s : State) (f : Rosemary → Rosemary) : (s.onRosemary f).tw = s.tw := rfl
@[simp] theorem State.onRosemary_ma (s : State) (f : Rosemary → Rosemary) : (s.onRosemary f).ma = s.ma := rfl
@[simp] theorem State.onRosemary_di (s : State) (f : Rosemary → Rosemary) : (s.onRosemary f).di = s.di := rfl
@[simp] theorem State.onRosemary_rt (s : State) (f : Rosemary → Rosemary) : (s.onRosemary f).rt = s.rt := rfl
@[simp] theorem State.onRosemary_nt (s : State) (f : Rosemary → Rosemary) : (s.onRosemary f).nt = s.nt := rfl
@[simp] theorem State.onRosemary_cn (s : State) (f : Rosemary → Rosemary) : (s.onRosemary f).cn = s.cn := rfl
@[simp] theorem State.onRosemary_pg (s : State) (f : Rosemary → Rosemary) : (s.onRosemary f).pg = s.pg := rfl
@[simp] theorem State.onRosemary_up (s : State) (f : Rosemary → Rosemary) : (s.onRosemary f).up = s.up := rfl
@[simp] theorem State.onRosemary_ro (s : State) (f : Rosemary → Rosemary) : (s.onRosemary f).ro = f s.ro := rfl
@[simp] theorem State.onRosemary_dl (s : State) (f : Rosemary → Rosemary) : (s.onRosemary f).dl = s.dl := rfl
@[simp] theorem State.onRosemary_ls (s : State) (f : Rosemary → Rosemary) : (s.onRosemary f).ls = s.ls := rfl
@[simp] theorem State.onRosemary_pending (s : State) (f : Rosemary → Rosemary) : (s.onRosemary f).pending = s.pending := rfl
@[simp] theorem State.onRosemary_now (s : State) (f : Rosemary → Rosemary) : (s.onRosemary f).now = s.now := rfl
@[simp] theorem State.onRosemary_out (s : State) (f : Rosemary → Rosemary) : (s.onRosemary f).out = s.out := rfl
@[simp] theorem State.onRosemary_freeIdx (s : State) (f : Rosemary → Rosemary) : (s.onRosemary f).freeIdx = s.freeIdx := rfl
@[simp] theorem State.onRosemary_cfg (s : State) (f : Rosemary → Rosemary) : (s.onRosemary f).cfg = s.cfg := rfl

@[simp] theorem State.onDill_pw (s : State) (f : Dill → Dill) : (s.onDill f).pw = s.pw := rfl
@[simp] theorem State.onDill_th (s : State) (f : Dill → Dill) : (s.onDill f).th = s.th := rfl
@[simp] theorem State.onDill_ra (s : State) (f : Dill → Dill) : (s.onDill f).ra = s.ra := rfl
@[simp] theorem State.onDill_acq (s : State) (f : Dill → Dill) : (s.onDill f).acq = s.acq := rfl
@[simp] theorem State.onDill_sg (s : State) (f : Dill → Dill) : (s.onDill f).sg = s.sg := rfl
@[simp] theorem State.onDill_ch (s : State) (f : Dill → Dill) : (s.onDill f).ch = s.ch := rfl
@[simp] theorem State.onDill_lim (s : State) (f : Dill → Dill) : (s.onDill f).lim = s.lim := rfl
@[simp] theorem State.onDill_ba (s : State) (f : Dill → Dill) : (s.onDill f).ba = s.ba := rfl
@[simp] theorem State.onDill_tm (s : State) (f : Dill → Dill) : (s.onDill f).tm = s.tm := rfl
@[simp] theorem State.onDill_pr (s : State) (f : Dill → Dill) : (s.onDill f).pr = s.pr := rfl
@[simp] theorem State.onDill_ct (s : State) (f : Dill → Dill) : (s.onDill f).ct = s.ct := rfl
@[simp] theorem State.onDill_sf (s : State) (f : Dill → Dill) : (s.onDill f).sf = s.sf := rfl
@[simp] theorem State.onDill_tw (s : State) (f : Dill → Dill) : (s.onDill f).tw = s.tw := rfl
@[simp] theorem State.onDill_ma (s : State) (f : Dill → Dill) : (s.onDill f).ma = s.ma := rfl
@[simp] theorem State.onDill_di (s : State) (f : Dill → Dill) : (s.onDill f).di = s.di := rfl
@[simp] theorem State.onDill_rt (s : State) (f : Dill → Dill) : (s.onDill f).rt = s.rt := rfl
@[simp] theorem State.onDill_nt (s : State) (f : Dill → Dill) : (s.onDill f).nt = s.nt := rfl
@[simp] theorem State.onDill_cn (s : State) (f : Dill → Dill) : (s.onDill f).cn = s.cn := rfl
@[simp] theorem State.onDill_pg (s : State) (f : Dill → Dill) : (s.onDill f).pg = s.pg := rfl
@[simp] theorem State.onDill_up (s : State) (f : Dill → Dill) : (s.onDill f).up = s.up := rfl
@[simp] theorem State.onDill_ro (s : State) (f : Dill → Dill) : (s.onDill f).ro = s.ro := rfl
@[simp] theorem State.onDill_dl (s : State) (f : Dill → Dill) : (s.onDill f).dl = f s.dl := rfl
@[simp] theorem State.onDill_ls (s : State) (f : Dill → Dill) : (s.onDill f).ls = s.ls := rfl
@[simp] theorem State.onDill_pending (s : State) (f : Dill → Dill) : (s.onDill f).pending = s.pending := rfl
@[simp] theorem State.onDill_now (s : State) (f : Dill → Dill) : (s.onDill f).now = s.now := rfl
@[simp] theorem State.onDill_out (s : State) (f : Dill → Dill) : (s.onDill f).out = s.out := rfl
@[simp] theorem State.onDill_freeIdx (s : State) (f : Dill → Dill) : (s.onDill f).freeIdx = s.freeIdx := rfl
@[simp] theorem State.onDill_cfg (s : State) (f : Dill → Dill) : (s.onDill f).cfg = s.cfg := rfl

@[simp] theorem State.onLearned_pw (s : State) (f : Learned → Learned) : (s.onLearned f).pw = s.pw := rfl
@[simp] theorem State.onLearned_th (s : State) (f : Learned → Learned) : (s.onLearned f).th = s.th := rfl
@[simp] theorem State.onLearned_ra (s : State) (f : Learned → Learned) : (s.onLearned f).ra = s.ra := rfl
@[simp] theorem State.onLearned_acq (s : State) (f : Learned → Learned) : (s.onLearned f).acq = s.acq := rfl
@[simp] theorem State.onLearned_sg (s : State) (f : Learned → Learned) : (s.onLearned f).sg = s.sg := rfl
@[simp] theorem State.onLearned_ch (s : State) (f : Learned → Learned) : (s.onLearned f).ch = s.ch := rfl
@[simp] theorem State.onLearned_lim (s : State) (f : Learned → Learned) : (s.onLearned f).lim = s.lim := rfl
@[simp] theorem State.onLearned_ba (s : State) (f : Learned → Learned) : (s.onLearned f).ba = s.ba := rfl
@[simp] theorem State.onLearned_tm (s : State) (f : Learned → Learned) : (s.onLearned f).tm = s.tm := rfl
@[simp] theorem State.onLearned_pr (s : State) (f : Learned → Learned) : (s.onLearned f).pr = s.pr := rfl
@[simp] theorem State.onLearned_ct (s : State) (f : Learned → Learned) : (s.onLearned f).ct = s.ct := rfl
@[simp] theorem State.onLearned_sf (s : State) (f : Learned → Learned) : (s.onLearned f).sf = s.sf := rfl
@[simp] theorem State.onLearned_tw (s : State) (f : Learned → Learned) : (s.onLearned f).tw = s.tw := rfl
@[simp] theorem State.onLearned_ma (s : State) (f : Learned → Learned) : (s.onLearned f).ma = s.ma := rfl
@[simp] theorem State.onLearned_di (s : State) (f : Learned → Learned) : (s.onLearned f).di = s.di := rfl
@[simp] theorem State.onLearned_rt (s : State) (f : Learned → Learned) : (s.onLearned f).rt = s.rt := rfl
@[simp] theorem State.onLearned_nt (s : State) (f : Learned → Learned) : (s.onLearned f).nt = s.nt := rfl
@[simp] theorem State.onLearned_cn (s : State) (f : Learned → Learned) : (s.onLearned f).cn = s.cn := rfl
@[simp] theorem State.onLearned_pg (s : State) (f : Learned → Learned) : (s.onLearned f).pg = s.pg := rfl
@[simp] theorem State.onLearned_up (s : State) (f : Learned → Learned) : (s.onLearned f).up = s.up := rfl
@[simp] theorem State.onLearned_ro (s : State) (f : Learned → Learned) : (s.onLearned f).ro = s.ro := rfl
@[simp] theorem State.onLearned_dl (s : State) (f : Learned → Learned) : (s.onLearned f).dl = s.dl := rfl
@[simp] theorem State.onLearned_ls (s : State) (f : Learned → Learned) : (s.onLearned f).ls = f s.ls := rfl
@[simp] theorem State.onLearned_pending (s : State) (f : Learned → Learned) : (s.onLearned f).pending = s.pending := rfl
@[simp] theorem State.onLearned_now (s : State) (f : Learned → Learned) : (s.onLearned f).now = s.now := rfl
@[simp] theorem State.onLearned_out (s : State) (f : Learned → Learned) : (s.onLearned f).out = s.out := rfl
@[simp] theorem State.onLearned_freeIdx (s : State) (f : Learned → Learned) : (s.onLearned f).freeIdx = s.freeIdx := rfl
@[simp] theorem State.onLearned_cfg (s : State) (f : Learned → Learned) : (s.onLearned f).cfg = s.cfg := rfl

end Sys2Proof.Machine
end

