-- ==== Sys2Proof/Laws/Bare.lean ====
section
/-! SUPPORT. Sys2Proof/Laws/Bare.lean: what every step follows up by rule (records, publications, emissions, the settled state) leaves alone
whatever a command's own effect writes. -/

namespace Sys2Proof.Machine

open Sys2Proof

/-- The state without the recorder, the learned-state items, the emissions and the publication store: all that a record or a publication writes. -/
def State.quiet (s : State) : State := { s with ro := {}, ls := {}, out := [], nt := { s.nt with store := {} } }

theorem bare_of_quiet {a b : State} (h : a.quiet = b.quiet) : a.bare = b.bare := (congrArg State.bare h :)

@[simp] theorem emit_quiet (s : State) (k : EmKind) (p : Nat) (b : List Nat) : (s.emit k p b).quiet = s.quiet := rfl
@[simp] theorem onRosemary_quiet (s : State) (f : Rosemary → Rosemary) : (s.onRosemary f).quiet = s.quiet := rfl
@[simp] theorem onLearned_quiet (s : State) (f : Learned → Learned) : (s.onLearned f).quiet = s.quiet := rfl

@[simp] theorem publish_quiet (s : State) (o : Nat) (b : List Nat) : (s.publish o b).quiet = s.quiet := by
  unfold State.publish; split <;> rfl

@[simp] theorem publishEvent_quiet (s : State) (r : EvRecord) : (s.publishEvent r).quiet = s.quiet := publish_quiet ..

@[simp] theorem followSend_quiet (s : State) (k : EmKind) (t : Nat) (p : List Nat) : (s.followSend k t p).quiet = s.quiet := rfl

@[simp] theorem writeItem_quiet (s : State) (k : Nat) (p : List Nat) : (s.writeItem k p).quiet = s.quiet := by
  unfold State.writeItem
  dsimp only
  rw [onLearned_quiet]
  split
  · exact followSend_quiet ..
  · rfl

@[simp] theorem writeReservation_quiet (s : State) (v : Nat) : (s.writeReservation v).quiet = s.quiet := by
  simp [State.writeReservation]

@[simp] theorem tally_quiet (s : State) (e : Ev) : (s.tally e).quiet = s.quiet := rfl

@[simp] theorem enterStore_quiet (s : State) (r : EvRecord) : (s.enterStore r).1.quiet = s.quiet := by
  unfold State.enterStore
  dsimp only
  split
  · rfl
  · split
    · rfl
    · split <;> rfl

@[simp] theorem closeRecord_quiet (s : State) (r : EvRecord) : (s.closeRecord r).1.quiet = s.quiet := by
  unfold State.closeRecord
  dsimp only
  split <;> simp

@[simp] theorem assignSeq_quiet (s : State) : s.assignSeq.2.quiet = s.quiet := by
  unfold State.assignSeq
  dsimp only
  split <;> simp

@[simp] theorem openRecord_quiet (s : State) (e : Ev) (n : Nat) (d : List Nat) : (s.openRecord e n d).1.quiet = s.quiet := by
  unfold State.openRecord
  dsimp only
  split <;> (try split) <;> simp

@[simp] theorem replaceOpen_quiet (s : State) (r : EvRecord) : (s.replaceOpen r).quiet = s.quiet := rfl

@[simp] theorem spendToken_quiet (s : State) (e : Ev) : (s.spendToken e).quiet = s.quiet := rfl

@[simp] theorem ceilingReached_quiet (s : State) (n : Nat) : (s.ceilingReached n).quiet = s.quiet := by
  unfold State.ceilingReached
  split
  · rfl
  · split <;> simp

@[simp] theorem openAndReport_quiet (s : State) (e : Ev) (n : Nat) (d : List Nat) : (s.openAndReport e n d).quiet = s.quiet := by
  unfold State.openAndReport
  have h := openRecord_quiet s e n d
  split <;> rename_i x <;> simp_all

@[simp] theorem closeAndReport_quiet (s : State) (r : EvRecord) : (s.closeAndReport r).quiet = s.quiet := by
  unfold State.closeAndReport
  have h := closeRecord_quiet s r
  split <;> rename_i x <;> simp_all

@[simp] theorem occur_quiet (s : State) (e : Ev) (n : Nat) (d : List Nat) : (s.occur e n d).quiet = s.quiet := by
  unfold State.occur
  split
  · dsimp only; split <;> simp
  · split
    · simp
    · split <;> simp

@[simp] theorem closeOld_quiet (s : State) (e : Ev) (n : Nat) : (s.closeOld e n).quiet = s.quiet := by
  unfold State.closeOld
  split
  · split <;> simp
  · rfl

@[simp] theorem recordAlways_quiet (s : State) (e : Ev) (n : Nat) (d : List Nat) : (s.recordAlways e n d).quiet = s.quiet := by
  rw [State.recordAlways, occur_quiet, closeOld_quiet]

@[simp] theorem record_quiet (s : State) (e : Ev) (n : Nat) (d : List Nat) : (s.record e n d).quiet = s.quiet := by
  unfold State.record
  split
  · rfl
  · exact recordAlways_quiet ..

@[simp] theorem record_pw (s : State) (e : Ev) (n : Nat) (d : List Nat) : (s.record e n d).pw = s.pw := (congrArg State.pw (record_quiet s e n d) :)
@[simp] theorem record_th (s : State) (e : Ev) (n : Nat) (d : List Nat) : (s.record e n d).th = s.th := (congrArg State.th (record_quiet s e n d) :)
@[simp] theorem record_ra (s : State) (e : Ev) (n : Nat) (d : List Nat) : (s.record e n d).ra = s.ra := (congrArg State.ra (record_quiet s e n d) :)
@[simp] theorem record_acq (s : State) (e : Ev) (n : Nat) (d : List Nat) : (s.record e n d).acq = s.acq := (congrArg State.acq (record_quiet s e n d) :)
@[simp] theorem record_sg (s : State) (e : Ev) (n : Nat) (d : List Nat) : (s.record e n d).sg = s.sg := (congrArg State.sg (record_quiet s e n d) :)
@[simp] theorem record_ch (s : State) (e : Ev) (n : Nat) (d : List Nat) : (s.record e n d).ch = s.ch := (congrArg State.ch (record_quiet s e n d) :)
@[simp] theorem record_lim (s : State) (e : Ev) (n : Nat) (d : List Nat) : (s.record e n d).lim = s.lim := (congrArg State.lim (record_quiet s e n d) :)
@[simp] theorem record_ba (s : State) (e : Ev) (n : Nat) (d : List Nat) : (s.record e n d).ba = s.ba := (congrArg State.ba (record_quiet s e n d) :)
@[simp] theorem record_tm (s : State) (e : Ev) (n : Nat) (d : List Nat) : (s.record e n d).tm = s.tm := (congrArg State.tm (record_quiet s e n d) :)
@[simp] theorem record_pr (s : State) (e : Ev) (n : Nat) (d : List Nat) : (s.record e n d).pr = s.pr := (congrArg State.pr (record_quiet s e n d) :)
@[simp] theorem record_ct (s : State) (e : Ev) (n : Nat) (d : List Nat) : (s.record e n d).ct = s.ct := (congrArg State.ct (record_quiet s e n d) :)
@[simp] theorem record_sf (s : State) (e : Ev) (n : Nat) (d : List Nat) : (s.record e n d).sf = s.sf := (congrArg State.sf (record_quiet s e n d) :)
@[simp] theorem record_tw (s : State) (e : Ev) (n : Nat) (d : List Nat) : (s.record e n d).tw = s.tw := (congrArg State.tw (record_quiet s e n d) :)
@[simp] theorem record_ma (s : State) (e : Ev) (n : Nat) (d : List Nat) : (s.record e n d).ma = s.ma := (congrArg State.ma (record_quiet s e n d) :)
@[simp] theorem record_di (s : State) (e : Ev) (n : Nat) (d : List Nat) : (s.record e n d).di = s.di := (congrArg State.di (record_quiet s e n d) :)
@[simp] theorem record_rt (s : State) (e : Ev) (n : Nat) (d : List Nat) : (s.record e n d).rt = s.rt := (congrArg State.rt (record_quiet s e n d) :)
@[simp] theorem record_cn (s : State) (e : Ev) (n : Nat) (d : List Nat) : (s.record e n d).cn = s.cn := (congrArg State.cn (record_quiet s e n d) :)
@[simp] theorem record_pg (s : State) (e : Ev) (n : Nat) (d : List Nat) : (s.record e n d).pg = s.pg := (congrArg State.pg (record_quiet s e n d) :)
@[simp] theorem record_up (s : State) (e : Ev) (n : Nat) (d : List Nat) : (s.record e n d).up = s.up := (congrArg State.up (record_quiet s e n d) :)
@[simp] theorem record_dl (s : State) (e : Ev) (n : Nat) (d : List Nat) : (s.record e n d).dl = s.dl := (congrArg State.dl (record_quiet s e n d) :)
@[simp] theorem record_cfg (s : State) (e : Ev) (n : Nat) (d : List Nat) : (s.record e n d).cfg = s.cfg := (congrArg State.cfg (record_quiet s e n d) :)
@[simp] theorem record_now (s : State) (e : Ev) (n : Nat) (d : List Nat) : (s.record e n d).now = s.now := (congrArg State.now (record_quiet s e n d) :)
@[simp] theorem record_freeIdx (s : State) (e : Ev) (n : Nat) (d : List Nat) : (s.record e n d).freeIdx = s.freeIdx := (congrArg State.freeIdx (record_quiet s e n d) :)
@[simp] theorem record_pending (s : State) (e : Ev) (n : Nat) (d : List Nat) : (s.record e n d).pending = s.pending := (congrArg State.pending (record_quiet s e n d) :)
@[simp] theorem record_nt_ports (s : State) (e : Ev) (n : Nat) (d : List Nat) : (s.record e n d).nt.ports = s.nt.ports := (congrArg (fun x => x.nt.ports) (record_quiet s e n d) :)
@[simp] theorem record_nt_netLost (s : State) (e : Ev) (n : Nat) (d : List Nat) : (s.record e n d).nt.netLost = s.nt.netLost := (congrArg (fun x => x.nt.netLost) (record_quiet s e n d) :)
@[simp] theorem record_nt_sessions (s : State) (e : Ev) (n : Nat) (d : List Nat) : (s.record e n d).nt.sessions = s.nt.sessions := (congrArg (fun x => x.nt.sessions) (record_quiet s e n d) :)
@[simp] theorem record_nt_nextSession (s : State) (e : Ev) (n : Nat) (d : List Nat) : (s.record e n d).nt.nextSession = s.nt.nextSession := (congrArg (fun x => x.nt.nextSession) (record_quiet s e n d) :)
@[simp] theorem record_nt_echoTokens (s : State) (e : Ev) (n : Nat) (d : List Nat) : (s.record e n d).nt.echoTokens = s.nt.echoTokens := (congrArg (fun x => x.nt.echoTokens) (record_quiet s e n d) :)
@[simp] theorem record_nt_echoAt (s : State) (e : Ev) (n : Nat) (d : List Nat) : (s.record e n d).nt.echoAt = s.nt.echoAt := (congrArg (fun x => x.nt.echoAt) (record_quiet s e n d) :)
@[simp] theorem record_nt_echoDropped (s : State) (e : Ev) (n : Nat) (d : List Nat) : (s.record e n d).nt.echoDropped = s.nt.echoDropped := (congrArg (fun x => x.nt.echoDropped) (record_quiet s e n d) :)
@[simp] theorem record_nt_pubs (s : State) (e : Ev) (n : Nat) (d : List Nat) : (s.record e n d).nt.pubs = s.nt.pubs := (congrArg (fun x => x.nt.pubs) (record_quiet s e n d) :)
@[simp] theorem record_nt_subs (s : State) (e : Ev) (n : Nat) (d : List Nat) : (s.record e n d).nt.subs = s.nt.subs := (congrArg (fun x => x.nt.subs) (record_quiet s e n d) :)
@[simp] theorem record_nt_prpSeq (s : State) (e : Ev) (n : Nat) (d : List Nat) : (s.record e n d).nt.prpSeq = s.nt.prpSeq := (congrArg (fun x => x.nt.prpSeq) (record_quiet s e n d) :)
@[simp] theorem record_nt_teleBad (s : State) (e : Ev) (n : Nat) (d : List Nat) : (s.record e n d).nt.teleBad = s.nt.teleBad := (congrArg (fun x => x.nt.teleBad) (record_quiet s e n d) :)

@[simp] theorem publish_pw (s : State) (o : Nat) (b : List Nat) : (s.publish o b).pw = s.pw := (congrArg State.pw (publish_quiet s o b) :)
@[simp] theorem publish_th (s : State) (o : Nat) (b : List Nat) : (s.publish o b).th = s.th := (congrArg State.th (publish_quiet s o b) :)
@[simp] theorem publish_ra (s : State) (o : Nat) (b : List Nat) : (s.publish o b).ra = s.ra := (congrArg State.ra (publish_quiet s o b) :)
@[simp] theorem publish_acq (s : State) (o : Nat) (b : List Nat) : (s.publish o b).acq = s.acq := (congrArg State.acq (publish_quiet s o b) :)
@[simp] theorem publish_sg (s : State) (o : Nat) (b : List Nat) : (s.publish o b).sg = s.sg := (congrArg State.sg (publish_quiet s o b) :)
@[simp] theorem publish_ch (s : State) (o : Nat) (b : List Nat) : (s.publish o b).ch = s.ch := (congrArg State.ch (publish_quiet s o b) :)
@[simp] theorem publish_lim (s : State) (o : Nat) (b : List Nat) : (s.publish o b).lim = s.lim := (congrArg State.lim (publish_quiet s o b) :)
@[simp] theorem publish_ba (s : State) (o : Nat) (b : List Nat) : (s.publish o b).ba = s.ba := (congrArg State.ba (publish_quiet s o b) :)
@[simp] theorem publish_tm (s : State) (o : Nat) (b : List Nat) : (s.publish o b).tm = s.tm := (congrArg State.tm (publish_quiet s o b) :)
@[simp] theorem publish_pr (s : State) (o : Nat) (b : List Nat) : (s.publish o b).pr = s.pr := (congrArg State.pr (publish_quiet s o b) :)
@[simp] theorem publish_ct (s : State) (o : Nat) (b : List Nat) : (s.publish o b).ct = s.ct := (congrArg State.ct (publish_quiet s o b) :)
@[simp] theorem publish_sf (s : State) (o : Nat) (b : List Nat) : (s.publish o b).sf = s.sf := (congrArg State.sf (publish_quiet s o b) :)
@[simp] theorem publish_tw (s : State) (o : Nat) (b : List Nat) : (s.publish o b).tw = s.tw := (congrArg State.tw (publish_quiet s o b) :)
@[simp] theorem publish_ma (s : State) (o : Nat) (b : List Nat) : (s.publish o b).ma = s.ma := (congrArg State.ma (publish_quiet s o b) :)
@[simp] theorem publish_di (s : State) (o : Nat) (b : List Nat) : (s.publish o b).di = s.di := (congrArg State.di (publish_quiet s o b) :)
@[simp] theorem publish_rt (s : State) (o : Nat) (b : List Nat) : (s.publish o b).rt = s.rt := (congrArg State.rt (publish_quiet s o b) :)
@[simp] theorem publish_cn (s : State) (o : Nat) (b : List Nat) : (s.publish o b).cn = s.cn := (congrArg State.cn (publish_quiet s o b) :)
@[simp] theorem publish_pg (s : State) (o : Nat) (b : List Nat) : (s.publish o b).pg = s.pg := (congrArg State.pg (publish_quiet s o b) :)
@[simp] theorem publish_up (s : State) (o : Nat) (b : List Nat) : (s.publish o b).up = s.up := (congrArg State.up (publish_quiet s o b) :)
@[simp] theorem publish_dl (s : State) (o : Nat) (b : List Nat) : (s.publish o b).dl = s.dl := (congrArg State.dl (publish_quiet s o b) :)
@[simp] theorem publish_cfg (s : State) (o : Nat) (b : List Nat) : (s.publish o b).cfg = s.cfg := (congrArg State.cfg (publish_quiet s o b) :)
@[simp] theorem publish_now (s : State) (o : Nat) (b : List Nat) : (s.publish o b).now = s.now := (congrArg State.now (publish_quiet s o b) :)
@[simp] theorem publish_freeIdx (s : State) (o : Nat) (b : List Nat) : (s.publish o b).freeIdx = s.freeIdx := (congrArg State.freeIdx (publish_quiet s o b) :)
@[simp] theorem publish_pending (s : State) (o : Nat) (b : List Nat) : (s.publish o b).pending = s.pending := (congrArg State.pending (publish_quiet s o b) :)
@[simp] theorem publish_nt_ports (s : State) (o : Nat) (b : List Nat) : (s.publish o b).nt.ports = s.nt.ports := (congrArg (fun x => x.nt.ports) (publish_quiet s o b) :)
@[simp] theorem publish_nt_netLost (s : State) (o : Nat) (b : List Nat) : (s.publish o b).nt.netLost = s.nt.netLost := (congrArg (fun x => x.nt.netLost) (publish_quiet s o b) :)
@[simp] theorem publish_nt_sessions (s : State) (o : Nat) (b : List Nat) : (s.publish o b).nt.sessions = s.nt.sessions := (congrArg (fun x => x.nt.sessions) (publish_quiet s o b) :)
@[simp] theorem publish_nt_nextSession (s : State) (o : Nat) (b : List Nat) : (s.publish o b).nt.nextSession = s.nt.nextSession := (congrArg (fun x => x.nt.nextSession) (publish_quiet s o b) :)
@[simp] theorem publish_nt_echoTokens (s : State) (o : Nat) (b : List Nat) : (s.publish o b).nt.echoTokens = s.nt.echoTokens := (congrArg (fun x => x.nt.echoTokens) (publish_quiet s o b) :)
@[simp] theorem publish_nt_echoAt (s : State) (o : Nat) (b : List Nat) : (s.publish o b).nt.echoAt = s.nt.echoAt := (congrArg (fun x => x.nt.echoAt) (publish_quiet s o b) :)
@[simp] theorem publish_nt_echoDropped (s : State) (o : Nat) (b : List Nat) : (s.publish o b).nt.echoDropped = s.nt.echoDropped := (congrArg (fun x => x.nt.echoDropped) (publish_quiet s o b) :)
@[simp] theorem publish_nt_pubs (s : State) (o : Nat) (b : List Nat) : (s.publish o b).nt.pubs = s.nt.pubs := (congrArg (fun x => x.nt.pubs) (publish_quiet s o b) :)
@[simp] theorem publish_nt_subs (s : State) (o : Nat) (b : List Nat) : (s.publish o b).nt.subs = s.nt.subs := (congrArg (fun x => x.nt.subs) (publish_quiet s o b) :)
@[simp] theorem publish_nt_prpSeq (s : State) (o : Nat) (b : List Nat) : (s.publish o b).nt.prpSeq = s.nt.prpSeq := (congrArg (fun x => x.nt.prpSeq) (publish_quiet s o b) :)
@[simp] theorem publish_nt_teleBad (s : State) (o : Nat) (b : List Nat) : (s.publish o b).nt.teleBad = s.nt.teleBad := (congrArg (fun x => x.nt.teleBad) (publish_quiet s o b) :)

@[simp] theorem writeItem_pw (s : State) (k : Nat) (p : List Nat) : (s.writeItem k p).pw = s.pw := (congrArg State.pw (writeItem_quiet s k p) :)
@[simp] theorem writeItem_th (s : State) (k : Nat) (p : List Nat) : (s.writeItem k p).th = s.th := (congrArg State.th (writeItem_quiet s k p) :)
@[simp] theorem writeItem_ra (s : State) (k : Nat) (p : List Nat) : (s.writeItem k p).ra = s.ra := (congrArg State.ra (writeItem_quiet s k p) :)
@[simp] theorem writeItem_acq (s : State) (k : Nat) (p : List Nat) : (s.writeItem k p).acq = s.acq := (congrArg State.acq (writeItem_quiet s k p) :)
@[simp] theorem writeItem_sg (s : State) (k : Nat) (p : List Nat) : (s.writeItem k p).sg = s.sg := (congrArg State.sg (writeItem_quiet s k p) :)
@[simp] theorem writeItem_ch (s : State) (k : Nat) (p : List Nat) : (s.writeItem k p).ch = s.ch := (congrArg State.ch (writeItem_quiet s k p) :)
@[simp] theorem writeItem_lim (s : State) (k : Nat) (p : List Nat) : (s.writeItem k p).lim = s.lim := (congrArg State.lim (writeItem_quiet s k p) :)
@[simp] theorem writeItem_ba (s : State) (k : Nat) (p : List Nat) : (s.writeItem k p).ba = s.ba := (congrArg State.ba (writeItem_quiet s k p) :)
@[simp] theorem writeItem_tm (s : State) (k : Nat) (p : List Nat) : (s.writeItem k p).tm = s.tm := (congrArg State.tm (writeItem_quiet s k p) :)
@[simp] theorem writeItem_pr (s : State) (k : Nat) (p : List Nat) : (s.writeItem k p).pr = s.pr := (congrArg State.pr (writeItem_quiet s k p) :)
@[simp] theorem writeItem_ct (s : State) (k : Nat) (p : List Nat) : (s.writeItem k p).ct = s.ct := (congrArg State.ct (writeItem_quiet s k p) :)
@[simp] theorem writeItem_sf (s : State) (k : Nat) (p : List Nat) : (s.writeItem k p).sf = s.sf := (congrArg State.sf (writeItem_quiet s k p) :)
@[simp] theorem writeItem_tw (s : State) (k : Nat) (p : List Nat) : (s.writeItem k p).tw = s.tw := (congrArg State.tw (writeItem_quiet s k p) :)
@[simp] theorem writeItem_ma (s : State) (k : Nat) (p : List Nat) : (s.writeItem k p).ma = s.ma := (congrArg State.ma (writeItem_quiet s k p) :)
@[simp] theorem writeItem_di (s : State) (k : Nat) (p : List Nat) : (s.writeItem k p).di = s.di := (congrArg State.di (writeItem_quiet s k p) :)
@[simp] theorem writeItem_rt (s : State) (k : Nat) (p : List Nat) : (s.writeItem k p).rt = s.rt := (congrArg State.rt (writeItem_quiet s k p) :)
@[simp] theorem writeItem_cn (s : State) (k : Nat) (p : List Nat) : (s.writeItem k p).cn = s.cn := (congrArg State.cn (writeItem_quiet s k p) :)
@[simp] theorem writeItem_pg (s : State) (k : Nat) (p : List Nat) : (s.writeItem k p).pg = s.pg := (congrArg State.pg (writeItem_quiet s k p) :)
@[simp] theorem writeItem_up (s : State) (k : Nat) (p : List Nat) : (s.writeItem k p).up = s.up := (congrArg State.up (writeItem_quiet s k p) :)
@[simp] theorem writeItem_dl (s : State) (k : Nat) (p : List Nat) : (s.writeItem k p).dl = s.dl := (congrArg State.dl (writeItem_quiet s k p) :)
@[simp] theorem writeItem_cfg (s : State) (k : Nat) (p : List Nat) : (s.writeItem k p).cfg = s.cfg := (congrArg State.cfg (writeItem_quiet s k p) :)
@[simp] theorem writeItem_now (s : State) (k : Nat) (p : List Nat) : (s.writeItem k p).now = s.now := (congrArg State.now (writeItem_quiet s k p) :)
@[simp] theorem writeItem_freeIdx (s : State) (k : Nat) (p : List Nat) : (s.writeItem k p).freeIdx = s.freeIdx := (congrArg State.freeIdx (writeItem_quiet s k p) :)
@[simp] theorem writeItem_pending (s : State) (k : Nat) (p : List Nat) : (s.writeItem k p).pending = s.pending := (congrArg State.pending (writeItem_quiet s k p) :)
@[simp] theorem writeItem_nt_ports (s : State) (k : Nat) (p : List Nat) : (s.writeItem k p).nt.ports = s.nt.ports := (congrArg (fun x => x.nt.ports) (writeItem_quiet s k p) :)
@[simp] theorem writeItem_nt_netLost (s : State) (k : Nat) (p : List Nat) : (s.writeItem k p).nt.netLost = s.nt.netLost := (congrArg (fun x => x.nt.netLost) (writeItem_quiet s k p) :)
@[simp] theorem writeItem_nt_sessions (s : State) (k : Nat) (p : List Nat) : (s.writeItem k p).nt.sessions = s.nt.sessions := (congrArg (fun x => x.nt.sessions) (writeItem_quiet s k p) :)
@[simp] theorem writeItem_nt_nextSession (s : State) (k : Nat) (p : List Nat) : (s.writeItem k p).nt.nextSession = s.nt.nextSession := (congrArg (fun x => x.nt.nextSession) (writeItem_quiet s k p) :)
@[simp] theorem writeItem_nt_echoTokens (s : State) (k : Nat) (p : List Nat) : (s.writeItem k p).nt.echoTokens = s.nt.echoTokens := (congrArg (fun x => x.nt.echoTokens) (writeItem_quiet s k p) :)
@[simp] theorem writeItem_nt_echoAt (s : State) (k : Nat) (p : List Nat) : (s.writeItem k p).nt.echoAt = s.nt.echoAt := (congrArg (fun x => x.nt.echoAt) (writeItem_quiet s k p) :)
@[simp] theorem writeItem_nt_echoDropped (s : State) (k : Nat) (p : List Nat) : (s.writeItem k p).nt.echoDropped = s.nt.echoDropped := (congrArg (fun x => x.nt.echoDropped) (writeItem_quiet s k p) :)
@[simp] theorem writeItem_nt_pubs (s : State) (k : Nat) (p : List Nat) : (s.writeItem k p).nt.pubs = s.nt.pubs := (congrArg (fun x => x.nt.pubs) (writeItem_quiet s k p) :)
@[simp] theorem writeItem_nt_subs (s : State) (k : Nat) (p : List Nat) : (s.writeItem k p).nt.subs = s.nt.subs := (congrArg (fun x => x.nt.subs) (writeItem_quiet s k p) :)
@[simp] theorem writeItem_nt_prpSeq (s : State) (k : Nat) (p : List Nat) : (s.writeItem k p).nt.prpSeq = s.nt.prpSeq := (congrArg (fun x => x.nt.prpSeq) (writeItem_quiet s k p) :)
@[simp] theorem writeItem_nt_teleBad (s : State) (k : Nat) (p : List Nat) : (s.writeItem k p).nt.teleBad = s.nt.teleBad := (congrArg (fun x => x.nt.teleBad) (writeItem_quiet s k p) :)

/-! ### The beginning of a step -/

@[simp] theorem begin_ra (s : State) (t : Nat) : (s.begin t).ra = s.ra := rfl
@[simp] theorem begin_sg (s : State) (t : Nat) : (s.begin t).sg = s.sg := rfl
@[simp] theorem begin_ch (s : State) (t : Nat) : (s.begin t).ch = s.ch := rfl
@[simp] theorem begin_lim (s : State) (t : Nat) : (s.begin t).lim = s.lim := rfl
@[simp] theorem begin_ba (s : State) (t : Nat) : (s.begin t).ba = s.ba := rfl
@[simp] theorem begin_tm (s : State) (t : Nat) : (s.begin t).tm = s.tm := rfl
@[simp] theorem begin_pr (s : State) (t : Nat) : (s.begin t).pr = s.pr := rfl
@[simp] theorem begin_ct (s : State) (t : Nat) : (s.begin t).ct = s.ct := rfl
@[simp] theorem begin_sf (s : State) (t : Nat) : (s.begin t).sf = s.sf := rfl
@[simp] theorem begin_tw (s : State) (t : Nat) : (s.begin t).tw = s.tw := rfl
@[simp] theorem begin_ma (s : State) (t : Nat) : (s.begin t).ma = s.ma := rfl
@[simp] theorem begin_di (s : State) (t : Nat) : (s.begin t).di = s.di := rfl
@[simp] theorem begin_rt (s : State) (t : Nat) : (s.begin t).rt = s.rt := rfl
@[simp] theorem begin_cn (s : State) (t : Nat) : (s.begin t).cn = s.cn := rfl
@[simp] theorem begin_pg (s : State) (t : Nat) : (s.begin t).pg = s.pg := rfl
@[simp] theorem begin_up (s : State) (t : Nat) : (s.begin t).up = s.up := rfl
@[simp] theorem begin_dl (s : State) (t : Nat) : (s.begin t).dl = s.dl := rfl
@[simp] theorem begin_cfg (s : State) (t : Nat) : (s.begin t).cfg = s.cfg := rfl
@[simp] theorem begin_freeIdx (s : State) (t : Nat) : (s.begin t).freeIdx = s.freeIdx := rfl
@[simp] theorem begin_pending (s : State) (t : Nat) : (s.begin t).pending = s.pending := rfl
@[simp] theorem begin_now (s : State) (t : Nat) : (s.begin t).now = max s.now t := rfl
theorem begin_th (s : State) (t : Nat) : (s.begin t).th = { s.th with reading := (s.begin t).th.reading, phase := (s.begin t).th.phase } := rfl
@[simp] theorem begin_pw (s : State) (t : Nat) : (s.begin t).pw = { s.pw with opTimeNs := if s.powered then s.pw.opTimeNs + (t - s.now) else s.pw.opTimeNs } := rfl
@[simp] theorem begin_acq (s : State) (t : Nat) : (s.begin t).acq = { s.acq with runNs := if s.pw.state = .run then s.acq.runNs + (t - s.now) else s.acq.runNs } := rfl
@[simp] theorem begin_ro (s : State) (t : Nat) : (s.begin t).ro = s.ro := rfl
@[simp] theorem begin_ls (s : State) (t : Nat) : (s.begin t).ls = s.ls := rfl
@[simp] theorem begin_nt (s : State) (t : Nat) : (s.begin t).nt = s.nt := rfl
@[simp] theorem begin_out (s : State) (t : Nat) : (s.begin t).out = [] := rfl

@[simp] theorem begin_bare (s : State) (t : Nat) : (s.begin t).bare = s.bare := rfl
theorem turns_bare (s : State) (f : Table Nat → Table Nat) : (s.onThyme fun h => { h with turns := f h.turns }).bare = s.bare := rfl
@[simp] theorem turnTaken_bare (s : State) (k : Nat) : (s.turnTaken k).bare = s.bare := turns_bare s fun tb => tb.put k 0 (s.sinceEpoch + 1)
/-- An operation whose turn is open runs. -/
theorem turn_open {k span : Nat} {f : State → State} {s : State} (h : s.turnOpen k span 0 = true) : s.turn k span f = f (s.turnTaken k) := by
  simp [State.turn, State.turnFrom, h]
/-- An operation whose turn is taken does not run. -/
theorem turn_shut {k span : Nat} {f : State → State} {s : State} (h : s.turnOpen k span 0 = false) : s.turn k span f = s := by
  simp [State.turn, State.turnFrom, h]
@[simp] theorem emit_bare (s : State) (k : EmKind) (p : Nat) (b : List Nat) : (s.emit k p b).bare = s.bare := rfl
@[simp] theorem onRosemary_bare (s : State) (f : Rosemary → Rosemary) : (s.onRosemary f).bare = s.bare := rfl
@[simp] theorem onLearned_bare (s : State) (f : Learned → Learned) : (s.onLearned f).bare = s.bare := rfl
@[simp] theorem record_bare (s : State) (e : Ev) (n : Nat) (d : List Nat) : (s.record e n d).bare = s.bare := bare_of_quiet (record_quiet ..)
@[simp] theorem publish_bare (s : State) (o : Nat) (b : List Nat) : (s.publish o b).bare = s.bare := bare_of_quiet (publish_quiet ..)
@[simp] theorem writeItem_bare (s : State) (k : Nat) (p : List Nat) : (s.writeItem k p).bare = s.bare := bare_of_quiet (writeItem_quiet ..)

/-! ### The settled state -/

@[simp] theorem settleTwin_bare (s : State) : s.settleTwin.bare = s.bare := by
  unfold State.settleTwin
  dsimp only
  split
  · split
    · rfl
    · rw [record_bare]; rfl
  · rfl

@[simp] theorem settleCan_bare (s : State) : s.settleCan.bare = s.bare := by
  unfold State.settleCan; dsimp only; (repeat' split) <;> rfl

@[simp] theorem settleHolds_bare (s : State) : s.settleHolds.bare = s.bare := by
  unfold State.settleHolds; dsimp only; split <;> rfl

@[simp] theorem settleCandidate_bare (s : State) : s.settleCandidate.bare = s.bare := by
  unfold State.settleCandidate; dsimp only; split <;> rfl

@[simp] theorem settleShadow_bare (s o : State) : (s.settleShadow o).bare = s.bare := by
  unfold State.settleShadow; dsimp only; split
  · split <;> rfl
  · rfl

@[simp] theorem settleStop_bare (s : State) : s.settleStop.bare = s.bare := rfl

@[simp] theorem interruptTest_bare (s : State) (o : Nat) : (s.interruptTest o).bare = s.bare := by
  unfold State.interruptTest; dsimp only; split
  · rfl
  · rw [record_bare]; rfl

@[simp] theorem settleOut_bare (s : State) (o : Nat) : (s.settleOut o).bare = s.bare := by
  unfold State.settleOut; dsimp only
  split
  · rfl
  · exact interruptTest_bare s o

@[simp] theorem gooseChange_bare (s : State) (d : Nat) : (s.gooseChange d).bare = s.bare := by
  unfold State.gooseChange; dsimp only; split <;> rfl

@[simp] theorem goosePublish_bare (s : State) : s.goosePublish.bare = s.bare := by
  unfold State.goosePublish; split <;> simp

@[simp] theorem pubIf_bare (s : State) (b : Bool) (o : Nat) (f : State → List Nat) : (s.pubIf b o f).bare = s.bare := by
  unfold State.pubIf; split <;> simp

@[simp] theorem pubChanges_bare (o s : State) : (o.pubChanges s).bare = s.bare := by
  unfold State.pubChanges; simp only [pubIf_bare]

theorem foldl_bare {α : Type} (f : State → α → State) (h : ∀ s a, (f s a).bare = s.bare) (l : List α) (s : State) :
    (l.foldl f s).bare = s.bare := by
  induction l generalizing s with
  | nil => rfl
  | cons a l ih => rw [List.foldl_cons, ih, h]

@[simp] theorem settlePorts_bare (s : State) : s.settlePorts.bare = s.bare := by
  unfold State.settlePorts
  dsimp only
  refine (foldl_bare _ (fun s e => foldl_bare _ (fun s p => ?_) _ s) _ _).trans rfl
  split <;> rfl

@[simp] theorem settle_bare (o s : State) : (o.settle s).bare = s.bare := by
  unfold State.settle
  simp only [settlePorts_bare, pubChanges_bare, goosePublish_bare, settleOut_bare, settleStop_bare, settleShadow_bare, settleCandidate_bare,
    settleHolds_bare, settleCan_bare, settleTwin_bare]
  split <;> simp

/-! ### The parts of the state that settling leaves as they are -/

/-- The state without the parts that settling writes. -/
def State.core (s : State) : State := { s.quiet with ct := {}, pr := {}, rt := {}, sf := {}, tw := {}, ma := {}, nt := {}, cn := {} }

theorem core_of_quiet {a b : State} (h : a.quiet = b.quiet) : a.core = b.core := (congrArg State.core h :)

@[simp] theorem record_core (s : State) (e : Ev) (n : Nat) (d : List Nat) : (s.record e n d).core = s.core := core_of_quiet (record_quiet ..)
@[simp] theorem publish_core (s : State) (o : Nat) (b : List Nat) : (s.publish o b).core = s.core := core_of_quiet (publish_quiet ..)

theorem interruptTest_core (s : State) (o : Nat) : (s.interruptTest o).core = s.core := by
  unfold State.interruptTest; dsimp only; split
  · rfl
  · rw [record_core]; rfl

theorem foldl_core {α : Type} (f : State → α → State) (h : ∀ s a, (f s a).core = s.core) (l : List α) (s : State) :
    (l.foldl f s).core = s.core := by
  induction l generalizing s with
  | nil => rfl
  | cons a l ih => rw [List.foldl_cons, ih, h]

@[simp] theorem settle_core (o s : State) : (o.settle s).core = s.core := by
  have tw : ∀ s : State, s.settleTwin.core = s.core := fun s => by
    unfold State.settleTwin
    dsimp only
    split
    · split
      · rfl
      · rw [record_core]; rfl
    · rfl
  have cn : ∀ s : State, s.settleCan.core = s.core := fun s => by
    unfold State.settleCan; dsimp only; (repeat' split) <;> rfl
  have ho : ∀ s : State, s.settleHolds.core = s.core := fun s => by
    unfold State.settleHolds; dsimp only; split <;> rfl
  have ca : ∀ s : State, s.settleCandidate.core = s.core := fun s => by
    unfold State.settleCandidate; dsimp only; split <;> rfl
  have sh : ∀ s : State, (s.settleShadow o).core = s.core := fun s => by
    unfold State.settleShadow; dsimp only; split
    · split <;> rfl
    · rfl
  have st : ∀ s : State, s.settleStop.core = s.core := fun _ => rfl
  have ou : ∀ (s : State) k, (s.settleOut k).core = s.core := fun s k => by
    unfold State.settleOut; dsimp only
    split
    · rfl
    · exact interruptTest_core s k
  have gc : ∀ (s : State) d, (s.gooseChange d).core = s.core := fun s d => by
    unfold State.gooseChange; dsimp only; split <;> rfl
  have go : ∀ s : State, s.goosePublish.core = s.core := fun s => by
    unfold State.goosePublish; split <;> simp [gc]
  have pi : ∀ (s : State) b k f, (s.pubIf b k f).core = s.core := fun s b k f => by
    unfold State.pubIf; split <;> simp
  have pc : ∀ s : State, (o.pubChanges s).core = s.core := fun s => by
    unfold State.pubChanges; simp only [pi]
  have po : ∀ s : State, s.settlePorts.core = s.core := fun s => by
    unfold State.settlePorts
    dsimp only
    refine (foldl_core _ (fun s e => foldl_core _ (fun s p => ?_) _ s) _ _).trans rfl
    split <;> rfl
  unfold State.settle
  simp only [po, pc, go, ou, st, sh, ca, ho, cn, tw]
  split <;> simp

theorem core_pw (s : State) : s.core.pw = s.pw := rfl
@[simp] theorem settle_pw (o s : State) : (o.settle s).pw = s.pw :=
  (core_pw _).symm.trans ((congrArg State.pw (settle_core o s)).trans (core_pw s))
theorem core_th (s : State) : s.core.th = s.th := rfl
@[simp] theorem settle_th (o s : State) : (o.settle s).th = s.th :=
  (core_th _).symm.trans ((congrArg State.th (settle_core o s)).trans (core_th s))
theorem core_ra (s : State) : s.core.ra = s.ra := rfl
@[simp] theorem settle_ra (o s : State) : (o.settle s).ra = s.ra :=
  (core_ra _).symm.trans ((congrArg State.ra (settle_core o s)).trans (core_ra s))
theorem core_acq (s : State) : s.core.acq = s.acq := rfl
@[simp] theorem settle_acq (o s : State) : (o.settle s).acq = s.acq :=
  (core_acq _).symm.trans ((congrArg State.acq (settle_core o s)).trans (core_acq s))
theorem core_sg (s : State) : s.core.sg = s.sg := rfl
@[simp] theorem settle_sg (o s : State) : (o.settle s).sg = s.sg :=
  (core_sg _).symm.trans ((congrArg State.sg (settle_core o s)).trans (core_sg s))
theorem core_ch (s : State) : s.core.ch = s.ch := rfl
@[simp] theorem settle_ch (o s : State) : (o.settle s).ch = s.ch :=
  (core_ch _).symm.trans ((congrArg State.ch (settle_core o s)).trans (core_ch s))
theorem core_lim (s : State) : s.core.lim = s.lim := rfl
@[simp] theorem settle_lim (o s : State) : (o.settle s).lim = s.lim :=
  (core_lim _).symm.trans ((congrArg State.lim (settle_core o s)).trans (core_lim s))
theorem core_ba (s : State) : s.core.ba = s.ba := rfl
@[simp] theorem settle_ba (o s : State) : (o.settle s).ba = s.ba :=
  (core_ba _).symm.trans ((congrArg State.ba (settle_core o s)).trans (core_ba s))
theorem core_tm (s : State) : s.core.tm = s.tm := rfl
@[simp] theorem settle_tm (o s : State) : (o.settle s).tm = s.tm :=
  (core_tm _).symm.trans ((congrArg State.tm (settle_core o s)).trans (core_tm s))
theorem core_di (s : State) : s.core.di = s.di := rfl
@[simp] theorem settle_di (o s : State) : (o.settle s).di = s.di :=
  (core_di _).symm.trans ((congrArg State.di (settle_core o s)).trans (core_di s))
theorem core_pg (s : State) : s.core.pg = s.pg := rfl
@[simp] theorem settle_pg (o s : State) : (o.settle s).pg = s.pg :=
  (core_pg _).symm.trans ((congrArg State.pg (settle_core o s)).trans (core_pg s))
theorem core_up (s : State) : s.core.up = s.up := rfl
@[simp] theorem settle_up (o s : State) : (o.settle s).up = s.up :=
  (core_up _).symm.trans ((congrArg State.up (settle_core o s)).trans (core_up s))
theorem core_dl (s : State) : s.core.dl = s.dl := rfl
@[simp] theorem settle_dl (o s : State) : (o.settle s).dl = s.dl :=
  (core_dl _).symm.trans ((congrArg State.dl (settle_core o s)).trans (core_dl s))
theorem core_cfg (s : State) : s.core.cfg = s.cfg := rfl
@[simp] theorem settle_cfg (o s : State) : (o.settle s).cfg = s.cfg :=
  (core_cfg _).symm.trans ((congrArg State.cfg (settle_core o s)).trans (core_cfg s))
theorem core_now (s : State) : s.core.now = s.now := rfl
@[simp] theorem settle_now (o s : State) : (o.settle s).now = s.now :=
  (core_now _).symm.trans ((congrArg State.now (settle_core o s)).trans (core_now s))
theorem core_freeIdx (s : State) : s.core.freeIdx = s.freeIdx := rfl
@[simp] theorem settle_freeIdx (o s : State) : (o.settle s).freeIdx = s.freeIdx :=
  (core_freeIdx _).symm.trans ((congrArg State.freeIdx (settle_core o s)).trans (core_freeIdx s))
theorem core_pending (s : State) : s.core.pending = s.pending := rfl
@[simp] theorem settle_pending (o s : State) : (o.settle s).pending = s.pending :=
  (core_pending _).symm.trans ((congrArg State.pending (settle_core o s)).trans (core_pending s))

/-! ### From a meaning to its command -/

/-- The queue and the time of the step are put back before the command settles. -/
def State.keep (s : State) (t : Nat) (s' : State) : State := { s' with pending := s.pending, now := max s.now t }

theorem run_eq (s : State) (t : Nat) (f : State → State) : s.run t f = .next (s.settle (s.keep t (f (s.begin t)))) := rfl

/-- What a meaning does of its own. -/
theorem does_of {c : Instr} {s u : State} {t : Nat} {f : State → State} (he : exec c s = s.run t f) (h : (f (s.begin t)).bare = u.bare)
    (hp : u.pending = s.pending := by rfl) : Does c s u := by
  refine ⟨_, he.trans (run_eq ..), ?_⟩
  show (s.settle (s.keep t (f (s.begin t)))).bare = u.bare
  rw [settle_bare]
  show ({ (f (s.begin t)).bare with pending := s.pending } : State) = u.bare
  rw [h, ← hp]
  rfl

/-- What a command answers is its meaning's result, settled. -/
theorem answers_of {c : Instr} {s : State} {t : Nat} {f : State → State} {P : State → Prop} (he : exec c s = s.run t f)
    (h : P (s.settle (s.keep t (f (s.begin t))))) : Answers c s P := ⟨_, he.trans (run_eq ..), h⟩

end Sys2Proof.Machine
end

