-- ==== Sys2Proof/Laws/Table.lean ====
section
/-! SUPPORT. Sys2Proof/Laws/Table.lean: the laws of the sparse tables: a read after a write, and the canonical form every write keeps. -/

namespace Sys2Proof.Table

theorem look_drop_same {α : Type} (d : α) (k : Nat) (l : List (Nat × α)) : look d k (drop k l) = d := by
  induction l with
  | nil => rfl
  | cons e l ih =>
    obtain ⟨k', v⟩ := e
    by_cases h : k' = k
    · simpa [drop, h] using ih
    · simpa [drop, look, h] using ih

theorem look_drop_other {α : Type} (d : α) {k j : Nat} (h : j ≠ k) (l : List (Nat × α)) : look d j (drop k l) = look d j l := by
  induction l with
  | nil => rfl
  | cons e l ih =>
    obtain ⟨k', v⟩ := e
    by_cases hk : k' = k
    · have : k ≠ j := fun x => h x.symm
      simp [drop, look, hk, ih, this]
    · simp [drop, look, hk, ih]

theorem look_insert_same {α : Type} (d v : α) (k : Nat) (l : List (Nat × α)) : look d k (insert k v l) = v := by
  induction l with
  | nil => simp [insert, look]
  | cons e l ih =>
    obtain ⟨k', w⟩ := e
    by_cases h1 : k < k'
    · simp [insert, look, h1]
    · by_cases h2 : k = k'
      · simp [insert, look, h2]
      · have : k' ≠ k := fun x => h2 x.symm
        simp [insert, look, h1, h2, this, ih]

theorem look_insert_other {α : Type} (d v : α) {k j : Nat} (h : j ≠ k) (l : List (Nat × α)) : look d j (insert k v l) = look d j l := by
  have hk : k ≠ j := fun x => h x.symm
  induction l with
  | nil => simp [insert, look, hk]
  | cons e l ih =>
    obtain ⟨k', w⟩ := e
    by_cases h1 : k < k'
    · simp [insert, look, h1, hk]
    · by_cases h2 : k = k'
      · subst h2; simp [insert, look, hk]
      · simp [insert, look, h1, h2, ih]

@[simp] theorem get_put_same {α : Type} [DecidableEq α] (t : Table α) (k : Nat) (d v : α) : (t.put k d v).get k d = v := by
  unfold put get
  split
  · rename_i h; subst h; exact look_drop_same ..
  · exact look_insert_same ..

theorem get_put_other {α : Type} [DecidableEq α] (t : Table α) {k j : Nat} (h : j ≠ k) (d v : α) : (t.put k d v).get j d = t.get j d := by
  unfold put get
  split
  · exact look_drop_other d h _
  · exact look_insert_other d v h _

@[simp] theorem get_upd_same {α : Type} [DecidableEq α] (t : Table α) (k : Nat) (d : α) (f : α → α) : (t.upd k d f).get k d = f (t.get k d) := by
  simp [upd]

theorem get_upd_other {α : Type} [DecidableEq α] (t : Table α) {k j : Nat} (h : j ≠ k) (d : α) (f : α → α) : (t.upd k d f).get j d = t.get j d :=
  get_put_other t h d _

theorem get_put {α : Type} [DecidableEq α] (t : Table α) (k j : Nat) (d v : α) : (t.put k d v).get j d = if j = k then v else t.get j d := by
  split
  · rename_i h; subst h; simp
  · rename_i h; exact get_put_other t h d v

theorem get_upd {α : Type} [DecidableEq α] (t : Table α) (k j : Nat) (d : α) (f : α → α) :
    (t.upd k d f).get j d = if j = k then f (t.get k d) else t.get j d := get_put ..

/-- A canonical list with a smaller key in front of it is canonical. -/
theorem wfList_cons {α : Type} [DecidableEq α] {d v : α} {k : Nat} {l : List (Nat × α)} :
    wfList d ((k, v) :: l) = true ↔ v ≠ d ∧ (∀ e ∈ l.head?, k < e.1) ∧ wfList d l = true := by
  cases l with
  | nil => simp [wfList]
  | cons e l => obtain ⟨k', v'⟩ := e; simp [wfList, and_assoc]

theorem keys_gt {α : Type} [DecidableEq α] {d v : α} {k : Nat} {l : List (Nat × α)} (h : wfList d ((k, v) :: l) = true) :
    ∀ e ∈ l, k < e.1 := by
  induction l generalizing k v with
  | nil => simp
  | cons e l ih =>
    obtain ⟨k', v'⟩ := e
    rw [wfList_cons] at h
    have hk : k < k' := h.2.1 (k', v') (by simp)
    intro x hx
    rcases List.mem_cons.1 hx with rfl | hx
    · exact hk
    · exact lt_trans hk (ih h.2.2 x hx)

theorem drop_mem {α : Type} {k : Nat} {l : List (Nat × α)} {e : Nat × α} (h : e ∈ drop k l) : e ∈ l := by
  induction l with
  | nil => simpa [drop] using h
  | cons x l ih =>
    obtain ⟨k', v⟩ := x
    by_cases hk : k' = k
    · simp only [drop, hk, if_true] at h; exact List.mem_cons_of_mem _ (ih h)
    · simp only [drop, hk, if_false, List.mem_cons] at h
      rcases h with h | h
      · simp [h]
      · exact List.mem_cons_of_mem _ (ih h)

theorem wfList_drop {α : Type} [DecidableEq α] {d : α} {k : Nat} {l : List (Nat × α)} (h : wfList d l = true) : wfList d (drop k l) = true := by
  induction l with
  | nil => rfl
  | cons x l ih =>
    obtain ⟨k', v⟩ := x
    have h' := wfList_cons.1 h
    by_cases hk : k' = k
    · simpa [drop, hk] using ih h'.2.2
    · simp only [drop, hk, if_false]
      exact wfList_cons.2 ⟨h'.1, fun e he => keys_gt h e (drop_mem (List.mem_of_mem_head? he)), ih h'.2.2⟩

theorem insert_mem {α : Type} {k : Nat} {v : α} {l : List (Nat × α)} {e : Nat × α} (h : e ∈ insert k v l) : e = (k, v) ∨ e ∈ l := by
  induction l with
  | nil => simpa [insert] using h
  | cons x l ih =>
    obtain ⟨k', w⟩ := x
    simp only [insert] at h
    split at h
    · simpa using h
    · split at h
      · rcases List.mem_cons.1 h with h | h
        · exact .inl h
        · exact .inr (List.mem_cons_of_mem _ h)
      · rcases List.mem_cons.1 h with h | h
        · exact .inr (by simp [h])
        · rcases ih h with h | h
          · exact .inl h
          · exact .inr (List.mem_cons_of_mem _ h)

theorem wfList_insert {α : Type} [DecidableEq α] {d v : α} {k : Nat} {l : List (Nat × α)} (hv : v ≠ d) (h : wfList d l = true) :
    wfList d (insert k v l) = true := by
  induction l with
  | nil => simp [insert, wfList, hv]
  | cons x l ih =>
    obtain ⟨k', w⟩ := x
    have h' := wfList_cons.1 h
    simp only [insert]
    split
    · rename_i hk
      exact wfList_cons.2 ⟨hv, by simpa using hk, h⟩
    · split
      · rename_i hk hk2
        subst hk2
        exact wfList_cons.2 ⟨hv, h'.2.1, h'.2.2⟩
      · rename_i hk hk2
        refine wfList_cons.2 ⟨h'.1, fun e he => ?_, ih h'.2.2⟩
        rcases insert_mem (List.mem_of_mem_head? he) with rfl | hm
        · omega
        · exact keys_gt h e hm

/-- Every write keeps the canonical form. -/
theorem wf_put {α : Type} [DecidableEq α] {t : Table α} {d : α} (h : t.wf d = true) (k : Nat) (v : α) : (t.put k d v).wf d = true := by
  unfold put wf
  split
  · exact wfList_drop h
  · rename_i hv; exact wfList_insert hv h

theorem wf_upd {α : Type} [DecidableEq α] {t : Table α} {d : α} (h : t.wf d = true) (k : Nat) (f : α → α) : (t.upd k d f).wf d = true := wf_put h ..

end Sys2Proof.Table
end

