-- ==== Sys2Proof/WellFormed.lean ====
section
/-! DEFINITION. Sys2Proof/WellFormed.lean: the operands a command can carry: each number fits the field the spec gives it (17 R428 to R436; 15 R391
to R396; 04 R109; 10 R264; 01 R31), or the range of what it numbers. Time is any. A command that is not well formed cannot reach the block; the
meanings are total all the same. -/

namespace Sys2Proof

/-- A session context fits its fields (17 R428): client 0 to 8, session and sequence of 32 bits, port 1 to 3. -/
def Maint.wf (m : Maint) : Bool :=
  decide (m.key ≤ 8) && decide (m.session < 4294967296) && decide (m.seq < 4294967296) && decide (1 ≤ m.port) && decide (m.port ≤ 3)

/-- A dispatch header fits its fields (15 R380). -/
def DHdr.wf (h : DHdr) : Bool :=
  decide (h.sender < 256) && decide (h.timeState < 256) && decide (h.epoch < 4294967296) && decide (h.seq < 4294967296) &&
    decide (1 ≤ h.port) && decide (h.port ≤ 2)

/-- A dispatch request fits its fields (15 R391, R392, R396). -/
def ReqIn.wf (q : ReqIn) : Bool :=
  decide (q.session < 4294967296) && decide (q.seq < 4294967296) && decide (q.string < 256) && decide (q.branch < 256) && decide (q.horizon < 256) &&
    decide (-2147483648 ≤ q.target) && decide (q.target < 2147483648) && decide (q.ramp < 4294967296) && decide (q.life < 65536)

/-- An operation frame fits its fields (15 R394). -/
def OpFrame.wf (o : OpFrame) : Bool := o.hdr.wf && decide (o.ident < 4294967296) && decide (o.branch < 256)

/-- A command's operands fit their fields. -/
def Instr.wf : Instr → Bool
  | .ptpMessageReceived _ _ _ => true
  | .announceReceiptTimeout _ _ => true
  | .startWaitExpiry _ => true
  | .holdoverWindowExpiry _ => true
  | .stepSafeConditionBegins _ => true
  | .ppsInEdge _ _ => true
  | .temperatureCompensationUpdate _ temp => decide (-32768 ≤ temp ∧ temp ≤ 32767)
  | .converterCompensationUpdate _ => true
  | .thymeSupervisionWindow _ _ _ => true
  | .ppsOutPulse _ _ => true
  | .timedOutputPulse _ _ _ => true
  | .armPulse _ m output _ sub => m.wf && decide (output < 256) && decide (sub < 65536)
  | .timestampEntryExpiry _ _ => true
  | .twinTimeExchange _ _ _ => true
  | .twinOffsetDisagreement _ => true
  | .propagationDelayMeasurement _ _ delay => decide (delay < 4294967296)
  | .beaconTransmit _ _ => true
  | .reportSlotClose _ _ _ _ _ => true
  | .alarmSlotClose _ _ _ _ _ _ => true
  | .managementFrameTransmit _ _ => true
  | .responseReceived _ _ _ => true
  | .noResponse _ _ => true
  | .sweepSetClose _ _ => true
  | .unidentifiedAlarmResolution _ _ => true
  | .admissionRequestReceived _ _ _ => true
  | .challengeTagReceived _ _ _ _ _ => true
  | .keyingTimeout _ _ => true
  | .strangerHoldOutExpiry _ ident => decide (ident < 18446744073709551616)
  | .relayEvaluation _ _ => true
  | .occupancyMeasurement _ _ occupancy => decide (occupancy ≤ 1000)
  | .commandNone _ _ => true
  | .contentionOpen _ _ => true
  | .linkTest _ _ _ _ => true
  | .challenge _ _ _ nonce => decide (nonce < 18446744073709551616)
  | .admitNode _ _ level flags served => decide (level < 256) && decide (flags < 256) && decide (served < 65536)
  | .load _ _ area offset data => decide (area < 256) && decide (offset < 65536) && decide (data.length ≤ 28) && data.all (fun b => decide (b < 256))
  | .commit _ _ area _ activation0 => decide (area < 256) && decide (activation0 < 4294967296)
  | .relayAssign _ _ role partner slot effective => decide (role < 256) && decide (partner < 256) && decide (slot < 256) && decide (effective < 4294967296)
  | .propagationDelay _ _ delay => decide (delay < 4294967296)
  | .release _ _ => true
  | .nodeBeaconReceived _ _ _ => true
  | .nodeMissedBeacon _ _ _ => true
  | .nodeBeaconSilence _ _ => true
  | .nodeAlarmDecision _ _ _ => true
  | .nodeAlarmSlot _ _ _ => true
  | .nodeReportTransmit _ _ => true
  | .relayForward _ _ _ => true
  | .nodeSetActivation _ _ => true
  | .nodeAdmissionBackoff _ _ => true
  | .listeningPauseExpiry _ _ => true
  | .nodeToneWindowEnd _ _ _ => true
  | .sweepEnd _ _ => true
  | .branchVoltageCrossCheck _ _ => true
  | .currentCrossCheck _ => true
  | .shuntOffsetUpdate _ _ => true
  | .spareSelfTestStep _ _ _ _ => true
  | .isOffsetTest _ => true
  | .calibrationBegin _ m mask => m.wf && decide (mask < 65536)
  | .capturePoint _ m point => m.wf && decide (point < 256)
  | .capturePointComplete _ point _ => decide (point < 256)
  | .calibrationCommit _ m ref _ => m.wf && decide (ref.length = 8) && ref.all (fun b => decide (b < 256))
  | .authorisationLockoutExpiry _ => true
  | .impedanceIntervalEnd _ => true
  | .lowBandSubblockEnd _ => true
  | .tonePlanChange _ => true
  | .restExcitationSwap _ => true
  | .toneRequestStart _ => true
  | .equivalentCircuitFit _ => true
  | .internalTemperatureUpdate _ => true
  | .equilibriumLearning _ _ => true
  | .sageCycle _ _ => true
  | .restAnchor _ _ => true
  | .endOfChargeAnchor _ _ => true
  | .endOfDischargeAnchor _ _ => true
  | .fadeAndLeakageCheckClose _ _ => true
  | .leakageEstimate _ => true
  | .chargeSummaryPublication _ => true
  | .periodicPublication _ oid => decide (oid < 4294967296)
  | .snapshotWrite _ => true
  | .nodeBlockWrite _ => true
  | .limitWatchdogExpiry _ => true
  | .balancingPlanStart _ => true
  | .balancingSolveComplete _ plan => decide (plan < 4294967296)
  | .solverLimitExpiry _ => true
  | .commitDeadline _ => true
  | .planActivation _ => true
  | .temperatureChannelEvaluation _ chan _ _ => decide (chan < 0x408 ∨ 0x410 ≤ chan ∧ chan ≤ 0x416)
  | .sensorCrossCheck _ => true
  | .coolingLoss _ _ => true
  | .coolantLoopEvaluation _ => true
  | .valveVelocityUpdate _ _ _ => true
  | .valveMoveEnd _ _ => true
  | .valveHoldTimeExpiry _ _ => true
  | .valveStall _ _ => true
  | .valveStallRetry _ _ => true
  | .homeValve _ m valve => m.wf && decide (valve < 256)
  | .clearSensor _ m chan => m.wf && decide (chan < 65536)
  | .currentComparatorCrossing _ _ _ => true
  | .classCDelayExpiry _ code group => decide (code ≤ 0x34) && decide (group ≤ 4)
  | .breakWaitExpiry _ _ => true
  | .automaticReset _ code group => decide (code ≤ 0x34) && decide (group ≤ 5)
  | .protectionReset _ m code => m.wf && decide (code < 256)
  | .insulationHalfPeriod _ _ => true
  | .monitorCouplingWaitExpiry _ => true
  | .coilOn _ k => decide (1 ≤ k ∧ k ≤ 12)
  | .coilBudgetAvailable _ => true
  | .coilSupplyRecovered _ _ => true
  | .coilSupplyWaitExpiry _ k => decide (1 ≤ k ∧ k ≤ 12)
  | .pullInEnd _ k => decide (1 ≤ k ∧ k ≤ 12)
  | .coilOff _ k => decide (1 ≤ k ∧ k ≤ 12)
  | .coilSupplyLow _ _ => true
  | .coilCircuitFault _ k _ _ => decide (1 ≤ k ∧ k ≤ 12)
  | .feedbackAccepted _ k _ => decide (1 ≤ k ∧ k ≤ 12)
  | .closeLimitExpiry _ k => decide (1 ≤ k ∧ k ≤ 12)
  | .dropOutLimitExpiry _ k => decide (1 ≤ k ∧ k ≤ 12)
  | .prechargeTimeLimitExpiry _ => true
  | .prechargeLockoutExpiry _ => true
  | .autoConnect _ => true
  | .leaveWaitExpiry _ => true
  | .connectOperation _ o => o.wf
  | .disconnectOperation _ o => o.wf
  | .joinBranchOperation _ o => o.wf
  | .leaveBranchOperation _ o => o.wf
  | .safetyInputDemand _ _ => true
  | .safetyInputPermit _ _ => true
  | .testPulse _ _ high _ => decide (high.all (fun x => decide (1 ≤ x) && x ≤ 8))
  | .discrepancyTimeExpiry _ _ => true
  | .darkTest _ _ _ => true
  | .brightTest _ _ _ => true
  | .safeOutputTestRerun _ _ => true
  | .driverDipTest _ k _ => decide (1 ≤ k ∧ k ≤ 12)
  | .tripSwitchDipTest _ k _ _ => decide (1 ≤ k ∧ k ≤ 12)
  | .followerDriverTest _ k _ => decide (1 ≤ k ∧ k ≤ 12)
  | .heartbeatInstant _ => true
  | .heartbeatReceived _ _ _ _ => true
  | .heartbeatMissed _ _ => true
  | .withdrawFrameReceived _ _ cause => decide (cause < 256)
  | .withdrawTripHoldExpiry _ _ => true
  | .handOver _ m => m.wf
  | .handoverRequest _ cause => decide (cause < 256)
  | .handoverFrameReceived _ _ _ sweep cycle => decide (sweep < 4294967296) && decide (cycle < 4294967296)
  | .handoverInstant _ => true
  | .syncComplete _ => true
  | .pairingWaitExpiry _ _ => true
  | .twinShadowFrame _ _ => true
  | .islandFrame _ _ => true
  | .dispatchAllocation _ _ => true
  | .setpointMulticastSend _ => true
  | .setpointMulticastReceived _ h _ => h.wf
  | .masterLossHoldExpiry _ => true
  | .carrierPhaseApply _ => true
  | .stringStatusReceived _ h _ => h.wf
  | .dispatchInterfaceReset _ q => q.wf
  | .plantSetpointRequest _ q => q.wf
  | .connectRequest _ q => q.wf
  | .disconnectRequest _ q => q.wf
  | .joinBranchRequest _ q => q.wf
  | .leaveBranchRequest _ q => q.wf
  | .excludeString _ q => q.wf
  | .includeString _ q => q.wf
  | .setpointLifetimeExpiry _ => true
  | .operationFrameRepeat _ ident => decide (ident < 4294967296)
  | .operationTimeout _ ident => decide (ident < 4294967296)
  | .operationResultReceived _ h ident status reason sweep => h.wf && decide (ident < 4294967296) && decide (status < 256) && decide (reason < 256) && decide (sweep < 4294967296)
  | .streamFrameIngest _ h _ => h.wf
  | .streamDecimationRelax _ string => decide (string < 256)
  | .claimSend _ => true
  | .claimRepeat _ => true
  | .claimReceived _ h epoch rank _ => h.wf && decide (epoch < 4294967296) && decide (rank < 256)
  | .claimWindowExpiry _ => true
  | .masterHandOver _ m string => m.wf && decide (string < 256)
  | .masterHandoverDrained _ => true
  | .masterHandoverFrameReceived _ h target _ => h.wf && decide (target < 256)
  | .masterHandoverCycle _ => true
  | .commandFrameTransmit _ => true
  | .statusFrameReceived _ _ => true
  | .statusDeadlineMissed _ => true
  | .carrierSyncPulse _ => true
  | .plantPortDown _ _ => true
  | .prpSupervisionTransmit _ => true
  | .icmpEchoRequest _ _ _ ident => decide (ident < 4294967296)
  | .addressResolutionRequest _ _ _ => true
  | .unacceptedFrameDiscard _ _ _ => true
  | .telemetryInterfaceReset _ m _ => m.wf
  | .subscribe _ m _ dest _ _ => m.wf && decide (dest < 65536)
  | .read _ m _ ids => m.wf && decide (ids.length ≤ 64) && ids.all (fun x => decide (x < 4294967296))
  | .dataPublication _ _ object first last sweep _ => decide (object < 4294967296) && decide (first < 4294967296) && decide (last < 4294967296) && decide (sweep < 18446744073709551616)
  | .shedFactorRelax _ _ => true
  | .unknownCommand _ m code => m.wf && decide (code < 65536)
  | .confirmReplacement _ m node => m.wf && decide (node < 256)
  | .gooseRepetition _ _ => true
  | .gooseFrameReceived _ _ => true
  | .gooseSubscriptionSilent _ _ => true
  | .canTransmissionDue _ _ _ => true
  | .canTransmissionSuccess _ _ _ => true
  | .canTransmitError _ _ _ _ _ => true
  | .canBusOffRecovery _ _ => true
  | .canFrameReceived _ _ _ => true
  | .canLoadWindow _ _ load0 => decide (load0 ≤ 1000)
  | .equipmentTimeout _ => true
  | .canSleep _ => true
  | .feedPresent _ _ _ => true
  | .feedLost _ _ => true
  | .bothFeedsLost _ => true
  | .flushEnd _ _ => true
  | .startComplete _ => true
  | .configurationAcceptedOnX13 _ _ _ => true
  | .runRequest _ => true
  | .runEntry _ => true
  | .runDwellExpiry _ => true
  | .hibernateDelayExpiry _ => true
  | .hibernateEntryComplete _ => true
  | .wakeLatchSet _ _ => true
  | .wakeSequence _ _ => true
  | .wakeServiceComplete _ levels => decide (levels.all (fun x => decide (1 ≤ x) && x ≤ 7))
  | .warmReset _ cause _ => decide (cause < 256)
  | .coldReset _ cause _ => decide (cause < 256)
  | .interfaceLevelReset _ => true
  | .applicationClusterWatchdog _ _ => true
  | .resetDeferralExpiry _ => true
  | .resetPushbuttonRelease _ _ _ => true
  | .resetButtonHeld _ => true
  | .serviceEnableChange _ _ => true
  | .holdUpMeasurement _ _ => true
  | .alwaysOnMinimumReached _ => true
  | .updateOffer _ m _ => m.wf
  | .updateData _ m offset len => m.wf && decide (offset < 4294967296) && decide (len ≤ 1024)
  | .updateVerify _ m => m.wf
  | .verificationComplete _ _ _ => true
  | .updateSchedule _ m kind _ _ _ => m.wf && decide (kind < 256)
  | .updateCancel _ m kind => m.wf && decide (kind < 256)
  | .updateSessionTimeout _ => true
  | .activation _ _ _ => true
  | .activationLapsed _ => true
  | .probationEnd _ => true
  | .probationStartTimeout _ _ => true
  | .followActivation _ _ _ => true
  | .followActivationWaiting _ => true
  | .rollSweep _ => true
  | .recoveryVerificationComplete _ _ _ => true
  | .eventRecordClose _ _ subject => decide (subject < 4294967296)
  | .eventBlockCommit _ _ _ _ => true
  | .writeCeilingWindow _ => true
  | .monitorWindowEnd _ _ => true
  | .plantDeliveryWindow _ => true
  | .memoryScrub _ _ _ _ _ => true
  | .islandFault _ _ _ => true
  | .tripSwitchRefreshExpiry _ => true
  | .applicationClusterHalt _ => true
  | .bayPlugRemoved _ => true
  | .nodeStart _ _ => true
  | .plantPortUp _ _ => true
  | .ptpMessageTransmit _ _ _ => true
  | .canReceiveError _ _ _ => true

end Sys2Proof
end

