-- ==== Sys2Proof/Tests/Slice0.lean ====
section
/-! SUPPORT. Tests of the model: an ill-formed term for every check of WellFormed, an image that every check accepts, worked examples of the spec,
and for every statement with hypotheses a state and operands that meet them, clause by clause. -/

set_option maxRecDepth 20000
open Sys2Proof Sys2Proof.Machine

namespace Sys2Proof.Machine

/-- A path of a twin changed. -/
def State.onPath (s : State) (p : Nat) (f : HbPath → HbPath) : State := s.onTwin fun w => { w with paths := w.paths.upd p {} f }

end Sys2Proof.Machine

namespace Sys2Proof.Tests

/-- A small string: one branch, one node. -/
def cfg0 : Cfg := { string := { index := 17 }, branches := { cells := [16] }, nodes := [{ index := 0, ident := 1, branch := 0, stack := 0 }], masters := [17, 3] }

/-- A leading module in Watch with both feeds, its ports up. -/
def on : State := { State.reset with
  pw := { state := .watch, feed1 := true, feed2 := true, portsUp := true, islandUp := true, bootDone := true }
  tw := { role := .leader }, ra := { transmit := true }, cfg := cfg0 }

/-- At a plant time after the epoch. -/
def atNs (s : State) (ns : Nat) : State := { s with th := { s.th with reading := s.epochNs + ns } }

/-- Every contactor confirmed open. -/
def openAll (s : State) : State := (List.range 12).foldl (fun s i => s.onCoil (i+1) fun x => { x with accepted := some true }) s

/-- An analog channel with a good value. -/
def good (s : State) (c : Nat) (v : Int) : State := s.onAcq fun a => { a with chans := a.chans.upd c {} fun x => { x with avg := v, min := v, max := v, quality := qGood } }

/-- A string that may close. -/
def ready : State := good (good (good (openAll { on with ct := { on.ct with fbChecked := true }, acq := { on.acq with coilSupply := 48000000 }, rt := { on.rt with conv := { ready := true } } }) 5 700000) 9 700000) 4 0 |>.onNode 0 fun x => { x with adm := .admitted }

/-! ### Well-formedness: a term for each check, which it refuses -/

theorem test_illFormed_0 : ([
    .temperatureCompensationUpdate 0 32768,
    .armPulse 0 { key := 9 } 0 {} 0,
    .armPulse 0 {} 256 {} 0,
    .armPulse 0 {} 0 {} 65536,
    .propagationDelayMeasurement 0 0 4294967296,
    .strangerHoldOutExpiry 0 18446744073709551616,
    .occupancyMeasurement 0 0 1001,
    .challenge 0 {} 0 18446744073709551616,
    .admitNode 0 {} 256 0 0,
    .admitNode 0 {} 0 256 0,
    .admitNode 0 {} 0 0 65536,
    .load 0 {} 256 0 [],
    .load 0 {} 0 65536 [],
    .load 0 {} 0 0 (List.replicate 29 0),
    .load 0 {} 0 0 [256],
    .commit 0 {} 256 0 0,
    .commit 0 {} 0 0 4294967296,
    .relayAssign 0 {} 256 0 0 0,
    .relayAssign 0 {} 0 256 0 0,
    .relayAssign 0 {} 0 0 256 0,
    .relayAssign 0 {} 0 0 0 4294967296,
    .propagationDelay 0 {} 4294967296,
    .calibrationBegin 0 { key := 9 } 0,
    .calibrationBegin 0 {} 65536] : List Instr).all (fun c => !c.wf) = true := by decide

theorem test_illFormed_1 : ([
    .capturePoint 0 { key := 9 } 0,
    .capturePoint 0 {} 256,
    .capturePointComplete 0 256 0,
    .calibrationCommit 0 { key := 9 } (List.replicate 8 0) {},
    .calibrationCommit 0 {} (List.replicate 9 0) {},
    .calibrationCommit 0 {} (256 :: List.replicate 7 0) {},
    .periodicPublication 0 4294967296,
    .balancingSolveComplete 0 4294967296,
    .temperatureChannelEvaluation 0 0x408 [] false,
    .homeValve 0 { key := 9 } 0,
    .homeValve 0 {} 256,
    .clearSensor 0 { key := 9 } 0,
    .clearSensor 0 {} 65536,
    .classCDelayExpiry 0 53 0,
    .classCDelayExpiry 0 0 5,
    .automaticReset 0 53 0,
    .automaticReset 0 0 6,
    .protectionReset 0 { key := 9 } 0,
    .protectionReset 0 {} 256,
    .coilOn 0 13,
    .coilSupplyWaitExpiry 0 13,
    .pullInEnd 0 13,
    .coilOff 0 13,
    .coilCircuitFault 0 13 0 0] : List Instr).all (fun c => !c.wf) = true := by decide

theorem test_illFormed_2 : ([
    .feedbackAccepted 0 13 false,
    .closeLimitExpiry 0 13,
    .dropOutLimitExpiry 0 13,
    .connectOperation 0 { branch := 256 },
    .disconnectOperation 0 { branch := 256 },
    .joinBranchOperation 0 { branch := 256 },
    .leaveBranchOperation 0 { branch := 256 },
    .testPulse 0 0 [9] {},
    .driverDipTest 0 13 false,
    .tripSwitchDipTest 0 13 false false,
    .followerDriverTest 0 13 false,
    .withdrawFrameReceived 0 {} 256,
    .handOver 0 { key := 9 },
    .handoverRequest 0 256,
    .handoverFrameReceived 0 {} false 4294967296 0,
    .handoverFrameReceived 0 {} false 0 4294967296,
    .setpointMulticastReceived 0 { sender := 256 } {},
    .stringStatusReceived 0 { sender := 256 } {},
    .dispatchInterfaceReset 0 { string := 256 },
    .plantSetpointRequest 0 { string := 256 },
    .connectRequest 0 { string := 256 },
    .disconnectRequest 0 { string := 256 },
    .joinBranchRequest 0 { string := 256 },
    .leaveBranchRequest 0 { string := 256 }] : List Instr).all (fun c => !c.wf) = true := by decide

theorem test_illFormed_3 : ([
    .excludeString 0 { string := 256 },
    .includeString 0 { string := 256 },
    .operationFrameRepeat 0 4294967296,
    .operationTimeout 0 4294967296,
    .operationResultReceived 0 { sender := 256 } 0 0 0 0,
    .operationResultReceived 0 {} 4294967296 0 0 0,
    .operationResultReceived 0 {} 0 256 0 0,
    .operationResultReceived 0 {} 0 0 256 0,
    .operationResultReceived 0 {} 0 0 0 4294967296,
    .streamFrameIngest 0 { sender := 256 } {},
    .streamDecimationRelax 0 256,
    .claimReceived 0 { sender := 256 } 0 0 false,
    .claimReceived 0 {} 4294967296 0 false,
    .claimReceived 0 {} 0 256 false,
    .masterHandOver 0 { key := 9 } 0,
    .masterHandOver 0 {} 256,
    .masterHandoverFrameReceived 0 { sender := 256 } 0 {},
    .masterHandoverFrameReceived 0 {} 256 {},
    .icmpEchoRequest 0 0 false 4294967296,
    .telemetryInterfaceReset 0 { key := 9 } false,
    .subscribe 0 { key := 9 } false 0 [] false,
    .subscribe 0 {} false 65536 [] false,
    .read 0 { key := 9 } false [],
    .read 0 {} false (List.replicate 65 0)] : List Instr).all (fun c => !c.wf) = true := by decide

theorem test_illFormed_4 : ([
    .read 0 {} false [4294967296],
    .dataPublication 0 0 4294967296 0 0 0 false,
    .dataPublication 0 0 0 4294967296 0 0 false,
    .dataPublication 0 0 0 0 4294967296 0 false,
    .dataPublication 0 0 0 0 0 18446744073709551616 false,
    .unknownCommand 0 { key := 9 } 0,
    .unknownCommand 0 {} 65536,
    .confirmReplacement 0 { key := 9 } 0,
    .confirmReplacement 0 {} 256,
    .canLoadWindow 0 0 1001,
    .wakeServiceComplete 0 [8],
    .warmReset 0 256 {},
    .coldReset 0 256 {},
    .updateOffer 0 { key := 9 } {},
    .updateData 0 { key := 9 } 0 0,
    .updateData 0 {} 4294967296 0,
    .updateData 0 {} 0 1025,
    .updateVerify 0 { key := 9 },
    .updateSchedule 0 { key := 9 } 0 {} {} {},
    .updateSchedule 0 {} 256 {} {} {},
    .updateCancel 0 { key := 9 } 0,
    .updateCancel 0 {} 256,
    .eventRecordClose 0 .recorderStarted 4294967296,
    .homeValve 0 { session := 4294967296 } 0] : List Instr).all (fun c => !c.wf) = true := by decide

theorem test_illFormed_5 : ([
    .homeValve 0 { seq := 4294967296 } 0,
    .homeValve 0 { port := 0 } 0,
    .homeValve 0 { port := 4 } 0] : List Instr).all (fun c => !c.wf) = true := by decide

theorem test_wellFormed_0 : ([
    .temperatureCompensationUpdate 0 0,
    .armPulse 0 {} 0 {} 0,
    .propagationDelayMeasurement 0 0 0,
    .strangerHoldOutExpiry 0 0,
    .occupancyMeasurement 0 0 0,
    .challenge 0 {} 0 0,
    .admitNode 0 {} 0 0 0,
    .load 0 {} 0 0 [],
    .commit 0 {} 0 0 0,
    .relayAssign 0 {} 0 0 0 0,
    .propagationDelay 0 {} 0,
    .calibrationBegin 0 {} 0,
    .capturePoint 0 {} 0,
    .capturePointComplete 0 0 0,
    .calibrationCommit 0 {} (List.replicate 8 0) {},
    .periodicPublication 0 0,
    .balancingSolveComplete 0 0,
    .temperatureChannelEvaluation 0 0 [] false,
    .homeValve 0 {} 0,
    .clearSensor 0 {} 0,
    .classCDelayExpiry 0 0 0,
    .automaticReset 0 0 0,
    .protectionReset 0 {} 0,
    .coilOn 0 1,
    .coilSupplyWaitExpiry 0 1,
    .pullInEnd 0 1,
    .coilOff 0 1,
    .coilCircuitFault 0 1 0 0,
    .feedbackAccepted 0 1 false,
    .closeLimitExpiry 0 1,
    .dropOutLimitExpiry 0 1,
    .connectOperation 0 {},
    .disconnectOperation 0 {},
    .joinBranchOperation 0 {},
    .leaveBranchOperation 0 {},
    .testPulse 0 0 [] {},
    .driverDipTest 0 1 false,
    .tripSwitchDipTest 0 1 false false,
    .followerDriverTest 0 1 false,
    .withdrawFrameReceived 0 {} 0] : List Instr).all (fun c => c.wf) = true := by decide

theorem test_wellFormed_1 : ([
    .handOver 0 {},
    .handoverRequest 0 0,
    .handoverFrameReceived 0 {} false 0 0,
    .setpointMulticastReceived 0 {} {},
    .stringStatusReceived 0 {} {},
    .dispatchInterfaceReset 0 {},
    .plantSetpointRequest 0 {},
    .connectRequest 0 {},
    .disconnectRequest 0 {},
    .joinBranchRequest 0 {},
    .leaveBranchRequest 0 {},
    .excludeString 0 {},
    .includeString 0 {},
    .operationFrameRepeat 0 0,
    .operationTimeout 0 0,
    .operationResultReceived 0 {} 0 0 0 0,
    .streamFrameIngest 0 {} {},
    .streamDecimationRelax 0 0,
    .claimReceived 0 {} 0 0 false,
    .masterHandOver 0 {} 0,
    .masterHandoverFrameReceived 0 {} 0 {},
    .icmpEchoRequest 0 0 false 0,
    .telemetryInterfaceReset 0 {} false,
    .subscribe 0 {} false 0 [] false,
    .read 0 {} false [],
    .dataPublication 0 0 0 0 0 0 false,
    .unknownCommand 0 {} 0,
    .confirmReplacement 0 {} 0,
    .canLoadWindow 0 0 0,
    .wakeServiceComplete 0 [],
    .warmReset 0 0 {},
    .coldReset 0 0 {},
    .updateOffer 0 {} {},
    .updateData 0 {} 0 0,
    .updateVerify 0 {},
    .updateSchedule 0 {} 0 {} {} {},
    .updateCancel 0 {} 0,
    .eventRecordClose 0 .recorderStarted 0] : List Instr).all (fun c => c.wf) = true := by decide

/-! ### An image that every check accepts -/

/-- A configuration that every check accepts. -/
def cfg1 : Cfg :=
  { string := { index := 17, plantId := 5, rated := 3000000, busMin := 600000, busMax := 1600000 }
    branches := { maxCellUv := 3650000, cells := [16] }
    shunts := { rNano := [50000], tcPpm := [0] }
    hall := { sens := 2000, offset := 0 }
    ratingDis := [1000000], ratingChg := [1000000]
    derived := { fallbackR0 := 400000 }
    rating := { capacity := 1130400000 }
    ocv := { temps := [-2000, 2500], socs := [0, 20000, 40000], dis := [[2900000, 3250000, 3400000],[2900000, 3250000, 3400000]], chg := [[2950000,3280000,3450000],[2950000,3280000,3450000]] }
    capFac := { temps := [-2000, 2500], rates := [50], f := [[8000],[10000]] }
    empty := { temps := [-2000, 2500], rates := [50], v := [[2700000],[2800000]] }
    cellV := { temps := [2500], vMin := [2800000], vMax := [3650000] }
    cellI := { temps := [2500], socs := [0], peakDis := [[300]], peakChg := [[200]], contDis := [[100]], contChg := [[100]] }
    bal := { upper := 22000 }
    radio := { chan := [5,6,8,9], code := [25,25,25,25], level := [0,0,0,0] }
    nodes := [{ index := 0, ident := 1, branch := 0, stack := 0 }]
    buses := [{ rating := 2000, nodes := [0] }]
    comp := { pos := [2000000], neg := [2000000], isPos := 1500000, isNeg := 1500000 }
    cellProt := { vOv := 3750000, vUv := 2500000 }
    valves := { list := [{ enable := true, travel := 320000, maxVel := 274877907, homeVel := 100000000 }] }
    epoch := 1800000000
    salt := 7
    groups := [1,2,3]
    plant := { addr := [1] }
    can := [{}, {}] }

/-- Its image. -/
def image1 : Image :=
  let g : Image := { header := { kind := 2, string := 17, plant := 5, plug := 9, version := 1 }, cfg := cfg1, records := cfg1.records }
  { g with header := { g.header with safetyHash := g.safetyHash } }

theorem test_image1_decodes : image1.decodes = true := by decide

theorem test_cfg1_ranges : cfg1.rangesOk = true := by decide

theorem test_image1_required : image1.holdsRequired = true := by decide

theorem test_cfg1_rules : cfg1.rulesOk = true := by decide

theorem test_image1_hash : image1.safetyHash = image1.header.safetyHash := rfl

/-- A module without a configuration, its plug present. -/
def bare1 : State := { on with pw := { on.pw with state := .unconfigured, plugPresent := true }, pg := { on.pg with ident := 9 } }

theorem test_image1_accepted : bare1.imageStage image1 = 0 := by
  simp only [State.imageStage, test_image1_decodes, test_image1_required, decide_eq_true test_image1_hash, show image1.cfg = cfg1 from rfl, test_cfg1_ranges,
    test_cfg1_rules]; rfl

/-! ### Worked examples of the spec -/

/-- 00: a cell at 3.287 416 V sends 0x32, 0x29, 0x78. -/
theorem test_voltage_octets : octetsOf 3 3287416 = [0x32, 0x29, 0x78] := by decide

/-- 14, worked example: report slot 9 begins 1 185 µs after B0. -/
theorem test_report_slot9 : slotBegin 9 = 1185000 := by decide

/-- 03, worked example: the third alarm slot begins 2 940 µs after B0. -/
theorem test_alarm_slot2 : alarmBegin 2 = 2940000 := by decide

/-- 02 R66, worked example: start E, period 10 s, a start of the module at E + 1 234.567 s; the lattice goes on at E + 1 240 s. -/
theorem test_lattice : latticeNext (sec 1800000000) (sec 10) (sec 1800001234 + ms 567) = sec 1800001240 := by decide

/-- 20 R496, worked example: the body of record 0x0202. -/
theorem test_record_0202 : ({ branches := { maxCellUv := 3650000, cells := [416, 416, 416, 416] } } : Cfg).recordBody 0x0202 =
    some [0x00, 0x37, 0xB1, 0xD0, 0x04, 0, 0, 1, 0xA0, 0, 0, 1, 0xA0, 0, 0, 1, 0xA0, 0, 0, 1, 0xA0] := by decide

/-- 24, worked example: a follower publishes the 400 Hz record of cell 1 174 as 0x0481_4496. -/
theorem test_shadow_object : { on with tw := { on.tw with role := .follower } }.objectId 0x04014496 = 0x04814496 := by decide

/-- 00: numbers that wrap are compared modulo 2³². -/
theorem test_later_wraps : laterThan 3 4294967290 = true ∧ laterThan 4294967290 3 = false := by decide

/-- No row of the table gives bits. -/
theorem test_no_word : decodeTableWord 16 0 = none := rfl

/-! ### Hypotheses that are met -/

theorem test_TimeExpiries_met :
    (∃ (t : ℕ) (d : ℕ) (s : State), s.th.state = .acquiring ∧ s.th.startWaitAt = some d ∧ d ≤ max s.now t ∧ s.bestSource = 0) ∧
    (∃ (t : ℕ) (d : ℕ) (s : State), s.th.state = .holdover ∧ s.th.holdoverAt = some d ∧ d ≤ max s.now t) ∧
    (∃ (t : ℕ) (p : Fin 2) (s : State), (s.ptp (p.val + 1)).lastAnnounce + sec 3 ≤ max s.now t ∧ (s.onPtp (p.val + 1) fun x => { x with available := false, master := s.cfg.ptp.boundary }).bestSource = 0 ∧ s.th.state = .locked) ∧
    (∃ (t : ℕ) (p : Fin 2) (s : State), max s.now t < (s.ptp (p.val + 1)).lastAnnounce + sec 3) ∧
    (∃ (s : State), s.th.state = .unaligned ∧ s.th.source ≠ 0 ∧ s.th.offsets ≠ [] ∧ s.stepSafe = true ∧ s.pulsing = false) :=
  ⟨⟨(0), 0, { on with th.state := .acquiring, th.startWaitAt := some 0 }, by decide, by decide, by decide, by decide⟩,
   ⟨(0), 0, { on with th.state := .holdover, th.holdoverAt := some 0 }, by decide, by decide, by decide⟩,
   ⟨((({ on with th.state := .locked } : State).ptp ((0 : Fin 2).val + 1)).lastAnnounce + sec 3), 0, { on with th.state := .locked }, by decide, by decide, by decide⟩,
   ⟨((on.ptp ((0 : Fin 2).val + 1)).lastAnnounce + sec 3) - 1, 0, on, by decide⟩,
   ⟨{ on with th.state := .unaligned, th.source := 1, th.offsets := [5, 7], acq.published := true }, by decide, by decide, by decide, by decide, by decide⟩⟩

theorem test_TimeMeasurements_met :
    (∃ (p : Fin 2) (m : PtpMsg) (s : State), ((m.domain ≠ s.cfg.ptp.domain ∨ s.ptpRuns (p.val + 1) = false))) ∧
    (∃ (p : Fin 2) (m : PtpMsg) (s : State), m.domain = s.cfg.ptp.domain ∧ s.ptpRuns (p.val + 1) = true ∧ m.kind = .unsupported) ∧
    (∃ (p : Fin 2) (m : PtpMsg) (s : State), m.domain = s.cfg.ptp.domain ∧ s.ptpRuns (p.val + 1) = true ∧ m.kind = .announce) ∧
    (∃ (p : Fin 2) (m : PtpMsg) (s : State), m.domain = s.cfg.ptp.domain ∧ s.ptpRuns (p.val + 1) = true ∧ m.kind = .pdelayReq) ∧
    (∃ (p : Fin 2) (m : PtpMsg) (s : State), m.domain = s.cfg.ptp.domain ∧ s.ptpRuns (p.val + 1) = true ∧ m.kind = .syncOneStep ∧ s.bestSource = p.val + 1 ∧ s.th.source = p.val + 1) :=
  ⟨⟨0, {}, on, by decide⟩,
   ⟨0, { domain := ((fun s : State => { s with nt.ports := s.nt.ports.upd ((0 : Fin 2).val + 1) {} fun x => { x with up := true }, cfg.ptp.ports := [1, 2] }) (on) : State).cfg.ptp.domain, kind := .unsupported }, (fun s : State => { s with nt.ports := s.nt.ports.upd ((0 : Fin 2).val + 1) {} fun x => { x with up := true }, cfg.ptp.ports := [1, 2] }) (on), by decide, by decide, by decide⟩,
   ⟨0, { domain := ((fun s : State => { s with nt.ports := s.nt.ports.upd ((0 : Fin 2).val + 1) {} fun x => { x with up := true }, cfg.ptp.ports := [1, 2] }) (on) : State).cfg.ptp.domain, kind := .announce }, (fun s : State => { s with nt.ports := s.nt.ports.upd ((0 : Fin 2).val + 1) {} fun x => { x with up := true }, cfg.ptp.ports := [1, 2] }) (on), by decide, by decide, by decide⟩,
   ⟨0, { domain := ((fun s : State => { s with nt.ports := s.nt.ports.upd ((0 : Fin 2).val + 1) {} fun x => { x with up := true }, cfg.ptp.ports := [1, 2] }) (on) : State).cfg.ptp.domain, kind := .pdelayReq }, (fun s : State => { s with nt.ports := s.nt.ports.upd ((0 : Fin 2).val + 1) {} fun x => { x with up := true }, cfg.ptp.ports := [1, 2] }) (on), by decide, by decide, by decide⟩,
   ⟨0, { domain := ((fun s : State => { s with nt.ports := s.nt.ports.upd ((0 : Fin 2).val + 1) {} fun x => { x with up := true }, cfg.ptp.ports := [1, 2] }) (({ on with th.source := 1 }).onPtp (((0 : Fin 2).val + 1)) fun x => { x with available := true }) : State).cfg.ptp.domain, kind := .syncOneStep }, (fun s : State => { s with nt.ports := s.nt.ports.upd ((0 : Fin 2).val + 1) {} fun x => { x with up := true }, cfg.ptp.ports := [1, 2] }) (({ on with th.source := 1 }).onPtp (((0 : Fin 2).val + 1)) fun x => { x with available := true }), by decide, by decide, by decide, by decide, by decide⟩⟩

theorem test_TimeCompensation_met :
    (∃ (s : State), (s.onThyme fun h => { h with ppsAvail := true }).bestSource ≠ 4) ∧
    (∃ (s : State), (s.onThyme fun h => { h with ppsAvail := true }).bestSource = 4 ∧ s.th.source = 4 ∧ s.th.state = .locked ∧ s.th.unlockRun < 15) ∧
    (∃ (s : State), s.isTwin = false) ∧
    (∃ (t : ℕ) (s : State), s.isTwin = true ∧ s.thymeRuns = true ∧ (s.begin t).turnOpen 3 125000 0 = true) ∧
    (∃ (t : ℕ) (s : State), s.isTwin = true ∧ s.thymeRuns = true ∧ (s.begin t).turnOpen 3 125000 0 = true ∧ (s.onThyme fun h => { h with twinAvail := true }).bestSource ≠ 3) ∧
    (∃ (t : ℕ) (d : ℕ) (s : State), s.th.disagreeSince = some d ∧ d + sec 1 ≤ max s.now t ∧ s.tw.role ≠ .leader) ∧
    (∃ (t : ℕ) (s : State), s.sageRuns = true ∧ (s.begin t).turnOpen 2 (ms 100) 0 = true ∧ qValid (s.tchan 0x410).quality = false ∧ qValid (s.tchan 0x411).quality = false) ∧
    (∃ (t : ℕ) (s : State), s.sageRuns = true ∧ (s.begin t).turnOpen 2 (ms 100) 0 = true ∧ qValid (s.tchan 0x410).quality = true) ∧
    (∃ (t : Nat) (s : State), s.thymeRuns = true ∧ (s.begin t).turnOpen 1 (ms 100) 0 = true) :=
  ⟨⟨on, by decide⟩,
   ⟨{ on with th.source := 4, th.state := .locked, th.labelled := true }, by decide, by decide, by decide, by decide⟩,
   ⟨{ on with cfg.twin.mode := 0 }, by decide⟩,
   ⟨0, { on with cfg.twin.mode := 1 }, by decide, by decide, by decide⟩,
   ⟨0, { on with cfg.twin.mode := 1 }, by decide, by decide, by decide, by decide⟩,
   ⟨(0 + sec 1), 0, { on with th.disagreeSince := some 0, tw.role := .follower }, by decide, by decide, by decide⟩,
   ⟨0, { on with pw.state := .watch }, by decide, by decide, by decide, by decide⟩,
   ⟨0, (fun s : State => s.onTchan 0x410 fun x => { x with quality := qGood, value := 2500 }) ({ on with pw.state := .run }), by decide, by decide, by decide⟩,
   ⟨0, on, by decide, by decide⟩⟩

theorem test_TimedOutputs_met :
    (∃ (t : ℕ) (s : State), s.thymeRuns = true ∧ timeRank s.th.state ≤ timeRank (timeOfCode s.cfg.pps.squelch) ∧ s.th.ppsSecond ≠ some ((s.begin t).th.reading / 1000000000) ∧ (s.begin t).th.reading % 1000000000 < ms s.cfg.pps.widthMs) ∧
    (∃ (t : ℕ) (s : State), ((timeRank (timeOfCode s.cfg.pps.squelch) < timeRank s.th.state ∨ s.th.ppsSecond = some ((s.begin t).th.reading / 1000000000) ∨ ms s.cfg.pps.widthMs ≤ (s.begin t).th.reading % 1000000000))) ∧
    (∃ (t : ℕ) (n : ℕ) (s : State), s.thymeRuns = true ∧ s.th.ppsHigh = true ∧ s.th.ppsSecond = some n ∧ n * 1000000000 + ms s.cfg.pps.widthMs ≤ (s.begin t).th.reading ∧ s.th.state = .locked) ∧
    (∃ (t : ℕ) (o : Fin 2) (a : ℕ) (s : State), s.thymeRuns = true ∧ (s.th.tp.get (o.val + 1) {}).high = false ∧ (s.th.tp.get (o.val + 1) {}).armedAt = some a ∧ a ≤ (s.begin t).th.reading) ∧
    (∃ (t : ℕ) (o : Fin 2) (a : ℕ) (s : State), (s.th.tp.get (o.val + 1) {}).armedAt = some a ∧ (s.begin t).th.reading < a) ∧
    (∃ (t : ℕ) (o : Fin 2) (s : State), s.thymeRuns = true ∧ (s.th.tp.get (o.val + 1) {}).high = true ∧ (s.th.tp.get (o.val + 1) {}).fallAt ≤ (s.begin t).th.reading ∧ s.th.state = .locked) ∧
    (∃ (t : ℕ) (m : Maint) (o : ℕ) (a : PTime) (sub : ℕ) (s : State), s.takes m ∧ 1 ≤ o ∧ o ≤ 2 ∧ sub < 65536 ∧ a.ok = true ∧ (s.tpCfg o).mode ≠ 2 ∧ (s.begin t).th.reading + 1000000 ≤ a.ns) ∧
    (∃ (t : ℕ) (m : Maint) (o : ℕ) (a : PTime) (sub : ℕ) (s : State), s.takes m ∧ 1 ≤ o ∧ o ≤ 2 ∧ sub < 65536 ∧ a.ok = true ∧ (s.tpCfg o).mode ≠ 2 ∧ a.ns < (s.begin t).th.reading + 1000000) ∧
    (∃ (m : Maint) (o : ℕ) (a : PTime) (sub : ℕ) (s : State), s.takes m ∧ 1 ≤ o ∧ o ≤ 2 ∧ sub < 65536 ∧ a.ok = true ∧ (s.tpCfg o).mode = 2) ∧
    (∃ (m : Maint) (a : PTime) (s : State), s.takes m ∧ a.ok = false) ∧
    (∃ (t : ℕ) (q : Fin 5) (e : TsEntry) (r : List TsEntry) (s : State), (s.th.queues.get (q.val + 1) {}).entries = e :: r ∧ e.at_ + ms 10 ≤ (s.begin t).th.reading) ∧
    (∃ (p : Fin 2) (s : State), s.ptpRuns (p.val + 1) = false) ∧
    (∃ (p : Fin 2) (s : State), s.ptpRuns (p.val + 1) = true) ∧
    (∃ (p : Fin 2) (s : State), s.ptpRuns (p.val + 1) = true ∧ s.ptpMaster (p.val + 1) = true) ∧
    (∃ (t : ℕ) (n : Fin 128) (d : ℕ) (s : State), s.leads = true ∧ s.ra.transmit = true ∧ s.thymeRuns = true ∧ (s.cfg.nodeEntry n.val).isSome = true ∧ (s.begin t).turnOpen (0x100 + n.val) (sec 10) 0 = true ∧ d < two32) :=
  ⟨⟨0, { on with th.state := .locked, th.reading := 5000000000 }, by decide, by decide, by decide, by decide⟩,
   ⟨0, on, by decide⟩,
   ⟨0, 5, { on with th.ppsHigh := true, th.ppsSecond := some 5, th.state := .locked, th.reading := 5900000000 }, by decide, by decide, by decide, by decide, by decide⟩,
   ⟨0, 0, 0, (fun s : State => { s with th.tp := s.th.tp.upd 1 {} fun x => { x with high := false, armedAt := some 0 } }) ((fun s : State => { s with th.tp := s.th.tp.upd (((0 : Fin 2).val + 1)) {} fun x => { x with high := false, armedAt := some 0 } }) (on)), by decide, by decide, by decide, by decide⟩,
   ⟨0, 0, 5, (fun s : State => { s with th.tp := s.th.tp.upd 1 {} fun x => { x with high := false, armedAt := some 5 } }) ((fun s : State => { s with th.tp := s.th.tp.upd (((0 : Fin 2).val + 1)) {} fun x => { x with armedAt := some 5 } }) (on)), by decide, by decide⟩,
   ⟨0, 0, (fun s : State => { s with th.tp := s.th.tp.upd (((0 : Fin 2).val + 1)) {} fun x => { x with high := true, fallAt := (s.begin 0).th.reading } }) ({ on with th.state := .locked }), by decide, by decide, by decide, by decide⟩,
   ⟨0, { key := 8, session := 1, seq := 1 }, 2, { secs := 5, nanos := 3 }, 0, (fun s : State => { s with cfg := s.cfg }) (({ on with pw.portsUp := true, th.reading := 4000000000 }).onTele (8) fun x => { x with client := { session := 1 } }), ⟨by decide, ⟨_, rfl, by decide⟩, by decide, by decide, by decide, by decide⟩, by decide, by decide, by decide, by decide, by decide, by decide⟩,
   ⟨0, { key := 8, session := 1, seq := 1 }, 2, {}, 0, (fun s : State => { s with cfg := s.cfg }) (({ on with pw.portsUp := true }).onTele (8) fun x => { x with client := { session := 1 } }), ⟨by decide, ⟨_, rfl, by decide⟩, by decide, by decide, by decide, by decide⟩, by decide, by decide, by decide, by decide, by decide, by decide⟩,
   ⟨{ key := 8, session := 1, seq := 1 }, 1, {}, 0, (fun s : State => { s with cfg := s.cfg }) (({ { on with cfg.tp1.mode := 2 } with pw.portsUp := true }).onTele (8) fun x => { x with client := { session := 1 } }), ⟨by decide, ⟨_, rfl, by decide⟩, by decide, by decide, by decide, by decide⟩, by decide, by decide, by decide, by decide, by decide⟩,
   ⟨{ key := 8, session := 1, seq := 1 }, { nanos := 1000000000 }, (fun s : State => { s with cfg := s.cfg }) (({ on with pw.portsUp := true }).onTele (8) fun x => { x with client := { session := 1 } }), ⟨by decide, ⟨_, rfl, by decide⟩, by decide, by decide, by decide, by decide⟩, by decide⟩,
   ⟨0, 0, { tag := 1, at_ := 5 }, [], (fun s : State => { s with th.queues := s.th.queues.upd (((0 : Fin 5).val + 1)) {} fun x => { x with entries := ({ tag := 1, at_ := 5 } : TsEntry) :: ([] : List TsEntry) } }) ({ on with th.reading := 20000000 }), by decide, by decide⟩,
   ⟨0, on, by decide⟩,
   ⟨0, (fun s : State => { s with nt.ports := s.nt.ports.upd ((0 : Fin 2).val + 1) {} fun x => { x with up := true }, cfg.ptp.ports := [1, 2] }) (on), by decide⟩,
   ⟨0, (fun s : State => s.onPtp 2 fun x => { x with available := true }) ((fun s : State => s.onPtp 1 fun x => { x with master := true }) ((fun s : State => { s with nt.ports := s.nt.ports.upd ((0 : Fin 2).val + 1) {} fun x => { x with up := true }, cfg.ptp.ports := [1, 2] }) (on))), by decide, by decide⟩,
   ⟨0, 0, 0, { on with tw.role := .leader, ra.transmit := true }, by decide, by decide, by decide, by decide, by decide, by decide⟩⟩

theorem test_RadioFrames_met :
    (∃ (t : ℕ) (c : Fin 4) (s : State), s.pw.state = .run ∧ (s.begin t).mayTransmit c.val 0 = true ∧ (s.begin t).chanPhase c.val < 120000 ∧ (s.rchan c.val).beaconIn ≠ some ((s.begin t).superframeOf c.val)) ∧
    (∃ (s : State), s.radioOn = false) ∧
    (∃ (t : ℕ) (c : Fin 4) (s : State), (((s.begin t).mayTransmit c.val mgmtBegin = false ∧ (s.isTwin = false ∨ s.leads = true) ∨ (s.begin t).chanPhase c.val < mgmtBegin ∨ (s.rchan c.val).mgmtIn = some ((s.begin t).superframeOf c.val)))) ∧
    (∃ (t : ℕ) (c : Fin 4) (s : State), (s.begin t).mayTransmit c.val mgmtBegin = true ∧ (s.begin t).chanActive c.val = true ∧ mgmtBegin ≤ (s.begin t).chanPhase c.val ∧ (s.rchan c.val).mgmtIn ≠ some ((s.begin t).superframeOf c.val) ∧ (s.begin t).contentionIn ((s.begin t).superframeOf c.val) = true) ∧
    (∃ (t : ℕ) (c : Fin 4) (n : ℕ) (cmd : NodeCmd) (rest : List NodeCmd) (s : State), (s.begin t).mayTransmit c.val mgmtBegin = true ∧ (s.begin t).chanActive c.val = true ∧ mgmtBegin ≤ (s.begin t).chanPhase c.val ∧ (s.rchan c.val).mgmtIn ≠ some ((s.begin t).superframeOf c.val) ∧ (s.begin t).contentionIn ((s.begin t).superframeOf c.val) = false ∧ s.pw.haltedApp = false ∧ s.nextNode c.val = some n ∧ (s.node n).inflight = none ∧ (s.node n).work = cmd :: rest ∧ cmd.code ≠ 6 ∧ cmd.code ≠ 9 ∧ (¬ (cmd.code = 5 ∧ cmd.params.head? = some 2))) :=
  ⟨⟨0, 0, { on with pw.state := .run }, by decide, by decide, by decide, by decide⟩,
   ⟨{ on with ra.transmit := false }, by decide⟩,
   ⟨0, 0, { on with cfg.twin.mode := 0 }, by decide⟩,
   ⟨200000, 0, (fun s : State => atNs s 3950000) ((fun s : State => { s with now := 200000 }) (on)), by decide, by decide, by decide, by decide, by decide⟩,
   ⟨200000, 0, 0, { code := 1 }, [{ code := 2 }], (fun s : State => s.onNode 0 fun x => { x with adm := .admitted, work := [{ code := 1 }, { code := 2 }] }) ((fun s : State => atNs s (100000000 + 3950000)) ((fun s : State => { s with now := 200000 }) (({ on with pw.haltedApp := false }).onNode (0) fun x => { x with inflight := none, work := ({ code := 1 } : NodeCmd) :: ([{ code := 2 }] : List NodeCmd) }))), by decide, by decide, by decide, by decide, by decide, by decide, by decide, by decide, by decide, by decide, by decide, by decide⟩⟩

theorem test_RadioResponses_met :
    (∃ (r : Resp), r.fcsOk = false) ∧
    (∃ (r : Resp) (s : State), r.fcsOk = true ∧ r.typeOk = true ∧ r.string ≠ s.cfg.string.index) ∧
    (∃ (r : Resp) (s : State), r.fcsOk = true ∧ r.typeOk = true ∧ r.string = s.cfg.string.index ∧ r.linkOk = false ∧ r.zeroOk = false) ∧
    (∃ (c : Fin 4) (f : Inflight) (r : Resp) (s : State), r.fcsOk = true ∧ r.typeOk = true ∧ r.string = s.cfg.string.index ∧ r.status ≠ 3 ∧ (s.node r.node).linked = true ∧ r.linkOk = true ∧ (s.node r.node).inflight = some f ∧ f.cmd.code = r.code ∧ f.counter = r.counter ∧ r.node / 32 = c.val ∧ r.code ≠ 2 ∧ r.code ≠ 6 ∧ s.ra.rollStage = 0 ∧ (s.node r.node).counter < 4294901760) ∧
    (∃ (c : Fin 4) (f : Inflight) (r : Resp) (s : State), r.fcsOk = true ∧ r.typeOk = true ∧ r.string = s.cfg.string.index ∧ r.status = 3 ∧ (s.node r.node).linked = true ∧ r.linkOk = true ∧ (s.node r.node).inflight = some f ∧ f.cmd.code = r.code ∧ f.counter = r.counter ∧ r.node / 32 = c.val ∧ s.ra.rollStage = 0) ∧
    (∃ (c : Fin 4) (n : ℕ) (f : Inflight) (s : State), n ∈ s.cfg.nodesOfChan c.val ∧ (s.node n).inflight = some f ∧ (s.rchan c.val).mgmtIn = some f.sentAt ∧ ((∀ m g, m ∈ s.cfg.nodesOfChan c.val → (s.node m).inflight = some g → (s.rchan c.val).mgmtIn = some g.sentAt → m = n)) ∧ f.cmd.code ≠ 2 ∧ f.repeats < 3) ∧
    (∃ (t : ℕ) (c : Fin 4) (n : ℕ) (f : Inflight) (s : State), n ∈ s.cfg.nodesOfChan c.val ∧ (s.node n).inflight = some f ∧ (s.rchan c.val).mgmtIn = some f.sentAt ∧ (s.begin t).windowOver c.val = true ∧ ((∀ m g, m ∈ s.cfg.nodesOfChan c.val → (s.node m).inflight = some g → (s.rchan c.val).mgmtIn = some g.sentAt → m = n)) ∧ f.cmd.code ≠ 2 ∧ 3 ≤ f.repeats) ∧
    (∃ (t : ℕ) (c : Fin 4) (u : ℕ) (k : ℕ) (s : State), (s.rchan c.val).unidentified = some u ∧ (s.rchan c.val).resolveAt = some k ∧ laterThan ((s.begin t).superframeOf c.val) k = true) ∧
    (∃ (c : Fin 4) (s : State), (s.rchan c.val).unidentified = none) :=
  ⟨⟨{ fcsOk := false }, by decide⟩,
   ⟨{ fcsOk := true, typeOk := true }, on, by decide, by decide, by decide⟩,
   ⟨{ fcsOk := true, typeOk := true, string := on.cfg.string.index, linkOk := false, zeroOk := false }, on, by decide, by decide, by decide, by decide, by decide⟩,
   ⟨0, { cmd := { code := 7 }, counter := 4 }, { node := 0, string := 17, status := 0, code := 7, counter := 4 }, (fun s : State => s.onNode 0 fun x => { x with adm := .admitted, inflight := some { cmd := { code := 7 }, counter := 4 } }) (on), by decide, by decide, by decide, by decide, by decide, by decide, by decide, by decide, by decide, by decide, by decide, by decide, by decide, by decide⟩,
   ⟨0, { cmd := { code := 7 }, counter := 4 }, { node := 0, string := 17, status := 3, code := 7, counter := 4 }, (fun s : State => s.onNode 0 fun x => { x with adm := .admitted, inflight := some { cmd := { code := 7 }, counter := 4 } }) (on), by decide, by decide, by decide, by decide, by decide, by decide, by decide, by decide, by decide, by decide, by decide⟩,
   ⟨0, 0, { sentAt := 0, repeats := 1 }, (fun s : State => s.onNode 0 fun x => { x with inflight := some { sentAt := 0, repeats := 1 } }) ((fun s : State => s.onChan 0 fun x => { x with mgmtIn := some 0 }) (on)), by decide, by decide, by decide, fun m g h => by have h : m ∈ [0] := h; simp at h; intros; exact h, by decide, by decide⟩,
   ⟨0, 0, 0, { sentAt := 0, repeats := 3 }, (fun s : State => s.onNode 0 fun x => { x with inflight := some { sentAt := 0, repeats := 3 } }) ((fun s : State => s.onChan 0 fun x => { x with mgmtIn := some 0 }) ((fun s : State => atNs s 3999000) (((on).onNode (0) fun x => { x with inflight := some ({ sentAt := 0, repeats := 3 } : Inflight) }).onChan ((0 : Fin 4).val) fun x => { x with mgmtIn := some ({ sentAt := 0, repeats := 3 } : Inflight).sentAt }))), by decide, by decide, by decide, by decide, fun m g h => by have h : m ∈ [0] := h; simp at h; intros; exact h, by decide, by decide⟩,
   ⟨0, 0, 5, 5, (fun s : State => atNs s 40000000) ((on).onChan ((0 : Fin 4).val) fun x => { x with unidentified := some 5, resolveAt := some 5 }), by decide, by decide, by decide⟩,
   ⟨0, (on).onChan ((0 : Fin 4).val) fun x => { x with unidentified := none }, by decide⟩⟩

theorem test_NodeAdmission_met :
    (∃ (r : AdmReq), r.fcsOk = false) ∧
    (∃ (r : AdmReq) (s : State), r.fcsOk = true ∧ r.typeOk = true ∧ r.string = s.cfg.string.index ∧ r.cmacOk = false) ∧
    (∃ (t : ℕ) (r : AdmReq) (s : State), r.fcsOk = true ∧ r.typeOk = true ∧ r.string = s.cfg.string.index ∧ r.cmacOk = true ∧ max s.now t < s.ra.holdOuts.get r.ident 0) ∧
    (∃ (t : ℕ) (c : Fin 4) (n : ℕ) (r : AdmReq) (s : State), r.fcsOk = true ∧ r.typeOk = true ∧ r.string = s.cfg.string.index ∧ r.cmacOk = true ∧ s.ra.holdOuts.get r.ident 0 ≤ max s.now t ∧ s.indexOf r.harness = some n ∧ r.cls = 16 ∧ n / 32 = c.val ∧ (s.node n).adm = .unadmitted) ∧
    (∃ (t : ℕ) (c : Fin 4) (n : ℕ) (r : AdmReq) (s : State), r.fcsOk = true ∧ r.typeOk = true ∧ r.string = s.cfg.string.index ∧ r.cmacOk = true ∧ s.ra.holdOuts.get r.ident 0 ≤ max s.now t ∧ s.indexOf r.harness = some n ∧ r.cls = 16 ∧ n / 32 = c.val ∧ (s.node n).adm ≠ .unadmitted) ∧
    (∃ (c : Fin 4) (n : Fin 128) (s : State), (s.node n.val).adm = .challenged ∧ n.val / 32 = c.val ∧ (s.node n.val).inflight.isSome = true ∧ (s.cfg.nodes.find? fun e => decide (e.ident = (s.node n.val).ident)).map (fun e => e.index) = some n.val) ∧
    (∃ (c : Fin 4) (n : Fin 128) (s : State), (s.node n.val).adm = .challenged ∧ n.val / 32 = c.val ∧ (s.node n.val).inflight.isSome = true) ∧
    (∃ (t : ℕ) (n : Fin 128) (k : ℕ) (s : State), (s.node n.val).adm = .keying ∧ (s.node n.val).keyCommitAt = some k ∧ laterThan ((s.begin t).superframeOf (n.val / 32)) ((k + 25) % two32) = true) ∧
    (∃ (t : ℕ) (i : ℕ) (s : State), s.ra.holdOuts.get i 0 ≤ max s.now t) ∧
    (∃ (t : ℕ) (i : ℕ) (s : State), max s.now t < s.ra.holdOuts.get i 0) :=
  ⟨⟨{ fcsOk := false }, by decide⟩,
   ⟨{ fcsOk := true, typeOk := true, string := on.cfg.string.index, cmacOk := false }, on, by decide, by decide, by decide, by decide⟩,
   ⟨(({ on with ra.holdOuts := { entries := [(5, 77)] } } : State).ra.holdOuts.get ({ fcsOk := true, typeOk := true, string := ({ on with ra.holdOuts := { entries := [(5, 77)] } } : State).cfg.string.index, cmacOk := true, ident := 5 } : AdmReq).ident 0) - 1, { fcsOk := true, typeOk := true, string := ({ on with ra.holdOuts := { entries := [(5, 77)] } } : State).cfg.string.index, cmacOk := true, ident := 5 }, { on with ra.holdOuts := { entries := [(5, 77)] } }, by decide, by decide, by decide, by decide, by decide⟩,
   ⟨(((on).onNode (0) fun x => { x with adm := .unadmitted } : State).ra.holdOuts.get ({ fcsOk := true, typeOk := true, string := ((on).onNode (0) fun x => { x with adm := .unadmitted } : State).cfg.string.index, cmacOk := true, cls := 16 } : AdmReq).ident 0), (Fin.ofNat _ (0 / 32)), 0, { fcsOk := true, typeOk := true, string := ((on).onNode (0) fun x => { x with adm := .unadmitted } : State).cfg.string.index, cmacOk := true, cls := 16 }, (on).onNode (0) fun x => { x with adm := .unadmitted }, by decide, by decide, by decide, by decide, by decide, by decide, by decide, by decide, by decide⟩,
   ⟨(((fun s : State => s.onNode 0 fun x => { x with adm := .admitted }) (on) : State).ra.holdOuts.get ({ fcsOk := true, typeOk := true, string := ((fun s : State => s.onNode 0 fun x => { x with adm := .admitted }) (on) : State).cfg.string.index, cmacOk := true, cls := 16, harness := 0 } : AdmReq).ident 0), 0, 0, { fcsOk := true, typeOk := true, string := ((fun s : State => s.onNode 0 fun x => { x with adm := .admitted }) (on) : State).cfg.string.index, cmacOk := true, cls := 16, harness := 0 }, (fun s : State => s.onNode 0 fun x => { x with adm := .admitted }) (on), by decide, by decide, by decide, by decide, by decide, by decide, by decide, by decide, by decide⟩,
   ⟨0, 0, (fun s : State => s.onNode 0 fun x => { x with adm := .challenged, ident := 1, inflight := some {} }) (on), by decide, by decide, by decide, by decide⟩,
   ⟨0, 0, (fun s : State => s.onNode 0 fun x => { x with adm := .challenged, ident := 1, inflight := some {} }) (on), by decide, by decide, by decide⟩,
   ⟨0, 0, 5, (fun s : State => atNs s 400000000) ((on).onNode ((0 : Fin 128).val) fun x => { x with adm := .keying, keyCommitAt := some 5 }), by decide, by decide, by decide⟩,
   ⟨(on.ra.holdOuts.get 0 0), 0, on, by decide⟩,
   ⟨(({ on with ra.holdOuts := { entries := [(5, 77)] } } : State).ra.holdOuts.get 5 0) - 1, 5, { on with ra.holdOuts := { entries := [(5, 77)] } }, by decide⟩⟩

theorem test_ReportsAndSets_met :
    (∃ (n : Fin 128) (s : State), (s.node n.val).linked = false) ∧
    (∃ (t : ℕ) (n : Fin 128) (f : Bool) (s : State), (s.begin t).chanPhase (n.val / 32) < slotEnd (s.reportSlot n.val f)) ∧
    (∃ (t : ℕ) (n : Fin 128) (r : ReportRx) (s : State), s.netOn = true ∧ (s.begin t).chanActive (n.val / 32) = true ∧ slotEnd (slotOf n.val) ≤ (s.begin t).chanPhase (n.val / 32) ∧ r.fcsOk = false ∧ (s.node n.val).linked = false) ∧
    (∃ (t : ℕ) (n : Fin 128) (r : ReportRx) (s : State), s.netOn = true ∧ s.pw.state = .run ∧ slotEnd (slotOf n.val) ≤ (s.begin t).chanPhase (n.val / 32) ∧ r.fcsOk = true ∧ r.typeOk = true ∧ r.string = s.cfg.string.index ∧ r.macOk = true ∧ r.node = n.val ∧ slotBegin (slotOf n.val) ≤ r.at_ ∧ r.at_ < slotEnd (slotOf n.val) ∧ r.alarm = none ∧ (s.node n.val).adm = .admitted ∧ s.ra.rollStage = 0 ∧ r.first = (4 * (s.begin t).superframeOf (n.val / 32) + 4 * two32 - 4) % two32 ∧ ((∀ w, s.acq.closedTo = some w → notBefore w r.first = false)) ∧ (s.node n.val).heardIn ≠ some ((s.begin t).superframeOf (n.val / 32))) ∧
    (∃ (energy : ℤ) (s : State), energy ≤ (10 * s.cfg.link.energyDb : Int)) ∧
    (∃ (t : ℕ) (c : Fin 4) (a : Fin 4) (energy : ℤ) (s : State), s.netOn = true ∧ alarmBegin a.val + 25000 ≤ (s.begin t).chanPhase c.val ∧ (10 * s.cfg.link.energyDb : Int) < energy) ∧
    (∃ (t : ℕ) (s : State), s.netOn = true ∧ s.pw.state = .run ∧ ((∀ w, s.acq.closedTo = some w → notBefore w (4 * ((s.begin t).framesDone - 2) % two32) = false))) ∧
    (∃ (s : State), s.leads = false) ∧
    (∃ (t : ℕ) (n : ℕ) (s : State), s.leads = true ∧ s.pw.haltedApp = false ∧ n ∈ s.cfg.nodes.map (fun e => e.index) ∧ (s.cfg.nodes.map fun e => e.index).Nodup ∧ ((∀ m ∈ s.cfg.nodes.map (fun e => e.index), m ≠ n → (s.node m).inService = false)) ∧ (s.node n).inService = true ∧ (s.node n).relayPending = none ∧ (s.node n).relayRole = 2 ∧ (s.begin t).directOk n = true) ∧
    (∃ (t : ℕ) (c : Fin 4) (occ : ℕ) (s : State), s.radioOn = true ∧ (s.begin t).turnOpen (0x10 + c.val) (sec 1) 0 = true ∧ 400 < occ) ∧
    (∃ (t : ℕ) (c : Fin 4) (occ : ℕ) (s : State), s.radioOn = true ∧ (s.begin t).turnOpen (0x10 + c.val) (sec 1) 0 = true ∧ occ ≤ 400) :=
  ⟨⟨0, (on).onNode ((0 : Fin 128).val) fun x => { x with adm := .unadmitted }, by decide⟩,
   ⟨0, 0, false, on, by decide⟩,
   ⟨0, 0, { fcsOk := false }, (fun s : State => atNs s 3950000) (({ on with pw.portsUp := true }).onNode ((0 : Fin 128).val) fun x => { x with adm := .unadmitted }), by decide, by decide, by decide, by decide, by decide⟩,
   ⟨0, 0, { fcsOk := true, typeOk := true, string := ((fun s : State => atNs s 3950000) (({ on with pw.portsUp := true, pw.state := .run, ra.rollStage := 0 }).onNode ((0 : Fin 128).val) fun x => { x with adm := .admitted }) : State).cfg.string.index, macOk := true, node := (0 : Fin 128).val, alarm := none, at_ := slotBegin 0 + 5, first := 4294967292 }, (fun s : State => atNs s 3950000) (({ on with pw.portsUp := true, pw.state := .run, ra.rollStage := 0 }).onNode ((0 : Fin 128).val) fun x => { x with adm := .admitted }), by decide, by decide, by decide, by decide, by decide, by decide, by decide, by decide, by decide, by decide, by decide, by decide, by decide, by decide, by decide, by decide⟩,
   ⟨(10 * on.cfg.link.energyDb : Int), on, by decide⟩,
   ⟨0, 0, 0, ((10 * ((fun s : State => atNs s 3990000) ({ on with pw.portsUp := true }) : State).cfg.link.energyDb : Int)) + 1, (fun s : State => atNs s 3990000) ({ on with pw.portsUp := true }), by decide, by decide, by decide⟩,
   ⟨0, { on with pw.portsUp := true, pw.state := .run }, by decide, by decide, by decide⟩,
   ⟨{ on with tw.role := .follower }, by decide⟩,
   ⟨0, 0, (fun s : State => s.onNode 0 fun x => { x with routeAt := 4294967000, testHist := [(2500, false)] }) ((fun s : State => atNs s 12000000000) (({ on with tw.role := .leader, pw.haltedApp := false }).onNode (0) fun x => { x with adm := .admitted, relayPending := none, relayRole := 2 })), by decide, by decide, by decide, by decide, by decide, by decide, by decide, by decide, by decide⟩,
   ⟨0, 0, (400) + 1, { on with ra.transmit := true }, by decide, by decide, by decide⟩,
   ⟨0, 0, 400, { on with ra.transmit := true }, by decide, by decide, by decide⟩⟩

theorem test_NodeCommands_met :
    (∃ (t : ℕ) (m : Mgmt) (n : ℕ) (s : State), m.heard = [n] ∧ ((s.readBitmaps m).dev n).seeks (max s.now t) = true ∧ ((s.readBitmaps m).dev n).backoff = 0) ∧
    (∃ (t : ℕ) (m : Mgmt) (n : ℕ) (s : State), m.heard = [n] ∧ ((s.readBitmaps m).dev n).seeks (max s.now t) = true ∧ 0 < ((s.readBitmaps m).dev n).backoff) ∧
    (∃ (m : Mgmt) (s : State), m.target < 128 ∧ m.target ∈ m.heard ∧ (s.isTwin && !s.leads && s.pw.portsUp) = false ∧ ((s.readBitmaps m).dev m.target).adm = .admitted ∧ ((s.readBitmaps m).dev m.target).lastCounter < m.counter) ∧
    (∃ (m : Mgmt) (s : State), s.isTwin = true ∧ s.leads = false ∧ s.pw.portsUp = true ∧ m.target < 128) :=
  ⟨⟨0, { heard := [0] }, 0, (fun s : State => s.onDev 0 fun x => { x with lastFrame := some 0 }) (on), by decide, by decide, by decide⟩,
   ⟨0, { heard := [0] }, 0, (fun s : State => s.onDev 0 fun x => { x with lastFrame := some 0, backoff := 2 }) (on), by decide, by decide, by decide⟩,
   ⟨{ target := 0, heard := [0], counter := 5 }, (fun s : State => s.onDev 0 fun d => { d with adm := .admitted, lastCounter := 4 }) (on), by decide, by decide, by decide, by decide, by decide⟩,
   ⟨{ target := 127 }, { on with cfg := { on.cfg with twin := { on.cfg.twin with mode := 1 } }, tw := { on.tw with role := .follower } }, by decide, by decide, by decide, by decide⟩⟩

theorem test_NodeCommandCounters_met :
    (∃ (m : Mgmt) (s : State), m.target < 128 ∧ m.target ∈ m.heard ∧ (s.isTwin && !s.leads && s.pw.portsUp) = false) :=
  ⟨{ target := 0, heard := [0], counter := 5 }, on, by decide, by decide, by decide⟩

theorem test_NodeBeacons_met :
    (∃ (t : ℕ) (n : Fin 128) (s : State), (s.dev n.val).lastBeacon + sec 10 ≤ max s.now t) ∧
    (∃ (t : ℕ) (n : Fin 128) (s : State), max s.now t < (s.dev n.val).lastBeacon + sec 10) ∧
    (∃ (t : ℕ) (n : Fin 128) (a : ℕ) (s : State), (s.dev n.val).commitAt.get 1 0 = a + 1 ∧ notBefore (s.begin t).sweepNo a = true) ∧
    (∃ (n : Fin 128) (s : State), (s.dev n.val).adm ≠ .admitted ∧ (s.dev n.val).requestSent = true ∧ (s.dev n.val).ceiling ≤ (s.dev n.val).attempts + 1) ∧
    (∃ (n : Fin 128) (s : State), (s.dev n.val).adm ≠ .admitted ∧ (s.dev n.val).requestSent = true ∧ (s.dev n.val).attempts + 1 < (s.dev n.val).ceiling) ∧
    (∃ (t : ℕ) (n : Fin 128) (d : ℕ) (s : State), (s.dev n.val).listenUntil = some d ∧ d ≤ max s.now t) :=
  ⟨⟨((on.dev (0 : Fin 128).val).lastBeacon + sec 10), 0, on, by decide⟩,
   ⟨((on.dev (0 : Fin 128).val).lastBeacon + sec 10) - 1, 0, on, by decide⟩,
   ⟨0, 0, 5, (fun s : State => s.onDev 0 fun x => { x with commitAt := { entries := [(1, 6)] } }) ((fun s : State => atNs s 40000000) (on)), by decide, by decide⟩,
   ⟨0, (fun s : State => s.onDev 0 fun d => { d with requestSent := true, attempts := 20 }) (on), by decide, by decide, by decide⟩,
   ⟨0, (fun s : State => s.onDev 0 fun d => { d with requestSent := true, attempts := 2 }) (on), by decide, by decide, by decide⟩,
   ⟨(0), 0, 0, (on).onDev ((0 : Fin 128).val) fun x => { x with listenUntil := some 0 }, by decide, by decide⟩⟩

theorem test_NodeReports_met :
    (∃ (t : ℕ) (n : Fin 128) (a : Fin 4) (x : HeldAlarm) (s : State), (s.dev n.val).top = some x ∧ (s.dev n.val).mayReport = true ∧ (s.dev n.val).polled = false ∧ alarmBegin a.val + 5000 ≤ (s.begin t).chanPhase (n.val / 32) ∧ (s.begin t).chanPhase (n.val / 32) < alarmBegin a.val + 30000) ∧
    (∃ (t : ℕ) (n : Fin 128) (a : Fin 4) (s : State), (((s.dev n.val).top = none ∨ (s.dev n.val).polled = true ∨ (s.begin t).chanPhase (n.val / 32) < alarmBegin a.val + 5000))) ∧
    (∃ (t : ℕ) (n : Fin 128) (s : State), (s.begin t).reportsIn (s.dev n.val) ((s.begin t).superframeOf (n.val / 32)) = true ∧ (s.begin t).inReportSlot (n.val / 32) (slotOf n.val) = true ∧ (s.dev n.val).reportedIn ≠ some ((s.begin t).superframeOf (n.val / 32))) ∧
    (∃ (n : Fin 128) (s : State), (s.dev n.val).mayReport = false) ∧
    (∃ (t : ℕ) (n : Fin 128) (s : State), (s.begin t).reportsIn (s.dev n.val) ((s.begin t).superframeOf (n.val / 32)) = true ∧ (s.dev n.val).role = 1 ∧ (s.begin t).inReportSlot (n.val / 32) (s.dev n.val).fwdSlot = true) :=
  ⟨⟨0, 0, 0, { code := 1, seq := 3 }, (fun s : State => s.onDev 0 fun d => { d with keyed := true, adm := .admitted, lastFrame := some 0, alarms := [{ code := 1, seq := 3 }] }) ((fun s : State => atNs s 1050000) ((on).onDev ((0 : Fin 128).val) fun x => { x with adm := .admitted, polled := false })), by decide, by decide, by decide, by decide, by decide⟩,
   ⟨0, 0, 0, on, by decide⟩,
   ⟨0, 0, (fun s : State => s.onDev 0 fun d => { d with keyed := true, adm := .admitted, lastFrame := some 0 }) ((fun s : State => atNs s 130000) (on)), by decide, by decide, by decide⟩,
   ⟨0, on, by decide⟩,
   ⟨0, 0, (fun s : State => s.onDev 0 fun d => { d with keyed := true, adm := .admitted, lastFrame := some 0, role := 1 }) ((fun s : State => atNs s 130000) ((on).onDev ((0 : Fin 128).val) fun x => { x with role := 1 })), by decide, by decide, by decide⟩⟩

theorem test_SweepEndChannels_met :
    (∃ (s : State), s.samples = false) ∧
    (∃ (t : ℕ) (s : State), s.acq.endedAt = some (((s.begin t).sweepNo + two32 - 1) % two32)) ∧
    (∃ (t : ℕ) (s : State), s.samples = true ∧ s.pw.resetHold = none ∧ s.acq.endedAt ≠ some (((s.begin t).sweepNo + two32 - 1) % two32)) :=
  ⟨⟨{ on with pw.bootDone := false }, by decide⟩,
   ⟨0, (fun s : State => { s with acq := { s.acq with endedAt := some 4 } }) ((fun s : State => atNs s 5000000) (on)), by decide⟩,
   ⟨0, { on with pw.bootDone := true, pw.resetHold := none }, by decide, by decide, by decide⟩⟩

theorem test_AcquisitionChecks_met :
    (∃ (b : Fin 4) (s : State), (s.acq.mismatch.get b.val {}).count < 100) ∧
    (∃ (b : Fin 4) (s : State), 100 ≤ (s.acq.mismatch.get b.val {}).count ∧ (s.acq.mismatch.get b.val {}).usable = false) ∧
    (∃ (b : Fin 4) (s : State), 100 ≤ (s.acq.mismatch.get b.val {}).count ∧ (s.acq.mismatch.get b.val {}).usable = true) ∧
    (∃ (s : State), s.acq.xCount < 10) ∧
    (∃ (s : State), 10 ≤ s.acq.xCount) ∧
    (∃ (b : Fin 4) (s : State), ((s.confirmedOpen (b.val + 1) = false ∨ s.acq.openRun.get b.val 0 < 1000))) ∧
    (∃ (s : State), s.acq.spareFaultHv = false ∧ s.spareBusy true = false ∧ s.acq.swapHv = none) ∧
    (∃ (t : ℕ) (n : ℕ) (s : State), s.acq.spareFaultIb = false ∧ s.spareBusy false = false ∧ s.acq.swapIb = some n ∧ notBefore (s.begin t).sweepNo ((n + 101) % two32) = true) ∧
    (∃ (s : State), s.spareBusy true = true ∧ s.pw.state ≠ .watch ∧ 1 ∉ s.dl.deferred) ∧
    (∃ (t : ℕ) (z : ℕ) (s : State), s.acq.zeroSince = some z ∧ z + sec 1 ≤ max s.now t) ∧
    (∃ (s : State), s.acq.zeroSince = none ∧ sec 86400 ≤ s.acq.runNs) ∧
    (∃ (b : Fin 4) (s : State), s.confirmedOpen (b.val + 1) = true ∧ s.confirmedOpen (b.val + 5) = true ∧ 1000 ≤ s.acq.openRun.get b.val 0) :=
  ⟨⟨0, on, by decide⟩,
   ⟨0, (fun s : State => { s with acq.mismatch := s.acq.mismatch.upd ((0 : Fin 4).val) {} fun x => { x with count := 100, usable := false } }) (on), by decide, by decide⟩,
   ⟨0, (fun s : State => { s with acq.mismatch := s.acq.mismatch.upd ((0 : Fin 4).val) {} fun x => { x with count := 100, usable := true } }) (on), by decide, by decide⟩,
   ⟨on, by decide⟩,
   ⟨{ on with acq.xCount := 10 }, by decide⟩,
   ⟨0, (on).onCoil (((0 : Fin 4).val + 1)) fun x => { x with accepted := none }, by decide⟩,
   ⟨{ on with acq.spareFaultHv := false, acq.swapHv := none }, by decide, by decide, by decide⟩,
   ⟨0, 5, (fun s : State => atNs s 500000000) ({ on with acq.spareFaultIb := false, acq.swapIb := some 5 }), by decide, by decide, by decide, by decide⟩,
   ⟨{ on with pw.state := .off, acq.faulty := [6] }, by decide, by decide, by decide⟩,
   ⟨(0 + sec 1), 0, { on with acq.zeroSince := some 0 }, by decide, by decide⟩,
   ⟨{ on with acq.zeroSince := none, acq.runNs := sec 86400 }, by decide, by decide⟩,
   ⟨3, openAll { on with acq := { on.acq with openRun := { entries := [(3, 1000)] } } }, by decide, by decide, by decide⟩⟩

theorem test_Recalibration_met :
    (∃ (m : Maint) (s : State), s.takes m ∧ s.calAllowed m = false) ∧
    (∃ (m : Maint) (mask : ℕ) (s : State), s.takes m ∧ s.calAllowed m = true ∧ mask < 16384) ∧
    (∃ (m : Maint) (p : ℕ) (mask : ℕ) (s : State), s.takes m ∧ s.calAllowed m = true ∧ s.acq.calMask = some mask ∧ p < s.acq.calPoints.length) ∧
    (∃ (p : ℕ) (s : State), s.acq.calCapture = some p ∧ 2000 ≤ s.acq.calSweeps.length) ∧
    (∃ (p : ℕ) (e : ℕ) (q : ℕ) (s : State), s.acq.calCapture = some q ∧ (s.acq.calSweeps.length < 2000 ∨ q ≠ p ∨ (s.acq.calPoints.getD q (0, 0)).1 ≠ e)) ∧
    (∃ (t : ℕ) (m : Maint) (a : AuthIn) (mask : ℕ) (s : State), s.takes m ∧ s.calAllowed m = true ∧ s.acq.calMask = some mask ∧ s.calWithin mask = true ∧ (s.begin t).authLocked = false ∧ a.counter = wrapInc s.sf.counter ∧ a.ok = true) ∧
    (∃ (t : ℕ) (m : Maint) (a : AuthIn) (mask : ℕ) (s : State), s.takes m ∧ s.calAllowed m = true ∧ s.acq.calMask = some mask ∧ s.calWithin mask = true ∧ (s.begin t).authLocked = false ∧ a.counter = wrapInc s.sf.counter ∧ a.ok = false) ∧
    (∃ (t : ℕ) (d : ℕ) (s : State), s.sf.lockUntil = some d ∧ d ≤ max s.now t) :=
  ⟨⟨{ key := 8, session := 1, seq := 1 }, (fun s : State => { s with cfg := s.cfg }) (({ on with pw.portsUp := true }).onTele (8) fun x => { x with client := { session := 1 } }), ⟨by decide, ⟨_, rfl, by decide⟩, by decide, by decide, by decide, by decide⟩, by decide⟩,
   ⟨{ key := 8, session := 1, seq := 1 }, 0, (fun s : State => openAll s) ((fun s : State => { s with cfg := s.cfg }) (({ on with pw.portsUp := true, pw.serviceEnable := true }).onTele (8) fun x => { x with client := { session := 1 } })), ⟨by decide, ⟨_, rfl, by decide⟩, by decide, by decide, by decide, by decide⟩, by decide, by decide⟩,
   ⟨{ key := 8, session := 1, seq := 1 }, 0, 1, (fun s : State => openAll s) ((fun s : State => { s with cfg := s.cfg }) (({ on with pw.portsUp := true, acq.calMask := some 1, pw.serviceEnable := true, acq.calPoints := [(0, 0), (0, 5)] }).onTele (8) fun x => { x with client := { session := 1 } })), ⟨by decide, ⟨_, rfl, by decide⟩, by decide, by decide, by decide, by decide⟩, by decide, by decide, by decide⟩,
   ⟨0, { on with acq.calCapture := some 0, acq.calPoints := [(0, 0), (0, 5)], acq.calSweeps := List.replicate 2000 5 }, by decide, by decide⟩,
   ⟨0, 0, 0, { on with acq.calCapture := some 0 }, by decide, by decide⟩,
   ⟨0, { key := 8, session := 1, seq := 1 }, { ok := true, counter := 1 }, 0, (fun s : State => openAll s) ((fun s : State => { s with cfg := s.cfg }) (({ on with pw.portsUp := true, acq.calMask := some 0, pw.serviceEnable := true }).onTele (8) fun x => { x with client := { session := 1 } })), ⟨by decide, ⟨_, rfl, by decide⟩, by decide, by decide, by decide, by decide⟩, by decide, by decide, by decide, by decide, by decide, by decide⟩,
   ⟨0, { key := 8, session := 1, seq := 1 }, { counter := 1, ok := false }, 0, (fun s : State => openAll s) ((fun s : State => { s with cfg := s.cfg }) (({ on with pw.portsUp := true, acq.calMask := some 0, pw.serviceEnable := true }).onTele (8) fun x => { x with client := { session := 1 } })), ⟨by decide, ⟨_, rfl, by decide⟩, by decide, by decide, by decide, by decide⟩, by decide, by decide, by decide, by decide, by decide, by decide⟩,
   ⟨(0), 0, { on with sf.lockUntil := some 0 }, by decide, by decide⟩⟩

theorem test_TonePlans_met :
    (∃ (s : State), s.leads = false) ∧
    (∃ (s : State), s.leads = true ∧ s.sageRuns = true ∧ s.sg.plans = []) ∧
    (∃ (t : ℕ) (p : TonePlan) (l : List TonePlan) (s : State), s.leads = true ∧ s.sageRuns = true ∧ s.sg.plans = p :: l ∧ 10000 ≤ ((s.begin t).sweepNo + two32 - s.sg.lastPlanAt) % two32 ∧ ((s.begin t).planFor p.ident p.fromSweep) ≠ p) ∧
    (∃ (t : ℕ) (s : State), s.sg.plans ≠ [] ∧ ((s.begin t).sweepNo + two32 - s.sg.lastPlanAt) % two32 < 10000) ∧
    (∃ (s : State), s.leads = false) ∧
    (∃ (t : ℕ) (s : State), s.leads = true ∧ s.sageRuns = true ∧ s.sg.rest = true ∧ (s.begin t).atRest = true ∧ s.sg.lastSwap + sec 60 ≤ max s.now t) ∧
    (∃ (t : ℕ) (s : State), s.leads = true ∧ s.sageRuns = true ∧ s.sg.rest = false ∧ (s.begin t).atRest = true) ∧
    (∃ (t : ℕ) (s : State), (s.begin t).sweepAbs % 100 ≠ 0) ∧
    (∃ (t : ℕ) (s : State), (s.begin t).sweepAbs % 100 = 0 ∧ s.toneAllowed = false) ∧
    (∃ (t : ℕ) (s : State), (s.begin t).sweepAbs % 100 = 0 ∧ s.toneAllowed = true ∧ s.sg.toneReq = {} ∧ s.sg.toneBan = false ∧ (s.onSage fun g => { g with toneReq := s.toneAmps.foldl (fun t e => t.put e.1 0 e.2) {} }).toneOverLimit = false) :=
  ⟨⟨{ on with tw.role := .follower }, by decide⟩,
   ⟨{ on with tw.role := .leader, pw.state := .watch, sg.plans := [] }, by decide, by decide, by decide⟩,
   ⟨0, {}, [], (fun s : State => atNs s 20000000000) ({ on with tw.role := .leader, pw.state := .watch, sg.plans := ({} : TonePlan) :: ([] : List TonePlan) }), by decide, by decide, by decide, by decide, by decide⟩,
   ⟨0, { on with sg.plans := [{}] }, by decide, by decide⟩,
   ⟨{ on with tw.role := .follower }, by decide⟩,
   ⟨(({ on with tw.role := .leader, pw.state := .watch, sg.rest := true } : State).sg.lastSwap + sec 60), { on with tw.role := .leader, pw.state := .watch, sg.rest := true }, by decide, by decide, by decide, by decide, by decide⟩,
   ⟨0, { on with tw.role := .leader, pw.state := .watch, sg.rest := false }, by decide, by decide, by decide, by decide⟩,
   ⟨0, (fun s : State => atNs s 5000000) (on), by decide⟩,
   ⟨0, on, by decide, by decide⟩,
   ⟨0, (fun s : State => s.setBranch 0 .joined) ({ on with sg.toneReq := {}, sg.toneBan := false, pw.state := .run, rt.conv := { running := true, accepting := true }, cfg.tone.requestable := [] }), by decide, by decide, by decide, by decide, (by have h : ∀ u : State, u.sg.toneReq = {} → u.toneReserve = 0 := fun u h => (by simp [State.toneReserve, h, sumR, Table.get, Table.look, List.range_succ]); have e : ∀ u : State, u.cfg.tone.requestable = [] → u.toneAmps = [] := fun u h => (by simp [State.toneAmps, h]); exact decide_eq_false (by rw [h _ (by show List.foldl _ ({} : Table Nat) (State.toneAmps _) = {}; rw [e _ rfl]; rfl)]; show ¬ (((0 : Int) : Rat) < ((0 : Nat) : Rat) + 0); norm_num))⟩⟩

theorem test_ImpedanceEstimates_met :
    (∃ (s : State), s.sg.plans = []) ∧
    (∃ (t : ℕ) (p : TonePlan) (s : State), s.sageRuns = true ∧ s.planAt (((s.begin t).sweepAbs / 1000 * 1000 + two32 - 1) % two32) = some p ∧ (s.begin t).turnOpen 4 (sec 1) 0 = true) ∧
    (∃ (t : ℕ) (p : TonePlan) (s : State), s.sageRuns = true ∧ s.planAt (((s.begin t).sweepAbs / 10000 * 10000 - 10000) % two32) = some p ∧ (s.begin t).turnOpen 5 (sec 10) 0 = true) ∧
    (∃ (t : ℕ) (p : TonePlan) (s : State), s.sageRuns = true ∧ s.planAt (s.begin t).sweepNo = some p ∧ (s.begin t).turnOpen 6 (sec 10) 0 = true) ∧
    (∃ (t : ℕ) (s : State), s.sageRuns = true ∧ (s.begin t).turnOpen 7 (sec 1) 0 = true) ∧
    (∃ (t : ℕ) (c : Fin 2048) (s : State), (s.dR c.val = none ∨ (s.begin t).atEquilibrium c.val = false)) ∧
    (∃ (t : ℕ) (c : Fin 2048) (d : ℚ) (s : State), s.sageRuns = true ∧ s.dR c.val = some d ∧ (s.begin t).atEquilibrium c.val = true ∧ (s.coef c.val (s.socBand c.val)).flags.testBit 0 = false ∧ (s.coef c.val (s.socBand c.val)).lo = none ∧ (s.coef c.val (s.socBand c.val)).hi = none) ∧
    (∃ (t : ℕ) (w : ℕ) (s : State), s.sageRuns = true ∧ (s.begin t).turnOpen 8 (ms 1) 0 = true ∧ s.sg.fgLeft + w ≤ 850) ∧
    (∃ (t : ℕ) (w : ℕ) (s : State), s.sageRuns = true ∧ (s.begin t).turnOpen 8 (ms 1) 0 = true ∧ 1000 < s.sg.fgLeft + w ∧ s.sg.carried < 4) :=
  ⟨⟨{ on with sg.plans := [] }, by decide⟩,
   ⟨0, { fromSweep := 5, freqs := [10, 20, 100, 800, 4000], count := 5 }, (fun s : State => atNs s 20000000000) ({ on with pw.state := .watch, sg.plans := [({ fromSweep := 5, freqs := [10, 20, 100, 800, 4000], count := 5 } : TonePlan)] }), by decide, by decide, by decide⟩,
   ⟨0, { fromSweep := 5, freqs := [10, 20, 100, 800, 4000], count := 5 }, (fun s : State => atNs s 30000000000) ({ on with pw.state := .watch, sg.plans := [({ fromSweep := 5, freqs := [10, 20, 100, 800, 4000], count := 5 } : TonePlan)] }), by decide, by decide, by decide⟩,
   ⟨0, { fromSweep := 5, freqs := [10, 20, 100, 800, 4000], count := 5 }, (fun s : State => atNs s 30000000000) ({ on with pw.state := .watch, sg.plans := [({ fromSweep := 5, freqs := [10, 20, 100, 800, 4000], count := 5 } : TonePlan)] }), by decide, by decide, by decide⟩,
   ⟨0, { on with pw.state := .watch }, by decide, by decide⟩,
   ⟨0, 0, on, by decide⟩,
   ⟨9000000000000, 0, 7, (fun s : State => { s with sg := { s.sg with imp := s.sg.imp.upd 1 {} fun x => { x with status := 0, z := { re := 7, im := 0 }, eligible := 5 }, fits := s.sg.fits.upd 0 {} fun x => { x with valid := true, validR0 := 0 }, eqRefs := s.sg.eqRefs.put 0 none (some { temp := 2500, hourAt := 0, since := 0 }), ibLow := s.sg.ibLow.put 0 none (some 0) } }) ({ on with pw.state := .watch, cfg.tone.tempSlot := some 1 }), by decide, (by show (if _ ∧ _ ∧ _ ∧ _ then some ((7 : Rat) - ((0 : Int) : Rat) / 1000000000) else none) = some 7; rw [if_pos ⟨rfl, by decide, rfl, by show (0 : Rat) < 7 - ((0 : Int) : Rat) / 1000000000; norm_num⟩]; norm_num), by decide, by decide, by decide, by decide⟩,
   ⟨0, 0, { on with pw.state := .watch }, by decide, by decide, by decide⟩,
   ⟨0, 1500, { on with pw.state := .watch }, by decide, by decide, by decide, by decide⟩⟩

theorem test_ChargeAnchors_met :
    (∃ (c : Fin 2048) (s : State), (s.cell c.val).restRun < 1000 * s.cfg.anchor.restS) ∧
    (∃ (c : Fin 2048) (s : State), 1000 * s.cfg.anchor.restS ≤ (s.cell c.val).restRun ∧ (s.cell c.val).restVolts ≠ [] ∧ (s.cell c.val).live = true) ∧
    (∃ (b : Fin 4) (s : State), ((s.ch.eoc.get b.val {}).done = true ∨ (s.ch.eoc.get b.val {}).run < 1000 * s.cfg.anchor.holdS)) ∧
    (∃ (b : Fin 4) (s : State), (s.ch.eoc.get b.val {}).done = false ∧ 1000 * s.cfg.anchor.holdS ≤ (s.ch.eoc.get b.val {}).run) ∧
    (∃ (b : Fin 4) (s : State), ((s.ch.eod.get b.val {}).done = true ∨ (s.ch.eod.get b.val {}).run < 1000 * s.cfg.anchor.holdS)) ∧
    (∃ (b : Fin 4) (s : State), (s.ch.eod.get b.val {}).done = false ∧ 1000 * s.cfg.anchor.holdS ≤ (s.ch.eod.get b.val {}).run) ∧
    (∃ (t : ℕ) (c : Fin 2048) (s : State), ((s.cell c.val).checkOpen = false ∨ max s.now t < (s.cell c.val).checkAt + sec (86400 * s.cfg.dis.days))) ∧
    (∃ (t : ℕ) (c : Fin 2048) (s : State), (s.cell c.val).checkOpen = true ∧ (s.cell c.val).checkAt + sec (86400 * s.cfg.dis.days) ≤ max s.now t) :=
  ⟨⟨0, on, by decide⟩,
   ⟨0, (fun s : State => s.onCell 0 fun x => { x with restRun := 1000 * s.cfg.anchor.restS, restVolts := [(1, 3700000000)], live := true }) (on), by decide, by decide, by decide⟩,
   ⟨0, (fun s : State => { s with ch.eoc := s.ch.eoc.upd ((0 : Fin 4).val) {} fun x => { x with done := true } }) (on), by decide⟩,
   ⟨0, (fun s : State => { s with ch.eoc := s.ch.eoc.upd ((0 : Fin 4).val) {} fun x => { x with done := false, run := 1000 * s.cfg.anchor.holdS } }) (on), by decide, by decide⟩,
   ⟨0, (fun s : State => { s with ch.eod := s.ch.eod.upd ((0 : Fin 4).val) {} fun x => { x with done := true } }) (on), by decide⟩,
   ⟨0, (fun s : State => { s with ch.eod := s.ch.eod.upd ((0 : Fin 4).val) {} fun x => { x with done := false, run := 1000 * s.cfg.anchor.holdS } }) (on), by decide, by decide⟩,
   ⟨0, 0, (on).onCell ((0 : Fin 2048).val) fun x => { x with checkOpen := false }, by decide⟩,
   ⟨((((on).onCell ((0 : Fin 2048).val) fun x => { x with checkOpen := true } : State).cell (0 : Fin 2048).val).checkAt + sec (86400 * ((on).onCell ((0 : Fin 2048).val) fun x => { x with checkOpen := true } : State).cfg.dis.days)), 0, (on).onCell ((0 : Fin 2048).val) fun x => { x with checkOpen := true }, by decide, by decide⟩⟩

theorem test_ChargeRecordsAndLimits_met :
    (∃ (s : State), s.sageRuns = false) ∧
    (∃ (t : ℕ) (s : State), s.sageRuns = true ∧ (s.begin t).turnOpen 9 (sec 10) 0 = true) ∧
    (∃ (t : ℕ) (s : State), s.sageRuns = true ∧ (s.begin t).turnOpen 10 (ms 100) 0 = true ∧ s.pw.recovery = false) ∧
    (∃ (oid : ℕ) (s : State), (s.publishes = false ∨ s.plainObject oid = none ∨ oid / 16777216 ≤ 4)) ∧
    (∃ (t : ℕ) (s : State), s.publishes = true ∧ s.pw.recovery = false ∧ s.pw.state ≠ .flushing ∧ (s.begin t).turnOpen (0x1000000 + 0x02001000 / 4096) (ms 100) 0 = true) ∧
    (∃ (s : State), s.pw.state ≠ .run ∧ s.pw.state ≠ .watch) ∧
    (∃ (t : ℕ) (s : State), ((s.pw.state = .run ∨ s.pw.state = .watch)) ∧ (s.begin t).turnOpen 11 (sec 1) 0 = true) ∧
    (∃ (s : State), ((∀ n, n < 128 → (s.node n).waiting = false ∧ (s.node n).waitItems = 0))) ∧
    (∃ (n : ℕ) (s : State), n < 128 ∧ (s.node n).waiting = true ∧ ((∀ k, k < n → (s.node k).waiting = false))) ∧
    (∃ (t : ℕ) (s : State), s.pw.state = .run ∧ s.lim.freshAt + ms 20 ≤ max s.now t) ∧
    (∃ (t : ℕ) (s : State), (s.pw.state ≠ .run ∨ max s.now t < s.lim.freshAt + ms 20)) :=
  ⟨⟨{ on with pw.state := .off }, by decide⟩,
   ⟨0, { on with pw.state := .watch }, by decide, by decide⟩,
   ⟨0, { on with pw.state := .watch, pw.recovery := false }, by decide, by decide, by decide⟩,
   ⟨0, { on with pw.state := .off }, by decide⟩,
   ⟨0, { on with pw.state := .watch, pw.recovery := false }, by decide, by decide, by decide, by decide⟩,
   ⟨{ on with pw.state := .starting }, by decide, by decide⟩,
   ⟨0, { on with pw.state := .run }, by decide, by decide⟩,
   ⟨on, by decide⟩,
   ⟨0, (on).onNode (0) fun x => { x with waiting := true }, by decide, by decide, by decide⟩,
   ⟨(({ on with pw.state := .run } : State).lim.freshAt + ms 20), { on with pw.state := .run }, by decide, by decide⟩,
   ⟨0, on, by decide⟩⟩

theorem test_BalancingPlan_met :
    (∃ (t : ℕ) (s : State), (((s.pw.state ≠ .run ∧ (s.pw.state = .watch → (s.begin t).sweepAbs / 10000 % 6 ≠ 0)) ∨ s.ba.begun = some ((s.begin t).sweepAbs / 10000)))) ∧
    (∃ (t : ℕ) (s : State), s.pw.state = .run ∧ s.ba.begun ≠ some ((s.begin t).sweepAbs / 10000)) ∧
    (∃ (t : ℕ) (s : State), s.pw.state = .watch ∧ (s.begin t).sweepAbs / 10000 % 6 = 0 ∧ s.ba.begun ≠ some ((s.begin t).sweepAbs / 10000)) ∧
    (∃ (p : ℕ) (s : State), (s.ba.solving = false ∨ s.ba.plan ≠ p)) ∧
    (∃ (t : ℕ) (s : State), s.ba.solving = true ∧ max s.now t < s.ba.startedAt + ms s.cfg.bal.solveMs) ∧
    (∃ (t : ℕ) (s : State), (s.ba.solving = false ∨ max s.now t < s.ba.startedAt + ms s.cfg.bal.solveMs)) ∧
    (∃ (t : ℕ) (s : State), ((s.ba.status = 3 ∨ s.ba.solvedOk = false ∨ s.ba.deadlineDone = true ∨ notBefore (s.begin t).sweepNo ((s.ba.activation + two32 - s.deadlineLead) % two32) = false))) ∧
    (∃ (t : ℕ) (s : State), s.ba.status ≠ 3 ∧ s.ba.solvedOk = true ∧ s.ba.deadlineDone = false ∧ notBefore (s.begin t).sweepNo ((s.ba.activation + two32 - s.deadlineLead) % two32) = true) ∧
    (∃ (t : ℕ) (s : State), ((s.ba.begun = none ∨ s.ba.activated = true ∨ notBefore (s.begin t).sweepNo s.ba.activation = false))) ∧
    (∃ (t : ℕ) (s : State), s.ba.begun ≠ none ∧ s.ba.activated = false ∧ notBefore (s.begin t).sweepNo s.ba.activation = true ∧ s.ba.solvedOk = false) ∧
    (∃ (t : ℕ) (s : State), s.ba.begun ≠ none ∧ s.ba.activated = false ∧ notBefore (s.begin t).sweepNo s.ba.activation = true ∧ s.ba.solvedOk = true) ∧
    (∃ (t : Nat) (s : State), s.ba.solving = true ∧ s.ba.startedAt + ms s.cfg.bal.solveMs ≤ max s.now t) :=
  ⟨⟨0, { on with pw.state := .starting }, by decide⟩,
   ⟨0, { on with pw.state := .run }, by decide, by decide⟩,
   ⟨0, { on with pw.state := .watch }, by decide, by decide, by decide⟩,
   ⟨0, { on with ba.solving := false }, by decide⟩,
   ⟨(({ on with ba.solving := true } : State).ba.startedAt + ms ({ on with ba.solving := true } : State).cfg.bal.solveMs) - 1, { on with ba.solving := true }, by decide, by decide⟩,
   ⟨0, { on with ba.solving := false }, by decide⟩,
   ⟨0, { on with ba.status := 3 }, by decide⟩,
   ⟨0, { on with ba.solvedOk := true, ba.deadlineDone := false }, by decide, by decide, by decide, by decide⟩,
   ⟨0, { on with ba.begun := none }, by decide⟩,
   ⟨0, { on with ba.begun := some 1, ba.activated := false, ba.solvedOk := false }, by decide, by decide, by decide, by decide⟩,
   ⟨0, { on with ba.begun := some 1, ba.activated := false, ba.solvedOk := true }, by decide, by decide, by decide, by decide⟩,
   ⟨ms on.cfg.bal.solveMs, { on with ba := { on.ba with solving := true } }, by decide, by decide⟩⟩

theorem test_TemperatureAndCooling_met :
    (∃ (c : ℕ) (s : State), (s.chanUsed c = false ∨ s.sageRuns = false)) ∧
    (∃ (t : ℕ) (c : ℕ) (s : State), s.sageRuns = true ∧ s.chanUsed c = true ∧ (s.begin t).turnOpen (0x1000 + c) (s.evalPeriod c) 0 = true ∧ (s.tchan c).sensor ≠ .broken) ∧
    (∃ (t : ℕ) (c : ℕ) (conv : List ℤ) (s : State), s.sageRuns = true ∧ s.chanUsed c = true ∧ (s.begin t).turnOpen (0x1000 + c) (s.evalPeriod c) 0 = true ∧ isNodeSensor c = false ∧ s.inputAway c = false ∧ conv ≠ [] ∧ (s.tchan c).sensor ≠ .broken) ∧
    (∃ (t : ℕ) (c : ℕ) (s : State), s.sageRuns = true ∧ s.chanUsed c = true ∧ (s.begin t).turnOpen (0x1000 + c) (s.evalPeriod c) 0 = true ∧ isNodeSensor c = true ∧ (s.tchan c).acc ≠ [] ∧ (s.tchan c).sensor ≠ .broken) ∧
    (∃ (t : ℕ) (s : State), s.sageRuns = true ∧ (s.begin t).turnOpen 12 (sec 1) 0 = true) ∧
    (∃ (t : ℕ) (l : Fin 2) (d : ℕ) (s : State), s.loopOut l.val = true ∧ (s.loopSt l.val).outSince = some d ∧ d + sec 60 ≤ max s.now t) ∧
    (∃ (l : Fin 2) (s : State), s.loopOut l.val = false) ∧
    (∃ (s : State), s.pw.state ≠ .run ∧ s.pw.state ≠ .watch) ∧
    (∃ (t : ℕ) (l : ℕ) (s : State), ((s.pw.state = .run ∨ s.pw.state = .watch)) ∧ (s.begin t).turnOpen 13 (sec 1) 0 = true ∧ l < 2) :=
  ⟨⟨0, { on with pw.state := .off }, by decide⟩,
   ⟨0, 0, { on with pw.state := .watch }, by decide, by decide, by decide, by decide⟩,
   ⟨0, 0x403, [2500], (fun s : State => { s with cfg := { s.cfg with chanMap := { localType := [0,0,0,1] } } }) (on), by decide, by decide, by decide, by decide, by decide, by decide, by decide⟩,
   ⟨0, 0, (fun s : State => s.onTchan 0 fun x => { x with acc := [2500] }) (on), by decide, by decide, by decide, by decide, by decide, by decide⟩,
   ⟨0, { on with pw.state := .watch }, by decide, by decide⟩,
   ⟨(0 + sec 60), 0, 0, (on).onLoop ((0 : Fin 2).val) fun x => { x with outSince := some 0 }, by decide, by decide, by decide⟩,
   ⟨1, on, by decide⟩,
   ⟨{ on with pw.state := .starting }, by decide, by decide⟩,
   ⟨0, 0, { on with pw.state := .run }, by decide, by decide, by decide⟩⟩

theorem test_ValveDrives_met :
    (∃ (v : Fin 2) (s : State), (s.valve v.val).moving = false) ∧
    (∃ (t : ℕ) (v : Fin 2) (s : State), (s.valve v.val).moving = true ∧ (s.valve v.val).homing = false ∧ (s.valve v.val).vel = 0 ∧ (s.valve v.val).pos < (s.valve v.val).target ∧ (s.valve v.val).acc < two32 ∧ (s.begin t).turnOpen (0x20 + v.val) (ms 1) 0 = true) ∧
    (∃ (v : Fin 2) (s : State), ((s.valve v.val).moving = false ∨ (s.valve v.val).homing = true ∨ (s.valve v.val).pos ≠ (s.valve v.val).target ∨ (s.valve v.val).vel ≠ 0)) ∧
    (∃ (v : Fin 2) (s : State), (s.valve v.val).moving = true ∧ (s.valve v.val).homing = false ∧ (s.valve v.val).pos = (s.valve v.val).target ∧ (s.valve v.val).vel = 0) ∧
    (∃ (t : ℕ) (v : Fin 2) (d : ℕ) (s : State), (s.valve v.val).holdUntil = some d ∧ d ≤ max s.now t) ∧
    (∃ (t : ℕ) (v : Fin 2) (s : State), ((∀ d, (s.valve v.val).holdUntil = some d → max s.now t < d))) ∧
    (∃ (v : Fin 2) (s : State), ((s.valve v.val).moving = false ∨ wordRate (s.valve v.val).vel ≤ ((s.valveCfg v.val).stallMin : Rat) ∨ (s.valve v.val).stallRun < 8)) ∧
    (∃ (v : Fin 2) (s : State), (s.valve v.val).moving = true ∧ ((s.valveCfg v.val).stallMin : Rat) < wordRate (s.valve v.val).vel ∧ 8 ≤ (s.valve v.val).stallRun ∧ (s.valve v.val).homing = false ∧ (s.valve v.val).stalls = 0) ∧
    (∃ (v : Fin 2) (s : State), (s.valve v.val).moving = true ∧ ((s.valveCfg v.val).stallMin : Rat) < wordRate (s.valve v.val).vel ∧ 8 ≤ (s.valve v.val).stallRun ∧ (s.valve v.val).homing = false ∧ 1 ≤ (s.valve v.val).stalls) ∧
    (∃ (v : Fin 2) (s : State), (s.valve v.val).moving = true ∧ ((s.valveCfg v.val).stallMin : Rat) < wordRate (s.valve v.val).vel ∧ 8 ≤ (s.valve v.val).stallRun ∧ (s.valve v.val).homing = true) ∧
    (∃ (t : ℕ) (v : Fin 2) (d : ℕ) (s : State), (s.valve v.val).retryAt = some d ∧ d ≤ max s.now t ∧ (s.valve v.val).fault = false) ∧
    (∃ (t : ℕ) (v : Fin 2) (s : State), ((∀ d, (s.valve v.val).retryAt = some d → max s.now t < d) ∨ (s.valve v.val).fault = true)) ∧
    (∃ (m : Maint) (v : ℕ) (s : State), s.takes m ∧ 2 ≤ v) ∧
    (∃ (m : Maint) (v : ℕ) (s : State), s.takes m ∧ v < 2 ∧ s.pw.serviceEnable = true ∧ (s.valveCfg v).enable = true ∧ s.ownValve v = true) ∧
    (∃ (m : Maint) (c : ℕ) (s : State), s.takes m ∧ isChannel c = true ∧ (s.tchan c).sensor = .broken) ∧
    (∃ (m : Maint) (c : ℕ) (s : State), s.takes m ∧ isChannel c = false) :=
  ⟨⟨0, (on).onValve ((0 : Fin 2).val) fun x => { x with moving := false }, by decide⟩,
   ⟨0, 0, (fun s : State => s.onValve 0 fun x => { x with moving := true, target := 500 }) (on), by decide, by decide, by decide, by decide, by decide, by decide⟩,
   ⟨0, (on).onValve ((0 : Fin 2).val) fun x => { x with moving := false }, by decide⟩,
   ⟨0, (fun s : State => s.onValve 0 fun x => { x with moving := true }) (on), by decide, by decide, by decide, by decide⟩,
   ⟨(0), 0, 0, (on).onValve ((0 : Fin 2).val) fun x => { x with holdUntil := some 0 }, by decide, by decide⟩,
   ⟨0, 0, on, by decide⟩,
   ⟨0, (on).onValve ((0 : Fin 2).val) fun x => { x with moving := false }, by decide⟩,
   ⟨0, (fun s : State => s.onValve 0 fun x => { x with vel := 4294967295 * 65536 }) ((on).onValve ((0 : Fin 2).val) fun x => { x with moving := true, stallRun := 8, homing := false, stalls := 0 }), by decide, (by show ((2000 : Nat) : Rat) < wordRate (4294967295 * 65536); norm_num [wordRate, two32]), by decide, by decide, by decide⟩,
   ⟨0, (fun s : State => s.onValve 0 fun x => { x with vel := 4294967295 * 65536 }) ((on).onValve ((0 : Fin 2).val) fun x => { x with moving := true, stallRun := 8, homing := false, stalls := 1 }), by decide, (by show ((2000 : Nat) : Rat) < wordRate (4294967295 * 65536); norm_num [wordRate, two32]), by decide, by decide, by decide⟩,
   ⟨0, (fun s : State => s.onValve 0 fun x => { x with vel := 4294967295 * 65536 }) ((on).onValve ((0 : Fin 2).val) fun x => { x with moving := true, stallRun := 8, homing := true }), by decide, (by show ((2000 : Nat) : Rat) < wordRate (4294967295 * 65536); norm_num [wordRate, two32]), by decide, by decide⟩,
   ⟨(0), 0, 0, (on).onValve ((0 : Fin 2).val) fun x => { x with retryAt := some 0, fault := false }, by decide, by decide, by decide⟩,
   ⟨0, 0, on, by decide⟩,
   ⟨{ key := 8, session := 1, seq := 1 }, 2, (fun s : State => { s with cfg := s.cfg }) (({ on with pw.portsUp := true }).onTele (8) fun x => { x with client := { session := 1 } }), ⟨by decide, ⟨_, rfl, by decide⟩, by decide, by decide, by decide, by decide⟩, by decide⟩,
   ⟨{ key := 8, session := 1, seq := 1 }, 0, (fun s : State => { s with cfg := s.cfg }) (({ { on with cfg.valves.list := [{ enable := true, twin := 0 }, { enable := true, twin := 0 }] } with pw.portsUp := true, pw.serviceEnable := true }).onTele (8) fun x => { x with client := { session := 1 } }), ⟨by decide, ⟨_, rfl, by decide⟩, by decide, by decide, by decide, by decide⟩, by decide, by decide, by decide, by decide⟩,
   ⟨{ key := 8, session := 1, seq := 1 }, 0, (fun s : State => { s with cfg := s.cfg }) ((({ on with pw.portsUp := true }).onTele (8) fun x => { x with client := { session := 1 } }).onTchan (0) fun x => { x with sensor := .broken }), ⟨by decide, ⟨_, rfl, by decide⟩, by decide, by decide, by decide, by decide⟩, by decide, by decide⟩,
   ⟨{ key := 8, session := 1, seq := 1 }, 4095, (fun s : State => { s with cfg := s.cfg }) (({ on with pw.portsUp := true }).onTele (8) fun x => { x with client := { session := 1 } }), ⟨by decide, ⟨_, rfl, by decide⟩, by decide, by decide, by decide, by decide⟩, by decide⟩⟩

theorem test_ProtectionDecisions_met :
    (∃ (c : Fin 5) (v : ℤ) (s : State), (s.beyondLevel c.val v = false ∨ s.pw.haltedIsland = true)) ∧
    (∃ (c : Fin 5) (v : ℤ) (s : State), s.beyondLevel c.val v = true ∧ s.pw.haltedIsland = false ∧ s.pw.state = .hibernate) ∧
    (∃ (c : Fin 5) (s : State), s.pw.state ≠ .hibernate ∧ (((s.pw.state ≠ .run ∧ s.pw.state ≠ .watch) ∨ (c.val = 4 ∧ s.acq.hallLost = true) ∨ (c.val ≠ 4 ∧ s.cfg.hasBranch c.val = false)))) ∧
    (∃ (c : Fin 5) (v : ℤ) (s : State), s.beyondLevel c.val v = true ∧ s.pw.haltedIsland = false ∧ ((s.pw.state = .run ∨ s.pw.state = .watch)) ∧ c.val ≠ 4 ∧ s.cfg.hasBranch c.val = true ∧ s.fn 1 c.val = none) ∧
    (∃ (c : Fin 5) (v : ℤ) (s : State), s.beyondLevel c.val v = true ∧ s.pw.haltedIsland = false ∧ ((s.pw.state = .run ∨ s.pw.state = .watch)) ∧ c.val = 4 ∧ s.acq.hallLost = false ∧ s.fn 2 strGroup = none) ∧
    (∃ (code : ℕ) (g : ℕ) (s : State), s.fn code g = none) ∧
    (∃ (t : ℕ) (code : ℕ) (g : ℕ) (f : Fn) (i : FnInfo) (s : State), s.fn code g = some f ∧ s.fnInfo code g = some i ∧ ((f.condition || f.latched || f.demanding) = true ∨ (∀ d, f.delaySince = some d → max s.now t < d + ms i.delay))) ∧
    (∃ (t : ℕ) (code : ℕ) (g : ℕ) (f : Fn) (i : FnInfo) (d : ℕ) (s : State), s.fn code g = some f ∧ s.fnInfo code g = some i ∧ f.condition = false ∧ f.latched = false ∧ f.demanding = false ∧ f.delaySince = some d ∧ d + ms i.delay ≤ max s.now t) ∧
    (∃ (t : ℕ) (b : Fin 5) (s : State), b.val < 4 ∧ ((∀ w, w ∈ s.pr.waits → w.group = b.val → max s.now t < w.since + ms s.cfg.timed.breakMs))) ∧
    (∃ (t : ℕ) (b : Fin 5) (w : OpenWait) (s : State), b.val < 4 ∧ w ∈ s.pr.waits ∧ w.group = b.val ∧ w.since + ms s.cfg.timed.breakMs ≤ max s.now t) ∧
    (∃ (t : ℕ) (b : Fin 5) (w : OpenWait) (s : State), b.val = 4 ∧ s.pw.resetHold = none ∧ w ∈ s.pr.waits ∧ w.group = strGroup ∧ w.since + ms s.cfg.timed.breakMs ≤ max s.now t) :=
  ⟨⟨0, 0, { on with pw.haltedIsland := true }, by decide⟩,
   ⟨0, 0, { on with pw.haltedIsland := false, pw.state := .hibernate }, by decide, by decide, by decide⟩,
   ⟨0, { on with pw.state := .starting }, by decide, by decide⟩,
   ⟨0, 0, { on with pw.haltedIsland := false, pw.state := .run }, by decide, by decide, by decide, by decide, by decide, by decide⟩,
   ⟨4, 0, { on with pw.haltedIsland := false, pw.state := .run, acq.hallLost := false }, by decide, by decide, by decide, by decide, by decide, by decide⟩,
   ⟨0, 0, on, by decide⟩,
   ⟨0, 0x20, 0, { code := 0x20, group := 0, condition := true }, ((on.fnInfo 0x20 0).get (by decide)), { on with pr.fns := [{ code := 0x20, group := 0, condition := true }] }, by decide, by decide, by decide⟩,
   ⟨900000000000, 0x20, 0, { code := 0x20, group := 0, delaySince := some 5 }, ((on.fnInfo 0x20 0).get (by decide)), 5, { on with pr.fns := [{ code := 0x20, group := 0, delaySince := some 5 }] }, by decide, by decide, by decide, by decide, by decide, by decide, by decide⟩,
   ⟨0, 0, on, by decide, by decide⟩,
   ⟨(({ group := (0 : Fin 5).val } : OpenWait).since + ms ({ on with pr.waits := [({ group := (0 : Fin 5).val } : OpenWait)] } : State).cfg.timed.breakMs), 0, { group := (0 : Fin 5).val }, { on with pr.waits := [({ group := (0 : Fin 5).val } : OpenWait)] }, by decide, by decide, by decide, by decide⟩,
   ⟨(({ group := strGroup } : OpenWait).since + ms ({ on with pw.resetHold := none, pr.waits := [({ group := strGroup } : OpenWait)] } : State).cfg.timed.breakMs), 4, { group := strGroup }, { on with pw.resetHold := none, pr.waits := [({ group := strGroup } : OpenWait)] }, by decide, by decide, by decide, by decide, by decide⟩⟩

theorem test_ProtectionResets_met :
    (∃ (t : ℕ) (code : ℕ) (g : ℕ) (f : Fn) (i : FnInfo) (d : ℕ) (s : State), s.fn code g = some f ∧ s.fnInfo code g = some i ∧ f.latched = false ∧ code ≠ 0x0A ∧ code ≠ 0x09 ∧ f.condition = false ∧ f.absentSince = some d ∧ d + ms i.clear ≤ max s.now t) ∧
    (∃ (code : ℕ) (g : ℕ) (f : Fn) (s : State), s.fn code g = some f ∧ ((f.latched = true ∨ code = 0x0A ∨ f.condition = true ∨ f.absentSince = none))) ∧
    (∃ (code : ℕ) (g : ℕ) (s : State), s.fn code g = none) ∧
    (∃ (m : Maint) (s : State), s.takes m ∧ s.leads = false) ∧
    (∃ (m : Maint) (code : ℕ) (s : State), s.takes m ∧ s.leads = true ∧ code ≠ 0xFF ∧ code ∉ fnCodes) ∧
    (∃ (t : ℕ) (m : Maint) (code : ℕ) (s : State), s.takes m ∧ s.leads = true ∧ code ∈ fnCodes ∧ ((∀ f, f ∈ s.pr.fns → f.code = code → f.latched = true → (s.begin t).mayReset f = true)) ∧ code ≠ 0x0A) ∧
    (∃ (t : ℕ) (m : Maint) (code : ℕ) (f : Fn) (s : State), s.takes m ∧ s.leads = true ∧ code ∈ fnCodes ∧ code ≠ 0x0A ∧ f ∈ s.pr.fns ∧ f.code = code ∧ f.latched = true ∧ (s.begin t).mayReset f = false) ∧
    (∃ (s : State), s.pw.state ≠ .run ∧ s.pw.state ≠ .watch) ∧
    (∃ (s : State), ((s.pw.state = .run ∨ s.pw.state = .watch)) ∧ s.pr.halfAt = none ∧ s.monitorCoupled = false) ∧
    (∃ (t : ℕ) (x : InsIn) (v5 : ℤ) (p5 : ℤ) (s : State), ((s.pw.state = .run ∨ s.pw.state = .watch)) ∧ ((∀ h, s.pr.halfAt = some h → h + 500000 * s.cfg.ins.period ≤ max s.now t)) ∧ s.monitorCoupled = true ∧ x.hv5 = some v5 ∧ x.change ≤ 5000 ∧ s.pr.hv5Prev = some p5 ∧ s.pr.hv4Prev = some x.hv4) ∧
    (∃ (dv : ℚ), dv ≤ 0) ∧
    (∃ (dv : ℚ), 60 ≤ dv) ∧
    (∃ (t : ℕ) (s : State), ((s.begin t).mayCouple = false ∨ s.coilOn 12 = true)) ∧
    (∃ (t : ℕ) (s : State), (s.begin t).mayCouple = true ∧ s.coilOn 12 = false ∧ s.ct.queue = [] ∧ s.mayPullIn 12 = true) :=
  ⟨⟨900000000000, 0x20, 0, { code := 0x20, group := 0, absentSince := some 5 }, ((on.fnInfo 0x20 0).get (by decide)), 5, { on with pr.fns := [{ code := 0x20, group := 0, absentSince := some 5 }] }, by decide, by decide, by decide, by decide, by decide, by decide, by decide, by decide⟩,
   ⟨0x20, 0, { code := 0x20, group := 0, condition := true }, { on with pr.fns := [{ code := 0x20, group := 0, condition := true }] }, by decide, by decide⟩,
   ⟨0, 0, on, by decide⟩,
   ⟨{ key := 8, session := 1, seq := 1 }, (fun s : State => { s with cfg := s.cfg }) (({ on with pw.portsUp := true, tw.role := .follower }).onTele (8) fun x => { x with client := { session := 1 } }), ⟨by decide, ⟨_, rfl, by decide⟩, by decide, by decide, by decide, by decide⟩, by decide⟩,
   ⟨{ key := 8, session := 1, seq := 1 }, 0, (fun s : State => { s with cfg := s.cfg }) (({ on with pw.portsUp := true, tw.role := .leader }).onTele (8) fun x => { x with client := { session := 1 } }), ⟨by decide, ⟨_, rfl, by decide⟩, by decide, by decide, by decide, by decide⟩, by decide, by decide, by decide⟩,
   ⟨0, { key := 8, session := 1, seq := 1 }, 0x20, (fun s : State => { s with cfg := s.cfg }) (({ on with pw.portsUp := true, tw.role := .leader, pr.fns := [{ code := 0x20, group := 0, latched := true, absent := 100 }] }).onTele (8) fun x => { x with client := { session := 1 } }), ⟨by decide, ⟨_, rfl, by decide⟩, by decide, by decide, by decide, by decide⟩, by decide, by decide, by decide, by decide⟩,
   ⟨0, { key := 8, session := 1, seq := 1 }, 0x20, { code := 0x20, group := 0, latched := true, absent := 10 }, (fun s : State => { s with cfg := s.cfg }) (({ on with pw.portsUp := true, tw.role := .leader, pr.fns := [{ code := 0x20, group := 0, latched := true, absent := 10 }] }).onTele (8) fun x => { x with client := { session := 1 } }), ⟨by decide, ⟨_, rfl, by decide⟩, by decide, by decide, by decide, by decide⟩, by decide, by decide, by decide, by decide, by decide, by decide, by decide⟩,
   ⟨{ on with pw.state := .starting }, by decide, by decide⟩,
   ⟨{ on with pw.state := .run, pr.halfAt := none }, by decide, by decide, by decide⟩,
   ⟨90000000000, { hv5 := some 0, hv4 := 0 }, 0, 0, (fun s : State => s.onCoil 12 fun x => { x with phase := .hold, accepted := some false }) ({ on with pw.state := .run, pr.hv5Prev := some 0, pr.hv4Prev := some 0 }), by decide, by decide, by decide, by decide, by decide, by decide, by decide⟩,
   ⟨0, by decide⟩,
   ⟨60, by decide⟩,
   ⟨0, { on with pw.state := .starting }, by decide⟩,
   ⟨0, ({ ready with ct.queue := [] }).onCoil (12) fun x => { x with phase := .off }, by decide, by decide, by decide, by decide⟩⟩

theorem test_Coils_met :
    (∃ (k : ℕ) (s : State), (k ∉ s.ct.due ∨ s.leads = false)) ∧
    (∃ (k : ℕ) (s : State), k ∈ s.ct.due ∧ k ≠ 12 ∧ s.absentNow (s.stepBranch k) (k :: s.stepOutputs) s.connecting = none ∧ s.usedK k = true ∧ s.coilOn k = false ∧ s.ct.queue = [] ∧ s.mayPullIn k = true) ∧
    (∃ (k : ℕ) (c : ℕ) (s : State), k ∈ s.ct.due ∧ k ≠ 12 ∧ s.absentNow (s.stepBranch k) (k :: s.stepOutputs) s.connecting = some c ∧ s.leads = true ∧ s.connecting = true) ∧
    (∃ (s : State), s.ct.queue = []) ∧
    (∃ (k : ℕ) (l : List ℕ) (s : State), s.ct.queue = k :: l ∧ s.mayPullIn k = false) ∧
    (∃ (k : ℕ) (s : State), s.ct.queue = [k] ∧ s.mayPullIn k = true ∧ ((k = 12 ∨ s.absentNow (s.stepBranch k) (k :: s.stepOutputs) s.connecting = none))) ∧
    (∃ (v : ℤ) (l : List ℕ) (s : State), s.ct.queue = 12 :: l ∧ s.ct.fbChecked = true ∧ (s.cfg.coil.pullMin : Int) ≤ v ∧ s.pullInUse + s.pullW 12 ≤ s.cfg.coil.budget) ∧
    (∃ (s : State), s.ct.queue = []) ∧
    (∃ (t : ℕ) (k : ℕ) (s : State), (s.coil k).phase = .waiting ∧ (s.coil k).supplyWait = true ∧ (s.coil k).requestedAt + ms 500 ≤ max s.now t ∧ s.supplyOk = false) ∧
    (∃ (t : ℕ) (k : ℕ) (s : State), ((s.coil k).phase ≠ .waiting ∨ (s.coil k).supplyWait = false ∨ max s.now t < (s.coil k).requestedAt + ms 500 ∨ s.supplyOk = true)) ∧
    (∃ (t : ℕ) (k : ℕ) (s : State), (s.coil k).phase = .pullIn ∧ (s.coil k).pullAt + ms (s.pullMs k) ≤ max s.now t) ∧
    (∃ (t : ℕ) (k : ℕ) (s : State), ((s.coil k).phase ≠ .pullIn ∨ max s.now t < (s.coil k).pullAt + ms (s.pullMs k))) ∧
    (∃ (t : ℕ) (v : ℤ) (k : ℕ) (d : ℕ) (s : State), v < (s.cfg.coil.holdMin : Int) ∧ k < 12 ∧ (s.coil (k + 1)).phase = .hold ∧ s.ct.lowSupplySince = some d ∧ d + ms 20 ≤ max s.now t ∧ s.fn 0x26 strGroup = none) ∧
    (∃ (v : ℤ) (s : State), (s.cfg.coil.holdMin : Int) ≤ v) ∧
    (∃ (k : ℕ) (s : State), (s.coilOn k = false ∨ (s.coil k).phase = .waiting)) ∧
    (∃ (k : ℕ) (c : ℕ) (w : ℕ) (s : State), (s.coil k).phase = .hold ∧ c ≤ 10000 ∧ w ≤ 10000 ∧ s.holdMa k ≤ 2 * c) ∧
    (∃ (k : ℕ) (c : ℕ) (w : ℕ) (s : State), s.coilOn k = true ∧ (s.coil k).phase ≠ .waiting ∧ k ≤ 11 ∧ (10000 < c ∨ 10000 < w) ∧ s.fn 0x23 (groupOfK k) = none) ∧
    (∃ (k : ℕ) (c : ℕ) (w : ℕ) (s : State), (s.coil k).phase = .hold ∧ k ≤ 11 ∧ 2 * c < s.holdMa k ∧ c ≤ 10000 ∧ w ≤ 10000 ∧ s.fn 0x23 (groupOfK k) = none) ∧
    (∃ (k : ℕ) (c : Bool) (s : State), (s.usedK k = false ∨ k = 0 ∨ (s.coil k).mirrorRun < s.cfg.contSup.debounce ∨ (s.coil k).mirrorClosed ≠ c)) ∧
    (∃ (k : ℕ) (s : State), s.usedK k = true ∧ k ≠ 0 ∧ max 1 s.cfg.contSup.debounce ≤ (s.coil k).mirrorRun) ∧
    (∃ (f : ℕ) (s : State), s.ct.stage = .closingFirst ∧ s.ct.step = 1 ∧ s.ct.first = some f ∧ f < 4 ∧ s.usedK (f + 5) = true ∧ s.coilOn (f + 5) = true ∧ (s.coil (f + 5)).phase ≠ .waiting ∧ (s.coil (f + 5)).confirmed = false ∧ s.joining = none ∧ s.ct.fbChecked = true ∧ max 1 s.cfg.contSup.debounce ≤ (s.coil (f + 5)).mirrorRun ∧ (s.coil (f + 5)).mirrorClosed = false ∧ (s.coil (f + 5)).accepted ≠ some false) ∧
    (∃ (k : ℕ) (s : State), s.usedK k = true ∧ k ≠ 0 ∧ k ≤ 11 ∧ (s.coil k).confirmed = true ∧ (s.coil k).phase = .hold ∧ max 1 s.cfg.contSup.debounce ≤ (s.coil k).mirrorRun ∧ (s.coil k).mirrorClosed = true ∧ (s.coil k).accepted ≠ some true ∧ s.fn 0x22 (groupOfK k) = none) ∧
    (∃ (t : ℕ) (k : ℕ) (s : State), (((s.coil k).phase = .pullIn ∨ (s.coil k).phase = .hold)) ∧ k ≤ 11 ∧ (s.coil k).commandAt + ms s.cfg.contSup.closeMs ≤ max s.now t ∧ s.confirmedClosed k = false ∧ s.fn 0x21 (groupOfK k) = none) ∧
    (∃ (t : ℕ) (k : ℕ) (s : State), ((s.coil k).phase = .off ∨ s.confirmedClosed k = true ∨ max s.now t < (s.coil k).commandAt + ms s.cfg.contSup.closeMs)) ∧
    (∃ (t : ℕ) (k : ℕ) (s : State), s.usedK k = true ∧ k ≤ 11 ∧ (s.coil k).phase = .off ∧ (s.coil k).accepted = some false ∧ (s.coil k).commandAt + ms s.cfg.contSup.dropMs ≤ max s.now t ∧ s.fn 0x20 (groupOfK k) = none) ∧
    (∃ (t : ℕ) (k : ℕ) (s : State), ((s.coil k).phase ≠ .off ∨ s.confirmedOpen k = true ∨ max s.now t < (s.coil k).commandAt + ms s.cfg.contSup.dropMs)) :=
  ⟨⟨0, on, by decide⟩,
   ⟨1, ({ ready with ct.due := [1], ct.queue := [] }).onCoil (1) fun x => { x with phase := .off }, by decide, by decide, by decide, by decide, by decide, by decide, by decide⟩,
   ⟨1, 10, { ready with ct.due := [1], tw.role := .leader, pw.state := .starting, ct.stage := .closingFirst }, by decide, by decide, by decide, by decide, by decide⟩,
   ⟨{ on with ct.queue := [] }, by decide⟩,
   ⟨0, [], { on with ct.queue := 0 :: ([] : List ℕ) }, by decide, by decide⟩,
   ⟨5, { ready with ct.queue := [5] }, by decide, by decide, by decide⟩,
   ⟨48000000, [], { ready with ct.queue := [12] }, by decide, by decide, by decide, by decide⟩,
   ⟨{ on with ct.queue := [] }, by decide⟩,
   ⟨((((on).onCoil (0) fun x => { x with phase := .waiting, supplyWait := true } : State).coil 0).requestedAt + ms 500), 0, (on).onCoil (0) fun x => { x with phase := .waiting, supplyWait := true }, by decide, by decide, by decide, by decide⟩,
   ⟨0, 0, on, by decide⟩,
   ⟨((((on).onCoil (0) fun x => { x with phase := .pullIn } : State).coil 0).pullAt + ms (((on).onCoil (0) fun x => { x with phase := .pullIn } : State).pullMs 0)), 0, (on).onCoil (0) fun x => { x with phase := .pullIn }, by decide, by decide⟩,
   ⟨0, 0, on, by decide⟩,
   ⟨(0 + ms 20), 0, 0, 0, ({ on with ct.lowSupplySince := some 0 }).onCoil ((0 + 1)) fun x => { x with phase := .hold }, by decide, by decide, by decide, by decide, by decide, by decide⟩,
   ⟨(on.cfg.coil.holdMin : Int), on, by decide⟩,
   ⟨0, (on).onCoil (0) fun x => { x with phase := .off }, by decide⟩,
   ⟨0, 10000, 10000, (on).onCoil (0) fun x => { x with phase := .hold }, by decide, by decide, by decide, by decide⟩,
   ⟨11, (10000) + 1, 0, (on).onCoil (11) fun x => { x with phase := .hold }, by decide, by decide, by decide, by decide, by decide⟩,
   ⟨1, 3, 10000, (on).onCoil (1) fun x => { x with phase := .hold }, by decide, by decide, by decide, by decide, by decide, by decide⟩,
   ⟨0, false, on, by decide⟩,
   ⟨1, (fun s : State => s.onCoil 1 fun x => { x with mirrorRun := 50, mirrorClosed := true }) (on), by decide, by decide, by decide⟩,
   ⟨0, (fun s : State => s.onCoil 5 fun x => { x with phase := .hold, confirmed := false, accepted := some true, mirrorRun := 50, mirrorClosed := false }) ({ ready with ct.stage := .closingFirst, ct.step := 1, ct.first := some 0 }), by decide, by decide, by decide, by decide, by decide, by decide, by decide, by decide, by decide, by decide, by decide, by decide, by decide⟩,
   ⟨1, (fun s : State => s.onCoil 1 fun x => { x with phase := .hold, confirmed := true, accepted := some false, mirrorRun := 50, mirrorClosed := true }) (on), by decide, by decide, by decide, by decide, by decide, by decide, by decide, by decide, by decide⟩,
   ⟨((((on).onCoil (11) fun x => { x with phase := .pullIn, accepted := none } : State).coil 11).commandAt + ms ((on).onCoil (11) fun x => { x with phase := .pullIn, accepted := none } : State).cfg.contSup.closeMs), 11, (on).onCoil (11) fun x => { x with phase := .pullIn, accepted := none }, by decide, by decide, by decide, by decide, by decide⟩,
   ⟨0, 0, (on).onCoil (0) fun x => { x with phase := .off }, by decide⟩,
   ⟨((((on).onCoil (11) fun x => { x with phase := .off, accepted := some false } : State).coil 11).commandAt + ms ((on).onCoil (11) fun x => { x with phase := .off, accepted := some false } : State).cfg.contSup.dropMs), 11, (on).onCoil (11) fun x => { x with phase := .off, accepted := some false }, by decide, by decide, by decide, by decide, by decide, by decide⟩,
   ⟨0, 0, on, by decide⟩⟩

theorem test_PrechargeAndLeave_met :
    (∃ (s : State), (s.ct.stage ≠ .preCharging ∨ s.coilOn 11 = false)) ∧
    (∃ (t : ℕ) (s : State), s.ct.stage = .preCharging ∧ s.coilOn 11 = true ∧ (s.coil 11).phase ≠ .waiting ∧ s.ct.k11At + ms s.cfg.pre.limitMs ≤ max s.now t ∧ s.fn 0x24 strGroup = none) ∧
    (∃ (t : ℕ) (s : State), ((∀ e, s.ct.lockout = some e → (s.begin t).opTime < e))) ∧
    (∃ (t : ℕ) (e : ℕ) (s : State), s.ct.lockout = some e ∧ e ≤ (s.begin t).opTime) ∧
    (∃ (s : State), (s.ct.autoArmed = false ∨ s.leads = false ∨ s.ct.stage ≠ .opened ∨ s.connectCondition ≠ none)) ∧
    (∃ (t : ℕ) (s : State), s.ct.autoArmed = true ∧ s.leads = true ∧ s.ct.stage = .opened ∧ s.connectCondition = none ∧ (s.begin t).attemptsFull = false) ∧
    (∃ (t : ℕ) (s : State), s.ct.autoArmed = true ∧ s.leads = true ∧ s.ct.stage = .opened ∧ s.connectCondition = none ∧ (s.begin t).attemptsFull = true ∧ s.fn 0x25 strGroup = none) ∧
    (∃ (s : State), s.leaving = none) ∧
    (∃ (t : ℕ) (b : ℕ) (d : ℕ) (s : State), s.leaving = some b ∧ s.ct.leaveAt = some d ∧ d + ms s.cfg.join.leaveMs ≤ max s.now t ∧ s.ct.stage = .connected ∧ s.ibPeak b ≤ s.cfg.join.leaveBreakMa) ∧
    (∃ (t : ℕ) (b : ℕ) (d : ℕ) (s : State), s.leaving = some b ∧ s.ct.leaveAt = some d ∧ d + ms s.cfg.join.leaveMs ≤ max s.now t ∧ s.ct.stage = .connected ∧ s.cfg.join.leaveBreakMa < s.ibPeak b) :=
  ⟨⟨on, by decide⟩,
   ⟨((({ on with ct.stage := .preCharging }).onCoil (11) fun x => { x with phase := .hold } : State).ct.k11At + ms (({ on with ct.stage := .preCharging }).onCoil (11) fun x => { x with phase := .hold } : State).cfg.pre.limitMs), ({ on with ct.stage := .preCharging }).onCoil (11) fun x => { x with phase := .hold }, by decide, by decide, by decide, by decide, by decide⟩,
   ⟨0, on, by decide⟩,
   ⟨0, 0, { on with ct.lockout := some 0 }, by decide, by decide⟩,
   ⟨{ on with ct.autoArmed := false }, by decide⟩,
   ⟨0, { ready with ct.autoArmed := true, tw.role := .leader, ct.stage := .opened }, by decide, by decide, by decide, by decide, by decide⟩,
   ⟨0, { ready with ct.autoArmed := true, tw.role := .leader, ct.stage := .opened, ct.attempts := List.replicate 50 0 }, by decide, by decide, by decide, by decide, by decide, by decide⟩,
   ⟨on, by decide⟩,
   ⟨90000000000, 0, 0, (fun s : State => s.setBranch 0 .leaving) ((fun s : State => { s with ct.stage := .connected, ct.leaveAt := some 0 }) (on)), by decide, by decide, by decide, by decide, by decide⟩,
   ⟨90000000000, 0, 0, (fun s : State => s.setBranch 0 .leaving) ((fun s : State => { s with ct.stage := .connected, ct.leaveAt := some 0, acq.ring := [(5, [[9000000]])] }) (on)), by decide, by decide, by decide, by decide, by decide⟩⟩

theorem test_StringOperations_met :
    (∃ (o : OpFrame) (s : State), s.leads = true ∧ s.netOn = true ∧ hdrGood o.hdr = false) ∧
    (∃ (s : State), (s.leads = false ∨ s.netOn = false)) ∧
    (∃ (o : OpFrame) (d : ℕ × ℕ × ℕ × ℕ) (s : State), s.leads = true ∧ s.netOn = true ∧ hdrGood o.hdr = true ∧ s.ct.done.find? (fun d => decide (d.1 = o.ident)) = some d) ∧
    (∃ (t : ℕ) (o : OpFrame) (s : State), s.leads = true ∧ s.netOn = true ∧ hdrGood o.hdr = true ∧ s.ct.done.find? (fun d => decide (d.1 = o.ident)) = none ∧ laterThan (s.begin t).sweepNo o.deadline = true) ∧
    (∃ (t : ℕ) (o : OpFrame) (s : State), s.leads = true ∧ s.netOn = true ∧ hdrGood o.hdr = true ∧ s.ct.done.find? (fun d => decide (d.1 = o.ident)) = none ∧ laterThan (s.begin t).sweepNo o.deadline = false ∧ o.hasBranch = false ∧ s.sequenceInHand = false ∧ s.ct.stage = .opened ∧ s.connectCondition = none ∧ (s.begin t).attemptsFull = false) ∧
    (∃ (t : ℕ) (o : OpFrame) (c : ℕ) (s : State), s.leads = true ∧ s.netOn = true ∧ hdrGood o.hdr = true ∧ s.ct.done.find? (fun d => decide (d.1 = o.ident)) = none ∧ laterThan (s.begin t).sweepNo o.deadline = false ∧ o.hasBranch = false ∧ s.sequenceInHand = false ∧ s.ct.stage ≠ .connected ∧ s.connectCondition = some c) ∧
    (∃ (t : ℕ) (o : OpFrame) (s : State), s.leads = true ∧ s.netOn = true ∧ hdrGood o.hdr = true ∧ s.ct.done.find? (fun d => decide (d.1 = o.ident)) = none ∧ laterThan (s.begin t).sweepNo o.deadline = false ∧ o.hasBranch = false ∧ s.ct.stage = .opened ∧ s.allOpen = true) ∧
    (∃ (t : ℕ) (o : OpFrame) (s : State), s.leads = true ∧ s.netOn = true ∧ hdrGood o.hdr = true ∧ s.ct.done.find? (fun d => decide (d.1 = o.ident)) = none ∧ laterThan (s.begin t).sweepNo o.deadline = false ∧ o.hasBranch = false ∧ s.allOpen = false ∧ s.ct.stage ≠ .disconnecting) ∧
    (∃ (t : ℕ) (o : OpFrame) (s : State), s.leads = true ∧ s.netOn = true ∧ hdrGood o.hdr = true ∧ s.ct.done.find? (fun d => decide (d.1 = o.ident)) = none ∧ laterThan (s.begin t).sweepNo o.deadline = false ∧ o.branch < 4 ∧ s.cfg.hasBranch o.branch = true ∧ s.sequenceInHand = false ∧ s.ct.stage = .connected ∧ s.branch o.branch ≠ .joined ∧ s.branch o.branch ≠ .pending ∧ s.branchClear o.branch = true) ∧
    (∃ (t : ℕ) (o : OpFrame) (s : State), s.leads = true ∧ s.netOn = true ∧ hdrGood o.hdr = true ∧ s.ct.done.find? (fun d => decide (d.1 = o.ident)) = none ∧ laterThan (s.begin t).sweepNo o.deadline = false ∧ o.branch < 4 ∧ s.cfg.hasBranch o.branch = true ∧ s.sequenceInHand = false ∧ s.ct.stage = .connected ∧ s.branch o.branch = .joined ∧ 1 < s.joined.length) ∧
    (∃ (t : ℕ) (o : OpFrame) (s : State), s.leads = true ∧ s.netOn = true ∧ hdrGood o.hdr = true ∧ s.ct.done.find? (fun d => decide (d.1 = o.ident)) = none ∧ laterThan (s.begin t).sweepNo o.deadline = false ∧ s.cfg.hasBranch o.branch = false) :=
  ⟨⟨{ hdr := { ok := false } }, { on with tw.role := .leader, pw.portsUp := true }, by decide, by decide, by decide⟩,
   ⟨{ on with tw.role := .follower }, by decide⟩,
   ⟨{}, (0, 1, 1, 1), { on with ct.done := [(0, 1, 1, 1)] }, by decide, by decide, by decide, by decide⟩,
   ⟨0, { deadline := 3 }, (fun s : State => atNs s 50000000) ({ on with tw.role := .leader, pw.portsUp := true }), by decide, by decide, by decide, by decide, by decide⟩,
   ⟨0, { hasBranch := false }, { ready with tw.role := .leader, pw.portsUp := true, ct.stage := .opened }, by decide, by decide, by decide, by decide, by decide, by decide, by decide, by decide, by decide, by decide⟩,
   ⟨0, { hasBranch := false }, 3, (fun s : State => { s with acq.calFault := true }) ({ ready with tw.role := .leader, pw.portsUp := true }), by decide, by decide, by decide, by decide, by decide, by decide, by decide, by decide, by decide⟩,
   ⟨0, { hasBranch := false }, { ready with tw.role := .leader, pw.portsUp := true, ct.stage := .opened }, by decide, by decide, by decide, by decide, by decide, by decide, by decide, by decide⟩,
   ⟨0, { hasBranch := false }, { on with tw.role := .leader, pw.portsUp := true }, by decide, by decide, by decide, by decide, by decide, by decide, by decide, by decide⟩,
   ⟨0, {}, (fun s : State => s.setBranch 0 .blocked) ({ ready with tw.role := .leader, pw.portsUp := true, ct.stage := .connected }), by decide, by decide, by decide, by decide, by decide, by decide, by decide, by decide, by decide, by decide, by decide, by decide⟩,
   ⟨0, {}, (fun s : State => (s.setBranch 0 .joined).setBranch 1 .joined) ((fun s : State => { s with cfg.branches.cells := [16, 16] }) ((fun s : State => s.setBranch ({} : OpFrame).branch .joined) ({ on with tw.role := .leader, pw.portsUp := true, ct.stage := .connected }))), by decide, by decide, by decide, by decide, by decide, by decide, by decide, by decide, by decide, by decide, by decide⟩,
   ⟨0, { branch := 7 }, { on with tw.role := .leader, pw.portsUp := true }, by decide, by decide, by decide, by decide, by decide, by decide⟩⟩

theorem test_SafetyInputs_met :
    (∃ (i : Fin 8) (w : ℕ) (s : State), (w < s.filterUs (i.val + 1) ∨ s.inputFn (i.val + 1) = 0 ∨ s.islandReads = true ∧ (s.input (i.val + 1)).demand = true ∧ (s.input (i.val + 1)).episode = true)) ∧
    (∃ (i : Fin 8) (w : ℕ) (s : State), s.filterUs (i.val + 1) ≤ w ∧ s.islandReads = true ∧ s.inputFn (i.val + 1) ≠ 0 ∧ (s.input (i.val + 1)).demand = false) ∧
    (∃ (i : Fin 8) (w : ℕ) (s : State), s.filterUs (i.val + 1) ≤ w ∧ s.islandReads = true ∧ (s.input (i.val + 1)).demand = false ∧ ((s.inputFn (i.val + 1) = 1 ∨ s.inputFn (i.val + 1) = 2)) ∧ s.fn 0x0B strGroup = none) ∧
    (∃ (i : Fin 8) (s : State), (s.input (i.val + 1)).demand = false ∧ s.inputFn (i.val + 1) ≠ 1 ∧ s.inputFn (i.val + 1) ≠ 2) ∧
    (∃ (i : Fin 8) (w : ℕ) (s : State), (w < s.filterUs (i.val + 1) ∨ (s.input (i.val + 1)).demand = false)) ∧
    (∃ (i : Fin 8) (w : ℕ) (s : State), s.filterUs (i.val + 1) ≤ w ∧ (s.input (i.val + 1)).demand = true) ∧
    (∃ (t : ℕ) (src : Fin 2) (l : List ℕ) (lo : ℕ) (hi : ℕ) (i : ℕ) (s : State), s.islandReads = true ∧ (s.begin t).turnOpen (0x50 + src.val) (1000 * s.cfg.test.periodUs) (500 * s.cfg.test.periodUs * src.val) = true ∧ 18000 ≤ lo ∧ hi ≤ 3000 ∧ i ∈ s.inputsOfSource (src.val + 1) ∧ i ∈ l ∧ src.val + 1 ∉ s.sf.srcFault ∧ 1 ≤ (s.input i).missRun ∧ (s.input i).fault = 0) ∧
    (∃ (t : ℕ) (src : Fin 2) (l : List ℕ) (lo : ℕ) (hi : ℕ) (i : ℕ) (s : State), s.islandReads = true ∧ (s.begin t).turnOpen (0x50 + src.val) (1000 * s.cfg.test.periodUs) (500 * s.cfg.test.periodUs * src.val) = true ∧ 18000 ≤ lo ∧ hi ≤ 3000 ∧ i ∈ s.inputsOfSource (src.val + 1) ∧ i ∉ l ∧ src.val + 1 ∉ s.sf.srcFault ∧ (s.input i).fault = 0 ∧ (s.input i).demand = false ∧ ((∀ j, s.mateOf j ≠ some i))) ∧
    (∃ (t : ℕ) (src : Fin 2) (lo : ℕ) (hi : ℕ) (s : State), s.islandReads = true ∧ (s.begin t).turnOpen (0x50 + src.val) (1000 * s.cfg.test.periodUs) (500 * s.cfg.test.periodUs * src.val) = true ∧ ((lo < 18000 ∨ 3000 < hi)) ∧ src.val + 1 ∉ s.sf.srcFault ∧ 1 ≤ s.sf.srcRun.get (src.val + 1) 0) ∧
    (∃ (t : ℕ) (p : Fin 4) (s : State), (s.mateOf (2 * p.val + 1) = none ∨ (∀ d, (s.input (2 * p.val + 1)).disSince = some d → max s.now t < d + ms (s.cfg.safeIn.discMs.getD p.val 100)))) ∧
    (∃ (t : ℕ) (p : Fin 4) (j : ℕ) (d : ℕ) (s : State), s.islandReads = true ∧ s.mateOf (2 * p.val + 1) = some j ∧ (s.input (2 * p.val + 1)).disSince = some d ∧ d + ms (s.cfg.safeIn.discMs.getD p.val 100) ≤ max s.now t ∧ s.inputFn (2 * p.val + 1) ≠ 0 ∧ s.inputFn j ≠ 0 ∧ (s.input (2 * p.val + 1)).fault = 0 ∧ (s.input j).fault = 0) :=
  ⟨⟨0, 0, on, by decide⟩,
   ⟨0, ((fun s : State => { s with cfg.safeIn.fn := List.replicate 8 (1) }) (({ on with pw.islandUp := true, cfg.safeIn.fn := [1, 1, 1, 1, 1, 1, 1, 1] }).onInput (((0 : Fin 8).val + 1)) fun x => { x with demand := false }) : State).filterUs ((0 : Fin 8).val + 1), (fun s : State => { s with cfg.safeIn.fn := List.replicate 8 (1) }) (({ on with pw.islandUp := true, cfg.safeIn.fn := [1, 1, 1, 1, 1, 1, 1, 1] }).onInput (((0 : Fin 8).val + 1)) fun x => { x with demand := false }), by decide, by decide, by decide, by decide⟩,
   ⟨0, ((fun s : State => { s with cfg.safeIn.fn := List.replicate 8 (1) }) (({ on with pw.islandUp := true }).onInput (((0 : Fin 8).val + 1)) fun x => { x with demand := false }) : State).filterUs ((0 : Fin 8).val + 1), (fun s : State => { s with cfg.safeIn.fn := List.replicate 8 (1) }) (({ on with pw.islandUp := true }).onInput (((0 : Fin 8).val + 1)) fun x => { x with demand := false }), by decide, by decide, by decide, by decide, by decide⟩,
   ⟨0, (on).onInput (((0 : Fin 8).val + 1)) fun x => { x with demand := false }, by decide, by decide, by decide⟩,
   ⟨0, 0, on, by decide⟩,
   ⟨0, ((on).onInput (((0 : Fin 8).val + 1)) fun x => { x with demand := true } : State).filterUs ((0 : Fin 8).val + 1), (on).onInput (((0 : Fin 8).val + 1)) fun x => { x with demand := true }, by decide, by decide⟩,
   ⟨0, 0, [1], 18000, 3000, 1, ({ on with pw.islandUp := true, cfg.safeIn.fn := [1, 1, 1, 1, 1, 1, 1, 1], cfg.safeIn.source := [1, 1, 1] }).onInput (1) fun x => { x with missRun := 1, fault := 0 }, by decide, by decide, by decide, by decide, by decide, by decide, by decide, by decide, by decide⟩,
   ⟨0, 0, [2], 18000, 3000, 1, ({ on with pw.islandUp := true, cfg.safeIn.fn := [1, 1, 1, 1, 1, 1, 1, 1], cfg.safeIn.source := [1, 1, 1] }).onInput (1) fun x => { x with fault := 0, demand := false }, by decide, by decide, by decide, by decide, by decide, by decide, by decide, by decide, by decide, fun j h => by change (if (List.getD [] (j - 1) false) = true then _ else _) = _ at h; simp at h⟩,
   ⟨0, 0, 0, 0, (fun s : State => { s with sf.srcRun := s.sf.srcRun.put 1 0 1 }) ({ on with pw.islandUp := true, cfg.safeIn.fn := [1, 1, 1, 1, 1, 1, 1, 1] }), by decide, by decide, by decide, by decide, by decide⟩,
   ⟨0, 0, on, by decide⟩,
   ⟨(0 + ms (((fun s : State => { s with cfg.safeIn.fn := [1, 1], cfg.safeIn.pair := [true, true] }) ((fun s : State => { s with cfg.safeIn.fn := List.replicate 8 (1) }) ((fun s : State => { s with cfg.safeIn.fn := List.replicate 8 (1) }) ((({ on with pw.islandUp := true }).onInput ((2 * (0 : Fin 4).val + 1)) fun x => { x with disSince := some 0, fault := 0 }).onInput (2) fun x => { x with fault := 0 }))) : State).cfg.safeIn.discMs.getD (0 : Fin 4).val 100)), 0, 2, 0, (fun s : State => { s with cfg.safeIn.fn := [1, 1], cfg.safeIn.pair := [true, true] }) ((fun s : State => { s with cfg.safeIn.fn := List.replicate 8 (1) }) ((fun s : State => { s with cfg.safeIn.fn := List.replicate 8 (1) }) ((({ on with pw.islandUp := true }).onInput ((2 * (0 : Fin 4).val + 1)) fun x => { x with disSince := some 0, fault := 0 }).onInput (2) fun x => { x with fault := 0 }))), by decide, by decide, by decide, by decide, by decide, by decide, by decide, by decide⟩⟩

theorem test_DisconnectPathTests_met :
    (∃ (t : ℕ) (o : Fin 2) (s : State), (s.output (o.val + 1)).testing = 0 ∧ (s.output (o.val + 1)).energised = true ∧ s.islandOn = true ∧ (s.begin t).turnOpen (0x52 + (o.val + 1)) (sec (s.cfg.safeOut.darkS.getD o.val 60)) 0 = true) ∧
    (∃ (t : ℕ) (o : Fin 2) (s : State), (s.output (o.val + 1)).testing = 0 ∧ s.brightAllowed (o.val + 1) = true ∧ s.islandOn = true ∧ (s.begin t).turnOpen (0x54 + (o.val + 1)) (sec (s.cfg.safeOut.brightS.getD o.val 60)) 0 = true) ∧
    (∃ (o : Fin 2) (s : State), (s.output (o.val + 1)).testing = 0) ∧
    (∃ (o : Fin 2) (s : State), (s.output (o.val + 1)).testing = 1) ∧
    (∃ (o : Fin 2) (a : Bool) (b : Bool) (s : State), (s.output (o.val + 1)).testing = 1 ∧ (a && b) = false) ∧
    (∃ (o : Fin 2) (a : Bool) (b : Bool) (s : State), (s.output (o.val + 1)).testing = 2 ∧ (a && b) = false) ∧
    (∃ (t : ℕ) (o : Fin 2) (d : ℕ) (s : State), (s.output (o.val + 1)).rerunWait = true ∧ (s.output (o.val + 1)).rerunAt = some d ∧ d ≤ max s.now t ∧ (s.output (o.val + 1)).testing = 0) ∧
    (∃ (k : ℕ) (s : State), ((s.coil k).phase ≠ .hold ∨ s.leads = false)) ∧
    (∃ (t : ℕ) (k : ℕ) (s : State), (s.coil k).phase = .hold ∧ s.leads = true ∧ (s.begin t).turnOpen (0x60 + k) (sec 600) s.dipOffset = true) ∧
    (∃ (t : ℕ) (k : ℕ) (s : State), (s.coil k).phase = .hold ∧ (s.begin t).turnOpen (0x70 + k) (sec 600) (sec 300 + s.dipOffset) = true) ∧
    (∃ (t : ℕ) (k : ℕ) (s : State), s.isTwin = true ∧ s.tw.partnerFailed = false ∧ (s.begin t).turnOpen (0x90 + k) (sec 600) (sec 300 + sec (150 * (1 - s.cfg.twin.position))) = true) ∧
    (∃ (s : State), (s.isTwin = false ∨ s.tw.partnerFailed = true)) ∧
    (∃ (s : State), (s.isTwin = false ∨ s.tw.role ≠ .follower)) ∧
    (∃ (t : ℕ) (k : ℕ) (s : State), s.isTwin = true ∧ s.tw.role = .follower ∧ s.tw.partnerCoils.testBit (k - 1) = true ∧ s.tw.partnerPull.testBit (k - 1) = false ∧ (s.begin t).turnOpen (0x80 + k) (sec 600) s.dipOffset = true) :=
  ⟨⟨0, 0, ({ on with pw.islandUp := true }).onOutput (((0 : Fin 2).val + 1)) fun x => { x with testing := 0, energised := true }, by decide, by decide, by decide, by decide⟩,
   ⟨0, 0, ({ on with pw.islandUp := true, cfg.safeOut.fn := [1, 1], cfg.safeOut.brightOn := [true, true] }).onOutput (((0 : Fin 2).val + 1)) fun x => { x with testing := 0 }, by decide, by decide, by decide, by decide⟩,
   ⟨0, (on).onOutput (((0 : Fin 2).val + 1)) fun x => { x with testing := 0 }, by decide⟩,
   ⟨0, (on).onOutput (((0 : Fin 2).val + 1)) fun x => { x with testing := 1 }, by decide⟩,
   ⟨0, false, false, (on).onOutput (((0 : Fin 2).val + 1)) fun x => { x with testing := 1 }, by decide, by decide⟩,
   ⟨0, false, false, (on).onOutput (((0 : Fin 2).val + 1)) fun x => { x with testing := 2 }, by decide, by decide⟩,
   ⟨(0), 0, 0, (on).onOutput (((0 : Fin 2).val + 1)) fun x => { x with rerunWait := true, rerunAt := some 0, testing := 0 }, by decide, by decide, by decide, by decide⟩,
   ⟨0, on, by decide⟩,
   ⟨0, 0, ({ on with tw.role := .leader }).onCoil (0) fun x => { x with phase := .hold }, by decide, by decide, by decide⟩,
   ⟨0, 0, (on).onCoil (0) fun x => { x with phase := .hold }, by decide, by decide⟩,
   ⟨0, 0, { on with cfg.twin.mode := 1, tw.partnerFailed := false }, by decide, by decide, by decide⟩,
   ⟨{ on with cfg.twin.mode := 0 }, by decide⟩,
   ⟨{ on with cfg.twin.mode := 0 }, by decide⟩,
   ⟨0, 1, { on with cfg.twin.mode := 1, tw.role := .follower, tw.partnerCoils := 1 }, by decide, by decide, by decide, by decide, by decide⟩⟩

theorem test_TwinHeartbeats_met :
    (∃ (s : State), s.twinOn = false) ∧
    (∃ (t : ℕ) (s : State), s.twinOn = true ∧ (s.begin t).turnOpen 0x18 5000 0 = true ∧ s.pw.haltedApp = false ∧ s.tw.liveSeen = s.tw.liveness) ∧
    (∃ (t : ℕ) (s : State), s.twinOn = true ∧ (s.begin t).turnOpen 0x18 5000 0 = true ∧ s.pw.haltedApp = true ∧ s.tw.liveSeen = s.tw.liveness ∧ 2 ≤ s.tw.stallRun ∧ s.tw.role ≠ .withdrawn) ∧
    (∃ (s : State), s.twinOn = false) ∧
    (∃ (p : Fin 3) (s : State), s.twinOn = true ∧ p.val ≠ 0) ∧
    (∃ (p : Fin 3) (hb : HbIn) (s : State), s.twinOn = true ∧ p.val = 0 ∧ s.hdrOk hb.hdr = false) ∧
    (∃ (p : Fin 3) (hb : HbIn) (s : State), s.twinOn = true ∧ p.val = 0 ∧ s.hdrOk hb.hdr = true) ∧
    (∃ (p : Fin 3) (hb : HbIn) (s : State), s.twinOn = true ∧ p.val = 0 ∧ s.hdrOk hb.hdr = true ∧ hb.hdr.version = 1 ∧ hb.hdr.position ≠ s.cfg.twin.position ∧ s.tw.mismatchId = false ∧ hb.hdr.role = 2 ∧ s.tw.role = .starting ∧ s.pw.portsUp = true) ∧
    (∃ (p : Fin 3) (hb : HbIn) (s : State), s.twinOn = true ∧ p.val = 0 ∧ s.hdrOk hb.hdr = true ∧ hb.hdr.role = 2 ∧ s.tw.role = .leader ∧ s.tw.epoch < hb.hdr.epoch ∧ hb.hdr.version = 1 ∧ hb.hdr.position ≠ s.cfg.twin.position ∧ s.tw.mismatchId = false) ∧
    (∃ (t : ℕ) (s : State), (s.twinOn = false ∨ (s.begin t).sinceEpoch % 5000 < 1000)) ∧
    (∃ (t : ℕ) (p : Fin 3) (s : State), s.twinOn = true ∧ 1000 ≤ (s.begin t).sinceEpoch % 5000 ∧ (s.begin t).turnOpen (0x40 + p.val) 5000 0 = true ∧ (s.path p.val).missed < 2 ∧ (s.path p.val).lost = false) ∧
    (∃ (t : ℕ) (p : Fin 3) (s : State), s.twinOn = true ∧ p.val = 0 ∧ 1000 ≤ (s.begin t).sinceEpoch % 5000 ∧ (s.begin t).turnOpen (0x40 + p.val) 5000 0 = true ∧ 2 ≤ (s.path 0).missed ∧ (s.path 0).lost = false ∧ (s.path 1).lost = true ∧ s.tw.partnerFailed = false ∧ s.tw.role = .follower ∧ s.tw.ready = true) ∧
    (∃ (s : State), s.twinOn = false) ∧
    (∃ (h : TwHdr) (s : State), s.twinOn = true ∧ s.hdrOk h = true ∧ s.tw.role = .leader) ∧
    (∃ (h : TwHdr) (s : State), s.twinOn = true ∧ s.hdrOk h = true ∧ s.tw.role = .follower ∧ s.tw.ready = true) ∧
    (∃ (t : ℕ) (s : State), s.isTwin = true ∧ s.tw.trips = true ∧ s.tw.lastRefresh + 8000 ≤ max s.now t) ∧
    (∃ (t : ℕ) (s : State), (s.isTwin = false ∨ s.tw.trips = false ∨ max s.now t < s.tw.lastRefresh + 8000)) :=
  ⟨⟨on, by decide⟩,
   ⟨0, { on with cfg.twin.mode := 1 }, by decide, by decide, by decide, by decide⟩,
   ⟨0, { on with cfg.twin.mode := 1, pw.haltedApp := true, tw.stallRun := 5 }, by decide, by decide, by decide, by decide, by decide, by decide⟩,
   ⟨on, by decide⟩,
   ⟨1, { on with cfg.twin.mode := 1 }, by decide, by decide⟩,
   ⟨0, { hdr := { crcOk := false } }, { on with cfg.twin.mode := 1 }, by decide, by decide, by decide⟩,
   ⟨0, { hdr := { string := 17, crcOk := true, position := 1, role := 1 }, coils := 3 }, { on with cfg.twin.mode := 1 }, by decide, by decide, by decide⟩,
   ⟨0, { hdr := { string := 17, crcOk := true, position := 1, role := 2, version := 1 }, coils := 3 }, { on with cfg.twin.mode := 1, tw.mismatchId := false, tw.role := .starting, pw.portsUp := true }, by decide, by decide, by decide, by decide, by decide, by decide, by decide, by decide, by decide⟩,
   ⟨0, { hdr := { string := 17, crcOk := true, position := 1, role := 2, version := 1, epoch := 6 }, coils := 3 }, { on with cfg.twin.mode := 1, tw.role := .leader, tw.mismatchId := false }, by decide, by decide, by decide, by decide, by decide, by decide, by decide, by decide, by decide⟩,
   ⟨0, on, by decide⟩,
   ⟨0, 0, (fun s : State => atNs s 5000002000) (({ on with cfg.twin.mode := 1 }).onPath ((0 : Fin 3).val) fun x => { x with lost := false }), by decide, by decide, by decide, by decide, by decide⟩,
   ⟨0, 0, (fun s : State => (s.onPath 0 fun x => { x with missed := 2 }).onPath 1 fun x => { x with lost := true }) ((fun s : State => atNs s 5000002000) ((({ on with cfg.twin.mode := 1, tw.partnerFailed := false, tw.role := .follower, tw.ready := true }).onPath (0) fun x => { x with missed := 2, lost := false }).onPath (1) fun x => { x with lost := true })), by decide, by decide, by decide, by decide, by decide, by decide, by decide, by decide, by decide, by decide⟩,
   ⟨on, by decide⟩,
   ⟨{ string := 17, crcOk := true }, { on with cfg.twin.mode := 1, tw.role := .leader }, by decide, by decide, by decide⟩,
   ⟨{ string := 17, crcOk := true }, { on with cfg.twin.mode := 1, tw.role := .follower, tw.ready := true }, by decide, by decide, by decide, by decide⟩,
   ⟨(({ on with cfg.twin.mode := 1, tw.trips := true } : State).tw.lastRefresh + 8000), { on with cfg.twin.mode := 1, tw.trips := true }, by decide, by decide, by decide⟩,
   ⟨0, { on with cfg.twin.mode := 0 }, by decide⟩⟩

theorem test_TwinHandover_met :
    (∃ (s : State), (s.tw.role ≠ .withdrawn ∨ s.tw.withdrawAt = none)) ∧
    (∃ (t : ℕ) (w : ℕ) (s : State), s.tw.role = .withdrawn ∧ s.tw.withdrawAt = some w ∧ w + 100000 ≤ max s.now t ∧ s.pw.state = .flushing) ∧
    (∃ (t : ℕ) (w : ℕ) (s : State), s.tw.role = .withdrawn ∧ s.tw.withdrawAt = some w ∧ max s.now t < w + 100000 ∧ s.coilMask &&& s.tw.partnerXh ≠ s.coilMask) ∧
    (∃ (t : ℕ) (i : StartIn) (w : ℕ) (s : State), s.tw.role = .withdrawn ∧ s.tw.withdrawAt = some w ∧ w + 100000 ≤ max s.now t ∧ s.pw.state ≠ .flushing ∧ s.pw.resetNext = none ∧ i.copyOk = true ∧ s.up.trialKind ≠ 2) ∧
    (∃ (m : Maint) (s : State), s.takes m ∧ s.leads = false) ∧
    (∃ (m : Maint) (s : State), s.takes m ∧ s.leads = true ∧ s.handoverPossible = false) ∧
    (∃ (m : Maint) (s : State), s.takes m ∧ s.handoverPossible = true) ∧
    (∃ (c : ℕ) (s : State), ((s.handoverPossible = false ∨ c < 5 ∨ 8 < c))) ∧
    (∃ (c : ℕ) (s : State), 5 ≤ c ∧ c ≤ 8 ∧ s.handoverPossible = true) ∧
    (∃ (s : State), s.twinOn = false) ∧
    (∃ (h : TwHdr) (s : State), s.twinOn = true ∧ s.hdrOk h = true ∧ s.tw.role = .follower ∧ s.tw.ready = true) ∧
    (∃ (h : TwHdr) (s : State), s.twinOn = true ∧ s.hdrOk h = true ∧ s.tw.role = .leader ∧ s.tw.handoverAt.isSome = true) ∧
    (∃ (t : ℕ) (s : State), ((∀ d, s.tw.handoverAt = some d → max s.now t < d))) ∧
    (∃ (t : ℕ) (d : ℕ) (s : State), s.tw.handoverAt = some d ∧ d ≤ max s.now t ∧ s.tw.role = .follower) ∧
    (∃ (t : ℕ) (d : ℕ) (s : State), s.tw.handoverAt = some d ∧ d ≤ max s.now t ∧ s.tw.role = .leader ∧ s.tw.handoverAck = true ∧ s.tw.handoverCause = 6) ∧
    (∃ (t : ℕ) (d : ℕ) (s : State), s.tw.handoverAt = some d ∧ d ≤ max s.now t ∧ s.tw.role = .leader ∧ s.tw.handoverAck = false ∧ s.tw.handoverCause = 6) ∧
    (∃ (t : ℕ) (d : ℕ) (s : State), (s.tw.role ≠ .starting ∨ s.tw.mismatch = true ∨ (s.path 0).lost = false ∨ s.tw.pairUntil ≠ some d ∨ max s.now t < d)) ∧
    (∃ (t : ℕ) (d : ℕ) (s : State), s.tw.role = .starting ∧ s.tw.mismatch = false ∧ (s.path 0).lost = true ∧ s.tw.pairUntil = some d ∧ d ≤ max s.now t ∧ (s.path 1).lost = true ∧ (s.path 2).lost = true) ∧
    (∃ (t : ℕ) (d : ℕ) (s : State), s.tw.role = .starting ∧ s.tw.mismatch = false ∧ (s.path 0).lost = true ∧ s.tw.pairUntil = some d ∧ d ≤ max s.now t ∧ (((s.path 1).lost = false ∨ (s.path 2).lost = false)) ∧ s.cfg.twin.position ≠ 0) ∧
    (∃ (t : ℕ) (s : State), (s.begin t).syncReady = false) ∧
    (∃ (t : ℕ) (s : State), (s.begin t).syncReady = true) :=
  ⟨⟨on, by decide⟩,
   ⟨(0 + 100000), 0, { on with tw.role := .withdrawn, tw.withdrawAt := some 0, pw.state := .flushing }, by decide, by decide, by decide, by decide⟩,
   ⟨0, 0, (fun s : State => s.onCoil 3 fun x => { x with phase := .hold }) ((fun s : State => { s with tw.role := .withdrawn, tw.withdrawAt := some 0 }) (on)), by decide, by decide, by decide, by decide⟩,
   ⟨(0 + 100000), { copyOk := true }, 0, { on with tw.role := .withdrawn, tw.withdrawAt := some 0, pw.resetNext := none }, by decide, by decide, by decide, by decide, by decide, by decide, by decide⟩,
   ⟨{ key := 8, session := 1, seq := 1 }, (fun s : State => { s with cfg := s.cfg }) (({ on with pw.portsUp := true, tw.role := .follower }).onTele (8) fun x => { x with client := { session := 1 } }), ⟨by decide, ⟨_, rfl, by decide⟩, by decide, by decide, by decide, by decide⟩, by decide⟩,
   ⟨{ key := 8, session := 1, seq := 1 }, (fun s : State => { s with cfg := s.cfg }) (({ on with pw.portsUp := true, tw.role := .leader }).onTele (8) fun x => { x with client := { session := 1 } }), ⟨by decide, ⟨_, rfl, by decide⟩, by decide, by decide, by decide, by decide⟩, by decide, by decide⟩,
   ⟨{ key := 8, session := 1, seq := 1 }, (fun s : State => { s with tw.partnerFailed := false }) ((fun s : State => ((s.onPath 0 fun x => { x with lost := false }).onPath 1 fun x => { x with lost := false }).onPath 2 fun x => { x with lost := false }) ((fun s : State => { s with cfg.twin.mode := 1, tw.partner := .follower, tw.partnerReady := true }) ((fun s : State => { s with cfg := s.cfg }) (({ on with pw.portsUp := true }).onTele (8) fun x => { x with client := { session := 1 } })))), ⟨by decide, ⟨_, rfl, by decide⟩, by decide, by decide, by decide, by decide⟩, by decide⟩,
   ⟨0, on, by decide⟩,
   ⟨8, (fun s : State => { s with tw.partnerFailed := false }) ((fun s : State => ((s.onPath 0 fun x => { x with lost := false }).onPath 1 fun x => { x with lost := false }).onPath 2 fun x => { x with lost := false }) ((fun s : State => { s with cfg.twin.mode := 1, tw.partner := .follower, tw.partnerReady := true }) (on))), by decide, by decide, by decide⟩,
   ⟨on, by decide⟩,
   ⟨{ string := 17, crcOk := true }, { on with cfg.twin.mode := 1, tw.role := .follower, tw.ready := true }, by decide, by decide, by decide, by decide⟩,
   ⟨{ string := 17 }, (fun s : State => { s with cfg.twin.mode := 1, tw.handoverAt := some 9 }) (on), by decide, by decide, by decide, by decide⟩,
   ⟨0, on, by decide⟩,
   ⟨(0), 0, { on with tw.handoverAt := some 0, tw.role := .follower }, by decide, by decide, by decide⟩,
   ⟨(0), 0, { on with tw.handoverAt := some 0, tw.role := .leader, tw.handoverAck := true, tw.handoverCause := 6 }, by decide, by decide, by decide, by decide, by decide⟩,
   ⟨(0), 0, { on with tw.handoverAt := some 0, tw.role := .leader, tw.handoverAck := false, tw.handoverCause := 6 }, by decide, by decide, by decide, by decide, by decide⟩,
   ⟨0, 0, on, by decide⟩,
   ⟨(0), 0, ((({ on with tw.role := .starting, tw.mismatch := false, tw.pairUntil := some 0 }).onPath (0) fun x => { x with lost := true }).onPath (1) fun x => { x with lost := true }).onPath (2) fun x => { x with lost := true }, by decide, by decide, by decide, by decide, by decide, by decide, by decide⟩,
   ⟨(0), 0, (fun s : State => s.onPath 0 fun x => { x with lost := true }) ((({ on with tw.role := .starting, tw.mismatch := false, tw.pairUntil := some 0, cfg.twin.position := 1 }).onPath (0) fun x => { x with lost := true }).onPath (1) fun x => { x with lost := false }), by decide, by decide, by decide, by decide, by decide, by decide, by decide⟩,
   ⟨0, on, by decide⟩,
   ⟨9000000000000, (fun s : State => { s with tw.partnerFailed := false }) ((fun s : State => ((s.onPath 0 fun x => { x with lost := false }).onPath 1 fun x => { x with lost := false }).onPath 2 fun x => { x with lost := false }) ((fun s : State => (List.range 12).foldl (fun s i => s.onCoil (i+1) fun x => { x with accepted := some false }) s) ((fun s : State => { s with cfg.twin.mode := 1, cfg.branches.cells := [], tw.role := .syncing, tw.itemsSynced := true, tw.bulkSynced := true, tw.lockHeldSince := some 0, pw.armed := true }) (on)))), by decide⟩⟩

theorem test_TwinStateAndFaults_met :
    (∃ (s : State), s.twinOn = false) ∧
    (∃ (f : ShadowIn) (s : State), s.twinOn = true ∧ s.hdrOk f.hdr = false) ∧
    (∃ (f : ShadowIn) (d : Dispatch) (v : Basil) (s : State), s.twinOn = true ∧ s.hdrOk f.hdr = true ∧ s.tw.role = .follower ∧ f.view.di = some d ∧ f.view.ba = some v ∧ f.view.nodes = none ∧ f.view.cells = none) ∧
    (∃ (f : ShadowIn) (s : State), s.twinOn = true ∧ s.hdrOk f.hdr = true ∧ s.tw.role = .leader) ∧
    (∃ (s : State), s.twinOn = false) ∧
    (∃ (f : IslandIn) (s : State), s.twinOn = true ∧ s.hdrOk f.hdr = false) ∧
    (∃ (f : IslandIn) (s : State), s.twinOn = true ∧ s.hdrOk f.hdr = true) ∧
    (∃ (f : IslandIn) (i : ℕ) (s : State), s.twinOn = true ∧ s.hdrOk f.hdr = true ∧ i ∈ f.demand ∧ i ∉ s.sf.partnerDemand ∧ i ∈ s.inputsOf 1 ++ s.inputsOf 2 ∧ s.fn 0x0B strGroup = none) ∧
    (∃ (s : State), s.isTwin = true ∧ ((s.pw.state = .watch ∨ s.pw.state = .run ∨ s.pw.state = .enteringHib))) ∧
    (∃ (s : State), s.isTwin = true ∧ ((s.pw.state = .watch ∨ s.pw.state = .run ∨ s.pw.state = .enteringHib)) ∧ s.partnerThere = true ∧ s.tw.role ≠ .withdrawn) ∧
    (∃ (s : State), s.isTwin = false ∧ ((s.pw.state = .watch ∨ s.pw.state = .run)) ∧ s.pw.haltedIsland = false ∧ s.pw.resetHold = none ∧ s.pw.resetWait = none ∧ s.pw.resetNext = none ∧ s.mainOn = true) ∧
    (∃ (c : ℕ), ((c : Int) - 1000000).natAbs ≤ 300) ∧
    (∃ (c : ℕ) (s : State), 300 < ((c : Int) - 1000000).natAbs ∧ s.th.badWindows = 0) ∧
    (∃ (c : ℕ) (s : State), 300 < ((c : Int) - 1000000).natAbs ∧ s.th.badWindows = 1 ∧ s.th.failure = false ∧ s.partnerThere = true ∧ ((s.pw.state = .watch ∨ s.pw.state = .run)) ∧ s.tw.role ≠ .withdrawn) ∧
    (∃ (c : ℕ) (i : StartIn) (s : State), 300 < ((c : Int) - 1000000).natAbs ∧ s.th.badWindows = 1 ∧ s.th.failure = false ∧ s.isTwin = false ∧ ((s.pw.state = .watch ∨ s.pw.state = .run)) ∧ s.pw.haltedIsland = false ∧ s.pw.resetHold = none ∧ s.pw.resetWait = none ∧ s.pw.resetNext = none ∧ s.fn 0x0A strGroup = none ∧ i.copyOk = true ∧ s.up.trialKind ≠ 2) :=
  ⟨⟨on, by decide⟩,
   ⟨{ hdr := { crcOk := false } }, { on with cfg.twin.mode := 1 }, by decide, by decide⟩,
   ⟨{ hdr.string := 17, hdr.crcOk := true, view.di := some ({} : Dispatch), view.ba := some ({} : Basil), view.nodes := none, view.cells := none }, {}, {}, { on with cfg.twin.mode := 1, tw.role := .follower }, by decide, by decide, by decide, by decide, by decide, by decide, by decide⟩,
   ⟨{ hdr.string := 17, hdr.crcOk := true }, { on with cfg.twin.mode := 1, tw.role := .leader }, by decide, by decide, by decide⟩,
   ⟨on, by decide⟩,
   ⟨{ hdr := { crcOk := false } }, { on with cfg.twin.mode := 1 }, by decide, by decide⟩,
   ⟨{ hdr.string := 17, hdr.crcOk := true }, { on with cfg.twin.mode := 1 }, by decide, by decide⟩,
   ⟨{ hdr.string := 17, hdr.crcOk := true, demand := [1] }, 1, { on with cfg.twin.mode := 1, cfg.safeIn.fn := [1] }, by decide, by decide, by decide, by decide, by decide, by decide⟩,
   ⟨{ on with cfg.twin.mode := 1, pw.state := .watch }, by decide, by decide⟩,
   ⟨(fun s : State => { s with tw.partnerFailed := false }) ((fun s : State => ((s.onPath 0 fun x => { x with lost := false }).onPath 1 fun x => { x with lost := false }).onPath 2 fun x => { x with lost := false }) ({ on with cfg.twin.mode := 1, pw.state := .watch, tw.partner := .follower })), by decide, by decide, by decide, by decide⟩,
   ⟨({ on with cfg.twin.mode := 0, pw.state := .watch, pw.haltedIsland := false, pw.resetHold := none, pw.resetWait := none, pw.resetNext := none }).onCoil (1) fun x => { x with phase := .hold }, by decide, by decide, by decide, by decide, by decide, by decide, by decide⟩,
   ⟨1000000, by decide⟩,
   ⟨0, { on with th.badWindows := 0 }, by decide, by decide⟩,
   ⟨0, (fun s : State => { s with tw.partnerFailed := false }) ((fun s : State => ((s.onPath 0 fun x => { x with lost := false }).onPath 1 fun x => { x with lost := false }).onPath 2 fun x => { x with lost := false }) ({ on with th.badWindows := 1, th.failure := false, cfg.twin.mode := 1, tw.partner := .follower, pw.state := .watch })), by decide, by decide, by decide, by decide, by decide, by decide⟩,
   ⟨0, { copyOk := true }, { on with th.badWindows := 1, th.failure := false, cfg.twin.mode := 0, pw.state := .watch, pw.haltedIsland := false, pw.resetHold := none, pw.resetWait := none, pw.resetNext := none }, by decide, by decide, by decide, by decide, by decide, by decide, by decide, by decide, by decide, by decide, by decide, by decide⟩⟩

theorem test_FeedsAndStates_met :
    (∃ (s : State), s.pw.state = .off) ∧
    (∃ (s : State), s.pw.state ≠ .off ∧ s.pw.state ≠ .hibernate) ∧
    (∃ (k : Fin 2) (s : State), ((if k.val = 0 then s.pw.feed1 = false ∨ s.pw.feed2 = true else s.pw.feed2 = false ∨ s.pw.feed1 = true))) ∧
    (∃ (k : Fin 2) (s : State), ((if k.val = 0 then s.pw.feed1 = true ∧ s.pw.feed2 = false else s.pw.feed2 = true ∧ s.pw.feed1 = false)) ∧ ((s.pw.state = .watch ∨ s.pw.state = .run))) ∧
    (∃ (s : State), ((s.pw.state = .off ∨ s.pw.state = .flushing ∨ s.pw.state = .hibernate))) ∧
    (∃ (s : State), ((s.pw.state = .watch ∨ s.pw.state = .run)) ∧ s.handoverPossible = false) ∧
    (∃ (s : State), s.pw.state ≠ .flushing) ∧
    (∃ (s : State), s.pw.state = .flushing ∧ s.anyFeed = false) ∧
    (∃ (s : State), s.pw.state = .flushing ∧ s.anyFeed = true ∧ s.pw.flushFrom = some .resetLocked) ∧
    (∃ (i : StartIn) (s : State), s.pw.state = .flushing ∧ s.anyFeed = true ∧ s.pw.flushFrom ≠ some .resetLocked ∧ i.copyOk = true) ∧
    (∃ (s : State), (s.pw.state ≠ .hibernate ∨ s.anyFeed = true)) ∧
    (∃ (s : State), s.pw.state = .hibernate ∧ s.anyFeed = false) ∧
    (∃ (s : State), s.pw.state ≠ .watch ∧ s.pw.state ≠ .run) ∧
    (∃ (t : ℕ) (s : State), ((s.pw.state = .watch ∨ s.pw.state = .run)) ∧ s.pw.lastHoldUp + sec 86400 ≤ max s.now t ∧ s.pw.feed1 = true ∧ s.pw.feed2 = true) ∧
    (∃ (t : ℕ) (s : State), ((s.pw.state = .watch ∨ s.pw.state = .run)) ∧ s.pw.lastHoldUp + sec 86400 ≤ max s.now t ∧ ((s.pw.feed1 = false ∨ s.pw.feed2 = false))) ∧
    (∃ (s : State), s.startReady = false) ∧
    (∃ (s : State), s.startReady = true) ∧
    (∃ (s : State), s.setpointStands = false ∧ s.masterPair = false ∧ s.pw.overCurrentRun < 2) ∧
    (∃ (s : State), s.pw.state = .watch ∧ (s.setpointStands = true ∨ s.masterPair = true ∨ 2 ≤ s.pw.overCurrentRun)) ∧
    (∃ (t : ℕ) (d : ℕ) (s : State), s.pw.state = .watch ∧ s.pw.runRequestAt = some d ∧ d + 400000 + (s.begin t).sinceFrame ≤ max s.now t ∧ s.acq.calFault = false) ∧
    (∃ (s : State), (s.pw.state ≠ .watch ∨ s.pw.runRequestAt = none ∨ s.acq.calFault = true)) ∧
    (∃ (t : ℕ) (d : ℕ) (s : State), s.pw.state = .run ∧ s.watchConditions = true ∧ s.pw.watchSince = some d ∧ d + sec s.cfg.power.runDwell ≤ max s.now t ∧ (s.begin t).sweepAbs % 100 = 0) ∧
    (∃ (t : ℕ) (s : State), (s.pw.state ≠ .run ∨ s.watchConditions = false ∨ s.pw.watchSince = none ∨ (s.begin t).sweepAbs % 100 ≠ 0)) :=
  ⟨⟨{ on with pw.state := .off }, by decide⟩,
   ⟨on, by decide, by decide⟩,
   ⟨0, on, by decide⟩,
   ⟨0, { on with pw.feed2 := false }, by decide, by decide⟩,
   ⟨{ on with pw.state := .off }, by decide⟩,
   ⟨{ on with pw.state := .watch }, by decide, by decide⟩,
   ⟨on, by decide⟩,
   ⟨{ on with pw.state := .flushing, pw.feed1 := false, pw.feed2 := false }, by decide, by decide⟩,
   ⟨{ on with pw.state := .flushing, pw.feed1 := true, pw.feed2 := true, pw.flushFrom := some .resetLocked }, by decide, by decide, by decide⟩,
   ⟨{ copyOk := true }, { on with pw.state := .flushing, pw.feed1 := true, pw.feed2 := true }, by decide, by decide, by decide, by decide⟩,
   ⟨on, by decide⟩,
   ⟨{ on with pw.state := .hibernate, pw.feed1 := false, pw.feed2 := false }, by decide, by decide⟩,
   ⟨{ on with pw.state := .starting }, by decide, by decide⟩,
   ⟨(({ on with pw.state := .watch, pw.feed1 := true, pw.feed2 := true } : State).pw.lastHoldUp + sec 86400), { on with pw.state := .watch, pw.feed1 := true, pw.feed2 := true }, by decide, by decide, by decide, by decide⟩,
   ⟨(({ on with pw.state := .watch, pw.feed1 := false } : State).pw.lastHoldUp + sec 86400), { on with pw.state := .watch, pw.feed1 := false }, by decide, by decide, by decide⟩,
   ⟨on, by decide⟩,
   ⟨{ on with pw.state := .starting, pw.itemsRead := true, pg.outcome := 0 }, by decide⟩,
   ⟨on, by decide, by decide, by decide⟩,
   ⟨{ on with pw.state := .watch, pw.overCurrentRun := 2 }, by decide, by decide⟩,
   ⟨900000000, 0, { on with pw.runRequestAt := some 0 }, by decide, by decide, by decide, by decide⟩,
   ⟨{ on with pw.state := .off }, by decide⟩,
   ⟨(0 + sec ({ on with pw.state := .run, pw.watchSince := some 0 } : State).cfg.power.runDwell), 0, { on with pw.state := .run, pw.watchSince := some 0 }, by decide, by decide, by decide, by decide, by decide⟩,
   ⟨0, on, by decide⟩⟩

theorem test_Hibernation_met :
    (∃ (s : State), (s.pw.state ≠ .watch ∨ s.hibConditions = false)) ∧
    (∃ (t : ℕ) (d : ℕ) (s : State), s.pw.state = .watch ∧ s.hibConditions = true ∧ s.pw.hibSince = some d ∧ d + sec s.cfg.power.hibDelay ≤ max s.now t) ∧
    (∃ (s : State), (s.pw.state ≠ .enteringHib ∨ s.pw.coresMasked = false)) ∧
    (∃ (t : ℕ) (n : Fin 7) (s : State), (s.wakeEnabled (n.val + 1) = false ∨ (s.begin t).wakeCause (n.val + 1) = false)) ∧
    (∃ (t : ℕ) (n : Fin 7) (s : State), s.wakeEnabled (n.val + 1) = true ∧ (s.begin t).wakeCause (n.val + 1) = true ∧ s.pw.state = .hibernate) ∧
    (∃ (t : ℕ) (n : Fin 7) (s : State), s.wakeEnabled (n.val + 1) = true ∧ (s.begin t).wakeCause (n.val + 1) = true ∧ s.pw.state = .enteringHib ∧ s.pw.coresMasked = false) ∧
    (∃ (s : State), (s.pw.state ≠ .hibernate ∨ s.pw.latches = 0)) ∧
    (∃ (i : StartIn) (s : State), s.pw.state = .hibernate ∧ s.pw.latches ≠ 0 ∧ i.copyOk = false ∧ s.up.trialKind ≠ 2) ∧
    (∃ (i : StartIn) (s : State), s.pw.state = .hibernate ∧ s.pw.latches ≠ 0 ∧ i.copyOk = true) ∧
    (∃ (s : State), s.pw.state ≠ .watch) ∧
    (∃ (s : State), s.pw.state = .watch) ∧
    (∃ s : State, s.pw.state = .enteringHib ∧ s.pw.coresMasked = true) :=
  ⟨⟨{ on with pw.state := .off }, by decide⟩,
   ⟨(0 + sec ({ { ready with cfg.power.hibEnable := true } with pw.state := .watch, pw.hibSince := some 0 } : State).cfg.power.hibDelay), 0, { { ready with cfg.power.hibEnable := true } with pw.state := .watch, pw.hibSince := some 0 }, by decide, by decide, by decide, by decide⟩,
   ⟨on, by decide⟩,
   ⟨0, 4, on, by decide⟩,
   ⟨0, 0, { on with pw.state := .hibernate }, by decide, by decide, by decide⟩,
   ⟨0, 0, { on with pw.state := .enteringHib, pw.coresMasked := false }, by decide, by decide, by decide, by decide⟩,
   ⟨on, by decide⟩,
   ⟨{ copyOk := false }, { on with pw.state := .hibernate, pw.latches := 2 }, by decide, by decide, by decide, by decide⟩,
   ⟨{ copyOk := true }, { on with pw.state := .hibernate, pw.latches := 2 }, by decide, by decide, by decide⟩,
   ⟨{ on with pw.state := .starting }, by decide⟩,
   ⟨{ on with pw.state := .watch }, by decide⟩,
   ⟨{ on with pw := { on.pw with state := .enteringHib, coresMasked := true } }, by decide, by decide⟩⟩

theorem test_Resets_met :
    (∃ (s : State), ((s.pw.state = .off ∨ s.pw.state = .flushing ∨ s.pw.state = .hibernate))) ∧
    (∃ (c : ℕ) (s : State), s.pw.state = .resetLocked ∧ c ≠ 0x0C) ∧
    (∃ (s : State), s.isTwin = false ∧ ((s.pw.state = .watch ∨ s.pw.state = .run)) ∧ s.pw.haltedIsland = false ∧ s.pw.resetHold = none ∧ s.pw.resetWait = none ∧ s.pw.resetNext = none ∧ s.mainOn = true) ∧
    (∃ (s : State), ((s.pw.state = .starting ∨ s.pw.state = .unconfigured)) ∧ s.up.trialKind ≠ 2) ∧
    (∃ (i : StartIn) (s : State), ((s.pw.state = .starting ∨ s.pw.state = .unconfigured)) ∧ s.up.trialKind ≠ 2 ∧ i.copyOk = true) ∧
    (∃ (s : State), ((s.pw.state = .off ∨ s.pw.state = .hibernate))) ∧
    (∃ (s : State), s.pw.state ≠ .off ∧ s.pw.state ≠ .hibernate) ∧
    (∃ (s : State), s.pw.resetWait = none) ∧
    (∃ (t : ℕ) (l : ℕ) (c : ℕ) (d : ℕ) (s : State), s.pw.resetWait = some (l, c, d) ∧ max s.now t < d + sec 60) ∧
    (∃ (t : ℕ) (l : ℕ) (c : ℕ) (d : ℕ) (s : State), s.pw.resetWait = some (l, c, d) ∧ d + sec 60 ≤ max s.now t ∧ s.partnerThere = true ∧ s.tw.role ≠ .withdrawn) ∧
    (∃ (t : ℕ) (l : ℕ) (c : ℕ) (d : ℕ) (s : State), s.pw.resetWait = some (l, c, d) ∧ d + sec 60 ≤ max s.now t ∧ s.partnerThere = false ∧ s.mainOn = true) ∧
    (∃ (s : State), ((s.pw.state = .off ∨ s.pw.state = .hibernate ∨ s.pw.state = .flushing ∨ s.pw.pressDead = true))) ∧
    (∃ (s : State), s.pw.state ≠ .off ∧ s.pw.state ≠ .hibernate ∧ s.pw.state ≠ .flushing ∧ s.pw.pressDead = false) ∧
    (∃ (t : ℕ) (h : ℕ) (s : State), s.pw.state ≠ .off ∧ s.pw.state ≠ .hibernate ∧ s.pw.state ≠ .flushing ∧ s.pw.pressDead = false ∧ ((s.pw.buttonOpenAt = 0 ∨ s.pw.buttonOpenAt + sec 1 + ms h ≤ max s.now t)) ∧ h < 100) ∧
    (∃ (s : State), s.pw.state ≠ .off ∧ s.pw.state ≠ .hibernate ∧ s.pw.state ≠ .flushing ∧ s.pw.pressDead = true) ∧
    (∃ (t : ℕ) (h : ℕ) (s : State), s.isTwin = false ∧ ((s.pw.state = .watch ∨ s.pw.state = .run)) ∧ s.pw.pressDead = false ∧ 100 ≤ h ∧ h < 10000 ∧ s.pw.buttonOpenAt = 0 ∧ (s.begin t).recoveryWindow = false ∧ s.pw.haltedIsland = false ∧ s.pw.resetHold = none ∧ s.pw.resetWait = none ∧ s.pw.resetNext = none ∧ s.mainOn = true) ∧
    (∃ (s : State), s.pw.state ≠ .hibernate ∧ s.pw.state ≠ .enteringHib) ∧
    (∃ (s : State), s.powered = true) ∧
    (∃ (s : State), s.powered = false) ∧
    (∃ (s : State), s.pw.state ≠ .off ∧ s.pw.state ≠ .hibernate ∧ s.pw.plugPresent = true) ∧
    (∃ (img : Image) (s : State), (s.pw.state ≠ .unconfigured ∨ s.pw.plugPresent = false ∨ s.pg.outcome = 2 ∨ s.imageStage img ≠ 0)) ∧
    (∃ (img : Image) (i : StartIn) (s : State), s.pw.state = .unconfigured ∧ s.pw.plugPresent = true ∧ s.pg.outcome ≠ 2 ∧ s.imageStage img = 0 ∧ i.fitted = none) :=
  ⟨⟨{ on with pw.state := .off }, by decide⟩,
   ⟨0, { on with pw.state := .resetLocked }, by decide, by decide⟩,
   ⟨({ on with cfg.twin.mode := 0, pw.state := .watch, pw.haltedIsland := false, pw.resetHold := none, pw.resetWait := none, pw.resetNext := none }).onCoil (1) fun x => { x with phase := .hold }, by decide, by decide, by decide, by decide, by decide, by decide, by decide⟩,
   ⟨{ on with pw.state := .starting }, by decide, by decide⟩,
   ⟨{ copyOk := true }, { on with pw.state := .starting }, by decide, by decide, by decide⟩,
   ⟨{ on with pw.state := .off }, by decide⟩,
   ⟨on, by decide, by decide⟩,
   ⟨{ on with pw.resetWait := none }, by decide⟩,
   ⟨(0 + sec 60) - 1, 0, 0, 0, { on with pw.resetWait := some (0, 0, 0) }, by decide, by decide⟩,
   ⟨(0 + sec 60), 0, 0, 0, (fun s : State => s.onPath 0 fun x => { x with lost := false }) ({ on with pw.resetWait := some (0, 0, 0), cfg.twin.mode := 1, tw.partner := .follower }), by decide, by decide, by decide, by decide⟩,
   ⟨(0 + sec 60), 0, 0, 0, ({ on with pw.resetWait := some (0, 0, 0) }).onCoil (1) fun x => { x with phase := .hold }, by decide, by decide, by decide, by decide⟩,
   ⟨{ on with pw.state := .off }, by decide⟩,
   ⟨{ on with pw.pressDead := false }, by decide, by decide, by decide, by decide⟩,
   ⟨0, 0, { on with pw.pressDead := false, pw.buttonOpenAt := 0 }, by decide, by decide, by decide, by decide, by decide, by decide⟩,
   ⟨{ on with pw.pressDead := true }, by decide, by decide, by decide, by decide⟩,
   ⟨0, 100, ({ on with cfg.twin.mode := 0, pw.state := .watch, pw.pressDead := false, pw.buttonOpenAt := 0, pw.haltedIsland := false, pw.resetHold := none, pw.resetWait := none, pw.resetNext := none }).onCoil (1) fun x => { x with phase := .hold }, by decide, by decide, by decide, by decide, by decide, by decide, by decide, by decide, by decide, by decide, by decide, by decide⟩,
   ⟨on, by decide, by decide⟩,
   ⟨{ on with pw.state := .watch }, by decide⟩,
   ⟨{ on with pw.state := .off }, by decide⟩,
   ⟨{ on with pw.plugPresent := true }, by decide, by decide, by decide⟩,
   ⟨{}, on, by decide⟩,
   ⟨image1, { fitted := none }, bare1, rfl, rfl, by decide, test_image1_accepted, rfl⟩⟩

theorem test_CanChannels_met :
    (∃ (t : ℕ) (c : Fin 2) (i : Fin 16) (m : CfgMsg) (s : State), s.canMsg c.val i.val = some m ∧ m.sends = true ∧ ((s.pw.state = .run ∨ s.pw.state = .watch ∨ s.pw.state = .enteringHib)) ∧ ((s.leads = true ∨ s.isTwin = false)) ∧ ((s.can c.val).tx.get i.val {}).withdrawn = false ∧ (s.can c.val).state ≠ .disabled ∧ (s.can c.val).state ≠ .asleep ∧ ((s.begin t).canPeriodic m = true ∨ (s.canFields m).1 ≠ ((s.can c.val).tx.get i.val {}).last)) ∧
    (∃ (c : Fin 2) (i : Fin 16) (s : State), (((s.can c.val).tx.get i.val {}).pending = false ∨ (s.can c.val).state.sending = false)) ∧
    (∃ (c : Fin 2) (i : Fin 16) (m : CfgMsg) (d : List ℕ) (s : State), s.canMsg c.val i.val = some m ∧ m.sends = true ∧ s.canContent c.val i.val = some d ∧ ((s.can c.val).tx.get i.val {}).pending = true ∧ (s.can c.val).state.sending = true) ∧
    (∃ (c : Fin 2) (i : Fin 16) (m : CfgMsg) (d : List ℕ) (s : State), s.canMsg c.val i.val = some m ∧ m.sends = true ∧ s.canContent c.val i.val = some d ∧ ((s.can c.val).tx.get i.val {}).pending = true ∧ (s.can c.val).state.sending = true) ∧
    (∃ (c : Fin 2) (s : State), (s.can c.val).state.sending = true) ∧
    (∃ (c : Fin 2) (s : State), ((s.isTwin = false ∨ (s.leads = true ∧ ∀ e, e ∈ s.cn.chans.entries → e.2.state ≠ .restricted))) ∧ (s.can c.val).state = .busOff) ∧
    (∃ (c : Fin 2) (s : State), (s.can c.val).state = .stopped) ∧
    (∃ (c : Fin 2) (f : CanRx) (s : State), ((s.can c.val).state.sending = true ∨ (s.can c.val).state = .restricted) ∧ ((f.exception_ = true ∨ f.remote = true ∨ s.rxMatch c.val f = none ∨ f.dlc ≠ 8))) ∧
    (∃ (c : Fin 2) (f : CanRx) (i : ℕ) (s : State), (((s.can c.val).state.sending = true ∨ (s.can c.val).state = .restricted)) ∧ f.exception_ = false ∧ f.remote = false ∧ s.rxMatch c.val f = some i ∧ f.dlc = 8) ∧
    (∃ (t : ℕ) (s : State), ((∀ i, i < s.cfg.msgs.length → (s.begin t).equipOk i (s.cfg.msgs.getD i {}) = false))) ∧
    (∃ (t : ℕ) (c : Fin 2) (s : State), s.publishes = true ∧ (s.begin t).turnOpen (0x24 + c.val) (sec 1) 0 = true) ∧
    (∃ (s : State), (s.pw.state ≠ .enteringHib ∨ s.cn.sleepAt = none)) ∧
    (∃ (t : ℕ) (d : ℕ) (s : State), s.pw.state = .enteringHib ∧ s.cn.sleepAt = some d ∧ d + ms 20 ≤ max s.now t) :=
  ⟨⟨0, 0, 0, { fn := 1, chans := 1 }, (fun s : State => { s with cn.chans := s.cn.chans.upd 0 {} fun x => { x with state := .active } }) ({ on with cfg.msgs := [{ fn := 1, chans := 1 }] }), by decide, by decide, by decide, by decide, by decide, by decide, by decide, by decide⟩,
   ⟨0, 0, on, by decide⟩,
   ⟨0, 0, { fn := 1, chans := 1 }, on.canNow 0 0, (fun s : State => { s with cn.chans := s.cn.chans.upd 0 {} fun x => { x with state := .active, tx := x.tx.upd 0 {} fun o => { o with pending := true } } }) ({ on with cfg.msgs := [{ fn := 1, chans := 1 }] }), by decide, by decide, by decide, by decide, by decide⟩,
   ⟨0, 0, { fn := 1, chans := 1 }, on.canNow 0 0, (fun s : State => { s with cn.chans := s.cn.chans.upd 0 {} fun x => { x with state := .active, tx := x.tx.upd 0 {} fun o => { o with pending := true } } }) ({ on with cfg.msgs := [{ fn := 1, chans := 1 }] }), by decide, by decide, by decide, by decide, by decide⟩,
   ⟨0, (fun s : State => { s with cn.chans := s.cn.chans.upd 0 {} fun x => { x with state := .active } }) (on), by decide⟩,
   ⟨0, ({ on with cfg.twin.mode := 0 }).onCanChan ((0 : Fin 2).val) fun x => { x with state := .busOff }, by decide, by decide⟩,
   ⟨0, (on).onCanChan ((0 : Fin 2).val) fun x => { x with state := .stopped }, by decide⟩,
   ⟨0, {}, (fun s : State => { s with cn.chans := s.cn.chans.upd 0 {} fun x => { x with state := .active } }) (on), by decide, by decide⟩,
   ⟨0, { ident := 7, dlc := 8, data := [1,2,3,4,5,6,7,8] }, 0, (fun s : State => { s with cn.chans := s.cn.chans.upd 0 {} fun x => { x with state := .active } }) ({ on with cfg.msgs := [{ fn := 3, chans := 1, ident := 7 }] }), by decide, by decide, by decide, by decide, by decide⟩,
   ⟨0, on, by decide⟩,
   ⟨0, 0, { on with pw.state := .watch }, by decide, by decide⟩,
   ⟨on, by decide⟩,
   ⟨(0 + ms 20), 0, { on with pw.state := .enteringHib, cn.sleepAt := some 0 }, by decide, by decide, by decide⟩⟩

theorem test_DispatchCycle_met :
    (∃ (h : DHdr), hdrGood h = false) ∧
    (∃ (h : DHdr) (s : State), hdrGood h = true ∧ s.pw.state ≠ .run ∧ s.pw.state ≠ .watch ∧ s.pw.state ≠ .enteringHib) ∧
    (∃ (h : DHdr) (m : McIn) (s : State), hdrGood h = true ∧ ((s.pw.state = .run ∨ s.pw.state = .watch ∨ s.pw.state = .enteringHib)) ∧ m.cycle % 2 = 1) ∧
    (∃ (h : DHdr) (m : McIn) (s : State), hdrGood h = true ∧ ((s.pw.state = .run ∨ s.pw.state = .watch ∨ s.pw.state = .enteringHib)) ∧ m.cycle % 2 = 0 ∧ h.epoch < s.seenEpoch) ∧
    (∃ (t : ℕ) (h : DHdr) (m : McIn) (s : State), hdrGood h = true ∧ ((s.pw.state = .run ∨ s.pw.state = .watch ∨ s.pw.state = .enteringHib)) ∧ m.cycle % 2 = 0 ∧ s.seenEpoch ≤ h.epoch ∧ (s.begin t).sweepStart m.cycle + 2000000 < (s.begin t).th.reading) ∧
    (∃ (t : ℕ) (h : DHdr) (m : McIn) (s : State), hdrGood h = true ∧ ((s.pw.state = .run ∨ s.pw.state = .watch ∨ s.pw.state = .enteringHib)) ∧ m.cycle % 2 = 0 ∧ s.seenEpoch ≤ h.epoch ∧ (s.begin t).th.reading ≤ (s.begin t).sweepStart m.cycle + 2000000) ∧
    (∃ (s : State), (s.leads = false ∨ s.di.masterLost = true ∨ s.di.heardAt = none)) ∧
    (∃ (t : ℕ) (d : ℕ) (s : State), s.leads = true ∧ s.di.masterLost = false ∧ s.di.heardAt = some d ∧ d + ms s.cfg.alloc.holdMs ≤ max s.now t) ∧
    (∃ (t : ℕ) (s : State), (s.di.newPhase = none ∨ s.leads = false ∨ (s.begin t).sweepNo % 1000 ≠ 0)) ∧
    (∃ (t : ℕ) (p : ℕ) (r : ℕ) (s : State), s.di.newPhase = some (p, r) ∧ s.leads = true ∧ (s.begin t).sweepNo % 1000 = 0 ∧ r + ms 20 ≤ max s.now t) ∧
    (∃ (t : ℕ) (s : State), (s.isMaster = false ∨ s.ma.cycle = some (s.begin t).nextCycle ∨ (s.begin t).sinceEpoch % cycleNs < 1600000)) ∧
    (∃ (t : ℕ) (s : State), s.isMaster = true ∧ 1600000 ≤ (s.begin t).sinceEpoch % cycleNs ∧ s.ma.cycle ≠ some (s.begin t).nextCycle ∧ s.ma.handover = none) ∧
    (∃ (t : ℕ) (s : State), (s.isMaster = false ∨ s.ma.cycle ≠ some (s.begin t).thisCycle ∨ s.ma.sent = some (s.begin t).thisCycle)) ∧
    (∃ (t : ℕ) (s : State), s.isMaster = true ∧ s.ma.cycle = some (s.begin t).thisCycle ∧ s.ma.sent ≠ some (s.begin t).thisCycle ∧ s.ma.handover = none) ∧
    (∃ (s : State), (s.isMaster = false ∨ s.ma.lifeUntil = none)) ∧
    (∃ (t : ℕ) (d : ℕ) (s : State), s.isMaster = true ∧ s.ma.lifeUntil = some d ∧ d ≤ max s.now t ∧ s.ma.spRequests = []) ∧
    (∃ (s : State), s.netOn = false) ∧
    (∃ (h : DHdr) (x : StringStat) (s : State), s.netOn = true ∧ (hdrGood h && statusGood x) = false) ∧
    (∃ (h : DHdr) (x : StringStat) (s : State), s.netOn = true ∧ hdrGood h = true ∧ statusGood x = true) ∧
    (∃ (s : State), (s.netOn = false ∨ s.ma.holds = false)) ∧
    (∃ (i : ℕ) (s : State), (s.ma.streams.get i {}).decim = 0) ∧
    (∃ (t : ℕ) (i : ℕ) (s : State), 0 < (s.ma.streams.get i {}).decim ∧ (s.ma.streams.get i {}).lastDiscard + sec 10 ≤ max s.now t) ∧
    (∃ (h : DHdr) (s : State), s.netOn = true ∧ s.ma.holds = true ∧ (s.tw.role = .leader ∨ s.tw.role = .follower) ∧ hdrGood h = true) :=
  ⟨⟨{ ok := false }, by decide⟩,
   ⟨{}, { on with pw.state := .starting }, by decide, by decide, by decide, by decide⟩,
   ⟨{}, { cycle := 1 }, { on with pw.state := .run }, by decide, by decide, by decide⟩,
   ⟨{ epoch := 3 }, {}, { on with pw.state := .run, ma.epoch := 5 }, by decide, by decide, by decide, by decide⟩,
   ⟨0, { epoch := ((fun s : State => atNs s 50000000) ({ on with pw.state := .run }) : State).seenEpoch }, {}, (fun s : State => atNs s 50000000) ({ on with pw.state := .run }), by decide, by decide, by decide, by decide, by decide⟩,
   ⟨0, { epoch := ({ on with pw.state := .run } : State).seenEpoch }, {}, { on with pw.state := .run }, by decide, by decide, by decide, by decide, by decide⟩,
   ⟨{ on with tw.role := .follower }, by decide⟩,
   ⟨(0 + ms ({ on with tw.role := .leader, di.masterLost := false, di.heardAt := some 0 } : State).cfg.alloc.holdMs), 0, { on with tw.role := .leader, di.masterLost := false, di.heardAt := some 0 }, by decide, by decide, by decide, by decide⟩,
   ⟨0, { on with di.newPhase := none }, by decide⟩,
   ⟨(0 + ms 20), 0, 0, (fun s : State => atNs s 4980000000) ((fun s : State => atNs s 5000000000) ({ on with di.newPhase := some (0, 0), tw.role := .leader })), by decide, by decide, by decide, by decide⟩,
   ⟨0, { on with ma.holds := false }, by decide⟩,
   ⟨0, (fun s : State => atNs s 5001700000) ({ on with ma.holds := true, ma.handover := none, ma.cycle := none }), by decide, by decide, by decide, by decide⟩,
   ⟨0, { on with ma.holds := false }, by decide⟩,
   ⟨0, (fun s : State => { s with ma.cycle := some s.thisCycle }) ((fun s : State => atNs s 5000100000) ({ on with ma.holds := true })), by decide, by decide, by decide, by decide⟩,
   ⟨{ on with ma.holds := false }, by decide⟩,
   ⟨(0), 0, { on with ma.holds := true, ma.lifeUntil := some 0, ma.spRequests := [] }, by decide, by decide, by decide, by decide⟩,
   ⟨{ on with pw.portsUp := false }, by decide⟩,
   ⟨{ ok := false }, {}, { on with pw.portsUp := true }, by decide, by decide⟩,
   ⟨{}, {}, { on with pw.portsUp := true }, by decide, by decide, by decide⟩,
   ⟨{ on with pw.portsUp := false }, by decide⟩,
   ⟨0, (fun s : State => { s with ma.streams := s.ma.streams.upd (0) {} fun x => { x with decim := 0 } }) (on), by decide⟩,
   ⟨((((fun s : State => { s with ma.streams := s.ma.streams.upd (0) {} fun x => { x with decim := (0) + 1 } }) (on) : State).ma.streams.get 0 {}).lastDiscard + sec 10), 0, (fun s : State => { s with ma.streams := s.ma.streams.upd (0) {} fun x => { x with decim := (0) + 1 } }) (on), by decide, by decide⟩,
   ⟨{}, { on with ma := { on.ma with holds := true } }, by decide, by decide, by decide, by decide⟩⟩

theorem test_MasterRequests_met :
    (∃ (s : State), s.isMaster = false) ∧
    (∃ (t : ℕ) (q : ReqIn) (c : ℕ) (k : CfgClient) (s : State), s.isMaster = true ∧ q.ok = true ∧ q.client = some c ∧ s.cfg.clients[c]? = some k ∧ 1 ≤ bucketNow k.rate k.depth (s.client c).tokens (s.client c).filledAt (max s.now t)) ∧
    (∃ (t : ℕ) (q : ReqIn) (cmd : Instr), ((cmd = (.plantSetpointRequest t q) ∨ cmd = (.connectRequest t q) ∨ cmd = (.disconnectRequest t q) ∨ cmd = (.joinBranchRequest t q) ∨ cmd = (.leaveBranchRequest t q) ∨ cmd = (.excludeString t q) ∨ cmd = (.includeString t q)))) ∧
    (∃ (t : ℕ) (q : ReqIn) (c : ℕ) (k : CfgClient) (s : State) (cmd : Instr) (right : ℕ), (s.begin t).admits q c k ∧ ((cmd = (.plantSetpointRequest t q) ∧ right = 0 ∨ cmd = (.connectRequest t q) ∧ right = 1 ∨ cmd = (.disconnectRequest t q) ∧ right = 1 ∨ cmd = (.joinBranchRequest t q) ∧ right = 1 ∨ cmd = (.leaveBranchRequest t q) ∧ right = 1 ∨ cmd = (.excludeString t q) ∧ right = 2 ∨ cmd = (.includeString t q) ∧ right = 2)) ∧ k.rights.testBit right = false) ∧
    (∃ (t : ℕ) (q : ReqIn) (c : ℕ) (k : CfgClient) (s : State), (s.begin t).admits q c k ∧ k.rights.testBit 0 = true ∧ q.string = 255 ∧ q.branch = 255 ∧ q.horizon ≤ 4) ∧
    (∃ (t : ℕ) (q : ReqIn) (c : ℕ) (k : CfgClient) (s : State), (s.begin t).admits q c k ∧ k.rights.testBit 0 = true ∧ ((q.string ≠ 255 ∨ q.branch ≠ 255 ∨ 4 < q.horizon))) ∧
    (∃ (t : ℕ) (q : ReqIn) (c : ℕ) (k : CfgClient) (s : State) (cmd : Instr) (kind : ℕ), ((cmd = (.connectRequest t q) ∧ kind = 2 ∨ cmd = (.disconnectRequest t q) ∧ kind = 3 ∨ cmd = (.joinBranchRequest t q) ∧ kind = 4 ∨ cmd = (.leaveBranchRequest t q) ∧ kind = 5)) ∧ (s.begin t).admits q c k ∧ k.rights.testBit 1 = true) ∧
    (∃ (t : ℕ) (q : ReqIn) (c : ℕ) (k : CfgClient) (s : State) (cmd : Instr) (inc : Bool), ((cmd = (.excludeString t q) ∧ inc = false ∨ cmd = (.includeString t q) ∧ inc = true)) ∧ (s.begin t).admits q c k ∧ k.rights.testBit 2 = true ∧ q.string ≤ 127 ∧ q.branch = 255) ∧
    (∃ (i : ℕ) (s : State), s.opOf i = none) ∧
    (∃ (t : ℕ) (i : ℕ) (o : Operation) (s : State), s.opOf i = some o ∧ s.isMaster = true ∧ o.sentAt + ms 20 ≤ max s.now t) ∧
    (∃ (t : ℕ) (i : ℕ) (o : Operation) (s : State), s.opOf i = some o ∧ s.isMaster = true ∧ o.receivedAt + ms 450 ≤ max s.now t) ∧
    (∃ (s : State), s.netOn = false) ∧
    (∃ (h : DHdr) (st : ℕ) (s : State), s.netOn = true ∧ ((hdrGood h = false ∨ 8 < st))) ∧
    (∃ (h : DHdr) (i : ℕ) (st : ℕ) (s : State), s.netOn = true ∧ hdrGood h = true ∧ st ≤ 8 ∧ s.opOf i = none) ∧
    (∃ (h : DHdr) (i : ℕ) (st : ℕ) (w : ℕ) (o : Operation) (s : State), s.netOn = true ∧ hdrGood h = true ∧ st ≤ 8 ∧ s.opOf i = some o ∧ s.isMaster = true ∧ s.ma.epoch ≤ h.epoch ∧ o.string = h.sender ∧ w < two32) ∧
    (∃ (h : DHdr) (i : ℕ) (st : ℕ) (o : Operation) (s : State), s.netOn = true ∧ hdrGood h = true ∧ st ≤ 8 ∧ s.opOf i = some o ∧ h.epoch < s.ma.epoch) :=
  ⟨⟨{ on with ma.holds := false }, by decide⟩,
   ⟨0, { client := some 0 }, 0, { rate := 1, depth := 1 }, { on with ma.holds := true, cfg.clients := [{ rate := 1, depth := 1 }] }, by decide, by decide, by decide, by decide, by decide⟩,
   ⟨0, {}, (.plantSetpointRequest 0 ({} : ReqIn)), by decide⟩,
   ⟨0, { ok := true, client := some 0, session := 1, seq := 1 }, 0, { rate := 1, depth := 1 }, ({ on with ma.holds := true, cfg.clients := [({ rate := 1, depth := 1 } : CfgClient)] }).onClient (0) fun x => { x with session := 1, tokens := 1 }, (.plantSetpointRequest 0 ({ ok := true, client := some 0, session := 1, seq := 1 } : ReqIn)), 0, ⟨by decide, by decide, rfl, rfl, by decide, by decide, by decide, by decide⟩, by decide, by decide⟩,
   ⟨0, { ok := true, client := some 0, session := 1, seq := 1, string := 255, branch := 255, horizon := 4 }, 0, { rate := 1, depth := 1, rights := 1 }, ({ on with ma.holds := true, cfg.clients := [({ rate := 1, depth := 1, rights := 1 } : CfgClient)] }).onClient (0) fun x => { x with session := 1, tokens := 1 }, ⟨by decide, by decide, rfl, rfl, by decide, by decide, by decide, by decide⟩, by decide, by decide, by decide, by decide⟩,
   ⟨0, { ok := true, client := some 0, session := 1, seq := 1, string := 3 }, 0, { rate := 1, depth := 1, rights := 1 }, ({ on with ma.holds := true, cfg.clients := [({ rate := 1, depth := 1, rights := 1 } : CfgClient)] }).onClient (0) fun x => { x with session := 1, tokens := 1 }, ⟨by decide, by decide, rfl, rfl, by decide, by decide, by decide, by decide⟩, by decide, by decide⟩,
   ⟨0, { ok := true, client := some 0, session := 1, seq := 1, branch := 255, string := 17 }, 0, { rate := 1, depth := 1, rights := 2 }, ({ on with ma.holds := true, cfg.clients := [({ rate := 1, depth := 1, rights := 2 } : CfgClient)] }).onClient (0) fun x => { x with session := 1, tokens := 1 }, .connectRequest 0 ({ ok := true, client := some 0, session := 1, seq := 1, branch := 255, string := 17 } : ReqIn), 2, by decide, ⟨by decide, by decide, rfl, rfl, by decide, by decide, by decide, by decide⟩, by decide⟩,
   ⟨0, { ok := true, client := some 0, session := 1, seq := 1, branch := 255, string := 17 }, 0, { rate := 1, depth := 1, rights := 4 }, ({ on with ma.holds := true, cfg.clients := [({ rate := 1, depth := 1, rights := 4 } : CfgClient)] }).onClient (0) fun x => { x with session := 1, tokens := 1 }, .excludeString 0 ({ ok := true, client := some 0, session := 1, seq := 1, branch := 255, string := 17 } : ReqIn), false, by decide, ⟨by decide, by decide, rfl, rfl, by decide, by decide, by decide, by decide⟩, by decide, by decide, by decide⟩,
   ⟨0, on, by decide⟩,
   ⟨500000000, 0, { ident := 0, string := 0 }, { on with ma.holds := true, ma.ops := [{ ident := 0, string := 0 }] }, by decide, by decide, by decide⟩,
   ⟨500000000, 0, { ident := 0, string := 0 }, { on with ma.holds := true, ma.ops := [{ ident := 0, string := 0 }] }, by decide, by decide, by decide⟩,
   ⟨{ on with pw.portsUp := false }, by decide⟩,
   ⟨{ ok := false }, 0, { on with pw.portsUp := true }, by decide, by decide⟩,
   ⟨{}, 0, 8, { on with pw.portsUp := true }, by decide, by decide, by decide, by decide⟩,
   ⟨{}, 0, 8, 0, { ident := 0, string := 0 }, { on with pw.portsUp := true, ma.holds := true, ma.epoch := ({} : DHdr).epoch, ma.ops := [{ ident := 0, string := 0 }] }, by decide, by decide, by decide, by decide, by decide, by decide, by decide, by decide⟩,
   ⟨{}, 0, 0, { ident := 0, string := 0 }, { on with ma.ops := [{ ident := 0, string := 0 }], ma.epoch := 5 }, by decide, by decide, by decide, by decide, by decide⟩⟩

theorem test_MasterElection_met :
    (∃ (t : ℕ) (s : State), (s.isCandidate = false ∨ s.ma.candidate = false ∨ s.ma.holds = true ∨ s.ma.claiming = true ∨ max s.now t < s.ma.l0 + ms (s.cfg.elect.timeout + s.masterRank.getD 0 * s.cfg.elect.stagger))) ∧
    (∃ (t : ℕ) (s : State), s.isCandidate = true ∧ s.ma.candidate = true ∧ s.ma.holds = false ∧ s.ma.claiming = false ∧ s.ma.l0 + ms (s.cfg.elect.timeout + s.masterRank.getD 0 * s.cfg.elect.stagger) ≤ max s.now t) ∧
    (∃ (t : ℕ) (s : State), (s.ma.claiming = false ∨ s.isCandidate = false ∨ max s.now t < s.ma.claimSent + ms 2)) ∧
    (∃ (t : ℕ) (s : State), s.ma.claiming = true ∧ s.isCandidate = true ∧ s.ma.claimSent + ms 2 ≤ max s.now t) ∧
    (∃ (s : State), s.netOn = false) ∧
    (∃ (h : DHdr) (s : State), s.netOn = true ∧ hdrGood h = false) ∧
    (∃ (h : DHdr) (a : Bool) (s : State), s.netOn = true ∧ hdrGood h = true ∧ ((h.sender = s.cfg.string.index ∨ a = true))) ∧
    (∃ (h : DHdr) (e : ℕ) (s : State), s.netOn = true ∧ hdrGood h = true ∧ h.sender ≠ s.cfg.string.index ∧ s.isMaster = true ∧ s.ma.epoch < e) ∧
    (∃ (h : DHdr) (e : ℕ) (r : ℕ) (s : State), s.netOn = true ∧ hdrGood h = true ∧ h.sender ≠ s.cfg.string.index ∧ s.ma.holds = false ∧ s.isCandidate = true ∧ s.ma.candidate = true ∧ s.ma.claiming = true ∧ ((s.ma.claimEpoch < e ∨ s.ma.claimEpoch = e ∧ r < s.masterRank.getD 256))) ∧
    (∃ (h : DHdr) (e : ℕ) (r : ℕ) (s : State), s.netOn = true ∧ hdrGood h = true ∧ s.ma.holds = false ∧ s.isCandidate = true ∧ s.ma.candidate = true ∧ s.ma.claiming = true ∧ ((e < s.ma.claimEpoch ∨ s.ma.claimEpoch = e ∧ s.masterRank.getD 256 ≤ r))) ∧
    (∃ (t : ℕ) (s : State), (s.ma.claiming = false ∨ s.isCandidate = false ∨ max s.now t < s.ma.claimAt + ms s.cfg.elect.claim)) ∧
    (∃ (t : ℕ) (s : State), s.ma.claiming = true ∧ s.isCandidate = true ∧ s.ma.claimAt + ms s.cfg.elect.claim ≤ max s.now t) ∧
    (∃ (m : Maint) (s : State), s.takes m ∧ s.leads = false) ∧
    (∃ (m : Maint) (i : ℕ) (s : State), s.takes m ∧ s.leads = true ∧ 127 < i) ∧
    (∃ (m : Maint) (i : ℕ) (s : State), s.takes m ∧ s.leads = true ∧ i ≤ 127 ∧ ((s.isMaster = false ∨ s.candidateString i = false ∨ s.handingOver = true))) ∧
    (∃ (m : Maint) (i : ℕ) (s : State), s.takes m ∧ s.isMaster = true ∧ i ≤ 127 ∧ s.candidateString i = true ∧ s.handingOver = false) ∧
    (∃ (s : State), (s.ma.draining = none ∨ s.isMaster = false)) ∧
    (∃ (i : ℕ) (d : ℕ) (s : State), s.ma.draining = some (i, d) ∧ s.isMaster = true ∧ s.ma.ops = []) ∧
    (∃ (t : ℕ) (i : ℕ) (d : ℕ) (s : State), s.ma.draining = some (i, d) ∧ s.isMaster = true ∧ s.ma.ops ≠ [] ∧ d + ms 500 ≤ max s.now t) ∧
    (∃ (t : ℕ) (i : ℕ) (d : ℕ) (s : State), s.ma.draining = some (i, d) ∧ s.ma.ops ≠ [] ∧ max s.now t < d + ms 500) ∧
    (∃ (s : State), s.netOn = false) ∧
    (∃ (h : DHdr) (i : ℕ) (f : Handover) (s : State), s.netOn = true ∧ ((hdrGood h = false ∨ 127 < i ∨ 4 < f.horizon ∨ f.cycle % 2 = 1))) ∧
    (∃ (h : DHdr) (i : ℕ) (f : Handover) (s : State), s.netOn = true ∧ hdrGood h = true ∧ i ≤ 127 ∧ f.horizon ≤ 4 ∧ f.cycle % 2 = 0 ∧ ((h.sender = s.cfg.string.index ∨ h.epoch < s.seenEpoch))) ∧
    (∃ (h : DHdr) (i : ℕ) (f : Handover) (s : State), s.netOn = true ∧ hdrGood h = true ∧ i ≤ 127 ∧ f.horizon ≤ 4 ∧ f.cycle % 2 = 0 ∧ h.sender ≠ s.cfg.string.index ∧ s.seenEpoch ≤ h.epoch) ∧
    (∃ (s : State), s.ma.incoming = none ∧ s.ma.handover = none) ∧
    (∃ (t : ℕ) (s : State), s.ma.incoming = none ∧ s.ma.holds = true ∧ (s.begin t).handedBy (s.begin t).thisCycle = true) ∧
    (∃ (t : ℕ) (f : Handover) (s : State), s.ma.incoming = some f ∧ s.isCandidate = true ∧ notBefore ((2 * (s.begin t).thisCycle) % two32) f.cycle = true) :=
  ⟨⟨0, on, by decide⟩,
   ⟨(((fun s : State => { s with nt.ports := s.nt.ports.upd 1 {} fun x => { x with up := true } }) ({ on with th.state := .locked, ma.candidate := true, ma.holds := false, ma.claiming := false }) : State).ma.l0 + ms (((fun s : State => { s with nt.ports := s.nt.ports.upd 1 {} fun x => { x with up := true } }) ({ on with th.state := .locked, ma.candidate := true, ma.holds := false, ma.claiming := false }) : State).cfg.elect.timeout + ((fun s : State => { s with nt.ports := s.nt.ports.upd 1 {} fun x => { x with up := true } }) ({ on with th.state := .locked, ma.candidate := true, ma.holds := false, ma.claiming := false }) : State).masterRank.getD 0 * ((fun s : State => { s with nt.ports := s.nt.ports.upd 1 {} fun x => { x with up := true } }) ({ on with th.state := .locked, ma.candidate := true, ma.holds := false, ma.claiming := false }) : State).cfg.elect.stagger)), (fun s : State => { s with nt.ports := s.nt.ports.upd 1 {} fun x => { x with up := true } }) ({ on with th.state := .locked, ma.candidate := true, ma.holds := false, ma.claiming := false }), by decide, by decide, by decide, by decide, by decide⟩,
   ⟨0, { on with ma.claiming := false }, by decide⟩,
   ⟨(((fun s : State => { s with nt.ports := s.nt.ports.upd 1 {} fun x => { x with up := true } }) ({ on with ma.claiming := true, th.state := .locked }) : State).ma.claimSent + ms 2), (fun s : State => { s with nt.ports := s.nt.ports.upd 1 {} fun x => { x with up := true } }) ({ on with ma.claiming := true, th.state := .locked }), by decide, by decide, by decide⟩,
   ⟨{ on with pw.portsUp := false }, by decide⟩,
   ⟨{ ok := false }, { on with pw.portsUp := true }, by decide, by decide⟩,
   ⟨{ sender := ({ on with pw.portsUp := true } : State).cfg.string.index }, false, { on with pw.portsUp := true }, by decide, by decide, by decide⟩,
   ⟨{}, (({ on with pw.portsUp := true, ma.holds := true } : State).ma.epoch) + 1, { on with pw.portsUp := true, ma.holds := true }, by decide, by decide, by decide, by decide, by decide⟩,
   ⟨{}, (((fun s : State => { s with nt.ports := s.nt.ports.upd 1 {} fun x => { x with up := true } }) ({ on with pw.portsUp := true, ma.holds := false, th.state := .locked, ma.candidate := true, ma.claiming := true }) : State).ma.claimEpoch) + 1, 0, (fun s : State => { s with nt.ports := s.nt.ports.upd 1 {} fun x => { x with up := true } }) ({ on with pw.portsUp := true, ma.holds := false, th.state := .locked, ma.candidate := true, ma.claiming := true }), by decide, by decide, by decide, by decide, by decide, by decide, by decide, by decide⟩,
   ⟨{}, 0, 0, (fun s : State => { s with nt.ports := s.nt.ports.upd 1 {} fun x => { x with up := true } }) ({ on with pw.portsUp := true, ma.holds := false, th.state := .locked, ma.candidate := true, ma.claiming := true, ma.claimEpoch := (0) + 1 }), by decide, by decide, by decide, by decide, by decide, by decide, by decide⟩,
   ⟨0, { on with ma.claiming := false }, by decide⟩,
   ⟨(((fun s : State => { s with nt.ports := s.nt.ports.upd 1 {} fun x => { x with up := true } }) ({ on with ma.claiming := true, th.state := .locked }) : State).ma.claimAt + ms ((fun s : State => { s with nt.ports := s.nt.ports.upd 1 {} fun x => { x with up := true } }) ({ on with ma.claiming := true, th.state := .locked }) : State).cfg.elect.claim), (fun s : State => { s with nt.ports := s.nt.ports.upd 1 {} fun x => { x with up := true } }) ({ on with ma.claiming := true, th.state := .locked }), by decide, by decide, by decide⟩,
   ⟨{ key := 8, session := 1, seq := 1 }, (fun s : State => { s with cfg := s.cfg }) (({ on with pw.portsUp := true, tw.role := .follower }).onTele (8) fun x => { x with client := { session := 1 } }), ⟨by decide, ⟨_, rfl, by decide⟩, by decide, by decide, by decide, by decide⟩, by decide⟩,
   ⟨{ key := 8, session := 1, seq := 1 }, (127) + 1, (fun s : State => { s with cfg := s.cfg }) (({ on with pw.portsUp := true, tw.role := .leader }).onTele (8) fun x => { x with client := { session := 1 } }), ⟨by decide, ⟨_, rfl, by decide⟩, by decide, by decide, by decide, by decide⟩, by decide, by decide⟩,
   ⟨{ key := 8, session := 1, seq := 1 }, 127, (fun s : State => { s with cfg := s.cfg }) (({ on with pw.portsUp := true, tw.role := .leader, ma.holds := false }).onTele (8) fun x => { x with client := { session := 1 } }), ⟨by decide, ⟨_, rfl, by decide⟩, by decide, by decide, by decide, by decide⟩, by decide, by decide, by decide⟩,
   ⟨{ key := 8, session := 1, seq := 1 }, 3, (fun s : State => { s with ma.stats := s.ma.stats.upd 3 {} fun x => { x with flags := 2 } }) ((fun s : State => { s with cfg := s.cfg }) (({ on with pw.portsUp := true, ma.holds := true }).onTele (8) fun x => { x with client := { session := 1 } })), ⟨by decide, ⟨_, rfl, by decide⟩, by decide, by decide, by decide, by decide⟩, by decide, by decide, by decide, by decide⟩,
   ⟨{ on with ma.draining := none }, by decide⟩,
   ⟨0, 0, { on with ma.draining := some (0, 0), ma.holds := true, ma.ops := [] }, by decide, by decide, by decide⟩,
   ⟨(0 + ms 500), 0, 0, { on with ma.draining := some (0, 0), ma.holds := true, ma.ops := [{}] }, by decide, by decide, by decide, by decide⟩,
   ⟨(0 + ms 500) - 1, 0, 0, { on with ma.draining := some (0, 0), ma.ops := [{}] }, by decide, by decide, by decide⟩,
   ⟨{ on with pw.portsUp := false }, by decide⟩,
   ⟨{ ok := false }, 0, {}, { on with pw.portsUp := true }, by decide, by decide⟩,
   ⟨{ sender := ({ on with pw.portsUp := true } : State).cfg.string.index }, 127, { horizon := 4 }, { on with pw.portsUp := true }, by decide, by decide, by decide, by decide, by decide, by decide⟩,
   ⟨{ epoch := ({ on with pw.portsUp := true } : State).seenEpoch }, 127, { horizon := 4 }, { on with pw.portsUp := true }, by decide, by decide, by decide, by decide, by decide, by decide, by decide⟩,
   ⟨{ on with ma.incoming := none, ma.handover := none }, by decide, by decide⟩,
   ⟨0, (fun s : State => { s with ma.handover := some (3, 5) }) ((fun s : State => atNs s 5000100000) ({ on with ma.incoming := none, ma.holds := true })), by decide, by decide, by decide⟩,
   ⟨0, {}, (fun s : State => atNs s 5000100000) ((fun s : State => { s with nt.ports := s.nt.ports.upd 1 {} fun x => { x with up := true } }) ({ on with ma.incoming := some ({} : Handover), th.state := .locked })), by decide, by decide, by decide⟩⟩

theorem test_ConverterLink_met :
    (∃ (t : ℕ) (s : State), (s.commands = false ∨ s.rt.cycle = (s.begin t).converterCycle)) ∧
    (∃ (t : ℕ) (s : State), s.commands = true ∧ s.rt.cycle ≠ (s.begin t).converterCycle) ∧
    (∃ (s : State), s.pw.state ≠ .run ∧ s.pw.state ≠ .watch ∧ s.pw.state ≠ .flushing ∧ s.pw.state ≠ .enteringHib) ∧
    (∃ (t : ℕ) (s : State), ((s.pw.state = .run ∨ s.pw.state = .watch ∨ s.pw.state = .flushing ∨ s.pw.state = .enteringHib)) ∧ 60000 < (s.begin t).sinceEpoch % 100000) ∧
    (∃ (t : ℕ) (f : StatusIn) (s : State), ((s.pw.state = .run ∨ s.pw.state = .watch ∨ s.pw.state = .flushing ∨ s.pw.state = .enteringHib)) ∧ (s.begin t).sinceEpoch % 100000 ≤ 60000 ∧ ((f.ok = false ∨ f.string ≠ s.cfg.string.index ∨ f.echoSweep ≠ (s.begin t).converterCycle / 10 % two32 ∨ f.echoCycle ≠ (s.begin t).converterCycle % 10))) ∧
    (∃ (t : ℕ) (f : StatusIn) (s : State), ((s.pw.state = .run ∨ s.pw.state = .watch ∨ s.pw.state = .flushing ∨ s.pw.state = .enteringHib)) ∧ (s.begin t).sinceEpoch % 100000 ≤ 60000 ∧ f.ok = true ∧ f.string = s.cfg.string.index ∧ f.echoSweep = (s.begin t).converterCycle / 10 % two32 ∧ f.echoCycle = (s.begin t).converterCycle % 10) ∧
    (∃ (t : ℕ) (s : State), (s.commands = false ∨ s.rt.answered = true ∨ s.rt.judged = true ∨ s.rt.cycle ≠ (s.begin t).converterCycle ∨ (s.begin t).sinceEpoch % 100000 < 60000)) ∧
    (∃ (t : ℕ) (s : State), s.commands = true ∧ s.rt.answered = false ∧ s.rt.judged = false ∧ s.rt.cycle = (s.begin t).converterCycle ∧ 60000 ≤ (s.begin t).sinceEpoch % 100000) ∧
    (∃ (t : ℕ) (s : State), (s.commands = false ∨ s.di.phaseValid = false ∨ s.rt.conv.carrier = 0 ∨ (s.begin t).syncInstant = false)) ∧
    (∃ (t : ℕ) (s : State), s.commands = true ∧ s.di.phaseValid = true ∧ 0 < s.rt.conv.carrier ∧ (s.begin t).syncInstant = true) :=
  ⟨⟨0, { on with tw.role := .follower }, by decide⟩,
   ⟨0, { on with tw.role := .leader }, by decide, by decide⟩,
   ⟨{ on with pw.state := .starting }, by decide, by decide, by decide, by decide⟩,
   ⟨0, (fun s : State => atNs s 5000070000) ({ on with pw.state := .run }), by decide, by decide⟩,
   ⟨0, {}, { on with pw.state := .run }, by decide, by decide, by decide⟩,
   ⟨0, { string := ({ on with pw.state := .run } : State).cfg.string.index, echoSweep := (({ on with pw.state := .run } : State).begin 0).converterCycle / 10 % two32, echoCycle := (({ on with pw.state := .run } : State).begin 0).converterCycle % 10 }, { on with pw.state := .run }, by decide, by decide, by decide, by decide, by decide, by decide⟩,
   ⟨0, { on with tw.role := .follower }, by decide⟩,
   ⟨0, (fun s : State => { s with rt.cycle := s.converterCycle }) ((fun s : State => atNs s 5000070000) (on)), by decide, by decide, by decide, by decide, by decide⟩,
   ⟨0, { on with tw.role := .follower }, by decide⟩,
   ⟨0, { on with tw.role := .leader, di.phaseValid := true, rt.conv.carrier := (0) + 1 }, by decide, by decide, by decide, by decide⟩⟩

theorem test_PlantPorts_met :
    (∃ (p : Fin 3) (s : State), s.portUp (p.val + 1) = false) ∧
    (∃ (p : Fin 3) (s : State), s.portUp (p.val + 1) = true) ∧
    (∃ (s : State), s.netOn = false) ∧
    (∃ (t : ℕ) (s : State), s.netOn = true ∧ (s.begin t).turnOpen 0x19 (ms s.cfg.plant.prpMs) 0 = true) ∧
    (∃ (s : State), s.netOn = false) ∧
    (∃ (s : State), s.netOn = true) ∧
    (∃ (t : ℕ) (s : State), s.netOn = true ∧ bucketNow 10 10 s.nt.echoTokens s.nt.echoAt (max s.now t) < 1) ∧
    (∃ (t : ℕ) (s : State), s.netOn = true ∧ 1 ≤ bucketNow 10 10 s.nt.echoTokens s.nt.echoAt (max s.now t)) ∧
    (∃ (s : State), s.netOn = true) ∧
    (∃ (s : State), s.netOn = true) :=
  ⟨⟨0, on, by decide⟩,
   ⟨0, (fun s : State => { s with nt.ports := s.nt.ports.upd 1 {} fun x => { x with up := true } }) ((fun s : State => { s with nt.ports := s.nt.ports.upd ((0 : Fin 3).val + 1) {} fun x => { x with up := true } }) (on)), by decide⟩,
   ⟨{ on with pw.portsUp := false }, by decide⟩,
   ⟨0, { on with pw.portsUp := true }, by decide, by decide⟩,
   ⟨{ on with pw.portsUp := false }, by decide⟩,
   ⟨{ on with pw.portsUp := true }, by decide⟩,
   ⟨0, (fun s : State => { s with nt.echoAt := some 0, nt.echoTokens := 0 }) ({ on with pw.portsUp := true }), by decide, (by show bucketNow _ _ 0 (some 0) 0 < _; norm_num [bucketNow, udp])⟩,
   ⟨0, { on with pw.portsUp := true }, by decide, by decide⟩,
   ⟨{ on with pw.portsUp := true }, by decide⟩,
   ⟨{ on with pw.portsUp := true }, by decide⟩⟩

theorem test_TelemetrySessions_met :
    (∃ (m : Maint) (s : State), s.reach m.key 1 = false) ∧
    (∃ (m : Maint) (s : State), s.reach m.key 1 = true) ∧
    (∃ (m : Maint) (c : CfgTele) (s : State), s.reach m.key 1 = true ∧ s.teleCfg m.key = some c) ∧
    (∃ (m : Maint) (sels : List Selector) (c : CfgTele) (s : State), s.sessionTakes m 2 c ∧ c.rights.testBit 0 = true ∧ ((∀ x, x ∈ sels → s.selectorOk x = true)) ∧ sels.length ≤ 64) ∧
    (∃ (m : Maint) (sels : List Selector) (c : CfgTele) (i : ℕ) (s : State), s.sessionTakes m 2 c ∧ c.rights.testBit 0 = true ∧ (sels.findIdx? fun x => !s.selectorOk x) = some i) ∧
    (∃ (m : Maint) (sels : List Selector) (c : CfgTele) (s : State), s.sessionTakes m 2 c ∧ c.rights.testBit 0 = true ∧ ((∀ x, x ∈ sels → s.selectorOk x = true)) ∧ 64 < sels.length) ∧
    (∃ (m : Maint) (c : CfgTele) (s : State), s.sessionTakes m 2 c ∧ c.rights.testBit 0 = false) ∧
    (∃ (m : Maint) (s : State), ((s.reach m.key 2 = false ∨ m.session = 0 ∨ (s.tele m.key).client.session ≠ m.session ∨ m.seq ≤ (s.tele m.key).client.lastSeq))) ∧
    (∃ (m : Maint) (s : State), s.reach m.key 0 = false) ∧
    (∃ (m : Maint) (k : Bool) (ids : List ℕ) (s : State), s.reach m.key 0 = true ∧ ((k = false ∨ ids = [] ∨ 8 < ids.length))) ∧
    (∃ (t : ℕ) (m : Maint) (c : CfgTele) (s : State), s.reach m.key 0 = true ∧ m.key ≠ 8 ∧ s.teleCfg m.key = some c ∧ 1 ≤ bucketNow c.reqRate c.reqRate (s.tele m.key).client.tokens (s.tele m.key).client.filledAt (max s.now t)) ∧
    (∃ (t : ℕ) (m : Maint) (c : CfgTele) (s : State), s.reach m.key 0 = true ∧ m.key ≠ 8 ∧ s.teleCfg m.key = some c ∧ bucketNow c.reqRate c.reqRate (s.tele m.key).client.tokens (s.tele m.key).client.filledAt (max s.now t) < 1) ∧
    (∃ (t : ℕ) (m : Maint) (i : ℕ) (c : CfgTele) (s : State), s.reach m.key 0 = true ∧ m.key = 8 ∧ s.teleCfg m.key = some c ∧ (udp (readEntries 1416 [(i, s.readObject i)]).length : Rat) ≤ bucketNow c.rate c.depth (s.tele 8).octets (s.tele 8).octetsAt (max s.now t)) ∧
    (∃ (t : ℕ) (k : Fin 9) (o : ℕ) (n : ℕ) (c : Bool) (s : State), ((s.object o = none ∨ c = false ∧ (s.begin t).sweepAbs ≠ n ∨ (s.tele k.val).client.session = 0 ∨ (s.tele k.val).selectors = []))) ∧
    (∃ (t : ℕ) (k : Fin 9) (o : ℕ) (i : ℕ) (n : ℕ) (ch : Bool) (c : CfgTele) (p : ℕ) (top : ℕ) (s : State), s.pw.state ≠ .flushing ∧ s.object o = some (p, top) ∧ ((ch = true ∨ p ≠ 0 ∧ top = 0 ∧ i = 0 ∧ (s.begin t).sweepAbs = n ∧ (s.begin t).turnOpen ((k.val + 2) * 0x1000000 + o / 4096) (ms p) 0 = true)) ∧ s.teleCfg k.val = some c ∧ (s.tele k.val).client.session ≠ 0 ∧ ((s.tele k.val).selectors.any fun y => y.takes o i (if ch then 0 else n / p) (s.tele k.val).shed ch) = true ∧ s.nt.store.get (o + i) [] ≠ []) ∧
    (∃ (t : ℕ) (k : Fin 9) (s : State), ((s.tele k.val).shed = 0 ∨ max s.now t < (s.tele k.val).lastDrop + sec 10)) ∧
    (∃ (t : ℕ) (k : Fin 9) (c : CfgTele) (s : State), 0 < (s.tele k.val).shed ∧ (s.tele k.val).lastDrop + sec 10 ≤ max s.now t ∧ s.teleCfg k.val = some c) ∧
    (∃ (c : ℕ), c ∈ commandCodes) ∧
    (∃ (m : Maint) (c : ℕ) (s : State), c ∉ commandCodes ∧ s.takes m) ∧
    (∃ (m : Maint) (n : ℕ) (s : State), s.takes m ∧ ((s.leads = false ∨ 127 < n ∨ (s.node n).adm ≠ .pending))) ∧
    (∃ (m : Maint) (n : ℕ) (s : State), s.takes m ∧ s.leads = true ∧ n ≤ 127 ∧ (s.node n).adm = .pending) :=
  ⟨⟨{}, { on with pw.portsUp := false }, by decide⟩,
   ⟨{}, on, by decide⟩,
   ⟨{ key := 8, session := 5 }, { addr := 0, rights := 3, rate := (({} : Cfg).maint.rate), depth := (({} : Cfg).maint.depth), reqRate := 1000 }, on, by decide, by decide⟩,
   ⟨{ key := 8, session := 1, seq := 1 }, [], { addr := 0, rights := 3, rate := (({} : Cfg).maint.rate), depth := (({} : Cfg).maint.depth), reqRate := 1000 }, ({ on with pw.portsUp := true }).onTele (8) fun x => { x with client := { session := 1 } }, ⟨by decide, rfl, by decide, by decide, by decide⟩, by decide, by decide, by decide⟩,
   ⟨{ key := 8, session := 1, seq := 1 }, [{ base := 1 }], { addr := 0, rights := 3, rate := (({} : Cfg).maint.rate), depth := (({} : Cfg).maint.depth), reqRate := 1000 }, 0, ({ on with pw.portsUp := true }).onTele (8) fun x => { x with client := { session := 1 } }, ⟨by decide, rfl, by decide, by decide, by decide⟩, by decide, by decide⟩,
   ⟨{ key := 8, session := 1, seq := 1 }, List.replicate 65 { base := 0x01010000 }, { addr := 0, rights := 3, rate := (({} : Cfg).maint.rate), depth := (({} : Cfg).maint.depth), reqRate := 1000 }, ({ on with pw.portsUp := true }).onTele (8) fun x => { x with client := { session := 1 } }, ⟨by decide, rfl, by decide, by decide, by decide⟩, by decide, by decide, by decide⟩,
   ⟨{ session := 1, seq := 1, key := 0 }, { addr := 4, rights := 0, rate := 100000, depth := 100000, reqRate := 10 }, (fun s : State => s.onTele 0 fun x => { x with client := { session := 1 } }) (({ { on with cfg.teleClients := [{ addr := 4, rights := 0, rate := 100000, depth := 100000, reqRate := 10 }] } with pw.portsUp := true }).onTele (8) fun x => { x with client := { session := 1 } }), ⟨by decide, rfl, by decide, by decide, by decide⟩, by decide⟩,
   ⟨{}, on, by decide⟩,
   ⟨{}, { on with pw.portsUp := false }, by decide⟩,
   ⟨{}, false, [], on, by decide, by decide⟩,
   ⟨0, { key := 0 }, { addr := 4, rights := 0, rate := 100000, depth := 100000, reqRate := 10 }, { on with cfg.teleClients := [{ addr := 4, rights := 0, rate := 100000, depth := 100000, reqRate := 10 }] }, by decide, by decide, by decide, by decide⟩,
   ⟨0, { key := 0 }, { addr := 4, rights := 0, rate := 100000, depth := 100000, reqRate := 10 }, (fun s : State => s.onTele 0 fun x => { x with client := { tokens := 0, filledAt := some 0 } }) ({ on with cfg.teleClients := [{ addr := 4, rights := 0, rate := 100000, depth := 100000, reqRate := 10 }] }), by decide, by decide, rfl, (by show bucketNow _ _ 0 (some 0) 0 < _; norm_num [bucketNow, udp])⟩,
   ⟨0, { key := 8 }, 5, { addr := 0, rights := 3, rate := (({} : Cfg).maint.rate), depth := (({} : Cfg).maint.depth), reqRate := 1000 }, on, by decide, by decide, by decide, by decide⟩,
   ⟨0, 0, 0, 0, false, on, by decide⟩,
   ⟨0, 8, 0x01010000, 0, 0, true, { addr := 0, rights := 3, rate := (({} : Cfg).maint.rate), depth := (({} : Cfg).maint.depth), reqRate := 1000 }, 1, 0, (fun s : State => { s with nt.store := s.nt.store.put 0x01010000 [] [1,2,3] }) ((fun s : State => s.onTele 8 fun x => { x with client := { session := 1 }, selectors := [{ base := 0x01010000, change := true }] }) ((on).onTele ((8 : Fin 9).val) fun x => { x with client.session := 1 })), by decide, by decide, by decide, by decide, by decide, by decide, by decide⟩,
   ⟨0, 0, (on).onTele ((0 : Fin 9).val) fun x => { x with shed := 0 }, by decide⟩,
   ⟨20000000000, 8, { addr := 0, rights := 3, rate := (({} : Cfg).maint.rate), depth := (({} : Cfg).maint.depth), reqRate := 1000 }, (fun s : State => s.onTele 8 fun x => { x with shed := 2 }) ((on).onTele ((8 : Fin 9).val) fun x => { x with shed := (0) + 1 }), by decide, by decide, by decide⟩,
   ⟨0x0101, by decide⟩,
   ⟨{ key := 8, session := 1, seq := 1 }, 0, (fun s : State => { s with cfg := s.cfg }) (({ on with pw.portsUp := true }).onTele (8) fun x => { x with client := { session := 1 } }), by decide, ⟨by decide, ⟨_, rfl, by decide⟩, by decide, by decide, by decide, by decide⟩⟩,
   ⟨{ key := 8, session := 1, seq := 1 }, 0, (fun s : State => { s with cfg := s.cfg }) (({ on with pw.portsUp := true, tw.role := .follower }).onTele (8) fun x => { x with client := { session := 1 } }), ⟨by decide, ⟨_, rfl, by decide⟩, by decide, by decide, by decide, by decide⟩, by decide⟩,
   ⟨{ key := 8, session := 1, seq := 1 }, 127, (fun s : State => { s with cfg := s.cfg }) ((({ on with pw.portsUp := true, tw.role := .leader }).onTele (8) fun x => { x with client := { session := 1 } }).onNode (127) fun x => { x with adm := .pending }), ⟨by decide, ⟨_, rfl, by decide⟩, by decide, by decide, by decide, by decide⟩, by decide, by decide, by decide⟩⟩

theorem test_Goose_met :
    (∃ (d : Fin 3) (s : State), (s.gooseOn = false ∨ (s.nt.pubs.get d.val {}).nextAt = none)) ∧
    (∃ (t : ℕ) (d : Fin 3) (a : ℕ) (s : State), s.gooseOn = true ∧ (s.nt.pubs.get d.val {}).nextAt = some a ∧ a ≤ max s.now t) ∧
    (∃ (s : State), s.netOn = false) ∧
    (∃ (f : GooseIn) (s : State), s.netOn = true ∧ ((∀ k, k ∈ s.cfg.gooseSubs → k.appid ≠ f.appid))) ∧
    (∃ (f : GooseIn) (k : CfgGooseSub) (i : ℕ) (v : Bool) (s : State), s.netOn = true ∧ (s.cfg.gooseSubs.zipIdx.filter fun e => decide (e.1.appid = f.appid)) = [(k, i)] ∧ k.cbRef = f.cbRef ∧ k.datSet = f.datSet ∧ k.confRev = f.confRev ∧ f.members.length = (if k.coupling then 8 else f.count) ∧ 1 ≤ k.member ∧ f.flags = false ∧ (f.members[k.member - 1]?).join = some v ∧ (((s.nt.subs.get i {}).stNum = none ∨ ∃ n, (s.nt.subs.get i {}).stNum = some n ∧ notBefore f.stNum n = true))) ∧
    (∃ (f : GooseIn) (k : CfgGooseSub) (i : ℕ) (s : State), s.netOn = true ∧ (s.cfg.gooseSubs.zipIdx.filter fun e => decide (e.1.appid = f.appid)) = [(k, i)] ∧ ((k.cbRef ≠ f.cbRef ∨ k.datSet ≠ f.datSet ∨ k.confRev ≠ f.confRev ∨ f.flags = true ∨ k.member = 0 ∨ (f.members[k.member - 1]?).join = none ∨ ∃ n, (s.nt.subs.get i {}).stNum = some n ∧ notBefore f.stNum n = false))) ∧
    (∃ (i : Fin 16) (s : State), (s.netOn = false ∨ s.cfg.gooseSubs[i.val]? = none ∨ (s.nt.subs.get i.val {}).silent = true)) ∧
    (∃ (t : ℕ) (i : Fin 16) (k : CfgGooseSub) (s : State), s.netOn = true ∧ s.cfg.gooseSubs[i.val]? = some k ∧ (s.nt.subs.get i.val {}).silent = false ∧ (((s.nt.subs.get i.val {}).stNum = none ∨ ∃ d, (s.nt.subs.get i.val {}).until_ = some d ∧ d ≤ max s.now t))) :=
  ⟨⟨0, { on with tw.role := .follower }, by decide⟩,
   ⟨(0), 0, 0, (fun s : State => { s with nt.pubs := s.nt.pubs.upd ((0 : Fin 3).val) {} fun x => { x with nextAt := some 0 } }) ({ on with tw.role := .leader }), by decide, by decide, by decide⟩,
   ⟨{ on with pw.portsUp := false }, by decide⟩,
   ⟨{}, { on with pw.portsUp := true }, by decide, by decide⟩,
   ⟨{ appid := 7, count := 1, members := [some true], stNum := 3 }, { appid := 7, member := 1 }, 0, true, (fun s : State => { s with nt.subs := s.nt.subs.upd (0) {} fun x => { x with stNum := none } }) ({ on with pw.portsUp := true, cfg.gooseSubs := [{ appid := 7, member := 1 }] }), by decide, by decide, by decide, by decide, by decide, by decide, by decide, by decide, by decide, by decide⟩,
   ⟨{ appid := 7, count := 1, members := [some 5], stNum := 3, flags := true }, { appid := 7, member := 1 }, 0, { on with pw.portsUp := true, cfg.gooseSubs := [{ appid := 7, member := 1 }] }, by decide, by decide, by decide⟩,
   ⟨0, { on with pw.portsUp := false }, by decide⟩,
   ⟨0, 0, { appid := 7, member := 1 }, (fun s : State => { s with nt.subs := s.nt.subs.upd ((0 : Fin 16).val) {} fun x => { x with silent := false, stNum := none } }) ({ on with pw.portsUp := true, cfg.gooseSubs := [{ appid := 7, member := 1 }] }), by decide, by decide, by decide, by decide⟩⟩

theorem test_UpdateSession_met :
    (∃ (m : Maint) (c : CfgTele) (s : State), s.sessionTakes m 1 c ∧ s.updateServer m = none) ∧
    (∃ (t : ℕ) (m : Maint) (s : State), s.updateStarves t m 512) ∧
    (∃ (t : ℕ) (m : Maint) (n : ℕ) (s : State), s.updateStarves t m (8 + n)) ∧
    (∃ (t : ℕ) (m : Maint) (s : State), s.updateStarves t m 0) ∧
    (∃ (t : ℕ) (m : Maint) (s : State), s.updateTakes t m 512 ∧ s.up.session ≠ 0) ∧
    (∃ (t : ℕ) (m : Maint) (s : State), s.updateTakes t m 512 ∧ s.up.session = 0 ∧ m.key ≠ 8 ∧ s.pw.serviceEnable = true) ∧
    (∃ (t : ℕ) (m : Maint) (s : State), s.updateTakes t m 512 ∧ s.up.session = 0 ∧ ((m.key = 8 ∨ s.pw.serviceEnable = false)) ∧ ((s.up.trialKind ≠ 0 ∨ s.up.probation.isSome = true))) ∧
    (∃ (t : ℕ) (m : Maint) (h : ImgHeader) (s : State), s.updateTakes t m 512 ∧ s.up.session = 0 ∧ ((m.key = 8 ∨ s.pw.serviceEnable = false)) ∧ s.up.trialKind = 0 ∧ s.up.probation = none ∧ ((s.offerStage h = 1 ∨ s.offerStage h = 2 ∨ s.offerStage h ≠ 0 ∧ (if h.kind = 1 then s.up.stagedFw else s.up.stagedCfg) = none))) ∧
    (∃ (t : ℕ) (m : Maint) (h : ImgHeader) (s : State), s.updateTakes t m 512 ∧ s.up.session = 0 ∧ ((m.key = 8 ∨ s.pw.serviceEnable = false)) ∧ s.up.trialKind = 0 ∧ s.up.probation = none ∧ s.offerStage h ≠ 1 ∧ s.offerStage h ≠ 2 ∧ (if h.kind = 1 then s.up.stagedFw else s.up.stagedCfg).isSome = true) ∧
    (∃ (t : ℕ) (m : Maint) (h : ImgHeader) (s : State), s.updateTakes t m 512 ∧ s.up.session = 0 ∧ ((m.key = 8 ∨ s.pw.serviceEnable = false)) ∧ s.up.trialKind = 0 ∧ s.up.probation = none ∧ s.offerStage h = 0 ∧ (if h.kind = 1 then s.up.stagedFw else s.up.stagedCfg) = none) ∧
    (∃ (t : ℕ) (m : Maint) (n : ℕ) (s : State), s.updateTakes t m (8 + n) ∧ ((s.up.offer = none ∨ s.up.session = 0 ∨ s.up.server ≠ m.key))) ∧
    (∃ (t : ℕ) (m : Maint) (n : ℕ) (h : ImgHeader) (s : State), s.updateTakes t m (8 + n) ∧ s.up.offer = some h ∧ s.up.session ≠ 0 ∧ s.up.server = m.key) ∧
    (∃ (t : ℕ) (m : Maint) (s : State), s.updateTakes t m 0 ∧ ((s.up.offer = none ∨ s.up.session = 0 ∨ s.up.server ≠ m.key ∨ ∃ h, s.up.offer = some h ∧ s.up.offset ≠ h.length))) ∧
    (∃ (t : ℕ) (m : Maint) (h : ImgHeader) (s : State), s.updateTakes t m 0 ∧ s.up.offer = some h ∧ s.up.session ≠ 0 ∧ s.up.server = m.key ∧ s.up.offset = h.length) ∧
    (∃ (s : State), ((s.up.offer = none ∨ s.up.verifying = false ∨ s.pw.recovery = true))) ∧
    (∃ (g : Image) (o : ImgHeader) (s : State), s.up.offer = some o ∧ s.up.verifying = true ∧ s.pw.recovery = false ∧ o.kind = 1 ∧ g.header.hashOk = true) ∧
    (∃ (g : Image) (o : ImgHeader) (s : State), s.up.offer = some o ∧ s.up.verifying = true ∧ s.pw.recovery = false ∧ o.kind = 1 ∧ g.header.hashOk = false) ∧
    (∃ (o : ImgHeader) (s : State), s.up.offer = some o ∧ s.up.verifying = true ∧ s.pw.recovery = false ∧ o.kind ≠ 1) ∧
    (∃ (t : ℕ) (s : State), (s.up.session = 0 ∨ max s.now t < s.up.lastFrame + sec 60)) ∧
    (∃ (t : ℕ) (s : State), s.up.session ≠ 0 ∧ s.up.lastFrame + sec 60 ≤ max s.now t) :=
  ⟨⟨{ session := 1, seq := 1, key := 0 }, { addr := 4, rights := 3, rate := 100000, depth := 100000, reqRate := 10 }, (fun s : State => s.onTele 0 fun x => { x with client := { session := 1 } }) (({ { on with cfg.teleClients := [{ addr := 4, rights := 3, rate := 100000, depth := 100000, reqRate := 10 }] } with pw.portsUp := true }).onTele (8) fun x => { x with client := { session := 1 } }), ⟨by decide, rfl, by decide, by decide, by decide⟩, by decide⟩,
   ⟨0, { key := 8, session := 1, seq := 1 }, ({ on with pw.portsUp := true }).onTele (8) fun x => { x with client := { session := 1 }, octetsAt := some 0 }, ⟨_, _, ⟨by decide, rfl, by decide, by decide, by decide⟩, rfl, by show bucketNow _ _ 0 (some 0) 0 < _; norm_num [bucketNow, udp]⟩⟩,
   ⟨0, { key := 8, session := 1, seq := 1 }, 0, ({ on with pw.portsUp := true }).onTele (8) fun x => { x with client := { session := 1 }, octetsAt := some 0 }, ⟨_, _, ⟨by decide, rfl, by decide, by decide, by decide⟩, rfl, by show bucketNow _ _ 0 (some 0) 0 < _; norm_num [bucketNow, udp]⟩⟩,
   ⟨0, { key := 8, session := 1, seq := 1 }, ({ on with pw.portsUp := true }).onTele (8) fun x => { x with client := { session := 1 }, octetsAt := some 0 }, ⟨_, _, ⟨by decide, rfl, by decide, by decide, by decide⟩, rfl, by show bucketNow _ _ 0 (some 0) 0 < _; norm_num [bucketNow, udp]⟩⟩,
   ⟨0, { key := 8, session := 1, seq := 1 }, ({ on with pw.portsUp := true, up.session := 5 }).onTele (8) fun x => { x with client := { session := 1 } }, ⟨_, _, ⟨by decide, rfl, by decide, by decide, by decide⟩, rfl, by decide⟩, by decide⟩,
   ⟨0, { key := 0, session := 1, seq := 1 }, (fun s : State => s.onTele 0 fun x => { x with client := { session := 1 } }) ({ { on with cfg.teleClients := [{ addr := 4, rights := 3, rate := 100000, depth := 100000, reqRate := 10 }], cfg.servers := [{ addr := 4, rate := 100000, depth := 100000 }] } with pw.serviceEnable := true }), ⟨_, _, ⟨by decide, rfl, by decide, by decide, by decide⟩, rfl, by decide⟩, by decide, by decide, by decide⟩,
   ⟨0, { key := 8, session := 1, seq := 1 }, ({ on with pw.portsUp := true, up.session := 0, up.trialKind := 1 }).onTele (8) fun x => { x with client := { session := 1 } }, ⟨_, _, ⟨by decide, rfl, by decide, by decide, by decide⟩, rfl, by decide⟩, by decide, by decide, by decide⟩,
   ⟨0, { key := 8, session := 1, seq := 1 }, {}, ({ on with pw.portsUp := true, up.session := 0, up.trialKind := 0, up.probation := none }).onTele (8) fun x => { x with client := { session := 1 } }, ⟨_, _, ⟨by decide, rfl, by decide, by decide, by decide⟩, rfl, by decide⟩, by decide, by decide, by decide, by decide, by decide⟩,
   ⟨0, { key := 8, session := 1, seq := 1 }, { kind := 2 }, ({ on with pw.portsUp := true, up.session := 0, up.trialKind := 0, up.probation := none, up.stagedCfg := some {} }).onTele (8) fun x => { x with client := { session := 1 } }, ⟨_, _, ⟨by decide, rfl, by decide, by decide, by decide⟩, rfl, by decide⟩, by decide, by decide, by decide, by decide, by decide, by decide, by decide⟩,
   ⟨0, { key := 8, session := 1, seq := 1 }, { kind := 2, sigOk := true, magicOk := true, endorseOk := true, usage := 3, product := 0x2048, hwMask := 255, length := 100, version := 9, string := 255 }, ({ on with pw.portsUp := true, up.session := 0, up.trialKind := 0, up.probation := none }).onTele (8) fun x => { x with client := { session := 1 } }, ⟨_, _, ⟨by decide, rfl, by decide, by decide, by decide⟩, rfl, by decide⟩, by decide, by decide, by decide, by decide, by decide, by decide⟩,
   ⟨0, { key := 8, session := 1, seq := 1 }, 0, ({ on with pw.portsUp := true, up.offer := none }).onTele (8) fun x => { x with client := { session := 1 } }, ⟨_, _, ⟨by decide, rfl, by decide, by decide, by decide⟩, rfl, by decide⟩, by decide⟩,
   ⟨0, { session := 1, seq := 1, key := 8 }, 64, { length := 4096 }, ({ on with pw.portsUp := true, up.offer := some ({ length := 4096 } : ImgHeader), up.session := 2, up.server := 8, up.offset := 0 }).onTele (8) fun x => { x with client := { session := 1 } }, ⟨_, _, ⟨by decide, rfl, by decide, by decide, by decide⟩, rfl, by decide⟩, by decide, by decide, by decide⟩,
   ⟨0, { key := 8, session := 1, seq := 1 }, ({ on with pw.portsUp := true, up.offer := none }).onTele (8) fun x => { x with client := { session := 1 } }, ⟨_, _, ⟨by decide, rfl, by decide, by decide, by decide⟩, rfl, by decide⟩, by decide⟩,
   ⟨0, { session := 1, seq := 1, key := 8 }, {}, ({ on with pw.portsUp := true, up.offer := some ({} : ImgHeader), up.session := 2, up.server := 8, up.offset := ({} : ImgHeader).length }).onTele (8) fun x => { x with client := { session := 1 } }, ⟨_, _, ⟨by decide, rfl, by decide, by decide, by decide⟩, rfl, by decide⟩, by decide, by decide, by decide, by decide⟩,
   ⟨{ on with up.offer := none }, by decide⟩,
   ⟨{ header.hashOk := true }, { kind := 1 }, { on with up.offer := some ({ kind := 1 } : ImgHeader), up.verifying := true, pw.recovery := false }, by decide, by decide, by decide, by decide, by decide⟩,
   ⟨{ header.hashOk := false }, { kind := 1 }, { on with up.offer := some ({ kind := 1 } : ImgHeader), up.verifying := true, pw.recovery := false }, by decide, by decide, by decide, by decide, by decide⟩,
   ⟨{ kind := 2 }, { on with up.offer := some { kind := 2 }, up.verifying := true, pw.recovery := false }, by decide, by decide, by decide, by decide⟩,
   ⟨0, { on with up.session := 0 }, by decide⟩,
   ⟨70000000000, { on with up.session := 2 }, by decide, by decide⟩⟩

theorem test_UpdateActivation_met :
    (∃ (t : ℕ) (m : Maint) (s : State), s.updateStarves t m 40) ∧
    (∃ (t : ℕ) (m : Maint) (a : PTime) (d : PTime) (s : State), s.updateTakes t m 40 ∧ ((a.ok = false ∨ d.ok = false))) ∧
    (∃ (t : ℕ) (m : Maint) (a : PTime) (d : PTime) (s : State), s.updateTakes t m 40 ∧ a.ok = true ∧ d.ok = true ∧ ((s.up.schedule.isSome = true ∨ s.up.trialKind ≠ 0 ∨ s.up.probation.isSome = true))) ∧
    (∃ (t : ℕ) (m : Maint) (a : PTime) (d : PTime) (s : State), s.updateTakes t m 40 ∧ a.ok = true ∧ d.ok = true ∧ s.up.schedule = none ∧ s.up.trialKind = 0 ∧ s.up.probation = none) ∧
    (∃ (t : ℕ) (m : Maint) (k : ℕ) (s : State), s.updateTakes t m 4 ∧ k ≠ 1 ∧ k ≠ 2) ∧
    (∃ (t : ℕ) (m : Maint) (k : ℕ) (s : State), s.updateTakes t m 4 ∧ ((k = 1 ∨ k = 2)) ∧ s.precedence (!decide (m.key = 8)) = true) ∧
    (∃ (s : State), s.up.schedule = none) ∧
    (∃ (t : ℕ) (x : Schedule) (s : State), s.up.schedule = some x ∧ ((x.follow = true ∨ (s.begin t).th.reading < x.a0 ∨ x.deadline < (s.begin t).th.reading ∨ s.activatable x = false ∨ s.partnerAgrees x = false))) ∧
    (∃ (t : ℕ) (x : Schedule) (h : ImgHeader) (k : ℕ) (s : State), s.isTwin = false ∧ s.up.schedule = some x ∧ x.follow = false ∧ x.a0 ≤ (s.begin t).th.reading ∧ (s.begin t).th.reading ≤ x.deadline ∧ s.activatable x = true ∧ x.kind = 1 ∧ s.up.stagedFw = some h ∧ s.up.stagedSlot = some k ∧ s.pw.haltedIsland = false ∧ s.pw.resetHold = none ∧ s.pw.resetWait = none ∧ s.pw.resetNext = none ∧ s.mainOn = true) ∧
    (∃ (t : ℕ) (i : StartIn) (x : Schedule) (s : State), s.isTwin = false ∧ s.up.schedule = some x ∧ x.follow = false ∧ x.a0 ≤ (s.begin t).th.reading ∧ (s.begin t).th.reading ≤ x.deadline ∧ s.activatable x = true ∧ x.kind = 2 ∧ i.present = true ∧ i.readable = true ∧ i.fitted = none ∧ s.pw.haltedIsland = false ∧ s.pw.resetHold = none ∧ s.pw.resetWait = none ∧ s.pw.resetNext = none ∧ s.mainOn = true) ∧
    (∃ (t : ℕ) (x : Schedule) (s : State), s.up.schedule = some x ∧ ((x.follow = true ∨ (s.begin t).th.reading ≤ x.deadline))) ∧
    (∃ (t : ℕ) (x : Schedule) (s : State), s.up.schedule = some x ∧ x.follow = false ∧ x.deadline < (s.begin t).th.reading) ∧
    (∃ (s : State), s.up.probation = none) ∧
    (∃ (t : ℕ) (k : ℕ) (b : ℕ) (s : State), s.up.probation = some (k, b) ∧ max s.now t < b + sec 600) ∧
    (∃ (t : ℕ) (k : ℕ) (b : ℕ) (s : State), s.up.probation = some (k, b) ∧ b + sec 600 ≤ max s.now t) ∧
    (∃ (s : State), ((s.up.trialDeadline = none ∨ s.up.probation.isSome = true))) ∧
    (∃ (t : ℕ) (d : ℕ) (s : State), s.up.trialDeadline = some d ∧ d ≤ max s.now t ∧ s.up.probation = none ∧ s.pw.state = .starting) ∧
    (∃ (t : ℕ) (x : Schedule) (s : State), s.up.schedule = some x ∧ ((x.follow = false ∨ x.followAt = 0 ∨ max s.now t < x.followAt ∨ s.activatable x = false))) ∧
    (∃ (t : ℕ) (x : Schedule) (s : State), s.up.schedule = some x ∧ x.follow = true ∧ x.followAt ≠ 0 ∧ x.followAt ≤ max s.now t ∧ s.activatable x = true ∧ ((s.leads = false ∨ s.tw.partnerReady = false))) ∧
    (∃ (t : ℕ) (x : Schedule) (k : ℕ) (h : ImgHeader) (s : State), s.up.schedule = some x ∧ x.follow = true ∧ x.followAt ≠ 0 ∧ x.followAt ≤ max s.now t ∧ s.activatable x = true ∧ s.leads = true ∧ s.tw.partnerReady = true ∧ x.kind = 1 ∧ s.up.stagedSlot = some k ∧ s.up.stagedFw = some h) ∧
    (∃ (x : Schedule) (s : State), s.up.schedule = some x ∧ ((x.follow = false ∨ x.followAt = 0 ∨ x.waitRecorded = true ∨ s.tw.partnerReady = true))) ∧
    (∃ (t : ℕ) (x : Schedule) (s : State), s.up.schedule = some x ∧ x.follow = true ∧ x.followAt ≠ 0 ∧ x.followAt + sec 600 ≤ max s.now t ∧ x.waitRecorded = false ∧ s.tw.partnerReady = false) ∧
    (∃ (s : State), ((s.ra.rollSweep = none ∨ s.leads = false ∨ s.ra.rollStage ≠ 3))) ∧
    (∃ (t : ℕ) (r : ℕ) (s : State), s.ra.rollSweep = some r ∧ s.leads = true ∧ s.ra.rollStage = 3 ∧ ((∀ n, n ∈ s.rollNodes → n ∈ s.ra.rollConfirmed)) ∧ notBefore (s.begin t).sweepNo r = true) ∧
    (∃ (t : ℕ) (r : ℕ) (n : ℕ) (s : State), s.ra.rollSweep = some r ∧ s.leads = true ∧ s.ra.rollStage = 3 ∧ n ∈ s.rollNodes ∧ n ∉ s.ra.rollConfirmed ∧ s.ra.rollPostponed < 3 ∧ notBefore (s.begin t).sweepNo ((r + two32 - 160) % two32) = true) ∧
    (∃ (s : State), ((s.up.offer = none ∨ s.up.verifying = false ∨ s.pw.recovery = false))) ∧
    (∃ (h : ImgHeader) (o : ImgHeader) (s : State), s.up.offer = some o ∧ s.up.verifying = true ∧ s.pw.recovery = true ∧ h.hashOk = false) ∧
    (∃ (h : ImgHeader) (o : ImgHeader) (s : State), s.up.offer = some o ∧ s.up.verifying = true ∧ s.pw.recovery = true ∧ h.hashOk = true ∧ s.pw.state = .starting) :=
  ⟨⟨0, { key := 8, session := 1, seq := 1 }, ({ on with pw.portsUp := true }).onTele (8) fun x => { x with client := { session := 1 }, octetsAt := some 0 }, ⟨_, _, ⟨by decide, rfl, by decide, by decide, by decide⟩, rfl, by show bucketNow _ _ 0 (some 0) 0 < _; norm_num [bucketNow, udp]⟩⟩,
   ⟨0, { key := 8, session := 1, seq := 1 }, { nanos := 1000000000 }, {}, (fun s : State => s.onTele 8 fun x => { x with client := { session := 1 } }) (on), ⟨_, _, ⟨by decide, rfl, by decide, by decide, by decide⟩, rfl, by decide⟩, by decide⟩,
   ⟨0, { key := 8, session := 1, seq := 1 }, {}, {}, (fun s : State => s.onTele 8 fun x => { x with client := { session := 1 } }) ({ on with up.trialKind := 1 }), ⟨_, _, ⟨by decide, rfl, by decide, by decide, by decide⟩, rfl, by decide⟩, by decide, by decide, by decide⟩,
   ⟨0, { key := 8, session := 1, seq := 1 }, {}, {}, ({ on with pw.portsUp := true, up.schedule := none, up.trialKind := 0, up.probation := none }).onTele (8) fun x => { x with client := { session := 1 } }, ⟨_, _, ⟨by decide, rfl, by decide, by decide, by decide⟩, rfl, by decide⟩, by decide, by decide, by decide, by decide, by decide⟩,
   ⟨0, { key := 8, session := 1, seq := 1 }, 0, ({ on with pw.portsUp := true }).onTele (8) fun x => { x with client := { session := 1 } }, ⟨_, _, ⟨by decide, rfl, by decide, by decide, by decide⟩, rfl, by decide⟩, by decide, by decide⟩,
   ⟨0, { key := 8, session := 1, seq := 1 }, 1, ({ on with pw.portsUp := true, pw.serviceEnable := true }).onTele (8) fun x => { x with client := { session := 1 } }, ⟨_, _, ⟨by decide, rfl, by decide, by decide, by decide⟩, rfl, by decide⟩, by decide, by decide⟩,
   ⟨{ on with up.schedule := none }, by decide⟩,
   ⟨0, { follow := true }, { on with up.schedule := some ({ follow := true } : Schedule) }, by decide, by decide⟩,
   ⟨0, { kind := 1, a0 := 0, deadline := 1000000000 }, { kind := 1 }, 1, (fun s : State => { s with th.state := .locked, up.stagedCfg := some {}, up.stagedFw := some { kind := 1 } }) ((fun s : State => s.onCoil 1 fun x => { x with phase := .hold }) ((fun s : State => openAll s) ({ on with up.schedule := some { kind := 1, a0 := 0, deadline := 1000000000 }, up.stagedFw := some { kind := 1 }, up.stagedSlot := some 1 }))), by decide, by decide, by decide, by decide, by decide, by decide, by decide, by decide, by decide, by decide, by decide, by decide, by decide, by decide⟩,
   ⟨0, { present := true, readable := true }, { kind := 2, a0 := 0, deadline := 1000000000 }, (fun s : State => { s with th.state := .locked, up.stagedCfg := some {}, up.stagedFw := some { kind := 1 } }) ((fun s : State => s.onCoil 1 fun x => { x with phase := .hold }) ((fun s : State => openAll s) ({ on with up.schedule := some { kind := 2, a0 := 0, deadline := 1000000000 } }))), by decide, by decide, by decide, by decide, by decide, by decide, by decide, by decide, by decide, by decide, by decide, by decide, by decide, by decide, by decide⟩,
   ⟨0, { follow := true }, { on with up.schedule := some ({ follow := true } : Schedule) }, by decide, by decide⟩,
   ⟨0, { kind := 2, a0 := 0, deadline := 10 }, (fun s : State => atNs s 5000) ({ on with up.schedule := some { kind := 2, a0 := 0, deadline := 10 } }), by decide, by decide, by decide⟩,
   ⟨{ on with up.probation := none }, by decide⟩,
   ⟨(0 + sec 600) - 1, 0, 0, { on with up.probation := some (0, 0) }, by decide, by decide⟩,
   ⟨(0 + sec 600), 0, 0, { on with up.probation := some (0, 0) }, by decide, by decide⟩,
   ⟨{ on with up.trialDeadline := none }, by decide⟩,
   ⟨(0), 0, { on with up.trialDeadline := some 0, up.probation := none, pw.state := .starting }, by decide, by decide, by decide, by decide⟩,
   ⟨0, { follow := false }, { on with up.schedule := some ({ follow := false } : Schedule) }, by decide, by decide⟩,
   ⟨10, { kind := 2, follow := true, followAt := 5 }, (fun s : State => { s with th.state := .locked, up.stagedCfg := some {}, up.stagedFw := some { kind := 1 } }) ((fun s : State => openAll s) ({ on with up.schedule := some { kind := 2, follow := true, followAt := 5 }, tw.role := .follower })), by decide, by decide, by decide, by decide, by decide, by decide⟩,
   ⟨10, { kind := 1, follow := true, followAt := 5 }, 1, { kind := 1 }, (fun s : State => { s with th.state := .locked, up.stagedCfg := some {}, up.stagedFw := some { kind := 1 } }) ((fun s : State => openAll s) ({ on with up.schedule := some { kind := 1, follow := true, followAt := 5 }, tw.partnerReady := true, up.stagedFw := some { kind := 1 }, up.stagedSlot := some 1 })), by decide, by decide, by decide, by decide, by decide, by decide, by decide, by decide, by decide, by decide⟩,
   ⟨{ follow := false }, { on with up.schedule := some ({ follow := false } : Schedule) }, by decide, by decide⟩,
   ⟨700000000000, { kind := 2, follow := true, followAt := 5 }, { on with up.schedule := some { kind := 2, follow := true, followAt := 5 } }, by decide, by decide, by decide, by decide, by decide, by decide⟩,
   ⟨{ on with ra.rollSweep := none }, by decide⟩,
   ⟨0, 0, { on with ra.rollSweep := some 0, ra.rollStage := 3 }, by decide, by decide, by decide, by decide, by decide⟩,
   ⟨0, 2160, 0, (fun s : State => s.onNode 0 fun x => { x with adm := .admitted }) ((fun s : State => atNs s 2100000000) ({ on with ra.rollSweep := some 2160, tw.role := .leader, ra.rollStage := 3, ra.rollList := [0] })), by decide, by decide, by decide, by decide, by decide, by decide, by decide⟩,
   ⟨{ on with up.offer := none }, by decide⟩,
   ⟨{ hashOk := false }, {}, { on with up.offer := some ({} : ImgHeader), up.verifying := true, pw.recovery := true }, by decide, by decide, by decide, by decide⟩,
   ⟨{ hashOk := true }, {}, { on with up.offer := some ({} : ImgHeader), up.verifying := true, pw.recovery := true, pw.state := .starting }, by decide, by decide, by decide, by decide, by decide⟩⟩

theorem test_RecorderRules_met :
    (∃ (s : State) (ev : Ev) (n : ℕ) (r : EvRecord), ((s.ro.opened.find? fun r => decide (r.ev = ev ∧ r.subject = n)) = some r) ∧ r.repeats + 1 < 65535) ∧
    (∃ (s : State) (ev : Ev) (n : ℕ), ((s.ro.opened.find? fun r => decide (r.ev = ev ∧ r.subject = n)) = none) ∧ s.ro.opened.length < 64 ∧ ((ev.exempt = true ∨ 1 ≤ s.evTokens ev))) ∧
    (∃ (s : State) (ev : Ev) (n : ℕ) (r : EvRecord), s.publishes = true ∧ ((s.ro.opened.find? fun r => decide (r.ev = ev ∧ r.subject = n)) = some r) ∧ s.now < r.lastAt + sec 1) ∧
    (∃ (s : State) (ev : Ev) (n : ℕ) (r : EvRecord), s.publishes = true ∧ ((s.ro.opened.find? fun r => decide (r.ev = ev ∧ r.subject = n)) = some r) ∧ r.lastAt + sec 1 ≤ s.now) ∧
    (∃ (s : State) (er : EvRecord), s.ro.fault = false ∧ ((s.ro.windowOctets + er.length ≤ 65536 ∨ er.ev.exempt = true ∨ er.ev = .suppressionsBeforeStop))) ∧
    (∃ (s : State) (er : EvRecord), s.ro.fault = false ∧ 65536 < s.ro.windowOctets + er.length ∧ er.ev.exempt = false ∧ er.ev ≠ .suppressionsBeforeStop) ∧
    (∃ (s : State) (ev : Ev) (n : Nat), ((s.ro.opened.find? fun r => decide (r.ev = ev ∧ r.subject = n)) = none) ∧ ev.exempt = false ∧ s.evTokens ev < 1) :=
  ⟨⟨{ on with ro.opened := [{ ev := .recorderStarted, subject := 0 }] }, .recorderStarted, 0, { ev := .recorderStarted, subject := 0 }, by decide, by decide⟩,
   ⟨on, .recorderStarted, 0, by decide, by decide, by decide⟩,
   ⟨{ on with pw.state := .watch, ro.opened := [{ ev := .recorderStarted, subject := 0 }] }, .recorderStarted, 0, { ev := .recorderStarted, subject := 0 }, by decide, by decide, by decide⟩,
   ⟨(fun s : State => { s with now := 2000000000 }) ({ on with pw.state := .watch, ro.opened := [{ ev := .recorderStarted, subject := 0 }] }), .recorderStarted, 0, { ev := .recorderStarted, subject := 0 }, by decide, by decide, by decide⟩,
   ⟨{ on with ro.fault := false }, {}, by decide, by decide⟩,
   ⟨{ on with ro.windowOctets := 65537 }, {}, by decide, by decide, by decide, by decide⟩,
   ⟨{ on with ro.buckets := [(.recorderStarted, { tokens := 0, filledAt := 0 })] }, .recorderStarted, 0, by decide, by decide, (by show min _ (0 + _ * ((0 - 0 : Nat) : Rat) / 10000000000) < 1; norm_num)⟩⟩

theorem test_MonitorLimit_met :
    (∃ (s : State) (n : ℕ) (v : ℤ), (s.monCfg n).limit ≠ 0 ∧ (s.monCfg n).limit < v ∧ (s.dl.windows.get n {}).exceeded = false) ∧
    (∃ (s : State) (n : ℕ) (v : ℤ), (((s.monCfg n).limit = 0 ∨ v ≤ (s.monCfg n).limit ∨ (s.dl.windows.get n {}).exceeded = true))) ∧
    (∃ (t : ℕ) (k : Fin 15) (s : State), s.powered = true ∧ (s.begin t).atWindow (max 1 (s.monCfg (k.val + 1)).window) = true ∧ (s.begin t).turnOpen (0x30 + (k.val + 1)) (sec 1) 0 = true) :=
  ⟨⟨(fun s : State => { s with cfg.monitors := [{ number := 1, limit := 4 }] }) ((fun s : State => { s with dl.windows := s.dl.windows.upd (1) {} fun x => { x with exceeded := false } }) (on)), 1, 5, by decide, by decide, by decide⟩,
   ⟨on, 0, 0, by decide⟩,
   ⟨0, 0, { on with pw.state := .watch }, by decide, by decide, by decide⟩⟩

theorem test_RecorderCommands_met :
    (∃ (t : ℕ) (ev : Ev) (n : ℕ) (r : EvRecord) (s : State), ((s.ro.opened.find? fun r => decide (r.ev = ev ∧ r.subject = n)) = some r) ∧ r.lastAt + sec 1 ≤ max s.now t) ∧
    (∃ (t : ℕ) (s : State), (s.begin t).blockDue = false) ∧
    (∃ (t : ℕ) (s : State), (s.begin t).blockDue = true) ∧
    (∃ (t : ℕ) (s : State), (s.begin t).blockDue = true ∧ 0 < s.ro.spares) ∧
    (∃ (t : ℕ) (s : State), (s.begin t).blockDue = true ∧ s.ro.spares = 0) ∧
    (∃ (s : State), s.powered = false) ∧
    (∃ (t : ℕ) (s : State), s.powered = true ∧ (s.monCfg 13).limit = 0 ∧ (s.begin t).turnOpen 14 (sec 1) 0 = true) ∧
    (∃ (t : ℕ) (k : Fin 15) (s : State), (s.begin t).atWindow (max 1 (s.monCfg (k.val + 1)).window) = false) ∧
    (∃ (t : ℕ) (k : Fin 15) (s : State), s.powered = true ∧ (s.begin t).atWindow (max 1 (s.monCfg (k.val + 1)).window) = true ∧ (s.begin t).turnOpen (0x30 + (k.val + 1)) (sec 1) 0 = true) ∧
    (∃ (s : State), s.publishes = false) ∧
    (∃ (t : ℕ) (s : State), s.publishes = true ∧ (s.begin t).turnOpen 15 (sec 1) 0 = true ∧ s.di.lateRun = true) ∧
    (∃ (t : ℕ) (s : State), s.publishes = true ∧ (s.begin t).turnOpen 15 (sec 1) 0 = true ∧ s.di.lateRun = false) ∧
    (∃ (t : ℕ) (st : Bool) (s : State), ((s.publishes = false ∨ (s.begin t).scrubDue st = false))) ∧
    (∃ (t : ℕ) (st : Bool) (u : Bool) (s : State), s.publishes = true ∧ (s.begin t).scrubDue st = true ∧ ((u = false ∨ st = true))) ∧
    (∃ (t : ℕ) (s : State), s.isTwin = false ∧ ((s.pw.state = .watch ∨ s.pw.state = .run)) ∧ (s.begin t).scrubDue false = true ∧ s.pw.haltedIsland = false ∧ s.pw.resetHold = none ∧ s.pw.resetWait = none ∧ s.pw.resetNext = none ∧ s.mainOn = true) :=
  ⟨⟨2000000000, .recorderStarted, 0, { ev := .recorderStarted, subject := 0 }, { on with ro.opened := [{ ev := .recorderStarted, subject := 0 }] }, by decide, by decide⟩,
   ⟨0, on, by decide⟩,
   ⟨90000000000, (fun s : State => { s with ro.openBlock := { s.ro.openBlock with records := [{ ev := .recorderStarted }] }, ro.openSince := some 0 }) (on), by decide⟩,
   ⟨90000000000, (fun s : State => { s with ro.openBlock := { s.ro.openBlock with records := [{ ev := .recorderStarted }] }, ro.openSince := some 0 }) ({ on with ro.spares := (0) + 1 }), by decide, by decide⟩,
   ⟨90000000000, (fun s : State => { s with ro.openBlock := { s.ro.openBlock with records := [{ ev := .recorderStarted }] }, ro.openSince := some 0 }) ({ on with ro.spares := 0 }), by decide, by decide⟩,
   ⟨{ on with pw.state := .off }, by decide⟩,
   ⟨0, { on with pw.state := .watch }, by decide, by decide, by decide⟩,
   ⟨3, 0, (fun s : State => { s with cfg.monitors := [{ number := 1, window := 7 }] }) ((fun s : State => atNs s 5000000000) (on)), by decide⟩,
   ⟨0, 0, { on with pw.state := .watch }, by decide, by decide, by decide⟩,
   ⟨{ on with pw.state := .off }, by decide⟩,
   ⟨0, { on with pw.state := .watch, di.lateRun := true }, by decide, by decide, by decide⟩,
   ⟨0, { on with pw.state := .watch, di.lateRun := false }, by decide, by decide, by decide⟩,
   ⟨0, false, { on with pw.state := .off }, by decide⟩,
   ⟨0, false, false, { on with pw.state := .watch }, by decide, by decide, by decide⟩,
   ⟨90000000000000, (fun s : State => s.onCoil 1 fun x => { x with phase := .hold }) (on), by decide, by decide, by decide, by decide, by decide, by decide, by decide, by decide⟩⟩

theorem test_StepRunsFrontCommand_met :
    (∃ (s : State), s.pending = []) :=
  ⟨on, by decide⟩

theorem test_UpdatePrecedence_met :
    (∃ (t : ℕ) (m : Maint) (s : State), s.updateTakes t m 512 ∧ s.up.session ≠ 0) ∧
    (∃ (t : ℕ) (m : Maint) (s : State), s.updateTakes t m 512 ∧ m.key ≠ 8 ∧ s.pw.serviceEnable = true) ∧
    (∃ (t : ℕ) (m : Maint) (k : ℕ) (s : State), s.updateTakes t m 4 ∧ ((k = 1 ∨ k = 2)) ∧ (s.pw.serviceEnable = decide (m.key ≠ 8)) ∧ (s.up.staged k).isSome = true ∧ (if k = 1 then s.up.stagedFwPlant else s.up.stagedCfgPlant) = decide (m.key = 8)) ∧
    (∃ (t : ℕ) (m : Maint) (k : ℕ) (x : Schedule) (s : State), s.updateTakes t m 4 ∧ ((k = 1 ∨ k = 2)) ∧ (s.pw.serviceEnable = decide (m.key ≠ 8)) ∧ s.up.schedule = some x ∧ x.kind = k ∧ x.plantSource = decide (m.key = 8)) ∧
    (∃ (t : ℕ) (m : Maint) (k : ℕ) (s : State), s.updateTakes t m 4 ∧ ((k = 1 ∨ k = 2)) ∧ s.pw.serviceEnable = decide (m.key = 8)) :=
  ⟨⟨0, { key := 8, session := 1, seq := 1 }, ({ on with pw.portsUp := true, up.session := 5 }).onTele (8) fun x => { x with client := { session := 1 } }, ⟨_, _, ⟨by decide, rfl, by decide, by decide, by decide⟩, rfl, by decide⟩, by decide⟩,
   ⟨0, { key := 0, session := 1, seq := 1 }, (fun s : State => s.onTele 0 fun x => { x with client := { session := 1 } }) ({ { on with cfg.teleClients := [{ addr := 4, rights := 3, rate := 100000, depth := 100000, reqRate := 10 }], cfg.servers := [{ addr := 4, rate := 100000, depth := 100000 }] } with pw.serviceEnable := true }), ⟨_, _, ⟨by decide, rfl, by decide, by decide, by decide⟩, rfl, by decide⟩, by decide, by decide⟩,
   ⟨0, { key := 8, session := 1, seq := 1 }, 2, (fun s : State => s.onTele 8 fun x => { x with client := { session := 1 } }) ({ on with up.stagedCfg := some {}, up.stagedCfgPlant := true }), ⟨_, _, ⟨by decide, rfl, by decide, by decide, by decide⟩, rfl, by decide⟩, by decide, by decide, by decide, by decide⟩,
   ⟨0, { key := 8, session := 1, seq := 1 }, 1, { kind := 1, plantSource := true }, (fun s : State => s.onTele 8 fun x => { x with client := { session := 1 } }) ({ on with up.schedule := some { kind := 1, plantSource := true } }), ⟨_, _, ⟨by decide, rfl, by decide, by decide, by decide⟩, rfl, by decide⟩, by decide, by decide, by decide, by decide, by decide⟩,
   ⟨0, { key := 8, session := 1, seq := 1 }, 1, ({ on with pw.portsUp := true, pw.serviceEnable := decide (({ key := 8, session := 1, seq := 1 } : Maint).key = 8) }).onTele (8) fun x => { x with client := { session := 1 } }, ⟨_, _, ⟨by decide, rfl, by decide, by decide, by decide⟩, rfl, by decide⟩, by decide, by decide⟩⟩

theorem test_RecoveryReleases_met :
    (∃ (t : ℕ) (h : ℕ) (p : ℕ) (s : State), s.pw.state ≠ .off ∧ s.pw.state ≠ .hibernate ∧ s.pw.state ≠ .flushing ∧ s.pw.pressDead = false ∧ 100 ≤ h ∧ h < 10000 ∧ ((s.pw.buttonOpenAt = 0 ∨ s.pw.buttonOpenAt + sec 1 + ms h ≤ max s.now t)) ∧ s.pw.p0 = some p ∧ max s.now t ≤ p + sec 5 ∧ s.pw.serviceEnable = true ∧ s.pw.recoveryReleases ≠ 2) ∧
    (∃ (t : ℕ) (h : ℕ) (p : ℕ) (s : State), s.pw.state ≠ .off ∧ s.pw.state ≠ .hibernate ∧ s.pw.state ≠ .flushing ∧ s.pw.pressDead = false ∧ 100 ≤ h ∧ h < 10000 ∧ ((s.pw.buttonOpenAt = 0 ∨ s.pw.buttonOpenAt + sec 1 + ms h ≤ max s.now t)) ∧ s.pw.p0 = some p ∧ max s.now t ≤ p + sec 5 ∧ s.pw.serviceEnable = true ∧ s.pw.recoveryReleases = 2) :=
  ⟨⟨0, 100, 0, { on with pw.pressDead := false, pw.buttonOpenAt := 0, pw.p0 := some 0, pw.serviceEnable := true }, by decide, by decide, by decide, by decide, by decide, by decide, by decide, by decide, by decide, by decide, by decide⟩,
   ⟨0, 100, 0, { on with pw.pressDead := false, pw.buttonOpenAt := 0, pw.p0 := some 0, pw.serviceEnable := true, pw.recoveryReleases := 2 }, by decide, by decide, by decide, by decide, by decide, by decide, by decide, by decide, by decide, by decide, by decide⟩⟩

theorem test_SweepOrder_met :
    (∃ (a : ℕ) (d : ℕ), a < two32 ∧ 1 ≤ d ∧ d ≤ 2147483647) ∧
    (∃ (a : ℕ) (b : ℕ), a < two32 ∧ b < two32 ∧ a ≠ b ∧ (a + 2147483648) % two32 ≠ b) ∧
    (∃ (a : ℕ), a < two32) ∧
    (∃ s : State, s.epochNs ≤ s.th.reading + wrapSpan) :=
  ⟨⟨0, 2147483647, by decide, by decide, by decide⟩,
   ⟨1, 2, by decide, by decide, by decide, by decide⟩,
   ⟨0, by decide⟩,
   ⟨on, by decide⟩⟩

theorem test_FrontPanelLights_met :
    (∃ (s : State), s.pw.state = .off ∧ s.pw.feed1 = false ∧ s.pw.feed2 = false) ∧
    (∃ (s : State), s.powered = true) ∧
    (∃ (s : State), s.powered = true ∧ s.pw.recovery = true) ∧
    (∃ (s : State), s.pw.recovery = false) ∧
    (∃ (s : State), s.isTwin = false) ∧
    (∃ (s : State), s.isTwin = true ∧ s.powered = true) ∧
    (∃ (s : State), s.powered = true) ∧
    (∃ (s : State), s.powered = true) ∧
    (∃ (s : State), s.powered = true) :=
  ⟨⟨{ on with pw.state := .off, pw.feed1 := false, pw.feed2 := false }, by decide, by decide, by decide⟩,
   ⟨{ on with pw.state := .watch }, by decide⟩,
   ⟨{ on with pw.state := .watch, pw.recovery := true }, by decide, by decide⟩,
   ⟨{ on with pw.recovery := false }, by decide⟩,
   ⟨{ on with cfg.twin.mode := 0 }, by decide⟩,
   ⟨{ on with cfg.twin.mode := 1, pw.state := .watch }, by decide, by decide⟩,
   ⟨{ on with pw.state := .watch }, by decide⟩,
   ⟨{ on with pw.state := .watch }, by decide⟩,
   ⟨{ on with pw.state := .watch }, by decide⟩⟩

theorem test_EveryStepSettles_met :
    (∃ (s s' : State), (s.pending = [] → s.Settled) ∧ step s = .next s') :=
  ⟨{ on with pending := [.startWaitExpiry 0] }, _, fun h => absurd h (by simp), rfl⟩

theorem test_TablesCanonical_met :
    (∃ (tb : Table Nat) (d : Nat), tb.wf d = true) :=
  ⟨{ entries := [(3, 1), (7, 2)] }, 0, by decide⟩

theorem test_StopRequestNeverLags_met :
    (∃ (s : State) (o : Nat), (o = 1 ∨ o = 2) ∧ s.outCondition o = false ∧ s.holdDemand = false) :=
  ⟨on, 2, by decide, by decide, by decide⟩

end Sys2Proof.Tests
end

/-! The order of the sweep numbers (00 R14) and the sweep of the present instant (01 R38). -/

namespace Sys2Proof.Machine

/-- The difference of two sweep numbers modulo 2^32, by which `laterThan` orders them (00 R14). -/
def sweepGap (a b : Nat) : Nat := (a + two32 - b % two32) % two32

theorem laterThan_iff_sweepGap {a b : Nat} :
    laterThan a b = true ↔ 1 ≤ sweepGap a b ∧ sweepGap a b ≤ 2147483647 := by
  simp [laterThan, sweepGap]

theorem laterThan_eq_false_iff_sweepGap {a b : Nat} :
    laterThan a b = false ↔ sweepGap a b = 0 ∨ 2147483648 ≤ sweepGap a b := by
  rw [← Bool.not_eq_true, laterThan_iff_sweepGap]
  omega

@[simp] theorem sweepGap_self (a : Nat) : sweepGap a a = 0 := by
  simp only [sweepGap, two32]
  omega

theorem sweepGap_advance {a d : Nat} (hd : d < two32) : sweepGap ((a + d) % two32) a = d := by
  simp only [sweepGap, two32] at hd ⊢
  omega

/-- The two differences of a pair of sweeps are complements modulo 2^32: this is why the order is antisymmetric, and why it is total but for
the difference 2^31. -/
theorem sweepGap_swap {a b : Nat} (h : sweepGap a b ≠ 0) : sweepGap b a = two32 - sweepGap a b := by
  simp only [sweepGap, two32] at h ⊢
  omega

theorem sweepGap_eq_zero_iff {a b : Nat} (ha : a < two32) (hb : b < two32) : sweepGap a b = 0 ↔ a = b := by
  simp only [sweepGap, two32] at ha hb ⊢
  omega

theorem sweepGap_eq_half_iff {a b : Nat} (hb : b < two32) :
    sweepGap a b = 2147483648 ↔ (a + 2147483648) % two32 = b := by
  simp only [sweepGap, two32] at hb ⊢
  omega

@[simp] theorem laterThan_self (a : Nat) : laterThan a a = false :=
  laterThan_eq_false_iff_sweepGap.mpr (.inl (sweepGap_self a))

theorem laterThan_asymm {a b : Nat} (h : laterThan a b = true) : laterThan b a = false := by
  obtain ⟨hpos, hle⟩ := laterThan_iff_sweepGap.mp h
  have hswap : sweepGap b a = two32 - sweepGap a b := sweepGap_swap (by omega)
  refine laterThan_eq_false_iff_sweepGap.mpr (.inr ?_)
  simp only [two32] at hswap
  omega

/-- Every pair of sweeps is ordered, but for equal ones and ones 2^31 apart. -/
theorem laterThan_of_not_laterThan {a b : Nat} (hne : sweepGap a b ≠ 0) (hhalf : sweepGap a b ≠ 2147483648)
    (h : laterThan a b = false) : laterThan b a = true := by
  have hgap : 2147483648 ≤ sweepGap a b := (laterThan_eq_false_iff_sweepGap.mp h).resolve_left hne
  have hlt : sweepGap a b < two32 := Nat.mod_lt _ (by decide)
  have hswap : sweepGap b a = two32 - sweepGap a b := sweepGap_swap hne
  refine laterThan_iff_sweepGap.mpr ?_
  simp only [two32] at hlt hswap
  omega

theorem laterThan_eq_not_laterThan {a b : Nat} (ha : a < two32) (hb : b < two32) (hne : a ≠ b)
    (hhalf : (a + 2147483648) % two32 ≠ b) : laterThan a b = !laterThan b a := by
  cases hab : laterThan a b with
  | true => rw [laterThan_asymm hab, Bool.not_false]
  | false =>
    have hgap : sweepGap a b ≠ 0 := mt (sweepGap_eq_zero_iff ha hb).mp hne
    rw [laterThan_of_not_laterThan hgap (mt (sweepGap_eq_half_iff hb).mp hhalf) hab, Bool.not_true]

theorem laterThan_advance {a d : Nat} (hpos : 1 ≤ d) (hle : d ≤ 2147483647) :
    laterThan ((a + d) % two32) a = true := by
  have hd : d < two32 := lt_of_le_of_lt hle (by decide)
  rw [laterThan_iff_sweepGap, sweepGap_advance hd]
  exact ⟨hpos, hle⟩

theorem laterThan_wrapInc (a : Nat) : laterThan (wrapInc a) a = true :=
  laterThan_advance le_rfl (by decide)

theorem State.sweepNo_lt (s : State) : s.sweepNo < two32 := Nat.mod_lt _ (by decide)

theorem State.epochNs_add_sinceEpoch {s : State} (h : s.epochNs ≤ s.th.reading + wrapSpan) :
    s.epochNs + s.sinceEpoch = s.th.reading + wrapSpan := by
  rw [State.sinceEpoch, Nat.add_comm wrapSpan, Nat.add_sub_cancel' h]

/-- The present instant lies in the sweep `sweepAbs` of the lattice of 1 ms intervals from the epoch. -/
theorem State.sinceEpoch_mem_sweep (s : State) :
    s.sweepAbs * 1000000 ≤ s.sinceEpoch ∧ s.sinceEpoch < (s.sweepAbs + 1) * 1000000 :=
  ⟨Nat.div_mul_le_self _ _, Nat.lt_mul_of_div_lt (Nat.lt_succ_self _) (by decide)⟩

theorem State.reading_mem_sweep {s : State} (h : s.epochNs ≤ s.th.reading + wrapSpan) :
    s.epochNs + s.sweepAbs * 1000000 ≤ s.th.reading + wrapSpan ∧
      s.th.reading + wrapSpan < s.epochNs + (s.sweepAbs + 1) * 1000000 := by
  obtain ⟨hstart, hend⟩ := s.sinceEpoch_mem_sweep
  rw [← State.epochNs_add_sinceEpoch h]
  exact ⟨Nat.add_le_add_left hstart _, Nat.add_lt_add_left hend _⟩

/-- Settles O58: the present instant lies in its sweep of the lattice, and the order is read off the complementary differences of a pair. -/
theorem sweepOrder : Obligations.SweepOrder := by
  unfold Obligations.SweepOrder
  refine ⟨fun s => ⟨s.sweepNo_lt, State.reading_mem_sweep⟩, ?advance, ?opposite, laterThan_self, fun a _ => laterThan_wrapInc a⟩
  case advance =>
    intro a d _ hpos hle
    have hlater : laterThan ((a + d) % two32) a = true := laterThan_advance hpos hle
    exact ⟨hlater, laterThan_asymm hlater⟩
  case opposite =>
    intro a b ha hb hne hhalf
    exact laterThan_eq_not_laterThan ha hb hne hhalf

end Sys2Proof.Machine

/-! The settled state: what every command leaves behind (01 R33; 11 R288; 12 R324; 13 R341; 15 R402). -/

namespace Sys2Proof.Machine

open Sys2Proof

/-- Every command begins at its time, acts, and settles. -/
theorem exec_runs (c : Instr) (s : State) : ∃ t f, exec c s = s.run t f := by
  unfold exec
  split
  all_goals exact ⟨_, _, rfl⟩

/-! ### What the settled state reads -/

/-- The state without the recorder, the stores, the emissions and the plant network. Of the network the settled state reads the ports that are up alone. -/
def State.still (s : State) : State := { s.quiet with nt := {} }

theorem still_of_quiet {a b : State} (h : a.quiet = b.quiet) : a.still = b.still :=
  (congrArg State.still h :)

theorem portUp_of_quiet {a b : State} (h : a.quiet = b.quiet) (p : Nat) : a.portUp p = b.portUp p :=
  (congrArg (fun s : State => s.portUp p) h :)

theorem isCandidate_of_still {a b : State} (h : a.still = b.still) (hp : ∀ p, a.portUp p = b.portUp p) :
    a.isCandidate = b.isCandidate := by
  have hrank : a.masterRank = b.masterRank := (congrArg State.masterRank h :)
  have hleads : a.leads = b.leads := (congrArg State.leads h :)
  have hth : a.th = b.th := (congrArg State.th h :)
  have hpw : a.pw = b.pw := (congrArg State.pw h :)
  unfold State.isCandidate
  rw [hrank, hleads, hth, hpw, hp, hp]

/-- States that differ only in what they recorded, published and emitted are settled alike. -/
theorem State.Settled.of_still {a b : State} (h : a.still = b.still) (hp : ∀ p, a.portUp p = b.portUp p) (hb : b.Settled) :
    a.Settled where
  stop := (congrArg State.StopFollows h).mpr hb.stop
  out1 := (congrArg (·.OutputFollows 1) h).mpr hb.out1
  out2 := (congrArg (·.OutputFollows 2) h).mpr hb.out2
  candidacy := by
    have hma : a.ma = b.ma := (congrArg State.ma h :)
    show a.ma.candidate = a.isCandidate
    rw [hma, isCandidate_of_still h hp]
    exact hb.candidacy
  opening := (congrArg State.OpeningEnds h).mpr hb.opening

/-! ### What publishing leaves alone -/

@[simp] theorem gooseChange_still (s : State) (d : Nat) : (s.gooseChange d).still = s.still := by
  unfold State.gooseChange; dsimp only; split <;> rfl

@[simp] theorem goosePublish_still (s : State) : s.goosePublish.still = s.still := by
  unfold State.goosePublish; split <;> simp

@[simp] theorem gooseChange_portUp (s : State) (d p : Nat) : (s.gooseChange d).portUp p = s.portUp p := by
  unfold State.gooseChange; dsimp only; split <;> rfl

@[simp] theorem goosePublish_portUp (s : State) (p : Nat) : s.goosePublish.portUp p = s.portUp p := by
  unfold State.goosePublish; split <;> simp

@[simp] theorem pubIf_quiet (s : State) (b : Bool) (o : Nat) (f : State → List Nat) : (s.pubIf b o f).quiet = s.quiet := by
  unfold State.pubIf; split <;> simp

@[simp] theorem pubChanges_quiet (o s : State) : (o.pubChanges s).quiet = s.quiet := by
  unfold State.pubChanges; simp only [pubIf_quiet]

/-- A fold whose steps keep a figure of the state keeps it. -/
theorem foldl_keeps {α β : Type} (g : State → β) {f : State → α → State} (h : ∀ s a, g (f s a) = g s) (l : List α) (s : State) :
    g (l.foldl f s) = g s := by
  induction l generalizing s with
  | nil => rfl
  | cons a l ih => rw [List.foldl_cons, ih, h]

@[simp] theorem settlePorts_still (s : State) : s.settlePorts.still = s.still := by
  unfold State.settlePorts
  refine (foldl_keeps State.still (fun s e => foldl_keeps State.still (fun s p => ?_) _ s) _ _).trans rfl
  split <;> rfl

/-- Frames sent are counted at a port that is up, which stays up. -/
@[simp] theorem settlePorts_portUp (s : State) (p : Nat) : s.settlePorts.portUp p = s.portUp p := by
  unfold State.settlePorts
  refine (foldl_keeps (·.portUp p) (fun s e => foldl_keeps (·.portUp p) (fun s q => ?_) _ s) _ _).trans rfl
  split
  · by_cases hpq : p = q
    · subst hpq; simp [State.portUp]
    · simp [State.portUp, Table.get_upd_other _ hpq]
  · rfl

theorem publishing_settled {old s : State} (h : s.Settled) : (old.pubChanges s.goosePublish).settlePorts.Settled := by
  have hq := pubChanges_quiet old s.goosePublish
  refine .of_still ?_ (fun p => ?_) h
  · rw [settlePorts_still, still_of_quiet hq, goosePublish_still]
  · rw [settlePorts_portUp, portUp_of_quiet hq, goosePublish_portUp]

/-! ### Each part of the settled state, when it is reached -/

theorem settleHolds_openingEnds (s : State) : s.settleHolds.OpeningEnds := by
  unfold State.settleHolds State.OpeningEnds
  dsimp only
  split
  · simp
  · rename_i h; simpa using h

theorem settleCandidate_candidacyFollows (s : State) : s.settleCandidate.CandidacyFollows := by
  unfold State.settleCandidate State.CandidacyFollows
  dsimp only
  split
  · rename_i h; exact h.symm
  · rfl

theorem settleCandidate_openingEnds {s : State} (h : s.OpeningEnds) : s.settleCandidate.OpeningEnds := by
  unfold State.settleCandidate
  dsimp only
  split <;> exact h

@[simp] theorem settleShadow_quiet (s old : State) : (s.settleShadow old).quiet = s.quiet := by
  unfold State.settleShadow
  dsimp only
  split
  · split <;> simp
  · rfl

theorem settleStop_stopFollows (s : State) : s.settleStop.StopFollows := rfl

/-! ### Safe outputs -/

/-- The state but for its safe outputs and what a record writes. -/
def State.outless (s : State) : State := { s.quiet with sf := { s.sf with outputs := {} } }

theorem outless_of_quiet {a b : State} (h : a.quiet = b.quiet) : a.outless = b.outless := (congrArg State.outless h :)

@[simp] theorem interruptTest_outless (s : State) (o : Nat) : (s.interruptTest o).outless = s.outless := by
  unfold State.interruptTest
  dsimp only
  split
  · rfl
  · rw [outless_of_quiet (record_quiet ..)]; rfl

@[simp] theorem interruptTest_fault (s : State) (o : Nat) :
    ((s.interruptTest o).sf.outputs.get o {}).fault = (s.sf.outputs.get o {}).fault := by
  unfold State.interruptTest
  dsimp only
  split <;> simp

theorem interruptTest_other (s : State) {o p : Nat} (h : p ≠ o) :
    (s.interruptTest o).sf.outputs.get p {} = s.sf.outputs.get p {} := by
  unfold State.interruptTest
  dsimp only
  split <;> simp [Table.get_put_other _ h]

@[simp] theorem settleOut_outless (s : State) (o : Nat) : (s.settleOut o).outless = s.outless := by
  unfold State.settleOut
  dsimp only
  split
  · rfl
  · exact interruptTest_outless s o

theorem settleOut_other (s : State) {o p : Nat} (h : p ≠ o) : (s.settleOut o).sf.outputs.get p {} = s.sf.outputs.get p {} := by
  unfold State.settleOut
  dsimp only
  split <;> simp [Table.get_put_other _ h, interruptTest_other _ h]

/-- What drives an output, but for its own fault, does not depend on the outputs. -/
theorem outDrive_of_outless {a b : State} (h : a.outless = b.outless) (o : Nat) :
    (a.islandOn && a.outCondition o) = (b.islandOn && b.outCondition o) :=
  (congrArg (fun s : State => s.islandOn && s.outCondition o) h :)

theorem settleOut_outputFollows (s : State) (o : Nat) : (s.settleOut o).OutputFollows o := by
  unfold State.OutputFollows
  rw [outDrive_of_outless (settleOut_outless s o)]
  unfold State.settleOut
  dsimp only
  split <;> simp

theorem settleOut_outputFollows_other {s : State} {o p : Nat} (hp : p ≠ o) (h : s.OutputFollows p) : (s.settleOut o).OutputFollows p := by
  unfold State.OutputFollows
  rw [outDrive_of_outless (settleOut_outless s o), settleOut_other s hp]
  exact h

theorem settleOut_stopFollows {s : State} (o : Nat) (h : s.StopFollows) : (s.settleOut o).StopFollows :=
  (congrArg State.StopFollows (settleOut_outless s o)).mpr h

theorem settleOut_candidacyFollows {s : State} (o : Nat) (h : s.CandidacyFollows) : (s.settleOut o).CandidacyFollows :=
  (congrArg State.CandidacyFollows (settleOut_outless s o)).mpr h

theorem settleOut_openingEnds {s : State} (o : Nat) (h : s.OpeningEnds) : (s.settleOut o).OpeningEnds :=
  (congrArg State.OpeningEnds (settleOut_outless s o)).mpr h

/-! ### The state every command leaves -/

/-- Both safe outputs follow, and the rest stays settled. -/
theorem settleOuts_settled {s : State} (hs : s.StopFollows) (hc : s.CandidacyFollows) (ho : s.OpeningEnds) :
    ((s.settleOut 1).settleOut 2).Settled where
  stop := settleOut_stopFollows 2 (settleOut_stopFollows 1 hs)
  out1 := settleOut_outputFollows_other (by decide) (settleOut_outputFollows s 1)
  out2 := settleOut_outputFollows _ 2
  candidacy := settleOut_candidacyFollows 2 (settleOut_candidacyFollows 1 hc)
  opening := settleOut_openingEnds 2 (settleOut_openingEnds 1 ho)

/-- The holds, candidacy, the shadow frame and the stop-request before the outputs: all but the outputs is then settled. -/
theorem settleRest_follows (old s : State) : let u := (s.settleHolds.settleCandidate.settleShadow old).settleStop
    u.StopFollows ∧ u.CandidacyFollows ∧ u.OpeningEnds := by
  have hquiet := settleShadow_quiet s.settleHolds.settleCandidate old
  refine ⟨settleStop_stopFollows _, ?_, ?_⟩
  · exact (congrArg State.CandidacyFollows hquiet).mpr (settleCandidate_candidacyFollows _)
  · exact (congrArg State.OpeningEnds hquiet).mpr (settleCandidate_openingEnds (settleHolds_openingEnds s))

/-- Whatever a command did, settling leaves a settled state. -/
theorem settle_settled (old s : State) : (old.settle s).Settled := by
  unfold State.settle
  dsimp only
  obtain ⟨hstop, hcand, hopen⟩ := settleRest_follows old
    (if s.ro.wrapped && !old.ro.wrapped then s.record .storeWrapped 0 [] else s).settleTwin.settleCan
  exact publishing_settled (settleOuts_settled hstop hcand hopen)

/-- Every command answers, and leaves a settled state. -/
theorem answers_settled (c : Instr) (s : State) : Answers c s State.Settled := by
  obtain ⟨t, f, he⟩ := exec_runs c s
  exact answers_of he (settle_settled ..)

/-- Settles O53: a command's step ends in settling, and a step on an empty queue changes nothing. -/
theorem everyStepSettles : Obligations.EveryStepSettles := by
  intro s s' hidle hstep
  unfold step at hstep
  split at hstep
  case h_1 hempty =>
    cases hstep
    exact hidle hempty
  case h_2 c rest _ =>
    obtain ⟨u, hu, hsettled⟩ := answers_settled c { s with pending := rest }
    cases hu.symm.trans hstep
    exact hsettled

/-- Settles O54. -/
theorem resetSettled : Obligations.ResetSettled where
  stop := rfl
  out1 := rfl
  out2 := rfl
  candidacy := rfl
  opening := fun h => absurd h.1 (by decide)

/-- Settles O55: both clauses are read off the settled state. -/
theorem stopRequestNeverLags : Obligations.StopRequestNeverLags := by
  intro c s
  obtain ⟨s', he, hs⟩ := answers_settled c s
  have hstop : s'.rt.islandStop = s'.holdDemand := hs.stop
  refine ⟨s', he, hstop.trans, hstop.trans, ?_⟩
  intro o ho hcond
  have hout : s'.OutputFollows o := by
    rcases ho with rfl | rfl
    · exact hs.out1
    · exact hs.out2
  rw [State.OutputFollows, hcond] at hout
  simpa using hout

/-- Settles O52: every field of the reset state holds its default. -/
theorem resetValues : Obligations.ResetValues :=
  have hmissing : qMissing 4#8 = true := rfl
  ⟨rfl, rfl, rfl, fun _ => ⟨rfl, rfl⟩, fun _ => ⟨hmissing, hmissing⟩, fun _ => ⟨rfl, rfl⟩, rfl, rfl, rfl, rfl, rfl⟩

end Sys2Proof.Machine

namespace Sys2Proof.Table

/-! The canonical form of the tables: writing back what was read changes nothing. -/

/-- In a canonical list only an absent key reads as the default. -/
theorem key_absent_of_look {α : Type} [DecidableEq α] {d : α} {k : Nat} {l : List (Nat × α)} (h : wfList d l = true)
    (hk : look d k l = d) : ∀ e ∈ l, e.1 ≠ k := by
  induction l with
  | nil => simp
  | cons e l ih =>
    obtain ⟨k', v⟩ := e
    obtain ⟨hv, -, htail⟩ := wfList_cons.1 h
    by_cases hkk : k' = k
    · exact absurd (by simpa [look, hkk] using hk) hv
    · have hrest := ih htail (by simpa [look, hkk] using hk)
      simpa [hkk] using hrest

theorem drop_of_key_absent {α : Type} {k : Nat} {l : List (Nat × α)} (h : ∀ e ∈ l, e.1 ≠ k) : drop k l = l := by
  induction l with
  | nil => rfl
  | cons e l ih =>
    obtain ⟨k', v⟩ := e
    obtain ⟨hk, htail⟩ := List.forall_mem_cons.1 h
    simp [drop, show k' ≠ k from hk, ih htail]

theorem look_of_key_absent {α : Type} {d : α} {k : Nat} {l : List (Nat × α)} (h : ∀ e ∈ l, e.1 ≠ k) : look d k l = d := by
  rw [← drop_of_key_absent h, look_drop_same]

/-- A present key of a canonical list keeps its place when its own value is set. -/
theorem insert_look {α : Type} [DecidableEq α] {d : α} {k : Nat} {l : List (Nat × α)} (h : wfList d l = true) (hk : look d k l ≠ d) :
    insert k (look d k l) l = l := by
  induction l with
  | nil => exact absurd rfl hk
  | cons e l ih =>
    obtain ⟨k', v⟩ := e
    obtain ⟨-, -, htail⟩ := wfList_cons.1 h
    rcases lt_trichotomy k k' with hlt | rfl | hgt
    · refine absurd (look_of_key_absent (List.forall_mem_cons.2 ⟨hlt.ne', fun e he => ?_⟩)) hk
      exact (hlt.trans (keys_gt h e he)).ne'
    · simp [insert, look]
    · have hlook : look d k ((k', v) :: l) = look d k l := by simp [look, hgt.ne]
      rw [hlook] at hk ⊢
      simp [insert, hgt.not_gt, hgt.ne', ih htail hk]

theorem put_get_entries {α : Type} [DecidableEq α] {t : Table α} {d : α} (h : t.wf d = true) (k : Nat) :
    (t.put k d (t.get k d)).entries = t.entries := by
  unfold put
  split
  case isTrue hd => exact drop_of_key_absent (key_absent_of_look h hd)
  case isFalse hd => exact insert_look h hd

/-- Settles O59. -/
theorem tablesCanonical : Obligations.TablesCanonical := fun _ _ tb d v k h =>
  ⟨wf_put h k v, get_put_same tb k d v, fun _ hj => get_put_other tb hj d v, put_get_entries h k⟩

end Sys2Proof.Table

/-! The recovery ROM leaves through one reset alone, whatever the module state says (19 R476; 21 R527). -/

namespace Sys2Proof.Machine

/-! ### Resets in the recovery ROM -/

/-- The recovery ROM leaves only through its own reset, of cause 7 (21 R527). -/
theorem requestReset_in_recovery {s : State} {cause : Nat} (hstate : s.pw.state = .starting) (hrec : s.pw.recovery = true)
    (hcause : cause ≠ 7) (level : Nat) (i : StartIn) : s.requestReset level cause i = s := by
  simp [State.requestReset, hstate, hrec, hcause]

theorem coldReset_idles_in_recovery {s : State} {cause : Nat} (hstate : s.pw.state = .starting) (hrec : s.pw.recovery = true)
    (hcause : cause ≠ 7) (t : Nat) (i : StartIn) : Idles (.coldReset t cause i) s := by
  have hrun : exec (.coldReset t cause i) s = s.run t fun s => s.requestReset 3 cause i := rfl
  refine does_of hrun ?_
  rw [requestReset_in_recovery (by simpa using hstate) (by simpa using hrec) hcause, begin_bare]

/-- A module that is starting in the recovery ROM, with no reset behind it but its start. -/
def inRecovery : State := { State.reset with pw := { State.reset.pw with state := .starting, recovery := true } }

/-- Refutes O35: the clause on a cold reset in Starting does not exclude the recovery ROM, in which a reset of any cause but 7 does nothing. -/
theorem not_resets : ¬ Obligations.Resets := by
  rintro ⟨-, -, -, hcold, -⟩
  obtain ⟨s', he, hlevel, -⟩ := hcold 0 0 {} inRecovery (.inl rfl) (by decide)
  obtain ⟨s'', he', hbare⟩ := coldReset_idles_in_recovery (s := inRecovery) (cause := 0) rfl rfl (by decide) 0 {}
  cases he.symm.trans he'
  have hkept : s'.pw.resetLevel = 0 := (congrArg (fun s : State => s.pw.resetLevel) hbare :)
  exact absurd (hlevel.symm.trans hkept) (by decide)

end Sys2Proof.Machine

/-! What the radio and the sweep sets keep while a decision, an estimate or a publication runs (01 R40; 03 R80, R90, R93; 04 R114; 05 R133). -/

namespace Sys2Proof.Machine

/-! ### Reads of the radio after a write -/

theorem node_onNode_same (s : State) (n : Nat) (f : NodeCtl → NodeCtl) : (s.onNode n f).node n = f (s.node n) := Table.get_upd_same ..

theorem node_onNode_other (s : State) {n m : Nat} (h : m ≠ n) (f : NodeCtl → NodeCtl) : (s.onNode n f).node m = s.node m :=
  Table.get_upd_other _ h ..

theorem rchan_onChan_same (s : State) (c : Nat) (f : RadioChan → RadioChan) : (s.onChan c f).rchan c = f (s.rchan c) := Table.get_upd_same ..

theorem rchan_onChan_other (s : State) {c j : Nat} (h : j ≠ c) (f : RadioChan → RadioChan) : (s.onChan c f).rchan j = s.rchan j :=
  Table.get_upd_other _ h ..

theorem node_of_ra {a b : State} (h : a.ra = b.ra) (n : Nat) : a.node n = b.node n := congrArg (fun r : Radio => r.nodes.get n {}) h
theorem rchan_of_ra {a b : State} (h : a.ra = b.ra) (c : Nat) : a.rchan c = b.rchan c := congrArg (fun r : Radio => r.chans.get c {}) h

/-! ### A decision leaves the radio and the samples alone (11 R288 to R292) -/

/-- The state without what a protection decision writes: coils and sequences, functions, safe outputs, and the records of it. -/
def State.undecided (s : State) : State := { s.quiet with ct := {}, pr := {}, sf := {} }

theorem undecided_of_quiet {a b : State} (h : a.quiet = b.quiet) : a.undecided = b.undecided := (congrArg State.undecided h :)
theorem ra_of_undecided {a b : State} (h : a.undecided = b.undecided) : a.ra = b.ra := (congrArg State.ra h :)

@[simp] theorem record_undecided (s : State) (e : Ev) (n : Nat) (d : List Nat) : (s.record e n d).undecided = s.undecided :=
  undecided_of_quiet (record_quiet ..)
@[simp] theorem onCont_undecided (s : State) (f : Cont → Cont) : (s.onCont f).undecided = s.undecided := rfl
@[simp] theorem onProt_undecided (s : State) (f : Prot → Prot) : (s.onProt f).undecided = s.undecided := rfl
@[simp] theorem onSafety_undecided (s : State) (f : Safety → Safety) : (s.onSafety f).undecided = s.undecided := rfl
@[simp] theorem onCoil_undecided (s : State) (k : Nat) (f : Coil → Coil) : (s.onCoil k f).undecided = s.undecided := rfl
@[simp] theorem setBranch_undecided (s : State) (b : Nat) (x : BrState) : (s.setBranch b x).undecided = s.undecided := rfl

@[simp] theorem coilOff_undecided (s : State) (k : Nat) : (s.coilOff k).undecided = s.undecided := by
  unfold State.coilOff; split <;> rfl

@[simp] theorem coilsOff_undecided (s : State) (ks : List Nat) : (s.coilsOff ks).undecided = s.undecided :=
  foldl_keeps State.undecided coilOff_undecided ks s

@[simp] theorem dropWaiting_undecided (s : State) (ks : List Nat) : (s.dropWaiting ks).undecided = s.undecided := coilsOff_undecided ..

@[simp] theorem openString_undecided (s : State) : s.openString.undecided = s.undecided := by
  simp [State.openString]

@[simp] theorem openBranch_undecided (s : State) (b : Nat) : (s.openBranch b).undecided = s.undecided := by
  unfold State.openBranch
  dsimp only
  split
  · simp
  · split <;> simp

@[simp] theorem endSequenceOf_undecided (s : State) (b : Nat) : (s.endSequenceOf b).undecided = s.undecided := by
  unfold State.endSequenceOf
  split
  · simp
  · split <;> simp

@[simp] theorem interruptTest_undecided (s : State) (o : Nat) : (s.interruptTest o).undecided = s.undecided := by
  unfold State.interruptTest; dsimp only; split <;> simp

@[simp] theorem noteDecision_undecided (s : State) (code group subject : Nat) (value : Int) :
    (s.noteDecision code group subject value).undecided = s.undecided := by
  simp [State.noteDecision, State.interruptTests]

@[simp] theorem setFn_undecided (s : State) (f : Fn) : (s.setFn f).undecided = s.undecided := rfl

@[simp] theorem writeLatches_undecided (s : State) : s.writeLatches.undecided = s.undecided := undecided_of_quiet (writeItem_quiet ..)

/-- Whatever a decision of a function does (11 R288 to R292), it does to coils, sequences, functions, safe outputs and records. -/
@[simp] theorem decideFn_undecided (s : State) (code group subject : Nat) (value : Int) (cells : List Nat) :
    (s.decideFn code group subject value cells).undecided = s.undecided := by
  unfold State.decideFn
  split
  case h_1 => rfl
  case h_2 i _ =>
    obtain ⟨cls, action, latched, delay, clear⟩ := i
    cases action <;> simp only [apply_ite State.undecided, onProt_undecided, onCont_undecided, openString_undecided, openBranch_undecided,
      endSequenceOf_undecided, dropWaiting_undecided, writeLatches_undecided, setFn_undecided, noteDecision_undecided, ite_self]

@[simp] theorem evalFn_undecided (s : State) (code group : Nat) (p : Bool) : (s.evalFn code group p).undecided = s.undecided := by
  unfold State.evalFn
  split
  · split <;> rfl
  · split <;> rfl

@[simp] theorem evalAndDecide_undecided (s : State) (code group : Nat) (p : Bool) (subject : Nat) (value : Int) (cells : List Nat) :
    (s.evalAndDecide code group p subject value cells).undecided = s.undecided := by
  unfold State.evalAndDecide
  dsimp only
  split
  · split <;> simp [apply_ite State.undecided]
  · split <;> simp [apply_ite State.undecided]

@[simp] theorem watchFn_undecided (s : State) (code group subject : Nat) (value : Int) (cells : List Nat) :
    (s.watchFn code group subject value cells).undecided = s.undecided := by
  unfold State.watchFn
  split
  · split <;> simp
  · simp

@[simp] theorem evaluateStanding_undecided (s : State) : s.evaluateStanding.undecided = s.undecided :=
  foldl_keeps State.undecided (fun _ _ => evalFn_undecided ..) _ s

@[simp] theorem evaluateClassC_undecided (s : State) : s.evaluateClassC.undecided = s.undecided := by
  unfold State.evaluateClassC
  simp only [watchFn_undecided]
  rw [foldl_keeps State.undecided (fun s b => by simp only [watchFn_undecided]), evaluateStanding_undecided]

/-! ### What leaves the sweep sets alone (01 R40) -/

/-- The last closed set, the mark of what has closed, and the open sets. -/
def State.closing (s : State) : Sweep4 × Option Nat × List Sweep4 := (s.acq.closed, s.acq.closedTo, s.acq.sets)

theorem closing_of_undecided {a b : State} (h : a.undecided = b.undecided) : a.closing = b.closing := (congrArg State.closing h :)
theorem closing_of_quiet {a b : State} (h : a.quiet = b.quiet) : a.closing = b.closing := closing_of_undecided (undecided_of_quiet h)

@[simp] theorem record_closing (s : State) (e : Ev) (n : Nat) (d : List Nat) : (s.record e n d).closing = s.closing := closing_of_quiet (record_quiet ..)
@[simp] theorem publish_closing (s : State) (o : Nat) (b : List Nat) : (s.publish o b).closing = s.closing := closing_of_quiet (publish_quiet ..)
@[simp] theorem emit_closing (s : State) (k : EmKind) (p : Nat) (b : List Nat) : (s.emit k p b).closing = s.closing := rfl
@[simp] theorem decideFn_closing (s : State) (code group subject : Nat) (value : Int) (cells : List Nat) :
    (s.decideFn code group subject value cells).closing = s.closing := closing_of_undecided (decideFn_undecided ..)
@[simp] theorem evaluateClassC_closing (s : State) : s.evaluateClassC.closing = s.closing := closing_of_undecided (evaluateClassC_undecided s)
@[simp] theorem onRadio_closing (s : State) (f : Radio → Radio) : (s.onRadio f).closing = s.closing := rfl
@[simp] theorem onSage_closing (s : State) (f : Sage → Sage) : (s.onSage f).closing = s.closing := rfl
@[simp] theorem onCharge_closing (s : State) (f : Charge → Charge) : (s.onCharge f).closing = s.closing := rfl
@[simp] theorem onBasil_closing (s : State) (f : Basil → Basil) : (s.onBasil f).closing = s.closing := rfl
@[simp] theorem onLimits_closing (s : State) (f : Limits → Limits) : (s.onLimits f).closing = s.closing := rfl
@[simp] theorem onDill_closing (s : State) (f : Dill → Dill) : (s.onDill f).closing = s.closing := rfl
@[simp] theorem onMaster_closing (s : State) (f : Master → Master) : (s.onMaster f).closing = s.closing := rfl
@[simp] theorem onTwin_closing (s : State) (f : Twin → Twin) : (s.onTwin f).closing = s.closing := rfl
@[simp] theorem onProt_closing (s : State) (f : Prot → Prot) : (s.onProt f).closing = s.closing := rfl
@[simp] theorem onNode_closing (s : State) (n : Nat) (f : NodeCtl → NodeCtl) : (s.onNode n f).closing = s.closing := rfl
@[simp] theorem onCell_closing (s : State) (c : Nat) (f : CellEst → CellEst) : (s.onCell c f).closing = s.closing := rfl

@[simp] theorem sample_closing (s : State) (n : Nat) (v : Int) : (s.sample n v).closing = s.closing := by
  unfold State.sample; dsimp only; split <;> simp

@[simp] theorem writeIslandTable_closing (s : State) (n : Nat) : (s.writeIslandTable n).closing = s.closing := by
  unfold State.writeIslandTable; split <;> rfl

@[simp] theorem enterUncertain_closing (s : State) (n cause sweep : Nat) : (s.enterUncertain n cause sweep).closing = s.closing := by
  simp [State.enterUncertain]

@[simp] theorem silenceStep_closing (s : State) (n k : Nat) : (s.silenceStep n k).closing = s.closing := by
  unfold State.silenceStep
  split
  · simp
  · simp [apply_ite State.closing]

/-! The charge estimates of a cell (chapter 07). -/

@[simp] theorem markBlock_closing (s : State) (c : Nat) : (s.markBlock c).closing = s.closing := by
  unfold State.markBlock; split <;> simp

@[simp] theorem markChanged_closing (s : State) (c : Nat) : (s.markChanged c).closing = s.closing := by
  unfold State.markChanged; split <;> simp

@[simp] theorem closeCheck_closing (s : State) (c : Nat) : (s.closeCheck c).closing = s.closing := by
  unfold State.closeCheck
  dsimp only
  split
  · rfl
  · simp [apply_ite State.closing]

@[simp] theorem learnPair_closing (s : State) (c : Nat) (a1 : Anchor) (a2 s2 : Rat) : (s.learnPair c a1 a2 s2).closing = s.closing := by
  unfold State.learnPair; simp [apply_ite State.closing]

@[simp] theorem anchorCell_closing (s : State) (c kind : Nat) (a sigma : Rat) : (s.anchorCell c kind a sigma).closing = s.closing := by
  unfold State.anchorCell; simp [apply_ite State.closing]

@[simp] theorem predict_closing (s : State) (c : Nat) (i : Rat) (d : Bool) (b : Rat) : (s.predict c i d b).closing = s.closing := by
  unfold State.predict; simp [apply_ite State.closing]

@[simp] theorem update_closing (s : State) (c : Nat) (v : Int) (i : Rat) : (s.update c v i).closing = s.closing := by
  unfold State.update; simp [apply_ite State.closing]

@[simp] theorem limitCell_closing (s : State) (c : Nat) : (s.limitCell c).closing = s.closing := rfl

@[simp] theorem agreeCell_closing (s : State) (c : Nat) (v : Option Int) (i : Rat) : (s.agreeCell c v i).closing = s.closing := by
  unfold State.agreeCell
  dsimp only
  split
  · simp
  · split <;> simp [apply_ite State.closing]

@[simp] theorem taperSweep_closing (s : State) (b sweep : Nat) (v : List Int) : (s.taperSweep b sweep v).closing = s.closing := rfl

@[simp] theorem countSweep_closing (s : State) (sweep : Nat) (valid value : Nat → Option Int) (run : Bool) :
    (s.countSweep sweep valid value run).closing = s.closing := by
  unfold State.countSweep
  simp only [onCharge_closing]
  rw [foldl_keeps State.closing (fun s b => ?_)]
  · rfl
  · rw [taperSweep_closing, foldl_keeps State.closing (fun u c => ?_)]
    · rfl
    · simp only [apply_ite State.closing, agreeCell_closing, limitCell_closing, ite_self]
      split <;> simp

@[simp] theorem noteVolts_closing (s : State) (w : Sweep4) : (s.noteVolts w).closing = s.closing := by
  refine foldl_keeps State.closing (fun u c => ?_) _ s
  dsimp only
  split
  · rw [foldl_keeps State.closing (fun _ _ => agreeCell_closing ..)]; rfl
  · rfl

@[simp] theorem countSet_closing (s : State) (w : Sweep4) : (s.countSet w).closing = s.closing := by
  refine foldl_keeps State.closing (fun u i => ?_) _ s
  dsimp only
  split <;> simp

/-! What follows a set that formed (07 R186; 08 R231; 11 R292; 15 R384, R398). -/

@[simp] theorem windowStep_closing (s : State) (w : Sweep4) (b : Nat) : (s.windowStep w b).closing = s.closing := by
  unfold State.windowStep; dsimp only; (repeat' split) <;> rfl

@[simp] theorem markItem_closing (s : State) (n i : Nat) : (s.markItem n i).closing = s.closing := rfl
@[simp] theorem onTap_closing (s : State) (n j : Nat) (f : Tap → Tap) : (s.onTap n j f).closing = s.closing := rfl

@[simp] theorem tapStep_closing (s : State) (n j : Nat) (obs : List (Rat × Rat)) : (s.tapStep n j obs).closing = s.closing := by
  unfold State.tapStep
  dsimp only
  split
  · rfl
  · simp [apply_ite State.closing]

@[simp] theorem learnTaps_closing (s : State) (w : Sweep4) (n : Nat) : (s.learnTaps w n).closing = s.closing := by
  unfold State.learnTaps
  dsimp only
  split
  · exact foldl_keeps State.closing (fun _ _ => tapStep_closing ..) _ s
  · rfl

@[simp] theorem predictStep_closing (s : State) : s.predictStep.closing = s.closing := rfl

@[simp] theorem computeLimits_closing (s : State) (sweep : Nat) : (s.computeLimits sweep).closing = s.closing := by
  unfold State.computeLimits
  simp only [publish_closing]
  rw [foldl_keeps State.closing (fun _ _ => publish_closing ..)]
  rfl

@[simp] theorem evaluateSet_closing (s : State) (w : Sweep4) (k l : Nat) : (s.evaluateSet w k l).closing = s.closing := by
  unfold State.evaluateSet; split <;> simp

@[simp] theorem dispatchSend_closing (s : State) (k : EmKind) (p f e : Nat) (l : List Nat) : (s.dispatchSend k p f e l).closing = s.closing := rfl
@[simp] theorem twinSend_closing (s : State) (k : EmKind) (f : Nat) (l : List Nat) : (s.twinSend k f l).closing = s.closing := rfl

@[simp] theorem sendStatus_closing (s : State) : s.sendStatus.closing = s.closing := by
  unfold State.sendStatus; split <;> simp

@[simp] theorem sendStreams_closing (s : State) (w : Sweep4) (k : Nat) : (s.sendStreams w k).closing = s.closing := by
  unfold State.sendStreams
  dsimp only
  split
  · rfl
  · refine foldl_keeps State.closing (fun u run => ?_) _ s
    split <;> simp

@[simp] theorem sendIsland_closing (s : State) (k : Nat) : (s.sendIsland k).closing = s.closing := by
  unfold State.sendIsland; split <;> simp

@[simp] theorem published_closing (s : State) (b : Bool) : (s.onAcq fun a => { a with published := b }).closing = s.closing := rfl

theorem windowSteps_closing (s : State) (w : Sweep4) (l : List Nat) : (l.foldl (fun s b => s.windowStep w b) s).closing = s.closing :=
  foldl_keeps State.closing (fun _ _ => windowStep_closing ..) l s

theorem learnTapsAll_closing (s : State) (w : Sweep4) (l : List Nat) : (l.foldl (fun s n => s.learnTaps w n) s).closing = s.closing :=
  foldl_keeps State.closing (fun _ _ => learnTaps_closing ..) l s

@[simp] theorem afterSet_closing (s : State) (w : Sweep4) (k limitUs : Nat) : (s.afterSet w k limitUs).closing = s.closing := by
  simp only [State.afterSet, sendStreams_closing, sendStatus_closing, published_closing, onBasil_closing, evaluateSet_closing,
    predictStep_closing, learnTapsAll_closing, windowSteps_closing, noteVolts_closing, apply_ite State.closing, countSet_closing, ite_self]

/-! ### The set that closes -/

@[simp] theorem closeSet_closing (s : State) (w : Sweep4) (cells : List Nat) :
    (s.closeSet w cells).closing = (w, some w.first, s.acq.sets.filter fun x => laterThan x.first w.first) := rfl


/-- Every channel is active in Run (03 R94). -/
theorem activeIn_of_run {s : State} (h : s.pw.state = .run) (c k : Nat) : s.activeIn c k = true := by
  simp [State.activeIn, h]

theorem silenceSteps_closing (s : State) (k : Nat) (l : List Nat) : (l.foldl (fun s n => s.silenceStep n k) s).closing = s.closing :=
  foldl_keeps State.closing (fun _ _ => silenceStep_closing ..) l s

/-- In Run a superframe whose set has not closed yet closes it, and nothing that follows touches the sets again (01 R40). -/
theorem sweepSetClose_closes {s : State} (limitUs : Nat) (hnet : s.netOn = true) (hrun : s.pw.state = .run)
    (hnew : ∀ w, s.acq.closedTo = some w → notBefore w (4 * (s.framesDone - 2) % two32) = false) :
    ∃ cells, (sweepSetClose limitUs s).closing =
      (s.ingestSample.closeSet (s.formSet (4 * (s.framesDone - 2) % two32) cells) cells).closing := by
  have hfirst : 4 * (s.framesDone - 1 - 1) % two32 = 4 * (s.framesDone - 2) % two32 := rfl
  unfold sweepSetClose
  dsimp only
  rw [hfirst, if_neg (by simp [hnet, hrun]), if_neg]
  · exact ⟨_, by rw [sendIsland_closing, afterSet_closing, silenceSteps_closing]⟩
  · cases hto : s.acq.closedTo with
    | none => simp [activeIn_of_run hrun]
    | some w => simp [activeIn_of_run hrun, hnew w hto]

/-- It is the last closed one, and no older one stays open. -/
theorem sweepSetClose_sets {s : State} (limitUs : Nat) (hnet : s.netOn = true) (hrun : s.pw.state = .run)
    (hnew : ∀ w, s.acq.closedTo = some w → notBefore w (4 * (s.framesDone - 2) % two32) = false) :
    (sweepSetClose limitUs s).acq.closed.first = 4 * (s.framesDone - 2) % two32 ∧
      (sweepSetClose limitUs s).acq.closedTo = some (4 * (s.framesDone - 2) % two32) ∧
      ∀ w ∈ (sweepSetClose limitUs s).acq.sets, laterThan w.first (4 * (s.framesDone - 2) % two32) = true := by
  obtain ⟨cells, hclosing⟩ := sweepSetClose_closes limitUs hnet hrun hnew
  obtain ⟨hset, hto, hsets⟩ : _ ∧ _ ∧ _ := by simpa [State.closing] using hclosing
  refine ⟨congrArg Sweep4.first hset, hto, fun w hw => ?_⟩
  rw [hsets] at hw
  exact (List.mem_filter.1 hw).2

/-! ### A report in its slot (03 R90, R124; 04 R103 to R105, R114; 05 R133) -/


@[simp] theorem decideFn_ra (s : State) (code group subject : Nat) (value : Int) (cells : List Nat) :
    (s.decideFn code group subject value cells).ra = s.ra := ra_of_undecided (decideFn_undecided ..)

@[simp] theorem sample_ra (s : State) (n : Nat) (v : Int) : (s.sample n v).ra = s.ra := by
  unfold State.sample; dsimp only; split <;> simp

@[simp] theorem islandCompare_ra (s : State) (c sweep : Nat) (x : Sample) : (s.islandCompare c sweep x).ra = s.ra := by
  unfold State.islandCompare
  split
  · rfl
  · simp [apply_ite State.ra]

@[simp] theorem enterReport_ra (s : State) (n : Nat) (r : ReportRx) : (s.enterReport n r).ra = s.ra := by
  unfold State.enterReport
  dsimp only
  rw [apply_ite State.ra, foldl_keeps State.ra (fun _ _ => islandCompare_ra ..), ite_self]
  split <;> simp

@[simp] theorem enterTemps_ra (s : State) (n : Nat) (r : ReportRx) : (s.enterTemps n r).ra = s.ra := by
  refine foldl_keeps State.ra (fun u b => ?_) _ s
  split <;> rfl

@[simp] theorem windowUnit_ra (s : State) (n cell i a status : Nat) (lost : Bool) (p : TonePlan) :
    (s.windowUnit n cell i a status lost p).ra = s.ra := by
  unfold State.windowUnit
  dsimp only
  split
  · rfl
  · rfl
  · split <;> rfl

@[simp] theorem writeIslandTable_ra (s : State) (n : Nat) : (s.writeIslandTable n).ra = s.ra := by
  unfold State.writeIslandTable; split <;> rfl

/-- A node's admission, with the stage of the key roll. -/
def State.standing (n : Nat) (s : State) : AdmState × Nat := ((s.node n).adm, s.ra.rollStage)

theorem standing_of_ra {a b : State} (h : a.ra = b.ra) (n : Nat) : a.standing n = b.standing n := by
  simp [State.standing, node_of_ra h, h]

theorem onNode_standing {f : NodeCtl → NodeCtl} (hf : ∀ x, (f x).adm = x.adm) (s : State) (n : Nat) :
    (s.onNode n f).standing n = s.standing n := by
  simp [State.standing, node_onNode_same, hf]; rfl

theorem endUncertain_standing (s : State) (n cause : Nat) {f : NodeCtl → NodeCtl} (hf : ∀ x, (f x).adm = x.adm) :
    (s.endUncertain n cause f).standing n = s.standing n := by
  unfold State.endUncertain
  dsimp only
  split
  · rfl
  · rw [standing_of_ra (writeIslandTable_ra ..)]
    split
    · rw [standing_of_ra (record_ra ..), onNode_standing]
      exact fun x => hf x
    · rw [onNode_standing]
      exact fun x => hf x

theorem endSilence_standing (s : State) (n : Nat) : (s.endSilence n).standing n = s.standing n := by
  unfold State.endSilence
  dsimp only
  generalize (if s.pw.state = .run then decide (25 ≤ (s.node n).silence) else decide (2 ≤ (s.node n).silence)) = zero
  rw [onNode_standing]
  · split
    · rw [endUncertain_standing]
      intro x
      split <;> rfl
    · split
      · rw [standing_of_ra (writeIslandTable_ra ..), onNode_standing]
        exact fun _ => rfl
      · rfl
  · exact fun _ => rfl

theorem endSilence_silence (s : State) (n : Nat) : ((s.endSilence n).node n).silence = 0 := by
  simp [State.endSilence, node_onNode_same]

/-- Keying ends for a node in keying alone (04 R117). -/
theorem endKeying_of_admitted {s : State} {n : Nat} (h : (s.node n).adm = .admitted) : s.endKeying n = s := by
  simp [State.endKeying, h]

/-- What the module notes of a node with its report, with the stage of the key roll. -/
def State.noted (n : Nat) (s : State) : (AdmState × Option Nat × Nat × Nat × Nat × Int) × Nat :=
  let x := s.node n
  ((x.adm, x.heardIn, x.silence, x.authFails, x.quality, x.reportPower), s.ra.rollStage)

theorem noted_of_ra {a b : State} (h : a.ra = b.ra) (n : Nat) : a.noted n = b.noted n := by
  simp [State.noted, node_of_ra h, h]

/-- An update of a node that leaves its admission and what its report brought. -/
def NodeCtl.Unnoting (f : NodeCtl → NodeCtl) : Prop := ∀ x, (f x).adm = x.adm ∧ (f x).heardIn = x.heardIn ∧ (f x).silence = x.silence ∧
  (f x).authFails = x.authFails ∧ (f x).quality = x.quality ∧ (f x).reportPower = x.reportPower

theorem onNode_noted {f : NodeCtl → NodeCtl} (hf : NodeCtl.Unnoting f) (s : State) (n : Nat) : (s.onNode n f).noted n = s.noted n := by
  obtain ⟨hadm, hheard, hsilence, hfails, hquality, hpower⟩ := hf (s.node n)
  simp only [State.noted, node_onNode_same, hadm, hheard, hsilence, hfails, hquality, hpower]
  rfl

theorem takeBlock_noted (s : State) (n k : Nat) : (s.takeBlock n k).noted n = s.noted n := by
  unfold State.takeBlock
  dsimp only
  rw [onNode_noted (by exact fun _ => ⟨rfl, rfl, rfl, rfl, rfl, rfl⟩)]
  refine noted_of_ra ?_ n
  split
  · rfl
  · refine foldl_keeps State.ra (fun u c => foldl_keeps State.ra (fun v i => ?_) _ u) _ s
    split <;> simp

theorem endTone_noted (s : State) (n k : Nat) : (s.endTone n k).noted n = s.noted n := by
  unfold State.endTone
  split
  · exact takeBlock_noted s n k
  · rfl

theorem enterTone_noted (s : State) (n k : Nat) (r : ReportRx) : (s.enterTone n k r).noted n = s.noted n := by
  unfold State.enterTone
  split
  · split
    · exact onNode_noted (by exact fun _ => ⟨rfl, rfl, rfl, rfl, rfl, rfl⟩) s n
    · rfl
  · rfl

theorem dropAlarms_noted (s : State) (n : Nat) (r : ReportRx) : (s.dropAlarms n r).noted n = s.noted n := by
  have hfault := onNode_noted (f := fun x => { x with convFaultAt := some s.now }) (fun _ => ⟨rfl, rfl, rfl, rfl, rfl, rfl⟩) s n
  unfold State.dropAlarms
  dsimp only
  split
  · split
    · exact hfault
    · rfl
  · rw [onNode_noted (by exact fun _ => ⟨rfl, rfl, rfl, rfl, rfl, rfl⟩)]
    split
    · exact hfault
    · rfl

/-- Outside a key roll its steps do nothing (21 R525). -/
theorem rollStep_of_no_roll {s : State} (h : s.ra.rollStage = 0) : s.rollStep = s := by
  simp [State.rollStep, h]

theorem rollStep_noted {s : State} {n : Nat} (h : (s.noted n).2 = 0) : s.rollStep.noted n = s.noted n := by
  rw [rollStep_of_no_roll h]

/-- An accepted report without an alarm of an admitted node, outside a key roll, is noted: silence and failed authentications are back at 0. -/
theorem acceptReport_noted {s : State} {n : Nat} (k : Nat) {r : ReportRx} (halarm : r.alarm = none) (hadm : (s.node n).adm = .admitted)
    (hroll : s.ra.rollStage = 0) : (s.acceptReport n k r).noted n = ((.admitted, some k, 0, 0, r.tq, r.power), 0) := by
  have hstand : (s.endSilence n).standing n = (.admitted, 0) := by
    rw [endSilence_standing, State.standing, hadm, hroll]
  obtain ⟨hadm1, hroll1⟩ : ((s.endSilence n).node n).adm = .admitted ∧ (s.endSilence n).ra.rollStage = 0 := by
    simpa [State.standing] using hstand
  unfold State.acceptReport
  rw [endKeying_of_admitted hadm1, halarm]
  dsimp only
  generalize hs2 : (s.endSilence n).onNode n _ = s2
  have hnoted : s2.noted n = ((.admitted, some k, 0, 0, r.tq, r.power), 0) := by
    subst hs2
    simp only [State.noted, node_onNode_same, hadm1, endSilence_silence]
    exact congrArg _ hroll1
  have hentered : ((((s2.sample 5 r.tq).enterReport n r).enterTemps n r).enterTone n k r |>.dropAlarms n r).noted n = s2.noted n := by
    rw [dropAlarms_noted, enterTone_noted, noted_of_ra (b := s2) (by simp)]
  rw [rollStep_noted (by rw [hentered, hnoted]), hentered, hnoted]

/-- A frame is counted, and a slot is noted as seen, apart from what a report brings (03 R90, R92). -/
theorem countFrame_noted (s : State) (c cls n : Nat) : (s.countFrame c cls).noted n = s.noted n := rfl

theorem slotSeen_noted (s : State) (n : Nat) (forward lost : Bool) : (s.slotSeen n forward lost).noted n = s.noted n := by
  unfold State.slotSeen
  exact onNode_noted (fun x => by split <;> exact ⟨rfl, rfl, rfl, rfl, rfl, rfl⟩) s n

/-- A report of node n passes every check of the node's own slot, and is its first of the superframe (04 R114; 05 R133). -/
structure State.Passes (s : State) (n : Nat) (r : ReportRx) : Prop where
  ended : slotEnd (slotOf n) ≤ s.chanPhase (n / 32)
  fcs : r.fcsOk = true
  type : r.typeOk = true
  string : r.string = s.cfg.string.index
  mac : r.macOk = true
  node : r.node = n
  index : n ≤ 127
  begun : slotBegin (slotOf n) ≤ r.at_
  within : r.at_ < slotEnd (slotOf n)
  first : r.first = (4 * s.superframeOf (n / 32) + 4 * two32 - 4) % two32
  unclosed : ∀ w, s.acq.closedTo = some w → notBefore w r.first = false
  unheard : (s.node n).heardIn ≠ some (s.superframeOf (n / 32))

/-- In Run the slot of an admitted node takes a report that passes. -/
theorem reportSlotClose_of_passes {s : State} {n : Nat} {r : ReportRx} (h : s.Passes n r) (hnet : s.netOn = true) (hrun : s.pw.state = .run)
    (hadm : (s.node n).adm = .admitted) (links : List (Nat × Nat × Int)) :
    reportSlotClose n false (some r) links s =
      ((((s.countFrame (n / 32) 0).slotSeen n false false).onNode n fun x => { x with lostRun := 0 }).acceptReport n
        (s.superframeOf (n / 32)) r).endTone n (s.superframeOf (n / 32)) := by
  have hlinked : (s.node n).linked = true := by simp [NodeCtl.linked, hadm]
  have hactive : s.chanActive (n / 32) = true := activeIn_of_run hrun ..
  have hlate : ∀ w, s.acq.closedTo = some w → notBefore w ((4 * s.superframeOf (n / 32) + 4 * two32 - 4) % two32) = false :=
    h.first ▸ h.unclosed
  cases hto : s.acq.closedTo <;>
    simp [reportSlotClose, State.reportSlot, hnet, hactive, hlinked, h.ended.not_gt, h.fcs, h.type, h.string, h.mac, h.node, h.index.not_gt,
      h.begun.not_gt, h.within.not_ge, h.first, hto, hlate, h.unheard]

/-- What is noted of the node is its report (04 R114; 05 R133). -/
theorem reportSlotClose_noted {s : State} {n : Nat} {r : ReportRx} (h : s.Passes n r) (hnet : s.netOn = true) (hrun : s.pw.state = .run)
    (hadm : (s.node n).adm = .admitted) (hroll : s.ra.rollStage = 0) (halarm : r.alarm = none) (links : List (Nat × Nat × Int)) :
    (reportSlotClose n false (some r) links s).noted n = ((.admitted, some (s.superframeOf (n / 32)), 0, 0, r.tq, r.power), 0) := by
  rw [reportSlotClose_of_passes h hnet hrun hadm, endTone_noted]
  have hseen : (((s.countFrame (n / 32) 0).slotSeen n false false).onNode n fun x => { x with lostRun := 0 }).noted n = s.noted n := by
    rw [onNode_noted (by exact fun _ => ⟨rfl, rfl, rfl, rfl, rfl, rfl⟩), slotSeen_noted, countFrame_noted]
  refine acceptReport_noted _ halarm ?_ ?_
  · exact (congrArg (fun x => x.1.1) hseen).trans hadm
  · exact (congrArg (fun x => x.2) hseen).trans hroll

/-- A frame that fails its check in the slot of a node without a link key is only counted (03 R92). -/
theorem reportSlotClose_of_bad_check {s : State} {n : Nat} {r : ReportRx} (hnet : s.netOn = true) (hactive : s.chanActive (n / 32) = true)
    (hended : slotEnd (slotOf n) ≤ s.chanPhase (n / 32)) (hfcs : r.fcsOk = false) (hlinked : (s.node n).linked = false)
    (links : List (Nat × Nat × Int)) : reportSlotClose n false (some r) links s = s.countFrame (n / 32) 1 := by
  have hcounted : ((s.countFrame (n / 32) 1).node n).linked = false := hlinked
  simp [reportSlotClose, State.reportSlot, hnet, hactive, hended.not_gt, hfcs, hcounted]

/-! ### Alarm slots (03 R79, R80, R82, R83; 11 R299) -/

@[simp] theorem energyHold_ra (s : State) (c : Nat) : (s.energyHold c).ra = s.ra := by
  unfold State.energyHold
  dsimp only
  split <;> simp

/-- Energy in an alarm slot: an unidentified alarm stands from its first slot on, and the poll is due (03 R80, R82, R83, R94). -/
theorem energyResult_rchan (s : State) (c k slot : Nat) : (s.energyResult c k slot).rchan c =
    { s.rchan c with
      energyCount := wrapInc (s.rchan c).energyCount
      unidentified := some ((s.rchan c).unidentified.getD (s.slotInstant c slot))
      resolveAt := none
      pollDue := true
      lastEnergySlot := some ((4 * k + slot) % (4 * two32))
      energyNums := ((4 * k + slot) % (4 * two32) :: (s.rchan c).energyNums).take 8
      forcedIn := if s.chanActive c then (s.rchan c).forcedIn else (((k + 1) % two32) :: (s.rchan c).forcedIn).take 4 } := by
  unfold State.energyResult
  dsimp only
  rw [rchan_of_ra (energyHold_ra ..), rchan_onChan_same]

theorem energyResult_rchan_other (s : State) {c j : Nat} (h : j ≠ c) (k slot : Nat) : (s.energyResult c k slot).rchan j = s.rchan j := by
  unfold State.energyResult
  dsimp only
  rw [rchan_of_ra (energyHold_ra ..), rchan_onChan_other s h]

theorem energyResult_nodes (s : State) (c k slot : Nat) : (s.energyResult c k slot).ra.nodes = s.ra.nodes := by
  unfold State.energyResult
  dsimp only
  rw [energyHold_ra]
  rfl

/-- A slot with energy above the threshold and no frame (03 R79). -/
theorem alarmSlotClose_energy {s : State} {c slot : Nat} {energy : Int} (hnet : s.netOn = true)
    (hended : alarmBegin slot + 25000 ≤ s.chanPhase c) (henergy : (10 * s.cfg.link.energyDb : Int) < energy) (act : Nat) :
    alarmSlotClose c slot energy none act s = s.energyResult c (s.superframeOf c) slot := by
  simp [alarmSlotClose, hnet, hended.not_gt, henergy]

/-- A quiet slot (03 R79). -/
theorem alarmSlotClose_quiet {s : State} {energy : Int} (h : energy ≤ (10 * s.cfg.link.energyDb : Int)) (c slot act : Nat) :
    alarmSlotClose c slot energy none act s = s := by
  simp [alarmSlotClose, h.not_gt]

/-! ### Routes (03 R90) -/

/-- What a command's own effect writes beside the radio. -/
def State.offRadio (s : State) : State := { s.bare with ra := {} }

theorem onNode_offRadio (s : State) (n : Nat) (f : NodeCtl → NodeCtl) : (s.onNode n f).offRadio = s.offRadio := rfl
theorem onChan_offRadio (s : State) (c : Nat) (f : RadioChan → RadioChan) : (s.onChan c f).offRadio = s.offRadio := rfl
theorem record_offRadio (s : State) (e : Ev) (n : Nat) (d : List Nat) : (s.record e n d).offRadio = s.offRadio :=
  (congrArg (fun u : State => ({ u with ra := {} } : State)) (record_bare s e n d) :)

/-- The direct route of a relayed node waits to take effect, its command at the head of the node's queue. -/
theorem announceRoute_direct (s : State) (n lead : Nat) : ∃ e, ((s.announceRoute n 0 0 0 lead).node n).relayPending = some (0, 0, 0, e) ∧
    (((s.announceRoute n 0 0 0 lead).node n).work.map fun w => w.code).head? = some 7 := by
  unfold State.announceRoute
  dsimp only
  rw [node_of_ra (record_ra ..), List.foldl_append, List.foldl_cons, List.foldl_nil, node_onNode_same]
  exact ⟨_, rfl, rfl⟩

/-- A route announced leaves every node in its admission. -/
theorem announceRoute_adm (s : State) (n role relay slot lead m : Nat) : ((s.announceRoute n role relay slot lead).node m).adm = (s.node m).adm := by
  unfold State.announceRoute
  dsimp only
  rw [node_of_ra (record_ra ..)]
  refine foldl_keeps (fun u : State => (u.node m).adm) (fun u d => ?_) _ s
  by_cases hm : m = d.1
  · subst hm; rw [node_onNode_same]
  · rw [node_onNode_other u hm]

theorem announceRoute_offRadio (s : State) (n role relay slot lead : Nat) : (s.announceRoute n role relay slot lead).offRadio = s.offRadio := by
  unfold State.announceRoute
  dsimp only
  rw [record_offRadio]
  exact foldl_keeps State.offRadio (fun u d => onNode_offRadio ..) _ s

/-- A node out of service is not evaluated. -/
theorem evalRoute_of_out {s : State} {m : Nat} (h : (s.node m).inService = false) (links : List (Nat × Nat × Int)) : s.evalRoute links m = s := by
  simp [State.evalRoute, h]

theorem evalRoutes_of_out {s : State} {l : List Nat} (h : ∀ m ∈ l, (s.node m).inService = false) (links : List (Nat × Nat × Int)) :
    l.foldl (fun s n => s.evalRoute links n) s = s := by
  induction l with
  | nil => rfl
  | cons m l ih =>
    obtain ⟨hm, hl⟩ := List.forall_mem_cons.1 h
    rw [List.foldl_cons, evalRoute_of_out hm, ih hl]

/-- A relayed node whose direct link qualifies is announced its direct route (03 R90). -/
theorem evalRoute_direct {s : State} {n : Nat} (hin : (s.node n).inService = true) (hpending : (s.node n).relayPending = none)
    (hrole : (s.node n).relayRole = 2) (hdirect : s.directOk n = true) (links : List (Nat × Nat × Int)) :
    s.evalRoute links n = s.announceRoute n 0 0 0 2 := by
  simp [State.evalRoute, hin, hpending, hrole, hdirect]

/-- With node n alone in service the evaluation of all nodes is that of n. -/
theorem evalRoutes_alone {s : State} {n : Nat} {l : List Nat} (hn : n ∈ l) (hnodup : l.Nodup)
    (hout : ∀ m ∈ l, m ≠ n → (s.node m).inService = false) (hin : (s.node n).inService = true) (hpending : (s.node n).relayPending = none)
    (hrole : (s.node n).relayRole = 2) (hdirect : s.directOk n = true) (links : List (Nat × Nat × Int)) :
    l.foldl (fun s n => s.evalRoute links n) s = s.announceRoute n 0 0 0 2 := by
  obtain ⟨before, after, rfl⟩ := List.append_of_mem hn
  have hnot : n ∉ before ++ after := (List.nodup_cons.1 (List.nodup_middle.1 hnodup)).1
  have hothers : ∀ m ∈ before ++ after, (s.node m).inService = false := fun m hm =>
    hout m (by rcases List.mem_append.1 hm with h | h <;> simp [h]) (fun h => hnot (h ▸ hm))
  rw [List.foldl_append, evalRoutes_of_out fun m hm => hothers m (List.mem_append_left _ hm), List.foldl_cons,
    evalRoute_direct hin hpending hrole hdirect]
  refine evalRoutes_of_out (fun m hm => ?_) links
  rw [NodeCtl.inService, announceRoute_adm]
  exact hothers m (List.mem_append_right _ hm)

/-! ### Occupancy (03 R93) -/

/-- What a measurement of a channel's occupancy brings. -/
def noteOccupancy (c occupancy : Nat) (s : State) : State :=
  let x := s.rchan c
  let up := if 400 < occupancy then min 10 (x.overRun + 1) else 0
  let down := if 400 < occupancy then 0 else min 10 (x.underRun + 1)
  let s1 := s.onChan c fun y => { y with occupancy := occupancy, overRun := up, underRun := down }
  if !x.interference && decide (10 ≤ up) then
    (s1.onChan c fun y => { y with interference := true }).record .interference c (octetsOf 2 occupancy ++ [1])
  else if x.interference && decide (10 ≤ down) then
    (s1.onChan c fun y => { y with interference := false }).record .interference c (octetsOf 2 occupancy ++ [0])
  else s1

theorem exec_occupancyMeasurement (t : Nat) (c : Fin 4) (occ : Nat) (s : State) : exec (.occupancyMeasurement t c occ) s =
    s.run t fun s => if !s.radioOn then s else s.turn (0x10 + c.val) (sec 1) (noteOccupancy c.val occ) := rfl

theorem noteOccupancy_offRadio (c occ : Nat) (s : State) : (noteOccupancy c occ s).offRadio = s.offRadio := by
  simp only [noteOccupancy, apply_ite State.offRadio, record_offRadio, onChan_offRadio, ite_self]

theorem noteOccupancy_rchan_other (c occ : Nat) (s : State) {j : Nat} (h : j ≠ c) : (noteOccupancy c occ s).rchan j = s.rchan j := by
  simp only [noteOccupancy, apply_ite (fun u : State => u.rchan j), rchan_of_ra (record_ra ..), rchan_onChan_other _ h, ite_self]

/-- Above 40 % the run above grows, and its tenth second is interference. -/
theorem noteOccupancy_over {occ : Nat} (hocc : 400 < occ) (c : Nat) (s : State) : (noteOccupancy c occ s).rchan c =
    { s.rchan c with
      occupancy := occ
      overRun := min 10 ((s.rchan c).overRun + 1)
      underRun := 0
      interference := (s.rchan c).interference || decide (10 ≤ (s.rchan c).overRun + 1) } := by
  unfold noteOccupancy
  cases hi : (s.rchan c).interference <;> by_cases hten : 10 ≤ (s.rchan c).overRun + 1 <;>
    simp [hocc, hi, hten, rchan_of_ra (record_ra ..), rchan_onChan_same]

/-- At or below it the run below grows, and its tenth second ends the interference. -/
theorem noteOccupancy_under {occ : Nat} (hocc : occ ≤ 400) (c : Nat) (s : State) : (noteOccupancy c occ s).rchan c =
    { s.rchan c with
      occupancy := occ
      overRun := 0
      underRun := min 10 ((s.rchan c).underRun + 1)
      interference := (s.rchan c).interference && !decide (10 ≤ (s.rchan c).underRun + 1) } := by
  unfold noteOccupancy
  cases hi : (s.rchan c).interference <;> by_cases hten : 10 ≤ (s.rchan c).underRun + 1 <;>
    simp [hocc.not_gt, hi, hten, rchan_of_ra (record_ra ..), rchan_onChan_same]

/-- While the transmitters are on, a measurement whose turn is open is noted (03 R93; log 93). -/
theorem occupancy_of_open {t : Nat} {c : Fin 4} {occ : Nat} {s : State} {P : State → Prop} (hradio : s.radioOn = true)
    (hturn : (s.begin t).turnOpen (0x10 + c.val) (sec 1) 0 = true)
    (h : P (s.settle (s.keep t (noteOccupancy c.val occ ((s.begin t).turnTaken (0x10 + c.val)))))) : Answers (.occupancyMeasurement t c occ) s P := by
  have hon : (s.begin t).radioOn = true := hradio
  refine answers_of (exec_occupancyMeasurement t c occ s) ?_
  simpa [hon, turn_open hturn] using h

/-! ### What a command leaves of the radio -/

@[simp] theorem settle_node (s u : State) (t n : Nat) : (s.settle (s.keep t u)).node n = u.node n := node_of_ra (settle_ra ..) n
@[simp] theorem settle_rchan (s u : State) (t c : Nat) : (s.settle (s.keep t u)).rchan c = u.rchan c := rchan_of_ra (settle_ra ..) c

theorem settle_offRadio {s u : State} (h : u.offRadio = s.offRadio) (t : Nat) : (s.settle (s.keep t u)).offRadio = s.offRadio := by
  unfold State.offRadio
  rw [settle_bare]
  exact congrArg (fun v : State => ({ v with pending := s.pending } : State)) h

theorem announcedRoute_offRadio (s : State) (t n role relay slot lead : Nat) :
    (s.settle (s.keep t ((s.begin t).announceRoute n role relay slot lead))).offRadio = s.offRadio :=
  settle_offRadio ((announceRoute_offRadio ..).trans (congrArg (fun u : State => ({ u with ra := {} } : State)) (begin_bare ..) :)) t

theorem notedOccupancy_offRadio (s : State) (t c occ : Nat) :
    (s.settle (s.keep t (noteOccupancy c occ ((s.begin t).turnTaken (0x10 + c))))).offRadio = s.offRadio := by
  have hturn : ((s.begin t).turnTaken (0x10 + c)).offRadio = s.offRadio := rfl
  exact settle_offRadio ((noteOccupancy_offRadio ..).trans hturn) t

/-- Settles O8: each clause is what its operation does on the state the command begins with, which settling leaves alone. -/
theorem reportsAndSets : Obligations.ReportsAndSets := by
  have hreport (t : Nat) (n : Fin 128) (f : Bool) (r : Option ReportRx) (links : List (Nat × Nat × Int)) (s : State) :
      exec (.reportSlotClose t n f r links) s = s.run t (reportSlotClose n.val f r links) := rfl
  have halarm (t : Nat) (c a : Fin 4) (energy : Int) (x : Option AlarmRx) (act : Nat) (s : State) :
      exec (.alarmSlotClose t c a energy x act) s = s.run t (alarmSlotClose c.val a.val energy x act) := rfl
  have hrelay (t : Nat) (links : List (Nat × Nat × Int)) (s : State) : exec (.relayEvaluation t links) s = s.run t fun s =>
      if s.leads && !s.pw.haltedApp then (s.cfg.nodes.map fun e => e.index).foldl (fun s n => s.evalRoute links n) s else s := rfl
  refine ⟨?_, ?_, ?_, ?_, ?_, ?_, ?_, ?_, ?_, ?_, ?_⟩
  case refine_1 =>
    intro t n f links s hlinked
    have hlinked : ((s.begin t).node n.val).linked = false := hlinked
    refine does_of (hreport ..) ?_
    simp [reportSlotClose, hlinked]
  case refine_2 =>
    intro t n f r links s hearly
    have hearly : (s.begin t).chanPhase (n.val / 32) < slotEnd ((s.begin t).reportSlot n.val f) := hearly
    refine does_of (hreport ..) ?_
    simp [reportSlotClose, hearly]
  case refine_3 =>
    intro t n r links s hnet hactive hended hfcs hlinked
    have hbad := reportSlotClose_of_bad_check (s := s.begin t) hnet hactive hended hfcs hlinked links
    refine does_of (hreport ..) ?_
    rw [hbad]
    rfl
  case refine_4 =>
    intro t n r links s hnet hrun hended hfcs htype hstring hmac hnode hbegin hend hnone hadm hroll hfirst hopen hheard
    have hpasses : (s.begin t).Passes n.val r := ⟨hended, hfcs, htype, hstring, hmac, hnode, by omega, hbegin, hend, hfirst, hopen, hheard⟩
    have hnoted := reportSlotClose_noted hpasses hnet hrun hadm hroll hnone links
    refine answers_of (hreport ..) ?_
    simp only [settle_node]
    simp only [State.noted, Prod.mk.injEq] at hnoted
    obtain ⟨⟨hadm', hheard', hsilence, hfails, hquality, hpower⟩, -⟩ := hnoted
    exact ⟨hheard', hsilence, hfails, hquality, hadm', hpower⟩
  case refine_5 =>
    intro t c a energy act s hquiet
    have hquiet : energy ≤ (10 * (s.begin t).cfg.link.energyDb : Int) := hquiet
    exact does_of (halarm ..) (by rw [alarmSlotClose_quiet hquiet, begin_bare])
  case refine_6 =>
    intro t c a energy act s hnet hended henergy
    refine answers_of (halarm ..) ?_
    rw [alarmSlotClose_energy (s := s.begin t) hnet hended henergy]
    refine ⟨?_, fun j hj => ?_, ?_⟩
    · rw [settle_rchan, energyResult_rchan]; rfl
    · rw [settle_rchan, energyResult_rchan_other _ hj]; rfl
    · rw [settle_ra]; exact energyResult_nodes ..
  case refine_7 =>
    intro t lim s hnet hrun first hopen
    have hset := sweepSetClose_sets (s := s.begin t) lim hnet hrun hopen
    have hexec : exec (.sweepSetClose t lim) s = s.run t (sweepSetClose lim) := rfl
    refine answers_of hexec ?_
    rw [settle_acq]
    exact hset
  case refine_8 =>
    intro t links s hleads
    have hleads : (s.begin t).leads = false := hleads
    exact does_of (hrelay ..) (by simp [hleads])
  case refine_9 =>
    intro t links n s hleads happ hn hnodup hout hin hpending hrole hdirect
    have hroutes := evalRoutes_alone (s := s.begin t) (l := (s.begin t).cfg.nodes.map fun e => e.index) hn hnodup hout hin hpending hrole hdirect links
    have hgo : ((s.begin t).leads && !(s.begin t).pw.haltedApp) = true := by
      have hleads : (s.begin t).leads = true := hleads
      simp [happ, hleads]
    obtain ⟨e, hdirected, hcommand⟩ := announceRoute_direct (s.begin t) n 2
    refine answers_of (hrelay ..) ?_
    rw [if_pos hgo, hroutes, settle_node]
    exact ⟨⟨e, hdirected⟩, hcommand, announcedRoute_offRadio s t n 0 0 0 2⟩
  case refine_10 =>
    intro t c occ s hradio hturn hocc
    have hover := noteOccupancy_over hocc c.val ((s.begin t).turnTaken (0x10 + c.val))
    refine occupancy_of_open hradio hturn ?_
    rw [settle_rchan, hover]
    refine ⟨rfl, rfl, rfl, rfl, fun j hj => ?_, notedOccupancy_offRadio s t c.val occ⟩
    rw [settle_rchan, noteOccupancy_rchan_other _ _ _ hj]
    rfl
  case refine_11 =>
    intro t c occ s hradio hturn hocc
    have hunder := noteOccupancy_under hocc c.val ((s.begin t).turnTaken (0x10 + c.val))
    refine occupancy_of_open hradio hturn ?_
    rw [settle_rchan, hunder]
    exact ⟨rfl, rfl, rfl, notedOccupancy_offRadio s t c.val occ⟩

end Sys2Proof.Machine

/-! What the module has emitted in a step stays emitted: whatever a record, a publication or the settled state writes, emissions are only added. -/

namespace Sys2Proof.Machine

open Sys2Proof

section Emissions

variable {x : Emission} {s : State}

/-! ### The recorder only adds emissions (07 R212, R219; 22 R530 to R536) -/

theorem emitted (s : State) (k : EmKind) (p : Nat) (b : List Nat) : wrapped s.cfg { kind := k, port := p, bytes := b } ∈ (s.emit k p b).out :=
  List.mem_append_right _ (List.mem_singleton.2 rfl)

theorem mem_emit (h : x ∈ s.out) (k : EmKind) (p : Nat) (b : List Nat) : x ∈ (s.emit k p b).out := List.mem_append_left _ h

@[simp] theorem publish_out (s : State) (o : Nat) (b : List Nat) : (s.publish o b).out = s.out := by
  unfold State.publish; split <;> rfl

@[simp] theorem publishEvent_out (s : State) (r : EvRecord) : (s.publishEvent r).out = s.out := publish_out ..

theorem mem_followSend (h : x ∈ s.out) (k : EmKind) (t : Nat) (p : List Nat) : x ∈ (s.followSend k t p).out := by
  rw [State.followSend]
  exact mem_emit h ..

theorem mem_writeItem (h : x ∈ s.out) (k : Nat) (p : List Nat) : x ∈ (s.writeItem k p).out := by
  unfold State.writeItem
  dsimp only
  rw [State.onLearned_out]
  split
  · exact mem_followSend h ..
  · exact h

theorem mem_writeReservation (h : x ∈ s.out) (v : Nat) : x ∈ (s.writeReservation v).out := by
  rw [State.writeReservation]
  exact mem_writeItem (by rwa [State.onRosemary_out]) ..

theorem mem_assignSeq (h : x ∈ s.out) : x ∈ s.assignSeq.2.out := by
  unfold State.assignSeq
  dsimp only
  rw [State.onRosemary_out]
  split
  · exact mem_writeReservation h _
  · exact h

@[simp] theorem enterStore_out (s : State) (r : EvRecord) : (s.enterStore r).1.out = s.out := by
  unfold State.enterStore
  dsimp only
  split
  · rfl
  · split
    · rfl
    · split <;> rfl

@[simp] theorem closeRecord_out (s : State) (r : EvRecord) : (s.closeRecord r).1.out = s.out := by
  unfold State.closeRecord
  dsimp only
  rw [enterStore_out]
  split
  · rfl
  · rw [publishEvent_out]; rfl

theorem mem_openRecord (h : x ∈ s.out) (e : Ev) (n : Nat) (d : List Nat) : x ∈ (s.openRecord e n d).1.out := by
  unfold State.openRecord
  dsimp only
  rw [publishEvent_out, State.onRosemary_out]
  refine mem_assignSeq ?_
  split
  · split
    · rwa [closeRecord_out]
    · exact h
  · exact h

theorem mem_ceilingReached (h : x ∈ s.out) (n : Nat) : x ∈ (s.ceilingReached n).out := by
  unfold State.ceilingReached
  split
  · rwa [State.replaceOpen, State.onRosemary_out]
  · split
    · exact mem_openRecord (by rwa [State.spendToken, State.onRosemary_out]) ..
    · rwa [State.tally, State.onRosemary_out]

theorem mem_openAndReport (h : x ∈ s.out) (e : Ev) (n : Nat) (d : List Nat) : x ∈ (s.openAndReport e n d).out := by
  have hopened := mem_openRecord h e n d
  unfold State.openAndReport
  split
  next hres => rwa [hres] at hopened
  next hres => rw [hres] at hopened; exact mem_ceilingReached hopened _

theorem mem_closeAndReport (h : x ∈ s.out) (r : EvRecord) : x ∈ (s.closeAndReport r).out := by
  have hclosed : x ∈ (s.closeRecord r).1.out := by rwa [closeRecord_out]
  unfold State.closeAndReport
  split
  next hres => rwa [hres] at hclosed
  next hres => rw [hres] at hclosed; exact mem_ceilingReached hclosed _

theorem mem_occur (h : x ∈ s.out) (e : Ev) (n : Nat) (d : List Nat) : x ∈ (s.occur e n d).out := by
  have hreplaced (r : EvRecord) : x ∈ (s.replaceOpen r).out := by rwa [State.replaceOpen, State.onRosemary_out]
  have hspent : x ∈ (s.spendToken e).out := by rwa [State.spendToken, State.onRosemary_out]
  unfold State.occur
  split
  · dsimp only
    split
    · exact mem_closeAndReport (hreplaced _) _
    · exact hreplaced _
  · split
    · exact mem_openAndReport h ..
    · split
      · exact mem_openAndReport hspent ..
      · rwa [State.tally, State.onRosemary_out]

theorem mem_closeOld (h : x ∈ s.out) (e : Ev) (n : Nat) : x ∈ (s.closeOld e n).out := by
  unfold State.closeOld
  split
  · split
    · exact mem_closeAndReport h _
    · exact h
  · exact h

theorem mem_record (h : x ∈ s.out) (e : Ev) (n : Nat) (d : List Nat) : x ∈ (s.record e n d).out := by
  unfold State.record
  split
  · exact h
  · exact mem_occur (mem_closeOld h e n) ..

/-! ### Settling only adds emissions -/

theorem mem_settleTwin (h : x ∈ s.out) : x ∈ s.settleTwin.out := by
  unfold State.settleTwin
  dsimp only
  split
  · split
    · exact h
    · exact mem_record (by rwa [State.onSafety_out, State.onTwin_out]) ..
  · exact h

@[simp] theorem settleCan_out (s : State) : s.settleCan.out = s.out := by
  unfold State.settleCan; dsimp only; (repeat' split) <;> rfl

@[simp] theorem settleHolds_out (s : State) : s.settleHolds.out = s.out := by
  unfold State.settleHolds; dsimp only; split <;> rfl

@[simp] theorem settleCandidate_out (s : State) : s.settleCandidate.out = s.out := by
  unfold State.settleCandidate; dsimp only; split <;> rfl

theorem mem_settleShadow (h : x ∈ s.out) (old : State) : x ∈ (s.settleShadow old).out := by
  unfold State.settleShadow
  dsimp only
  split
  · split
    · exact h
    · exact mem_followSend h ..
  · exact h

theorem mem_interruptTest (h : x ∈ s.out) (o : Nat) : x ∈ (s.interruptTest o).out := by
  unfold State.interruptTest
  dsimp only
  split
  · exact h
  · exact mem_record (by rwa [State.onSafety_out]) ..

theorem mem_settleOut (h : x ∈ s.out) (o : Nat) : x ∈ (s.settleOut o).out := by
  unfold State.settleOut
  dsimp only
  rw [State.onSafety_out]
  split
  · exact h
  · exact mem_interruptTest h o

theorem mem_gooseChange (h : x ∈ s.out) (d : Nat) : x ∈ (s.gooseChange d).out := by
  unfold State.gooseChange
  dsimp only
  split
  · exact h
  · exact mem_emit (by rwa [State.onNet_out]) ..

theorem mem_goosePublish (h : x ∈ s.out) : x ∈ s.goosePublish.out := by
  unfold State.goosePublish
  split
  · exact mem_gooseChange (mem_gooseChange (mem_gooseChange h 0) 1) 2
  · exact h

@[simp] theorem pubIf_out (s : State) (b : Bool) (o : Nat) (f : State → List Nat) : (s.pubIf b o f).out = s.out := by
  unfold State.pubIf; split <;> simp

@[simp] theorem pubChanges_out (o s : State) : (o.pubChanges s).out = s.out := by
  unfold State.pubChanges; simp only [pubIf_out]

/-- Every emission has a class, so that the sending order loses none. -/
theorem mem_sendOrder {l : List Emission} (h : x ∈ l) : x ∈ sendOrder l := by
  have hclass : sendClass x < 6 := by unfold sendClass; split <;> decide
  exact List.mem_flatMap.2 ⟨sendClass x, List.mem_range.2 hclass, List.mem_filter.2 ⟨h, by simp⟩⟩

theorem mem_settlePorts (h : x ∈ s.out) : x ∈ s.settlePorts.out := by
  have hout : s.settlePorts.out = sendOrder s.out := by
    unfold State.settlePorts
    refine (foldl_keeps State.out (fun s e => foldl_keeps State.out (fun s p => ?_) _ s) _ _).trans rfl
    split <;> rfl
  rw [hout]
  exact mem_sendOrder h

/-- What a meaning has emitted leaves the module. -/
theorem mem_settle (h : x ∈ s.out) (old : State) : x ∈ (old.settle s).out := by
  have hwrapped : x ∈ (if s.ro.wrapped && !old.ro.wrapped then s.record .storeWrapped 0 [] else s).out := by
    split
    · exact mem_record h ..
    · exact h
  unfold State.settle
  dsimp only
  refine mem_settlePorts ?_
  rw [pubChanges_out]
  refine mem_goosePublish (mem_settleOut (mem_settleOut ?_ 1) 2)
  rw [State.settleStop, State.onRantus_out]
  refine mem_settleShadow ?_ old
  rw [settleCandidate_out, settleHolds_out, settleCan_out]
  exact mem_settleTwin hwrapped

end Emissions

/-- A meaning that emits `x` sends it. -/
theorem sends_of {c : Instr} {s : State} {t : Nat} {f : State → State} {x : Emission} (he : exec c s = s.run t f)
    (h : wrapped s.cfg x ∈ (f (s.begin t)).out) : Sends c s x := answers_of he (mem_settle (by exact h) s)

end Sys2Proof.Machine

/-! The time base: what its expiries, measurements and outputs do (02). -/

namespace Sys2Proof.Machine

open Sys2Proof

/-! ### What a command leaves of the state -/

@[simp] theorem keep_th (s u : State) (t : Nat) : (s.keep t u).th = u.th := rfl
@[simp] theorem keep_acq (s u : State) (t : Nat) : (s.keep t u).acq = u.acq := rfl
@[simp] theorem keep_dl (s u : State) (t : Nat) : (s.keep t u).dl = u.dl := rfl
@[simp] theorem settled_ptp (s u : State) (t p : Nat) : (s.settle (s.keep t u)).ptp p = u.ptp p := by simp [State.ptp]

/-- Parts of the state that a meaning leaves as they are stand so after its command: `E` takes the others out of sight, and not the queue. -/
theorem settled_apart (E : State → State) {s u : State} (h : E u.bare = E s.bare) (t : Nat)
    (hqueue : ∀ v q, E { v with pending := q } = { E v with pending := q } := by intros; rfl) : E (s.settle (s.keep t u)).bare = E s.bare := by
  rw [settle_bare]
  calc E { u.bare with pending := s.pending }
      = { E u.bare with pending := s.pending } := hqueue ..
    _ = { E s.bare with pending := s.pending } := by rw [h]
    _ = E { s.bare with pending := s.pending } := (hqueue ..).symm

@[simp] theorem begin_ptp (s : State) (t p : Nat) : (s.begin t).ptp p = s.ptp p := rfl

/-! ### Time states (02 R50) -/

/-- With no source left a locked Thyme goes to holdover, its rate kept (02 R50, R56). -/
theorem sourcesChanged_of_none {s : State} (hnone : s.bestSource = 0) (hlocked : s.th.state = .locked) : s.sourcesChanged =
    (State.setTime (s.onThyme fun h => { h with source := 0, offsets := [] }) .holdover).onThyme fun h =>
      { h with holdoverAt := some (s.now + sec s.cfg.steer.holdS) } := by
  simp [State.sourcesChanged, hnone, hlocked]

/-- The state without time, the sweep sets and Sage: what a step leaves alone. -/
def State.offStep (s : State) : State := { s with th := {}, acq := {}, sg := {} }

theorem closeOpenSets_offStep (s : State) : s.closeOpenSets.offStep = s.offStep := by
  refine foldl_keeps State.offStep (fun u w => ?_) _ s
  rfl

@[simp] theorem closeOpenSets_th (s : State) : s.closeOpenSets.th = s.th := by
  refine foldl_keeps State.th (fun u w => ?_) _ s
  rfl

/-- Beside time a step closes the open sets, and is recorded (02 R51). -/
theorem thymeStep_quiet (s : State) (d : Int) : (s.thymeStep d).quiet.offStep = s.quiet.offStep := by
  have hclosed := closeOpenSets_offStep (s.onThyme fun h => { h with reading := ((s.th.reading : Int) + d).toNat, offsets := [] })
  have hpulses (u : State) : u.restartPulses.quiet.offStep = u.quiet.offStep := rfl
  unfold State.thymeStep
  dsimp only
  rw [hpulses, record_quiet]
  exact (congrArg State.quiet hclosed :)

theorem thymeStep_offStep (s : State) (d : Int) : (s.thymeStep d).bare.offStep = s.bare.offStep := (congrArg State.bare (thymeStep_quiet s d) :)
@[simp] theorem thymeStep_now (s : State) (d : Int) : (s.thymeStep d).now = s.now := (congrArg State.now (thymeStep_quiet s d) :)
@[simp] theorem thymeStep_cfg (s : State) (d : Int) : (s.thymeStep d).cfg = s.cfg := (congrArg State.cfg (thymeStep_quiet s d) :)

/-- A step moves the reading by its size, forgets the offsets and restarts the pulses (02 R51). -/
theorem thymeStep_th (s : State) (d : Int) : ∃ tp age, (s.thymeStep d).th =
    { s.th with reading := ((s.th.reading : Int) + d).toNat, offsets := [], tp := tp, stepAge := age } := by
  unfold State.thymeStep State.restartPulses
  dsimp only
  rw [State.onThyme_th, record_th]
  simp only [State.onThyme_th, State.onAcq_th, closeOpenSets_th]
  exact ⟨_, _, rfl⟩

theorem thymeStep_sets (s : State) (d : Int) : (s.thymeStep d).acq.sets = [] := by
  unfold State.thymeStep State.restartPulses
  dsimp only
  rw [State.onThyme_acq, record_acq]
  rfl


/-- A record written before the rest of a meaning leaves no trace in what the meaning does of its own. -/
theorem record_then_bare (f : State → State) (s : State) (e : Ev) (n : Nat) (d : List Nat)
    (hf : ∀ u, (f u).bare = (f u.quiet).bare := by intros; rfl) : (f (s.record e n d)).bare = (f s).bare := by
  rw [hf, record_quiet, ← hf]

theorem due_of {s : State} {o : Option Nat} {d : Nat} (ho : o = some d) (h : d ≤ s.now) : s.due o = true := by
  simp [State.due, ho, h]

/-- Thyme runs free: the assumption on time fails (02 R50, R56; 23 R558). -/
theorem setTime_freeRunning {s : State} (h : s.th.state ≠ .locked) : s.setTime .freeRunning =
    { s with th := { s.th with state := .freeRunning, lockRun := 0, unlockRun := 0 }, dl := { s.dl with timeBad := true } } := by
  simp [State.setTime, State.onThyme, State.onDill, h]

/-- A step in acquiring waits for its source anew (02 R50, R51). -/
theorem thymeStep_toAcquiring_offStep (s : State) (d : Int) : (s.thymeStep d).toAcquiring.bare.offStep = s.bare.offStep := by
  have hacquiring (u : State) : u.toAcquiring.bare.offStep = u.bare.offStep := rfl
  rw [hacquiring, thymeStep_offStep]

theorem toAcquiring_acq (s : State) : s.toAcquiring.acq = s.acq := rfl

theorem toAcquiring_th (s : State) : s.toAcquiring.th =
    { s.th with state := .acquiring, lockRun := 0, unlockRun := 0, lockedAt := if s.th.state = .locked then s.now else s.th.lockedAt,
                startWaitAt := some (s.now + sec s.cfg.startWait), holdoverAt := none } := rfl

/-- Settles O1: each expiry's branch by its guard; what it leaves is what the parts it changes leave. -/
theorem timeExpiries : Obligations.TimeExpiries := by
  refine ⟨?startWait, ?holdover, ?announce, ?early, ?step⟩
  case startWait =>
    intro t d s hstate hwait hdue hnone
    have hstate : (s.begin t).th.state = .acquiring := hstate
    have hnone : (s.begin t).bestSource = 0 := hnone
    have hdue : (s.begin t).due (s.begin t).th.startWaitAt = true := due_of hwait hdue
    refine does_of (rfl : exec (.startWaitExpiry t) s = execStartWaitExpiry t s) ?_
    rw [if_pos (by simp [hdue, hstate, hnone]), record_then_bare fun u => (u.setTime .freeRunning).onThyme fun h => { h with startWaitAt := none },
      setTime_freeRunning (by simp [hstate])]
    rfl
  case holdover =>
    intro t d s hstate hwindow hdue
    have hstate : (s.begin t).th.state = .holdover := hstate
    have hdue : (s.begin t).due (s.begin t).th.holdoverAt = true := due_of hwindow hdue
    refine does_of (rfl : exec (.holdoverWindowExpiry t) s = execHoldoverWindowExpiry t s) ?_
    rw [if_pos (by simp [hdue, hstate]), record_then_bare fun u => (u.setTime .freeRunning).onThyme fun h => { h with holdoverAt := none },
      setTime_freeRunning (by simp [hstate])]
    rfl
  case announce =>
    intro t p s hlate hnone hlocked
    have he : exec (.announceReceiptTimeout t p) s = execAnnounceReceiptTimeout t p s := rfl
    refine answers_of he ?_
    have hnone : ((s.begin t).onPtp (p.val + 1) fun x => { x with available := false, master := (s.begin t).cfg.ptp.boundary }).bestSource = 0 := hnone
    rw [begin_ptp, begin_now, if_pos hlate]
    generalize hu : State.sourcesChanged _ = u
    rw [sourcesChanged_of_none hnone hlocked] at hu
    have hapart := settled_apart (fun u => { u with th := {} }) (s := s) (u := u) (by rw [← hu]; rfl) t
    simp only [settled_ptp, settle_th, keep_th]
    refine ⟨?_, ?_, ?_, ?_, ?_, hapart⟩
    all_goals subst hu
    · simp [State.ptp, State.onPtp, State.setTime]
    all_goals rfl
  case early =>
    intro t p s hearly
    have he : exec (.announceReceiptTimeout t p) s = execAnnounceReceiptTimeout t p s := rfl
    refine does_of he ?_
    rw [begin_ptp, begin_now, if_neg hearly.not_ge, begin_bare]
  case step =>
    intro t s hstate hsource hoffsets hsafe hpulsing
    have hstate : (s.begin t).th.state = .unaligned := hstate
    have hsource : (s.begin t).th.source ≠ 0 := hsource
    have hoffsets : (s.begin t).th.offsets ≠ [] := hoffsets
    have hsafe : (s.begin t).stepSafe = true := hsafe
    have hpulsing : (s.begin t).pulsing = false := hpulsing
    obtain ⟨tp, age, hth⟩ := thymeStep_th (s.begin t) (roundZero (s.begin t).filtered)
    refine answers_of (rfl : exec (.stepSafeConditionBegins t) s = execStepSafeConditionBegins t s) ?_
    rw [if_pos (by simp [hstate, hsource, hoffsets, hsafe, hpulsing])]
    simp only [settle_th, keep_th, settle_acq, keep_acq, toAcquiring_th, toAcquiring_acq, thymeStep_sets, hth]
    have hapart := settled_apart State.offStep (s := s) (thymeStep_toAcquiring_offStep (s.begin t) (roundZero (s.begin t).filtered)) t
    refine ⟨trivial, ?_, trivial, trivial, ?_, hapart⟩
    · exact (Int.toNat_eq_max _).trans (max_comm _ _)
    · exact congrArg₂ (fun now wait => some (now + sec wait)) (thymeStep_now ..) (congrArg (fun c : Cfg => c.startWait) (thymeStep_cfg ..))

end Sys2Proof.Machine

/-! A cell node on its own: the beacons it hears and misses, its areas and its admission (02 R61; 03 R76, R85; 04 R110, R112, R118). -/

namespace Sys2Proof.Machine

open Sys2Proof

/-! ### Reads of a node after a write -/

theorem dev_onDev_same (s : State) (n : Nat) (f : NodeDev → NodeDev) : (s.onDev n f).dev n = f (s.dev n) := Table.get_upd_same ..

theorem dev_onDev_other (s : State) {n j : Nat} (h : j ≠ n) (f : NodeDev → NodeDev) : (s.onDev n f).dev j = s.dev j := Table.get_upd_other _ h ..

theorem dev_of_ra {a b : State} (h : a.ra = b.ra) (n : Nat) : a.dev n = b.dev n := congrArg (fun r : Radio => r.devs.get n {}) h

@[simp] theorem settle_dev (s u : State) (t n : Nat) : (s.settle (s.keep t u)).dev n = u.dev n := dev_of_ra (settle_ra ..) n

/-- A command that only updates one node leaves the other nodes, and all beside the radio, as they are. -/
theorem answers_onDev {c : Instr} {s : State} {t n : Nat} {f : State → NodeDev → NodeDev} {P : NodeDev → Prop}
    (he : exec c s = s.run t fun s => s.onDev n (f s)) (h : P (f (s.begin t) (s.dev n))) :
    Answers c s fun s' => P (s'.dev n) ∧ (∀ j, j ≠ n → s'.dev j = s.dev j) ∧ s'.offRadio = s.offRadio := by
  have hbegun : ((s.begin t).onDev n (f (s.begin t))).offRadio = s.offRadio := rfl
  refine answers_of he ⟨?_, fun j hj => ?_, settle_offRadio hbegun t⟩
  · rwa [settle_dev, dev_onDev_same]
  · rw [settle_dev, dev_onDev_other _ hj]
    rfl

/-- A command whose conditions do not hold leaves all as it is. -/
theorem idles_of {c : Instr} {s : State} {t : Nat} {f : State → State} (he : exec c s = s.run t f) (h : f (s.begin t) = s.begin t) : Idles c s :=
  does_of he (by rw [h, begin_bare])

/-! ### What a node knows of its beacons (02 R61; 03 R76; 04 R118) -/

/-- The parts of a node that a beacon sets and the readings after it do not write. -/
def NodeDev.reception (d : NodeDev) : Nat × Nat × Nat × Bool × Int × Bool := (d.missed, d.lastBeacon, d.tq, d.silentTx, d.clockCorr, d.degraded)

theorem beaconAcks_reception (d : NodeDev) (slot ack : Nat) : (d.beaconAcks slot ack).reception = d.reception := by
  unfold NodeDev.beaconAcks; split <;> rfl

theorem beaconAcks_newKey (d : NodeDev) (slot ack : Nat) : (d.beaconAcks slot ack).newKey = d.newKey := by
  unfold NodeDev.beaconAcks; split <;> rfl

theorem applyRole_reception (d : NodeDev) (k : Nat) : (d.applyRole k).reception = d.reception := by
  unfold NodeDev.applyRole; split
  · split <;> rfl
  · rfl

theorem applyRole_newKey (d : NodeDev) (k : Nat) : (d.applyRole k).newKey = d.newKey := by
  unfold NodeDev.applyRole; split
  · split <;> rfl
  · rfl

theorem keyCheck_reception (d : NodeDev) (ok : Bool) : (d.keyCheck ok).reception = d.reception := by
  unfold NodeDev.keyCheck; split
  · rfl
  · split <;> rfl

/-- A beacon heard ends the run of missed ones and sets the clock and the quality (02 R61; 03 R76). -/
theorem beacon_reception (d : NodeDev) (b : BeaconRx) (slot now : Nat) : (d.beacon b slot now).reception =
    (0, now, min 255 b.quality, false, ((b.tx + 256 * d.propDelay : Nat) : Int) - b.rx,
      if 50 < min 255 b.quality then true else if 4 ≤ (if min 255 b.quality ≤ 50 then min 4 (d.goodRun + 1) else 0) then false else d.degraded) := by
  unfold NodeDev.beacon
  rw [keyCheck_reception, applyRole_reception, beaconAcks_reception]
  rfl

theorem keyCheck_adm {d : NodeDev} (hnew : d.newKey = true) (ok : Bool) : (d.keyCheck ok).adm = if ok then .admitted else .unadmitted := by
  unfold NodeDev.keyCheck
  rw [hnew]
  cases ok <;> rfl

theorem keyCheck_keyed {d : NodeDev} (hnew : d.newKey = true) : (d.keyCheck true).keyed = true := by
  unfold NodeDev.keyCheck
  rw [hnew]
  rfl

/-- A beacon decides over a new key (04 R118). -/
theorem beacon_newKey {d : NodeDev} (hnew : d.newKey = true) (b : BeaconRx) (slot now : Nat) :
    (b.keyOk = true → (d.beacon b slot now).adm = .admitted ∧ (d.beacon b slot now).keyed = true) ∧
    (b.keyOk = false → (d.beacon b slot now).adm = .unadmitted) := by
  obtain ⟨e, he, hkey⟩ : ∃ e : NodeDev, d.beacon b slot now = e.keyCheck b.keyOk ∧ e.newKey = true := by
    refine ⟨_, rfl, ?_⟩
    rw [applyRole_newKey, beaconAcks_newKey]
    exact hnew
  rw [he]
  refine ⟨fun hok => ?_, fun hok => ?_⟩ <;> rw [hok]
  · exact ⟨keyCheck_adm hkey _, keyCheck_keyed hkey⟩
  · exact keyCheck_adm hkey _

theorem keyCheck_balSet {d : NodeDev} (h : d.balSet = {}) (ok : Bool) : (d.keyCheck ok).balSet = {} := by
  unfold NodeDev.keyCheck; split
  · exact h
  · split
    · exact h
    · rfl

/-- A missed beacon is counted, and the degraded mark stands until the limit (02 R61; 03 R76). -/
theorem miss_reception (d : NodeDev) (failed : Bool) : (d.miss failed).reception =
    (d.missed + 1, d.lastBeacon, d.tq, d.silentTx || decide ((if d.watch then 2 else 25) ≤ d.missed + 1), d.clockCorr,
      d.degraded || decide ((if d.watch then 3 else 11) ≤ d.missed + 1)) := by
  unfold NodeDev.miss
  extract_lets n counted stop zeroed stopped
  have hstopped : stopped.reception = (n, d.lastBeacon, d.tq, d.silentTx || stop, d.clockCorr, counted.degraded) := by
    show (if stop && !d.silentTx then { zeroed with silentTx := true } else counted).reception = _
    by_cases hnow : (stop && !d.silentTx) = true
    · have hstop : stop = true := (Bool.and_eq_true_iff.1 hnow).1
      rw [if_pos hnow, hstop, Bool.or_true]
      rfl
    · have hsame : (d.silentTx || stop) = d.silentTx := by revert hnow; generalize stop = x; cases x <;> cases d.silentTx <;> decide
      rw [if_neg hnow, hsame]
      rfl
  split
  · rw [keyCheck_reception, hstopped]
  · exact hstopped

/-- Where the missed beacons stop the transmissions, the set is zero (03 R76; 09 R240). -/
theorem miss_balSet {d : NodeDev} (hstop : (if d.watch then 2 else 25) ≤ d.missed + 1) (hsilent : d.silentTx = false) (failed : Bool) :
    (d.miss failed).balSet = {} := by
  unfold NodeDev.miss
  extract_lets n counted stop zeroed stopped
  have hstopped : stopped.balSet = {} := by
    show (if stop && !d.silentTx then { zeroed with silentTx := true } else counted).balSet = {}
    rw [if_pos (by simp [stop, n, hstop, hsilent])]
    rfl
  split
  · exact keyCheck_balSet hstopped _
  · exact hstopped

/-! ### Areas (04 R110) -/

/-- The activation of an area writes no other area. -/
theorem activate_other (sweep abs : Nat) (d : NodeDev) {area j : Nat} (h : j ≠ area) :
    (d.activate sweep abs area).active.get j [] = d.active.get j [] ∧ (d.activate sweep abs area).commitAt.get j 0 = d.commitAt.get j 0 := by
  unfold NodeDev.activate
  split
  · exact ⟨rfl, rfl⟩
  · split
    · extract_lets c moved at_
      have hmoved : moved.active.get j [] = d.active.get j [] ∧ moved.commitAt.get j 0 = d.commitAt.get j 0 :=
        ⟨Table.get_put_other d.active h [] c, Table.get_put_other d.commitAt h 0 0⟩
      split
      · exact hmoved
      · split
        · exact hmoved
        · split <;> exact hmoved
    · exact ⟨rfl, rfl⟩

/-- The committed area 1 becomes active at its sweep (04 R110). -/
theorem activate_first {d : NodeDev} {sweep a : Nat} (hat : d.commitAt.get 1 0 = a + 1) (hdue : notBefore sweep a = true) (abs : Nat) :
    (d.activate sweep abs 1).active.get 1 [] = d.committed.get 1 [] ∧ (d.activate sweep abs 1).commitAt.get 1 0 = 0 := by
  unfold NodeDev.activate
  rw [hat]
  simp [hdue]

/-- The areas after the first leave it as it is. -/
theorem activate_all_first {d : NodeDev} {sweep a : Nat} (hat : d.commitAt.get 1 0 = a + 1) (hdue : notBefore sweep a = true) (abs : Nat) :
    ([1, 2, 3, 4].foldl (NodeDev.activate sweep abs) d).active.get 1 [] = d.committed.get 1 [] ∧
    ([1, 2, 3, 4].foldl (NodeDev.activate sweep abs) d).commitAt.get 1 0 = 0 := by
  have hrest : ∀ e : NodeDev, ([2, 3, 4].foldl (NodeDev.activate sweep abs) e).active.get 1 [] = e.active.get 1 [] ∧
      ([2, 3, 4].foldl (NodeDev.activate sweep abs) e).commitAt.get 1 0 = e.commitAt.get 1 0 := by
    intro e
    simp only [List.foldl_cons, List.foldl_nil]
    obtain ⟨h2, k2⟩ := activate_other sweep abs e (show 1 ≠ 2 by decide)
    obtain ⟨h3, k3⟩ := activate_other sweep abs (e.activate sweep abs 2) (show 1 ≠ 3 by decide)
    obtain ⟨h4, k4⟩ := activate_other sweep abs ((e.activate sweep abs 2).activate sweep abs 3) (show 1 ≠ 4 by decide)
    exact ⟨h4.trans (h3.trans h2), k4.trans (k3.trans k2)⟩
  obtain ⟨hactive, hcommit⟩ := activate_first hat hdue abs
  obtain ⟨ha, hc⟩ := hrest (d.activate sweep abs 1)
  exact ⟨ha.trans hactive, hc.trans hcommit⟩

/-- Settles O11: every clause is what one operation does to the node the command names. -/
theorem nodeBeacons : Obligations.NodeBeacons := by
  refine ⟨?heard, ?missed, ?silent, ?notSilent, ?activation, ?start, ?ceiling, ?backoff, ?pause⟩
  case heard =>
    intro t n b s
    have he : exec (.nodeBeaconReceived t n b) s = execNodeBeaconReceived t n b s := rfl
    have hrec := beacon_reception (s.dev n.val) b (slotOf n.val) (s.begin t).now
    simp only [NodeDev.reception, Prod.mk.injEq] at hrec
    obtain ⟨hmissed, hlast, htq, hsilent, hclock, hdegraded⟩ := hrec
    obtain ⟨s', hexec, ⟨hmissed, hlast, htq, hsilent, hclock, hbad, hgood, hkey, hnokey⟩, hothers, hbare⟩ := answers_onDev he
      (P := fun d => d.missed = 0 ∧ d.lastBeacon = max s.now t ∧ d.tq = min 255 b.quality ∧ d.silentTx = false ∧
        d.clockCorr = ((b.tx + 256 * (s.dev n.val).propDelay : Nat) : Int) - b.rx ∧ (50 < b.quality → d.degraded = true) ∧
        (b.quality ≤ 50 → 3 ≤ (s.dev n.val).goodRun → d.degraded = false) ∧
        ((s.dev n.val).newKey = true → b.keyOk = true → d.adm = .admitted ∧ d.keyed = true) ∧
        ((s.dev n.val).newKey = true → b.keyOk = false → d.adm = .unadmitted))
      ⟨hmissed, hlast, htq, hsilent, hclock, fun h => by rw [hdegraded, if_pos (by omega)],
        fun h hrun => by rw [hdegraded, if_neg (by omega), if_pos (by rw [if_pos (by omega)]; omega)],
        fun hnew => (beacon_newKey hnew ..).1, fun hnew => (beacon_newKey hnew ..).2⟩
    exact ⟨s', hexec, hmissed, hlast, htq, hsilent, hclock, hbad, hgood, hkey, hnokey, hothers, hbare⟩
  case missed =>
    intro t n f s
    have he : exec (.nodeMissedBeacon t n f) s = execNodeMissedBeacon t n f s := rfl
    have hrec := miss_reception (s.dev n.val) f
    simp only [NodeDev.reception, Prod.mk.injEq] at hrec
    obtain ⟨hmissed, -, -, hsilent, -, hdegraded⟩ := hrec
    have hstops (hstop : (if (s.dev n.val).watch then 2 else 25) ≤ (s.dev n.val).missed + 1) (hloud : (s.dev n.val).silentTx = false) :
        ((s.dev n.val).miss f).silentTx = true ∧ ((s.dev n.val).miss f).balSet = {} :=
      ⟨by simp [hsilent, hstop], miss_balSet hstop hloud f⟩
    obtain ⟨s', hexec, ⟨hmissed, hrun, hwatch, hmark⟩, hothers, hbare⟩ := answers_onDev he
      (P := fun d => d.missed = (s.dev n.val).missed + 1 ∧
        ((s.dev n.val).watch = false → 24 ≤ (s.dev n.val).missed → (s.dev n.val).silentTx = false → d.silentTx = true ∧ d.balSet = {}) ∧
        ((s.dev n.val).watch = true → 1 ≤ (s.dev n.val).missed → (s.dev n.val).silentTx = false → d.silentTx = true ∧ d.balSet = {}) ∧
        ((s.dev n.val).watch = false → (s.dev n.val).missed < 10 → d.degraded = (s.dev n.val).degraded))
      ⟨hmissed, fun hw hm => hstops (by simp [hw]; omega), fun hw hm => hstops (by simp [hw]; omega),
        fun hw hm => by simp [hdegraded, hw]; omega⟩
    exact ⟨s', hexec, hmissed, hrun, hwatch, hmark, hothers, hbare⟩
  case silent =>
    intro t n s hsilence
    have he : exec (.nodeBeaconSilence t n) s = execNodeBeaconSilence t n s := rfl
    have hsilence : ((s.begin t).dev n.val).lastBeacon + sec 10 ≤ (s.begin t).now := hsilence
    refine does_of he ?_
    rw [if_pos hsilence]
    rfl
  case notSilent =>
    intro t n s hrecent
    have he : exec (.nodeBeaconSilence t n) s = execNodeBeaconSilence t n s := rfl
    have hrecent : (s.begin t).now < ((s.begin t).dev n.val).lastBeacon + sec 10 := hrecent
    exact idles_of he (if_neg hrecent.not_ge)
  case activation =>
    intro t n a s hat hdue
    have he : exec (.nodeSetActivation t n) s = execNodeSetActivation t n s := rfl
    obtain ⟨s', hexec, ⟨hactive, hcommit⟩, hrest⟩ := answers_onDev he (P := fun d => d.active.get 1 [] = (s.dev n.val).committed.get 1 [] ∧ d.commitAt.get 1 0 = 0)
      (activate_all_first hat hdue (s.begin t).sweepAbs)
    exact ⟨s', hexec, hactive, hcommit, hrest⟩
  case start =>
    intro t n s
    have he : exec (.nodeStart t n) s = execNodeStart t n s := rfl
    exact does_of he rfl
  case ceiling =>
    intro t n s hadm hsent hceiling
    have he : exec (.nodeAdmissionBackoff t n) s = execNodeAdmissionBackoff t n s := rfl
    have hasked : ((s.begin t).dev n.val).adm ≠ .admitted ∧ ((s.begin t).dev n.val).requestSent := ⟨hadm, hsent⟩
    have hceiling : ((s.begin t).dev n.val).ceiling ≤ ((s.begin t).dev n.val).attempts + 1 := hceiling
    refine does_of he ?_
    dsimp only
    rw [if_pos hasked, if_pos hceiling]
    rfl
  case backoff =>
    intro t n s hadm hsent hbelow
    have he : exec (.nodeAdmissionBackoff t n) s = execNodeAdmissionBackoff t n s := rfl
    have hasked : ((s.begin t).dev n.val).adm ≠ .admitted ∧ ((s.begin t).dev n.val).requestSent := ⟨hadm, hsent⟩
    have hbelow : ¬ ((s.begin t).dev n.val).ceiling ≤ ((s.begin t).dev n.val).attempts + 1 := hbelow.not_ge
    refine answers_of he ?_
    dsimp only
    rw [if_pos hasked, if_neg hbelow]
    have hapart := settled_apart (fun u => { u with ra := {}, freeIdx := 0 }) (s := s) (u := ((s.begin t).freshNat.2).onDev n.val fun d =>
      { d with attempts := (s.dev n.val).attempts + 1, requestSent := false, backoff := (s.begin t).freshNat.1 % 2 ^ min ((s.dev n.val).attempts + 1) 5 }) (by rfl) t
    simp only [settle_dev]
    refine ⟨?_, ?_, ?_, fun j hj => ?_, hapart⟩
    · rw [dev_onDev_same]; rfl
    · rw [dev_onDev_same]; exact Nat.mod_lt _ (Nat.two_pow_pos _)
    · rw [dev_onDev_same]
    · rw [dev_onDev_other _ hj]; rfl
  case pause =>
    intro t n d s hlisten hdue
    have he : exec (.listeningPauseExpiry t n) s = execListeningPauseExpiry t n s := rfl
    have hdue : (s.begin t).due ((s.begin t).dev n.val).listenUntil = true := due_of hlisten hdue
    refine does_of he ?_
    rw [if_pos hdue]
    rfl

end Sys2Proof.Machine

/-! What measures time: PTP messages, PPS, the twin link, and the compensations (02 R45 to R54, R63; 10 R276). -/

namespace Sys2Proof.Machine

open Sys2Proof

/-! ### A measurement of the source in use (02 R50) -/

/-- The state without time, the diagnosis and the free values: what a measurement that takes no step leaves alone. -/
def State.offTime (s : State) : State := { s with th := {}, dl := {}, freeIdx := 0 }

@[simp] theorem sample_th (s : State) (n : Nat) (v : Int) : (s.sample n v).th = s.th := by
  unfold State.sample
  dsimp only
  split
  · rw [record_th]; rfl
  · rfl

@[simp] theorem sample_cfg (s : State) (n : Nat) (v : Int) : (s.sample n v).cfg = s.cfg := by
  unfold State.sample
  dsimp only
  split
  · rw [record_cfg]; rfl
  · rfl

theorem sample_offTime (s : State) (n : Nat) (v : Int) : (s.sample n v).bare.offTime = s.bare.offTime := by
  unfold State.sample
  dsimp only
  split
  · rw [record_bare]; rfl
  · rfl

theorem mem_sample {x : Emission} {s : State} (h : x ∈ s.out) (n : Nat) (v : Int) : x ∈ (s.sample n v).out := by
  unfold State.sample
  dsimp only
  split
  · refine mem_record ?_ ..
    exact h
  · exact h

theorem label_th (s : State) : ∃ b, s.label.th = { s.th with labelled := b } := by
  unfold State.label
  split
  · exact ⟨true, rfl⟩
  · exact ⟨s.th.labelled, rfl⟩

@[simp] theorem label_cfg (s : State) : s.label.cfg = s.cfg := by unfold State.label; split <;> rfl

@[simp] theorem label_out (s : State) : s.label.out = s.out := by unfold State.label; split <;> rfl

theorem label_offTime (s : State) : s.label.bare.offTime = s.bare.offTime := by unfold State.label; split <;> rfl

/-- The state in which a measurement drives the time state: the offset is in the filter and sampled. -/
def State.measured (s : State) (src : Nat) (off : Int) : State :=
  let s1 := s.onThyme fun h => { h with
    offsets := if h.source = src then (off :: h.offsets).take 8 else [off]
    source := src }
  (s1.sample 4 (roundOpen 46 s1.filtered)).label

theorem measure_eq (s : State) (src : Nat) (off : Int) : s.measure src off = (s.measured src off).timeTransition := rfl

theorem measured_th (s : State) (src : Nat) (off : Int) : ∃ b, (s.measured src off).th =
    { s.th with offsets := if s.th.source = src then (off :: s.th.offsets).take 8 else [off], source := src, labelled := b } := by
  obtain ⟨b, hb⟩ := label_th (((s.onThyme fun h => { h with offsets := if h.source = src then (off :: h.offsets).take 8 else [off], source := src })).sample 4
    (roundOpen 46 (s.onThyme fun h => { h with offsets := if h.source = src then (off :: h.offsets).take 8 else [off], source := src }).filtered))
  rw [sample_th] at hb
  exact ⟨b, hb⟩

theorem measured_cfg (s : State) (src : Nat) (off : Int) : (s.measured src off).cfg = s.cfg := by
  unfold State.measured
  rw [label_cfg, sample_cfg]
  rfl

theorem measured_offTime (s : State) (src : Nat) (off : Int) : (s.measured src off).bare.offTime = s.bare.offTime := by
  unfold State.measured
  rw [label_offTime, sample_offTime]
  rfl

theorem mem_measured {x : Emission} {s : State} (h : x ∈ s.out) (src : Nat) (off : Int) : x ∈ (s.measured src off).out := by
  unfold State.measured
  rw [label_out]
  refine mem_sample ?_ ..
  exact h

/-! ### The time states at a measurement (02 R50) -/

theorem slew_th (s : State) : ∃ a, s.slew.th = { s.th with addend := a } := ⟨_, rfl⟩

theorem timeTransition_of_locked {s : State} (hstate : s.th.state = .locked) : s.timeTransition =
    if (s.cfg.steer.lockNs : Rat) < absR s.filtered then
      if s.th.unlockRun + 1 ≥ 16 then s.slew.toAcquiring
      else s.slew.onThyme fun h => { h with unlockRun := h.unlockRun + 1 }
    else s.slew.onThyme fun h => { h with unlockRun := 0 } := by
  unfold State.timeTransition
  rw [hstate]

/-- A locked Thyme stays locked before the 16th offset beyond the lock threshold (02 R50). -/
theorem timeTransition_locked {s : State} (hstate : s.th.state = .locked) (hrun : s.th.unlockRun < 15) :
    (∃ a r, s.timeTransition.th = { s.th with addend := a, unlockRun := r }) ∧ s.timeTransition.bare.offTime = s.bare.offTime := by
  obtain ⟨a, ha⟩ := slew_th s
  have hnote (f : Nat → Nat) : (∃ a r, (s.slew.onThyme fun h => { h with unlockRun := f h.unlockRun }).th = { s.th with addend := a, unlockRun := r }) ∧
      (s.slew.onThyme fun h => { h with unlockRun := f h.unlockRun }).bare.offTime = s.bare.offTime :=
    ⟨⟨a, f s.slew.th.unlockRun, by rw [State.onThyme_th, ha]⟩, rfl⟩
  rw [timeTransition_of_locked hstate]
  split
  · rw [if_neg (by omega)]
    exact hnote fun r => r + 1
  · exact hnote fun _ => 0

/-- The 16th consecutive offset beyond the lock threshold ends locked (02 R50). -/
theorem timeTransition_unlocks {s : State} (hstate : s.th.state = .locked) (hrun : 15 ≤ s.th.unlockRun)
    (hoff : (s.cfg.steer.lockNs : Rat) < absR s.filtered) : s.timeTransition = s.slew.toAcquiring := by
  rw [timeTransition_of_locked hstate, if_pos hoff, if_pos (by omega)]

/-- Holdover ends in acquiring where the offset is within the step threshold (02 R50). -/
theorem timeTransition_holdover_near {s : State} (hstate : s.th.state = .holdover)
    (hoff : absR s.filtered ≤ ((s.cfg.steer.stepUs * 1000 : Nat) : Rat)) : s.timeTransition = s.slew.toAcquiring := by
  unfold State.timeTransition
  simp only [hstate]
  rw [if_pos hoff]

/-- Holdover ends unaligned where the offset is beyond the step threshold (02 R50). -/
theorem timeTransition_holdover_far {s : State} (hstate : s.th.state = .holdover)
    (hoff : ((s.cfg.steer.stepUs * 1000 : Nat) : Rat) < absR s.filtered) : s.timeTransition = (s.record .thymeUnaligned 0 []).setTime .unaligned := by
  unfold State.timeTransition
  simp only [hstate]
  rw [if_neg (not_le.2 hoff)]

/-! ### What every transition keeps: the ports and the emissions -/

@[simp] theorem thymeStep_ports (s : State) (d : Int) : (s.thymeStep d).th.ports = s.th.ports := by
  obtain ⟨tp, age, h⟩ := thymeStep_th s d
  rw [h]

theorem mem_thymeStep {x : Emission} {s : State} (h : x ∈ s.out) (d : Int) : x ∈ (s.thymeStep d).out := by
  have hsets (u : State) : u.closeOpenSets.out = u.out := by
    refine foldl_keeps State.out (fun u w => ?_) _ u
    rfl
  unfold State.thymeStep State.restartPulses
  dsimp only
  rw [State.onThyme_out]
  refine mem_record ?_ ..
  rw [State.onThyme_out, State.onAcq_out, hsets]
  exact h

@[simp] theorem record_ports (s : State) (e : Ev) (n : Nat) (d : List Nat) : (s.record e n d).th.ports = s.th.ports := by rw [record_th]
@[simp] theorem setTime_ports (s : State) (x : TimeState) : (s.setTime x).th.ports = s.th.ports := rfl
@[simp] theorem toAcquiring_ports (s : State) : s.toAcquiring.th.ports = s.th.ports := rfl
@[simp] theorem slew_ports (s : State) : s.slew.th.ports = s.th.ports := rfl
@[simp] theorem setTime_out (s : State) (x : TimeState) : (s.setTime x).out = s.out := rfl
@[simp] theorem toAcquiring_out (s : State) : s.toAcquiring.out = s.out := rfl
@[simp] theorem slew_out (s : State) : s.slew.out = s.out := rfl

theorem acquire_ports (s : State) : s.acquire.th.ports = s.th.ports := by
  unfold State.acquire
  dsimp only
  (repeat' split) <;> simp

theorem timeTransition_ports (s : State) : s.timeTransition.th.ports = s.th.ports := by
  unfold State.timeTransition
  dsimp only
  split
  · (repeat' split) <;> simp
  · split <;> simp
  · (repeat' split) <;> simp
  all_goals exact acquire_ports s

theorem mem_acquire {x : Emission} {s : State} (h : x ∈ s.out) : x ∈ s.acquire.out := by
  have hlocked : x ∈ (s.slew.record .thymeLocked 0 []).out := mem_record (s := s.slew) h ..
  have hlockedAt : x ∈ (s.toAcquiring.slew.record .thymeLocked 0 []).out := mem_record (s := s.toAcquiring.slew) h ..
  unfold State.acquire
  dsimp only
  (repeat' split) <;> simp [h, mem_thymeStep, mem_record, hlocked, hlockedAt]

theorem mem_timeTransition {x : Emission} {s : State} (h : x ∈ s.out) : x ∈ s.timeTransition.out := by
  unfold State.timeTransition
  dsimp only
  split
  · (repeat' split) <;> simp [h]
  · split <;> simp [h, mem_record]
  · (repeat' split) <;> simp [h, mem_thymeStep]
  all_goals exact mem_acquire h

theorem measure_ports (s : State) (src : Nat) (off : Int) : (s.measure src off).th.ports = s.th.ports := by
  obtain ⟨b, hb⟩ := measured_th s src off
  rw [measure_eq, timeTransition_ports, hb]

theorem mem_measure {x : Emission} {s : State} (h : x ∈ s.out) (src : Nat) (off : Int) : x ∈ (s.measure src off).out :=
  mem_timeTransition (mem_measured h src off)

/-- A measurement of a locked Thyme that stays locked. -/
theorem measure_locked {s : State} {src : Nat} (hstate : s.th.state = .locked) (hrun : s.th.unlockRun < 15) (hsource : s.th.source = src) (off : Int) :
    (∃ a r b, (s.measure src off).th = { s.th with addend := a, unlockRun := r, offsets := (off :: s.th.offsets).take 8, labelled := b }) ∧
    (s.measure src off).bare.offTime = s.bare.offTime := by
  obtain ⟨b, hb⟩ := measured_th s src off
  obtain ⟨⟨a, r, hth⟩, hoff⟩ := timeTransition_locked (s := s.measured src off) (by rw [hb]; exact hstate) (by rw [hb]; exact hrun)
  rw [measure_eq]
  refine ⟨⟨a, r, b, ?_⟩, hoff.trans (measured_offTime ..)⟩
  rw [hth, hb, if_pos hsource, ← hsource]

/-! ### PTP messages (02 R52 to R54) -/

theorem received_bare (s : State) (p : Nat) : (s.received p).bare = s.bare := rfl

/-- PTP takes no message of another domain, and none on a port on which it does not run (01 R37; 02 R52). -/
theorem ptpReceive_idle {p : Fin 2} {m : PtpMsg} {s : State} (h : m.domain ≠ s.cfg.ptp.domain ∨ s.ptpRuns (p.val + 1) = false) :
    (ptpReceive p m s).bare = s.bare := by
  unfold ptpReceive
  dsimp only
  split
  · rfl
  next hup =>
    have hup : (s.pw.portsUp && s.portUp (p.val + 1)) = true := by simpa using hup
    have hnot : m.domain ≠ (s.received (p.val + 1)).cfg.ptp.domain ∨ p.val + 1 ∉ (s.received (p.val + 1)).cfg.ptp.ports := by
      refine h.imp id fun hoff => ?_
      rw [State.ptpRuns, hup, Bool.true_and] at hoff
      exact of_decide_eq_false hoff
    rw [if_pos hnot]
    exact received_bare ..

/-- What PTP does with a message it takes. -/
theorem ptpReceive_taken {p : Fin 2} {m : PtpMsg} {s : State} (hdomain : m.domain = s.cfg.ptp.domain) (hruns : s.ptpRuns (p.val + 1) = true) :
    (m.kind = .unsupported → ptpReceive p m s = (s.received (p.val + 1)).onThyme fun h => { h with ptpIgnored := wrapInc h.ptpIgnored }) ∧
    (m.kind = .announce → ptpReceive p m s = ((s.received (p.val + 1)).onPtp (p.val + 1) fun x => { x with
      available := m.selected, lastAnnounce := s.now, master := s.cfg.ptp.boundary && !m.better && !m.selected }).sourcesChanged) ∧
    (m.kind = .pdelayReq → ptpReceive p m s = ((s.received (p.val + 1)).ptpEvent p.val 3 m.seq).onPtp (p.val + 1) fun x => { x with
      respFollowUpDue := some (ptpTag 3 m.seq, s.now) }) ∧
    (m.kind = .syncOneStep → ptpReceive p m s = (s.received (p.val + 1)).portMeasured (p.val + 1) (s.syncOffset (p.val + 1) m.carried m.rx)) := by
  simp only [State.ptpRuns, Bool.and_eq_true, decide_eq_true_eq] at hruns
  obtain ⟨⟨hports, hup⟩, hmem⟩ := hruns
  have htaken : ¬(m.domain ≠ (s.received (p.val + 1)).cfg.ptp.domain ∨ p.val + 1 ∉ (s.received (p.val + 1)).cfg.ptp.ports) := by
    rintro (h | h)
    · exact h hdomain
    · exact h hmem
  unfold ptpReceive
  dsimp only
  rw [if_neg (by simp [hports, hup]), if_neg htaken]
  refine ⟨fun hk => ?_, fun hk => ?_, fun hk => ?_, fun hk => ?_⟩ <;> rw [hk] <;> rfl

/-- The choice of a source writes time and the assumption on it alone. -/
theorem sourcesChanged_keeps (s : State) : s.sourcesChanged.th.ports = s.th.ports ∧
    { s.sourcesChanged.bare with th := {}, dl := {} } = { s.bare with th := {}, dl := {} } := by
  unfold State.sourcesChanged
  dsimp only
  (repeat' split) <;> exact ⟨rfl, rfl⟩

theorem ptp_onPtp_same (s : State) (p : Nat) (f : PtpPort → PtpPort) : (s.onPtp p f).ptp p = f (s.ptp p) := Table.get_upd_same ..

theorem ptp_of_ports {a b : State} (h : a.th.ports = b.th.ports) (p : Nat) : a.ptp p = b.ptp p := congrArg (fun tb : Table PtpPort => tb.get p {}) h

/-- A measurement of a port does not change which ports are available. -/
theorem onPtp_available {f : PtpPort → PtpPort} (hf : ∀ x, (f x).available = x.available) (s : State) (p k : Nat) :
    ((s.onPtp p f).ptp k).available = (s.ptp k).available := by
  simp only [State.ptp, State.onPtp, State.onThyme_th, Table.get_upd]
  split
  next h => rw [hf, h]
  · rfl

theorem onPtp_bestSource {f : PtpPort → PtpPort} (hf : ∀ x, (f x).available = x.available) (s : State) (p : Nat) :
    (s.onPtp p f).bestSource = s.bestSource := by
  have hlabel : (s.onPtp p f).labelSource = s.labelSource := by
    simp only [State.labelSource, onPtp_available hf]
    rfl
  have hup : (s.onPtp p f).sourceUp = s.sourceUp := by
    funext c
    simp only [State.sourceUp, onPtp_available hf, hlabel]
    rfl
  simp only [State.bestSource, hup]
  rfl

/-- The source in use has measured (02 R48, R54). -/
theorem portMeasured_used {s : State} {p : Nat} (hbest : s.bestSource = p) (off : Int) :
    s.portMeasured p off = (s.onPtp p fun x => { x with offset := off, syncSeq := none }).measure p off := by
  unfold State.portMeasured
  dsimp only
  have hstill := onPtp_bestSource (f := fun x => { x with offset := off, syncSeq := none }) (fun _ => rfl) s p
  rw [if_pos (hstill.trans hbest)]

/-- Settles O2: what each kind of message does, and the transitions of a measurement by the time state it finds. -/
theorem timeMeasurements : Obligations.TimeMeasurements := by
  refine ⟨?idle, ?unsupported, ?announce, ?delayRequest, ?sync⟩
  case idle =>
    intro t p m s hidle
    have he : exec (.ptpMessageReceived t p m) s = execPtpMessageReceived t p m s := rfl
    exact does_of he (ptpReceive_idle (s := s.begin t) hidle)
  case unsupported =>
    intro t p m s hdomain hruns hkind
    have he : exec (.ptpMessageReceived t p m) s = execPtpMessageReceived t p m s := rfl
    refine does_of he ?_
    rw [(ptpReceive_taken (s := s.begin t) hdomain hruns).1 hkind]
    rfl
  case announce =>
    intro t p m s hdomain hruns hkind
    have he : exec (.ptpMessageReceived t p m) s = execPtpMessageReceived t p m s := rfl
    obtain ⟨-, htaken, -⟩ := ptpReceive_taken (s := s.begin t) hdomain hruns
    obtain ⟨hports, hkeeps⟩ := sourcesChanged_keeps (((s.begin t).received (p.val + 1)).onPtp (p.val + 1) fun x => { x with
      available := m.selected, lastAnnounce := (s.begin t).now, master := (s.begin t).cfg.ptp.boundary && !m.better && !m.selected })
    refine answers_of he ?_
    rw [htaken hkind]
    have hapart := settled_apart (fun u => { u with th := {}, dl := {} }) (s := s) (hkeeps.trans (by rfl)) t
    simp only [settled_ptp, ptp_of_ports hports, ptp_onPtp_same]
    exact ⟨trivial, rfl, hapart⟩
  case delayRequest =>
    intro t p m s hdomain hruns hkind
    have he : exec (.ptpMessageReceived t p m) s = execPtpMessageReceived t p m s := rfl
    obtain ⟨-, -, htaken, -⟩ := ptpReceive_taken (s := s.begin t) hdomain hruns
    refine answers_of he ?_
    rw [htaken hkind]
    generalize hu : State.onPtp _ (p.val + 1) _ = u
    have hsent : wrapped s.cfg { kind := .ptp, port := p.val + 1, bytes := [3, s.cfg.ptp.domain] ++ octetsOf 2 m.seq } ∈ u.out := by
      rw [← hu]
      have hbody := emitted ((s.begin t).received (p.val + 1)) .ptp (p.val + 1) ([3, s.cfg.ptp.domain] ++ octetsOf 2 m.seq ++ [])
      rw [List.append_nil] at hbody
      exact hbody
    have hapart := settled_apart (fun v => { v with th := {} }) (s := s) (u := u) (by rw [← hu]; rfl) t
    refine ⟨?_, mem_settle (s := s.keep t u) hsent s, hapart⟩
    rw [settled_ptp, ← hu, ptp_onPtp_same]
    rfl
  case sync =>
    intro t p m s hdomain hruns hkind hbest hsource
    have he : exec (.ptpMessageReceived t p m) s = execPtpMessageReceived t p m s := rfl
    obtain ⟨-, -, -, htaken⟩ := ptpReceive_taken (s := s.begin t) hdomain hruns
    have hbest : ((s.begin t).received (p.val + 1)).bestSource = p.val + 1 := hbest
    refine answers_of he ?_
    have hbegun : (s.begin t).syncOffset (p.val + 1) m.carried m.rx = s.syncOffset (p.val + 1) m.carried m.rx := rfl
    rw [htaken hkind, portMeasured_used hbest, hbegun]
    generalize s.syncOffset (p.val + 1) m.carried m.rx = one
    generalize hv : State.onPtp _ (p.val + 1) _ = v
    have hth : v.th = { (s.begin t).th with ports := v.th.ports } := by rw [← hv]; rfl
    have hcfg : v.cfg = s.cfg := by rw [← hv]; rfl
    obtain ⟨b, hmeasured⟩ := measured_th v (p.val + 1) one
    have hvsource : v.th.source = p.val + 1 := by rw [hth]; exact hsource
    have hoff : (v.measured (p.val + 1) one).filtered = meanR ((one :: s.th.offsets).take 8) := by
      rw [State.filtered, hmeasured, if_pos hvsource, hth]
      rfl
    have hstate : (v.measured (p.val + 1) one).th.state = s.th.state := by rw [hmeasured, hth]; rfl
    have hrun : (v.measured (p.val + 1) one).th.unlockRun = s.th.unlockRun := by rw [hmeasured, hth]; rfl
    have hmcfg : (v.measured (p.val + 1) one).cfg = s.cfg := (measured_cfg ..).trans hcfg
    have hports : (v.measured (p.val + 1) one).timeTransition.th.ports = v.th.ports := measure_ports ..
    simp only [settled_ptp, settle_th, keep_th, settle_dl, keep_dl]
    rw [measure_eq, ← hoff]
    refine ⟨?_, fun hheld hnear => ?_, fun hheld hfar => ?_, fun hlocked hfew => ?_, fun hlocked hmany hfar => ?_⟩
    · rw [ptp_of_ports hports, ← hv, ptp_onPtp_same]
    · rw [timeTransition_holdover_near (hstate.trans hheld) (by rwa [hmcfg])]
      rfl
    · rw [timeTransition_holdover_far (hstate.trans hheld) (by rwa [hmcfg])]
      exact ⟨rfl, rfl⟩
    · obtain ⟨⟨a, r, hstays⟩, -⟩ := timeTransition_locked (hstate.trans hlocked) (hrun.trans_lt hfew)
      rw [hstays]
      exact hstate.trans hlocked
    · rw [timeTransition_unlocks (hstate.trans hlocked) (hrun.symm ▸ hmany) (by rwa [hmcfg])]
      rfl

end Sys2Proof.Machine

namespace Sys2Proof.Machine

open Sys2Proof

/-! ### The twin link and the compensations (02 R45, R63; 10 R276) -/

/-- What a twin exchange does before a measurement (02 R63; 14 R361). -/
def State.twinExchanged (s : State) (offset edge : Int) : State :=
  let s1 := ((s.readStamp 3).2.twinSend .twinTime 3 []).timestamp 3 0
  let s2 := s1.onThyme fun h => { h with
    twinOffset := offset, edgeOffset := edge, disagreeSince := since s.now (decide (12800 < (offset - edge).natAbs)) h.disagreeSince
    twinAvail := true }
  s2.onTwin fun w => { w with lockHeldSince := since s.now (decide (offset.natAbs ≤ 1280)) w.lockHeldSince }

/-- The exchange of a twin whose turn it is. -/
def twinTurn (offset edge : Int) (s : State) : State :=
  if (s.twinExchanged offset edge).bestSource = 3 then
    (s.twinExchanged offset edge).measure 3 (roundZero (((if (s.path 0).lost then edge else offset : Int) : Rat) / 256))
  else s.twinExchanged offset edge

theorem execTwinTimeExchange_eq (t : Nat) (off edge : Int) (s : State) : execTwinTimeExchange t off edge s =
    s.run t fun s => if !s.isTwin || !s.thymeRuns then s else s.turn 3 125000 (twinTurn off edge) := by
  unfold execTwinTimeExchange twinTurn State.twinExchanged
  rfl

theorem readStamp_cases (s : State) (q : Nat) : ∃ f : Thyme → Table TsQueue, (s.readStamp q).2 = s.onThyme fun h => { h with queues := f h } := by
  unfold State.readStamp
  split
  next e r hq => exact ⟨fun h => h.queues.upd (q + 1) {} fun x => { x with entries := r }, rfl⟩
  next hq => exact ⟨fun h => h.queues, rfl⟩

/-- The state without time and the twin link. -/
def State.offTwinLink (s : State) : State := { s with th := {}, tw := {} }

theorem onThyme_offTwinLink (s : State) (f : Thyme → Thyme) : (s.onThyme f).bare.offTwinLink = s.bare.offTwinLink := rfl
theorem twinSend_offTwinLink (s : State) (k : EmKind) (n : Nat) (p : List Nat) : (s.twinSend k n p).bare.offTwinLink = s.bare.offTwinLink := rfl
/-- A timestamp is taken in its queue alone (02 R68). -/
theorem timestamp_eq (s : State) (q tag : Nat) : ∃ qs, s.timestamp q tag = s.onThyme fun h => { h with queues := qs } := ⟨_, rfl⟩

/-- The exchange takes the offsets, and leaves the time state and the other sources (02 R63). -/
theorem twinExchanged_th (s : State) (off edge : Int) : ∃ q, (s.twinExchanged off edge).th = { s.th with
    queues := q, twinOffset := off, edgeOffset := edge, twinAvail := true,
    disagreeSince := since s.now (decide (12800 < (off - edge).natAbs)) s.th.disagreeSince } := by
  obtain ⟨f, hf⟩ := readStamp_cases s 3
  obtain ⟨qs, hqs⟩ := timestamp_eq ((s.onThyme fun h => { h with queues := f h }).twinSend .twinTime 3 []) 3 0
  unfold State.twinExchanged
  dsimp only
  rw [State.onTwin_th, hf, hqs]
  exact ⟨qs, rfl⟩

/-- The exchange writes time and the twin link alone. -/
theorem twinExchanged_offTwinLink (s : State) (off edge : Int) : (s.twinExchanged off edge).bare.offTwinLink = s.bare.offTwinLink := by
  have htwin (u : State) (g : Twin → Twin) : (u.onTwin g).bare.offTwinLink = u.bare.offTwinLink := rfl
  obtain ⟨f, hf⟩ := readStamp_cases s 3
  obtain ⟨qs, hqs⟩ := timestamp_eq ((s.onThyme fun h => { h with queues := f h }).twinSend .twinTime 3 []) 3 0
  unfold State.twinExchanged
  dsimp only
  rw [htwin, hf, hqs, onThyme_offTwinLink, onThyme_offTwinLink, twinSend_offTwinLink, onThyme_offTwinLink]

/-- A twin sends its time message (02 R63; 14 R361). -/
theorem twinExchanged_sends (s : State) (off edge : Int) :
    wrapped s.cfg { kind := .twinTime, port := 0, bytes := s.twinFrame 3 (s.tw.seqs.get 3 0) [] } ∈ (s.twinExchanged off edge).out := by
  obtain ⟨f, hf⟩ := readStamp_cases s 3
  unfold State.twinExchanged
  rw [hf]
  exact emitted _ .twinTime 0 (s.twinFrame 3 (s.tw.seqs.get 3 0) [])

theorem twinTurn_sends (s : State) (off edge : Int) :
    wrapped s.cfg { kind := .twinTime, port := 0, bytes := s.twinFrame 3 (s.tw.seqs.get 3 0) [] } ∈ (twinTurn off edge s).out := by
  unfold twinTurn
  split
  · exact mem_measure (twinExchanged_sends s off edge) ..
  · exact twinExchanged_sends s off edge

/-- The source in use follows from the role, the order and what is available. -/
theorem bestSource_congr {a b : State} (hcfg : a.cfg = b.cfg) (hrole : a.tw.role = b.tw.role) (hports : a.th.ports = b.th.ports)
    (htwin : a.th.twinAvail = b.th.twinAvail) (hpps : a.th.ppsAvail = b.th.ppsAvail) (hlabelled : a.th.labelled = b.th.labelled) :
    a.bestSource = b.bestSource := by
  have hlabel : a.labelSource = b.labelSource := by simp only [State.labelSource, State.ptp, hrole, hports, htwin]
  have hup : a.sourceUp = b.sourceUp := by
    funext c
    simp only [State.sourceUp, State.ptp, hports, htwin, hpps, hlabelled, hlabel]
  simp only [State.bestSource, hcfg, hrole, hup]

/-- Where the twin link is not the source in use, the exchange measures nothing. -/
theorem twinTurn_unused {s : State} (hbest : (s.onThyme fun h => { h with twinAvail := true }).bestSource ≠ 3) (off edge : Int) :
    twinTurn off edge s = s.twinExchanged off edge := by
  obtain ⟨q, hth⟩ := twinExchanged_th s off edge
  obtain ⟨f, hf⟩ := readStamp_cases s 3
  obtain ⟨qs, hqs⟩ := timestamp_eq ((s.onThyme fun h => { h with queues := f h }).twinSend .twinTime 3 []) 3 0
  have hkeeps : (s.twinExchanged off edge).cfg = s.cfg ∧ (s.twinExchanged off edge).tw.role = s.tw.role := by
    unfold State.twinExchanged
    dsimp only
    rw [hf, hqs, State.onTwin_cfg, State.onTwin_tw]
    exact ⟨rfl, rfl⟩
  have hsame : (s.twinExchanged off edge).bestSource = (s.onThyme fun h => { h with twinAvail := true }).bestSource := by
    refine bestSource_congr hkeeps.1 hkeeps.2 ?_ ?_ ?_ ?_ <;> rw [hth] <;> rfl
  unfold twinTurn
  rw [if_neg (hsame.trans_ne hbest)]

theorem since_isSome (now : Nat) (c : Bool) (d : Option Nat) : (since now c d).isSome = c := by
  unfold since
  cases c
  · rfl
  · cases d <;> rfl

/-- Each value of a list of keys is written once (10 R276). -/
theorem get_foldl_put {f : Nat → Int} (n : Nat) (tb : Table Int) (i : Nat) :
    ((List.range n).foldl (fun (tb : Table Int) i => tb.put i 0 (f i)) tb).get i 0 = if i < n then f i else tb.get i 0 := by
  induction n with
  | zero => simp
  | succ n ih =>
    rw [List.range_succ, List.foldl_append, List.foldl_cons, List.foldl_nil, Table.get_put, ih]
    by_cases hi : i = n
    · simp [hi]
    · rw [if_neg hi]
      simp only [show i < n + 1 ↔ i < n by omega]

/-- A compensation that is lost already stays so. -/
theorem compLost_of {s : State} (h : s.acq.compLost = true) : ({ s with acq := { s.acq with compLost := true } } : State) = s := by rw [← h]

/-- Settles O3: each operation at its turn, and PPS and the twin link by whether they are the source in use. -/
theorem timeCompensation : Obligations.TimeCompensation := by
  refine ⟨?ppsUnused, ?ppsUsed, ?single, ?sent, ?exchanged, ?disagree, ?temperature, ?gainLost, ?gain⟩
  case ppsUnused =>
    intro t off s hbest
    have he : exec (.ppsInEdge t off) s = execPpsInEdge t off s := rfl
    have hbest : ¬((s.begin t).onThyme fun h => { h with ppsAvail := true }).bestSource = 4 := hbest
    refine does_of he ?_
    dsimp only
    rw [if_neg hbest]
    rfl
  case ppsUsed =>
    intro t off s hbest hsource hstate hrun
    have he : exec (.ppsInEdge t off) s = execPpsInEdge t off s := rfl
    have hbest : ((s.begin t).onThyme fun h => { h with ppsAvail := true }).bestSource = 4 := hbest
    have hstate : ((s.begin t).onThyme fun h => { h with ppsAvail := true }).th.state = .locked := hstate
    have hrun : ((s.begin t).onThyme fun h => { h with ppsAvail := true }).th.unlockRun < 15 := hrun
    have hsource : ((s.begin t).onThyme fun h => { h with ppsAvail := true }).th.source = 4 := hsource
    obtain ⟨⟨a, r, b, hth⟩, hoff⟩ := measure_locked hstate hrun hsource off
    refine answers_of he ?_
    dsimp only
    rw [if_pos hbest]
    have hapart := settled_apart State.offTime (s := s) (hoff.trans (by rfl)) t
    simp only [settle_th, keep_th, hth]
    exact ⟨rfl, hsource, rfl, hstate, hapart⟩
  case single =>
    intro t off edge s hsingle
    have he : exec (.twinTimeExchange t off edge) s = execTwinTimeExchange t off edge s := rfl
    have hsingle : (s.begin t).isTwin = false := hsingle
    exact idles_of (he.trans (execTwinTimeExchange_eq ..)) (if_pos (by simp [hsingle]))
  case sent =>
    intro t off edge s htwin hruns hopen
    have he : exec (.twinTimeExchange t off edge) s = execTwinTimeExchange t off edge s := rfl
    have htwin : (s.begin t).isTwin = true := htwin
    have hruns : (s.begin t).thymeRuns = true := hruns
    have hsent := twinTurn_sends ((s.begin t).turnTaken 3) off edge
    refine sends_of (he.trans (execTwinTimeExchange_eq ..)) ?_
    rw [if_neg (by simp [htwin, hruns]), turn_open hopen]
    exact hsent
  case exchanged =>
    intro t off edge s htwin hruns hopen hbest
    have he : exec (.twinTimeExchange t off edge) s = execTwinTimeExchange t off edge s := rfl
    have htwin : (s.begin t).isTwin = true := htwin
    have hruns : (s.begin t).thymeRuns = true := hruns
    have hbest : (((s.begin t).turnTaken 3).onThyme fun h => { h with twinAvail := true }).bestSource ≠ 3 := hbest
    obtain ⟨q, hth⟩ := twinExchanged_th ((s.begin t).turnTaken 3) off edge
    have hbare : ((s.begin t).turnTaken 3).bare.offTwinLink = s.bare.offTwinLink := rfl
    refine answers_of (he.trans (execTwinTimeExchange_eq ..)) ?_
    rw [if_neg (by simp [htwin, hruns]), turn_open hopen, twinTurn_unused hbest]
    have hapart := settled_apart State.offTwinLink (s := s) ((twinExchanged_offTwinLink _ off edge).trans hbare) t
    simp only [settle_th, keep_th, hth]
    refine ⟨trivial, trivial, trivial, rfl, ?_, hapart⟩
    rw [since_isSome, decide_eq_true_eq]
  case disagree =>
    intro t d s hsince hover hrole
    have he : exec (.twinOffsetDisagreement t) s = execTwinOffsetDisagreement t s := rfl
    have hheld : (s.begin t).heldFor (s.begin t).th.disagreeSince (sec 1) = true := by
      have hsince : (s.begin t).th.disagreeSince = some d := hsince
      rw [hsince]
      exact decide_eq_true hover
    have hrole : decide ((s.begin t).tw.role = .leader) = false := decide_eq_false hrole
    refine does_of he ?_
    rw [hheld, hrole, Bool.not_false, Bool.and_true, if_pos rfl, record_then_bare fun u => u.onThyme fun h => { h with disagreeSince := none }]
    rfl
  case temperature =>
    intro t temp s hruns hopen
    have he : exec (.temperatureCompensationUpdate t temp) s = execTemperatureCompensationUpdate t temp s := rfl
    have hruns : (s.begin t).thymeRuns = true := hruns
    refine does_of he ?_
    rw [if_neg (by simp [hruns]), turn_open hopen]
    rfl
  case gainLost =>
    intro t s hruns hopen hfirst hsecond
    have he : exec (.converterCompensationUpdate t) s = execConverterCompensationUpdate t s := rfl
    have hruns : (s.begin t).sageRuns = true := hruns
    have hfirst : qValid (((s.begin t).turnTaken 2).tchan 0x410).quality = false := hfirst
    have hsecond : qValid (((s.begin t).turnTaken 2).tchan 0x411).quality = false := hsecond
    refine does_of he ?_
    rw [if_neg (by simp [hruns]), turn_open hopen]
    simp only [hfirst, hsecond, Bool.false_eq_true, if_false]
    split
    next hlost => exact (congrArg State.bare (compLost_of (s := s) hlost) :).symm
    · rw [record_bare]
      rfl
  case gain =>
    intro t s hruns hopen hvalid
    have he : exec (.converterCompensationUpdate t) s = execConverterCompensationUpdate t s := rfl
    have hruns : (s.begin t).sageRuns = true := hruns
    have hvalid : qValid (((s.begin t).turnTaken 2).tchan 0x410).quality = true := hvalid
    refine answers_of he ?_
    rw [if_neg (by simp [hruns]), turn_open hopen]
    simp only [hvalid, if_true]
    have hapart := settled_apart (fun u => { u with acq := {} }) (s := s) (u := ((s.begin t).turnTaken 2).onAcq fun q => { q with
      compGain := (List.range 13).foldl (fun (tb : Table Int) i => tb.put i 0 (s.acq.applied.gainTemp.get i 0 * ((s.tchan 0x410).value - 2500))) {}
      compLost := false }) (by rfl) t
    simp only [settle_acq, keep_acq]
    refine ⟨rfl, fun i hi => ?_, hapart⟩
    have hwritten := get_foldl_put (f := fun i => s.acq.applied.gainTemp.get i 0 * ((s.tchan 0x410).value - 2500)) 13 {} i
    rw [if_pos hi] at hwritten
    exact hwritten

end Sys2Proof.Machine

/-! What time drives: PPS and pulse outputs, timestamps, PTP transmissions and propagation delays (02 R52, R53, R60, R64 to R69), and the taking of a maintenance command (17 R435). -/

namespace Sys2Proof.Machine

open Sys2Proof

/-! ### A maintenance command that is taken (17 R435) -/

/-- The state in which the meaning of a command that is taken begins: its frame is counted and its sequence noted. -/
def State.commandTaken (s : State) (m : Maint) : State :=
  (s.received (if m.key = 8 then 3 else m.port)).onTele m.key fun y => { y with client := { y.client with lastSeq := m.seq } }

theorem commandTaken_th (s : State) (m : Maint) : (s.commandTaken m).th = s.th := rfl

/-- A command that is taken is carried out and answered (17 R435). -/
theorem maint_taken {s : State} {m : Maint} (htakes : s.takes m) (code : Nat) (body : State → State × Nat × Nat × List Nat) :
    s.maint m code body = (body (s.commandTaken m)).1.cmdAnswer m code (body (s.commandTaken m)).2.1 (body (s.commandTaken m)).2.2.1
      (body (s.commandTaken m)).2.2.2 := by
  obtain ⟨hreach, ⟨c, hclient, hright⟩, hopen, hsession, hseq, hfree⟩ := htakes
  have hclient : (s.received (if m.key = 8 then 3 else m.port)).teleCfg m.key = some c := hclient
  have hsession : ¬(m.session = 0 ∨ ((s.received (if m.key = 8 then 3 else m.port)).tele m.key).client.session ≠ m.session) := by
    rintro (h | h)
    · exact hopen h
    · exact h hsession
  have hseq : ((s.received (if m.key = 8 then 3 else m.port)).tele m.key).client.lastSeq < m.seq := hseq
  have hfree : ((s.received (if m.key = 8 then 3 else m.port)).tele m.key).inFlight = none := hfree
  unfold State.maint
  dsimp only
  rw [if_neg (by simp [hreach]), hclient]
  dsimp only
  rw [if_neg hsession, if_neg (by omega), if_neg (by omega), if_neg (by simp [hfree]), if_neg (by simp [hright])]
  rfl

/-- The state without the network: what the answer to a command leaves alone. -/
def State.offNet (s : State) : State := { s with nt := {} }

theorem onTele_offNet (s : State) (k : Nat) (f : TeleSession → TeleSession) : (s.onTele k f).bare.offNet = s.bare.offNet := rfl

theorem teleSend_bare (s : State) (k : EmKind) (key n q : Nat) (p : List Nat) : (s.teleSend k key n q p).bare = s.bare := emit_bare ..

theorem cmdAnswer_offNet (s : State) (m : Maint) (code status reason : Nat) (r : List Nat) :
    (s.cmdAnswer m code status reason r).bare.offNet = s.bare.offNet := by
  unfold State.cmdAnswer
  dsimp only
  rw [onTele_offNet, teleSend_bare]

theorem commandTaken_offNet (s : State) (m : Maint) : (s.commandTaken m).bare.offNet = s.bare.offNet := by
  rw [State.commandTaken, onTele_offNet, received_bare]

/-- The answer is stored for a repeated sequence (17 R435). -/
theorem cmdAnswer_stored (s : State) (m : Maint) (code status reason : Nat) (r : List Nat) :
    ((s.cmdAnswer m code status reason r).tele m.key).client.stored = cmdReply code status reason r := by
  unfold State.cmdAnswer State.tele State.onTele
  dsimp only
  rw [State.onNet_nt, Table.get_upd_same]

@[simp] theorem settle_tele (s u : State) (t k : Nat) : (s.settle (s.keep t u)).tele k = u.tele k := by
  have hsessions : (s.settle (s.keep t u)).nt.sessions = u.nt.sessions := by
    have hbare := settle_bare s (s.keep t u)
    generalize s.settle (s.keep t u) = v at *
    exact (congrArg (fun w : State => w.nt.sessions) hbare :)
  rw [State.tele, hsessions]
  rfl

/-- What a command does that is taken: its meaning's effect, beside the network, and its status (17 R435, R436). -/
theorem answers_maint {c : Instr} {s v : State} {t code status reason : Nat} {m : Maint} {r : List Nat} {body : State → State × Nat × Nat × List Nat}
    {P : State → Prop} (he : exec c s = s.run t fun s => s.maint m code body) (htakes : s.takes m)
    (hbody : body ((s.begin t).commandTaken m) = (v, status, reason, r))
    (h : ∀ s', s'.th = v.th → (s'.tele m.key).client.stored = cmdReply code status reason r → s'.bare.offNet = { v.bare.offNet with pending := s.pending } → P s') :
    Answers c s P := by
  have htakes : (s.begin t).takes m := htakes
  refine answers_of he ?_
  rw [maint_taken htakes, hbody]
  refine h _ ?_ ?_ ?_
  · rw [settle_th]
    rfl
  · rw [settle_tele]
    exact cmdAnswer_stored ..
  · rw [settle_bare]
    exact (congrArg (fun u : State => ({ u with pending := s.pending } : State)) (cmdAnswer_offNet v m code status reason r) :)

theorem begun_offNet (s : State) (t : Nat) (m : Maint) : ((s.begin t).commandTaken m).bare.offNet = s.bare.offNet :=
  (commandTaken_offNet ..).trans (congrArg State.offNet (begin_bare ..))

/-! ### Pulse outputs (02 R64 to R66) -/

/-- No step is deferred while locked (02 R51). -/
theorem deferredStep_locked {s : State} (hstate : s.th.state = .locked) : s.deferredStep = s := by
  unfold State.deferredStep
  rw [if_neg (by simp [hstate])]

/-- An armed pulse that is due rises (02 R66). -/
theorem pulseRise_due {o a : Nat} {s : State} (hruns : s.thymeRuns = true) (hlow : (s.th.tp.get o {}).high = false)
    (harmed : (s.th.tp.get o {}).armedAt = some a) (hdue : a ≤ s.th.reading) : pulseRise o s =
      (s.onThyme fun h => { h with tp := h.tp.put o {} { s.th.tp.get o {} with armedAt := none, high := true, fallAt := a + (s.tpCfg o).width } }).emit
        .timedPulse o [if (s.tpCfg o).low then 0 else 1] := by
  unfold pulseRise
  dsimp only
  rw [if_neg (by simp [hruns, hlow]), harmed]
  dsimp only
  rw [if_pos hdue]

/-- An armed pulse does not rise before its start (02 R66). -/
theorem pulseRise_early {o a : Nat} {s : State} (harmed : (s.th.tp.get o {}).armedAt = some a) (hearly : s.th.reading < a) : pulseRise o s = s := by
  unfold pulseRise
  dsimp only
  rw [harmed]
  split
  · rfl
  · exact if_neg hearly.not_ge

/-- An arming holds its start, or none where the start is less than 1 ms ahead (02 R66). -/
theorem armOnce_armed (s : State) (o start sub : Nat) : ((s.armOnce o start sub).th.tp.get o {}).armedAt =
      (if decide (start < s.th.reading + 1000000) then none else some start) ∧ ((s.armOnce o start sub).th.tp.get o {}).armedSub = sub := by
  unfold State.armOnce
  extract_lets miss armed
  have hget : armed.th.tp.get o {} = { s.th.tp.get o {} with armedAt := if miss then none else some start, armedSub := sub } := Table.get_upd_same ..
  split
  next hmiss =>
    rw [record_th, hget]
    exact ⟨if_pos hmiss, rfl⟩
  next hmiss =>
    rw [hget]
    exact ⟨if_neg hmiss, rfl⟩

/-- The state without time and the network. -/
def State.offTimeNet (s : State) : State := { s with th := {}, nt := {} }

theorem offTimeNet_of_offNet {a b : State} {p : List Instr} (h : a.offNet = { b.offNet with pending := p }) :
    a.offTimeNet = { b.offTimeNet with pending := p } := (congrArg (fun u : State => ({ u with th := {} } : State)) h :)

theorem armOnce_offTimeNet (s : State) (o start sub : Nat) : (s.armOnce o start sub).bare.offTimeNet = s.bare.offTimeNet := by
  unfold State.armOnce
  dsimp only
  split
  · rw [record_bare]; rfl
  · rfl

/-- The meaning of ARM_PULSE. -/
def armBody (output : Nat) (start : PTime) (sub : Nat) (s : State) : State × Nat × Nat × List Nat :=
  if output ≠ 1 ∧ output ≠ 2 ∨ 65536 ≤ sub ∨ start.ok = false then (s, stInvalid, 0, [])
  else if (s.tpCfg output).mode = 2 then (s, stBusy, 0, [])
  else done (s.armOnce output start.ns sub)

theorem execArmPulse_eq (t : Nat) (m : Maint) (o : Nat) (a : PTime) (sub : Nat) (s : State) :
    execArmPulse t m o a sub s = s.run t fun s => s.maint m 0x0801 (armBody o a sub) := rfl

theorem armBody_once {o sub : Nat} {a : PTime} {s : State} (hfirst : 1 ≤ o) (hlast : o ≤ 2) (hsub : sub < 65536) (hok : a.ok = true)
    (hmode : (s.tpCfg o).mode ≠ 2) : armBody o a sub s = done (s.armOnce o a.ns sub) := by
  have hvalid : ¬(o ≠ 1 ∧ o ≠ 2 ∨ 65536 ≤ sub ∨ a.ok = false) := by
    rw [hok]
    simp only [Bool.true_eq_false, or_false]
    omega
  rw [armBody, if_neg hvalid, if_neg hmode]

theorem armBody_periodic {o sub : Nat} {a : PTime} {s : State} (hfirst : 1 ≤ o) (hlast : o ≤ 2) (hsub : sub < 65536) (hok : a.ok = true)
    (hmode : (s.tpCfg o).mode = 2) : armBody o a sub s = (s, stBusy, 0, []) := by
  have hvalid : ¬(o ≠ 1 ∧ o ≠ 2 ∨ 65536 ≤ sub ∨ a.ok = false) := by
    rw [hok]
    simp only [Bool.true_eq_false, or_false]
    omega
  rw [armBody, if_neg hvalid, if_pos hmode]

theorem armBody_invalid {o sub : Nat} {a : PTime} {s : State} (hok : a.ok = false) : armBody o a sub s = (s, stInvalid, 0, []) := by
  rw [armBody, if_pos (.inr (.inr hok))]

/-- A once pulse that is armed by a command (02 R65, R66). -/
theorem answers_armPulse {t o sub : Nat} {m : Maint} {a : PTime} {s : State} (htakes : s.takes m) (hfirst : 1 ≤ o) (hlast : o ≤ 2) (hsub : sub < 65536)
    (hok : a.ok = true) (hmode : (s.tpCfg o).mode ≠ 2) : Answers (.armPulse t m o a sub) s fun s' =>
      ((s'.th.tp.get o {}).armedAt = if decide (a.ns < (s.begin t).th.reading + 1000000) then none else some a.ns) ∧ (s'.th.tp.get o {}).armedSub = sub ∧
      s'.bare.offTimeNet = s.bare.offTimeNet := by
  have he : exec (.armPulse t m o a sub) s = execArmPulse t m o a sub s := rfl
  have hmode : (((s.begin t).commandTaken m).tpCfg o).mode ≠ 2 := hmode
  have harmed := armOnce_armed ((s.begin t).commandTaken m) o a.ns sub
  have harming := armOnce_offTimeNet ((s.begin t).commandTaken m) o a.ns sub
  refine answers_maint (he.trans (execArmPulse_eq ..)) htakes (armBody_once hfirst hlast hsub hok hmode) fun s' hth _ hapart => ?_
  rw [hth, harmed.1, harmed.2, commandTaken_th]
  refine ⟨rfl, rfl, ?_⟩
  have hcounted : ((s.begin t).commandTaken m).bare.offTimeNet = s.bare.offTimeNet :=
    (congrArg (fun u : State => ({ u with th := {} } : State)) (begun_offNet s t m) :)
  rw [offTimeNet_of_offNet hapart, harming, hcounted]
  rfl

/-- A command that leaves the outputs as they are is answered with its status (17 R435, R436). -/
theorem answers_armPulse_status {t o sub status : Nat} {m : Maint} {a : PTime} {s : State} (htakes : s.takes m)
    (hbody : armBody o a sub ((s.begin t).commandTaken m) = ((s.begin t).commandTaken m, status, 0, [])) : Answers (.armPulse t m o a sub) s fun s' =>
      (s'.tele m.key).client.stored = cmdReply 0x0801 status 0 [] ∧ s'.bare.offNet = s.bare.offNet := by
  have he : exec (.armPulse t m o a sub) s = execArmPulse t m o a sub s := rfl
  refine answers_maint (he.trans (execArmPulse_eq ..)) htakes hbody fun s' _ hstored hapart => ⟨hstored, ?_⟩
  rw [hapart, begun_offNet]
  rfl

/-! ### PTP transmissions (02 R52, R53) -/

theorem ptpTransmit_off {p : Fin 2} {s : State} (hoff : s.ptpRuns (p.val + 1) = false) (k : PtpKind) : ptpTransmit p k s = s := by
  unfold ptpTransmit
  dsimp only
  rw [hoff]
  rfl

theorem ptpTransmit_delayRequest {p : Fin 2} {s : State} (hruns : s.ptpRuns (p.val + 1) = true) : ptpTransmit p .pdelayReq s =
    (s.ptpEvent p.val 2 (s.ptp (p.val + 1)).seqPdelay).onPtp (p.val + 1) fun x => { x with seqPdelay := (x.seqPdelay + 1) % 65536 } := by
  unfold ptpTransmit
  dsimp only
  rw [hruns]
  rfl

theorem ptpTransmit_sync {p : Fin 2} {s : State} (hruns : s.ptpRuns (p.val + 1) = true) (hmaster : s.ptpMaster (p.val + 1) = true) :
    ptpTransmit p .syncTwoStep s = (s.ptpEvent p.val 0 (s.ptp (p.val + 1)).seqSync).onPtp (p.val + 1) fun x => { x with
      seqSync := (x.seqSync + 1) % 65536, followUpDue := some (ptpTag 0 (s.ptp (p.val + 1)).seqSync, s.now) } := by
  unfold ptpTransmit
  dsimp only
  rw [hruns, hmaster]
  rfl

/-- An event message leaves its port, and its sequence is counted there (02 R52, R68). -/
theorem ptpEvent_sends (s : State) (port mt seq : Nat) :
    wrapped s.cfg { kind := .ptp, port := port + 1, bytes := [mt, s.cfg.ptp.domain] ++ octetsOf 2 seq } ∈ (s.ptpEvent port mt seq).out := by
  have hsent := emitted s .ptp (port + 1) ([mt, s.cfg.ptp.domain] ++ octetsOf 2 seq ++ [])
  rw [List.append_nil] at hsent
  unfold State.ptpEvent State.ptpSend
  rw [List.append_nil]
  exact hsent

theorem ptpEvent_ptp (s : State) (port mt seq p : Nat) : (s.ptpEvent port mt seq).ptp p = s.ptp p := rfl

/-- The state without time. -/
def State.offThyme (s : State) : State := { s with th := {} }

theorem onPtp_offThyme (s : State) (p : Nat) (f : PtpPort → PtpPort) : (s.onPtp p f).bare.offThyme = s.bare.offThyme := rfl
theorem ptpEvent_offThyme (s : State) (port mt seq : Nat) : (s.ptpEvent port mt seq).bare.offThyme = s.bare.offThyme := rfl

/-! ### Propagation delays (02 R60) -/

/-- The measured delay is used and sent to its node (02 R60). -/
def delayNoted (n d : Nat) (s : State) : State :=
  s.onNode n fun x => { x with propDelay := d, work := x.work ++ [{ code := 8, params := octetsOf 4 d }] }

/-- What a measurement does at its turn: the deviation from the installation value is only recorded. -/
def delayTurn (n d : Nat) (s : State) : State :=
  if 1280 < ((d : Int) - (Config.installDelay n : Int)).natAbs then
    (delayNoted n d s).record .delayDeviation n (enc [fN 4 d, fN 4 (Config.installDelay n)])
  else delayNoted n d s

theorem execPropagationDelay_eq (t : Nat) (n : Fin 128) (d : Nat) (s : State) : execPropagationDelayMeasurement t n d s =
    s.run t fun s => if !s.leads || !s.ra.transmit || !s.thymeRuns || !(s.cfg.nodeEntry n.val).isSome then s
      else s.turn (0x100 + n.val) (sec 10) (delayTurn n.val (d % two32)) := rfl

theorem delayTurn_ra (n d : Nat) (s : State) : (delayTurn n d s).ra = (delayNoted n d s).ra := by
  unfold delayTurn
  split
  · exact record_ra ..
  · rfl

theorem delayTurn_offRadio (n d : Nat) (s : State) : (delayTurn n d s).offRadio = s.offRadio := by
  unfold delayTurn
  split
  · exact record_offRadio ..
  · rfl

/-- Settles O4: each output, command and queue by the equation of its operation under the clause's conditions. -/
theorem timedOutputs : Obligations.TimedOutputs := by
  have hpps (t : Nat) (rise : Bool) (s : State) : exec (.ppsOutPulse t rise) s = execPpsOutPulse t rise s := rfl
  have hpulse (t : Nat) (o : Fin 2) (rise : Bool) (s : State) : exec (.timedOutputPulse t o rise) s = execTimedOutputPulse t o rise s := rfl
  have hsend (t : Nat) (p : Fin 2) (k : PtpKind) (s : State) : exec (.ptpMessageTransmit t p k) s = execPtpMessageTransmit t p k s := rfl
  refine ⟨?ppsRises, ?ppsStays, ?ppsFalls, ?rises, ?early, ?falls, ?armed, ?missed, ?busy, ?invalid, ?expired, ?off, ?delayRequest, ?sync, ?delay⟩
  case ppsRises =>
    intro t s hruns hrank hsecond hwidth
    have hruns : (s.begin t).thymeRuns = true := hruns
    have hrises : timeRank (s.begin t).th.state ≤ timeRank (timeOfCode (s.begin t).cfg.pps.squelch) ∧
        (s.begin t).th.ppsSecond ≠ some ((s.begin t).th.reading / 1000000000) ∧ (s.begin t).th.reading % 1000000000 < ms (s.begin t).cfg.pps.widthMs :=
      ⟨hrank, hsecond, hwidth⟩
    refine ⟨does_of (hpps ..) ?_, sends_of (hpps ..) ?_⟩
    · dsimp only
      rw [if_neg (by simp [hruns]), if_pos rfl, if_pos hrises, emit_bare]
      rfl
    · dsimp only
      rw [if_neg (by simp [hruns]), if_pos rfl, if_pos hrises]
      exact emitted ..
  case ppsStays =>
    intro t s hstays
    have hnot : ¬(timeRank (s.begin t).th.state ≤ timeRank (timeOfCode (s.begin t).cfg.pps.squelch) ∧
        (s.begin t).th.ppsSecond ≠ some ((s.begin t).th.reading / 1000000000) ∧ (s.begin t).th.reading % 1000000000 < ms (s.begin t).cfg.pps.widthMs) := by
      rintro ⟨hrank, hsecond, hwidth⟩
      obtain h | h | h := hstays
      · exact absurd hrank h.not_ge
      · exact hsecond h
      · exact absurd hwidth h.not_gt
    refine idles_of (hpps ..) ?_
    dsimp only
    rw [if_pos rfl, if_neg hnot, ite_self]
  case ppsFalls =>
    intro t n s hruns hhigh hsecond hover hlocked
    have hruns : (s.begin t).thymeRuns = true := hruns
    have hhigh : (s.begin t).th.ppsHigh = true := hhigh
    have hsecond : (s.begin t).th.ppsSecond = some n := hsecond
    have hover : ((s.begin t).th.ppsSecond.getD 0) * 1000000000 + ms (s.begin t).cfg.pps.widthMs ≤ (s.begin t).th.reading := by
      rw [hsecond]
      exact hover
    have hlocked : (((s.begin t).onThyme fun h => { h with ppsHigh := false }).emit .ppsOut 0 [0]).th.state = .locked := hlocked
    refine ⟨does_of (hpps ..) ?_, sends_of (hpps ..) ?_⟩
    · dsimp only
      rw [if_neg (by simp [hruns]), if_neg Bool.false_ne_true, hhigh, decide_eq_true hover, Bool.and_true, if_pos rfl, deferredStep_locked hlocked, emit_bare]
      rfl
    · dsimp only
      rw [if_neg (by simp [hruns]), if_neg Bool.false_ne_true, hhigh, decide_eq_true hover, Bool.and_true, if_pos rfl, deferredStep_locked hlocked]
      exact emitted ..
  case rises =>
    intro t o a s hruns hlow harmed hdue
    have hrise := pulseRise_due (s := s.begin t) hruns hlow harmed hdue
    refine answers_of (hpulse ..) ?_
    dsimp only
    rw [if_pos rfl, hrise]
    generalize hv : State.emit _ _ _ _ = v
    have hth : v.th.tp = s.th.tp.put (o.val + 1) {} { s.th.tp.get (o.val + 1) {} with armedAt := none, high := true, fallAt := a + (s.tpCfg (o.val + 1)).width } := by
      rw [← hv]
      rfl
    have hapart := settled_apart (fun u => { u with th := {} }) (s := s) (u := v) (by rw [← hv]; rfl) t
    simp only [settle_th, keep_th, hth, Table.get_put_same]
    exact ⟨trivial, trivial, trivial, fun k hk => Table.get_put_other _ hk _ _, hapart⟩
  case early =>
    intro t o a s harmed hearly
    refine idles_of (hpulse ..) ?_
    dsimp only
    rw [if_pos rfl, pulseRise_early (s := s.begin t) harmed hearly]
  case falls =>
    intro t o s hruns hhigh hover hlocked
    have hfalls : ((s.begin t).thymeRuns && ((s.begin t).th.tp.get (o.val + 1) {}).high &&
        decide (((s.begin t).th.tp.get (o.val + 1) {}).fallAt ≤ (s.begin t).th.reading)) = true := by
      have hruns : (s.begin t).thymeRuns = true := hruns
      have hhigh : ((s.begin t).th.tp.get (o.val + 1) {}).high = true := hhigh
      have hover : ((s.begin t).th.tp.get (o.val + 1) {}).fallAt ≤ (s.begin t).th.reading := hover
      rw [hruns, hhigh, decide_eq_true hover]
      rfl
    refine answers_of (hpulse ..) ?_
    dsimp only
    rw [if_neg Bool.false_ne_true, if_pos hfalls, deferredStep_locked (by exact hlocked)]
    generalize hv : State.emit _ _ _ _ = v
    have hth : v.th.tp = s.th.tp.upd (o.val + 1) {} fun p => { p with high := false } := by
      rw [← hv]
      rfl
    have hsent : wrapped s.cfg { kind := .timedPulse, port := o.val + 1, bytes := [if (s.tpCfg (o.val + 1)).low then 1 else 0] } ∈ v.out := by
      rw [← hv]
      exact emitted ..
    have hapart := settled_apart (fun u => { u with th := {} }) (s := s) (u := v) (by rw [← hv]; rfl) t
    refine ⟨?_, mem_settle (s := s.keep t v) hsent s, hapart⟩
    rw [settle_th, keep_th, hth, Table.get_upd_same]
  case armed =>
    intro t m o a sub s htakes hfirst hlast hsub hok hmode hahead
    obtain ⟨s', hexec, harmed, hfraction, hapart⟩ := answers_armPulse (t := t) htakes hfirst hlast hsub hok hmode
    rw [decide_eq_false hahead.not_gt, if_neg Bool.false_ne_true] at harmed
    exact ⟨s', hexec, harmed, hfraction, hapart⟩
  case missed =>
    intro t m o a sub s htakes hfirst hlast hsub hok hmode hlate
    obtain ⟨s', hexec, harmed, -, hapart⟩ := answers_armPulse (t := t) htakes hfirst hlast hsub hok hmode
    rw [decide_eq_true hlate, if_pos rfl] at harmed
    exact ⟨s', hexec, harmed, hapart⟩
  case busy =>
    intro t m o a sub s htakes hfirst hlast hsub hok hmode
    exact answers_armPulse_status htakes (armBody_periodic hfirst hlast hsub hok hmode)
  case invalid =>
    intro t m o a sub s htakes hok
    exact answers_armPulse_status htakes (armBody_invalid hok)
  case expired =>
    intro t q e r s hentries hold
    have he : exec (.timestampEntryExpiry t q) s = execTimestampEntryExpiry t q s := rfl
    have hentries : ((s.begin t).th.queues.get (q.val + 1) {}).entries = e :: r := hentries
    refine answers_of he ?_
    have hapart := settled_apart (fun u => { u with th := {} }) (s := s) (u := (s.begin t).onThyme fun h => { h with queues := h.queues.upd (q.val + 1) {} fun x =>
      match x.entries with
      | e :: r => if e.at_ + ms 10 ≤ (s.begin t).th.reading then { x with entries := r, expired := wrapInc x.expired, lossPending := true } else x
      | [] => x }) (by rfl) t
    simp only [settle_th, keep_th, State.onThyme_th, Table.get_upd_same]
    refine ⟨?_, fun k hk => Table.get_upd_other _ hk _ _, hapart⟩
    rw [hentries]
    dsimp only
    rw [if_pos hold]
    rfl
  case off =>
    intro t p s hoff k
    exact idles_of (hsend ..) (ptpTransmit_off (s := s.begin t) hoff k)
  case delayRequest =>
    intro t p s hruns
    have hsent := ptpEvent_sends (s.begin t) p.val 2 ((s.begin t).ptp (p.val + 1)).seqPdelay
    refine answers_of (hsend ..) ?_
    rw [ptpTransmit_delayRequest (s := s.begin t) hruns]
    generalize hv : State.onPtp _ _ _ = v
    have hptp : v.ptp (p.val + 1) = { s.ptp (p.val + 1) with seqPdelay := ((s.ptp (p.val + 1)).seqPdelay + 1) % 65536 } := by
      rw [← hv, ptp_onPtp_same, ptpEvent_ptp]
      rfl
    have hapart := settled_apart State.offThyme (s := s) (u := v) (by rw [← hv, onPtp_offThyme, ptpEvent_offThyme, begin_bare]) t
    rw [settled_ptp, hptp]
    exact ⟨rfl, mem_settle (s := s.keep t v) (by rw [← hv]; exact hsent) s, hapart⟩
  case sync =>
    intro t p s hruns hmaster
    have hsent := ptpEvent_sends (s.begin t) p.val 0 ((s.begin t).ptp (p.val + 1)).seqSync
    refine answers_of (hsend ..) ?_
    rw [ptpTransmit_sync (s := s.begin t) hruns hmaster]
    generalize hv : State.onPtp _ _ _ = v
    have hptp : (v.ptp (p.val + 1)).followUpDue = some (ptpTag 0 (s.ptp (p.val + 1)).seqSync, max s.now t) := by
      rw [← hv, ptp_onPtp_same]
      rfl
    have hapart := settled_apart State.offThyme (s := s) (u := v) (by rw [← hv, onPtp_offThyme, ptpEvent_offThyme, begin_bare]) t
    rw [settled_ptp, hptp]
    exact ⟨rfl, mem_settle (s := s.keep t v) (by rw [← hv]; exact hsent) s, hapart⟩
  case delay =>
    intro t n d s hleads htransmit hruns hnode hopen hd
    have he : exec (.propagationDelayMeasurement t n d) s = execPropagationDelayMeasurement t n d s := rfl
    have hgoes : ¬((!(s.begin t).leads || !(s.begin t).ra.transmit || !(s.begin t).thymeRuns || !((s.begin t).cfg.nodeEntry n.val).isSome) = true) := by
      have hleads : (s.begin t).leads = true := hleads
      have htransmit : (s.begin t).ra.transmit = true := htransmit
      have hruns : (s.begin t).thymeRuns = true := hruns
      have hnode : ((s.begin t).cfg.nodeEntry n.val).isSome = true := hnode
      rw [hleads, htransmit, hruns, hnode]
      decide
    have hnoted (k : Nat) := node_of_ra (delayTurn_ra n.val d ((s.begin t).turnTaken (0x100 + n.val))) k
    have hradio : (delayTurn n.val d ((s.begin t).turnTaken (0x100 + n.val))).offRadio = s.offRadio := (delayTurn_offRadio ..).trans (by rfl)
    refine answers_of (he.trans (execPropagationDelay_eq ..)) ?_
    rw [if_neg hgoes, turn_open hopen, Nat.mod_eq_of_lt hd]
    refine ⟨?_, fun k hk => ?_, settle_offRadio hradio t⟩
    · rw [settle_node, hnoted, delayNoted, node_onNode_same]
      rfl
    · rw [settle_node, hnoted, delayNoted, node_onNode_other _ hk]
      rfl

end Sys2Proof.Machine

/-! What the leader sends on the radio: beacons and management frames (02 R59; 03 R75, R81, R84, R86; 04 R102, R106, R111). -/

namespace Sys2Proof.Machine

open Sys2Proof

/-! ### One channel's superframe and beacon (03 R75, R90, R94) -/

/-- The state without the radio and the emissions. -/
def State.offAir (s : State) : State := { s with ra := {}, out := [] }

/-- A superframe of a channel begins, and its beacon is sent (02 R59; 03 R75). -/
def beaconStep (s : State) (c : Nat) : State := (s.beginSuperframe c (s.superframeOf c)).sendBeacon c (s.superframeOf c)

theorem superframeOf_offAir {a b : State} (h : a.offAir = b.offAir) (c : Nat) : a.superframeOf c = b.superframeOf c :=
  (congrArg (fun s : State => s.superframeOf c) h :)

theorem takeRoutes_offAir (l : List Nat) (k : Nat) (s : State) : (l.foldl (fun s n => s.onNode n (NodeCtl.takeRoute k)) s).offAir = s.offAir := by
  refine foldl_keeps State.offAir (fun u w => ?_) _ s
  rfl

theorem takeRoutes_chans (l : List Nat) (k : Nat) (s : State) : (l.foldl (fun s n => s.onNode n (NodeCtl.takeRoute k)) s).ra.chans = s.ra.chans := by
  refine foldl_keeps (fun s : State => s.ra.chans) (fun u w => ?_) _ s
  rfl

theorem takeRoutes_transmit (l : List Nat) (k : Nat) (s : State) : (l.foldl (fun s n => s.onNode n (NodeCtl.takeRoute k)) s).ra.transmit = s.ra.transmit := by
  refine foldl_keeps (fun s : State => s.ra.transmit) (fun u w => ?_) _ s
  rfl

theorem takeRoutes_out (l : List Nat) (k : Nat) (s : State) : (l.foldl (fun s n => s.onNode n (NodeCtl.takeRoute k)) s).out = s.out := by
  refine foldl_keeps State.out (fun u w => ?_) _ s
  rfl

theorem beginSuperframe_offAir (s : State) (c k : Nat) : (s.beginSuperframe c k).offAir = s.offAir := by
  unfold State.beginSuperframe
  split
  · rfl
  · exact takeRoutes_offAir ..

theorem beginSuperframe_transmit (s : State) (c k : Nat) : (s.beginSuperframe c k).ra.transmit = s.ra.transmit := by
  unfold State.beginSuperframe
  split
  · rfl
  · exact takeRoutes_transmit ..

theorem beginSuperframe_out (s : State) (c k : Nat) : (s.beginSuperframe c k).out = s.out := by
  unfold State.beginSuperframe
  split
  · rfl
  · exact takeRoutes_out ..

theorem beginSuperframe_rchan_other {c j : Nat} (h : j ≠ c) (s : State) (k : Nat) : (s.beginSuperframe c k).rchan j = s.rchan j := by
  unfold State.beginSuperframe
  split
  · rfl
  · dsimp only
    rw [rchan_onChan_other _ h]
    exact congrArg (fun tb : Table RadioChan => tb.get j {}) (takeRoutes_chans ..)

/-- The channel is in its superframe; the rest of what a beacon reads of it stays. -/
theorem beginSuperframe_rchan_same (s : State) (c k : Nat) :
    ((s.beginSuperframe c k).rchan c).superframe = some k ∧ ((s.beginSuperframe c k).rchan c).beaconIn = (s.rchan c).beaconIn := by
  unfold State.beginSuperframe
  split
  next h => exact ⟨h, rfl⟩
  · dsimp only
    rw [rchan_onChan_same]
    exact ⟨rfl, congrArg (fun tb : Table RadioChan => (tb.get c {}).beaconIn) (takeRoutes_chans ..)⟩

theorem sendBeacon_offAir (s : State) (c k : Nat) : (s.sendBeacon c k).offAir = s.offAir := by unfold State.sendBeacon; split <;> rfl

theorem sendBeacon_transmit (s : State) (c k : Nat) : (s.sendBeacon c k).ra.transmit = s.ra.transmit := by unfold State.sendBeacon; split <;> rfl

theorem sendBeacon_rchan_other {c j : Nat} (h : j ≠ c) (s : State) (k : Nat) : (s.sendBeacon c k).rchan j = s.rchan j := by
  unfold State.sendBeacon
  split
  · exact rchan_onChan_other s h _
  · rfl

theorem mem_sendBeacon {x : Emission} {s : State} (h : x ∈ s.out) (c k : Nat) : x ∈ (s.sendBeacon c k).out := by
  unfold State.sendBeacon
  split
  · exact mem_emit (s := s.onChan c fun x => { x with beaconIn := some k }) h ..
  · exact h

/-- A channel that has sent its beacon of a superframe does not send it again. -/
theorem sendBeacon_beaconIn_of_sent {s : State} {c k : Nat} (h : (s.rchan c).beaconIn = some k) : s.sendBeacon c k = s := by
  unfold State.sendBeacon
  rw [if_neg (by simp [h])]

/-- A channel whose leader may not transmit sends no beacon (03 R75, R96). -/
theorem sendBeacon_of_silent {s : State} {c : Nat} (h : s.mayTransmit c 0 = false) (k : Nat) : s.sendBeacon c k = s := by
  unfold State.sendBeacon
  rw [if_neg (by simp [h])]

/-- The leader's beacon is sent and noted (03 R75, R94). -/
theorem sendBeacon_of_may {s : State} {c k : Nat} (hmay : s.mayTransmit c 0 = true) (hactive : s.chanActive c = true) (hphase : s.chanPhase c < 120000)
    (hnew : (s.rchan c).beaconIn ≠ some k) :
    s.sendBeacon c k = (s.onChan c fun x => { x with beaconIn := some k }).emit .beacon c (s.beaconFrame c k) := by
  unfold State.sendBeacon
  rw [if_pos (by simp [hmay, hactive, hphase, hnew])]

theorem octetsOf_length (w n : Nat) : (octetsOf w n).length = w := by
  induction w with
  | zero => rfl
  | succ w ih => rw [octetsOf, List.length_cons, ih]

theorem enc_length (l : List (Nat × Int)) : (enc l).length = (l.map Prod.fst).sum := by
  simp [enc, List.length_flatMap, octetsOf_length]

/-- The time block has 20 octets (02 R59; 04 R102). -/
theorem timeBlock_length (s : State) (c k : Nat) : (s.timeBlock c k).length = 20 := by
  unfold State.timeBlock
  dsimp only
  rw [enc_length]
  rfl

/-- A beacon opens with the frame type and the string index, and carries the time block after two octets more (04 R102). -/
theorem beaconFrame_fields (s : State) (c k : Nat) : (s.beaconFrame c k).take 2 = [0x11, s.cfg.string.index] ∧
    ((s.beaconFrame c k).drop 4).take 20 = s.timeBlock c k := by
  have hlength := timeBlock_length s c k
  unfold State.beaconFrame psdu
  refine ⟨rfl, ?_⟩
  simp only [List.cons_append, List.nil_append, List.append_assoc, List.drop_succ_cons, List.drop_zero]
  rw [List.take_append_of_le_length (by omega), List.take_of_length_le (by omega)]

/-! ### The channels one after another (03 R77) -/

/-- What holds of a channel before its turn holds until then; what its turn brings about holds from then on. -/
theorem foldl_reaches {α β : Type} {f : β → α → β} {A B : β → Prop} {c : α} (hwait : ∀ u x, x ≠ c → A u → A (f u x)) (hturn : ∀ u, A u → B (f u c))
    (hkeep : ∀ u x, B u → B (f u x)) : ∀ (l : List α), c ∈ l → ∀ u, A u → B (l.foldl f u) := by
  have hrest : ∀ (l : List α) u, B u → B (l.foldl f u) := by
    intro l
    induction l with
    | nil => exact fun u h => h
    | cons x l ih => exact fun u h => ih _ (hkeep u x h)
  intro l
  induction l with
  | nil => exact fun h => absurd h List.not_mem_nil
  | cons x l ih =>
    intro hmem u hu
    by_cases hx : x = c
    · subst hx
      exact hrest l _ (hturn u hu)
    · exact ih ((List.mem_cons.1 hmem).resolve_left fun h => hx h.symm) _ (hwait u x hx hu)

theorem beaconStep_offAir (s : State) (c : Nat) : (beaconStep s c).offAir = s.offAir :=
  (sendBeacon_offAir ..).trans (beginSuperframe_offAir ..)

theorem beaconStep_transmit (s : State) (c : Nat) : (beaconStep s c).ra.transmit = s.ra.transmit :=
  (sendBeacon_transmit ..).trans (beginSuperframe_transmit ..)

theorem beaconStep_rchan_other {c j : Nat} (h : j ≠ c) (s : State) : (beaconStep s c).rchan j = s.rchan j :=
  (sendBeacon_rchan_other h ..).trans (beginSuperframe_rchan_other h ..)

theorem mem_beaconStep {x : Emission} {s : State} (h : x ∈ s.out) (c : Nat) : x ∈ (beaconStep s c).out :=
  mem_sendBeacon (by rwa [beginSuperframe_out]) ..

/-- Before its turn a channel stands as the command found it, and so does all beside the radio. -/
def Awaits (b : State) (c : Nat) (u : State) : Prop := u.offAir = b.offAir ∧ u.ra.transmit = b.ra.transmit ∧ u.rchan c = b.rchan c

theorem awaits_step {b u : State} {c x : Nat} (h : x ≠ c) (hu : Awaits b c u) : Awaits b c (beaconStep u x) := by
  obtain ⟨hair, htransmit, hchan⟩ := hu
  exact ⟨(beaconStep_offAir ..).trans hair, (beaconStep_transmit ..).trans htransmit, (beaconStep_rchan_other h.symm u).trans hchan⟩

theorem mayTransmit_of_offAir {a b : State} (h : a.offAir = b.offAir) (htransmit : a.ra.transmit = b.ra.transmit) (c start : Nat) :
    a.mayTransmit c start = b.mayTransmit c start := by
  have hon : a.radioOn = b.radioOn := by
    have hstate : a.pw.state = b.pw.state := (congrArg (fun s : State => s.pw.state) h :)
    have hrole : a.leads = b.leads := (congrArg State.leads h :)
    rw [State.radioOn, hrole, htransmit, hstate]
    rfl
  have hphase : a.chanPhase c = b.chanPhase c := (congrArg (fun s : State => s.chanPhase c) h :)
  have hlead : a.tw.leadAt = b.tw.leadAt := (congrArg (fun s : State => s.tw.leadAt) h :)
  have hnow : a.now = b.now := (congrArg State.now h :)
  rw [State.mayTransmit, hon, hphase, hlead, hnow]
  rfl

/-- A channel whose beacon of its superframe is sent, with the beacon. -/
def Beaconed (b : State) (c : Nat) (u : State) : Prop :=
  u.offAir = b.offAir ∧ (u.rchan c).superframe = some (b.superframeOf c) ∧ (u.rchan c).beaconIn = some (b.superframeOf c) ∧
  ∃ e ∈ u.out, e.kind = .beacon ∧ e.port = c ∧ e.bytes.take 2 = [0x11, b.cfg.string.index] ∧ (e.bytes.drop 4).take 20 = b.timeBlock c (b.superframeOf c)

/-- At its turn the channel of a leader that may transmit sends its beacon (02 R59; 03 R75). -/
theorem beaconed_turn {b u : State} {c : Nat} (hrun : b.pw.state = .run) (hmay : b.mayTransmit c 0 = true) (hphase : b.chanPhase c < 120000)
    (hnew : (b.rchan c).beaconIn ≠ some (b.superframeOf c)) (hu : Awaits b c u) : Beaconed b c (beaconStep u c) := by
  obtain ⟨hair, htransmit, hchan⟩ := hu
  have hframe := superframeOf_offAir hair c
  obtain ⟨hin, hbeacon⟩ := beginSuperframe_rchan_same u c (b.superframeOf c)
  have hair' : (u.beginSuperframe c (b.superframeOf c)).offAir = b.offAir := (beginSuperframe_offAir ..).trans hair
  have hsent := sendBeacon_of_may (s := u.beginSuperframe c (b.superframeOf c)) (c := c) (k := b.superframeOf c)
    ((mayTransmit_of_offAir hair' ((beginSuperframe_transmit ..).trans htransmit) c 0).trans hmay)
    (by
      have hstate : (u.beginSuperframe c (b.superframeOf c)).pw.state = .run := (congrArg (fun s : State => s.pw.state) hair' :).trans hrun
      simp [State.chanActive, State.activeIn, hstate])
    ((congrArg (fun s : State => s.chanPhase c) hair' :).trans_lt hphase) (by rw [hbeacon, hchan]; exact hnew)
  obtain ⟨htype, htime⟩ := beaconFrame_fields (u.beginSuperframe c (b.superframeOf c)) c (b.superframeOf c)
  have hcfg : (u.beginSuperframe c (b.superframeOf c)).cfg = b.cfg := (congrArg State.cfg hair' :)
  have hblock : (u.beginSuperframe c (b.superframeOf c)).timeBlock c (b.superframeOf c) = b.timeBlock c (b.superframeOf c) :=
    (congrArg (fun s : State => s.timeBlock c (b.superframeOf c)) hair' :)
  have hfinal : (beaconStep u c).offAir = b.offAir := (beaconStep_offAir ..).trans hair
  unfold Beaconed
  refine ⟨hfinal, ?_⟩
  unfold beaconStep
  rw [hframe, hsent]
  refine ⟨?_, ?_, ?_⟩
  · exact (congrArg RadioChan.superframe (rchan_onChan_same ..)).trans hin
  · exact congrArg RadioChan.beaconIn (rchan_onChan_same ..)
  · refine ⟨_, emitted _ .beacon c ((u.beginSuperframe c (b.superframeOf c)).beaconFrame c (b.superframeOf c)), rfl, rfl, ?_, htime.trans hblock⟩
    rw [← hcfg]
    exact htype

theorem beaconed_keep {b u : State} {c : Nat} (x : Nat) (hu : Beaconed b c u) : Beaconed b c (beaconStep u x) := by
  obtain ⟨hair, hframe, hbeacon, e, he, hfields⟩ := hu
  have hsame : ((beaconStep u x).rchan c).superframe = some (b.superframeOf c) ∧ ((beaconStep u x).rchan c).beaconIn = some (b.superframeOf c) := by
    by_cases hx : x = c
    · subst hx
      have hstep : beaconStep u x = u := by
        have hbegun : u.beginSuperframe x (b.superframeOf x) = u := if_pos hframe
        rw [beaconStep, superframeOf_offAir hair, hbegun, sendBeacon_beaconIn_of_sent hbeacon]
      rw [hstep]
      exact ⟨hframe, hbeacon⟩
    · rw [beaconStep_rchan_other fun h => hx h.symm]
      exact ⟨hframe, hbeacon⟩
  exact ⟨(beaconStep_offAir ..).trans hair, hsame.1, hsame.2, e, mem_beaconStep he x, hfields⟩

/-- A channel of a module that may not send is in its superframe, with no beacon. -/
def Silenced (b : State) (c : Nat) (u : State) : Prop :=
  u.offAir = b.offAir ∧ u.ra.transmit = b.ra.transmit ∧ (u.rchan c).superframe = some (b.superframeOf c) ∧ (u.rchan c).beaconIn = (b.rchan c).beaconIn

theorem silenced_step {b u : State} {c : Nat} (hoff : b.mayTransmit c 0 = false) (hair : u.offAir = b.offAir) (htransmit : u.ra.transmit = b.ra.transmit)
    (hbeacon : (u.rchan c).beaconIn = (b.rchan c).beaconIn) : Silenced b c (beaconStep u c) := by
  obtain ⟨hin, hkept⟩ := beginSuperframe_rchan_same u c (b.superframeOf c)
  have hmay := mayTransmit_of_offAir ((beginSuperframe_offAir u c (b.superframeOf c)).trans hair) ((beginSuperframe_transmit ..).trans htransmit) c 0
  have hstep : beaconStep u c = u.beginSuperframe c (b.superframeOf c) := by
    rw [beaconStep, superframeOf_offAir hair, sendBeacon_of_silent (hmay.trans hoff)]
  refine ⟨(beaconStep_offAir ..).trans hair, (beaconStep_transmit ..).trans htransmit, ?_, ?_⟩
  · rw [hstep, hin]
  · rw [hstep, hkept, hbeacon]

theorem silenced_keep {b u : State} {c : Nat} (hoff : b.mayTransmit c 0 = false) (x : Nat) (hu : Silenced b c u) : Silenced b c (beaconStep u x) := by
  obtain ⟨hair, htransmit, hframe, hbeacon⟩ := hu
  by_cases hx : x = c
  · subst hx
    exact silenced_step hoff hair htransmit hbeacon
  · have hother : (beaconStep u x).rchan c = u.rchan c := beaconStep_rchan_other (fun h => hx h.symm) u
    exact ⟨(beaconStep_offAir ..).trans hair, (beaconStep_transmit ..).trans htransmit, by rw [hother, hframe], by rw [hother, hbeacon]⟩

/-- The channels of a beacon command: all of a locked module, and in any case the one it names (03 R77). -/
def beaconChans (s : State) (c : Nat) : List Nat := if s.cfg.locked then List.range 4 else [c]

theorem mem_beaconChans (s : State) (c : Fin 4) : c.val ∈ beaconChans s c.val := by
  unfold beaconChans
  split
  · exact List.mem_range.2 c.isLt
  · exact List.mem_singleton.2 rfl

theorem execBeaconTransmit_eq (t : Nat) (c : Fin 4) (s : State) :
    execBeaconTransmit t c s = s.run t fun s => (beaconChans s c.val).foldl beaconStep s := rfl

theorem offRadio_of_offAir {a b : State} (h : a.offAir = b.offAir) : a.offRadio = b.offRadio := (congrArg State.offRadio h :)

/-! ### The management frame of a window (03 R81 to R86; 04 R106, R111) -/

/-- The frame with its target, code, counter and parameters closes its window (04 R106). -/
def State.managementFor (s : State) (c k : Nat) (r : State × Nat × Nat × Nat × List Nat) : State :=
  (r.1.closeWindow c (s.rchan c).ackBitmap (s.pollMask c (s.rchan c).ackBitmap)).emit .management c (psdu s.keyBeacon k
    ([0x31, s.cfg.string.index, r.2.1, r.2.2.1] ++ octetsOf 4 r.2.2.2.1 ++ octetsOf 4 (s.rchan c).ackBitmap ++
      octetsOf 4 (s.pollMask c (s.rchan c).ackBitmap) ++ (r.2.2.2.2 ++ List.replicate 10 0).take 10))

/-- In an open contention window the frame goes out to no node (03 R84). -/
theorem sendManagement_contention {s : State} {c k : Nat} (h : s.contentionIn k = true) : s.sendManagement c k = s.managementFor c k (s, 255, 1, 0, []) := by
  unfold State.sendManagement
  rw [if_pos h]
  rfl

/-- Else it carries what the node addressed next is sent (03 R86). -/
theorem sendManagement_addressed {s : State} {c k n : Nat} (hclosed : s.contentionIn k = false) (happ : s.pw.haltedApp = false) (hnext : s.nextNode c = some n) :
    s.sendManagement c k = s.managementFor c k ((s.onChan c fun y => { y with rotation := slotOf n + 1 }).addressed n) := by
  unfold State.sendManagement
  rw [hclosed, happ, hnext]
  rfl

/-- The next command of a node goes out with the next counter, and is in flight (04 R111). -/
theorem addressed_next {s : State} {n : Nat} {cmd : NodeCmd} {rest : List NodeCmd} (hfree : (s.node n).inflight = none)
    (hwork : (s.node n).work = cmd :: rest) (hcommit : cmd.code ≠ 6) (hrelease : cmd.code ≠ 9) (hplan : ¬(cmd.code = 5 ∧ cmd.params.head? = some 2)) :
    s.addressed n = (s.onNode n fun y => { y with
      counter := (s.node n).counter + 1, work := rest, inflight := some { cmd := cmd, counter := (s.node n).counter + 1, sentAt := s.superframeOf (n / 32) } }, n, cmd.code, (s.node n).counter + 1, cmd.params) := by
  unfold State.addressed
  dsimp only
  rw [hfree, hwork]
  dsimp only
  rw [if_neg hplan, State.noteSent, if_neg hrelease, if_neg fun h => hcommit h.1, if_neg fun h => hcommit h.1]

theorem managementFor_nodes (s : State) (c k : Nat) (r : State × Nat × Nat × Nat × List Nat) : (s.managementFor c k r).ra.nodes = r.1.ra.nodes := rfl

theorem managementFor_offRadio (s : State) (c k : Nat) (r : State × Nat × Nat × Nat × List Nat) : (s.managementFor c k r).offRadio = r.1.offRadio := rfl

/-- The window's bitmaps move on (03 R81). -/
theorem managementFor_rchan (s : State) (c k : Nat) (r : State × Nat × Nat × Nat × List Nat) :
    ((s.managementFor c k r).rchan c).ackBitmap = 0 ∧ ((s.managementFor c k r).rchan c).beaconAck = (s.rchan c).ackBitmap ∧
    ((s.managementFor c k r).rchan c).mgmtIn = some (r.1.superframeOf c) := by
  have hchan : (s.managementFor c k r).rchan c = _ := rchan_onChan_same ..
  rw [hchan]
  exact ⟨rfl, rfl, rfl⟩

/-- The frame opens with its type, the string index, the target and the code (04 R106). -/
theorem managementFor_sends (s : State) (c k : Nat) (r : State × Nat × Nat × Nat × List Nat) : ∃ e ∈ (s.managementFor c k r).out,
    e.kind = .management ∧ e.port = c ∧ e.bytes.take 4 = [0x31, s.cfg.string.index, r.2.1, r.2.2.1] :=
  ⟨_, emitted .., rfl, rfl, rfl⟩

/-- The leader sends in the window of an active superframe, once (03 R75, R86). -/
theorem managementTransmit_sends {c : Nat} {s : State} (hmay : s.mayTransmit c mgmtBegin = true) (hactive : s.chanActive c = true)
    (hphase : mgmtBegin ≤ s.chanPhase c) (hnew : (s.rchan c).mgmtIn ≠ some (s.superframeOf c)) :
    managementTransmit c s = s.sendManagement c (s.superframeOf c) := by
  have hleads : s.leads = true := by
    simp only [State.mayTransmit, State.radioOn, Bool.and_eq_true] at hmay
    exact hmay.1.1.1
  unfold managementTransmit
  dsimp only
  rw [if_neg (by simp [hactive, hphase, hnew]), if_neg (by simp [hleads]), if_pos hmay]

theorem managementTransmit_idle {c : Nat} {s : State} (h : s.mayTransmit c mgmtBegin = false ∧ (s.isTwin = false ∨ s.leads = true) ∨ s.chanPhase c < mgmtBegin ∨
    (s.rchan c).mgmtIn = some (s.superframeOf c)) : managementTransmit c s = s := by
  unfold managementTransmit
  dsimp only
  split
  · rfl
  next hopen =>
    obtain ⟨hmay, hrole⟩ | hearly | hdone := h
    · rw [if_neg (by obtain hrole | hrole := hrole <;> simp [hrole]), hmay]
      rfl
    · exact absurd (by simp [hearly]) hopen
    · exact absurd (by simp [hdone]) hopen

/-- Settles O5: the beacon of a channel by what its turn among the channels brings about, the management frame by what it carries. -/
theorem radioFrames : Obligations.RadioFrames := by
  have hmanage (t : Nat) (c : Fin 4) (s : State) : exec (.managementFrameTransmit t c) s = s.run t (managementTransmit c.val) := rfl
  refine ⟨?beacon, ?silent, ?idle, ?contention, ?addressed⟩
  case beacon =>
    intro t c s hrun hmay hphase hnew
    have he : exec (.beaconTransmit t c) s = execBeaconTransmit t c s := rfl
    have hsent := foldl_reaches (f := beaconStep) (c := c.val) (fun u x hx hu => awaits_step hx hu)
      (fun u hu => beaconed_turn (b := s.begin t) hrun hmay hphase hnew hu) (fun u x hu => beaconed_keep x hu)
      (beaconChans (s.begin t) c.val) (mem_beaconChans ..) (s.begin t) ⟨rfl, rfl, rfl⟩
    refine answers_of (he.trans (execBeaconTransmit_eq ..)) ?_
    generalize List.foldl beaconStep _ _ = u at hsent
    obtain ⟨hair, hframe, hbeacon, e, hmem, hfields⟩ := hsent
    dsimp only
    rw [settle_rchan]
    exact ⟨hframe, hbeacon, ⟨e, mem_settle (s := s.keep t u) hmem s, hfields⟩,
      settle_offRadio ((offRadio_of_offAir hair).trans (congrArg (fun u : State => ({ u with ra := {} } : State)) (begin_bare s t) :)) t⟩
  case silent =>
    intro t c s hoff
    have he : exec (.beaconTransmit t c) s = execBeaconTransmit t c s := rfl
    have hmay : (s.begin t).mayTransmit c.val 0 = false := by
      have hoff : (s.begin t).radioOn = false := hoff
      rw [State.mayTransmit, hoff, Bool.false_and]
    have hsilent := foldl_reaches (f := beaconStep) (c := c.val) (fun u x hx hu => awaits_step hx hu)
      (fun u hu => silenced_step (b := s.begin t) hmay hu.1 hu.2.1 (congrArg RadioChan.beaconIn hu.2.2)) (fun u x hu => silenced_keep hmay x hu)
      (beaconChans (s.begin t) c.val) (mem_beaconChans ..) (s.begin t) ⟨rfl, rfl, rfl⟩
    refine answers_of (he.trans (execBeaconTransmit_eq ..)) ?_
    generalize List.foldl beaconStep _ _ = u at hsilent
    obtain ⟨hair, -, hframe, hbeacon⟩ := hsilent
    rw [settle_rchan]
    exact ⟨hframe, hbeacon,
      settle_offRadio ((offRadio_of_offAir hair).trans (congrArg (fun u : State => ({ u with ra := {} } : State)) (begin_bare s t) :)) t⟩
  case idle =>
    intro t c s hidle
    exact idles_of (hmanage ..) (managementTransmit_idle (s := s.begin t) hidle)
  case contention =>
    intro t c s hmay hactive hphase hnew hopen
    have hsends := managementTransmit_sends (s := s.begin t) hmay hactive hphase hnew
    refine answers_of (hmanage ..) ?_
    rw [hsends, sendManagement_contention hopen]
    obtain ⟨hack, hbeacon, hin⟩ := managementFor_rchan (s.begin t) c.val ((s.begin t).superframeOf c.val) (s.begin t, 255, 1, 0, [])
    obtain ⟨e, hmem, hfields⟩ := managementFor_sends (s.begin t) c.val ((s.begin t).superframeOf c.val) (s.begin t, 255, 1, 0, [])
    have hapart := settle_offRadio (s := s) (managementFor_offRadio (s.begin t) c.val ((s.begin t).superframeOf c.val) (s.begin t, 255, 1, 0, [])) t
    have hnodes := managementFor_nodes (s.begin t) c.val ((s.begin t).superframeOf c.val) (s.begin t, 255, 1, 0, [])
    generalize State.managementFor _ _ _ _ = u at *
    rw [settle_ra, settle_rchan]
    exact ⟨hnodes, hack, hbeacon, hin, ⟨e, mem_settle (s := s.keep t u) hmem s, hfields⟩, hapart⟩
  case addressed =>
    intro t c n cmd rest s hmay hactive hphase hnew hclosed happ hnext hfree hwork hcommit hrelease hplan
    have hsends := managementTransmit_sends (s := s.begin t) hmay hactive hphase hnew
    have haddressed := addressed_next (s := (s.begin t).onChan c.val fun y => { y with rotation := slotOf n + 1 }) hfree hwork hcommit hrelease hplan
    refine answers_of (hmanage ..) ?_
    rw [hsends, sendManagement_addressed hclosed happ hnext, haddressed]
    generalize hr : (State.onNode _ n _, n, cmd.code, _, cmd.params) = r
    have hnodes := managementFor_nodes (s.begin t) c.val ((s.begin t).superframeOf c.val) r
    have hair := managementFor_offRadio (s.begin t) c.val ((s.begin t).superframeOf c.val) r
    obtain ⟨e, hmem, hfields⟩ := managementFor_sends (s.begin t) c.val ((s.begin t).superframeOf c.val) r
    generalize State.managementFor _ _ _ _ = u at *
    have hnode (j : Nat) : u.node j = r.1.node j := congrArg (fun tb : Table NodeCtl => tb.get j {}) hnodes
    refine ⟨?_, fun j hj => ?_, ⟨e, mem_settle (s := s.keep t u) hmem s, ?_⟩, settle_offRadio (hair.trans (by rw [← hr]; rfl)) t⟩
    · rw [settle_node, hnode, ← hr, node_onNode_same]
      rfl
    · rw [settle_node, hnode, ← hr, node_onNode_other _ hj]
      rfl
    · rw [← hr] at hfields
      exact hfields

end Sys2Proof.Machine

/-! What faults and decisions do to the coils and the resets, and what they leave of what a partner said (11 R288 to R292, R312; 12 R315; 19 R475, R476). -/

namespace Sys2Proof.Machine

open Sys2Proof

/-! ### Reading the state a command leaves -/

/-- A part of the state that settling does not write is as the meaning left it. -/
theorem settled_part {α : Type} (part : State → α) (s u : State) (t : Nat)
    (hpart : ∀ v q, part { v.bare with pending := q } = part v := by intros; rfl) : part (s.settle (s.keep t u)) = part u := by
  have hbare : ({ (s.settle (s.keep t u)).bare with pending := s.pending } : State) = { u.bare with pending := s.pending } := by
    rw [settle_bare]
    rfl
  exact (hpart _ s.pending).symm.trans ((congrArg part hbare).trans (hpart u s.pending))

/-! ### Coils (12 R315) -/

theorem coil_onCoil_same (s : State) (k : Nat) (f : Coil → Coil) : (s.onCoil k f).coil k = f (s.coil k) := Table.get_upd_same ..

theorem coil_onCoil_other (s : State) {k j : Nat} (h : j ≠ k) (f : Coil → Coil) : (s.onCoil k f).coil j = s.coil j := Table.get_upd_other _ h ..

theorem coilOff_phase_same (s : State) (k : Nat) : ((s.coilOff k).coil k).phase = .off := by
  unfold State.coilOff
  split
  next hoff =>
    have hcoil : (((s.onCoil k fun c => { c with tripClosed := false }).onCont fun c => { c with due := c.due.filter fun x => !decide (x = k) }).coil k) =
        { s.coil k with tripClosed := false } := coil_onCoil_same ..
    rw [hcoil]
    exact hoff
  · exact congrArg Coil.phase (coil_onCoil_same ..)

theorem coilOff_coil_other (s : State) {k j : Nat} (h : j ≠ k) : (s.coilOff k).coil j = s.coil j := by
  unfold State.coilOff
  split <;> exact coil_onCoil_other s h _

/-- A coil that is off stays off while others go off. -/
theorem coilOff_phase_of_off {s : State} {j : Nat} (h : (s.coil j).phase = .off) (k : Nat) : ((s.coilOff k).coil j).phase = .off := by
  by_cases hj : j = k
  · subst hj
    exact coilOff_phase_same ..
  · rwa [coilOff_coil_other s hj]

theorem coilsOff_cons (s : State) (k : Nat) (ks : List Nat) : s.coilsOff (k :: ks) = (s.coilOff k).coilsOff ks := List.foldl_cons ..

theorem coilsOff_phase_of_off {j : Nat} {s : State} (h : (s.coil j).phase = .off) (ks : List Nat) : ((s.coilsOff ks).coil j).phase = .off := by
  induction ks generalizing s with
  | nil => exact h
  | cons k ks ih =>
    rw [coilsOff_cons]
    exact ih (coilOff_phase_of_off h k)

/-- A coil-off of several outputs puts each of them off. -/
theorem coilsOff_phase {j : Nat} {ks : List Nat} (s : State) (h : j ∈ ks) : ((s.coilsOff ks).coil j).phase = .off := by
  induction ks generalizing s with
  | nil => exact absurd h List.not_mem_nil
  | cons k ks ih =>
    rw [coilsOff_cons]
    obtain hk | hks := List.mem_cons.1 h
    · rw [hk]
      exact coilsOff_phase_of_off (coilOff_phase_same s k) ks
    · exact ih _ hks

/-- K1 to K11 are off. -/
def State.MainOff (s : State) : Prop := ∀ k ∈ mainK, (s.coil k).phase = .off

theorem coil_of_coils {a b : State} (h : a.ct.coils = b.ct.coils) (k : Nat) : a.coil k = b.coil k := congrArg (fun tb : Table Coil => tb.get k {}) h

theorem mainOff_of_coils {a b : State} (h : a.ct.coils = b.ct.coils) (hb : b.MainOff) : a.MainOff := fun k hk => by
  rw [coil_of_coils h]
  exact hb k hk

theorem openString_coils (s : State) : s.openString.ct.coils = (s.coilsOff mainK).ct.coils := by
  unfold State.openString
  dsimp only
  rw [State.onCont_ct]

theorem openString_mainOff (s : State) : s.openString.MainOff := mainOff_of_coils (openString_coils s) fun _ hk => coilsOff_phase s hk

theorem mainOn_of_mainOff {s : State} (h : s.MainOff) : s.mainOn = false := by
  unfold State.mainOn
  rw [List.any_eq_false]
  intro k hk
  rw [State.coilOn, h k hk]
  decide

theorem mem_mainK {k : Nat} (hfirst : 1 ≤ k) (hlast : k ≤ 11) : k ∈ mainK := by
  unfold mainK
  exact List.mem_map.2 ⟨k - 1, List.mem_range.2 (by omega), by omega⟩

/-! ### A decision and the table of functions (11 R288 to R292) -/

/-- What the partner said: its reception, energy, instant and functions, and its demands (11 R312; 13 R347). -/
def State.partnerSaid (s : State) : List Nat × List Nat × Option Nat × List (Nat × Nat × Nat × Int) × List Nat :=
  (s.pr.partnerHeard, s.pr.partnerEnergy, s.pr.partnerAt, s.pr.partnerFns, s.sf.partnerDemand)

/-- The table of functions, with what the partner said. -/
def State.table (s : State) : List Fn × List Nat × List Nat × Option Nat × List (Nat × Nat × Nat × Int) × List Nat := (s.pr.fns, s.partnerSaid)

theorem table_of_quiet {a b : State} (h : a.quiet = b.quiet) : a.table = b.table := (congrArg State.table h :)
theorem fn_of_table {a b : State} (h : a.table = b.table) (code group : Nat) : a.fn code group = b.fn code group :=
  congrArg (fun l : List Fn => l.find? fun f : Fn => decide (f.code = code ∧ f.group = group)) (congrArg Prod.fst h)
theorem partnerSaid_of_table {a b : State} (h : a.table = b.table) : a.partnerSaid = b.partnerSaid := congrArg Prod.snd h

@[simp] theorem record_table (s : State) (e : Ev) (n : Nat) (d : List Nat) : (s.record e n d).table = s.table := table_of_quiet (record_quiet ..)
@[simp] theorem onCont_table (s : State) (f : Cont → Cont) : (s.onCont f).table = s.table := rfl
@[simp] theorem onCoil_table (s : State) (k : Nat) (f : Coil → Coil) : (s.onCoil k f).table = s.table := rfl
@[simp] theorem setBranch_table (s : State) (b : Nat) (x : BrState) : (s.setBranch b x).table = s.table := rfl
@[simp] theorem writeLatches_table (s : State) : s.writeLatches.table = s.table := table_of_quiet (writeItem_quiet ..)

@[simp] theorem coilOff_table (s : State) (k : Nat) : (s.coilOff k).table = s.table := by unfold State.coilOff; split <;> rfl

@[simp] theorem coilsOff_table (s : State) (ks : List Nat) : (s.coilsOff ks).table = s.table := foldl_keeps State.table coilOff_table ks s

@[simp] theorem dropWaiting_table (s : State) (ks : List Nat) : (s.dropWaiting ks).table = s.table := coilsOff_table ..

@[simp] theorem openString_table (s : State) : s.openString.table = s.table := by simp [State.openString]

@[simp] theorem openBranch_table (s : State) (b : Nat) : (s.openBranch b).table = s.table := by
  unfold State.openBranch
  dsimp only
  split
  · simp
  · split <;> simp

@[simp] theorem endSequenceOf_table (s : State) (b : Nat) : (s.endSequenceOf b).table = s.table := by
  unfold State.endSequenceOf
  split
  · simp
  · split <;> simp

@[simp] theorem interruptTest_table (s : State) (o : Nat) : (s.interruptTest o).table = s.table := by
  unfold State.interruptTest
  dsimp only
  split
  · rfl
  · exact record_table ..

@[simp] theorem interruptTests_table (s : State) : s.interruptTests.table = s.table := by simp [State.interruptTests]

@[simp] theorem noteDecision_table (s : State) (code group subject : Nat) (value : Int) : (s.noteDecision code group subject value).table = s.table := by
  unfold State.noteDecision
  rw [interruptTests_table]
  exact record_table ..

/-- The entry of a function takes its place in the table, whatever else the state holds. -/
theorem setFn_table_congr {a b : State} (h : a.table = b.table) (f : Fn) : (a.setFn f).table = (b.setFn f).table := by
  have hfns : a.pr.fns = b.pr.fns := congrArg Prod.fst h
  have hsaid := partnerSaid_of_table h
  unfold State.setFn
  simp only [State.table, State.onProt_pr, hfns]
  split <;> exact congrArg (Prod.mk _) hsaid

theorem setFn_partnerSaid (s : State) (f : Fn) : (s.setFn f).partnerSaid = s.partnerSaid := by
  unfold State.setFn
  simp only [State.partnerSaid, State.onProt_pr]
  split <;> rfl

theorem setFn_coils (s : State) (f : Fn) : (s.setFn f).ct.coils = s.ct.coils := rfl

/-- An entry that is latched stands. -/
theorem fn_setFn_same (s : State) {f : Fn} {code group : Nat} (h : f.latched = true) (hcode : f.code = code) (hgroup : f.group = group) :
    (s.setFn f).fn code group = some f := by
  subst hcode hgroup
  have hnone : (s.pr.fns.filter fun g => !decide (g.code = f.code ∧ g.group = f.group)).find? (fun g => decide (g.code = f.code ∧ g.group = f.group)) = none :=
    List.find?_eq_none.2 fun g hg hkey => by simp [of_decide_eq_true hkey] at hg
  unfold State.setFn State.fn
  simp only [State.onProt_pr, h, Bool.or_true, Bool.true_or, if_true]
  rw [List.find?_append, hnone]
  simp

/-- An entry leaves the other functions as they stand. -/
theorem fn_setFn_other (s : State) {f : Fn} {code group : Nat} (h : ¬(f.code = code ∧ f.group = group)) :
    (s.setFn f).fn code group = s.fn code group := by
  have hrest : (s.pr.fns.filter fun g => !decide (g.code = f.code ∧ g.group = f.group)).find? (fun g => decide (g.code = code ∧ g.group = group)) =
      s.pr.fns.find? fun g => decide (g.code = code ∧ g.group = group) := by
    rw [List.find?_filter]
    congr 1
    funext g
    by_cases hg : g.code = code ∧ g.group = group
    · have hother : ¬(g.code = f.code ∧ g.group = f.group) := fun hf => h ⟨hf.1.symm.trans hg.1, hf.2.symm.trans hg.2⟩
      rw [decide_eq_false hother]
      simp
    · simp [hg]
  unfold State.setFn State.fn
  simp only [State.onProt_pr]
  split
  · rw [List.find?_append, hrest]
    simp [h]
  · exact hrest

/-- What a decision sets of a function: its entry, whatever else it does to coils and sequences (11 R290 to R292). -/
theorem decideFn_table {s : State} {code group : Nat} {i : FnInfo} (hinfo : s.fnInfo code group = some i) (subject : Nat) (value : Int) (cells : List Nat) :
    ∃ f : Fn, f.code = code ∧ f.group = group ∧ f.action = i.action ∧ f.latched = i.latched ∧
      f.demanding = (!decide (i.action = .none) || decide (0 < i.clear)) ∧ (s.decideFn code group subject value cells).table = (s.setFn f).table := by
  unfold State.decideFn
  rw [hinfo]
  dsimp -zeta only
  extract_lets old fresh named f s1 s2 s3
  have hs1 : s1.table = s.table := by
    show (if fresh then s.noteDecision code group subject value else s).table = _
    rw [apply_ite State.table, noteDecision_table, ite_self]
  have hs3 : s3.table = (s.setFn f).table := by
    show (if i.latched && fresh then s2.writeLatches else s2).table = _
    rw [apply_ite State.table, writeLatches_table, ite_self]
    exact setFn_table_congr hs1 f
  refine ⟨f, rfl, rfl, rfl, rfl, rfl, ?_⟩
  have hholds (u : State) (h : Prot → List Nat) : (u.onProt fun p => { p with holdBranches := h p }).table = u.table := rfl
  have hwaits (u : State) (w : Prot → List OpenWait) : (u.onProt fun p => { p with waits := w p }).table = u.table := rfl
  rw [← hs3]
  split
  · rfl
  · split
    · rfl
    · rfl
    · split
      · exact (openBranch_table ..).trans (hholds ..)
      · exact (hwaits ..).trans ((endSequenceOf_table ..).trans (hholds ..))
    · split
      · exact openString_table _
      · exact (hwaits ..).trans ((onCont_table ..).trans (dropWaiting_table ..))

theorem decideFn_partnerSaid (s : State) (code group subject : Nat) (value : Int) (cells : List Nat) :
    (s.decideFn code group subject value cells).partnerSaid = s.partnerSaid := by
  cases hinfo : s.fnInfo code group with
  | none => rw [State.decideFn, hinfo]
  | some i =>
    obtain ⟨f, -, -, -, -, -, htable⟩ := decideFn_table hinfo subject value cells
    exact (partnerSaid_of_table htable).trans (setFn_partnerSaid s f)

/-- A decision of a function leaves the others as they stand. -/
theorem decideFn_fn_other (s : State) {code group c g : Nat} (h : ¬(code = c ∧ group = g)) (subject : Nat) (value : Int) (cells : List Nat) :
    (s.decideFn code group subject value cells).fn c g = s.fn c g := by
  cases hinfo : s.fnInfo code group with
  | none => rw [State.decideFn, hinfo]
  | some i =>
    obtain ⟨f, hcode, hgroup, -, -, -, htable⟩ := decideFn_table hinfo subject value cells
    rw [fn_of_table htable, fn_setFn_other s (by rwa [hcode, hgroup])]

/-- A function that demands its action already decides nothing anew: only its entry is renewed (11 R290). -/
theorem decideFn_standing_coils {s : State} {code group : Nat} {g : Fn} (hstands : s.fn code group = some g) (hdemanding : g.demanding = true)
    (subject : Nat) (value : Int) (cells : List Nat) : (s.decideFn code group subject value cells).ct.coils = s.ct.coils := by
  unfold State.decideFn
  split
  · rfl
  · simp only [hstands, hdemanding, Bool.true_or, Bool.not_true, Bool.and_false, Bool.false_eq_true, if_false]
    exact setFn_coils ..

/-- A function that opens the string at once (11 R288, R292). -/
def State.Trips (s : State) (code : Nat) : Prop := ∃ i, s.fnInfo code strGroup = some i ∧ i.cls ≤ 1 ∧ i.action = .sd ∧ i.latched = true

theorem trips_thyme (s : State) : s.Trips 0x0A := ⟨_, rfl, Nat.le_refl 1, rfl, rfl⟩

theorem trips_input (s : State) : s.Trips 0x0B := ⟨_, rfl, Nat.le_refl 1, rfl, rfl⟩

/-- A new decision of such a function opens the string. -/
theorem decideFn_opens {s : State} {code : Nat} (htrips : s.Trips code) (hnone : s.fn code strGroup = none) (subject : Nat) (value : Int) (cells : List Nat) :
    (s.decideFn code strGroup subject value cells).MainOff := by
  obtain ⟨i, hinfo, hcls, haction, -⟩ := htrips
  unfold State.decideFn
  rw [hinfo]
  dsimp only
  rw [hnone, haction]
  simp only [Bool.not_true, Bool.false_eq_true, if_false]
  rw [if_pos hcls]
  exact openString_mainOff _

/-- The string is open on a function that stands latched and demands. -/
def State.Tripped (s : State) (code : Nat) : Prop :=
  (∃ g, s.fn code strGroup = some g ∧ g.latched = true ∧ g.action = .sd ∧ g.demanding = true) ∧ s.MainOff

theorem decideFn_entry {s : State} {code : Nat} (htrips : s.Trips code) (subject : Nat) (value : Int) (cells : List Nat) :
    ∃ g, (s.decideFn code strGroup subject value cells).fn code strGroup = some g ∧ g.latched = true ∧ g.action = .sd ∧ g.demanding = true := by
  obtain ⟨i, hinfo, -, haction, hlatched⟩ := htrips
  obtain ⟨f, hcode, hgroup, hact, hlatch, hdemands, htable⟩ := decideFn_table hinfo subject value cells
  have hfn := fn_setFn_same s (hlatch.trans hlatched) hcode hgroup
  refine ⟨f, (fn_of_table htable ..).trans hfn, hlatch.trans hlatched, hact.trans haction, ?_⟩
  rw [hdemands, haction]
  rfl

theorem decideFn_tripped {s : State} {code : Nat} (htrips : s.Trips code) (hnone : s.fn code strGroup = none) (subject : Nat) (value : Int)
    (cells : List Nat) : (s.decideFn code strGroup subject value cells).Tripped code :=
  ⟨decideFn_entry htrips subject value cells, decideFn_opens htrips hnone subject value cells⟩

theorem decideFn_stays_tripped {s : State} {code : Nat} (htrips : s.Trips code) (h : s.Tripped code) (subject : Nat) (value : Int) (cells : List Nat) :
    (s.decideFn code strGroup subject value cells).Tripped code := by
  obtain ⟨⟨g, hfn, -, -, hdemands⟩, hoff⟩ := h
  exact ⟨decideFn_entry htrips subject value cells, mainOff_of_coils (decideFn_standing_coils hfn hdemands subject value cells) hoff⟩

/-! ### An evaluation (11 R309, R310) -/

theorem evalFn_cases (s : State) (code group : Nat) (present : Bool) : s.evalFn code group present = s ∨ ∃ f, s.evalFn code group present = s.setFn f := by
  unfold State.evalFn
  split
  · split
    · exact .inr ⟨_, rfl⟩
    · exact .inl rfl
  · split <;> exact .inr ⟨_, rfl⟩

theorem evalFn_partnerSaid (s : State) (code group : Nat) (present : Bool) : (s.evalFn code group present).partnerSaid = s.partnerSaid := by
  obtain h | ⟨f, h⟩ := evalFn_cases s code group present
  · rw [h]
  · rw [h, setFn_partnerSaid]

theorem evalFn_coils (s : State) (code group : Nat) (present : Bool) : (s.evalFn code group present).ct.coils = s.ct.coils := by
  obtain h | ⟨f, h⟩ := evalFn_cases s code group present
  · rw [h]
  · rw [h, setFn_coils]

/-- Every entry of the table is found under its own code and group. -/
theorem fn_key {s : State} {code group : Nat} {f : Fn} (h : s.fn code group = some f) : f.code = code ∧ f.group = group :=
  of_decide_eq_true (List.find?_some (p := fun f : Fn => decide (f.code = code ∧ f.group = group)) h)

/-- The evaluation of a condition ends no latched demand (11 R309). -/
theorem evalFn_stays_tripped {s : State} {code : Nat} (h : s.Tripped code) (c group : Nat) (present : Bool) : (s.evalFn c group present).Tripped code := by
  obtain ⟨⟨g, hfn, hlatched, haction, hdemands⟩, hoff⟩ := h
  refine ⟨?_, mainOff_of_coils (evalFn_coils ..) hoff⟩
  by_cases hkey : c = code ∧ group = strGroup
  · obtain ⟨rfl, rfl⟩ := hkey
    obtain ⟨hcode, hgroup⟩ := fn_key hfn
    have heval : s.evalFn c strGroup present = s.setFn { g with
        condition := present, absent := if present then 0 else min 127 (g.absent + 1)
        absentSince := if present then none else some (g.absentSince.getD s.now) } := by
      unfold State.evalFn
      rw [hfn]
      dsimp only
      rw [hlatched]
      rfl
    rw [heval]
    exact ⟨_, fn_setFn_same s hlatched hcode hgroup, hlatched, haction, hdemands⟩
  · refine ⟨g, ?_, hlatched, haction, hdemands⟩
    unfold State.evalFn
    split
    · split
      · rw [fn_setFn_other s hkey, hfn]
      · exact hfn
    next f hf =>
      obtain ⟨hcode, hgroup⟩ := fn_key hf
      split
      · rw [fn_setFn_other s (by rwa [hcode, hgroup]), hfn]
      · rw [fn_setFn_other s (by rwa [hcode, hgroup]), hfn]

end Sys2Proof.Machine

/-! What a restart leaves of the coils, and the reset it notes (19 R463, R475 to R477; 21 R516). -/

namespace Sys2Proof.Machine

open Sys2Proof

/-! ### The steps of a start keep the coils and the reset noted -/

/-- The coils, and the level and cause of the reset. -/
def State.resetMark (s : State) : Table Coil × Nat × Nat := (s.ct.coils, s.pw.resetLevel, s.pw.resetCause)

section ResetMark

theorem resetMark_of_quiet {a b : State} (h : a.quiet = b.quiet) : a.resetMark = b.resetMark := (congrArg State.resetMark h :)

@[simp] theorem record_resetMark (s : State) (e : Ev) (n : Nat) (d : List Nat) : (s.record e n d).resetMark = s.resetMark := resetMark_of_quiet (record_quiet ..)
@[simp] theorem onUpdate_resetMark (s : State) (f : Update → Update) : (s.onUpdate f).resetMark = s.resetMark := rfl
@[simp] theorem onTwin_resetMark (s : State) (f : Twin → Twin) : (s.onTwin f).resetMark = s.resetMark := rfl
@[simp] theorem onMaster_resetMark (s : State) (f : Master → Master) : (s.onMaster f).resetMark = s.resetMark := rfl
@[simp] theorem onProt_resetMark (s : State) (f : Prot → Prot) : (s.onProt f).resetMark = s.resetMark := rfl
@[simp] theorem onSage_resetMark (s : State) (f : Sage → Sage) : (s.onSage f).resetMark = s.resetMark := rfl
@[simp] theorem onCell_resetMark (s : State) (c : Nat) (f : CellEst → CellEst) : (s.onCell c f).resetMark = s.resetMark := rfl
@[simp] theorem onTap_resetMark (s : State) (n j : Nat) (f : Tap → Tap) : (s.onTap n j f).resetMark = s.resetMark := rfl
@[simp] theorem onNode_resetMark (s : State) (n : Nat) (f : NodeCtl → NodeCtl) : (s.onNode n f).resetMark = s.resetMark := rfl
@[simp] theorem onValve_resetMark (s : State) (v : Nat) (f : Valve → Valve) : (s.onValve v f).resetMark = s.resetMark := rfl
@[simp] theorem setFn_resetMark (s : State) (f : Fn) : (s.setFn f).resetMark = s.resetMark := rfl
@[simp] theorem toAcquiring_resetMark (s : State) : s.toAcquiring.resetMark = s.resetMark := rfl
@[simp] theorem writeBoot_resetMark (s : State) (f : BootRec → BootRec) : (s.writeBoot f).resetMark = s.resetMark := rfl
@[simp] theorem bootFrom_resetMark (s : State) (k : Nat) : (s.bootFrom k).resetMark = s.resetMark := rfl
@[simp] theorem toRecovery_resetMark (s : State) : s.toRecovery.resetMark = s.resetMark := rfl
@[simp] theorem startRole_resetMark (s : State) : s.startRole.resetMark = s.resetMark := rfl
@[simp] theorem startBlocks_resetMark (s : State) : s.startBlocks.resetMark = s.resetMark := rfl
@[simp] theorem loadEpochs_resetMark (s : State) : s.loadEpochs.resetMark = s.resetMark := rfl
@[simp] theorem writeLatches_resetMark (s : State) : s.writeLatches.resetMark = s.resetMark := resetMark_of_quiet (writeItem_quiet ..)

@[simp] theorem recorderStart_resetMark (s : State) : s.recorderStart.resetMark = s.resetMark := by
  refine resetMark_of_quiet ?_
  unfold State.recorderStart
  extract_lets r afterHeld res start gap s1 s2 s3
  have hs3 : s3.quiet = s.quiet := (record_quiet ..).trans ((writeReservation_quiet ..).trans (onRosemary_quiet ..))
  split
  · rw [record_quiet, hs3]
  · exact hs3

@[simp] theorem bootCommitted_resetMark (s : State) (i : StartIn) : (s.bootCommitted i).resetMark = s.resetMark := by
  unfold State.bootCommitted
  dsimp only
  split
  · rfl
  · split
    · rw [record_resetMark, bootFrom_resetMark]
    · rfl

@[simp] theorem rollBack_resetMark (s : State) (i : StartIn) : (s.rollBack i).resetMark = s.resetMark := by
  unfold State.rollBack
  dsimp only
  rw [record_resetMark, bootCommitted_resetMark, onUpdate_resetMark, writeBoot_resetMark]

@[simp] theorem bootSelect_resetMark (s : State) (i : StartIn) : (s.bootSelect i).resetMark = s.resetMark := by
  unfold State.bootSelect
  dsimp only
  split
  · rfl
  · split
    · simp
    · split
      · simp
      · split
        · split <;> simp
        · simp

@[simp] theorem recordLosses_resetMark (s : State) : s.recordLosses.resetMark = s.resetMark := by
  refine foldl_keeps State.resetMark (fun u k => ?_) _ s
  split <;> simp

@[simp] theorem loadLatches_resetMark (s : State) : s.loadLatches.resetMark = s.resetMark := by
  unfold State.loadLatches
  split
  · rfl
  · dsimp only
    split
    · rfl
    · rw [writeLatches_resetMark]; rfl

@[simp] theorem loadPrecharge_resetMark (s : State) : s.loadPrecharge.resetMark = s.resetMark := by
  unfold State.loadPrecharge
  split
  · rfl
  · dsimp only
    split <;> rfl

@[simp] theorem energise_resetMark (s : State) (v : Nat) : (s.energise v).resetMark = s.resetMark := by
  unfold State.energise; split <;> rfl

@[simp] theorem loadValves_resetMark (s : State) : s.loadValves.resetMark = s.resetMark := by
  refine foldl_keeps State.resetMark (fun u v => ?_) _ s
  dsimp only
  split <;> simp

@[simp] theorem defaultNode_resetMark (s : State) (n : Nat) : (s.defaultNode n).resetMark = s.resetMark := by
  have hcells := foldl_keeps State.resetMark (f := fun s c => s.onCell c fun _ => s.defaultCell) (fun u c => rfl) (s.cfg.cellsOfNode n) s
  unfold State.defaultNode
  dsimp only
  rw [onSage_resetMark]
  exact (foldl_keeps State.resetMark (fun u j => onTap_resetMark ..) _ _).trans hcells

@[simp] theorem loadCell_resetMark (s : State) (c : Nat) (e : List Nat) : (s.loadCell c e).resetMark = s.resetMark := rfl

@[simp] theorem loadTaps_resetMark (s : State) (n : Nat) (p : List Nat) : (s.loadTaps n p).resetMark = s.resetMark := by
  refine foldl_keeps State.resetMark (fun u j => ?_) _ s
  rfl

@[simp] theorem loadCoefs_resetMark (s : State) (n : Nat) (p : List Nat) : (s.loadCoefs n p).resetMark = s.resetMark := by
  refine foldl_keeps State.resetMark (fun u k => ?_) _ s
  rfl

@[simp] theorem loadBases_resetMark (s : State) (n : Nat) (p : List Nat) : (s.loadBases n p).resetMark = s.resetMark := by
  refine foldl_keeps State.resetMark (fun u k => ?_) _ s
  rfl

@[simp] theorem loadNode_resetMark (s : State) (n : Nat) : (s.loadNode n).resetMark = s.resetMark := by
  unfold State.loadNode
  dsimp only
  rw [foldl_keeps State.resetMark fun u p => loadBases_resetMark u n p, foldl_keeps State.resetMark fun u p => loadCoefs_resetMark u n p,
    foldl_keeps State.resetMark fun u p => loadTaps_resetMark u n p]
  rw [foldl_keeps State.resetMark fun u p => foldl_keeps State.resetMark (fun v c => loadCell_resetMark v c _) _ u]
  rw [onNode_resetMark, defaultNode_resetMark]

@[simp] theorem loadSnapshot_resetMark (s : State) (leak : State → Nat → Rat) (known forced : Bool) :
    (s.loadSnapshot leak known forced).resetMark = s.resetMark := by
  unfold State.loadSnapshot
  split
  · rfl
  · split
    · rfl
    · refine foldl_keeps State.resetMark (fun u k => ?_) _ s
      split <;> rfl

@[simp] theorem loadLearned_resetMark (s : State) (known forced : Bool) : (s.loadLearned known forced).resetMark = s.resetMark := by
  have hmark (u : State) : (u.onPower fun p => { p with itemsRead := true }).resetMark = u.resetMark := rfl
  unfold State.loadLearned
  dsimp only
  rw [hmark, loadSnapshot_resetMark, foldl_keeps State.resetMark loadNode_resetMark]
  simp

/-- The rows of a warm start keep the coils and the reset noted. -/
theorem startRows_resetMark (s : State) (forced : Bool) (i : StartIn) : (s.startRows 2 forced i).resetMark = s.resetMark := by
  have hbare (u : State) : ({ u with cfg := {} } : State).resetMark = u.resetMark := rfl
  have hstate (u : State) : (u.onPower fun p => { p with state := .unconfigured }).resetMark = u.resetMark := rfl
  have hports (u : State) : (u.onPower fun p => { p with portsUp := true }).resetMark = u.resetMark := rfl
  unfold State.startRows
  dsimp only
  rw [if_pos rfl]
  split
  · rw [hstate, toAcquiring_resetMark, record_resetMark, hbare]
  · rw [onUpdate_resetMark, hports, loadLearned_resetMark, toAcquiring_resetMark, startBlocks_resetMark, startRole_resetMark]

end ResetMark

/-! ### A warm restart (19 R463, R475, R477) -/

/-- An entry that every update leaves with the part of an absent one reads so under every key. -/
theorem look_of_part {α β : Type} (part : α → β) {d : α} (k : Nat) {l : List (Nat × α)} (h : ∀ e ∈ l, part e.2 = part d) : part (Table.look d k l) = part d := by
  induction l with
  | nil => rfl
  | cons e l ih =>
    rw [Table.look]
    split
    · exact h e List.mem_cons_self
    · exact ih fun x hx => h x (List.mem_cons_of_mem e hx)

theorem get_mapAll_of_part {α β : Type} [DecidableEq α] (part : α → β) {d : α} {f : Nat → α → α} (h : ∀ k x, part (f k x) = part d) (t : Table α) (k : Nat) :
    part ((t.mapAll d f).get k d) = part d := by
  refine look_of_part part k fun e he => ?_
  obtain ⟨x, -, rfl⟩ := List.mem_map.1 (List.mem_filter.1 he).1
  exact h ..

/-- Nothing of the coils' phases outlasts the restart of the cores. -/
theorem clearWorking_phase (s : State) (k : Nat) : ((s.clearWorking).coil k).phase = .off :=
  get_mapAll_of_part (d := {}) (f := fun _ c => { mirrorClosed := c.mirrorClosed, failed := c.failed }) Coil.phase (fun _ _ => rfl) s.ct.coils k

/-- A warm restart with its copy in order and no configuration in trial notes its level and cause, over coils that are cleared (19 R475, R477). -/
theorem restart_resetMark {s : State} {cause : Nat} {i : StartIn} (hcopy : i.copyOk = true) (htrial : s.up.trialKind ≠ 2) :
    ∃ u : State, (s.restart 2 cause i).resetMark = (u.clearWorking.ct.coils, 2, cause) := by
  have hlocked (u : State) : (u.onPower fun p => { p with state := .resetLocked }).resetMark = u.resetMark := rfl
  unfold State.restart
  extract_lets bad l1 c1 revert l2 c2 counted faults s0 s1 s2 s3 s4
  have hbad : bad = false := by
    show (decide _ && !i.copyOk) = false
    rw [hcopy]
    rfl
  have hl1 : l1 = 2 := if_neg (by rw [hbad]; exact Bool.false_ne_true)
  have hc1 : c1 = cause := if_neg (by rw [hbad]; exact Bool.false_ne_true)
  have hrevert : revert = false := by
    show (_ && decide (s.up.trialKind = 2)) = false
    rw [decide_eq_false htrial, Bool.and_false]
  have hl2 : l2 = 2 := (if_neg (by rw [hrevert]; exact Bool.false_ne_true)).trans hl1
  have hc2 : c2 = cause := (if_neg (by rw [hrevert]; exact Bool.false_ne_true)).trans hc1
  have hs1 : s1.resetMark = (s0.clearWorking.ct.coils, l2, c2) := rfl
  have hs3 : s3 = s2 := if_neg (by rw [hrevert]; exact Bool.false_ne_true)
  have hs4 : s4.resetMark = (s0.clearWorking.ct.coils, 2, cause) := by
    show (s3.bootSelect i).resetMark = _
    rw [bootSelect_resetMark, hs3]
    show (s1.recorderStart).resetMark = _
    rw [recorderStart_resetMark, hs1, hl2, hc2]
  refine ⟨s0, ?_⟩
  rw [← hs4, hl2]
  split
  · exact toAcquiring_resetMark s4
  · split
    · rw [hlocked, toAcquiring_resetMark, record_resetMark]
    · exact startRows_resetMark ..

theorem restart_warm {s : State} {cause : Nat} {i : StartIn} (hcopy : i.copyOk = true) (htrial : s.up.trialKind ≠ 2) :
    (s.restart 2 cause i).pw.resetLevel = 2 ∧ (s.restart 2 cause i).pw.resetCause = cause ∧ ∀ k, ((s.restart 2 cause i).coil k).phase = .off := by
  obtain ⟨u, hmark⟩ := restart_resetMark hcopy htrial
  simp only [State.resetMark, Prod.mk.injEq] at hmark
  obtain ⟨hcoils, hlevel, hcause⟩ := hmark
  refine ⟨hlevel, hcause, fun k => ?_⟩
  rw [coil_of_coils hcoils]
  exact clearWorking_phase u k

end Sys2Proof.Machine

/-! The frames of a twin pair, island faults and the supervision of Thyme (02 R57; 11 R312; 13 R347; 14 R362, R371, R374; 19 R475, R476). -/

namespace Sys2Proof.Machine

open Sys2Proof

/-! ### The header of a frame (14 R374) -/

/-- The state without the twin link. -/
def State.offTwin (s : State) : State := { s with tw := {} }

/-- A frame whose header is not taken is counted, and its mismatch noted (14 R372, R374). -/
theorem takeHdr_refused {s : State} {h : TwHdr} (hbad : s.hdrOk h = false) (ftype : Nat) :
    (∃ m, (s.takeHdr ftype h).tw = { s.tw with gaps := wrapInc s.tw.gaps, mismatch := m }) ∧ (s.takeHdr ftype h).quiet.offTwin = s.quiet.offTwin := by
  unfold State.takeHdr
  rw [if_pos (by rw [hbad]; rfl)]
  dsimp only
  split
  · rw [record_tw, record_quiet]
    exact ⟨⟨true, rfl⟩, rfl⟩
  · exact ⟨⟨s.tw.mismatch, rfl⟩, rfl⟩

/-- A header that is taken is noted on the twin link alone. -/
theorem takeHdr_taken {s : State} {h : TwHdr} (hok : s.hdrOk h = true) (ftype : Nat) :
    ∃ g : Twin → Twin, s.takeHdr ftype h = s.onTwin g ∧ ∀ w, (g w).role = w.role := by
  unfold State.takeHdr
  rw [if_neg (by rw [hok]; decide)]
  dsimp only
  exact ⟨_, rfl, fun _ => rfl⟩

/-! ### What a follower hears of its leader (14 R371, R372; 21 R522 to R525) -/

/-- The state without records, update, radio and free values, and without the partner's commit: what hearing of the partner's image leaves alone. -/
def State.unheard (s : State) : State := { s.quiet with up := {}, ra := {}, freeIdx := 0, tw := { s.tw with partnerCommitted := false } }

theorem unheard_of_quiet {a b : State} (h : a.quiet = b.quiet) : a.unheard = b.unheard := (congrArg State.unheard h :)

theorem onUpdate_unheard (s : State) (f : Update → Update) : (s.onUpdate f).unheard = s.unheard := rfl
theorem partnerCommitted_unheard (s : State) (b : Bool) : (s.onTwin fun w => { w with partnerCommitted := b }).unheard = s.unheard := rfl

theorem rollStart_unheard (s : State) : s.rollStart.unheard = s.unheard := by
  unfold State.rollStart
  split
  · rfl
  · split
    · rfl
    · refine (foldl_keeps State.unheard (fun u n => ?_) _ _).trans ?_
      · rfl
      · rfl

theorem bothCommitted_unheard (s : State) (kind : Nat) : (s.bothCommitted kind).unheard = s.unheard := by
  unfold State.bothCommitted
  split
  · rw [rollStart_unheard, partnerCommitted_unheard, onUpdate_unheard]
  · rfl

theorem writeUpdateItem_unheard (s : State) : s.writeUpdateItem.unheard = s.unheard := unheard_of_quiet (writeItem_quiet ..)

theorem record_unheard (s : State) (e : Ev) (n : Nat) (d : List Nat) : (s.record e n d).unheard = s.unheard := unheard_of_quiet (record_quiet ..)

/-- What the partner says of its image is noted on the twin link (21 R522 to R525). -/
theorem updateHeard_unheard (s : State) (f : ShadowIn) : ∃ g : Twin → Twin, (s.updateHeard f).unheard = (s.onTwin g).unheard ∧
    ∀ w, (g w).role = w.role ∧ (g w).partnerHash = some f.hash ∧ (g w).partnerVersion = f.stagedVersion := by
  unfold State.updateHeard
  extract_lets own s1 s2 s3 s4
  have hs2 : s2.unheard = s1.unheard := by
    show (if f.trial then s1.holdFollow else s1).unheard = _
    split
    · exact onUpdate_unheard ..
    · rfl
  have hs3 : s3.unheard = s2.unheard := by
    show (if f.committed = 0 then s2 else _).unheard = _
    split
    · rfl
    · rw [bothCommitted_unheard, onUpdate_unheard, partnerCommitted_unheard]
  have hs4 : s4.unheard = s3.unheard := by
    show (if _ then _ else s3).unheard = _
    split
    · rw [record_unheard, writeUpdateItem_unheard, onUpdate_unheard]
    · rfl
  have hs5 : (if f.view.keyEpoch = some own.version ∧ !s4.leads then s4.onUpdate fun u => { u with keyRollDue := false } else s4).unheard = s4.unheard := by
    split
    · exact onUpdate_unheard ..
    · rfl
  exact ⟨_, hs5.trans (hs4.trans (hs3.trans hs2)), fun w => ⟨rfl, rfl, rfl⟩⟩

theorem onTwin_quiet_congr {a b : State} (h : a.quiet = b.quiet) (g : Twin → Twin) : (a.onTwin g).quiet = (b.onTwin g).quiet :=
  (congrArg (fun u : State => u.onTwin g) h :)

/-- The comparison of the twins ends a syncing alone (14 R372). -/
theorem compareTwin_quiet (s : State) (h : TwHdr) : ∃ g : Twin → Twin, (s.compareTwin h).quiet = (s.onTwin g).quiet ∧
    ∀ w, (w.role ≠ .syncing → (g w).role = w.role) ∧ (g w).partnerHash = w.partnerHash ∧ (g w).partnerVersion = w.partnerVersion := by
  unfold State.compareTwin
  extract_lets bad s1
  have hs1 : s1.quiet = s.quiet := by
    show (if _ then _ else s).quiet = _
    split
    · rw [record_quiet]
    · rfl
  exact ⟨_, onTwin_quiet_congr hs1 _, fun w => ⟨fun hrole => if_neg fun hsync => hrole hsync.2, rfl, rfl⟩⟩

/-- What a shadow frame that is taken says of the partner, before its state is taken (14 R371, R372). -/
def State.heardFrame (s : State) (f : ShadowIn) : State := ((s.takeHdr f.ftype f.hdr).updateHeard f).compareTwin f.hdr

/-- Hearing a frame leaves the role of a twin that leads or follows, and the state that the frame carries. -/
theorem heardFrame_keeps {s : State} {f : ShadowIn} (hok : s.hdrOk f.hdr = true) (hrole : s.tw.role ≠ .syncing) :
    (s.heardFrame f).tw.role = s.tw.role ∧ (s.heardFrame f).tw.partnerHash = some f.hash ∧ (s.heardFrame f).tw.partnerVersion = f.stagedVersion ∧
    (s.heardFrame f).di = s.di ∧ (s.heardFrame f).ba = s.ba ∧ (s.heardFrame f).ch = s.ch ∧ (s.heardFrame f).tm = s.tm := by
  obtain ⟨g1, htaken, hg1⟩ := takeHdr_taken hok f.ftype
  obtain ⟨g2, hheard, hg2⟩ := updateHeard_unheard (s.onTwin g1) f
  obtain ⟨g3, hcompared, hg3⟩ := compareTwin_quiet ((s.onTwin g1).updateHeard f) f.hdr
  unfold State.heardFrame
  rw [htaken]
  generalize (s.onTwin g1).updateHeard f = u at hheard hcompared
  generalize u.compareTwin f.hdr = v at hcompared
  have hu (w : Twin) : (g3 w).role = w.role ∨ w.role = .syncing := (em (w.role = .syncing)).symm.imp (hg3 w).1 id
  have hurole : u.tw.role = s.tw.role := (congrArg (fun x : State => x.tw.role) hheard :).trans ((hg2 (g1 s.tw)).1.trans (hg1 s.tw))
  have huhash : u.tw.partnerHash = some f.hash := (congrArg (fun x : State => x.tw.partnerHash) hheard :).trans (hg2 (g1 s.tw)).2.1
  have huversion : u.tw.partnerVersion = f.stagedVersion := (congrArg (fun x : State => x.tw.partnerVersion) hheard :).trans (hg2 (g1 s.tw)).2.2
  have htw : v.tw = g3 u.tw := (congrArg State.tw hcompared :)
  obtain ⟨hkept, hhash, hversion⟩ := hg3 u.tw
  refine ⟨?_, ?_, ?_, ?_, ?_, ?_, ?_⟩
  · rw [htw, hkept (by rwa [hurole]), hurole]
  · rw [htw, hhash, huhash]
  · rw [htw, hversion, huversion]
  · exact (congrArg State.di hcompared :).trans (congrArg State.di hheard :)
  · exact (congrArg State.ba hcompared :).trans (congrArg State.ba hheard :)
  · exact (congrArg State.ch hcompared :).trans (congrArg State.ch hheard :)
  · exact (congrArg State.tm hcompared :).trans (congrArg State.tm hheard :)

/-- What a follower takes of a frame's state, with what it heard beside it. -/
def State.taken (s : State) : Dispatch × Basil × Table CellEst × Option Nat × Nat := (s.di, s.ba, s.ch.cells, s.tw.partnerHash, s.tw.partnerVersion)

theorem onCont_taken (s : State) (f : Cont → Cont) : (s.onCont f).taken = s.taken := rfl
theorem partnerMirror_taken (s : State) (m : Nat) : (s.onTwin fun w => { w with partnerMirror := m }).taken = s.taken := rfl

theorem shadowCont_taken (s : State) (c : Cont) : (s.shadowCont c).taken = s.taken := by
  unfold State.shadowCont
  extract_lets own
  rw [partnerMirror_taken, onCont_taken]

/-- The state a frame carries takes the place of a follower's (14 R371). -/
theorem shadowView_takes (s : State) (v : TwinView) : (s.shadowView v).taken =
    (v.di.getD s.di, v.ba.getD s.ba, v.cells.getD s.ch.cells, s.tw.partnerHash, s.tw.partnerVersion) := by
  unfold State.shadowView
  extract_lets s1 s2 s3 s4 s5 s6 s7 s8 s9
  have hs1 : s1.taken = s.taken := by
    show (v.cont.elim s s.shadowCont).taken = _
    cases v.cont with
    | none => rfl
    | some c => exact shadowCont_taken s c
  have hs4 : s4.taken = (v.di.getD s1.di, v.ba.getD s1.ba, s1.ch.cells, s1.tw.partnerHash, s1.tw.partnerVersion) := rfl
  have hs7 : s7.taken = s4.taken := rfl
  have hs9 : s9.taken = (s7.di, s7.ba, v.cells.getD s7.ch.cells, s7.tw.partnerHash, s7.tw.partnerVersion) := rfl
  have hlast : (match v.can with
      | none => s9
      | some k => s9.onCan fun c => { c with chans := c.chans.mapAll {} fun i x => { x with tx := (k.chans.get i {}).tx } }).taken = s9.taken := by
    cases v.can <;> rfl
  simp only [State.taken, Prod.mk.injEq] at hs1 hs4 hs7
  obtain ⟨hdi, hba, hcells, hhash, hversion⟩ := hs1
  obtain ⟨hdi4, hba4, hcells4, hhash4, hversion4⟩ := hs4
  obtain ⟨hdi7, hba7, hcells7, hhash7, hversion7⟩ := hs7
  rw [← hdi, ← hba, ← hcells, ← hhash, ← hversion, ← hdi4, ← hba4, ← hcells4, ← hhash4, ← hversion4, ← hdi7, ← hba7, ← hcells7, ← hhash7, ← hversion7, ← hs9]
  exact hlast

theorem twinShadowFrame_off {s : State} (hoff : s.twinOn = false) (f : ShadowIn) : twinShadowFrame f s = s := by
  unfold twinShadowFrame
  rw [hoff]
  rfl

theorem twinShadowFrame_refused {s : State} {f : ShadowIn} (hon : s.twinOn = true) (hbad : s.hdrOk f.hdr = false) :
    twinShadowFrame f s = s.takeHdr f.ftype f.hdr := by
  unfold twinShadowFrame
  rw [hon, hbad]
  rfl

theorem twinShadowFrame_taken {s : State} {f : ShadowIn} (hon : s.twinOn = true) (hok : s.hdrOk f.hdr = true) : twinShadowFrame f s =
    if (s.heardFrame f).tw.role = .follower ∨ (s.heardFrame f).tw.role = .syncing then
      (match f.item with | some (k, q, w, p) => ((s.heardFrame f).shadowView f.view).mirrorItem k q w p | none => (s.heardFrame f).shadowView f.view).onTwin
        fun w => { w with itemsSynced := w.itemsSynced || f.lastItem, bulkSynced := w.bulkSynced || f.lastBulk }
    else s.heardFrame f := by
  unfold twinShadowFrame
  rw [hon, hok]
  rfl

/-- A follower takes the state of its leader (14 R371). -/
theorem twinShadowFrame_follower {s : State} {f : ShadowIn} (hon : s.twinOn = true) (hok : s.hdrOk f.hdr = true) (hrole : s.tw.role = .follower) :
    ∃ v : State, twinShadowFrame f s = v ∧ v.di = f.view.di.getD s.di ∧ v.ba = f.view.ba.getD s.ba ∧ v.ch.cells = f.view.cells.getD s.ch.cells ∧
      v.tw.partnerHash = some f.hash ∧ v.tw.partnerVersion = f.stagedVersion ∧ (f.lastItem = true → v.tw.itemsSynced = true) := by
  obtain ⟨hkept, hhash, hversion, hdi, hba, hch, -⟩ := heardFrame_keeps hok (by rw [hrole]; decide)
  have htakes := shadowView_takes (s.heardFrame f) f.view
  simp only [State.taken, Prod.mk.injEq] at htakes
  obtain ⟨hvdi, hvba, hvcells, hvhash, hvversion⟩ := htakes
  refine ⟨_, rfl, ?_⟩
  rw [twinShadowFrame_taken hon hok, if_pos (.inl (hkept.trans hrole))]
  generalize (s.heardFrame f).shadowView f.view = v at *
  generalize hm : (match f.item with | some (k, q, w, p) => v.mirrorItem k q w p | none => v) = m
  have hsame : m.quiet = v.quiet := by
    rw [← hm]
    split <;> rfl
  have htw : m.tw = v.tw := (congrArg State.tw hsame :)
  refine ⟨?_, ?_, ?_, ?_, ?_, fun hlast => ?_⟩
  · exact (congrArg State.di hsame :).trans (hvdi.trans (by rw [hdi]))
  · exact (congrArg State.ba hsame :).trans (hvba.trans (by rw [hba]))
  · exact (congrArg (fun x : State => x.ch.cells) hsame :).trans (hvcells.trans (by rw [hch]))
  · exact (congrArg Twin.partnerHash htw).trans (hvhash.trans hhash)
  · exact (congrArg Twin.partnerVersion htw).trans (hvversion.trans hversion)
  · show (m.tw.itemsSynced || f.lastItem) = true
    rw [hlast, Bool.or_true]

/-! ### The partner's island (11 R312; 13 R347) -/

theorem energyHold_partnerSaid (s : State) (c : Nat) : (s.energyHold c).partnerSaid = s.partnerSaid := by
  unfold State.energyHold
  dsimp only
  split
  · exact decideFn_partnerSaid ..
  · rfl

theorem energyHold_fn (s : State) (c : Nat) : (s.energyHold c).fn 0x0B strGroup = s.fn 0x0B strGroup := by
  unfold State.energyHold
  dsimp only
  split
  · exact decideFn_fn_other s (by decide) ..
  · rfl

theorem partnerSlots_partnerSaid (s : State) (f : IslandIn) : (s.partnerSlots f).partnerSaid = s.partnerSaid := by
  refine foldl_keeps State.partnerSaid (fun u c => ?_) _ s
  dsimp only
  split
  · rfl
  · exact (energyHold_partnerSaid ..).trans rfl

theorem partnerSlots_fn (s : State) (f : IslandIn) : (s.partnerSlots f).fn 0x0B strGroup = s.fn 0x0B strGroup := by
  refine foldl_keeps (fun u : State => u.fn 0x0B strGroup) (fun u c => ?_) _ s
  dsimp only
  split
  · rfl
  · exact (energyHold_fn ..).trans rfl

theorem evaluateInputs_partnerSaid (s : State) : s.evaluateInputs.partnerSaid = s.partnerSaid :=
  foldl_keeps State.partnerSaid (fun _ _ => evalFn_partnerSaid ..) _ s

theorem evaluateInputs_tripped {s : State} {code : Nat} (h : s.Tripped code) : s.evaluateInputs.Tripped code :=
  List.foldlRecOn (motive := fun u : State => u.Tripped code) _ _ h fun _ hu _ _ => evalFn_stays_tripped hu ..

/-- The partner's reception, inputs and decisions, as an island frame brings them, before this module decides on them (11 R312). -/
def State.islandHeard (s : State) (f : IslandIn) (g : Twin → Twin) : State :=
  ((((s.onTwin g).onProt fun p => { p with partnerHeard := f.heard, partnerEnergy := f.energy, partnerAt := some s.now, partnerFns := f.decisions }).partnerSlots f).onSafety
    fun x => { x with partnerDemand := f.demand })

/-- The demands of the partner that are new (13 R347). -/
def State.freshDemands (s : State) (f : IslandIn) : List Nat := f.demand.filter fun i => !decide (i ∈ s.sf.partnerDemand)

/-- A demand of the partner acts as the module's own does (13 R347). -/
def partnerDemands (l : List Nat) (s : State) : State := l.foldl (fun s i => s.decideFn 0x0B strGroup i 1) s

theorem islandFrame_off {s : State} (hoff : s.twinOn = false) (f : IslandIn) : islandFrame f s = s := by
  unfold islandFrame
  rw [hoff]
  rfl

theorem islandFrame_refused {s : State} {f : IslandIn} (hon : s.twinOn = true) (hbad : s.hdrOk f.hdr = false) : islandFrame f s = s.takeHdr 2 f.hdr := by
  unfold islandFrame
  rw [hon, hbad]
  rfl

theorem islandFrame_taken {s : State} {f : IslandIn} (hon : s.twinOn = true) (hok : s.hdrOk f.hdr = true) : ∃ g : Twin → Twin, islandFrame f s =
    (partnerDemands ((s.freshDemands f).filter fun i => decide (i ∈ s.inputsOf 1 ++ s.inputsOf 2))
      (if (s.freshDemands f).isEmpty then s.islandHeard f g else (s.islandHeard f g).interruptTests)).evaluateInputs := by
  obtain ⟨g, hg, -⟩ := takeHdr_taken hok 2
  refine ⟨g, ?_⟩
  unfold islandFrame
  rw [hon, hok, hg]
  rfl

theorem islandHeard_partnerSaid (s : State) (f : IslandIn) (g : Twin → Twin) :
    (s.islandHeard f g).partnerSaid = (f.heard, f.energy, some s.now, f.decisions, f.demand) := by
  have hslots := partnerSlots_partnerSaid ((s.onTwin g).onProt fun p => { p with
    partnerHeard := f.heard, partnerEnergy := f.energy, partnerAt := some s.now, partnerFns := f.decisions }) f
  simp only [State.partnerSaid, Prod.mk.injEq] at hslots
  obtain ⟨hheard, henergy, hat, hfns, -⟩ := hslots
  unfold State.islandHeard State.partnerSaid
  simp only [State.onSafety_pr, State.onSafety_sf, hheard, henergy, hat, hfns]
  rfl

theorem islandHeard_fn (s : State) (f : IslandIn) (g : Twin → Twin) : (s.islandHeard f g).fn 0x0B strGroup = s.fn 0x0B strGroup :=
  (partnerSlots_fn ..).trans rfl

theorem partnerDemands_partnerSaid (l : List Nat) (s : State) : (partnerDemands l s).partnerSaid = s.partnerSaid :=
  foldl_keeps State.partnerSaid (fun _ _ => decideFn_partnerSaid ..) l s

/-- A demand of the partner on an emergency stop or external trip opens the string (11 R312; 13 R347). -/
theorem partnerDemands_tripped {l : List Nat} {i : Nat} {s : State} (hi : i ∈ l) (hnone : s.fn 0x0B strGroup = none) :
    (partnerDemands l s).Tripped 0x0B := by
  have hstep (u : State) (x : Nat) (hu : u.fn 0x0B strGroup = none ∨ u.Tripped 0x0B) : (u.decideFn 0x0B strGroup x 1).Tripped 0x0B :=
    hu.elim (fun h => decideFn_tripped (trips_input u) h ..) fun h => decideFn_stays_tripped (trips_input u) h ..
  exact foldl_reaches (c := i) (fun u x _ hu => .inr (hstep u x hu)) (fun u hu => hstep u i hu) (fun u x hu => hstep u x (.inr hu)) l hi s (.inl hnone)

/-- Every island frame that is taken brings what the partner said (11 R312). -/
theorem islandFrame_partnerSaid {s : State} {f : IslandIn} (hon : s.twinOn = true) (hok : s.hdrOk f.hdr = true) :
    (islandFrame f s).partnerSaid = (f.heard, f.energy, some s.now, f.decisions, f.demand) := by
  obtain ⟨g, hframe⟩ := islandFrame_taken hon hok
  rw [hframe, evaluateInputs_partnerSaid, partnerDemands_partnerSaid, ← islandHeard_partnerSaid s f g]
  split
  · rfl
  · exact partnerSaid_of_table (interruptTests_table _)

/-- A new demand of the partner on an emergency stop or external trip acts here as well (13 R347). -/
theorem islandFrame_tripped {s : State} {f : IslandIn} {i : Nat} (hon : s.twinOn = true) (hok : s.hdrOk f.hdr = true) (hdemand : i ∈ f.demand)
    (hnew : i ∉ s.sf.partnerDemand) (hinput : i ∈ s.inputsOf 1 ++ s.inputsOf 2) (hnone : s.fn 0x0B strGroup = none) : (islandFrame f s).Tripped 0x0B := by
  obtain ⟨g, hframe⟩ := islandFrame_taken hon hok
  have hfresh : i ∈ (s.freshDemands f).filter fun i => decide (i ∈ s.inputsOf 1 ++ s.inputsOf 2) :=
    List.mem_filter.2 ⟨List.mem_filter.2 ⟨hdemand, by simp [hnew]⟩, decide_eq_true hinput⟩
  have hheard := (islandHeard_fn s f g).trans hnone
  rw [hframe]
  refine evaluateInputs_tripped (partnerDemands_tripped hfresh ?_)
  split
  · exact hheard
  · exact (fn_of_table (interruptTests_table _) ..).trans hheard

/-- A demanding SD action sets the stop-request of the state settled (01 R33; 11 R288). -/
theorem settle_islandStop {old s : State} (h : (old.settle s).holdDemand = true) : (old.settle s).rt.islandStop = true :=
  (settle_settled old s).stop.trans h

theorem holdDemand_of_tripped {s : State} {code : Nat} {g : Fn} (hfn : s.fn code strGroup = some g) (haction : g.action = .sd)
    (hdemands : g.demanding = true) : s.holdDemand = true := by
  have hsd : s.sdActive = true := List.any_eq_true.2 ⟨g, List.mem_of_find?_eq_some hfn, by rw [hdemands, haction]; rfl⟩
  rw [State.holdDemand, State.stringAction, hsd]
  rfl

end Sys2Proof.Machine

/-! Island faults, the supervision of Thyme, and what the twins say of each other (02 R57; 11 R312; 13 R347; 14 R362, R371, R374; 19 R475, R476). -/

namespace Sys2Proof.Machine

open Sys2Proof

/-! ### A withdrawal (14 R362) -/

theorem twinSend_withdrawal (s : State) (k : EmKind) (ftype : Nat) (p : List Nat) : (s.twinSend k ftype p).tw.role = s.tw.role ∧
    (s.twinSend k ftype p).tw.cause = s.tw.cause ∧ (s.twinSend k ftype p).tw.withdrawAt = s.tw.withdrawAt ∧ (s.twinSend k ftype p).ct = s.ct ∧
    (s.twinSend k ftype p).th = s.th := ⟨rfl, rfl, rfl, rfl, rfl⟩

/-- A twin that withdraws names its cause and instant, and moves no contactor (14 R362). -/
theorem withdraw_withdraws {s : State} (hrole : s.tw.role ≠ .withdrawn) (cause : Nat) : (s.withdraw cause).tw.role = .withdrawn ∧
    (s.withdraw cause).tw.cause = cause ∧ (s.withdraw cause).tw.withdrawAt = some s.now ∧ (s.withdraw cause).ct = s.ct ∧ (s.withdraw cause).th = s.th := by
  unfold State.withdraw
  rw [if_neg hrole]
  dsimp only
  obtain ⟨hwithdrawn, hcause, hat, hct, hth⟩ := twinSend_withdrawal ((s.record .withdrawal 0 [cause]).onTwin fun w => { w with
    role := .withdrawn, ready := false, cause := cause, withdrawAt := some s.now, handoverAt := none, pairUntil := none }) .withdrawFrame 7 [cause]
  rw [State.onMaster_tw, State.onMaster_ct, State.onMaster_th, hwithdrawn, hcause, hat, hct, hth, State.onTwin_ct, State.onTwin_th, record_ct, record_th]
  exact ⟨rfl, rfl, rfl, rfl, rfl⟩

/-! ### The reset of a single module (19 R475, R476) -/

theorem partnerThere_of_single {s : State} (h : s.isTwin = false) : s.partnerThere = false := by
  unfold State.partnerThere
  rw [h]
  rfl

/-- A module that runs takes up a reset where none is pending (19 R475). -/
def State.TakesReset (s : State) : Prop := (s.pw.state = .watch ∨ s.pw.state = .run) ∧ s.pw.haltedIsland = false ∧ s.pw.resetHold = none ∧
  s.pw.resetWait = none ∧ s.pw.resetNext = none

theorem requestReset_single {s : State} (htakes : s.TakesReset) (hsingle : s.isTwin = false) (level cause : Nat) (i : StartIn) :
    s.requestReset level cause i = s.prepareReset level cause i := by
  obtain ⟨hstate, hhalted, hhold, hwait, hnext⟩ := htakes
  have hthere := partnerThere_of_single hsingle
  unfold State.requestReset
  obtain hwatch | hrun := hstate
  · rw [hwatch, hhalted, hhold, hwait, hnext, hthere]
    rfl
  · rw [hrun, hhalted, hhold, hwait, hnext, hthere]
    rfl

theorem onPower_coil (s : State) (f : Power → Power) (k : Nat) : (s.onPower f).coil k = s.coil k := rfl

/-- With a contactor of K1 to K11 on the reset waits, and K12 is off (19 R476). -/
theorem prepareReset_holds {s : State} (hmain : s.mainOn = true) (level cause : Nat) (i : StartIn) :
    (s.prepareReset level cause i).pw.resetHold = some (level, cause, s.now) ∧ ((s.prepareReset level cause i).coil 12).phase = .off := by
  have htest (u : State) (o : Nat) : (u.interruptTest o).ct = u.ct := by
    unfold State.interruptTest
    dsimp only
    split
    · rfl
    · exact record_ct ..
  have htests (u : State) : u.interruptTests.ct = u.ct := (htest ..).trans (htest ..)
  unfold State.prepareReset
  rw [if_pos hmain]
  refine ⟨by rw [State.onPower_pw], ?_⟩
  rw [onPower_coil, coil_of_coils (congrArg Cont.coils (htests _))]
  exact coilOff_phase_same ..

/-- With none on the restart follows at once (19 R476). -/
theorem prepareReset_restarts {s : State} (hmain : s.mainOn = false) (level cause : Nat) (i : StartIn) :
    s.prepareReset level cause i = (s.coilOff 12).restart level cause i := by
  unfold State.prepareReset
  rw [hmain]
  rfl

/-! ### An island fault (14 R362) -/

theorem islandFault_halts {s : State} (htwin : s.isTwin = true) (hstate : s.pw.state = .watch ∨ s.pw.state = .run ∨ s.pw.state = .enteringHib) (i : StartIn) :
    islandFault true i s =
      (s.onPower fun p => { p with haltedIsland := true }).onTwin fun w => { w with role := .withdrawn, ready := false, cause := 3, handoverAt := none } := by
  unfold islandFault
  rw [htwin, decide_eq_true hstate]
  rfl

theorem islandFault_withdraws {s : State} (htwin : s.isTwin = true) (hstate : s.pw.state = .watch ∨ s.pw.state = .run ∨ s.pw.state = .enteringHib)
    (hthere : s.partnerThere = true) (i : StartIn) : islandFault false i s = s.withdraw 3 := by
  unfold islandFault
  rw [htwin, decide_eq_true hstate, hthere]
  rfl

theorem islandFault_resets {s : State} (hsingle : s.isTwin = false) (i : StartIn) : islandFault false i s = s.requestReset 2 5 i := by
  unfold islandFault
  rw [hsingle]
  rfl

/-! ### The supervision of Thyme (02 R57) -/

/-- A window within its bound ends the run of bad ones. -/
theorem supervisionWindow_good {c : Nat} (hgood : ((c : Int) - 1000000).natAbs ≤ 300) (i : StartIn) (s : State) :
    supervisionWindow c i s = s.onThyme fun h => { h with badWindows := 0 } := by
  unfold supervisionWindow
  rw [decide_eq_false (Nat.not_lt.2 hgood)]
  rfl

/-- The first bad window is counted. -/
theorem supervisionWindow_first {c : Nat} {s : State} (hbad : 300 < ((c : Int) - 1000000).natAbs) (hnone : s.th.badWindows = 0) (i : StartIn) :
    supervisionWindow c i s = s.onThyme fun h => { h with badWindows := 1 } := by
  unfold supervisionWindow
  rw [decide_eq_true hbad, hnone]
  rfl

/-- A failure of Thyme as it is noted. -/
def State.thymeFails (s : State) (c : Nat) : State :=
  ((s.onThyme fun h => { h with badWindows := 2 }).onThyme fun h => { h with failure := true }).record .thymeFailure 0 (octetsOf 4 c)

/-- The second bad window in a row is a failure of Thyme, from which a twin withdraws and a single module resets (02 R57). -/
theorem supervisionWindow_second {c : Nat} {s : State} (hbad : 300 < ((c : Int) - 1000000).natAbs) (hone : s.th.badWindows = 1)
    (hfailure : s.th.failure = false) (i : StartIn) : supervisionWindow c i s =
      if s.partnerThere ∧ (s.pw.state = .watch ∨ s.pw.state = .run ∨ s.pw.state = .enteringHib) then (s.thymeFails c).withdraw 2
      else ((s.thymeFails c).decideFn 0x0A strGroup 0 c).requestReset 2 6 i := by
  unfold supervisionWindow
  rw [decide_eq_true hbad, hone, hfailure]
  rfl

theorem thymeFails_undecided (s : State) (c : Nat) :
    (s.thymeFails c).undecided = (s.onThyme fun h => { h with badWindows := 2, failure := true }).undecided := record_undecided ..

theorem thymeFails_table (s : State) (c : Nat) : (s.thymeFails c).table = s.table := record_table ..

theorem thymeFails_coils (s : State) (c : Nat) : (s.thymeFails c).ct = s.ct := record_ct ..

/-- A single module whose Thyme fails opens its string and restarts (02 R57; 19 R475, R476). -/
theorem thymeFailure_restarts {s : State} {c : Nat} (htakes : s.TakesReset) (hsingle : s.isTwin = false) (hnone : s.fn 0x0A strGroup = none)
    (i : StartIn) : ∃ u : State, ((s.thymeFails c).decideFn 0x0A strGroup 0 c).requestReset 2 6 i = u.restart 2 6 i ∧ u.up = s.up := by
  have hsame := (decideFn_undecided (s.thymeFails c) 0x0A strGroup 0 c []).trans (thymeFails_undecided s c)
  have hopen : ((s.thymeFails c).decideFn 0x0A strGroup 0 c).MainOff := decideFn_opens (trips_thyme _) ((fn_of_table (thymeFails_table s c) ..).trans hnone) 0 c []
  generalize (s.thymeFails c).decideFn 0x0A strGroup 0 c = v at *
  have hpw : v.pw = s.pw := (congrArg State.pw hsame :)
  have hcfg : v.cfg = s.cfg := (congrArg State.cfg hsame :)
  have hvsingle : v.isTwin = false := by rwa [State.isTwin, hcfg]
  have hvtakes : v.TakesReset := by rwa [State.TakesReset, hpw]
  refine ⟨v.coilOff 12, ?_, ?_⟩
  · rw [requestReset_single hvtakes hvsingle, prepareReset_restarts (mainOn_of_mainOff hopen)]
  · exact (congrArg State.up ((coilOff_undecided v 12).trans hsame) :)

end Sys2Proof.Machine

/-! The twins' frames and faults as commands (02 R57; 11 R312; 13 R347; 14 R362, R371, R374; 19 R475, R476). -/

namespace Sys2Proof.Machine

open Sys2Proof

theorem settled_coil (s u : State) (t k : Nat) : (s.settle (s.keep t u)).coil k = u.coil k := settled_part (fun v : State => v.coil k) s u t

theorem settled_coils (s u : State) (t : Nat) : (s.settle (s.keep t u)).ct.coils = u.ct.coils := settled_part (fun v : State => v.ct.coils) s u t

theorem settled_fn (s u : State) (t code group : Nat) : (s.settle (s.keep t u)).fn code group = u.fn code group :=
  settled_part (fun v : State => v.fn code group) s u t

theorem settled_partnerSaid (s u : State) (t : Nat) : (s.settle (s.keep t u)).partnerSaid = u.partnerSaid := settled_part State.partnerSaid s u t

/-- What a twin says of itself and holds of its partner's image. -/
def State.twinWord (s : State) : Role × Nat × Option Nat × Option Nat × Nat × Bool × Nat :=
  (s.tw.role, s.tw.cause, s.tw.withdrawAt, s.tw.partnerHash, s.tw.partnerVersion, s.tw.itemsSynced, s.tw.gaps)

theorem settled_twinWord (s u : State) (t : Nat) : (s.settle (s.keep t u)).twinWord = u.twinWord := settled_part State.twinWord s u t

/-- Settles O32: a header decides whether a frame is taken, a follower takes the state and a leader does not, and an island or Thyme that fails withdraws a twin or resets a single module. -/
theorem twinStateAndFaults : Obligations.TwinStateAndFaults := by
  have hshadow (t f s) : exec (.twinShadowFrame t f) s = s.run t (twinShadowFrame f) := rfl
  have hisland (t f s) : exec (.islandFrame t f) s = s.run t (islandFrame f) := rfl
  have hfault (t h i s) : exec (.islandFault t h i) s = s.run t (islandFault h i) := rfl
  have hwindow (t c i s) : exec (.thymeSupervisionWindow t c i) s = s.run t (supervisionWindow c i) := rfl
  unfold Obligations.TwinStateAndFaults
  refine ⟨?shadowOff, ?shadowRefused, ?follower, ?leader, ?islandOff, ?islandRefused, ?said, ?demand, ?halts, ?withdraws, ?resets, ?good, ?first, ?failsTwin,
    ?failsSingle⟩
  case shadowOff =>
    intro t f s hoff
    exact idles_of (hshadow ..) (twinShadowFrame_off (s := s.begin t) hoff f)
  case shadowRefused =>
    intro t f s hon hbad
    obtain ⟨⟨m, htw⟩, hapart⟩ := takeHdr_refused (s := s.begin t) (h := f.hdr) hbad f.ftype
    refine answers_of (hshadow ..) ?_
    rw [twinShadowFrame_refused (s := s.begin t) hon hbad]
    generalize (s.begin t).takeHdr f.ftype f.hdr = u at *
    have hword := settled_twinWord s u t
    simp only [State.twinWord, htw, Prod.mk.injEq] at hword
    obtain ⟨hrole, -, -, -, -, -, hgaps⟩ := hword
    have hbare : u.bare.offTwin = s.bare.offTwin := (congrArg State.bare hapart :).trans (congrArg State.offTwin (begin_bare s t))
    exact ⟨hgaps, hrole, settled_apart State.offTwin hbare t⟩
  case follower =>
    intro t f d v s hon hok hrole hdi hba hnodes hcells
    obtain ⟨u, hframe, hudi, huba, hucells, huhash, huversion, huitems⟩ := twinShadowFrame_follower (s := s.begin t) (f := f) hon hok hrole
    refine answers_of (hshadow ..) ?_
    rw [hframe]
    have hword := settled_twinWord s u t
    simp only [State.twinWord, Prod.mk.injEq] at hword
    obtain ⟨-, -, -, hhash, hversion, hitems, -⟩ := hword
    rw [hdi] at hudi
    rw [hba] at huba
    rw [hcells] at hucells
    rw [settle_di, settle_ba, settle_ch, hhash, hversion, hitems]
    exact ⟨hudi, huba, huhash, huversion, huitems, hucells⟩
  case leader =>
    intro t f s hon hok hrole
    have hlead : (s.begin t).tw.role = .leader := hrole
    obtain ⟨hkept, hhash, -, hdi, hba, hch, htm⟩ := heardFrame_keeps (s := s.begin t) (f := f) hok (by rw [hlead]; decide)
    refine answers_of (hshadow ..) ?_
    rw [twinShadowFrame_taken (s := s.begin t) hon hok, if_neg (by rw [hkept, hlead]; decide)]
    generalize (s.begin t).heardFrame f = u at *
    have hword := settled_twinWord s u t
    simp only [State.twinWord, Prod.mk.injEq] at hword
    obtain ⟨-, -, -, hkeptHash, -⟩ := hword
    rw [settle_di, settle_ba, settle_ch, settle_tm, hkeptHash]
    exact ⟨hdi, hba, hch, htm, hhash⟩
  case islandOff =>
    intro t f s hoff
    exact idles_of (hisland ..) (islandFrame_off (s := s.begin t) hoff f)
  case islandRefused =>
    intro t f s hon hbad
    obtain ⟨⟨m, htw⟩, hapart⟩ := takeHdr_refused (s := s.begin t) (h := f.hdr) hbad 2
    refine answers_of (hisland ..) ?_
    rw [islandFrame_refused (s := s.begin t) hon hbad]
    generalize (s.begin t).takeHdr 2 f.hdr = u at *
    have hword := settled_twinWord s u t
    simp only [State.twinWord, htw, Prod.mk.injEq] at hword
    obtain ⟨-, -, -, -, -, -, hgaps⟩ := hword
    have htable : (s.settle (s.keep t u)).table = s.table := (settled_part State.table s u t).trans (congrArg State.table hapart :)
    simp only [State.table, State.partnerSaid, Prod.mk.injEq] at htable
    obtain ⟨hfns, hheard, -, -, -, hdemand⟩ := htable
    exact ⟨hgaps, hheard, hfns, hdemand⟩
  case said =>
    intro t f s hon hok
    refine answers_of (hisland ..) ?_
    have hsaid := (settled_partnerSaid s (islandFrame f (s.begin t)) t).trans (islandFrame_partnerSaid (s := s.begin t) hon hok)
    simp only [State.partnerSaid, Prod.mk.injEq] at hsaid
    exact hsaid
  case demand =>
    intro t f i s hon hok hdemand hnew hinput hnone
    obtain ⟨⟨g, hfn, hlatched, haction, hdemands⟩, hoff⟩ := islandFrame_tripped (s := s.begin t) hon hok hdemand hnew hinput hnone
    refine answers_of (hisland ..) ?_
    generalize islandFrame f (s.begin t) = u at *
    have hsettled := (settled_fn s u t 0x0B strGroup).trans hfn
    refine ⟨⟨g, hsettled, hlatched, haction, hdemands⟩, fun k hfirst hlast => ?_, settle_islandStop (holdDemand_of_tripped hsettled haction hdemands)⟩
    rw [settled_coil]
    exact hoff k (mem_mainK hfirst hlast)
  case halts =>
    intro t i s htwin hstate
    refine answers_of (hfault ..) ?_
    rw [islandFault_halts (s := s.begin t) htwin hstate, settled_coils, settle_pw]
    generalize hu : State.onTwin _ _ = u
    have hword := settled_twinWord s u t
    subst hu
    simp only [State.twinWord, Prod.mk.injEq] at hword
    obtain ⟨hrole, hcause, -⟩ := hword
    exact ⟨rfl, hrole, hcause, rfl⟩
  case withdraws =>
    intro t i s htwin hstate hthere hrole
    obtain ⟨hwithdrawn, hcause, hat, hct, -⟩ := withdraw_withdraws (s := s.begin t) hrole 3
    refine answers_of (hfault ..) ?_
    rw [islandFault_withdraws (s := s.begin t) htwin hstate hthere, settled_coils, hct]
    generalize (s.begin t).withdraw 3 = u at *
    have hword := settled_twinWord s u t
    simp only [State.twinWord, Prod.mk.injEq] at hword
    obtain ⟨hkeptRole, hkeptCause, hkeptAt, -⟩ := hword
    exact ⟨hkeptRole.trans hwithdrawn, hkeptCause.trans hcause, hkeptAt.trans hat, rfl⟩
  case resets =>
    intro t i s hsingle hstate hhalted hhold hwait hnext hmain
    have htakes : (s.begin t).TakesReset := ⟨hstate, hhalted, hhold, hwait, hnext⟩
    obtain ⟨hreset, hcoil⟩ := prepareReset_holds (s := s.begin t) hmain 2 5 i
    refine answers_of (hfault ..) ?_
    rw [islandFault_resets (s := s.begin t) hsingle, requestReset_single htakes hsingle, settled_coil]
    generalize (s.begin t).prepareReset 2 5 i = u at *
    have hheld : (s.settle (s.keep t u)).pw.resetHold = some (2, 5, max s.now t) := by
      rw [settle_pw]
      exact hreset
    refine ⟨hheld, settle_islandStop ?_, hcoil⟩
    rw [State.holdDemand, hheld, Option.isSome_some, Bool.or_true]
  case good =>
    intro t c i s hgood
    exact does_of (hwindow ..) (by rw [supervisionWindow_good hgood]; rfl)
  case first =>
    intro t c i s hbad hnone
    exact does_of (hwindow ..) (by rw [supervisionWindow_first (s := s.begin t) hbad hnone]; rfl)
  case failsTwin =>
    intro t c i s hbad hone hfailure hthere hstate hrole
    have htwin : ((s.begin t).thymeFails c).tw.role ≠ .withdrawn := by
      rw [State.thymeFails, record_tw]
      exact hrole
    obtain ⟨hwithdrawn, hcause, -, hct, hth⟩ := withdraw_withdraws htwin 2
    refine answers_of (hwindow ..) ?_
    rw [supervisionWindow_second (s := s.begin t) hbad hone hfailure, if_pos ⟨hthere, hstate.imp_right .inl⟩, settled_coils, settle_th, keep_th, hct, hth, thymeFails_coils,
      State.thymeFails, record_th]
    generalize hu : State.withdraw _ 2 = u
    have hword := settled_twinWord s u t
    subst hu
    simp only [State.twinWord, Prod.mk.injEq] at hword
    obtain ⟨hkeptRole, hkeptCause, -⟩ := hword
    exact ⟨rfl, hkeptRole.trans hwithdrawn, hkeptCause.trans hcause, rfl⟩
  case failsSingle =>
    intro t c i s hbad hone hfailure hsingle hstate hhalted hhold hwait hnext hnone hcopy htrial
    have htakes : (s.begin t).TakesReset := ⟨hstate, hhalted, hhold, hwait, hnext⟩
    have hthere : (s.begin t).partnerThere = false := partnerThere_of_single hsingle
    obtain ⟨u, hrestart, hup⟩ := thymeFailure_restarts (s := s.begin t) (c := c) htakes hsingle hnone i
    obtain ⟨hlevel, hcause, hoff⟩ := restart_warm (s := u) (cause := 6) hcopy (by rw [hup]; exact htrial)
    refine answers_of (hwindow ..) ?_
    rw [supervisionWindow_second (s := s.begin t) hbad hone hfailure, if_neg (by rw [hthere]; simp), hrestart, settle_pw]
    generalize u.restart 2 6 i = v at *
    refine ⟨hlevel, hcause, fun k => ?_⟩
    rw [settled_coil]
    exact hoff k

end Sys2Proof.Machine

/-! Admission at the module: what a request, a challenge response, a keying timeout and a hold-out do (04 R112, R114, R117, R120). -/

namespace Sys2Proof.Machine

open Sys2Proof

theorem settled_ra (s u : State) (t : Nat) : (s.settle (s.keep t u)).ra = u.ra := settle_ra ..

/-! ### Admission requests (04 R114, R117, R120) -/

/-- An admission request passes its checks and its identifier is not held out (04 R114, R120). -/
structure State.Hears (s : State) (r : AdmReq) : Prop where
  fcs : r.fcsOk = true
  type : r.typeOk = true
  string : r.string = s.cfg.string.index
  cmac : r.cmacOk = true
  free : s.ra.holdOuts.get r.ident 0 ≤ s.now

theorem admissionRequest_heldOut {r : AdmReq} {s : State} (hfcs : r.fcsOk = true) (htype : r.typeOk = true) (hstring : r.string = s.cfg.string.index)
    (hcmac : r.cmacOk = true) (hheld : s.now < s.ra.holdOuts.get r.ident 0) (c : Nat) : admissionRequest c r s = s.countFrame c 0 := by
  simp [admissionRequest, hfcs, htype, hstring, hcmac, hheld]

/-- The challenge of an unadmitted node at its configured position (04 R117). -/
theorem admissionRequest_challenges {r : AdmReq} {s : State} {c n : Nat} (hhears : s.Hears r) (hindex : s.indexOf r.harness = some n) (hcls : r.cls = 16)
    (hchan : n / 32 = c) (hadm : (s.node n).adm = .unadmitted) : admissionRequest c r s =
      (((s.countFrame c 0).challenge n).onNode n fun x => { x with ident := r.ident, harness := r.harness }).onChan c
        fun x => { x with contentionFor := some n } := by
  obtain ⟨hfcs, htype, hstring, hcmac, hfree⟩ := hhears
  simp [admissionRequest, hfcs, htype, hstring, hcmac, hfree.not_gt, hindex, hcls, hchan, hadm]

/-- A position conflict is recorded and counted against the identifier (04 R117). -/
theorem admissionRequest_conflict {r : AdmReq} {s : State} {c n : Nat} (hhears : s.Hears r) (hindex : s.indexOf r.harness = some n) (hcls : r.cls = 16)
    (hchan : n / 32 = c) (hadm : (s.node n).adm ≠ .unadmitted) : admissionRequest c r s =
      ((s.countFrame c 0).record .positionConflict n (admData r.ident r.harness)).countStranger r.ident r.harness 2 := by
  obtain ⟨hfcs, htype, hstring, hcmac, hfree⟩ := hhears
  simp [admissionRequest, hfcs, htype, hstring, hcmac, hfree.not_gt, hindex, hcls, hchan, hadm]

/-- A challenged node starts a new counter series with the two parts of its challenge (04 R112, R117). -/
theorem challenge_node (s : State) (n : Nat) : ((s.challenge n).node n).adm = .challenged ∧ ((s.challenge n).node n).counter = 0 ∧
    ((s.challenge n).node n).inflight = none ∧ ((s.challenge n).node n).work.map (fun x => x.code) = [3, 3] := by
  unfold State.challenge
  dsimp only
  rw [node_onNode_same]
  exact ⟨rfl, rfl, rfl, rfl⟩

theorem challenge_node_other (s : State) {n j : Nat} (h : j ≠ n) : (s.challenge n).node j = s.node j := node_onNode_other _ h _

theorem countStranger_ra (s : State) (ident harness cause : Nat) : (s.countStranger ident harness cause).ra =
    { s.ra with strangers := s.ra.strangers.upd ident 0 (satInc 16) } := publish_ra ..

theorem countStranger_offRadio (s : State) (ident harness cause : Nat) : (s.countStranger ident harness cause).offRadio = s.offRadio := by
  unfold State.countStranger State.offRadio
  rw [publish_bare]
  rfl

/-! ### Challenge responses (04 R117; 07 R215, R216) -/

theorem onTap_ra (s : State) (n j : Nat) (f : Tap → Tap) : (s.onTap n j f).ra = s.ra := rfl

theorem defaultNode_ra (s : State) (n : Nat) : (s.defaultNode n).ra = s.ra := by
  have hcells := foldl_keeps State.ra (f := fun s c => s.onCell c fun _ => s.defaultCell) (fun u c => rfl) (s.cfg.cellsOfNode n) s
  unfold State.defaultNode
  dsimp only
  rw [State.onSage_ra]
  exact (foldl_keeps State.ra (fun u j => onTap_ra ..) _ _).trans hcells

theorem takeIdent_node (s : State) (n id : Nat) : (s.takeIdent n id).node n = { s.node n with blockIdent := some id } := by
  unfold State.takeIdent
  split
  next hsame => rw [← hsame]
  next => rw [node_onNode_same, node_of_ra (defaultNode_ra ..)]

/-- A node in keying, Admit in front of its work (04 R117). -/
theorem beginKeying_node (s : State) (n : Nat) (replacement : Bool) : ((s.beginKeying n replacement).node n).adm = .keying ∧
    ((s.beginKeying n replacement).node n).replacement = replacement ∧ ((s.beginKeying n replacement).node n).inflight = none ∧
    (((s.beginKeying n replacement).node n).work.map fun x => x.code).head? = some 4 := by
  unfold State.beginKeying
  dsimp only
  rw [node_onNode_same, node_onNode_same]
  exact ⟨rfl, rfl, rfl, rfl⟩

/-- The state in which a response to a node's challenge is judged: counted as accepted, the channel's contention over (04 R117). -/
def State.responded (s : State) (c : Nat) : State := (s.countFrame c 0).onChan c fun x => { x with contentionFor := none }

theorem responded_node (s : State) (c n : Nat) : (s.responded c).node n = s.node n := rfl

theorem challengeTag_valid {c n : Nat} {s : State} (hadm : (s.node n).adm = .challenged) (hchan : n / 32 = c) (hflight : (s.node n).inflight.isSome = true)
    (hentry : (s.cfg.nodes.find? fun e => decide (e.ident = (s.node n).ident)).map (fun e => e.index) = some n) :
    challengeTag c n true true s = ((s.responded c).beginKeying n false).takeIdent n (s.node n).ident := by
  obtain ⟨e, hfind, hindex⟩ := Option.map_eq_some_iff.mp hentry
  have hflight : (s.node n).inflight ≠ none := Option.isSome_iff_ne_none.mp hflight
  simp [challengeTag, hadm, hchan, hflight, hfind, hindex, State.responded]

theorem challengeTag_bad {c n : Nat} {s : State} (hadm : (s.node n).adm = .challenged) (hchan : n / 32 = c) (hflight : (s.node n).inflight.isSome = true) :
    challengeTag c n false true s = (s.responded c).rejectNode n .stranger := by
  have hflight : (s.node n).inflight ≠ none := Option.isSome_iff_ne_none.mp hflight
  simp [challengeTag, hadm, hchan, hflight, State.responded]

/-! ### A node that is not admitted (04 R112, R117, R120) -/

theorem endUncertain_holdOuts (s : State) (n cause : Nat) (f : NodeCtl → NodeCtl) : (s.endUncertain n cause f).ra.holdOuts = s.ra.holdOuts := by
  unfold State.endUncertain
  dsimp only
  split
  · rfl
  · rw [writeIslandTable_ra]
    split
    · rw [record_ra]; rfl
    · rfl

theorem sensorsHealthy_ra (s : State) (n : Nat) : (s.sensorsHealthy n).ra = s.ra := by
  refine foldl_keeps State.ra (fun u i => ?_) _ s
  rfl

theorem unadmit_adm (s : State) (n : Nat) : ((s.unadmit n).node n).adm = .unadmitted := by
  unfold State.unadmit
  dsimp only
  rw [node_of_ra (writeIslandTable_ra ..), node_of_ra (sensorsHealthy_ra ..), node_onNode_same]

theorem unadmit_holdOuts (s : State) (n : Nat) : (s.unadmit n).ra.holdOuts = s.ra.holdOuts := by
  unfold State.unadmit
  dsimp only
  rw [writeIslandTable_ra, sensorsHealthy_ra]
  show (State.endUncertain ..).ra.holdOuts = _
  simp only [endUncertain_holdOuts]

/-- The identifier of a rejected node is held out for 60 s (04 R120). -/
theorem rejectNode_holdOuts (s : State) (n : Nat) (ev : Ev) :
    (s.rejectNode n ev).ra.holdOuts.get (s.node n).ident 0 = s.now + sec 60 := by
  unfold State.rejectNode
  dsimp only
  rw [unadmit_holdOuts]
  refine (Table.get_put_same ..).trans ?_
  simp [State.countStranger]

/-- Settles O7: each clause is what the request, the response or the timer does on the state the command begins with. -/
theorem nodeAdmission : Obligations.NodeAdmission := by
  have hrequest (t : Nat) (c : Fin 4) (r : AdmReq) (s : State) : exec (.admissionRequestReceived t c r) s = s.run t (admissionRequest c.val r) := rfl
  have htag (t : Nat) (c : Fin 4) (n : Fin 128) (tagOk frameOk : Bool) (s : State) :
      exec (.challengeTagReceived t c n tagOk frameOk) s = s.run t (challengeTag c.val n.val tagOk frameOk) := rfl
  have hout (t i : Nat) (s : State) : exec (.strangerHoldOutExpiry t i) s = execStrangerHoldOutExpiry t i s := rfl
  refine ⟨?badCheck, ?badCmac, ?heldOut, ?challenge, ?conflict, ?validTag, ?badTag, ?badFrame, ?keying, ?holdOutEnds, ?holdOutStands⟩
  case badCheck =>
    intro t c r s hfcs
    have hcounted : admissionRequest c.val r (s.begin t) = (s.begin t).countFrame c.val 1 := by simp [admissionRequest, hfcs]
    exact does_of (hrequest ..) (by rw [hcounted]; rfl)
  case badCmac =>
    intro t c r s hfcs htype hstring hcmac
    have hcounted : admissionRequest c.val r (s.begin t) = (s.begin t).countFrame c.val 3 := by
      simp [admissionRequest, hfcs, htype, hstring, hcmac]
    exact does_of (hrequest ..) (by rw [hcounted]; rfl)
  case heldOut =>
    intro t c r s hfcs htype hstring hcmac hheld
    exact does_of (hrequest ..) (by rw [admissionRequest_heldOut (s := s.begin t) hfcs htype hstring hcmac hheld]; rfl)
  case challenge =>
    intro t c n r s hfcs htype hstring hcmac hfree hindex hcls hchan hadm
    have hdone := admissionRequest_challenges (s := s.begin t) ⟨hfcs, htype, hstring, hcmac, hfree⟩ hindex hcls hchan hadm
    obtain ⟨hadm', hcounter, hflight, hwork⟩ := challenge_node ((s.begin t).countFrame c.val 0) n
    refine answers_of (hrequest ..) ?_
    rw [hdone]
    generalize hu : State.onChan _ c.val _ = u
    have hnode (j : Nat) : u.node j = ((((s.begin t).countFrame c.val 0).challenge n).onNode n fun x => { x with ident := r.ident, harness := r.harness }).node j := by
      rw [← hu]; rfl
    have hapart := settled_apart (fun v => { v with ra := {}, freeIdx := 0 }) (s := s) (u := u) (by rw [← hu]; rfl) t
    simp only [settle_node, hnode]
    rw [node_onNode_same]
    refine ⟨hadm', rfl, hcounter, hflight, hwork, fun j hj => ?_, hapart⟩
    rw [node_onNode_other _ hj, challenge_node_other _ hj]
    rfl
  case conflict =>
    intro t c n r s hfcs htype hstring hcmac hfree hindex hcls hchan hadm
    have hdone := admissionRequest_conflict (s := s.begin t) ⟨hfcs, htype, hstring, hcmac, hfree⟩ hindex hcls hchan hadm
    refine answers_of (hrequest ..) ?_
    rw [hdone]
    have hbegun : ((s.begin t).countFrame c.val 0).offRadio = s.offRadio := rfl
    have hcounted := countStranger_ra (((s.begin t).countFrame c.val 0).record .positionConflict n (admData r.ident r.harness)) r.ident r.harness 2
    have hapart := countStranger_offRadio (((s.begin t).countFrame c.val 0).record .positionConflict n (admData r.ident r.harness)) r.ident r.harness 2
    rw [record_ra] at hcounted
    rw [record_offRadio] at hapart
    generalize State.countStranger _ _ _ _ = u at *
    rw [settled_ra, hcounted]
    exact ⟨rfl, Table.get_upd_same .., settle_offRadio (hapart.trans hbegun) t⟩
  case validTag =>
    intro t c n s hadm hchan hflight hentry
    have hdone := challengeTag_valid (s := s.begin t) hadm hchan hflight hentry
    obtain ⟨hadm', hreplacement, hflight', hwork⟩ := beginKeying_node ((s.begin t).responded c.val) n.val false
    refine answers_of (htag ..) ?_
    rw [hdone, settle_node, takeIdent_node]
    exact ⟨hadm', hreplacement, hflight', hwork, rfl⟩
  case badTag =>
    intro t c n s hadm hchan hflight
    have hdone := challengeTag_bad (s := s.begin t) hadm hchan hflight
    refine answers_of (htag ..) ?_
    rw [hdone, settle_node, settled_ra]
    exact ⟨unadmit_adm .., rejectNode_holdOuts ((s.begin t).responded c.val) n.val .stranger⟩
  case badFrame =>
    intro t c n b s
    exact does_of (htag ..) rfl
  case keying =>
    intro t n k s hadm hcommit hlate
    have he : exec (.keyingTimeout t n) s = execKeyingTimeout t n s := rfl
    have hadm : ((s.begin t).node n.val).adm = .keying := hadm
    have hcommit : ((s.begin t).node n.val).keyCommitAt = some k := hcommit
    refine does_of he ?_
    rw [hadm, hcommit]
    dsimp only
    rw [if_pos hlate]
    rfl
  case holdOutEnds =>
    intro t i s hover
    have hover : (s.begin t).ra.holdOuts.get i 0 ≤ (s.begin t).now := hover
    refine does_of (hout ..) ?_
    rw [if_pos hover]
    rfl
  case holdOutStands =>
    intro t i s hheld
    have hheld : (s.begin t).now < (s.begin t).ra.holdOuts.get i 0 := hheld
    exact idles_of (hout ..) (if_neg hheld.not_ge)

end Sys2Proof.Machine

/-! A cell node's own frames: its alarm decision, its alarm slot, its report, the frames it relays, and its tone blocks (03 R82, R88; 04 R103, R108, R122, R123; 06 R155). -/

namespace Sys2Proof.Machine

open Sys2Proof

/-! ### Alarms (03 R82; 04 R103, R108, R122, R123) -/

/-- A meaning may be replaced by what it amounts to on the state the command begins with. -/
theorem run_congr {s : State} {t : Nat} {f g : State → State} (h : f (s.begin t) = g (s.begin t)) : s.run t f = s.run t g := by
  rw [run_eq, run_eq, h]

/-- The values of a sweep stand first among those a node has decided on (04 R103, R122). -/
theorem decide_head (d : NodeDev) (m : NodeIn) (sweep : Nat) : (d.decide_ m sweep).decided.head?.map (fun e => (e.1, e.2.1)) =
    some (sweep, (List.range 16).map fun j => match nodeVolt m j with | some v => clampInt (-500000) 5000000 v | none => -8388608) := rfl

/-- The fields of a node's alarm frame before its authentication (04 R108). -/
def State.alarmBody (s : State) (n : Nat) (x : HeldAlarm) : List Nat := [0x40 + x.seq % 16, s.cfg.string.index, n, x.code]

/-- A node sends its alarm in a slot and notes the number as sent (04 R108, R123). -/
def sendAlarm (n slot : Nat) (x : HeldAlarm) (s : State) : State :=
  (s.onDev n fun d => { d with sentSeqs := insertN x.seq d.sentSeqs }).emit .nodeAlarm (n / 32)
    (let m := s.alarmBody n x ++ octetsOf 4 (cmac32 (s.devLink n) (octetsOf 4 (s.superframeOf (n / 32)) ++ [slot] ++ s.alarmBody n x))
     m ++ octetsOf 2 (Config.crc16 m))

theorem exec_alarmSlot_sends {t : Nat} {n : Fin 128} {a : Fin 4} {x : HeldAlarm} {s : State} (htop : (s.dev n.val).top = some x)
    (hmay : (s.dev n.val).mayReport = true) (hunpolled : (s.dev n.val).polled = false) (hbegun : alarmBegin a.val + 5000 ≤ (s.begin t).chanPhase (n.val / 32))
    (hopen : (s.begin t).chanPhase (n.val / 32) < alarmBegin a.val + 30000) : exec (.nodeAlarmSlot t n a) s = s.run t (sendAlarm n.val a.val x) := by
  have he : exec (.nodeAlarmSlot t n a) s = execNodeAlarmSlot t n a s := rfl
  have htop : ((s.begin t).dev n.val).top = some x := htop
  have hmay : ((s.begin t).dev n.val).mayReport = true := hmay
  have hunpolled : ((s.begin t).dev n.val).polled = false := hunpolled
  refine he.trans (run_congr ?_)
  dsimp only
  rw [htop]
  dsimp only
  rw [if_pos (by simp [hmay, hunpolled, hbegun, hopen])]
  rfl

/-- What a node sends for an alarm opens with the alarm's fields (04 R108). -/
theorem sendAlarm_sends (n slot : Nat) (x : HeldAlarm) (s : State) : ∃ e ∈ (sendAlarm n slot x s).out, e.kind = .nodeAlarm ∧ e.port = n / 32 ∧
    e.bytes.take 4 = [0x40 + x.seq % 16, s.cfg.string.index, n, x.code] :=
  ⟨_, List.mem_append_right _ (List.mem_singleton_self _), rfl, rfl, rfl⟩

/-! ### Reports and forwarding (03 R88, R91; 04 R103) -/

theorem reportFrame_head (s : State) (n k : Nat) : (s.reportFrame n k).take 3 = [0x21, s.cfg.string.index, n] := rfl

theorem reportsIn_of_silenced {s : State} {d : NodeDev} (h : d.mayReport = false) (k : Nat) : s.reportsIn d k = false := by
  rw [State.reportsIn, h, Bool.false_and]

/-- A relay keeps what it forwards, and sends it (03 R88, R91). -/
def relayFrame (n : Nat) (x : List Nat) (s : State) : State := (s.onDev n fun d => { d with relayed := x }).emit .relayForward (n / 32) x

theorem exec_relayForward {t : Nat} {n : Fin 128} {s : State} (hreports : (s.begin t).reportsIn (s.dev n.val) ((s.begin t).superframeOf (n.val / 32)) = true)
    (hrole : (s.dev n.val).role = 1) (hslot : (s.begin t).inReportSlot (n.val / 32) (s.dev n.val).fwdSlot = true) (heard : Bool) :
    exec (.relayForward t n heard) s = s.run t (relayFrame n.val
      (if heard && decide ((s.dev (32 * (n.val / 32) + (s.dev n.val).partner)).reportedIn = some ((s.begin t).superframeOf (n.val / 32)))
        then (s.dev (32 * (n.val / 32) + (s.dev n.val).partner)).sentReport else [])) := by
  have he : exec (.relayForward t n heard) s = execRelayForward t n heard s := rfl
  have hgo : ((s.begin t).reportsIn ((s.begin t).dev n.val) ((s.begin t).superframeOf (n.val / 32)) && decide (((s.begin t).dev n.val).role = 1) &&
      (s.begin t).inReportSlot (n.val / 32) ((s.begin t).dev n.val).fwdSlot) = true := by
    rw [Bool.and_eq_true, Bool.and_eq_true, decide_eq_true_iff]
    exact ⟨⟨hreports, hrole⟩, hslot⟩
  refine he.trans (run_congr ?_)
  dsimp only
  rw [if_pos hgo]
  rfl

/-- Settles O12: each clause is what one operation does to the node the command names, and what it emits. -/
theorem nodeReports : Obligations.NodeReports := by
  have hreport (t : Nat) (n : Fin 128) (s : State) : exec (.nodeReportTransmit t n) s = execNodeReportTransmit t n s := rfl
  refine ⟨?decision, ?alarm, ?noAlarm, ?report, reportFrame_head, ?silenced, ?relay, ?tone⟩
  case decision =>
    intro t n m s
    have he : exec (.nodeAlarmDecision t n m) s = execNodeAlarmDecision t n m s := rfl
    obtain ⟨s', hexec, ⟨htemps, hdecided⟩, hrest⟩ := answers_onDev he
      (P := fun d => d.temps = m.temps ∧ d.decided.head?.map (fun e => (e.1, e.2.1)) = some (s.devSweep (s.dev n.val) m, (List.range 16).map fun j =>
        match nodeVolt m j with | some v => clampInt (-500000) 5000000 v | none => -8388608))
      ⟨rfl, decide_head (s.dev n.val) m (s.devSweep (s.dev n.val) m)⟩
    exact ⟨s', hexec, htemps, hdecided, hrest⟩
  case alarm =>
    intro t n a x s htop hmay hunpolled hbegun hopen
    have he := exec_alarmSlot_sends htop hmay hunpolled hbegun hopen
    obtain ⟨e, hmem, hfields⟩ := sendAlarm_sends n.val a.val x (s.begin t)
    exact ⟨does_of he rfl, answers_of he ⟨e, mem_settle (s := s.keep t _) hmem s, hfields⟩⟩
  case noAlarm =>
    intro t n a s hnone
    have he : exec (.nodeAlarmSlot t n a) s = execNodeAlarmSlot t n a s := rfl
    refine idles_of he ?_
    dsimp only
    split
    next x htop =>
      have htop : (s.dev n.val).top = some x := htop
      refine if_neg ?_
      obtain hnone | hpolled | hearly := hnone
      · rw [hnone] at htop; cases htop
      · have hpolled : ((s.begin t).dev n.val).polled = true := hpolled
        simp [hpolled]
      · simp [hearly.not_ge]
    next => rfl
  case report =>
    intro t n s k hreports hslot hfirst
    have hgo : ((s.begin t).reportsIn ((s.begin t).dev n.val) k && (s.begin t).inReportSlot (n.val / 32) (slotOf n.val) &&
        !decide (((s.begin t).dev n.val).reportedIn = some k)) = true := by
      rw [Bool.and_eq_true, Bool.and_eq_true, Bool.not_eq_true', decide_eq_false_iff_not]
      exact ⟨⟨hreports, hslot⟩, hfirst⟩
    refine answers_of (hreport ..) ?_
    dsimp only
    rw [if_pos hgo]
    generalize hu : State.onDev _ n.val _ = u
    have hsent : wrapped s.cfg { kind := .nodeReport, port := n.val / 32, bytes := (s.begin t).reportFrame n.val k } ∈ u.out := by
      rw [← hu]
      exact List.mem_append_right _ (List.mem_singleton_self _)
    have hapart := settle_offRadio (s := s) (u := u) (by rw [← hu]; rfl) t
    simp only [settle_dev]
    refine ⟨?_, ?_, ?_, mem_settle (s := s.keep t u) hsent s, fun j hj => ?_, hapart⟩
    · rw [← hu, dev_onDev_same]; rfl
    · rw [← hu, dev_onDev_same]
    · rw [← hu, dev_onDev_same]
    · rw [← hu, dev_onDev_other _ hj]; rfl
  case silenced =>
    intro t n s hmay
    have hsilent (k : Nat) : (s.begin t).reportsIn ((s.begin t).dev n.val) k = false := reportsIn_of_silenced (d := s.dev n.val) hmay k
    have hforward (h : Bool) : exec (.relayForward t n h) s = execRelayForward t n h s := rfl
    exact ⟨idles_of (hreport ..) (if_neg (by simp [hsilent])), fun h => idles_of (hforward h) (if_neg (by simp [hsilent]))⟩
  case relay =>
    intro t n s k src hreports hrole hslot
    have he (heard : Bool) := exec_relayForward hreports hrole hslot heard
    refine ⟨does_of (he false) rfl, fun hsource => ?_⟩
    have hframe : exec (.relayForward t n true) s = s.run t (relayFrame n.val src.sentReport) := by
      rw [he true, Bool.true_and, if_pos (decide_eq_true hsource)]
    exact ⟨does_of hframe rfl, sends_of hframe (List.mem_append_right _ (List.mem_singleton_self _))⟩
  case tone =>
    intro t n x s
    have he : exec (.nodeToneWindowEnd t n x) s = execNodeToneWindowEnd t n x s := rfl
    obtain ⟨s', hexec, hwindow, hothers, hapart⟩ := answers_onDev he (P := fun d => d.toneWindow = ((s.begin t).sweepAbs - 100) % two32) rfl
    exact ⟨s', hexec, hothers, hwindow, hapart⟩

end Sys2Proof.Machine

/-! What the management commands do to a node (04 R109 to R113, R116, R123). -/

namespace Sys2Proof.Table

theorem insert_insert {α : Type} (k : Nat) (v w : α) (l : List (Nat × α)) : insert k w (insert k v l) = insert k w l := by
  induction l with
  | nil => simp [insert]
  | cons e l ih =>
    obtain ⟨k', x⟩ := e
    rcases lt_trichotomy k k' with hlt | rfl | hgt
    · simp [insert, hlt]
    · simp [insert]
    · simp [insert, hgt.not_gt, hgt.ne', ih]

theorem drop_insert {α : Type} (k : Nat) (v : α) (l : List (Nat × α)) : drop k (insert k v l) = drop k l := by
  induction l with
  | nil => simp [insert, drop]
  | cons e l ih =>
    obtain ⟨k', x⟩ := e
    rcases lt_trichotomy k k' with hlt | rfl | hgt
    · simp [insert, drop, hlt]
    · simp [insert, drop]
    · simp [insert, drop, hgt.not_gt, hgt.ne', hgt.ne, ih]

/-- Of two values put under one key the second counts. The first must be no default: in a table not in canonical form one put of the default drops more
entries of the key than another value replaces. -/
theorem put_put {α : Type} [DecidableEq α] {d v : α} (hv : v ≠ d) (t : Table α) (k : Nat) (w : α) : (t.put k d v).put k d w = t.put k d w := by
  simp only [put, if_neg hv, insert_insert, drop_insert]

end Sys2Proof.Table

namespace Sys2Proof.Machine

open Sys2Proof

/-! ### Updates of one node -/

theorem onDev_congr {s : State} {n : Nat} {f g : NodeDev → NodeDev} (h : f (s.dev n) = g (s.dev n)) : s.onDev n f = s.onDev n g :=
  congrArg (fun d => s.onRadio fun r => { r with devs := r.devs.put n {} d }) h

theorem onDev_onDev {s : State} {n : Nat} {f : NodeDev → NodeDev} (h : f (s.dev n) ≠ {}) (g : NodeDev → NodeDev) :
    (s.onDev n f).onDev n g = s.onDev n fun d => g (f d) := by
  have hput : (s.onDev n f).onDev n g = s.onRadio fun r => { r with devs := (r.devs.put n {} (f (s.dev n))).put n {} (g ((s.onDev n f).dev n)) } := rfl
  rw [hput, dev_onDev_same]
  exact congrArg (fun devs => s.onRadio fun r => { r with devs := devs }) (Table.put_put h s.ra.devs n (g (f (s.dev n))))

/-! ### The bitmaps (04 R123) -/

/-- Reading the bitmaps keeps what an update of a node keeps. -/
theorem readBitmaps_keeps {β : Type} {g : State → β} (h : ∀ s n f, g (s.onDev n f) = g s) (s : State) (m : Mgmt) : g (s.readBitmaps m) = g s :=
  foldl_keeps g (fun _ _ => h ..) _ s

@[simp] theorem readBitmaps_now (s : State) (m : Mgmt) : (s.readBitmaps m).now = s.now := readBitmaps_keeps (fun _ _ _ => rfl) ..
@[simp] theorem readBitmaps_cfg (s : State) (m : Mgmt) : (s.readBitmaps m).cfg = s.cfg := readBitmaps_keeps (fun _ _ _ => rfl) ..
@[simp] theorem readBitmaps_pending (s : State) (m : Mgmt) : (s.readBitmaps m).pending = s.pending := readBitmaps_keeps (fun _ _ _ => rfl) ..
@[simp] theorem readBitmaps_node (s : State) (m : Mgmt) (n : Nat) : (s.readBitmaps m).node n = s.node n :=
  readBitmaps_keeps (g := fun u => u.node n) (fun _ _ _ => rfl) s m

/-- What exchanges with the update of a node exchanges with the reading of the bitmaps. -/
theorem readBitmaps_comm {g : State → State} (h : ∀ s n f, (g s).onDev n f = g (s.onDev n f)) (s : State) (m : Mgmt) :
    (g s).readBitmaps m = g (s.readBitmaps m) := List.foldl_hom g fun _ _ => h ..

theorem readBitmaps_begin (s : State) (t : Nat) (m : Mgmt) : (s.begin t).readBitmaps m = (s.readBitmaps m).begin t :=
  readBitmaps_comm (g := fun s => s.begin t) (fun _ _ _ => rfl) s m

theorem readBitmaps_begin_dev (s : State) (t : Nat) (m : Mgmt) (n : Nat) : ((s.begin t).readBitmaps m).dev n = (s.readBitmaps m).dev n := by
  rw [readBitmaps_begin]
  rfl

/-- Begun at `t` or not, a frame's reception and an update of a node do the same. -/
theorem readBitmaps_onDev_begin (s : State) (t : Nat) (m : Mgmt) (n : Nat) (f : NodeDev → NodeDev) :
    ((s.begin t).readBitmaps m).onDev n f = ((s.readBitmaps m).onDev n f).begin t := by
  rw [readBitmaps_begin]
  rfl

/-! ### What a follower overhears (04 R113) -/

theorem overhear_alone {s : State} (h : (s.isTwin && !s.leads && s.pw.portsUp) = false) (m : Mgmt) (cmd : NodeCmd) : s.overhear m cmd = s := by
  rw [State.overhear, h]
  rfl

theorem overhearNonce_alone {s : State} (h : (s.isTwin && !s.leads && s.pw.portsUp) = false) (m : Mgmt) (part nonce : Nat) :
    s.overhearNonce m part nonce = s := by
  rw [State.overhearNonce, h]
  rfl

theorem overhear_node {s : State} {m : Mgmt} (htwin : s.isTwin = true) (hleads : s.leads = false) (hports : s.pw.portsUp = true) (htarget : m.target < 128)
    (cmd : NodeCmd) : (s.overhear m cmd).node m.target = { s.node m.target with
      counter := if cmd.code = 3 ∧ cmd.params.head? = some 0 then m.counter else max (s.node m.target).counter m.counter
      inflight := if (s.node m.target).counter ≤ m.counter then some { cmd := cmd, counter := m.counter, sentAt := s.superframeOf (m.target / 32) }
        else (s.node m.target).inflight } := by
  rw [State.overhear, if_pos (by simp [htwin, hleads, hports, htarget]), node_onNode_same]

theorem readBitmaps_overhear (s : State) (m : Mgmt) (cmd : NodeCmd) : (s.overhear m cmd).readBitmaps m = (s.readBitmaps m).overhear m cmd := by
  refine readBitmaps_comm (g := fun s => s.overhear m cmd) (fun u n f => ?_) s m
  have hlisten : ((u.onDev n f).isTwin && !(u.onDev n f).leads && (u.onDev n f).pw.portsUp && decide (m.target < 128)) =
    (u.isTwin && !u.leads && u.pw.portsUp && decide (m.target < 128)) := rfl
  unfold State.overhear
  rw [hlisten]
  split <;> rfl

/-! ### An addressed command at its node (04 R111, R112, R116) -/

/-- The command reaches its node, of a module that does not follow another. -/
structure State.Delivers (s : State) (m : Mgmt) : Prop where
  target : m.target < 128
  heard : m.target ∈ m.heard
  alone : (s.isTwin && !s.leads && s.pw.portsUp) = false

/-- The state `v` is `u`, but for what was emitted. -/
def State.Emits (u v : State) : Prop := ∃ o, v = { u with out := o }

theorem emits_answer (s : State) (silent : Bool) (k : EmKind) (p : Nat) (b : List Nat) : s.Emits (if silent then s else s.emit k p b) := by
  split
  · exact ⟨s.out, rfl⟩
  · exact ⟨_, rfl⟩

theorem State.Emits.bare {u v : State} (h : u.Emits v) : v.bare = u.bare := by
  obtain ⟨o, rfl⟩ := h
  rfl

theorem State.Emits.dev {u v : State} (h : u.Emits v) (n : Nat) : v.dev n = u.dev n := by
  obtain ⟨o, rfl⟩ := h
  rfl

/-- A node notes that it is addressed. -/
def NodeDev.addressed (now : Nat) (d : NodeDev) : NodeDev := { d with addressedAt := now }

@[simp] theorem addressed_adm (now : Nat) (d : NodeDev) : (d.addressed now).adm = d.adm := rfl
@[simp] theorem addressed_lastCounter (now : Nat) (d : NodeDev) : (d.addressed now).lastCounter = d.lastCounter := rfl

/-- A node after a command it carries out: it keeps the counter with the response, and neither once it is unadmitted (04 R111, R112). -/
def NodeDev.carry (m : Mgmt) (code : Nat) (body : NodeDev → NodeDev × Nat × List Nat) (d : NodeDev) : NodeDev :=
  if (body d).1.adm = .unadmitted then { (body d).1 with stored := none }
  else { (body d).1 with
    lastCounter := m.counter
    stored := some { code := code, status := (body d).2.1, counter := m.counter, payload := (body d).2.2 } }

/-- A node that is not unadmitted after the command keeps counter and response. -/
theorem carry_eq {m : Mgmt} {code : Nat} {body : NodeDev → NodeDev × Nat × List Nat} {d d' : NodeDev} {status : Nat} {payload : List Nat}
    (hbody : body d = (d', status, payload)) (hadm : d'.adm ≠ .unadmitted) : d.carry m code body =
      { d' with lastCounter := m.counter, stored := some { code := code, status := status, counter := m.counter, payload := payload } } := by
  rw [NodeDev.carry, hbody, if_neg hadm]

theorem carry_eq_of_unadmitted {m : Mgmt} {code : Nat} {body : NodeDev → NodeDev × Nat × List Nat} {d : NodeDev}
    (hadm : (body d).1.adm = .unadmitted) : d.carry m code body = { (body d).1 with stored := none } := if_pos hadm

@[simp] theorem carry_staging (m : Mgmt) (code : Nat) (body : NodeDev → NodeDev × Nat × List Nat) (d : NodeDev) :
    (d.carry m code body).staging = (body d).1.staging := by
  unfold NodeDev.carry
  split <;> rfl

section Addressed

variable {s : State} {m : Mgmt} {area : Nat} {fresh : Bool} {body : NodeDev → NodeDev × Nat × List Nat}

/-- The frame `m` has reached its target, which has read its bitmaps and is to decide over its command. -/
def State.reachNode (s : State) (m : Mgmt) : State := (s.readBitmaps m).onDev m.target (NodeDev.addressed s.now)

@[simp] theorem reachNode_dev (s : State) (m : Mgmt) : (s.reachNode m).dev m.target = ((s.readBitmaps m).dev m.target).addressed s.now := dev_onDev_same ..

theorem reachNode_begin (s : State) (t : Nat) (m : Mgmt) : (s.begin t).reachNode m =
    ((s.readBitmaps m).onDev m.target (NodeDev.addressed (max s.now t))).begin t := readBitmaps_onDev_begin ..

/-- A command that is delivered: what its target does with it, by the last counter it has accepted (04 R111). -/
theorem devCommand_delivered (h : s.Delivers m) (cmd : NodeCmd) (area : Nat) (fresh : Bool) (body : NodeDev → NodeDev × Nat × List Nat) :
    s.devCommand m cmd area fresh body =
      let u := s.reachNode m
      let d := u.dev m.target
      let answer := fun (v : State) (r : StoredResp) => if d.silentTx then v else v.emit .nodeResponse m.target (v.respPsdu m.target r)
      if m.counter > d.lastCounter ∨ (fresh ∧ m.counter = 1 ∧ d.lastCounter ≠ 1) then
        if !obeyed d cmd.code area then answer u { code := cmd.code, status := 3, counter := m.counter }
        else answer (u.onDev m.target fun _ => d.carry m cmd.code body)
          { code := cmd.code, status := (body d).2.1, counter := m.counter, payload := (body d).2.2 }
      else if m.counter = d.lastCounter then d.stored.elim u (answer u)
      else u.onDev m.target fun d => { d with lowerCounters := wrapInc d.lowerCounters } := by
  have hread : (s.readBitmaps m).overhear m cmd = s.readBitmaps m := by
    rw [← readBitmaps_overhear, overhear_alone h.alone]
  have hreaches : ¬ (m.target ∉ m.heard ∨ 128 ≤ m.target) := by simp [h.heard, h.target]
  unfold State.devCommand
  rw [hread]
  dsimp only
  rw [if_neg hreaches, readBitmaps_now]
  refine if_congr Iff.rfl rfl (if_congr Iff.rfl ?_ rfl)
  split
  next r hstored =>
    have hstored : ((s.reachNode m).dev m.target).stored = some r := hstored
    rw [hstored]
    rfl
  next hstored =>
    have hstored : ((s.reachNode m).dev m.target).stored = none := hstored
    rw [hstored]
    rfl

/-- A repeat of the accepted counter brings the stored response again, and no more (04 R111). -/
theorem devCommand_repeated (h : s.Delivers m) (hsame : ((s.readBitmaps m).dev m.target).lastCounter = m.counter) (cmd : NodeCmd) :
    (s.reachNode m).Emits (s.devCommand m cmd area false body) := by
  rw [devCommand_delivered h]
  dsimp only
  rw [if_neg (by simp [hsame]), if_pos (by simp [hsame])]
  cases ((s.reachNode m).dev m.target).stored with
  | none => exact ⟨_, rfl⟩
  | some r => exact emits_answer ..

/-- A counter below the accepted one is counted (04 R111). -/
theorem devCommand_lower (h : s.Delivers m) (hlower : m.counter < ((s.readBitmaps m).dev m.target).lastCounter) (cmd : NodeCmd) :
    s.devCommand m cmd area false body = (s.reachNode m).onDev m.target fun d => { d with lowerCounters := wrapInc d.lowerCounters } := by
  rw [devCommand_delivered h]
  dsimp only
  rw [if_neg (by simp [hlower.le]), if_neg (by simp [hlower.ne])]

/-- A command that the node does not obey is answered, and no more (04 R116). -/
theorem devCommand_refused (h : s.Delivers m) (hnew : ((s.readBitmaps m).dev m.target).lastCounter < m.counter) {cmd : NodeCmd}
    (hrefuses : obeyed ((s.readBitmaps m).dev m.target) cmd.code area = false) : (s.reachNode m).Emits (s.devCommand m cmd area fresh body) := by
  have hrefuses : obeyed ((s.reachNode m).dev m.target) cmd.code area = false := by rw [reachNode_dev]; exact hrefuses
  rw [devCommand_delivered h]
  dsimp only
  rw [if_pos (.inl (by simpa using hnew)), if_pos (by rw [hrefuses]; rfl)]
  exact emits_answer ..

/-- An admitted node carries a command with a new counter out (04 R111, R116). -/
theorem devCommand_carried (h : s.Delivers m) (hadm : ((s.readBitmaps m).dev m.target).adm = .admitted)
    (hnew : ((s.readBitmaps m).dev m.target).lastCounter < m.counter) (cmd : NodeCmd) :
    ((s.readBitmaps m).onDev m.target fun d => (d.addressed s.now).carry m cmd.code body).Emits (s.devCommand m cmd area fresh body) := by
  have hobeys : obeyed (((s.readBitmaps m).dev m.target).addressed s.now) cmd.code area = true := by simp [obeyed, hadm]
  have hset : ((s.readBitmaps m).dev m.target).addressed s.now ≠ {} := fun hdefault => by
    have hunadmitted : ((s.readBitmaps m).dev m.target).adm = .unadmitted := congrArg NodeDev.adm hdefault
    rw [hadm] at hunadmitted
    cases hunadmitted
  rw [devCommand_delivered h]
  dsimp only
  rw [reachNode_dev, if_pos (.inl hnew), if_neg (by rw [hobeys]; decide)]
  have hcarried : (s.reachNode m).onDev m.target (fun _ => (((s.readBitmaps m).dev m.target).addressed s.now).carry m cmd.code body) =
      (s.readBitmaps m).onDev m.target fun d => (d.addressed s.now).carry m cmd.code body :=
    (onDev_onDev hset _).trans (onDev_congr rfl)
  rw [hcarried]
  exact emits_answer ..

/-- What neither an update of a node nor an emission changes is left by a command as by what a follower overhears of it (04 R113). -/
theorem devCommand_keeps {β : Type} {g : State → β} (hdev : ∀ s n f, g (s.onDev n f) = g s) (hemit : ∀ s k p b, g (s.emit k p b) = g s)
    (s : State) (m : Mgmt) (cmd : NodeCmd) (area : Nat) (fresh : Bool) (body : NodeDev → NodeDev × Nat × List Nat) :
    g (s.devCommand m cmd area fresh body) = g (s.overhear m cmd) := by
  have hread : g ((s.readBitmaps m).overhear m cmd) = g (s.overhear m cmd) := by rw [← readBitmaps_overhear, readBitmaps_keeps hdev]
  rw [← hread]
  unfold State.devCommand
  extract_lets u n v d answer
  have hanswer (w : State) (r : StoredResp) : g (answer w r) = g w := by
    show g (if d.silentTx then w else w.emit .nodeResponse n (w.respPsdu n r)) = g w
    split
    · rfl
    · rw [hemit]
  have hseen : g v = g u := hdev ..
  split
  · rfl
  · split
    · split
      · rw [hanswer, hseen]
      · dsimp only
        rw [hanswer, hdev, hseen]
    · split
      · split
        · rw [hanswer, hseen]
        · exact hseen
      · rw [hdev, hseen]

end Addressed

/-! ### Commands that address a node -/

/-- The instruction `c` is at `t` the command `cmd` to the target of `m`, of which its node makes `body`. -/
def Addresses (c : Instr) (t : Nat) (m : Mgmt) (s : State) (cmd : NodeCmd) (area : Nat) (fresh : Bool) (body : NodeDev → NodeDev × Nat × List Nat) : Prop :=
  exec c s = s.run t fun u => u.devCommand m cmd area fresh body

section Commands

variable {c : Instr} {t : Nat} {m : Mgmt} {s : State} {cmd : NodeCmd} {area : Nat} {fresh : Bool} {body : NodeDev → NodeDev × Nat × List Nat}

/-- What the instruction means on the state it begins with decides. -/
theorem addresses_of {f : State → State} (he : exec c s = s.run t f) (h : f (s.begin t) = (s.begin t).devCommand m cmd area fresh body) :
    Addresses c t m s cmd area fresh body := he.trans (run_congr h)

theorem begin_delivers (h : s.Delivers m) (t : Nat) : (s.begin t).Delivers m := ⟨h.target, h.heard, h.alone⟩

theorem does_repeated (ha : Addresses c t m s cmd area false body) (h : s.Delivers m)
    (hsame : ((s.readBitmaps m).dev m.target).lastCounter = m.counter) :
    Does c s ((s.readBitmaps m).onDev m.target (NodeDev.addressed (max s.now t))) := by
  refine does_of ha ?_ (readBitmaps_pending ..)
  rw [(devCommand_repeated (begin_delivers h t) (by rwa [readBitmaps_begin_dev]) cmd).bare, reachNode_begin, begin_bare]

theorem does_lower (ha : Addresses c t m s cmd area false body) (h : s.Delivers m)
    (hlower : m.counter < ((s.readBitmaps m).dev m.target).lastCounter) :
    Does c s (((s.readBitmaps m).onDev m.target (NodeDev.addressed (max s.now t))).onDev m.target fun d =>
      { d with lowerCounters := wrapInc d.lowerCounters }) := by
  refine does_of ha ?_ (readBitmaps_pending ..)
  rw [devCommand_lower (begin_delivers h t) (by rwa [readBitmaps_begin_dev]) cmd, reachNode_begin]
  rfl

theorem does_refused (ha : Addresses c t m s cmd area fresh body) (h : s.Delivers m)
    (hnew : ((s.readBitmaps m).dev m.target).lastCounter < m.counter) (hrefuses : obeyed ((s.readBitmaps m).dev m.target) cmd.code area = false) :
    Does c s ((s.readBitmaps m).onDev m.target (NodeDev.addressed (max s.now t))) := by
  refine does_of ha ?_ (readBitmaps_pending ..)
  rw [(devCommand_refused (begin_delivers h t) (by rwa [readBitmaps_begin_dev]) (by rwa [readBitmaps_begin_dev])).bare, reachNode_begin, begin_bare]

/-- The node after a new command that it carries out. -/
theorem answers_carried (ha : Addresses c t m s cmd area fresh body) (h : s.Delivers m) (hadm : ((s.readBitmaps m).dev m.target).adm = .admitted)
    (hnew : ((s.readBitmaps m).dev m.target).lastCounter < m.counter) {P : NodeDev → Prop}
    (hP : P ((((s.readBitmaps m).dev m.target).addressed (max s.now t)).carry m cmd.code body)) : Answers c s fun s' => P (s'.dev m.target) := by
  refine answers_of ha ?_
  rw [settle_dev, (devCommand_carried (begin_delivers h t) (by rwa [readBitmaps_begin_dev]) (by rwa [readBitmaps_begin_dev]) cmd).dev, dev_onDev_same,
    readBitmaps_begin_dev]
  exact hP

/-- A new command that the node carries out does no more than the update `f` that it amounts to. -/
theorem does_carried (ha : Addresses c t m s cmd area fresh body) (h : s.Delivers m) (hadm : ((s.readBitmaps m).dev m.target).adm = .admitted)
    (hnew : ((s.readBitmaps m).dev m.target).lastCounter < m.counter) {f : NodeDev → NodeDev}
    (hf : (((s.readBitmaps m).dev m.target).addressed (max s.now t)).carry m cmd.code body = f ((s.readBitmaps m).dev m.target)) :
    Does c s ((s.readBitmaps m).onDev m.target f) := by
  refine does_of ha ?_ (readBitmaps_pending ..)
  rw [(devCommand_carried (begin_delivers h t) (by rwa [readBitmaps_begin_dev]) (by rwa [readBitmaps_begin_dev]) cmd).bare, readBitmaps_onDev_begin,
    begin_bare]
  exact congrArg State.bare (onDev_congr hf)

end Commands

/-- Of a challenge nothing is overheard in a module that does not follow another. -/
theorem overhearNonce_delivered {s : State} {m : Mgmt} (h : s.Delivers m) (cmd : NodeCmd) (area : Nat) (fresh : Bool)
    (body : NodeDev → NodeDev × Nat × List Nat) (part nonce : Nat) :
    (s.devCommand m cmd area fresh body).overhearNonce m part nonce = s.devCommand m cmd area fresh body := by
  refine overhearNonce_alone ?_ m part nonce
  rw [devCommand_keeps (g := fun u => u.isTwin && !u.leads && u.pw.portsUp) (fun _ _ _ => rfl) (fun _ _ _ _ => rfl), overhear_alone h.alone]
  exact h.alone

/-! ### What the node makes of each command (04 R109, R110) -/

/-- A node's reading of Challenge, at the epoch of the key (04 R112, R117). -/
def NodeDev.challenge (part : Fin 2) (nonce epoch : Nat) (d : NodeDev) : NodeDev × Nat × List Nat :=
  if part.val = 0 then
    ({ (if d.adm = .unadmitted then d else d.leave) with
        adm := .challenged, nonce := (nonce % 2 ^ 64) * 2 ^ 64, requestSent := false, linkEpoch := epoch }, 0, [])
  else
    let d' := { d with adm := .challenged, nonce := d.nonce / 2 ^ 64 * 2 ^ 64 + nonce % 2 ^ 64, linkEpoch := epoch }
    (d', 0, octetsOf 12 (Config.cmac d.key (octetsOf 16 d'.nonce ++ octetsOf 8 d.ident ++ octetsOf 4 epoch) / two32))

/-- A node's reading of Admit for index `n`. -/
def NodeDev.admitted (n level flags served : Nat) (d : NodeDev) : NodeDev :=
  { d with adm := if d.adm = .admitted then .admitted else .keying, requestSent := false, index := n, txLevel := level % 256
           replacement := flags.testBit 0, served := served % 65536, attempts := 0 }

/-- The whole of a node's staging copy of an area. -/
def NodeDev.copy (d : NodeDev) (area : Nat) : List Nat := (d.staging.get area [] ++ List.replicate (areaLength area) 0).take (areaLength area)

/-- That copy with 8 octets written at an offset. -/
def NodeDev.copyWith (d : NodeDev) (area offset : Nat) (data : List Nat) : List Nat :=
  (d.copy area).take offset ++ (data ++ List.replicate 8 0).take 8 ++ (d.copy area).drop (offset + 8)

/-- A node's reading of Load. -/
def NodeDev.load (area offset : Nat) (data : List Nat) (d : NodeDev) : NodeDev × Nat × List Nat :=
  if areaLength area = 0 ∨ offset % 8 ≠ 0 ∨ areaLength area ≤ offset then (d, 2, [])
  else ({ d with staging := d.staging.put area [] (d.copyWith area offset data) }, 0, [])

/-- A node's reading of Commit in a sweep. -/
def NodeDev.commit (area crc activation sweep : Nat) (d : NodeDev) : NodeDev × Nat × List Nat :=
  let emptied := { d with staging := d.staging.put area [] [] }
  if areaLength area = 0 then (d, 2, [])
  else if crc ≠ Config.crc32 (d.copy area) then (emptied, 1, [])
  else if area = 3 ∧ !(setOfArea (d.copy area)).inRange then (emptied, 2, [])
  else ({ emptied with
    committed := d.committed.put area [] (d.copy area)
    commitAt := d.commitAt.put area 0 ((if laterThan activation sweep then activation % two32 else wrapInc sweep) + 1) }, 0, [])

section Readings

variable (t : Nat) (m : Mgmt) (s : State)

theorem linkTest_addresses (power : Int) (turn : Nat) :
    Addresses (.linkTest t m power turn) t m s { code := 2 } 0 false fun d => (d, 0, enc [(2, power), fN 2 turn]) :=
  addresses_of (rfl : _ = execLinkTest t m power turn s) rfl

theorem challenge_addresses {m : Mgmt} {s : State} (h : s.Delivers m) (part : Fin 2) (nonce : Nat) :
    Addresses (.challenge t m part nonce) t m s { code := 3, params := part.val :: octetsOf 8 nonce } 0 (decide (part.val = 0))
      (NodeDev.challenge part nonce (s.begin t).admitEpoch) :=
  addresses_of (rfl : _ = execChallenge t m part nonce s) (overhearNonce_delivered (begin_delivers h t) ..)

theorem admitNode_addresses (level flags served : Nat) :
    Addresses (.admitNode t m level flags served) t m s { code := 4, params := [level % 256, flags % 256] ++ octetsOf 2 served } 0 false
      fun d => (d.admitted m.target level flags served, 0, []) :=
  addresses_of (rfl : _ = execAdmitNode t m level flags served s) rfl

theorem load_addresses (area offset : Nat) (data : List Nat) :
    Addresses (.load t m area offset data) t m s { code := 5, params := [area, offset] ++ (data ++ List.replicate 8 0).take 8 } area false
      (NodeDev.load area offset data) :=
  addresses_of (rfl : _ = execLoad t m area offset data s) rfl

theorem commit_addresses (area crc activation : Nat) :
    Addresses (.commit t m area crc activation) t m s { code := 6, params := [area, 0] ++ octetsOf 4 crc ++ octetsOf 4 activation } area false
      (NodeDev.commit area crc activation (s.begin t).sweepNo) :=
  addresses_of (rfl : _ = execCommit t m area crc activation s) rfl

theorem relayAssign_addresses (role partner slot effective : Nat) :
    Addresses (.relayAssign t m role partner slot effective) t m s { code := 7, params := [role, partner, slot] ++ octetsOf 2 effective } 0 false
      fun d => ({ d with nextRole := some (role, partner, slot, effective % 65536) }, 0, []) :=
  addresses_of (rfl : _ = execRelayAssign t m role partner slot effective s) rfl

theorem propagationDelay_addresses (delay : Nat) :
    Addresses (.propagationDelay t m delay) t m s { code := 8, params := octetsOf 4 delay } 0 false fun d => ({ d with propDelay := delay % two32 }, 0, []) :=
  addresses_of (rfl : _ = execPropagationDelay t m delay s) rfl

theorem release_addresses : Addresses (.release t m) t m s { code := 9 } 0 false fun d => (d.leave, 0, []) :=
  addresses_of (rfl : _ = execRelease t m s) rfl

end Readings

/-! ### Counters (04 R111, R116) -/

/-- The commands that a node counts: all but the first part of a challenge, which begins a new series (04 R111, R116). -/
theorem counted_addresses {t : Nat} {m : Mgmt} {c : Instr} {s : State} (h : s.Delivers m)
    (hc : ∃ a b o d w r p sl e dl, c = .linkTest t m a b ∨ c = .admitNode t m b o w ∨ c = .load t m b o d ∨ c = .commit t m b o w ∨
      c = .relayAssign t m r p sl e ∨ c = .propagationDelay t m dl ∨ c = .release t m ∨ c = .challenge t m 1 b) :
    ∃ cmd area body, Addresses c t m s cmd area false body := by
  obtain ⟨a, b, o, d, w, r, p, sl, e, dl, rfl | rfl | rfl | rfl | rfl | rfl | rfl | rfl⟩ := hc
  · exact ⟨_, _, _, linkTest_addresses ..⟩
  · exact ⟨_, _, _, admitNode_addresses ..⟩
  · exact ⟨_, _, _, load_addresses ..⟩
  · exact ⟨_, _, _, commit_addresses ..⟩
  · exact ⟨_, _, _, relayAssign_addresses ..⟩
  · exact ⟨_, _, _, propagationDelay_addresses ..⟩
  · exact ⟨_, _, _, release_addresses ..⟩
  · exact ⟨_, _, _, challenge_addresses t h 1 b⟩

/-- The commands that only an admitted node obeys (04 R116). -/
theorem guarded_addresses {t : Nat} {m : Mgmt} {c : Instr} {s : State}
    (hc : ∃ a b o d w r p sl e dl, c = .linkTest t m a b ∨ (b ≠ 4 ∧ (c = .load t m b o d ∨ c = .commit t m b o w)) ∨ c = .relayAssign t m r p sl e ∨
      c = .propagationDelay t m dl ∨ c = .release t m) :
    ∃ cmd area body, Addresses c t m s cmd area false body ∧ ∀ d : NodeDev, d.adm ≠ .admitted → obeyed d cmd.code area = false := by
  obtain ⟨a, b, o, d, w, r, p, sl, e, dl, rfl | ⟨harea, rfl | rfl⟩ | rfl | rfl | rfl⟩ := hc
  · exact ⟨_, _, _, linkTest_addresses .., fun d hadm => by simp [obeyed, hadm]⟩
  · exact ⟨_, _, _, load_addresses .., fun d hadm => by simp [obeyed, hadm, harea]⟩
  · exact ⟨_, _, _, commit_addresses .., fun d hadm => by simp [obeyed, hadm, harea]⟩
  · exact ⟨_, _, _, relayAssign_addresses .., fun d hadm => by simp [obeyed, hadm]⟩
  · exact ⟨_, _, _, propagationDelay_addresses .., fun d hadm => by simp [obeyed, hadm]⟩
  · exact ⟨_, _, _, release_addresses .., fun d hadm => by simp [obeyed, hadm]⟩

/-- Settles O10: the counter, and for a guarded command the admission, decides what its target does with it. -/
theorem nodeCommandCounters : Obligations.NodeCommandCounters := by
  intro t m c s htarget hheard halone seen
  have h : s.Delivers m := ⟨htarget, hheard, halone⟩
  refine ⟨fun hc => ?_, fun hc hadm hnew => ?_⟩
  · obtain ⟨cmd, area, body, ha⟩ := counted_addresses h hc
    exact ⟨does_repeated ha h, does_lower ha h⟩
  · obtain ⟨cmd, area, body, ha, hrefuses⟩ := guarded_addresses (s := s) hc
    exact does_refused ha h hnew (hrefuses _ hadm)

/-! ### Each command carried out (04 R109 to R112) -/

theorem copy_length (d : NodeDev) (area : Nat) : (d.copy area).length = areaLength area := by
  simp [NodeDev.copy]

/-- The first part of a challenge at a node that was not unadmitted. -/
theorem challenge_first {d : NodeDev} (hadm : d.adm ≠ .unadmitted) (nonce epoch : Nat) : d.challenge 0 nonce epoch =
    ({ d.leave with adm := .challenged, nonce := (nonce % 2 ^ 64) * 2 ^ 64, requestSent := false, linkEpoch := epoch }, 0, []) := by
  have hfirst : (0 : Fin 2).val = 0 := rfl
  rw [NodeDev.challenge, if_pos hfirst, if_neg hadm]

theorem load_bad {area offset : Nat} (h : areaLength area = 0 ∨ offset % 8 ≠ 0 ∨ areaLength area ≤ offset) (data : List Nat) (d : NodeDev) :
    d.load area offset data = (d, 2, []) := if_pos h

/-- Load writes its octets at the offset of the staging copy (04 R110). -/
theorem load_staging {area offset : Nat} (hin : offset < areaLength area) (haligned : offset % 8 = 0) (data : List Nat) (d : NodeDev) :
    (((d.load area offset data).1.staging.get area []).drop offset).take 8 = (data ++ List.replicate 8 0).take 8 := by
  have hgood : ¬ (areaLength area = 0 ∨ offset % 8 ≠ 0 ∨ areaLength area ≤ offset) := by omega
  have hfront : ((d.copy area).take offset).length = offset := by
    rw [List.length_take, copy_length]
    omega
  have hdata : ((data ++ List.replicate 8 0).take 8).length = 8 := by simp
  rw [NodeDev.load, if_neg hgood]
  dsimp only
  rw [Table.get_put_same, NodeDev.copyWith, List.append_assoc, List.drop_left' hfront, List.take_left' hdata]

/-- Commit of a copy that its check value does not fit empties the copy alone (04 R110). -/
theorem commit_bad {area crc : Nat} {d : NodeDev} (hlength : areaLength area ≠ 0) (hcrc : crc ≠ Config.crc32 (d.copy area)) (activation sweep : Nat) :
    d.commit area crc activation sweep = ({ d with staging := d.staging.put area [] [] }, 1, []) := by
  rw [NodeDev.commit, if_neg hlength, if_pos hcrc]

/-- A good copy waits for its sweep, where that is yet to come (04 R110). -/
theorem commit_good {area crc activation sweep : Nat} {d : NodeDev} (hlength : areaLength area ≠ 0) (harea : area ≠ 3)
    (hcrc : crc = Config.crc32 (d.copy area)) (hlater : laterThan activation sweep = true) :
    d.commit area crc activation sweep = ({ d with
      staging := d.staging.put area [] []
      committed := d.committed.put area [] (d.copy area)
      commitAt := d.commitAt.put area 0 (activation % two32 + 1) }, 0, []) := by
  rw [NodeDev.commit, if_neg hlength, if_neg (not_not.2 hcrc), if_neg (fun hset => harea hset.1), if_pos hlater]

section Carried

variable {t : Nat} {m : Mgmt} {s : State} (h : s.Delivers m) (hadm : ((s.readBitmaps m).dev m.target).adm = .admitted)
  (hnew : ((s.readBitmaps m).dev m.target).lastCounter < m.counter)
include h hadm hnew

/-- A command after which the node is admitted does no more than the update `f`, which is its effect with the counter and the response. -/
theorem does_kept {c : Instr} {cmd : NodeCmd} {area : Nat} {fresh : Bool} {body : NodeDev → NodeDev × Nat × List Nat} {d' : NodeDev} {status : Nat}
    {payload : List Nat} {f : NodeDev → NodeDev} (ha : Addresses c t m s cmd area fresh body)
    (hbody : body (((s.readBitmaps m).dev m.target).addressed (max s.now t)) = (d', status, payload)) (hkept : d'.adm = .admitted)
    (hf : { d' with lastCounter := m.counter, stored := some { code := cmd.code, status := status, counter := m.counter, payload := payload } } =
      f ((s.readBitmaps m).dev m.target)) : Does c s ((s.readBitmaps m).onDev m.target f) :=
  does_carried ha h hadm hnew ((carry_eq hbody (by rw [hkept]; decide)).trans hf)

/-- The first part of a challenge takes an admitted node out of its admission (04 R112, R116). -/
theorem answers_challenge (nonce : Nat) : Answers (.challenge t m 0 nonce) s fun s' =>
    (s'.dev m.target).adm = .challenged ∧ (s'.dev m.target).nonce = nonce % 2 ^ 64 * 2 ^ 64 ∧ (s'.dev m.target).lastCounter = m.counter ∧
      (s'.dev m.target).balSet = {} ∧ (s'.dev m.target).keyed = false := by
  have hleft : (((s.readBitmaps m).dev m.target).addressed (max s.now t)).adm ≠ .unadmitted := by simp [hadm]
  refine answers_carried (P := fun d => d.adm = .challenged ∧ d.nonce = nonce % 2 ^ 64 * 2 ^ 64 ∧ d.lastCounter = m.counter ∧ d.balSet = {} ∧
    d.keyed = false) (challenge_addresses t h 0 nonce) h hadm hnew ?_
  rw [carry_eq (challenge_first hleft ..) nofun]
  exact ⟨rfl, rfl, rfl, rfl, rfl⟩

/-- A Load within its area writes the staging copy (04 R110). -/
theorem answers_load {area offset : Nat} (hin : offset < areaLength area) (haligned : offset % 8 = 0) (data : List Nat) :
    Answers (.load t m area offset data) s fun s' =>
      List.take 8 (List.drop offset ((s'.dev m.target).staging.get area [])) = (data ++ List.replicate 8 0).take 8 := by
  refine answers_carried (P := fun d => List.take 8 (List.drop offset (d.staging.get area [])) = (data ++ List.replicate 8 0).take 8)
    (load_addresses t m s area offset data) h hadm hnew ?_
  rw [carry_staging]
  exact load_staging hin haligned data _

/-- A Commit with its check value moves the copy, and leaves the active one (04 R110). -/
theorem answers_commit {area crc activation : Nat} (hlength : areaLength area ≠ 0) (harea : area ≠ 3)
    (hcrc : crc = Config.crc32 (((s.readBitmaps m).dev m.target).copy area)) (hlater : laterThan activation (s.begin t).sweepNo = true) :
    Answers (.commit t m area crc activation) s fun s' =>
      (s'.dev m.target).commitAt.get area 0 = activation % two32 + 1 ∧ (s'.dev m.target).staging.get area [] = [] ∧
        (s'.dev m.target).active = ((s.readBitmaps m).dev m.target).active := by
  refine answers_carried (P := fun d => d.commitAt.get area 0 = activation % two32 + 1 ∧ d.staging.get area [] = [] ∧
    d.active = ((s.readBitmaps m).dev m.target).active) (commit_addresses t m s area crc activation) h hadm hnew ?_
  have hcommit := commit_good (d := ((s.readBitmaps m).dev m.target).addressed (max s.now t)) hlength harea hcrc hlater
  have hkept : (((s.readBitmaps m).dev m.target).addressed (max s.now t)).adm ≠ .unadmitted := by simp [hadm]
  rw [carry_eq hcommit hkept]
  exact ⟨Table.get_put_same .., Table.get_put_same .., rfl⟩

end Carried

/-! ### The contention window (03 R84, R85; 04 R109) -/

theorem exec_contentionOpen {t n : Nat} {m : Mgmt} {s : State} (hheard : m.heard = [n]) :
    exec (.contentionOpen t m) s = s.run t fun u => (u.readBitmaps m).contend n := by
  have he : exec (.contentionOpen t m) s = execContentionOpen t m s := rfl
  refine he.trans (run_congr ?_)
  rw [hheard]
  rfl

/-- A node seeks admission at the frame's instant, whenever the command begins. -/
theorem seeks_begin {t n : Nat} {m : Mgmt} {s : State} (h : ((s.readBitmaps m).dev n).seeks (max s.now t) = true) :
    (((s.begin t).readBitmaps m).dev n).seeks ((s.begin t).readBitmaps m).now = true := by
  rw [readBitmaps_begin_dev, readBitmaps_now]
  exact h

/-- A node whose backoff is over asks for admission. -/
theorem contend_asks {n : Nat} {s : State} (hseeks : (s.dev n).seeks s.now = true) (hbackoff : (s.dev n).backoff = 0) :
    s.contend n = (s.onDev n fun d => { d with requestSent := true }).emit .nodeRequest n (s.requestPsdu n) := by
  rw [State.contend, hseeks]
  exact if_pos hbackoff

/-- Any other node that seeks admission waits one window less. -/
theorem contend_waits {n : Nat} {s : State} (hseeks : (s.dev n).seeks s.now = true) (hbackoff : 0 < (s.dev n).backoff) :
    s.contend n = s.onDev n fun d => { d with backoff := d.backoff - 1 } := by
  rw [State.contend, hseeks]
  exact if_neg hbackoff.ne'

/-- An admission request opens with type, string, no index, and code 1 (04 R107, R109). -/
theorem requestPsdu_head (s : State) (n : Nat) : (s.requestPsdu n).take 4 = [0x51, s.cfg.string.index, 255, 1] := rfl

/-- Settles O9: the bitmaps first, then each command by its reading at an admitted node; a follower by what it overhears. -/
theorem nodeCommands : Obligations.NodeCommands := by
  refine ⟨?none, ?asks, ?waits, ?addressed, ?follower⟩
  case none =>
    intro t m s
    have he : exec (.commandNone t m) s = execCommandNone t m s := rfl
    exact does_of he (by rw [readBitmaps_begin, begin_bare]) (readBitmaps_pending ..)
  case asks =>
    intro t m n s hheard hseeks hbackoff
    have hasks := contend_asks (seeks_begin hseeks) (by rwa [readBitmaps_begin_dev])
    refine ⟨does_of (exec_contentionOpen hheard) ?_ (readBitmaps_pending ..), answers_of (exec_contentionOpen hheard) ?_⟩
    · rw [hasks, readBitmaps_begin]
      rfl
    · have hsent := emitted (((s.begin t).readBitmaps m).onDev n fun d => { d with requestSent := true }) .nodeRequest n
        (((s.begin t).readBitmaps m).requestPsdu n)
      rw [← hasks] at hsent
      have hhead := requestPsdu_head ((s.begin t).readBitmaps m) n
      rw [readBitmaps_cfg] at hhead
      exact ⟨_, mem_settle (s := s.keep t _) hsent s, rfl, rfl, hhead⟩
  case waits =>
    intro t m n s hheard hseeks hbackoff
    refine does_of (exec_contentionOpen hheard) ?_ (readBitmaps_pending ..)
    rw [contend_waits (seeks_begin hseeks) (by rwa [readBitmaps_begin_dev]), readBitmaps_begin]
    rfl
  case addressed =>
    intro t m s htarget hheard halone hadm hnew
    have h : s.Delivers m := ⟨htarget, hheard, halone⟩
    refine ⟨?linkTest, answers_challenge h hadm hnew, ?admission, ?load, ?badLoad, ?badCommit, ?commit, ?relay, ?delay, ?release⟩
    case linkTest => exact fun power turn => does_kept h hadm hnew (linkTest_addresses ..) rfl hadm rfl
    case admission =>
      intro level flags served
      refine does_kept h hadm hnew (admitNode_addresses ..) rfl (if_pos hadm) ?_
      simp [NodeDev.admitted, NodeDev.addressed, hadm]
    case load => exact fun area offset data _ haligned hin => answers_load h hadm hnew hin haligned data
    case badLoad => exact fun area offset data hbad => does_kept h hadm hnew (load_addresses ..) (load_bad hbad ..) hadm rfl
    case badCommit =>
      intro area crc act hlength hcrc
      have hcommit := commit_bad (d := ((s.readBitmaps m).dev m.target).addressed (max s.now t)) hlength hcrc act (s.begin t).sweepNo
      exact does_kept h hadm hnew (commit_addresses ..) hcommit hadm rfl
    case commit => exact fun area crc act hlength harea hcrc hlater => answers_commit h hadm hnew hlength harea hcrc hlater
    case relay => exact fun role partner slot eff => does_kept h hadm hnew (relayAssign_addresses ..) rfl hadm rfl
    case delay => exact fun delay => does_kept h hadm hnew (propagationDelay_addresses ..) rfl hadm rfl
    case release => exact does_carried (release_addresses ..) h hadm hnew ((carry_eq_of_unadmitted rfl).trans rfl)
  case follower =>
    intro t m cmd s htwin hleads hports htarget
    refine ⟨overhear_node htwin hleads hports htarget cmd, ?_⟩
    refine answers_of (linkTest_addresses t m s 0 0) ?_
    rw [settle_node, devCommand_keeps (g := fun u => u.node m.target) (fun _ _ _ => rfl) (fun _ _ _ _ => rfl)]

end Sys2Proof.Machine

/-! The checks of the acquisition against itself: cross-checks, running offsets, and the self-tests of its channels (05 R141 to R145; 06 R181; 23 R556). -/

namespace Sys2Proof.Machine

open Sys2Proof

theorem acq_of_undecided {a b : State} (h : a.undecided = b.undecided) : a.acq = b.acq := (congrArg State.acq h :)

/-! ### The cross-checks (05 R141, R142; 11 R304) -/

/-- A branch window that is short of its 100 sweeps is not judged (05 R141). -/
theorem branchCheck_short {b : Nat} {s : State} (hshort : (s.acq.mismatch.get b {}).count < 100) : branchCheck b s = s := if_pos hshort

/-- A full window that is not usable starts anew, skipped and counted (05 R141). -/
theorem branchCheck_skips {b : Nat} {s : State} (hfull : 100 ≤ (s.acq.mismatch.get b {}).count) (hunusable : (s.acq.mismatch.get b {}).usable = false) :
    branchCheck b s = s.onAcq fun a => { a with mismatch := a.mismatch.upd b {} fun w =>
      { w with count := 0, usable := true, sumCells := 0, sumHv := 0, sumIb := 0, skipped := wrapInc w.skipped } } := by
  unfold branchCheck
  dsimp only
  rw [if_neg hfull.not_gt, hunusable]
  rfl

/-- A usable window is judged and starts anew: it lengthens its run beyond the tolerance or its run within it, and the other run ends (05 R141). -/
theorem branchCheck_judges {b : Nat} {s : State} (hfull : 100 ≤ (s.acq.mismatch.get b {}).count) (husable : (s.acq.mismatch.get b {}).usable = true) :
    ∃ w : MismatchWin, (branchCheck b s).acq.mismatch = s.acq.mismatch.put b {} w ∧ w.count = 0 ∧ w.skipped = (s.acq.mismatch.get b {}).skipped ∧
      (w.overRun = 0 ∨ w.underRun = 0) := by
  unfold branchCheck
  extract_lets w hv expected mism tol beyond trip need ovr und set clr s1 v s2
  have hruns : ovr = 0 ∨ und = 0 := by
    show (if beyond = true then _ else 0) = 0 ∨ (if beyond = true then 0 else _) = 0
    cases beyond
    · exact .inl rfl
    · exact .inr rfl
  have hs2 : s2.undecided = s1.undecided := by
    show (if set = true then _ else if clr = true then _ else _ : State).undecided = _
    rw [apply_ite State.undecided, apply_ite State.undecided, decideFn_undecided, record_undecided, evalFn_undecided, ite_self, ite_self]
  have hunusable : ¬(!w.usable) = true := by rw [husable]; decide
  rw [if_neg hfull.not_gt, if_neg hunusable, acq_of_undecided ((evalFn_undecided ..).trans hs2)]
  exact ⟨_, rfl, rfl, rfl, hruns⟩

/-- IS and the branch currents differ beyond the tolerance in the window of 10 sweeps (05 R142). -/
def State.currentBeyond (s : State) : Bool :=
  decide ((s.cfg.cross.iShare : Rat) / 10000 * absR ((s.acq.xSumIs : Rat) / 10) + (s.cfg.cross.iFixed : Rat) <
    absR ((s.acq.xSumIs : Rat) / 10 - (s.acq.xSumIb : Rat) / 10))

/-- The windows beyond the tolerance in a row, with the window that ends (05 R142). -/
def State.currentRun (s : State) : Nat := if s.currentBeyond then min 127 (s.acq.xRun + 1) else 0

/-- The meaning of CURRENT_CROSS_CHECK (05 R142). -/
def currentCheck (s : State) : State :=
  if s.acq.xCount < 10 then s
  else
    let now := decide (s.cfg.cross.iWindows ≤ s.currentRun)
    let s1 := s.onAcq fun a => { a with xCount := 0, xSumIs := 0, xSumIb := 0, xRun := s.currentRun, xReported := now }
    let v := roundOpen 4 (absR ((s.acq.xSumIs : Rat) / 10 - (s.acq.xSumIb : Rat) / 10))
    if now && !s.acq.xReported then (s1.record .currentMismatch 0 (octetsOf 4 (wrapInt 4 v))).decideFn 0x17 strGroup 0 v
    else s1.evalFn 0x17 strGroup now

theorem exec_currentCrossCheck (t : Nat) (s : State) : exec (.currentCrossCheck t) s = s.run t currentCheck := rfl

/-- A full window starts anew, with its run of windows beyond the tolerance (05 R142). -/
theorem currentCheck_judges {s : State} (hfull : 10 ≤ s.acq.xCount) : (currentCheck s).acq =
    { s.acq with xCount := 0, xSumIs := 0, xSumIb := 0, xRun := s.currentRun, xReported := decide (s.cfg.cross.iWindows ≤ s.currentRun) } := by
  unfold currentCheck
  extract_lets now s1 v
  have hs1 : s1.acq = { s.acq with xCount := 0, xSumIs := 0, xSumIb := 0, xRun := s.currentRun, xReported := now } := rfl
  rw [if_neg hfull.not_gt, ← hs1]
  split
  · rw [acq_of_undecided (decideFn_undecided ..), record_acq]
  · exact acq_of_undecided (evalFn_undecided ..)

/-! ### The running offset of a branch (05 R143) -/

/-- The running offset with the average of IB over the last 1 000 sweeps (05 R143). -/
def State.joinedOffset (s : State) (b : Nat) : Int :=
  roundOpen 5 (((s.acq.offsets.get b 0 : Int) : Rat) + meanR ((s.acq.ring.take 1000).flatMap fun e => e.2.getD b []) * (s.cfg.shunts.rNano.getD b 0 : Rat) / 1000)

/-- The meaning of SHUNT_OFFSET_UPDATE (05 R143). -/
def offsetUpdate (b : Nat) (s : State) : State :=
  if !(s.confirmedOpen (b + 1) && s.confirmedOpen (b + 5)) || s.acq.openRun.get b 0 < 1000 then s
  else
    let s1 := s.onAcq fun a => { a with openRun := a.openRun.put b 0 0 }
    if (s.joinedOffset b).natAbs ≤ 5000 then s1.onAcq fun a => { a with offsets := a.offsets.put b 0 (s.joinedOffset b) }
    else s1.record .shuntOffset b (octetsOf 4 (wrapInt 4 (s.joinedOffset b)))

theorem exec_shuntOffsetUpdate (t : Nat) (b : Fin 4) (s : State) : exec (.shuntOffsetUpdate t b) s = s.run t (offsetUpdate b.val) := rfl

/-- A branch that has not been open for 1 000 sweeps keeps its offset (05 R143). -/
theorem offsetUpdate_short {b : Nat} {s : State} (h : s.confirmedOpen (b + 1) = false ∨ s.acq.openRun.get b 0 < 1000) : offsetUpdate b s = s := by
  refine if_pos ?_
  obtain hclosed | hshort := h
  · rw [hclosed]; rfl
  · rw [decide_eq_true hshort, Bool.or_true]

section Joining

variable {b : Nat} {s : State} (hplus : s.confirmedOpen (b + 1) = true) (hminus : s.confirmedOpen (b + 5) = true) (hrun : 1000 ≤ s.acq.openRun.get b 0)
include hplus hminus hrun

theorem offsetUpdate_open : offsetUpdate b s =
    if (s.joinedOffset b).natAbs ≤ 5000 then s.onAcq fun a => { a with openRun := a.openRun.put b 0 0, offsets := a.offsets.put b 0 (s.joinedOffset b) }
    else (s.onAcq fun a => { a with openRun := a.openRun.put b 0 0 }).record .shuntOffset b (octetsOf 4 (wrapInt 4 (s.joinedOffset b))) := by
  refine if_neg ?_
  rw [hplus, hminus, decide_eq_false hrun.not_gt]
  decide

/-- The run of open sweeps begins anew, and the offset joins within 5 µV alone (05 R143). -/
theorem offsetUpdate_acq : (offsetUpdate b s).acq = { s.acq with
    openRun := s.acq.openRun.put b 0 0
    offsets := if (s.joinedOffset b).natAbs ≤ 5000 then s.acq.offsets.put b 0 (s.joinedOffset b) else s.acq.offsets } := by
  rw [offsetUpdate_open hplus hminus hrun]
  split
  · rfl
  · rw [record_acq]; rfl

theorem offsetUpdate_bare : ({ (offsetUpdate b s).bare with acq := {} } : State) = { s.bare with acq := {} } := by
  rw [offsetUpdate_open hplus hminus hrun]
  split
  · rfl
  · rw [record_bare]; rfl

end Joining

/-! ### The self-tests (05 R144, R145; 06 R181; 23 R556) -/

theorem deferTest_bare (s : State) (task reason : Nat) :
    (s.deferTest task reason).bare = (s.onDill fun d => { d with deferred := insertN task d.deferred }).bare := by
  have hrecord := record_bare s .selfTestDeferred task [reason]
  exact congrArg (fun u : State => u.onDill fun d => { d with deferred := insertN task d.deferred }) hrecord

@[simp] theorem deferTest_acq (s : State) (task reason : Nat) : (s.deferTest task reason).acq = s.acq := record_acq ..
@[simp] theorem testDone_acq (s : State) (task : Nat) : (s.testDone task).acq = s.acq := rfl

/-- With both paths of the group good and no swap in hand, a swap begins with the sweep in progress (05 R144). -/
theorem spareStep_swaps {s : State} (hgood : s.acq.spareFaultHv = false) (hfree : s.spareBusy true = false) (hnone : s.acq.swapHv = none) (points : Bool) :
    spareStep true points s = s.onAcq fun a => { a with swapHv := some s.sweepNo, cmpHv := true } := by
  unfold spareStep
  simp only [if_pos, hgood, hfree, hnone]
  rfl

/-- 101 sweeps later the swap ends and the test goes on to the next channel. A bad comparison puts the spare at fault where the reference points are good, and the
channel otherwise (05 R144). -/
theorem spareStep_judges {n : Nat} {s : State} (hgood : s.acq.spareFaultIb = false) (hfree : s.spareBusy false = false) (hswap : s.acq.swapIb = some n)
    (hover : notBefore s.sweepNo ((n + 101) % two32) = true) (points : Bool) : (spareStep false points s).acq = { s.acq with
      swapIb := none
      testIb := (s.acq.testIb + 1) % 4
      spareFaultIb := !s.acq.cmpIb && points
      faulty := if !s.acq.cmpIb && !points then insertN s.acq.testIb s.acq.faulty else s.acq.faulty } := by
  unfold spareStep
  simp only [Bool.false_eq_true, if_false, hgood, hfree, hswap, hover, Bool.or_false, Bool.not_true]
  cases hcmp : s.acq.cmpIb with
  | true => simp [hgood, hcmp]
  | false =>
    cases points with
    | true => simp [hcmp]
    | false => simp [hgood, hcmp, State.testChan]

/-- With no spare path the test waits for Watch (06 R181). -/
theorem spareStep_defers {s : State} (hbusy : s.spareBusy true = true) (hstate : s.pw.state ≠ .watch) (hnew : 1 ∉ s.dl.deferred) (points : Bool) :
    spareStep true points s = s.deferTest 1 1 := by
  unfold spareStep
  simp only [if_pos, hbusy, Bool.or_true, if_pos hstate, if_neg hnew]

/-- Settles O14: each check and test by what it does when its window, run or swap is complete, and when it is not. -/
theorem acquisitionChecks : Obligations.AcquisitionChecks := by
  have hbranch (t : Nat) (b : Fin 4) (s : State) : exec (.branchVoltageCrossCheck t b) s = s.run t (branchCheck b.val) := rfl
  have hspare (t : Nat) (hv z pts : Bool) (s : State) : exec (.spareSelfTestStep t hv z pts) s = s.run t (spareStep hv (z && pts)) := rfl
  have hoffset (t : Nat) (s : State) : exec (.isOffsetTest t) s = execIsOffsetTest t s := rfl
  refine ⟨?short, ?skipped, ?judged, ?currentShort, ?current, ?closed, ?joins, ?swaps, ?ends, ?deferred, ?runs, ?late⟩
  case short => exact fun t b s hshort => idles_of (hbranch ..) (branchCheck_short (s := s.begin t) hshort)
  case skipped =>
    intro t b s hfull hunusable
    refine does_of (hbranch ..) ?_
    rw [branchCheck_skips (s := s.begin t) hfull hunusable]
    rfl
  case judged =>
    intro t b s hfull husable
    obtain ⟨w, hmismatch, hcount, hskipped, hruns⟩ := branchCheck_judges (s := s.begin t) hfull husable
    refine answers_of (hbranch ..) ?_
    rw [settle_acq, keep_acq, hmismatch, Table.get_put_same]
    exact ⟨hcount, hskipped, hruns⟩
  case currentShort => exact fun t s hshort => idles_of (exec_currentCrossCheck ..) (if_pos hshort)
  case current =>
    intro t s hfull
    have hjudged := currentCheck_judges (s := s.begin t) hfull
    refine answers_of (exec_currentCrossCheck ..) ?_
    intro is beyond
    have hbeyond : (s.begin t).currentBeyond = decide beyond := rfl
    rw [settle_acq, keep_acq, hjudged]
    refine ⟨rfl, rfl, rfl, fun h => ?_, fun h => ?_, rfl⟩
    · exact if_pos (hbeyond.trans (decide_eq_true h))
    · exact if_neg (by rw [hbeyond, decide_eq_false h]; decide)
  case closed => exact fun t b s h => idles_of (exec_shuntOffsetUpdate ..) (offsetUpdate_short (s := s.begin t) h)
  case joins =>
    intro t b s hplus hminus hrun
    have hacq := offsetUpdate_acq (s := s.begin t) hplus hminus hrun
    have hbare := offsetUpdate_bare (s := s.begin t) hplus hminus hrun
    have hapart := settled_apart (fun u : State => { u with acq := {} }) (s := s) hbare t
    refine answers_of (exec_shuntOffsetUpdate ..) ?_
    intro v
    have hv : (s.begin t).joinedOffset b.val = v := rfl
    rw [settle_acq, keep_acq, hacq, hv]
    refine ⟨Table.get_put_same .., fun j hj => ?_, fun hwithin => ?_, fun hbeyond => if_neg hbeyond.not_ge, hapart⟩
    · dsimp only
      split
      · exact Table.get_put_other _ hj _ _
      · rfl
    · exact (congrArg (fun tb : Table Int => tb.get b.val 0) (if_pos hwithin)).trans (Table.get_put_same ..)
  case swaps =>
    intro t z pts s hgood hfree hnone
    refine does_of (hspare ..) ?_
    rw [spareStep_swaps (s := s.begin t) hgood hfree hnone]
    rfl
  case ends =>
    intro t z pts n s hgood hfree hswap hover
    have hacq := spareStep_judges (s := s.begin t) hgood hfree hswap hover (z && pts)
    have hcmp : (s.begin t).acq.cmpIb = s.acq.cmpIb := rfl
    refine answers_of (hspare ..) ?_
    rw [settle_acq, keep_acq, hacq, hcmp]
    refine ⟨rfl, rfl, fun hagrees => ?_, fun hdiffers hpoints => ?_, fun hdiffers hpoints => ?_⟩
    · rw [hagrees]; exact ⟨rfl, rfl⟩
    · rw [hdiffers, hpoints]; exact ⟨rfl, rfl⟩
    · rw [hdiffers, hpoints]; exact ⟨rfl, rfl⟩
  case deferred =>
    intro t z pts s hbusy hstate hnew
    refine does_of (hspare ..) ?_
    rw [spareStep_defers (s := s.begin t) hbusy hstate hnew, deferTest_bare]
    rfl
  case runs =>
    intro t z s hzero hheld
    have hheld : (s.begin t).heldFor (s.begin t).acq.zeroSince (sec 1) = true := by
      have hzero : (s.begin t).acq.zeroSince = some z := hzero
      rw [hzero]
      exact decide_eq_true hheld
    refine does_of (hoffset ..) ?_
    rw [if_pos hheld]
    rfl
  case late =>
    intro t s hzero hday
    have hnot : ¬(s.begin t).heldFor (s.begin t).acq.zeroSince (sec 1) = true := by
      have hzero : (s.begin t).acq.zeroSince = none := hzero
      rw [hzero]
      exact Bool.false_ne_true
    have hday : sec 86400 ≤ (s.begin t).acq.runNs := by
      show sec 86400 ≤ if s.pw.state = .run then s.acq.runNs + (t - s.now) else s.acq.runNs
      split
      · exact hday.trans (Nat.le_add_right ..)
      · exact hday
    refine does_of (hoffset ..) ?_
    rw [if_neg hnot, if_pos hday, deferTest_bare]
    rfl

end Sys2Proof.Machine

/-! Field recalibration and the safety-change authorisation (05 R148, R149; 13 R351; 17 R435, R436). -/

namespace Sys2Proof.Machine

open Sys2Proof

/-! ### Commands that are taken (17 R435) -/

/-- What a command that is taken answers: its meaning's result, with its response sent and kept, settled. -/
theorem answers_taken {c : Instr} {s v : State} {t code status reason : Nat} {m : Maint} {r : List Nat} {body : State → State × Nat × Nat × List Nat}
    {P : State → Prop} (he : exec c s = s.run t fun s => s.maint m code body) (htakes : s.takes m)
    (hbody : body ((s.begin t).commandTaken m) = (v, status, reason, r)) (h : P (s.settle (s.keep t (v.cmdAnswer m code status reason r)))) : Answers c s P := by
  have htaken := maint_taken (s := s.begin t) htakes code body
  refine answers_of he ?_
  rwa [htaken, hbody]

@[simp] theorem cmdAnswer_acq (s : State) (m : Maint) (code status reason : Nat) (r : List Nat) : (s.cmdAnswer m code status reason r).acq = s.acq := rfl
@[simp] theorem cmdAnswer_sf (s : State) (m : Maint) (code status reason : Nat) (r : List Nat) : (s.cmdAnswer m code status reason r).sf = s.sf := rfl

/-- A command answered STARTED is in flight until its final response (17 R435). -/
theorem cmdAnswer_inFlight (s : State) (m : Maint) (code reason : Nat) (r : List Nat) :
    ((s.cmdAnswer m code stStarted reason r).tele m.key).inFlight = some (code, m.seq) := by
  unfold State.cmdAnswer State.tele State.onTele
  dsimp only
  rw [State.onNet_nt, Table.get_upd_same, if_pos rfl]

/-- A final response touches the network alone (17 R435). -/
theorem cmdFinal_keeps {β : Type} (g : State → β) (hanswer : ∀ s m code status reason r, g (s.cmdAnswer m code status reason r) = g s) (s : State)
    (code status reason : Nat) (r : List Nat) : g (s.cmdFinal code status reason r) = g s := by
  refine foldl_keeps g (fun u k => ?_) _ s
  split
  · split
    · exact hanswer ..
    · rfl
  · rfl

@[simp] theorem cmdFinal_acq (s : State) (code status reason : Nat) (r : List Nat) : (s.cmdFinal code status reason r).acq = s.acq :=
  cmdFinal_keeps State.acq (fun _ _ _ _ _ _ => rfl) ..

theorem cmdFinal_offNet (s : State) (code status reason : Nat) (r : List Nat) : (s.cmdFinal code status reason r).bare.offNet = s.bare.offNet :=
  cmdFinal_keeps (fun u => u.bare.offNet) cmdAnswer_offNet ..

/-! ### The state without the acquisition and the network -/

/-- The state without the acquisition and the network: what a recalibration in hand leaves alone. -/
def State.offCal (s : State) : State := { s with acq := {}, nt := {} }

theorem offCal_of_offNet {a b : State} (h : a.bare.offNet = b.bare.offNet) : a.bare.offCal = b.bare.offCal :=
  (congrArg (fun u : State => ({ u with acq := {} } : State)) h :)

theorem cmdAnswer_offCal (s : State) (m : Maint) (code status reason : Nat) (r : List Nat) :
    (s.cmdAnswer m code status reason r).bare.offCal = s.bare.offCal := offCal_of_offNet (cmdAnswer_offNet ..)

theorem begun_offCal (s : State) (t : Nat) (m : Maint) : ((s.begin t).commandTaken m).bare.offCal = s.bare.offCal := offCal_of_offNet (begun_offNet ..)

theorem onAcq_offCal (s : State) (f : Acq → Acq) : (s.onAcq f).bare.offCal = s.bare.offCal := rfl

theorem settled_offCal {s u : State} (h : u.bare.offCal = s.bare.offCal) (t : Nat) : (s.settle (s.keep t u)).bare.offCal = s.bare.offCal :=
  settled_apart State.offCal h t

/-! ### A recalibration begins (05 R148, R149) -/

/-- The meaning of CALIBRATION_BEGIN. -/
def calBegin (m : Maint) (mask : Nat) (s : State) : State × Nat × Nat × List Nat :=
  if !s.calAllowed m then busyFree s
  else if 16384 ≤ mask then (s, stInvalid, 0, [])
  else
    let s1 := s.onAcq fun a => { a with calMask := some mask, calPoints := (bitsIn 13 mask).flatMap pointsOf, calCapture := none, calMeans := {} }
    done (s1.publish 0x01005000 s1.pointsRecord)

theorem exec_calibrationBegin (t : Nat) (m : Maint) (mask : Nat) (s : State) :
    exec (.calibrationBegin t m mask) s = s.run t fun s => s.maint m 0x0101 (calBegin m mask) := rfl

theorem calAllowed_taken (s : State) (t : Nat) (m : Maint) : ((s.begin t).commandTaken m).calAllowed m = s.calAllowed m := rfl

/-- Outside the conditions of a recalibration the answer is BUSY, with a reason code that is free (05 R148). -/
theorem calBegin_busy {m : Maint} {s : State} (hoff : s.calAllowed m = false) (mask : Nat) : calBegin m mask s = busyFree s :=
  if_pos (by rw [hoff]; rfl)

/-- Inside them it begins with the points of its channel mask, none of them captured (05 R149). -/
theorem calBegin_begins {m : Maint} {mask : Nat} {s : State} (hallowed : s.calAllowed m = true) (hmask : mask < 16384) : ∃ o b, calBegin m mask s =
    done ((s.onAcq fun a => { a with calMask := some mask, calPoints := (bitsIn 13 mask).flatMap pointsOf, calCapture := none, calMeans := {} }).publish o b) := by
  unfold calBegin
  rw [if_neg (by rw [hallowed]; decide), if_neg hmask.not_ge]
  exact ⟨_, _, rfl⟩

/-! ### A point is captured (05 R149; 17 R436) -/

/-- The meaning of CAPTURE_POINT. -/
def capturePoint (m : Maint) (point : Nat) (s : State) : State × Nat × Nat × List Nat :=
  if !s.calAllowed m then busyFree s
  else if s.acq.calMask.isNone then refuse 13 s
  else if s.acq.calPoints.length ≤ point then (s, stInvalid, 0, [])
  else (s.onAcq fun a => { a with calCapture := some point, calSweeps := [] }, stStarted, 0, [])

theorem exec_capturePoint (t : Nat) (m : Maint) (point : Nat) (s : State) :
    exec (.capturePoint t m point) s = s.run t fun s => s.maint m 0x0102 (capturePoint m point) := rfl

theorem capturePoint_starts {m : Maint} {point mask : Nat} {s : State} (hallowed : s.calAllowed m = true) (hmask : s.acq.calMask = some mask)
    (hpoint : point < s.acq.calPoints.length) :
    capturePoint m point s = (s.onAcq fun a => { a with calCapture := some point, calSweeps := [] }, stStarted, 0, []) := by
  unfold capturePoint
  rw [if_neg (by rw [hallowed]; decide), if_neg (by rw [hmask]; exact Bool.false_ne_true), if_neg hpoint.not_ge]

/-- The mean of the sweeps captured, as the point keeps it. -/
def State.capturedMean (s : State) : Int := clampS 32 (roundOpen 6 (avgR s.acq.calSweeps))

/-- Their noise: the standard deviation of the sweep averages (05 R149). -/
def State.capturedNoise (s : State) : Nat :=
  (clampU 32 (roundOpen 6 (Config.sqrt (avgR (s.acq.calSweeps.map fun x => (x - avgR s.acq.calSweeps) * (x - avgR s.acq.calSweeps)))))).toNat

/-- The meaning of CAPTURE_POINT_COMPLETE. -/
def captureEnd (point entry : Nat) (s : State) : State :=
  match s.acq.calCapture with
  | none => s
  | some p =>
    let e := (s.acq.calPoints.getD p (0, 0)).1
    if s.acq.calSweeps.length < 2000 ∨ p ≠ point ∨ e ≠ entry then s
    else
      let s1 := s.onAcq fun a => { a with calCapture := none, calSweeps := [] }
      if 3 * noiseOf e < s.capturedNoise then s1.cmdFinal 0x0102 stRefused 13 []
      else (s1.onAcq fun a => { a with calMeans := a.calMeans.put p notCaptured (s.capturedMean, s.capturedNoise) }).cmdFinal 0x0102 stDone 0
        (enc [(4, s.capturedMean), fN 4 s.capturedNoise])

theorem exec_capturePointComplete (t point entry : Nat) (s : State) : exec (.capturePointComplete t point entry) s = s.run t (captureEnd point entry) := rfl

/-- A capture runs on until its 2 000 sweeps, and ends by its own point and channel alone. -/
theorem captureEnd_runs {p q e : Nat} {s : State} (hcapture : s.acq.calCapture = some q)
    (hruns : s.acq.calSweeps.length < 2000 ∨ q ≠ p ∨ (s.acq.calPoints.getD q (0, 0)).1 ≠ e) : captureEnd p e s = s := by
  unfold captureEnd
  rw [hcapture]
  exact if_pos hruns

section Captured

variable {p : Nat} {s : State} (hcapture : s.acq.calCapture = some p) (hfull : 2000 ≤ s.acq.calSweeps.length)
include hcapture hfull

theorem captureEnd_ends : captureEnd p (s.acq.calPoints.getD p (0, 0)).1 s =
    if 3 * noiseOf (s.acq.calPoints.getD p (0, 0)).1 < s.capturedNoise then
      (s.onAcq fun a => { a with calCapture := none, calSweeps := [] }).cmdFinal 0x0102 stRefused 13 []
    else (s.onAcq fun a => { a with calCapture := none, calSweeps := [], calMeans := a.calMeans.put p notCaptured (s.capturedMean, s.capturedNoise) }).cmdFinal
      0x0102 stDone 0 (enc [(4, s.capturedMean), fN 4 s.capturedNoise]) := by
  have hends : ¬(s.acq.calSweeps.length < 2000 ∨ p ≠ p ∨ (s.acq.calPoints.getD p (0, 0)).1 ≠ (s.acq.calPoints.getD p (0, 0)).1) := by
    simp [hfull.not_gt]
  unfold captureEnd
  rw [hcapture]
  exact if_neg hends

/-- The capture ends, and its mean is kept where the noise is within three times that of the channel (05 R149). -/
theorem captureEnd_acq : (captureEnd p (s.acq.calPoints.getD p (0, 0)).1 s).acq = { s.acq with
    calCapture := none
    calSweeps := []
    calMeans := if 3 * noiseOf (s.acq.calPoints.getD p (0, 0)).1 < s.capturedNoise then s.acq.calMeans
      else s.acq.calMeans.put p notCaptured (s.capturedMean, s.capturedNoise) } := by
  rw [captureEnd_ends hcapture hfull]
  split <;> rw [cmdFinal_acq] <;> rfl

theorem captureEnd_offCal : (captureEnd p (s.acq.calPoints.getD p (0, 0)).1 s).bare.offCal = s.bare.offCal := by
  rw [captureEnd_ends hcapture hfull]
  split <;> rw [offCal_of_offNet (cmdFinal_offNet ..), onAcq_offCal]

end Captured

/-! ### The authorisation (13 R351, R352) -/

/-- An entry of the log writes the log alone (13 R352). -/
theorem logSafety_bare (s : State) (op result port counter before after : Nat) : ∃ log seq,
    (s.logSafety op result port counter before after).bare = (s.onSafety fun f => { f with log := log, logSeq := seq }).bare := by
  unfold State.logSafety
  extract_lets e s1 s2
  rw [record_bare, publish_bare, writeItem_bare]
  exact ⟨_, _, rfl⟩

theorem logSafety_sf (s : State) (op result port counter before after : Nat) : (s.logSafety op result port counter before after).sf.counter = s.sf.counter ∧
    (s.logSafety op result port counter before after).sf.rejects = s.sf.rejects := by
  unfold State.logSafety
  extract_lets e s1 s2
  rw [record_sf, publish_sf, writeItem_sf]
  exact ⟨rfl, rfl⟩

@[simp] theorem logSafety_acq (s : State) (op result port counter before after : Nat) : (s.logSafety op result port counter before after).acq = s.acq := by
  unfold State.logSafety
  extract_lets e s1 s2
  rw [record_acq, publish_acq, writeItem_acq]
  rfl

/-- A correct authorisation under the next counter is accepted, and the counter advances (13 R351). -/
theorem authorise_accepts {a : AuthIn} {s : State} (hfree : s.authLocked = false) (hcounter : a.counter = wrapInc s.sf.counter) (hok : a.ok = true)
    (op after : Nat) : s.authorise op a after =
      ((s.onSafety fun f => { f with counter := wrapInc f.counter }).logSafety op 0 a.port a.counter s.safetyHash after, 0) := by
  have hcounter : ¬(a.counter ≠ wrapInc s.sf.counter) := not_not.2 hcounter
  unfold State.authorise
  simp only [hfree, hcounter, hok, if_true, if_false, Bool.false_eq_true]

/-- A wrong one is rejected at its instant, and the counter stands (13 R351). -/
theorem authorise_rejects {a : AuthIn} {s : State} (hfree : s.authLocked = false) (hcounter : a.counter = wrapInc s.sf.counter) (hok : a.ok = false)
    (op after : Nat) : ∃ v : State, s.authorise op a after = (v, 1) ∧ v.acq = s.acq ∧ v.sf.counter = s.sf.counter ∧ v.sf.rejects.head? = some s.now := by
  have hcounter : ¬(a.counter ≠ wrapInc s.sf.counter) := not_not.2 hcounter
  unfold State.authorise
  simp only [hfree, hcounter, hok, if_false, Bool.false_eq_true, one_ne_zero]
  refine ⟨_, rfl, logSafety_acq .., ?_, ?_⟩
  · rw [(logSafety_sf ..).1]; rfl
  · rw [(logSafety_sf ..).2]; rfl

/-! ### The commit (05 R148, R149; 17 R436) -/

/-- The state with a new set in the place of the one before, and no recalibration in hand. -/
def State.calReplaced (s : State) (c : CalSet) : State :=
  { s with
    acq := { s.acq with cal := c, calMask := none, calPoints := [], calMeans := {}, calCapture := none, calSweeps := [] }
    freeIdx := s.freeIdx + 8 }

/-- The commit of a set is recorded, and the set published. -/
def State.calPublished (s : State) (mask : Nat) : State :=
  let s1 := s.record .calCommitted 0 (octetsOf 2 mask ++ octetsOf 6 s.acq.cal.date ++ s.acq.cal.reference)
  s1.publish 0x01004000 s1.calRecord

theorem calPublished_quiet (s : State) (mask : Nat) : (s.calPublished mask).quiet = s.quiet := by
  rw [State.calPublished, publish_quiet, record_quiet]

/-- The meaning of CALIBRATION_COMMIT. -/
def calCommit (m : Maint) (ref : List Nat) (a : AuthIn) (s : State) : State × Nat × Nat × List Nat :=
  if !s.calAllowed m then busyFree (s.logSafety 2 4 a.port a.counter s.safetyHash s.safetyHash)
  else match s.acq.calMask with
    | none => refuse 13 (s.logSafety 2 4 a.port a.counter s.safetyHash s.safetyHash)
    | some mask =>
      if !s.calWithin mask then refuse 13 (s.logSafety 2 4 a.port a.counter s.safetyHash s.safetyHash)
      else
        let r := s.authorise 2 a s.safetyHash
        if r.2 ≠ 0 then refuse 13 r.1 else done ((r.1.calReplaced (s.newCal mask ref)).calPublished mask)

theorem exec_calibrationCommit (t : Nat) (m : Maint) (ref : List Nat) (a : AuthIn) (s : State) :
    exec (.calibrationCommit t m ref a) s = s.run t fun s => s.maint m 0x0103 (calCommit m ref a) := rfl

/-- The limits of a commit speak of gains and offsets alone, and not of the time or the network. -/
theorem calWithin_taken (s : State) (t : Nat) (m : Maint) (mask : Nat) : ((s.begin t).commandTaken m).calWithin mask = s.calWithin mask := rfl

section Commit

variable {m : Maint} {mask : Nat} {a : AuthIn} {s : State} (hallowed : s.calAllowed m = true) (hmask : s.acq.calMask = some mask)
  (hwithin : s.calWithin mask = true) (hfree : s.authLocked = false) (hcounter : a.counter = wrapInc s.sf.counter)
include hallowed hmask hwithin

theorem calCommit_authorises (ref : List Nat) : calCommit m ref a s =
    if (s.authorise 2 a s.safetyHash).2 ≠ 0 then refuse 13 (s.authorise 2 a s.safetyHash).1
    else done (((s.authorise 2 a s.safetyHash).1.calReplaced (s.newCal mask ref)).calPublished mask) := by
  unfold calCommit
  rw [if_neg (by rw [hallowed]; decide), hmask]
  exact if_neg (by rw [hwithin]; decide)

include hfree hcounter

/-- An authorised commit puts the new set in the place of the set before it, and ends the recalibration. The set applied stands (05 R149). -/
theorem calCommit_replaces (hok : a.ok = true) (ref : List Nat) : ∃ v : State, calCommit m ref a s = (v, stDone, 0, []) ∧
    v.acq = (s.calReplaced (s.newCal mask ref)).acq ∧ v.sf.counter = wrapInc s.sf.counter ∧
    ({ v.bare with acq := {}, nt := {}, sf := {}, freeIdx := 0 } : State) = { s.bare with acq := {}, nt := {}, sf := {}, freeIdx := 0 } := by
  have haccepts := authorise_accepts hfree hcounter hok 2 s.safetyHash
  obtain ⟨log, seq, hlog⟩ := logSafety_bare (s.onSafety fun f => { f with counter := wrapInc f.counter }) 2 0 a.port a.counter s.safetyHash s.safetyHash
  have hacq := logSafety_acq (s.onSafety fun f => { f with counter := wrapInc f.counter }) 2 0 a.port a.counter s.safetyHash s.safetyHash
  obtain ⟨hcount, -⟩ := logSafety_sf (s.onSafety fun f => { f with counter := wrapInc f.counter }) 2 0 a.port a.counter s.safetyHash s.safetyHash
  rw [calCommit_authorises hallowed hmask hwithin, haccepts, if_neg (not_not.2 rfl)]
  generalize State.logSafety _ _ _ _ _ _ _ = u at *
  have hquiet := calPublished_quiet (u.calReplaced (s.newCal mask ref)) mask
  refine ⟨_, rfl, ?_, ?_, ?_⟩
  · have hkept : ((u.calReplaced (s.newCal mask ref)).calPublished mask).acq = (u.calReplaced (s.newCal mask ref)).acq := (congrArg State.acq hquiet :)
    rw [hkept, State.calReplaced, hacq]
    rfl
  · have hkept : ((u.calReplaced (s.newCal mask ref)).calPublished mask).sf = u.sf := (congrArg State.sf hquiet :)
    rw [hkept, hcount]
    rfl
  · rw [bare_of_quiet hquiet]
    exact (congrArg (fun u : State => ({ u with acq := {}, nt := {}, sf := {}, freeIdx := 0 } : State)) hlog :)

/-- A commit that is not authorised changes no calibration (13 R351). -/
theorem calCommit_refuses (hok : a.ok = false) (ref : List Nat) : ∃ v : State, calCommit m ref a s = (v, stRefused, 13, []) ∧ v.acq = s.acq ∧
    v.sf.counter = s.sf.counter ∧ v.sf.rejects.head? = some s.now := by
  obtain ⟨v, hrejects, hacq, hcount, hhead⟩ := authorise_rejects hfree hcounter hok 2 s.safetyHash
  refine ⟨v, ?_, hacq, hcount, hhead⟩
  rw [calCommit_authorises hallowed hmask hwithin, hrejects]
  rfl

end Commit

theorem settled_sf_counter (s u : State) (t : Nat) : (s.settle (s.keep t u)).sf.counter = u.sf.counter := settled_part (fun v : State => v.sf.counter) s u t

theorem settled_sf_rejects (s u : State) (t : Nat) : (s.settle (s.keep t u)).sf.rejects = u.sf.rejects := settled_part (fun v : State => v.sf.rejects) s u t

/-- Settles O15: what each command answers by its conditions, and what the end of a capture and of a lockout leave. -/
theorem recalibration : Obligations.Recalibration := by
  refine ⟨?busy, ?begins, ?starts, ?captured, ?runs, ?commits, ?refused, ?lockout⟩
  case busy =>
    intro t m mask s htakes hoff
    refine answers_taken (exec_calibrationBegin ..) htakes (calBegin_busy ((calAllowed_taken ..).trans hoff) mask) ?_
    rw [settle_acq, keep_acq, cmdAnswer_acq, settle_tele, cmdAnswer_stored]
    exact ⟨rfl, _, Nat.mod_lt _ (by decide), rfl⟩
  case begins =>
    intro t m mask s htakes hallowed hmask
    obtain ⟨o, b, hbegins⟩ := calBegin_begins ((calAllowed_taken s t m).trans hallowed) hmask
    refine answers_taken (exec_calibrationBegin ..) htakes hbegins ?_
    rw [settle_acq, keep_acq, cmdAnswer_acq, publish_acq, settle_tele, cmdAnswer_stored]
    refine ⟨rfl, rfl, rfl, rfl, rfl, settled_offCal ?_ t⟩
    rw [cmdAnswer_offCal, publish_bare, onAcq_offCal, begun_offCal]
  case starts =>
    intro t m p mask s htakes hallowed hmask hpoint
    have hstarts := capturePoint_starts (s := (s.begin t).commandTaken m) ((calAllowed_taken s t m).trans hallowed) hmask hpoint
    refine answers_taken (exec_capturePoint ..) htakes hstarts ?_
    rw [settle_acq, keep_acq, cmdAnswer_acq, settle_tele, cmdAnswer_inFlight]
    refine ⟨rfl, rfl, settled_offCal ?_ t⟩
    rw [cmdAnswer_offCal, onAcq_offCal, begun_offCal]
  case captured =>
    intro t p s hcapture hfull
    have hacq := captureEnd_acq (s := s.begin t) hcapture hfull
    have hapart := settled_offCal (s := s) (captureEnd_offCal (s := s.begin t) hcapture hfull) t
    refine answers_of (exec_capturePointComplete ..) ?_
    intro m noise
    have hnoise : (s.begin t).capturedNoise = noise := rfl
    have hsettled : (s.settle (s.keep t (captureEnd p (s.acq.calPoints.getD p (0, 0)).1 (s.begin t)))).acq = _ := (settle_acq ..).trans hacq
    rw [hsettled, hnoise]
    refine ⟨rfl, rfl, fun hquiet => ?_, fun hnoisy => if_pos hnoisy, hapart⟩
    exact (congrArg (fun tb : Table (Int × Nat) => tb.get p notCaptured) (if_neg hquiet.not_gt)).trans (Table.get_put_same ..)
  case runs => exact fun t p e q s hcapture hruns => idles_of (exec_capturePointComplete ..) (captureEnd_runs (s := s.begin t) hcapture hruns)
  case commits =>
    intro t m ref a mask s htakes hallowed hmask hwithin hfree hcounter hok
    obtain ⟨v, hcommit, hacq, hcount, hapart⟩ := calCommit_replaces (s := (s.begin t).commandTaken m) ((calAllowed_taken s t m).trans hallowed) hmask
      ((calWithin_taken s t m mask).trans hwithin) hfree hcounter hok ref
    refine answers_taken (exec_calibrationCommit ..) htakes hcommit ?_
    rw [settle_acq, keep_acq, cmdAnswer_acq, hacq, settled_sf_counter, cmdAnswer_sf, hcount, settle_tele, cmdAnswer_stored]
    refine ⟨rfl, rfl, rfl, rfl, rfl, rfl, rfl, rfl, rfl, ?_⟩
    refine settled_apart (fun u : State => { u with acq := {}, nt := {}, sf := {}, freeIdx := 0 }) ?_ t
    have hanswer := cmdAnswer_offNet v m 0x0103 stDone 0 []
    exact (congrArg (fun u : State => ({ u with acq := {}, sf := {}, freeIdx := 0 } : State)) hanswer).trans hapart
  case refused =>
    intro t m ref a mask s htakes hallowed hmask hwithin hfree hcounter hok
    obtain ⟨v, hcommit, hacq, hcount, hhead⟩ := calCommit_refuses (s := (s.begin t).commandTaken m) ((calAllowed_taken s t m).trans hallowed) hmask
      ((calWithin_taken s t m mask).trans hwithin) hfree hcounter hok ref
    refine answers_taken (exec_calibrationCommit ..) htakes hcommit ?_
    rw [settle_acq, keep_acq, cmdAnswer_acq, hacq, settled_sf_counter, settled_sf_rejects, cmdAnswer_sf, hcount, hhead, settle_tele, cmdAnswer_stored]
    exact ⟨rfl, rfl, rfl, rfl⟩
  case lockout =>
    intro t d s hlocked hends
    have he : exec (.authorisationLockoutExpiry t) s = execAuthorisationLockoutExpiry t s := rfl
    have hdue : (s.begin t).due (s.begin t).sf.lockUntil = true := by
      have hlocked : (s.begin t).sf.lockUntil = some d := hlocked
      rw [hlocked]
      exact decide_eq_true hends
    refine does_of he ?_
    rw [if_pos hdue]
    rfl

end Sys2Proof.Machine

/-! What a start, a flush and Off leave of the power state (19 R461, R463, R475, R482, R483; 20 R499; 21 R516). -/

namespace Sys2Proof.Machine

open Sys2Proof

theorem pw_of_quiet {a b : State} (h : a.quiet = b.quiet) : a.pw = b.pw := (congrArg State.pw h :)
theorem pw_of_undecided {a b : State} (h : a.undecided = b.undecided) : a.pw = b.pw := (congrArg State.pw h :)

/-! ### The learned state is read (07 R213 to R216) -/

theorem recorderStart_quiet (s : State) : s.recorderStart.quiet = s.quiet := by
  unfold State.recorderStart
  extract_lets r afterHeld res start gap s1 s2 s3
  have hs3 : s3.quiet = s.quiet := (record_quiet ..).trans ((writeReservation_quiet ..).trans (onRosemary_quiet ..))
  split
  · rw [record_quiet, hs3]
  · exact hs3

theorem recordLosses_quiet (s : State) : s.recordLosses.quiet = s.quiet := by
  refine foldl_keeps State.quiet (fun u k => ?_) _ s
  split <;> simp

theorem loadLatches_pw (s : State) : s.loadLatches.pw = s.pw := by
  unfold State.loadLatches
  split
  · rfl
  · dsimp only
    split
    · rfl
    · rw [State.writeLatches, writeItem_pw]; rfl

theorem loadPrecharge_pw (s : State) : s.loadPrecharge.pw = s.pw := by
  unfold State.loadPrecharge
  split
  · rfl
  · dsimp only
    split <;> rfl

theorem loadValves_pw (s : State) : s.loadValves.pw = s.pw := by
  have henergise (u : State) (v : Nat) : (u.energise v).pw = u.pw := by
    unfold State.energise; split <;> rfl
  refine foldl_keeps State.pw (fun u v => ?_) _ s
  dsimp only
  split <;> rw [henergise] <;> rfl

theorem onCell_pw (s : State) (c : Nat) (f : CellEst → CellEst) : (s.onCell c f).pw = s.pw := rfl
theorem onTap_pw (s : State) (n j : Nat) (f : Tap → Tap) : (s.onTap n j f).pw = s.pw := rfl
theorem loadCell_pw (s : State) (c : Nat) (e : List Nat) : (s.loadCell c e).pw = s.pw := rfl
theorem onNode_pw (s : State) (n : Nat) (f : NodeCtl → NodeCtl) : (s.onNode n f).pw = s.pw := rfl

theorem defaultNode_pw (s : State) (n : Nat) : (s.defaultNode n).pw = s.pw := by
  have hcells := foldl_keeps State.pw (f := fun s c => s.onCell c fun _ => s.defaultCell) (fun u c => onCell_pw ..) (s.cfg.cellsOfNode n) s
  unfold State.defaultNode
  dsimp only
  rw [State.onSage_pw]
  exact (foldl_keeps State.pw (fun u j => onTap_pw ..) _ _).trans hcells

theorem loadNode_pw (s : State) (n : Nat) : (s.loadNode n).pw = s.pw := by
  have htaps (u : State) (p : List Nat) : (u.loadTaps n p).pw = u.pw := by
    refine foldl_keeps State.pw (fun v j => ?_) _ u
    rfl
  have hcoefs (u : State) (p : List Nat) : (u.loadCoefs n p).pw = u.pw := by
    refine foldl_keeps State.pw (fun v k => ?_) _ u
    rfl
  have hbases (u : State) (p : List Nat) : (u.loadBases n p).pw = u.pw := by
    refine foldl_keeps State.pw (fun v j => ?_) _ u
    rfl
  unfold State.loadNode
  dsimp only
  rw [foldl_keeps State.pw hbases, foldl_keeps State.pw hcoefs, foldl_keeps State.pw htaps]
  rw [foldl_keeps State.pw fun u p => foldl_keeps State.pw (fun v c => loadCell_pw v c _) _ u]
  rw [onNode_pw, defaultNode_pw]

theorem loadSnapshot_pw (s : State) (leak : State → Nat → Rat) (known forced : Bool) : (s.loadSnapshot leak known forced).pw = s.pw := by
  unfold State.loadSnapshot
  split
  · rfl
  · split
    · rfl
    · refine foldl_keeps State.pw (fun u k => ?_) _ s
      split <;> rfl

/-- Reading the learned state marks it read, and changes the power state no further. -/
theorem loadLearned_pw (s : State) (known forced : Bool) : (s.loadLearned known forced).pw = { s.pw with itemsRead := true } := by
  unfold State.loadLearned
  dsimp only
  rw [State.onPower_pw, loadSnapshot_pw, foldl_keeps State.pw loadNode_pw, loadValves_pw, loadPrecharge_pw, loadLatches_pw, State.loadEpochs,
    State.onMaster_pw, State.onTwin_pw, pw_of_quiet (recordLosses_quiet s)]

/-! ### The rows of a start (19 R463) -/

/-- The power state but for what the rows of a start write of it: the firmware that runs, the island, the ports, the items and the plug. -/
def State.startMark (s : State) : Power :=
  { s.pw with recovery := false, islandUp := false, portsUp := false, itemsRead := false, plugPresent := false }

theorem startMark_of_pw {a b : State} (h : a.pw = b.pw) : a.startMark = b.startMark := by
  rw [State.startMark, h, State.startMark]

@[simp] theorem record_startMark (s : State) (e : Ev) (n : Nat) (d : List Nat) : (s.record e n d).startMark = s.startMark := startMark_of_pw (record_pw ..)
@[simp] theorem onUpdate_startMark (s : State) (f : Update → Update) : (s.onUpdate f).startMark = s.startMark := rfl
@[simp] theorem bootFrom_startMark (s : State) (k : Nat) : (s.bootFrom k).startMark = s.startMark := rfl
@[simp] theorem writeBoot_startMark (s : State) (f : BootRec → BootRec) : (s.writeBoot f).startMark = s.startMark := rfl
@[simp] theorem toRecovery_startMark (s : State) : s.toRecovery.startMark = s.startMark := rfl
@[simp] theorem useImage_startMark (s : State) (g : Image) : (s.useImage g).startMark = s.startMark := rfl
@[simp] theorem onPlug_startMark (s : State) (f : Plug → Plug) : (s.onPlug f).startMark = s.startMark := rfl
@[simp] theorem writeDir_startMark (s : State) (f : DirEntry → DirEntry) : (s.writeDir f).startMark = s.startMark := rfl

@[simp] theorem bootCommitted_startMark (s : State) (i : StartIn) : (s.bootCommitted i).startMark = s.startMark := by
  unfold State.bootCommitted
  dsimp only
  split
  · rfl
  · split
    · rw [record_startMark, bootFrom_startMark]
    · rfl

@[simp] theorem rollBack_startMark (s : State) (i : StartIn) : (s.rollBack i).startMark = s.startMark := by
  unfold State.rollBack
  dsimp only
  rw [record_startMark, bootCommitted_startMark, onUpdate_startMark, writeBoot_startMark]

@[simp] theorem bootSelect_startMark (s : State) (i : StartIn) : (s.bootSelect i).startMark = s.startMark := by
  unfold State.bootSelect
  dsimp only
  split
  · rfl
  · split
    · simp
    · split
      · simp
      · split
        · split <;> simp
        · simp

@[simp] theorem readCal_startMark (s : State) (i : StartIn) : (s.readCal i).startMark = s.startMark := by
  unfold State.readCal
  extract_lets s1
  have hs1 : s1.pw = s.pw := by
    show (if _ then _ else _ : State).pw = _
    split
    · rfl
    · rw [record_pw]; rfl
  exact startMark_of_pw ((publish_pw ..).trans hs1)

@[simp] theorem recordRejected_startMark (s : State) (g : Image) (stage : Nat) : (s.recordRejected g stage).startMark = s.startMark := by
  have htag : (s.rejectTag g stage).2.pw = s.pw := by
    unfold State.rejectTag
    split
    · split
      · rfl
      · split <;> rfl
    · rfl
  exact (record_startMark ..).trans (startMark_of_pw htag)

@[simp] theorem rejectPlug_startMark (s : State) (stage : Nat) (g : Image) : (s.rejectPlug stage g).startMark = s.startMark := by
  have hset (u : State) (f : Plug → Plug) : ({ u.onPlug f with cfg := {} } : State).startMark = u.startMark := rfl
  exact (hset ..).trans (recordRejected_startMark s g stage)

@[simp] theorem readPlug_startMark (s : State) (i : StartIn) : (s.readPlug i).startMark = s.startMark := by
  unfold State.readPlug
  extract_lets s0 s1
  have hs1 : s1.startMark = s.startMark := by
    have hs0 : s0.pw = s.pw := by
      show (match i.fitted with | some f => _ | none => _ : State).pw = _
      split <;> rfl
    have hplug : s1.startMark = s0.startMark := rfl
    rw [hplug, startMark_of_pw hs0]
  rw [← hs1]
  split
  · simp
  · split
    · simp
    · split
      · simp
      · split
        · simp
        · extract_lets g st o s2
          split
          · simp
          · split
            · have hs2 : s2.startMark = s1.startMark := (writeDir_startMark ..).trans (recordRejected_startMark ..)
              simp [hs2]
            · simp

/-- The rows of a start leave it starting, or end it in Unconfigured (19 R463, R464). -/
theorem startRows_startMark (s : State) (level : Nat) (forced : Bool) (i : StartIn) :
    (s.startRows level forced i).startMark = s.startMark ∨ (s.startRows level forced i).startMark = { s.startMark with state := .unconfigured } := by
  unfold State.startRows
  extract_lets s1 s2 s3 s4
  have hs1 : s1.startMark = s.startMark := by
    show (if _ then _ else _ : State).startMark = _
    split
    · rfl
    · rw [readPlug_startMark, readCal_startMark]
  split
  · refine .inr ?_
    have hrecord := record_startMark { s1 with cfg := {} } .plugOutcome s1.pg.outcome []
    exact congrArg (fun p : Power => { p with state := .unconfigured }) (hrecord.trans hs1)
  · refine .inl ?_
    have hblocks (u : State) : u.startRole.startBlocks.toAcquiring.startMark = u.startMark := rfl
    have hports (u : State) : (u.onPower fun p => { p with portsUp := true }).startMark = u.startMark := rfl
    have hlearned (u : State) (known : Bool) : (u.loadLearned known forced).startMark = u.startMark := by
      unfold State.startMark
      rw [loadLearned_pw]
    rw [onUpdate_startMark, hports, hlearned, hblocks, hs1]

/-! ### A restart that is no fault reset (19 R463, R475, R477) -/

theorem suppressionList_quiet (l : List (Ev × Nat)) (s : State) : (suppressionList l s).quiet = s.quiet := by
  induction l generalizing s with
  | nil => rfl
  | cons e l ih => exact (ih _).trans (openAndReport_quiet ..)

theorem closeList_quiet (l : List EvRecord) (s : State) : (closeList l s).quiet = s.quiet := by
  induction l generalizing s with
  | nil => rfl
  | cons r l ih => exact (ih _).trans (closeAndReport_quiet ..)

@[simp] theorem commitStop_quiet (s : State) : s.commitStop.quiet = s.quiet := by
  unfold State.commitStop
  dsimp only
  rw [writeReservation_quiet, onRosemary_quiet, State.closeAll, closeList_quiet, suppressionList_quiet]

/-- What a restart notes and keeps of the power state: the module starts, or is unconfigured; the level and cause are noted, a flush is over, and the count of
power cycles, P0 and the feeds stand. -/
structure State.StartsBy (s' : State) (p : Power) (level cause : Nat) : Prop where
  state : s'.pw.state = .starting ∨ s'.pw.state = .unconfigured
  level : s'.pw.resetLevel = level
  cause : s'.pw.resetCause = cause
  flushFrom : s'.pw.flushFrom = none
  cycles : s'.pw.powerCycles = p.powerCycles
  p0 : s'.pw.p0 = p.p0
  feed1 : s'.pw.feed1 = p.feed1
  feed2 : s'.pw.feed2 = p.feed2

theorem State.StartsBy.of_startMark {s' u : State} {p : Power} {level cause : Nat} (h : u.StartsBy p level cause)
    (hmark : s'.startMark = u.startMark ∨ s'.startMark = { u.startMark with state := .unconfigured }) : s'.StartsBy p level cause := by
  have hkept {α : Type} (part : Power → α) (hpart : ∀ p x, part { p with state := x } = part p) : part s'.startMark = part u.startMark := by
    obtain hm | hm := hmark
    · rw [hm]
    · rw [hm, hpart]
  constructor
  · obtain hm | hm := hmark
    · have hstate : s'.pw.state = u.pw.state := (congrArg Power.state hm :)
      rw [hstate]
      exact h.state
    · exact .inr (congrArg Power.state hm :)
  · exact (hkept Power.resetLevel fun _ _ => rfl).trans h.level
  · exact (hkept Power.resetCause fun _ _ => rfl).trans h.cause
  · exact (hkept Power.flushFrom fun _ _ => rfl).trans h.flushFrom
  · exact (hkept Power.powerCycles fun _ _ => rfl).trans h.cycles
  · exact (hkept Power.p0 fun _ _ => rfl).trans h.p0
  · exact (hkept Power.feed1 fun _ _ => rfl).trans h.feed1
  · exact (hkept Power.feed2 fun _ _ => rfl).trans h.feed2

/-- A restart whose copies are in order, and whose cause is no fault, notes its level and cause (19 R463, R475). -/
theorem restart_starts {s : State} {level cause : Nat} {i : StartIn} (hcopy : level = 2 → i.copyOk = true) (hcause : faultCause cause = false) :
    (s.restart level cause i).StartsBy s.pw level cause := by
  unfold State.restart
  extract_lets bad l1 c1 revert l2 c2 counted faults s0 s1 s2 s3 s4
  have hbad : bad = false := by
    show (decide (level = 2) && !i.copyOk) = false
    by_cases hwarm : level = 2
    · rw [hcopy hwarm, Bool.not_true, Bool.and_false]
    · rw [decide_eq_false hwarm, Bool.false_and]
  have hl1 : l1 = level := if_neg (by rw [hbad]; exact Bool.false_ne_true)
  have hc1 : c1 = cause := if_neg (by rw [hbad]; exact Bool.false_ne_true)
  have hrevert : revert = false := by
    show (_ && faultCause c1 && _) = false
    rw [hc1, hcause, Bool.and_false, Bool.false_and]
  have hcounted : ¬(counted = true ∧ 5 ≤ faults.length) := by
    have hnot : counted = false := by
      show (_ && faultCause c1) = false
      rw [hc1, hcause, Bool.and_false]
    rw [hnot]
    exact fun h => Bool.false_ne_true h.1
  have hs0 : s0.pw = s.pw := by
    show (if _ then _ else _ : State).pw = _
    split
    · rfl
    · split
      · rfl
      · exact pw_of_quiet (commitStop_quiet s)
  have hs1 : s1.StartsBy s.pw level cause := by
    have hl2 : l2 = level := (if_neg (by rw [hrevert]; exact Bool.false_ne_true)).trans hl1
    have hc2 : c2 = cause := (if_neg (by rw [hrevert]; exact Bool.false_ne_true)).trans hc1
    rw [← hs0]
    exact ⟨.inl rfl, hl2, hc2, rfl, rfl, rfl, rfl, rfl⟩
  have hs3 : s3 = s2 := if_neg (by rw [hrevert]; exact Bool.false_ne_true)
  have hs4 : s4.startMark = s1.startMark := by
    show (s3.bootSelect i).startMark = _
    rw [bootSelect_startMark, hs3]
    exact startMark_of_pw (pw_of_quiet (recorderStart_quiet s1))
  split
  · exact hs1.of_startMark (.inl hs4)
  · refine hs1.of_startMark ?_
    rw [← hs4]
    exact startRows_startMark ..

/-- A start after Off counts its power cycle from P0 (19 R461, R463). -/
theorem startAfterOff_starts (s : State) (i : StartIn) :
    (s.startAfterOff i).StartsBy { s.pw with powerCycles := wrapInc s.pw.powerCycles, p0 := some s.now } 0 1 := by
  obtain ⟨hstate, hlevel, hcause, hflush, hcycles, hp0, hfeed1, hfeed2⟩ := restart_starts (level := 0) (cause := 1) (i := i) (s := (s.onPower fun p => { p with
    powerCycles := wrapInc p.powerCycles, p0 := some s.now, recoveryReleases := 0, lastWake := 0, faultResets := [], holdUpReady := false }).onThyme fun h =>
      { h with reading := s.storedTime * 1000000000, phase := 0, labelled := false, source := 0, offsets := [], state := .acquiring })
    (fun h => absurd h (by decide)) (by decide)
  exact ⟨hstate, hlevel, hcause, hflush, hcycles, hp0, hfeed1, hfeed2⟩

/-! ### A flush (19 R482, R483) -/

/-- What a flush does to the string: it hands over where a handover is possible, and prepares the opening of the string otherwise; in Reset-locked it does neither. -/
def State.flushString (s : State) : State :=
  let s1 := s.onPower fun p => { p with state := .flushing, flushFrom := some s.pw.state, flushAt := s.now, runRequestAt := none,
                                        resetWait := none, resetNext := none, resetHold := none }
  if decide (s.pw.state = .resetLocked) then s1
  else if s1.handoverPossible then s1.requestHandover 8
  else s1.endSequences.onPower fun p => { p with resetHold := some (0, 0x0A, s.now), resetSweep := (s.sweepNo + 1) % two32 }

/-- The string as the flush leaves it, with its valve drives stopped. -/
def State.flushStill (s : State) : State :=
  let stop := fun (_ : Nat) (v : Valve) => { v with energy := 0 }
  s.flushString.onTherm fun g => { g with valves := g.valves.mapAll {} stop }

theorem beginFlush_eq (s : State) : s.beginFlush =
    ((if s.pw.itemsRead && !decide (s.pw.state = .resetLocked) then s.flushStill.writeSnapshot.flushBlocks 8 else s.flushStill).record .powerLost 0 []).commitStop := rfl

/-- The state without the radio, and without what a record writes: a flush writes its stores in these alone. -/
def State.unstored (s : State) : State := { s.quiet with ra := {} }

theorem unstored_of_quiet {a b : State} (h : a.quiet = b.quiet) : a.unstored = b.unstored := (congrArg State.unstored h :)

theorem writeSnapshot_unstored (s : State) : s.writeSnapshot.unstored = s.unstored := unstored_of_quiet ((onLearned_quiet ..).trans (writeItem_quiet ..))

theorem writeBlock_unstored (s : State) (n : Nat) : (s.writeBlock n).unstored = s.unstored := by
  have hnode (u : State) (f : NodeCtl → NodeCtl) : (u.onNode n f).unstored = u.unstored := rfl
  exact (hnode ..).trans (unstored_of_quiet (writeItem_quiet ..))

theorem flushBlocks_unstored (s : State) (n : Nat) : (s.flushBlocks n).unstored = s.unstored := by
  unfold State.flushBlocks
  extract_lets ws s1 items left
  have hs1 : s1.unstored = s.unstored := foldl_keeps State.unstored writeBlock_unstored _ s
  split
  · exact hs1
  · exact (unstored_of_quiet (record_quiet ..)).trans hs1

/-- The power state and the contactors are as the flush leaves the string: its stores and valves write neither. -/
theorem beginFlush_keeps (s : State) : s.beginFlush.pw = s.flushString.pw ∧ s.beginFlush.ct = s.flushString.ct := by
  have hstill : s.flushStill.pw = s.flushString.pw ∧ s.flushStill.ct = s.flushString.ct := ⟨rfl, rfl⟩
  have hstop (u : State) : (u.record .powerLost 0 []).commitStop.unstored = u.unstored := unstored_of_quiet ((commitStop_quiet _).trans (record_quiet ..))
  have hflush : s.beginFlush.unstored = s.flushStill.unstored := by
    rw [beginFlush_eq, hstop]
    split
    · rw [flushBlocks_unstored, writeSnapshot_unstored]
    · rfl
  rw [← hstill.1, ← hstill.2]
  generalize s.beginFlush = u at *
  exact ⟨(congrArg State.pw hflush :), (congrArg State.ct hflush :)⟩

/-- The flush is in hand from F0, with the state it began in; the feeds are as they were. -/
theorem flushString_pw (s : State) : s.flushString.pw.state = .flushing ∧ s.flushString.pw.flushFrom = some s.pw.state ∧
    s.flushString.pw.flushAt = s.now ∧ s.flushString.pw.feed1 = s.pw.feed1 ∧ s.flushString.pw.feed2 = s.pw.feed2 := by
  unfold State.flushString
  dsimp only
  split
  · exact ⟨rfl, rfl, rfl, rfl, rfl⟩
  · split <;> exact ⟨rfl, rfl, rfl, rfl, rfl⟩

/-- Without a handover the string is held, and its sequences end (19 R482). -/
theorem flushString_holds {s : State} (hstate : s.pw.state ≠ .resetLocked) (hnone : s.handoverPossible = false) :
    s.flushString.pw.resetHold = some (0, 0x0A, s.now) ∧ s.flushString.ct.due = [] := by
  unfold State.flushString
  dsimp only
  rw [if_neg (by rw [decide_eq_false hstate]; exact Bool.false_ne_true), if_neg (by exact ne_true_of_eq_false hnone)]
  exact ⟨rfl, rfl⟩

/-! ### Both feeds are lost (19 R461, R482) -/

/-- The state without its feeds. -/
def State.unfed (s : State) : State := s.onPower fun p => { p with feed1 := false, feed2 := false }

/-- The feeds that were present are recorded as they go. -/
def State.feedsLost (s : State) : State :=
  [0, 1].foldl (fun s k =>
    let was := if k = 0 then s.pw.feed1 else s.pw.feed2
    let s' := s.setFeed k false
    if was && s.powered then s'.record .feedLost (k + 1) [] else s') s

theorem feedsLost_quiet (s : State) : s.feedsLost.quiet = s.unfed.quiet := by
  have hset (u v : State) (h : u.quiet = v.quiet) (k : Nat) : (u.setFeed k false).quiet = (v.setFeed k false).quiet :=
    (congrArg (fun w : State => w.setFeed k false) h :)
  have hlost (u : State) (k : Nat) (b : Bool) : (if b then (u.setFeed k false).record .feedLost (k + 1) [] else u.setFeed k false).quiet = (u.setFeed k false).quiet := by
    rw [apply_ite State.quiet, record_quiet, ite_self]
  exact (hlost ..).trans (hset _ _ (hlost s 0 _) 1)

/-- A module that is not started has no flush: its feeds alone are lost. -/
theorem bothFeedsLost_idle {s : State} (hstate : s.pw.state = .off ∨ s.pw.state = .flushing ∨ s.pw.state = .hibernate) : bothFeedsLost s = s.feedsLost := by
  unfold bothFeedsLost
  obtain h | h | h := hstate <;> rw [h] <;> rfl

theorem bothFeedsLost_flushes {s : State} (hstate : s.pw.state = .watch ∨ s.pw.state = .run) : bothFeedsLost s = s.feedsLost.beginFlush := by
  unfold bothFeedsLost
  obtain h | h := hstate <;> rw [h] <;> rfl

/-- A running module without feeds is in its flush. -/
theorem bothFeedsLost_pw {s : State} (hstate : s.pw.state = .watch ∨ s.pw.state = .run) : (bothFeedsLost s).pw.state = .flushing ∧
    (bothFeedsLost s).pw.flushFrom = some s.pw.state ∧ (bothFeedsLost s).pw.flushAt = s.now ∧ (bothFeedsLost s).pw.feed1 = false ∧
    (bothFeedsLost s).pw.feed2 = false := by
  have hpw : s.feedsLost.pw = s.unfed.pw := pw_of_quiet (feedsLost_quiet s)
  have hnow : s.feedsLost.now = s.now := (congrArg State.now (feedsLost_quiet s) :)
  have hflush := flushString_pw s.feedsLost
  rw [hpw, hnow] at hflush
  rw [bothFeedsLost_flushes hstate, (beginFlush_keeps _).1]
  exact hflush

theorem bothFeedsLost_holds {s : State} (hstate : s.pw.state = .watch ∨ s.pw.state = .run) (hnone : s.handoverPossible = false) :
    (bothFeedsLost s).pw.resetHold = some (0, 0x0A, s.now) ∧ (bothFeedsLost s).ct.due = [] := by
  have hpw : s.feedsLost.pw = s.unfed.pw := pw_of_quiet (feedsLost_quiet s)
  have hnow : s.feedsLost.now = s.now := (congrArg State.now (feedsLost_quiet s) :)
  have hhandover : s.feedsLost.handoverPossible = s.handoverPossible := (congrArg State.handoverPossible (feedsLost_quiet s) :)
  have hunlocked : s.feedsLost.pw.state ≠ .resetLocked := by
    rw [hpw]
    show s.pw.state ≠ .resetLocked
    obtain h | h := hstate <;> rw [h] <;> decide
  have hholds := flushString_holds hunlocked (hhandover.trans hnone)
  rw [hnow] at hholds
  rw [bothFeedsLost_flushes hstate, (beginFlush_keeps _).1, (beginFlush_keeps _).2]
  exact hholds

/-! ### Off (19 R461) -/

theorem coilsOff_ls (s : State) (ks : List Nat) : (s.coilsOff ks).ls = s.ls := by
  refine foldl_keeps State.ls (fun u k => ?_) ks s
  unfold State.coilOff
  split <;> rfl

theorem toOff_coil (s : State) (k : Nat) : (s.toOff.coil k).phase = .off := clearWorking_phase s.loseStore k

theorem toOff_keeps (s : State) : s.toOff.pw.state = .off ∧ s.toOff.cfg = {} ∧ s.toOff.pw.powerCycles = s.pw.powerCycles ∧ s.toOff.ls = s.ls :=
  ⟨rfl, rfl, rfl, rfl⟩

/-- A module in Off without a twin writes nothing of its own accord. -/
def State.Silent (s : State) : Prop := s.pw.state = .off ∧ s.isTwin = false

theorem State.Silent.of_bare {a b : State} (hb : b.Silent) (h : a.bare = b.bare) : a.Silent := by
  have hstate : a.pw.state = b.pw.state := (congrArg (fun u : State => u.pw.state) h :)
  have htwin : a.isTwin = b.isTwin := (congrArg State.isTwin h :)
  exact ⟨hstate.trans hb.1, htwin.trans hb.2⟩

theorem toOff_silent (s : State) : s.toOff.Silent := ⟨rfl, rfl⟩

theorem record_of_silent {s : State} (h : s.Silent) (e : Ev) (n : Nat) (d : List Nat) : s.record e n d = s := by
  refine if_pos ?_
  rw [State.publishes, h.1]
  rfl

theorem settleOut_ls {s : State} (h : s.Silent) (o : Nat) : (s.settleOut o).ls = s.ls := by
  have htest : (s.interruptTest o).ls = s.ls := by
    unfold State.interruptTest
    dsimp only
    split
    · rfl
    · rw [record_of_silent]
      · rfl
      · exact h.of_bare rfl
  unfold State.settleOut
  dsimp only
  rw [State.onSafety_ls, apply_ite State.ls, htest, ite_self]

@[simp] theorem publish_ls (s : State) (o : Nat) (b : List Nat) : (s.publish o b).ls = s.ls := by
  unfold State.publish; split <;> rfl

theorem goosePublish_ls (s : State) : s.goosePublish.ls = s.ls := by
  have hchange (u : State) (d : Nat) : (u.gooseChange d).ls = u.ls := by
    unfold State.gooseChange; dsimp only; split <;> rfl
  unfold State.goosePublish
  split
  · rw [hchange, hchange, hchange]
  · rfl

theorem pubChanges_ls (o s : State) : (o.pubChanges s).ls = s.ls := by
  have hpub (u : State) (b : Bool) (oid : Nat) (f : State → List Nat) : (u.pubIf b oid f).ls = u.ls := by
    unfold State.pubIf; split <;> simp
  unfold State.pubChanges
  simp only [hpub]

theorem settlePorts_ls (s : State) : s.settlePorts.ls = s.ls := by
  unfold State.settlePorts
  refine (foldl_keeps State.ls (fun s e => foldl_keeps State.ls (fun s p => ?_) _ s) _ _).trans rfl
  split <;> rfl

/-- In Off the stores hold what they held. -/
theorem settle_ls_of_silent {s : State} (h : s.Silent) (old : State) : (old.settle s).ls = s.ls := by
  have hholds : s.settleHolds.ls = s.ls := by
    unfold State.settleHolds; dsimp only; split <;> rfl
  have hcandidate (u : State) : u.settleCandidate.ls = u.ls := by
    unfold State.settleCandidate; dsimp only; split <;> rfl
  have htwin (u : State) (hu : u.Silent) : u.settleTwin = u ∧ u.settleCan = u ∧ u.settleShadow old = u := by
    unfold State.settleTwin State.settleCan State.settleShadow
    simp [hu.2]
  have hfollows : s.settleHolds.settleCandidate.Silent := h.of_bare ((settleCandidate_bare _).trans (settleHolds_bare s))
  unfold State.settle
  dsimp only
  rw [record_of_silent h, ite_self, (htwin s h).1, (htwin s h).2.1, (htwin _ hfollows).2.2, settlePorts_ls, pubChanges_ls, goosePublish_ls]
  have hstop : s.settleHolds.settleCandidate.settleStop.Silent := hfollows.of_bare (settleStop_bare _)
  rw [settleOut_ls (hstop.of_bare (settleOut_bare ..)), settleOut_ls hstop]
  exact (hcandidate _).trans hholds

end Sys2Proof.Machine

/-! Feeds, the flush, the start, Watch and Run as commands (05 R147; 19 R461 to R463, R466 to R468, R482, R484; 23 R555). -/

namespace Sys2Proof.Machine

open Sys2Proof

/-! ### Feeds (19 R461, R462) -/

theorem setFeed_begin_bare (s : State) (t k : Nat) (v : Bool) : ((s.begin t).setFeed k v).bare = (s.setFeed k v).bare := by
  unfold State.setFeed State.onPower
  split <;> rfl

theorem setFeed_present (p : State) (k : Nat) : if k = 0 then (p.setFeed k true).pw.feed1 = true else (p.setFeed k true).pw.feed2 = true := by
  unfold State.setFeed
  split <;> simp

/-- In Off a feed that becomes present starts the module (19 R461). -/
theorem feedPresent_starts {s : State} (hoff : s.pw.state = .off) (k : Nat) (i : StartIn) : feedPresent k i s = (s.setFeed k true).startAfterOff i := if_pos hoff

/-- In another state that is powered it is noted, and nothing more (19 R462). -/
theorem feedPresent_notes {s : State} (hon : s.pw.state ≠ .off) (hawake : s.pw.state ≠ .hibernate) (k : Nat) (i : StartIn) :
    feedPresent k i s = s.setFeed k true := by
  unfold feedPresent
  dsimp only
  rw [if_neg hon, decide_eq_false hawake]
  rfl

/-- The meaning of FEED_LOST. -/
def feedLost (k : Nat) (s : State) : State :=
  let was := if k = 0 then s.pw.feed1 else s.pw.feed2
  let s1 := s.setFeed k false
  if was && !s1.anyFeed then bothFeedsLost s else if was && s.powered then s1.record .feedLost (k + 1) [] else s1

theorem exec_feedLost (t : Nat) (k : Fin 2) (s : State) : exec (.feedLost t k) s = s.run t (feedLost k.val) := rfl

/-- The loss of one feed beside the other is recorded, and the module runs on (19 R462). -/
theorem feedLost_notes {k : Nat} {s : State} (h : if k = 0 then s.pw.feed1 = false ∨ s.pw.feed2 = true else s.pw.feed2 = false ∨ s.pw.feed1 = true) :
    (feedLost k s).bare = (s.setFeed k false).bare := by
  unfold feedLost
  extract_lets was s1
  have hother : ¬(was && !s1.anyFeed) = true := by
    by_cases hk : k = 0
    · subst hk
      rw [if_pos rfl] at h
      obtain hgone | hother := h
      · simp [was, hgone]
      · simp [s1, State.setFeed, State.anyFeed, hother]
    · rw [if_neg hk] at h
      obtain hgone | hother := h
      · simp [was, hk, hgone]
      · simp [s1, State.setFeed, State.anyFeed, hk, hother]
  rw [if_neg hother, apply_ite State.bare, record_bare, ite_self]

/-- The loss of the last feed is F0 (19 R482). -/
theorem feedLost_last {k : Nat} {s : State} (h : if k = 0 then s.pw.feed1 = true ∧ s.pw.feed2 = false else s.pw.feed2 = true ∧ s.pw.feed1 = false) :
    feedLost k s = bothFeedsLost s := by
  refine if_pos ?_
  by_cases hk : k = 0
  · rw [if_pos hk] at h
    simp [State.setFeed, State.anyFeed, hk, h.1, h.2]
  · rw [if_neg hk] at h
    simp [State.setFeed, State.anyFeed, hk, h.1, h.2]

/-! ### The end of a flush (19 R461, R482) -/

theorem flushEnd_idle {s : State} (h : s.pw.state ≠ .flushing) (i : StartIn) : flushEnd i s = s := if_pos h

/-- Without a feed a flush ends in Off. -/
theorem flushEnd_off {s : State} (h : s.pw.state = .flushing) (hnone : s.anyFeed = false) (i : StartIn) : flushEnd i s = (s.coilsOff allK).toOff := by
  unfold flushEnd
  dsimp only
  rw [if_neg (not_not.2 h), hnone]
  rfl

/-- With a feed one that began in Reset-locked ends there. -/
theorem flushEnd_locks {s : State} (h : s.pw.state = .flushing) (hfeed : s.anyFeed = true) (hfrom : s.pw.flushFrom = some .resetLocked) (i : StartIn) :
    flushEnd i s = ((s.coilsOff allK).onPower fun p => { p with state := .resetLocked, flushFrom := none, resetHold := none }).record .flushLocked 0 [] := by
  unfold flushEnd
  dsimp only
  rw [if_neg (not_not.2 h), hfeed, if_neg (by decide), if_pos hfrom]

/-- With a feed any other one ends in a warm restart. -/
theorem flushEnd_restarts {s : State} (h : s.pw.state = .flushing) (hfeed : s.anyFeed = true) (hfrom : s.pw.flushFrom ≠ some .resetLocked) (i : StartIn) :
    flushEnd i s = (s.coilsOff allK).restart 2 0x0A i := by
  unfold flushEnd
  dsimp only
  rw [if_neg (not_not.2 h), hfeed, if_neg (by decide), if_neg hfrom]

/-! ### The start is complete (19 R463) -/

theorem coilOnReq_keeps (s : State) (k : Nat) : (s.coilOnReq k).pw = s.pw ∧ (s.coilOnReq k).ct.autoArmed = s.ct.autoArmed := by
  unfold State.coilOnReq
  split
  · exact ⟨rfl, rfl⟩
  · split <;> exact ⟨rfl, rfl⟩

theorem couple_keeps (s : State) : s.couple.pw = s.pw ∧ s.couple.ct.autoArmed = s.ct.autoArmed := by
  unfold State.couple
  split
  · rw [record_pw, record_ct]
    exact coilOnReq_keeps s 12
  · exact ⟨rfl, rfl⟩

theorem armOnce_keeps (s : State) (o start sub : Nat) : (s.armOnce o start sub).pw = s.pw ∧ (s.armOnce o start sub).ct = s.ct := by
  unfold State.armOnce
  extract_lets miss s1
  have hs1 : s1.pw = s.pw ∧ s1.ct = s.ct := ⟨State.onThyme_pw .., State.onThyme_ct ..⟩
  clear_value s1
  split
  · rwa [record_pw, record_ct]
  · exact hs1

/-- What an arming leaves alone, the armings of a start leave alone. -/
theorem armConfigured_keeps {β : Type} (g : State → β) (harm : ∀ s o start sub, g (s.armOnce o start sub) = g s) (s : State) : g s.armConfigured = g s := by
  unfold State.armConfigured
  rw [foldl_keeps g]
  intro u o
  dsimp only
  split
  · rfl
  · exact harm ..

theorem startProbation_keeps (s : State) : s.startProbation.pw = s.pw ∧ s.startProbation.ct = s.ct := by
  unfold State.startProbation State.beginProbation
  split
  · exact ⟨rfl, rfl⟩
  · split <;> exact ⟨rfl, rfl⟩

/-- A complete start is Watch, armed, with the connection armed where the leader is to connect of itself. -/
theorem startComplete_watches {s : State} (hready : s.startReady = true) :
    (startComplete s).pw = { s.pw with state := .watch, armed := true, startDone := true, holdUpReady := true } ∧
    (startComplete s).ct.autoArmed = (s.leads && s.cfg.join.autoConnect) := by
  unfold startComplete
  rw [if_pos hready]
  extract_lets s1 s2
  have hs1 : s1.pw = { s.pw with state := .watch, armed := true, startDone := true, holdUpReady := true } := record_pw ..
  have hs2 : s2.pw = s1.pw ∧ s2.ct.autoArmed = (s.leads && s.cfg.join.autoConnect) := ⟨rfl, rfl⟩
  have hpulses : s2.restartPulses.pw = s2.pw ∧ s2.restartPulses.ct = s2.ct := ⟨rfl, rfl⟩
  have harmedPw := armConfigured_keeps State.pw (fun u o start sub => (armOnce_keeps u o start sub).1) s2.restartPulses
  have harmedCt := armConfigured_keeps State.ct (fun u o start sub => (armOnce_keeps u o start sub).2) s2.restartPulses
  obtain ⟨hcoupledPw, hcoupledCt⟩ := couple_keeps s2.restartPulses.armConfigured
  obtain ⟨hprobationPw, hprobationCt⟩ := startProbation_keeps s2.restartPulses.armConfigured.couple
  rw [hprobationPw, hcoupledPw, harmedPw, hpulses.1, hs2.1, hprobationCt, hcoupledCt, harmedCt, hpulses.2]
  exact ⟨hs1, hs2.2⟩

/-! ### Watch, Run and the hold-up store (05 R147; 19 R466 to R468, R484; 23 R555) -/

/-- The meaning of RUN_REQUEST. -/
def runRequest (s : State) : State := if s.setpointStands || s.masterPair || decide (2 ≤ s.pw.overCurrentRun) then s.requestRun else s

theorem exec_runRequest (t : Nat) (s : State) : exec (.runRequest t) s = s.run t runRequest := rfl

theorem runRequest_none {s : State} (hpoint : s.setpointStands = false) (hpair : s.masterPair = false) (hcurrent : s.pw.overCurrentRun < 2) : runRequest s = s := by
  refine if_neg ?_
  rw [hpoint, hpair, decide_eq_false hcurrent.not_ge]
  decide

/-- A set-point, a master role or the current asks for Run in Watch; a later request does not move the first (19 R466). -/
theorem runRequest_asks {s : State} (hwatch : s.pw.state = .watch) (h : s.setpointStands = true ∨ s.masterPair = true ∨ 2 ≤ s.pw.overCurrentRun) :
    runRequest s = s.onPower fun p => { p with runRequestAt := some (p.runRequestAt.getD s.now) } := by
  have hasked : (s.setpointStands || s.masterPair || decide (2 ≤ s.pw.overCurrentRun)) = true := by simpa [or_assoc] using h
  exact (if_pos hasked).trans (if_pos hwatch)

/-- Run may begin now (19 R466, R467; 05 R147). -/
def State.runsNow (s : State) : Bool := decide (s.pw.state = .watch) && s.heldFor s.pw.runRequestAt (400000 + s.sinceFrame) && !s.acq.calFault

/-- The meaning of RUN_ENTRY. -/
def runEntry (s : State) : State :=
  if s.runsNow then
    (s.onPower fun p => { p with state := .run, runRequestAt := none, watchSince := none, hibSince := none, visit := false }).onLimits fun l =>
      { l with freshAt := s.now }
  else s

theorem exec_runEntry (t : Nat) (s : State) : exec (.runEntry t) s = s.run t runEntry := rfl

theorem runsNow_of_held {d : Nat} {s : State} (hwatch : s.pw.state = .watch) (hasked : s.pw.runRequestAt = some d)
    (hheld : d + 400000 + s.sinceFrame ≤ s.now) (hcal : s.acq.calFault = false) : s.runsNow = true := by
  have hheld : s.heldFor (some d) (400000 + s.sinceFrame) = true := decide_eq_true (by omega)
  rw [State.runsNow, hwatch, hasked, hheld, hcal]
  rfl

theorem runsNow_refused {s : State} (h : s.pw.state ≠ .watch ∨ s.pw.runRequestAt = none ∨ s.acq.calFault = true) : s.runsNow = false := by
  unfold State.runsNow
  obtain h | h | h := h
  · rw [decide_eq_false h]; rfl
  · rw [h]; simp [State.heldFor]
  · rw [h]; simp

/-- The dwell in Run is over at a superframe divisible by 25 (19 R468). -/
def State.dwellOver (s : State) : Bool :=
  decide (s.pw.state = .run) && s.watchConditions && s.heldFor s.pw.watchSince (sec s.cfg.power.runDwell) && decide (s.sweepAbs % 100 = 0)

/-- The meaning of RUN_DWELL_EXPIRY. -/
def runDwell (s : State) : State :=
  if s.dwellOver then s.onPower fun p => { p with state := .watch, watchSince := none, hibSince := none, overCurrentRun := 0 } else s

theorem exec_runDwellExpiry (t : Nat) (s : State) : exec (.runDwellExpiry t) s = s.run t runDwell := rfl

theorem dwellOver_of_held {d : Nat} {s : State} (hrun : s.pw.state = .run) (hwatch : s.watchConditions = true) (hsince : s.pw.watchSince = some d)
    (hheld : d + sec s.cfg.power.runDwell ≤ s.now) (hframe : s.sweepAbs % 100 = 0) : s.dwellOver = true := by
  have hheld : s.heldFor (some d) (sec s.cfg.power.runDwell) = true := decide_eq_true hheld
  rw [State.dwellOver, hrun, hwatch, hsince, hheld, hframe]
  rfl

theorem dwellOver_refused {s : State} (h : s.pw.state ≠ .run ∨ s.watchConditions = false ∨ s.pw.watchSince = none ∨ s.sweepAbs % 100 ≠ 0) :
    s.dwellOver = false := by
  unfold State.dwellOver
  obtain h | h | h | h := h
  · rw [decide_eq_false h]; rfl
  · rw [h]; simp
  · rw [h]; simp [State.heldFor]
  · rw [decide_eq_false h, Bool.and_false]

/-- The meaning of HOLD_UP_MEASUREMENT. -/
def holdUp (v : Nat) (s : State) : State :=
  if decide (s.pw.state = .watch ∨ s.pw.state = .run) && (decide (s.pw.lastHoldUp = 0) || decide (s.pw.lastHoldUp + sec 86400 ≤ s.now)) then
    if !s.pw.feed1 || !s.pw.feed2 then (s.onPower fun p => { p with lastHoldUp := s.now }).deferTest 5 4
    else
      let s1 := (s.onPower fun p => { p with holdUpMs := min 65535 v, lastHoldUp := s.now }).testDone 5
      if min 65535 v < 300 then s1.record .holdUpReduced 0 (octetsOf 2 (min 65535 v)) else s1
  else s

theorem exec_holdUpMeasurement (t v : Nat) (s : State) : exec (.holdUpMeasurement t v) s = s.run t (holdUp v) := rfl

theorem holdUp_idle {s : State} (hwatch : s.pw.state ≠ .watch) (hrun : s.pw.state ≠ .run) (v : Nat) : holdUp v s = s :=
  if_neg (by simp [hwatch, hrun])

section HoldUp

variable {s : State} (hstate : s.pw.state = .watch ∨ s.pw.state = .run) (hday : s.pw.lastHoldUp + sec 86400 ≤ s.now)
include hstate hday

/-- 24 h after the last one, a measurement with both feeds is kept (19 R484). -/
theorem holdUp_measures (hfeed1 : s.pw.feed1 = true) (hfeed2 : s.pw.feed2 = true) (v : Nat) :
    (holdUp v s).bare = ((s.onPower fun p => { p with holdUpMs := min 65535 v, lastHoldUp := s.now }).testDone 5).bare := by
  unfold holdUp
  dsimp only
  rw [if_pos (by simp [hstate, hday]), if_neg (by simp [hfeed1, hfeed2]), apply_ite State.bare, record_bare, ite_self]

/-- Without one of the feeds it is deferred (19 R484; 23 R555). -/
theorem holdUp_defers (hfeed : s.pw.feed1 = false ∨ s.pw.feed2 = false) (v : Nat) :
    holdUp v s = (s.onPower fun p => { p with lastHoldUp := s.now }).deferTest 5 4 := by
  unfold holdUp
  dsimp only
  rw [if_pos (by simp [hstate, hday]), if_pos (by simpa using hfeed)]

end HoldUp

theorem settled_pw (s u : State) (t : Nat) : (s.settle (s.keep t u)).pw = u.pw := settle_pw ..

/-- Settles O33: a feed, a flush and a start by what they leave of the power state, and Watch and Run by their conditions at the instant. -/
theorem feedsAndStates : Obligations.FeedsAndStates := by
  have hpresent (t : Nat) (k : Fin 2) (i : StartIn) (s : State) : exec (.feedPresent t k i) s = s.run t (feedPresent k.val i) := rfl
  have hboth (t : Nat) (s : State) : exec (.bothFeedsLost t) s = s.run t bothFeedsLost := rfl
  have hflush (t : Nat) (i : StartIn) (s : State) : exec (.flushEnd t i) s = s.run t (flushEnd i) := rfl
  have hcomplete (t : Nat) (s : State) : exec (.startComplete t) s = s.run t startComplete := rfl
  have hminimum (t : Nat) (s : State) : exec (.alwaysOnMinimumReached t) s = execAlwaysOnMinimumReached t s := rfl
  refine ⟨?starts, ?noted, ?lost, ?last, ?feedsGone, ?held, ?noFlush, ?toOff, ?locked, ?restarts, ?notDrained, ?drained, ?notMeasured, ?measured, ?deferred,
    ?notReady, ?complete, ?notAsked, ?asked, ?run, ?notRun, ?dwelt, ?notDwelt⟩
  case starts =>
    intro t k i s hoff
    have hstarts := feedPresent_starts (s := s.begin t) hoff k.val i
    obtain ⟨hstate, hlevel, hcause, -, hcycles, hp0, hfeed1, hfeed2⟩ := startAfterOff_starts ((s.begin t).setFeed k.val true) i
    have hkept : ((s.begin t).setFeed k.val true).pw.powerCycles = s.pw.powerCycles := by
      unfold State.setFeed State.onPower
      dsimp only
      split <;> rfl
    have hset := setFeed_present (s.begin t) k.val
    refine answers_of (hpresent ..) ?_
    rw [settled_pw, hstarts, hlevel, hcause, hcycles, hp0, hfeed1, hfeed2]
    exact ⟨congrArg wrapInc hkept, rfl, rfl, rfl, hset, hstate⟩
  case noted =>
    intro t k i s hon hawake
    refine does_of (hpresent ..) ?_
    rw [feedPresent_notes (s := s.begin t) hon hawake, setFeed_begin_bare]
  case lost =>
    intro t k s hfeeds
    refine does_of (exec_feedLost ..) ?_
    rw [feedLost_notes (s := s.begin t) hfeeds, setFeed_begin_bare]
  case last =>
    intro t k s hfeeds hstate
    refine answers_of (exec_feedLost ..) ?_
    rw [settled_pw, feedLost_last (s := s.begin t) hfeeds]
    exact bothFeedsLost_pw (s := s.begin t) hstate
  case feedsGone =>
    intro t s hstate
    refine does_of (hboth ..) ?_
    rw [bothFeedsLost_idle (s := s.begin t) hstate, bare_of_quiet (feedsLost_quiet _)]
    rfl
  case held =>
    intro t s hstate hnone
    obtain ⟨hflushing, hfrom, hat, hfeed1, hfeed2⟩ := bothFeedsLost_pw (s := s.begin t) hstate
    obtain ⟨hhold, hdue⟩ := bothFeedsLost_holds (s := s.begin t) hstate hnone
    refine answers_of (hboth ..) ?_
    have hstop := (settle_settled s (s.keep t (bothFeedsLost (s.begin t)))).stop
    have hdemand : (s.settle (s.keep t (bothFeedsLost (s.begin t)))).holdDemand = true := by
      rw [State.holdDemand, settled_pw, hhold]
      exact Bool.or_true _
    have hsettled := settled_part (fun v : State => v.ct.due) s (bothFeedsLost (s.begin t)) t
    rw [settled_pw, hsettled]
    exact ⟨hflushing, hfrom, hat, hfeed1, hfeed2, hhold, hstop.trans hdemand, hdue⟩
  case noFlush => exact fun t i s hstate => idles_of (hflush ..) (flushEnd_idle (s := s.begin t) hstate i)
  case toOff =>
    intro t i s hstate hnone
    have hoff := flushEnd_off (s := s.begin t) hstate hnone i
    have hopened : ((s.begin t).coilsOff allK).pw = (s.begin t).pw := pw_of_undecided (coilsOff_undecided (s.begin t) allK)
    have hstores : ((s.begin t).coilsOff allK).ls = s.ls := coilsOff_ls (s.begin t) allK
    have hbegun : (s.begin t).pw.powerCycles = s.pw.powerCycles := rfl
    obtain ⟨hstate, hcfg, hcycles, hls⟩ := toOff_keeps ((s.begin t).coilsOff allK)
    have hcoil := toOff_coil ((s.begin t).coilsOff allK)
    have hsilent := toOff_silent ((s.begin t).coilsOff allK)
    refine answers_of (hflush ..) ?_
    rw [hoff]
    generalize ((s.begin t).coilsOff allK).toOff = u at *
    have hkept : (s.settle (s.keep t u)).ls = u.ls := settle_ls_of_silent (s := s.keep t u) hsilent s
    have hcfgs : (s.settle (s.keep t u)).cfg = u.cfg := settle_cfg ..
    rw [hkept, hcfgs, settled_pw, hcycles, hls, hopened, hbegun]
    exact ⟨hstate, hcfg, rfl, hstores, fun k => (congrArg Coil.phase (settled_coil s u t k)).trans (hcoil k)⟩
  case locked =>
    intro t i s hstate hfeed hfrom
    refine answers_of (hflush ..) ?_
    rw [settled_pw, flushEnd_locks (s := s.begin t) hstate hfeed hfrom, record_pw]
    exact ⟨rfl, rfl⟩
  case restarts =>
    intro t i s hstate hfeed hfrom hcopy
    obtain ⟨hstarting, hlevel, hcause, hnone, -⟩ := restart_starts (s := (s.begin t).coilsOff allK) (level := 2) (cause := 0x0A) (fun _ => hcopy) (by decide)
    refine answers_of (hflush ..) ?_
    rw [settled_pw, flushEnd_restarts (s := s.begin t) hstate hfeed hfrom]
    exact ⟨hlevel, hcause, hnone, hstarting⟩
  case notDrained =>
    intro t s hkept
    refine idles_of (hminimum ..) (if_neg ?_)
    rintro ⟨hstate, hnone⟩
    obtain hother | hfeed := hkept
    · exact hother hstate
    · have hfeed : (s.begin t).anyFeed = true := hfeed
      rw [hfeed] at hnone
      exact Bool.false_ne_true hnone
  case drained =>
    intro t s hstate hnone
    have hdrained : (s.begin t).pw.state = .hibernate ∧ (!(s.begin t).anyFeed) = true := by
      have hnone : (s.begin t).anyFeed = false := hnone
      rw [hnone]
      exact ⟨hstate, rfl⟩
    refine answers_of (hminimum ..) ?_
    rw [if_pos hdrained, settled_pw, settle_cfg]
    exact ⟨rfl, rfl⟩
  case notMeasured => exact fun t v s hwatch hrun => idles_of (exec_holdUpMeasurement ..) (holdUp_idle (s := s.begin t) hwatch hrun v)
  case measured =>
    intro t v s hstate hday hfeed1 hfeed2
    refine does_of (exec_holdUpMeasurement ..) ?_
    rw [holdUp_measures (s := s.begin t) hstate hday hfeed1 hfeed2]
    rfl
  case deferred =>
    intro t v s hstate hday hfeed
    refine does_of (exec_holdUpMeasurement ..) ?_
    rw [holdUp_defers (s := s.begin t) hstate hday hfeed, deferTest_bare]
    rfl
  case notReady =>
    intro t s hnot
    have hnot : (s.begin t).startReady = false := hnot
    exact idles_of (hcomplete ..) (if_neg (by rw [hnot]; exact Bool.false_ne_true))
  case complete =>
    intro t s hready
    obtain ⟨hwatch, harmed⟩ := startComplete_watches (s := s.begin t) hready
    have hsettled := settled_part (fun v : State => v.ct.autoArmed) s (startComplete (s.begin t)) t
    refine answers_of (hcomplete ..) ?_
    rw [settled_pw, hsettled, hwatch]
    exact ⟨rfl, rfl, rfl, harmed⟩
  case notAsked => exact fun t s hpoint hpair hcurrent => idles_of (exec_runRequest ..) (runRequest_none (s := s.begin t) hpoint hpair hcurrent)
  case asked =>
    intro t s hwatch hasks
    refine does_of (exec_runRequest ..) ?_
    rw [runRequest_asks (s := s.begin t) hwatch hasks]
    rfl
  case run =>
    intro t d s hwatch hasked hheld hcal
    refine does_of (exec_runEntry ..) ?_
    rw [runEntry, if_pos (runsNow_of_held (s := s.begin t) hwatch hasked hheld hcal)]
    rfl
  case notRun =>
    intro t s hnot
    exact idles_of (exec_runEntry ..) (if_neg (by rw [runsNow_refused (s := s.begin t) hnot]; exact Bool.false_ne_true))
  case dwelt =>
    intro t d s hrun hwatch hsince hheld hframe
    refine does_of (exec_runDwellExpiry ..) ?_
    rw [runDwell, if_pos (dwellOver_of_held (s := s.begin t) hrun hwatch hsince hheld hframe)]
    rfl
  case notDwelt =>
    intro t s hnot
    exact idles_of (exec_runDwellExpiry ..) (if_neg (by rw [dwellOver_refused (s := s.begin t) hnot]; exact Bool.false_ne_true))

end Sys2Proof.Machine

/-! Tone plans and tone requests (06 R151 to R153, R160 to R163). -/

namespace Sys2Proof.Machine

open Sys2Proof

@[simp] theorem keep_sg (s u : State) (t : Nat) : (s.keep t u).sg = u.sg := rfl

/-! ### A plan is issued (06 R153) -/

/-- The plan joins those kept, the last 8, and its activation sweep waits for its first Load (06 R153). -/
def State.addPlan (s : State) (p : TonePlan) : State :=
  s.onSage fun g => { g with plans := (p :: g.plans).take 8, lastPlanAt := s.sweepNo, planOpen := true }

/-- The Loads and the Commit of a plan join the work of each node in service (06 R153). -/
def State.loadPlan (s : State) (p : TonePlan) : State :=
  (s.cfg.nodes.map fun n => n.index).foldl (fun s n => if (s.node n).inService then s.addWork n (loadArea 2 (p.area n) p.fromSweep) else s) s

theorem loadPlan_offRadio (s : State) (p : TonePlan) : (s.loadPlan p).offRadio = s.offRadio :=
  foldl_keeps State.offRadio (fun s n => by split <;> rfl) _ s

@[simp] theorem loadPlan_sg (s : State) (p : TonePlan) : (s.loadPlan p).sg = s.sg := (congrArg State.sg (loadPlan_offRadio s p) :)

/-- The first plan has identifier 0 (06 R153; log 43). -/
theorem issuePlan_first {s : State} (hnone : s.sg.plans = []) :
    s.issuePlan = (s.addPlan (s.planFor 0 s.planStart)).loadPlan (s.planFor 0 s.planStart) := by
  unfold State.issuePlan
  rw [hnone]
  rfl

/-- A later plan has the next identifier (06 R153). -/
theorem issuePlan_next {p : TonePlan} {l : List TonePlan} {s : State} (hplans : s.sg.plans = p :: l)
    (hlate : 10000 ≤ (s.sweepNo + two32 - s.sg.lastPlanAt) % two32) (hnew : s.planFor p.ident p.fromSweep ≠ p) :
    s.issuePlan = (s.addPlan (s.planFor ((p.ident + 1) % 8) s.planStart)).loadPlan (s.planFor ((p.ident + 1) % 8) s.planStart) := by
  have hdiffers : decide (s.planFor p.ident p.fromSweep = p) = false := decide_eq_false hnew
  have hnotEarly : decide ((s.sweepNo + two32 - s.sg.lastPlanAt) % two32 < 10000) = false := decide_eq_false hlate.not_gt
  unfold State.issuePlan
  rw [hplans, hnotEarly]
  refine if_neg ?_
  rw [Bool.and_false, Bool.or_false]
  exact ne_true_of_eq_false hdiffers

/-- No plan within 10 s of the last (06 R153). -/
theorem issuePlan_early {s : State} (hsome : s.sg.plans ≠ []) (hearly : (s.sweepNo + two32 - s.sg.lastPlanAt) % two32 < 10000) :
    s.issuePlan = s := by
  have hnotEmpty : s.sg.plans.isEmpty = false := List.isEmpty_eq_false_iff.2 hsome
  refine if_pos ?_
  rw [hnotEmpty, decide_eq_true hearly]
  exact Bool.or_true _

theorem issuePlan_cases (s : State) : s.issuePlan = s ∨ ∃ p, s.issuePlan = (s.addPlan p).loadPlan p := by
  unfold State.issuePlan
  extract_lets last ident p same early s1
  split
  · exact .inl rfl
  · exact .inr ⟨p, rfl⟩

/-- The rest of the string and the swaps of its excitation (06 R163). -/
def State.restFigures (s : State) : Bool × Bool × Nat := (s.sg.rest, s.sg.swapped, s.sg.lastSwap)

@[simp] theorem issuePlan_restFigures (s : State) : s.issuePlan.restFigures = s.restFigures := by
  obtain hsame | ⟨p, hissued⟩ := issuePlan_cases s
  · rw [hsame]
  · rw [hissued, State.restFigures, loadPlan_sg]
    rfl

/-- A plan starts at the first tone window at least 2 000 sweeps after the sweep in progress (06 R153). -/
theorem planStart_window (s : State) :
    ∃ k, s.sweepAbs + 2001 ≤ 100 * k ∧ 100 * k < s.sweepAbs + 2101 ∧ s.planStart = (100 * k) % two32 :=
  ⟨(s.sweepAbs + 1 + 2000 + 99) / 100, by omega, by omega, by rw [Nat.mul_comm]; rfl⟩

theorem planStart_lt (s : State) : s.planStart < two32 := Nat.mod_lt _ (by decide)

/-- TONE_PLAN_CHANGE on the leading module (06 R153). -/
theorem exec_tonePlanChange {s : State} (hleads : s.leads = true) (hruns : s.sageRuns = true) (t : Nat) :
    exec (.tonePlanChange t) s = s.run t State.issuePlan := by
  have hboth : ((s.begin t).leads && (s.begin t).sageRuns) = true := Bool.and_eq_true_iff.2 ⟨hleads, hruns⟩
  show s.run t (fun u => if u.leads && u.sageRuns then u.issuePlan else u) = _
  rw [run_eq, run_eq, if_pos hboth]

/-! ### The excitation at rest (06 R163) -/

/-- The excitation swaps now: the string was at rest, is so still, and the last swap is 60 s old (06 R163). -/
def State.swapsNow (s : State) : Bool := s.sg.rest && s.atRest && decide (s.sg.lastSwap + sec 60 ≤ s.now)

/-- What REST_EXCITATION_SWAP leaves of rest and the swaps on the leading module, whether it issues a plan or not (06 R163). -/
theorem restExcitationSwap_figures {s : State} (hleads : s.leads = true) (hruns : s.sageRuns = true) (t : Nat) :
    Answers (.restExcitationSwap t) s fun s' => s'.restFigures =
      ((s.begin t).atRest, if (s.begin t).swapsNow then !s.sg.swapped else s.sg.swapped,
        if (s.begin t).swapsNow || ((s.begin t).atRest && !s.sg.rest) then max s.now t else s.sg.lastSwap) := by
  have hmeaning : exec (.restExcitationSwap t) s = execRestExcitationSwap t s := rfl
  have hboth : ¬(!(s.begin t).leads || !(s.begin t).sageRuns) = true := by
    rw [show (s.begin t).leads = true from hleads, show (s.begin t).sageRuns = true from hruns]
    decide
  refine answers_of hmeaning ?_
  rw [settled_part State.restFigures, if_neg hboth, issuePlan_restFigures]
  rfl

/-! ### Tone requests (06 R160 to R162) -/

@[simp] theorem toneWithdraw_rt (s : State) : s.toneWithdraw.rt = s.rt := rfl

/-- Outside the conditions of 06 R161 every request is withdrawn, whatever the window before shows. -/
theorem toneRequestStart_withdraws {s : State} (hstart : s.sweepAbs % 100 = 0) (hnot : s.toneAllowed = false) :
    (toneRequestStart s).sg.toneReq = {} ∧ (toneRequestStart s).rt.toneUnit = 255 := by
  unfold toneRequestStart
  extract_lets a prev req on overT ban s1
  have hforbidden : s1.toneAllowed = false := hnot
  rw [if_neg (not_not.2 hstart), hforbidden]
  split
  · refine ⟨rfl, ?_⟩
    rw [toneWithdraw_rt, record_rt]
    rfl
  · exact ⟨rfl, rfl⟩

/-- The configured amplitudes are requested (06 R161). -/
def State.toneRequest (s : State) : State := s.onSage fun g => { g with toneReq := s.toneAmps.foldl (fun t e => t.put e.1 0 e.2) {} }

/-- No slot is requested where no amplitude is. -/
theorem toneSlots_of_none {s : State} (hnone : s.sg.toneReq = {}) : s.toneSlots = [] := by
  unfold State.toneSlots
  rw [hnone]
  decide

/-- Within the conditions a request stands (06 R162). -/
theorem toneCheck_stands {s : State} (hallowed : s.toneAllowed = true) (hwithin : s.toneOverLimit = false) : s.toneCheck = s := by
  unfold State.toneCheck
  rw [hallowed, hwithin]
  exact ite_self ..

/-- Inside the conditions, with no request of the window before to judge, the configured amplitudes are requested (06 R161). -/
theorem toneRequestStart_requests {s : State} (hstart : s.sweepAbs % 100 = 0) (hallowed : s.toneAllowed = true) (hnone : s.sg.toneReq = {})
    (hban : s.sg.toneBan = false) (hwithin : s.toneRequest.toneOverLimit = false) :
    ∃ tones beyond, toneRequestStart s =
      (s.toneRequest.onSage fun g => { g with unitTones := tones, toneOver := beyond }).onRantus fun r => { r with toneUnit := 255 } := by
  unfold toneRequestStart
  extract_lets a prev req on overT ban s1
  have hover : overT = {} := by
    show s.toneSlots.foldl _ _ = _
    rw [toneSlots_of_none hnone]
    rfl
  have hnoBan : ban = false := by
    show (List.range 8).any _ = _
    rw [hover]
    decide
  have hopen : (s1.toneAllowed && !s1.sg.toneBan) = true := by
    rw [show s1.toneAllowed = true from hallowed, show s1.sg.toneBan = false from hban]
    decide
  rw [if_neg (not_not.2 hstart), if_neg (ne_true_of_eq_false hnoBan), if_pos hopen]
  exact ⟨_, _, toneCheck_stands hallowed hwithin⟩

/-- Settles O16: a plan by whether it is the first, a new one or an early one, the swap by what rest was and is, and the requests by their conditions. -/
theorem tonePlans : Obligations.TonePlans := by
  have hchange (t : Nat) (s : State) : exec (.tonePlanChange t) s = execTonePlanChange t s := rfl
  have hswap (t : Nat) (s : State) : exec (.restExcitationSwap t) s = execRestExcitationSwap t s := rfl
  have hrequest (t : Nat) (s : State) : exec (.toneRequestStart t) s = s.run t toneRequestStart := rfl
  refine ⟨?follower, ?first, ?next, ?early, fun s => ⟨planStart_lt s, planStart_window s⟩, ?swapFollower, ?swaps, ?restBegins, ?offWindow,
    ?withdrawn, ?requested⟩
  case follower =>
    intro t s hfollows
    refine idles_of (hchange t s) (if_neg ?_)
    rw [show (s.begin t).leads = false from hfollows]
    exact Bool.false_ne_true
  case first =>
    intro t s hleads hruns hnone
    have hissued := issuePlan_first (s := s.begin t) hnone
    have hapart := settled_apart (fun u : State => { u with sg := {}, ra := {} }) (s := s) (u := (s.begin t).issuePlan)
      (by rw [hissued]; exact congrArg (fun u : State => ({ u with sg := {} } : State)) (loadPlan_offRadio ..)) t
    refine answers_of (exec_tonePlanChange hleads hruns t) ?_
    rw [settle_sg, keep_sg, hissued, loadPlan_sg, ← hissued]
    refine ⟨?_, rfl, rfl, hapart⟩
    show List.take 8 (_ :: s.sg.plans) = _
    rw [hnone]
    rfl
  case next =>
    intro t p l s hleads hruns hplans hlate hnew
    have hissued := issuePlan_next (s := s.begin t) hplans hlate hnew
    refine answers_of (exec_tonePlanChange hleads hruns t) ?_
    rw [settle_sg, keep_sg, hissued, loadPlan_sg]
    refine ⟨?_, rfl⟩
    show List.take 8 (_ :: s.sg.plans) = _
    rw [hplans]
  case early =>
    intro t s hsome hearly
    refine idles_of (hchange t s) ?_
    rw [issuePlan_early (s := s.begin t) hsome hearly, ite_self]
  case swapFollower =>
    intro t s hfollows
    refine idles_of (hswap t s) (if_pos ?_)
    rw [show (s.begin t).leads = false from hfollows]
    rfl
  case swaps =>
    intro t s hleads hruns hrested hrests hdue
    have hswaps : (s.begin t).swapsNow = true :=
      Bool.and_eq_true_iff.2 ⟨Bool.and_eq_true_iff.2 ⟨hrested, hrests⟩, decide_eq_true hdue⟩
    obtain ⟨s', hnext, hfigures⟩ := restExcitationSwap_figures hleads hruns t
    rw [hswaps, hrests] at hfigures
    exact ⟨s', hnext, congrArg (fun x => x.2.1) hfigures, congrArg (fun x => x.2.2) hfigures, congrArg Prod.fst hfigures⟩
  case restBegins =>
    intro t s hleads hruns hmoved hrests
    have hnoSwap : (s.begin t).swapsNow = false := by
      rw [State.swapsNow, show (s.begin t).sg.rest = false from hmoved]
      rfl
    obtain ⟨s', hnext, hfigures⟩ := restExcitationSwap_figures hleads hruns t
    rw [hnoSwap, hrests, hmoved] at hfigures
    exact ⟨s', hnext, congrArg (fun x => x.2.1) hfigures, congrArg (fun x => x.2.2) hfigures, congrArg Prod.fst hfigures⟩
  case offWindow => exact fun t s hoff => idles_of (hrequest t s) (if_pos hoff)
  case withdrawn =>
    intro t s hstart hnot
    obtain ⟨hnone, hunit⟩ := toneRequestStart_withdraws (s := s.begin t) hstart hnot
    refine answers_of (hrequest t s) ⟨?_, ?_⟩
    · rw [settle_sg, keep_sg, hnone]
    · exact (settled_part (fun v : State => v.rt.toneUnit) ..).trans hunit
  case requested =>
    intro t s hstart hallowed hnone hban hwithin
    obtain ⟨tones, beyond, hrequested⟩ := toneRequestStart_requests (s := s.begin t) hstart hallowed hnone hban hwithin
    have hapart := settled_apart (fun u : State => { u with sg := {}, rt := {} }) (s := s) (u := toneRequestStart (s.begin t))
      (by rw [hrequested]; rfl) t
    refine answers_of (hrequest t s) ⟨?_, ?_, hapart⟩
    · rw [settle_sg, keep_sg, hrequested]
      rfl
    · rw [settle_sg, keep_sg, hrequested]
      exact hban

end Sys2Proof.Machine

/-! Impedance estimates, fits, internal temperature and Sage's time (06 R164 to R180). -/

namespace Sys2Proof.Machine

open Sys2Proof

/-! ### Tables written key by key -/

/-- A table into which each key of a list has been put holds the value of each of them. -/
theorem get_foldl_put_of_mem {α : Type} [DecidableEq α] {l : List Nat} {c : Nat} (hmem : c ∈ l) (d : α) (v : Nat → α) (tb : Table α) :
    (l.foldl (fun tb c => tb.put c d (v c)) tb).get c d = v c := by
  refine foldl_reaches (f := fun (tb : Table α) c => tb.put c d (v c)) (A := fun _ => True) (B := fun tb => tb.get c d = v c) (fun _ _ _ _ => trivial)
    (fun tb _ => Table.get_put_same ..) (fun tb x hheld => ?_) l hmem tb trivial
  rw [Table.get_put]
  split
  case isTrue hsame => rw [hsame]
  case isFalse => exact hheld

/-- A table whose lists have been prolonged at each key has the newest entry first. -/
theorem head_foldl_upd_of_mem {α : Type} [DecidableEq α] {l : List Nat} {c : Nat} (hmem : c ∈ l) (v : Nat → α) (n : Nat) (tb : Table (List α)) :
    ((l.foldl (fun tb c => tb.upd c [] fun old => (v c :: old).take (n + 1)) tb).get c []).head? = some (v c) := by
  refine foldl_reaches (f := fun (tb : Table (List α)) c => tb.upd c [] fun old => (v c :: old).take (n + 1)) (A := fun _ => True)
    (B := fun tb => (tb.get c []).head? = some (v c)) (fun _ _ _ _ => trivial) (fun tb _ => ?_) (fun tb x hheld => ?_) l hmem tb trivial
  · rw [Table.get_upd_same]
    rfl
  · rw [Table.get_upd]
    split
    case isTrue hsame => rw [hsame]; rfl
    case isFalse => exact hheld

/-! ### What an interval writes (06 R166, R169) -/

/-- The state without Sage, the free values, records and publications. -/
def State.offSage (s : State) : State := { s.quiet with sg := {}, freeIdx := 0 }

@[simp] theorem onImp_offSage (s : State) (c i : Nat) (f : ImpCell → ImpCell) : (s.onImp c i f).offSage = s.offSage := rfl
@[simp] theorem publish_offSage (s : State) (o : Nat) (b : List Nat) : (s.publish o b).offSage = s.offSage :=
  (congrArg (fun u : State => ({ u with sg := {}, freeIdx := 0 } : State)) (publish_quiet s o b) :)

theorem bare_of_offSage {a b : State} (h : a.offSage = b.offSage) :
    ({ a.bare with sg := {}, freeIdx := 0 } : State) = { b.bare with sg := {}, freeIdx := 0 } := (congrArg State.bare h :)

/-- The mark of the turn taken is of no account in what a meaning leaves as it is. -/
theorem settled_turn (E : State → State) {s u : State} {t k : Nat} (h : E u.bare = E ((s.begin t).turnTaken k).bare)
    (hqueue : ∀ v q, E { v with pending := q } = { E v with pending := q } := by intros; rfl) : E (s.settle (s.keep t u)).bare = E s.bare := by
  rw [turnTaken_bare, begin_bare] at h
  exact settled_apart E h t hqueue

theorem settled_offSage {s u : State} {t k : Nat} (h : u.offSage = ((s.begin t).turnTaken k).offSage) :
    ({ (s.settle (s.keep t u)).bare with sg := {}, freeIdx := 0 } : State) = { s.bare with sg := {}, freeIdx := 0 } :=
  settled_turn (fun v : State => { v with sg := {}, freeIdx := 0 }) (bare_of_offSage h)

@[simp] theorem closeInterval_offSage (s : State) (c i from_ to_ f ident : Nat) (low tempOk shed : Bool) :
    (s.closeInterval c i from_ to_ f ident low tempOk shed).offSage = s.offSage := by
  unfold State.closeInterval
  rw [publish_offSage, onImp_offSage]
  rfl

@[simp] theorem lowUnit_offSage (s : State) (q : TonePlan) (start c : Nat) (ib : Option (List Rat)) (lows freqs : List Nat) :
    (s.lowUnit q start c ib lows freqs).offSage = s.offSage := by
  unfold State.lowUnit
  exact foldl_keeps State.offSage (fun s f => by dsimp only; split <;> rfl) _ s

/-- What an interval end reads of a cell for the next one: its temperature and state of charge (06 R167). -/
def State.beginOf (s : State) (c : Nat) : Int × Rat := (s.cellTemp c, (s.cell c).soc)

theorem beginOf_of_offSage {a b : State} (h : a.offSage = b.offSage) : a.beginOf = b.beginOf := (congrArg State.beginOf h :)

/-! ### An interval with too few units (06 R170) -/

theorem imp_onImp (s : State) (c i : Nat) (f : ImpCell → ImpCell) (k j : Nat) :
    (s.onImp c i f).imp k j = if 8 * k + j = 8 * c + i then f (s.imp c i) else s.imp k j := Table.get_upd ..

/-- An estimate whose interval has fewer units than `n` required and none excluded, after `e` eligible intervals. -/
structure ImpCell.Short (n e : Nat) (x : ImpCell) : Prop where
  few : x.units.length < n
  none_excluded : x.excl = []
  eligible : x.eligible = e

theorem imp_of_sg {a b : State} (h : a.sg = b.sg) : a.imp = b.imp := by
  funext c i
  rw [State.imp, h]
  rfl

/-- An interval end writes one estimate; of a short one it says so, with status 3, and leaves it short (06 R166, R170). -/
theorem closeInterval_imp (s : State) (c i from_ to_ f ident : Nat) (tempOk shed : Bool) :
    ∃ g : ImpCell → ImpCell, (s.closeInterval c i from_ to_ f ident false tempOk shed).imp = (s.onImp c i g).imp ∧
      ∀ e, (s.imp c i).Short s.cfg.est.minWin e → (g (s.imp c i)).Short s.cfg.est.minWin e ∧ (g (s.imp c i)).status = 3 := by
  unfold State.closeInterval
  extract_lets x last us gone need cnt si few
  split
  extract_lets res sv sv2 mv bound weak big code0
  split
  rename_i s1 hfresh
  obtain rfl : s.freshRat.2 = s1 := by rw [hfresh]
  split
  split
  extract_lets
  rw [imp_of_sg (publish_sg ..)]
  refine ⟨_, rfl, fun e hshort => ?_⟩
  have hfew : few = true := Bool.or_eq_true_iff.2 (.inl (decide_eq_true ((List.length_filter_le ..).trans_lt hshort.few)))
  have hgone : gone = [] := by
    show List.filter _ (s.imp c i).excl = []
    rw [hshort.none_excluded]
    rfl
  have hcode0 : code0 = some 3 := by
    refine (if_pos hfew).trans ?_
    rw [hgone]
    exact congrArg some (ite_self 3)
  refine ⟨⟨(List.length_filter_le ..).trans_lt hshort.few, ?_, ?_⟩, ?_⟩
  · show List.filter _ (s.imp c i).excl = []
    rw [hshort.none_excluded]
    rfl
  · show (if code0.isNone then _ else (s.imp c i).eligible) = e
    rw [hcode0]
    exact hshort.eligible
  · show code0.getD _ = 3
    rw [hcode0]
    rfl

/-- The estimate of a cell and slot is short under the configuration in force. -/
def State.ShortAt (s : State) (c i e : Nat) : Prop := (s.imp c i).Short s.cfg.est.minWin e

/-- It is short, and its interval end has said so with status 3 (06 R170). -/
def State.ShortClosed (s : State) (c i e : Nat) : Prop := s.ShortAt c i e ∧ (s.imp c i).status = 3

section Closing

variable {s : State} {c i e k j from_ to_ f ident : Nat} {tempOk shed : Bool}

@[simp] theorem closeInterval_cfg {low : Bool} : (s.closeInterval k j from_ to_ f ident low tempOk shed).cfg = s.cfg :=
  (congrArg State.cfg (closeInterval_offSage s k j from_ to_ f ident low tempOk shed) :)

theorem closeInterval_imp_other (hkey : 8 * c + i ≠ 8 * k + j) :
    (s.closeInterval k j from_ to_ f ident false tempOk shed).imp c i = s.imp c i := by
  obtain ⟨g, himp, -⟩ := closeInterval_imp s k j from_ to_ f ident tempOk shed
  rw [himp, imp_onImp, if_neg hkey]

theorem closeInterval_closes (hkey : 8 * c + i = 8 * k + j) (hshort : s.ShortAt c i e) :
    (s.closeInterval k j from_ to_ f ident false tempOk shed).ShortClosed c i e := by
  obtain ⟨g, himp, hcloses⟩ := closeInterval_imp s k j from_ to_ f ident tempOk shed
  have hsame : s.imp k j = s.imp c i := congrArg (fun n => s.sg.imp.get n {}) hkey.symm
  rw [hsame] at hcloses
  rw [State.ShortClosed, State.ShortAt, closeInterval_cfg, himp, imp_onImp, if_pos hkey, hsame]
  exact hcloses e hshort

theorem closeInterval_shortAt (hshort : s.ShortAt c i e) : (s.closeInterval k j from_ to_ f ident false tempOk shed).ShortAt c i e := by
  by_cases hkey : 8 * c + i = 8 * k + j
  · exact (closeInterval_closes hkey hshort).1
  · rwa [State.ShortAt, closeInterval_cfg, closeInterval_imp_other hkey]

theorem closeInterval_shortClosed (hclosed : s.ShortClosed c i e) :
    (s.closeInterval k j from_ to_ f ident false tempOk shed).ShortClosed c i e := by
  by_cases hkey : 8 * c + i = 8 * k + j
  · exact closeInterval_closes hkey hclosed.1
  · refine ⟨closeInterval_shortAt hclosed.1, ?_⟩
    rw [closeInterval_imp_other hkey]
    exact hclosed.2

end Closing

/-! ### The interval end (06 R164, R166, R170) -/

/-- The interval end of one slot of a cell, where the slot belongs to the window band of the plan. -/
def closeSlot (p : TonePlan) (to_ c : Nat) (tempOk : Bool) (s : State) (i : Nat) : State :=
  if i < p.count ∧ windowBand (p.freqs.getD i 0) then
    s.closeInterval c i (to_ - 1000) to_ (p.freqs.getD i 0) p.ident false tempOk s.sg.shedInterval
  else s

/-- The interval end of all slots of a cell. -/
def closeSlots (p : TonePlan) (to_ : Nat) (s : State) (c : Nat) : State :=
  (List.range 8).foldl (closeSlot p to_ c
    (decide ((s.sg.winBegin.get c (noTemp, 0)).1 = noTemp) || s.steady c (s.sg.winBegin.get c (noTemp, 0)))) s

/-- An interval has ended: the next one begins, nothing shed, from the figures of this instant (06 R164, R167, R180). -/
def State.nextInterval (s : State) : State :=
  s.onSage fun g => { g with
    shedInterval := false
    winBegin := s.cfg.allCells.foldl (fun t c => t.put c (noTemp, 0) (s.beginOf c)) g.winBegin }

theorem nextInterval_winBegin {s : State} {c : Nat} (hc : c ∈ s.cfg.allCells) : s.nextInterval.sg.winBegin.get c (noTemp, 0) = s.beginOf c :=
  get_foldl_put_of_mem hc ..

/-- A meaning that stops where Sage does not run goes on. -/
theorem sage_goes_on {s : State} (hruns : s.sageRuns = true) (t : Nat) : ¬(!(s.begin t).sageRuns) = true := by
  rw [show (s.begin t).sageRuns = true from hruns]
  decide

theorem exec_impedanceIntervalEnd {t : Nat} {p : TonePlan} {s : State} (hruns : s.sageRuns = true)
    (hplan : s.planAt (((s.begin t).sweepAbs / 1000 * 1000 + two32 - 1) % two32) = some p) (hturn : (s.begin t).turnOpen 4 (sec 1) 0 = true) :
    exec (.impedanceIntervalEnd t) s = s.run t fun u => (u.cfg.allCells.foldl (closeSlots p (u.sweepAbs / 1000 * 1000)) (u.turnTaken 4)).nextInterval := by
  have hplan : (s.begin t).planAt (((s.begin t).sweepAbs / 1000 * 1000 + two32 - 1) % two32) = some p := hplan
  have hmeaning : exec (.impedanceIntervalEnd t) s = execImpedanceIntervalEnd t s := rfl
  rw [hmeaning, execImpedanceIntervalEnd, run_eq, run_eq, if_neg (sage_goes_on hruns t), hplan]
  dsimp only
  rw [turn_open hturn]
  rfl

@[simp] theorem closeSlot_offSage (p : TonePlan) (to_ c : Nat) (tempOk : Bool) (s : State) (i : Nat) :
    (closeSlot p to_ c tempOk s i).offSage = s.offSage := by
  unfold closeSlot
  split
  · exact closeInterval_offSage ..
  · rfl

theorem closeCells_offSage (p : TonePlan) (to_ : Nat) (l : List Nat) (s : State) : (l.foldl (closeSlots p to_) s).offSage = s.offSage :=
  foldl_keeps State.offSage (fun u c => foldl_keeps State.offSage (closeSlot_offSage p to_ c _) _ u) l s

section Slots

variable {p : TonePlan} {to_ k c i j e : Nat} {tempOk : Bool} {s : State}

theorem closeSlot_shortAt (hshort : s.ShortAt c i e) : (closeSlot p to_ k tempOk s j).ShortAt c i e := by
  unfold closeSlot
  split
  · exact closeInterval_shortAt hshort
  · exact hshort

theorem closeSlot_shortClosed (hclosed : s.ShortClosed c i e) : (closeSlot p to_ k tempOk s j).ShortClosed c i e := by
  unfold closeSlot
  split
  · exact closeInterval_shortClosed hclosed
  · exact hclosed

theorem closeSlots_shortAt (hshort : s.ShortAt c i e) : (closeSlots p to_ s k).ShortAt c i e :=
  List.foldlRecOn (motive := fun u : State => u.ShortAt c i e) _ _ hshort fun _ hu _ _ => closeSlot_shortAt hu

theorem closeSlots_shortClosed (hclosed : s.ShortClosed c i e) : (closeSlots p to_ s k).ShortClosed c i e :=
  List.foldlRecOn (motive := fun u : State => u.ShortClosed c i e) _ _ hclosed fun _ hu _ _ => closeSlot_shortClosed hu

variable (hi : i < 8) (hslot : i < p.count) (hband : windowBand (p.freqs.getD i 0) = true) (hshort : s.ShortAt c i e)
include hi hslot hband hshort

theorem closeSlots_closes : (closeSlots p to_ s c).ShortClosed c i e := by
  refine foldl_reaches (A := fun u => u.ShortAt c i e) (B := fun u => u.ShortClosed c i e) (fun _ _ _ hu => closeSlot_shortAt hu) (fun u hu => ?_)
    (fun _ _ hu => closeSlot_shortClosed hu) _ (List.mem_range.2 hi) s hshort
  rw [closeSlot, if_pos ⟨hslot, hband⟩]
  exact closeInterval_closes rfl hu

/-- The interval end of every cell of a list closes what is short in each of them. -/
theorem closeCells_closes {l : List Nat} (hc : c ∈ l) : (l.foldl (closeSlots p to_) s).ShortClosed c i e :=
  foldl_reaches (f := closeSlots p to_) (A := fun u => u.ShortAt c i e) (B := fun u => u.ShortClosed c i e) (fun _ _ _ hu => closeSlots_shortAt hu)
    (fun _ hu => closeSlots_closes hi hslot hband hu) (fun _ _ hu => closeSlots_shortClosed hu) l hc s hshort

end Slots

/-! ### The low-band sub-block (06 R157, R164, R167) -/

/-- A sub-block has ended: the next one begins with nothing excluded, from the figures of this instant (06 R164, R167, R180). -/
def State.nextSubblock (s : State) : State :=
  s.onSage fun g => { g with
    excludedSub := false
    lowBegin := s.cfg.allCells.foldl (fun t c => t.upd c [] fun l => (s.beginOf c :: l).take 6) g.lowBegin }

theorem nextSubblock_lowBegin {s : State} {c : Nat} (hc : c ∈ s.cfg.allCells) : (s.nextSubblock.sg.lowBegin.get c []).head? = some (s.beginOf c) :=
  head_foldl_upd_of_mem hc s.beginOf 5 _

/-- A sub-block end writes units and estimates, then the next one begins. -/
theorem exec_lowBandSubblockEnd {t : Nat} {p : TonePlan} {s : State} (hruns : s.sageRuns = true)
    (hplan : s.planAt (((s.begin t).sweepAbs / 10000 * 10000 - 10000) % two32) = some p) (hturn : (s.begin t).turnOpen 5 (sec 10) 0 = true) :
    ∃ u : State, u.offSage = ((s.begin t).turnTaken 5).offSage ∧ exec (.lowBandSubblockEnd t) s = .next (s.settle (s.keep t u.nextSubblock)) := by
  have hmeaning : exec (.lowBandSubblockEnd t) s = execLowBandSubblockEnd t s := rfl
  rw [hmeaning, execLowBandSubblockEnd, run_eq, if_neg (sage_goes_on hruns t)]
  extract_lets start
  have hplan : (s.begin t).planAt (start % two32) = some p := hplan
  rw [hplan]
  dsimp only
  rw [turn_open hturn]
  refine ⟨_, ?_, rfl⟩
  rw [foldl_keeps State.offSage, foldl_keeps State.offSage]
  · exact fun u b => foldl_keeps State.offSage (fun v c => lowUnit_offSage ..) _ u
  · exact fun u c => foldl_keeps State.offSage (fun v f => closeInterval_offSage ..) _ u

/-! ### Fits (06 R171 to R173, R177, R178) -/

/-- The state without the plating and contact indicators, the baselines, records, publications and the marks of items to write. -/
def State.offIndicators (s : State) : State :=
  { s.quiet with ra := {}, sg := { s.sg with plating := {}, platingRun := {}, bases := {}, contactInd := {} } }

/-- The state without fits and what is drawn from them. -/
def State.offFit (s : State) : State :=
  { s.offIndicators with sg := { s.offIndicators.sg with fits := {}, islandR0 := {} } }

theorem offFit_of_offIndicators {a b : State} (h : a.offIndicators = b.offIndicators) : a.offFit = b.offFit :=
  (congrArg (fun v : State => ({ v with sg := { v.sg with fits := {}, islandR0 := {} } } : State)) h :)

theorem fit_of_offIndicators {a b : State} (h : a.offIndicators = b.offIndicators) : a.fit = b.fit := (congrArg State.fit h :)

theorem bare_of_offFit {a b : State} (h : a.offFit = b.offFit) :
    ({ a.bare with sg := {}, ra := {} } : State) = { b.bare with sg := {}, ra := {} } :=
  (congrArg (fun v : State => ({ v.bare with sg := {}, ra := {} } : State)) h :)

@[simp] theorem record_offIndicators (s : State) (e : Ev) (n : Nat) (d : List Nat) : (s.record e n d).offIndicators = s.offIndicators :=
  (congrArg State.offIndicators (record_quiet s e n d) :)

@[simp] theorem publish_offFit (s : State) (o : Nat) (b : List Nat) : (s.publish o b).offFit = s.offFit :=
  (congrArg State.offFit (publish_quiet s o b) :)

@[simp] theorem platingCell_offIndicators (s : State) (c : Nat) : (s.platingCell c).offIndicators = s.offIndicators := by
  unfold State.platingCell
  extract_lets
  split
  · rw [record_offIndicators]; rfl
  · rfl

@[simp] theorem contactCell_offIndicators (s : State) (c : Nat) : (s.contactCell c).offIndicators = s.offIndicators := by
  unfold State.contactCell
  extract_lets f b t atRef newDay samples med fix b' s1 n s2
  have hs2 : s2.offIndicators = s.offIndicators := by
    show (if _ then _ else _ : State).offIndicators = _
    split <;> rfl
  split
  · rfl
  · split
    · rw [record_offIndicators]; exact hs2
    · exact hs2

@[simp] theorem fitCell_offFit (s : State) (p : TonePlan) (c : Nat) : (s.fitCell p c).offFit = s.offFit := by
  unfold State.fitCell
  extract_lets
  rw [publish_offFit]
  rfl

/-- The sweep is read off the clock and the configuration, whatever becomes of the turns. -/
theorem turns_sweepNo (s : State) (f : Table Nat → Table Nat) : (s.onThyme fun h => { h with turns := f h.turns }).sweepNo = s.sweepNo := rfl

theorem turnTaken_sweepNo (s : State) (k : Nat) : (s.turnTaken k).sweepNo = s.sweepNo := turns_sweepNo s fun tb => tb.put k 0 (s.sinceEpoch + 1)

theorem fit_of_sg {a b : State} (h : a.sg = b.sg) : a.fit = b.fit := by
  funext c
  rw [State.fit, h]
  rfl

theorem fitCell_fit_other {c k : Nat} (hne : c ≠ k) (s : State) (p : TonePlan) : (s.fitCell p k).fit c = s.fit c := by
  unfold State.fitCell
  extract_lets
  rw [State.fit, publish_sg]
  exact Table.get_put_other _ hne _ _

/-- The slots of a cell whose valid estimate belongs to the plan (06 R171). -/
def State.okSlots (s : State) (p : TonePlan) (c : Nat) : List Nat :=
  (List.range p.count).filter fun i => decide ((s.imp c i).okFreq ≠ 0 ∧ (s.imp c i).okFreq = p.freqs.getD i 0)

/-- Fewer than 4 valid estimates give status 2 and the numbers of the fit before (06 R171, R172). -/
theorem fitCell_fit_few {p : TonePlan} {s : State} {c : Nat} (hfew : (s.okSlots p c).length < 4) :
    (s.fitCell p c).fit c = { s.fit c with status := 2, sweep := s.sweepNo } := by
  unfold State.fitCell
  extract_lets ok fs lo hi enough old f
  have hnot : enough = false := Bool.and_eq_false_imp.2 fun henough => absurd (of_decide_eq_true henough) hfew.not_ge
  rw [State.fit, publish_sg]
  refine (Table.get_put_same ..).trans (if_pos ?_)
  rw [hnot]
  rfl

/-- One cell of EQUIVALENT_CIRCUIT_FIT: its fit, then the plating and contact indicators. -/
def fitStep (p : TonePlan) (s : State) (c : Nat) : State := ((s.fitCell p c).platingCell c).contactCell c

theorem fitStep_offIndicators (p : TonePlan) (s : State) (c : Nat) : (fitStep p s c).offIndicators = (s.fitCell p c).offIndicators := by
  rw [fitStep, contactCell_offIndicators, platingCell_offIndicators]

theorem fitStep_offFit (p : TonePlan) (s : State) (c : Nat) : (fitStep p s c).offFit = s.offFit :=
  (offFit_of_offIndicators (fitStep_offIndicators p s c)).trans (fitCell_offFit s p c)

theorem fitStep_fit (p : TonePlan) (s : State) (c k : Nat) : (fitStep p s k).fit c = (s.fitCell p k).fit c :=
  congrFun (fit_of_offIndicators (fitStep_offIndicators p s k)) c

theorem exec_equivalentCircuitFit {t : Nat} {p : TonePlan} {s : State} (hruns : s.sageRuns = true)
    (hplan : s.planAt (s.begin t).sweepNo = some p) (hturn : (s.begin t).turnOpen 6 (sec 10) 0 = true) :
    exec (.equivalentCircuitFit t) s = s.run t fun u => u.cfg.allCells.foldl (fitStep p) (u.turnTaken 6) := by
  have hplan : (s.begin t).planAt (s.begin t).sweepNo = some p := hplan
  have hmeaning : exec (.equivalentCircuitFit t) s = execEquivalentCircuitFit t s := rfl
  rw [hmeaning, execEquivalentCircuitFit, run_eq, run_eq, if_neg (sage_goes_on hruns t), hplan]
  dsimp only
  rw [turn_open hturn]
  rfl

/-- A cell with fewer than 4 valid estimates has status 2 and its former numbers, whatever the fits of the others give. -/
theorem fits_few {p : TonePlan} {s : State} {c : Nat} {l : List Nat} (hc : c ∈ l) (hfew : (s.okSlots p c).length < 4) :
    (l.foldl (fitStep p) s).fit c = { s.fit c with status := 2, sweep := s.sweepNo } := by
  have hfits (u : State) (hu : u.offFit = s.offFit) : (fitStep p u c).fit c = { u.fit c with status := 2, sweep := s.sweepNo } := by
    have hslots : u.okSlots p c = s.okSlots p c := (congrArg (fun v : State => v.okSlots p c) hu :)
    have hsweep : u.sweepNo = s.sweepNo := (congrArg State.sweepNo hu :)
    rw [fitStep_fit, fitCell_fit_few (by rw [hslots]; exact hfew), hsweep]
  have hother (u : State) {k : Nat} (hk : k ≠ c) : (fitStep p u k).fit c = u.fit c := by
    rw [fitStep_fit, fitCell_fit_other hk.symm]
  refine (foldl_reaches (A := fun u => u.offFit = s.offFit ∧ u.fit c = s.fit c)
    (B := fun u => u.offFit = s.offFit ∧ u.fit c = { s.fit c with status := 2, sweep := s.sweepNo }) ?_ ?_ ?_ l hc s ⟨rfl, rfl⟩).2
  · rintro u k hk ⟨hu, hfit⟩
    exact ⟨(fitStep_offFit ..).trans hu, (hother u hk).trans hfit⟩
  · rintro u ⟨hu, hfit⟩
    exact ⟨(fitStep_offFit ..).trans hu, by rw [hfits u hu, hfit]⟩
  · rintro u k ⟨hu, hfit⟩
    refine ⟨(fitStep_offFit ..).trans hu, ?_⟩
    by_cases hk : k = c
    · rw [hk, hfits u hu, hfit]
    · rw [hother u hk, hfit]

/-! ### Internal temperature (06 R174, R176) -/

/-- The state without the internal temperatures, their disagreement, the ways to equilibrium, records and publications. -/
def State.offTInt (s : State) : State := { s.quiet with sg := { s.sg with tInt := {}, tIntDis := {}, eqRefs := {} } }

/-- One cell of INTERNAL_TEMPERATURE_UPDATE. -/
def tIntStep (s : State) (c : Nat) : State :=
  let s1 := s.onSage fun g => { g with tInt := g.tInt.put c noTemp (s.internalTemp c) }
  let n := if s1.intDisagrees c then s1.sg.tIntDis.get c 0 + 1 else 0
  let s2 := (s1.onSage fun g => { g with tIntDis := g.tIntDis.put c 0 n }).eqStep c
  s2.publish (0x04006000 + c) (s2.derivedRecord c)

theorem exec_internalTemperatureUpdate {t : Nat} {s : State} (hruns : s.sageRuns = true) (hturn : (s.begin t).turnOpen 7 (sec 1) 0 = true) :
    exec (.internalTemperatureUpdate t) s = s.run t fun u => u.cfg.allCells.foldl tIntStep (u.turnTaken 7) := by
  have hmeaning : exec (.internalTemperatureUpdate t) s = execInternalTemperatureUpdate t s := rfl
  rw [hmeaning, execInternalTemperatureUpdate, run_eq, run_eq, if_neg (sage_goes_on hruns t), turn_open hturn]
  rfl

theorem bare_of_offTInt {a b : State} (h : a.offTInt = b.offTInt) : ({ a.bare with sg := {} } : State) = { b.bare with sg := {} } :=
  (congrArg (fun v : State => ({ v.bare with sg := {} } : State)) h :)

@[simp] theorem publish_offTInt (s : State) (o : Nat) (b : List Nat) : (s.publish o b).offTInt = s.offTInt :=
  (congrArg State.offTInt (publish_quiet s o b) :)

@[simp] theorem eqStep_offTInt (s : State) (c : Nat) : (s.eqStep c).offTInt = s.offTInt := rfl

@[simp] theorem tIntStep_offTInt (s : State) (c : Nat) : (tIntStep s c).offTInt = s.offTInt := by
  unfold tIntStep
  extract_lets
  rw [publish_offTInt, eqStep_offTInt]
  rfl

theorem tIntStep_tInt (s : State) (c : Nat) : (tIntStep s c).sg.tInt = s.sg.tInt.put c noTemp (s.internalTemp c) := by
  unfold tIntStep
  extract_lets
  rw [publish_sg]
  rfl

/-- Every cell of the list has its internal temperature of the beginning: no cell's figure enters another's. -/
theorem tIntSteps_get {s : State} {c : Nat} {l : List Nat} (hc : c ∈ l) : (l.foldl tIntStep s).sg.tInt.get c noTemp = s.internalTemp c := by
  have hfigure (u : State) (hu : u.offTInt = s.offTInt) : u.internalTemp c = s.internalTemp c :=
    (congrArg (fun v : State => v.internalTemp c) hu :)
  refine (foldl_reaches (A := fun u => u.offTInt = s.offTInt) (B := fun u => u.offTInt = s.offTInt ∧ u.sg.tInt.get c noTemp = s.internalTemp c)
    (fun u k _ hu => (tIntStep_offTInt u k).trans hu) (fun u hu => ⟨(tIntStep_offTInt u c).trans hu, ?_⟩) ?_ l hc s rfl).2
  · rw [tIntStep_tInt, Table.get_put_same, hfigure u hu]
  · rintro u k ⟨hu, hheld⟩
    refine ⟨(tIntStep_offTInt u k).trans hu, ?_⟩
    rw [tIntStep_tInt, Table.get_put]
    split
    case isTrue hsame => rw [← hsame, hfigure u hu]
    case isFalse => exact hheld

/-! ### The first equilibrium (06 R175) -/

/-- A cell out of equilibrium, or with no dR, learns nothing. -/
theorem equilibrium_none {c : Nat} {s : State} (hnot : s.dR c = none ∨ s.atEquilibrium c = false) : equilibrium c s = s := by
  unfold equilibrium
  obtain hnone | haway := hnot
  · rw [hnone]
  · rw [haway]
    split <;> rfl

/-- The state without Sage, the radio, records and publications. -/
def State.offLearning (s : State) : State := { s.bare with sg := {}, ra := {} }

/-- The first equilibrium reached sets a and keeps its temperature, and leaves b and the slope as they are. -/
theorem equilibrium_first {c : Nat} {d : Rat} {s : State} (hd : s.dR c = some d) (hat : s.atEquilibrium c = true)
    (hfirst : (s.coef c (s.socBand c)).flags.testBit 0 = false) (hlo : (s.coef c (s.socBand c)).lo = none) (hhi : (s.coef c (s.socBand c)).hi = none) :
    (equilibrium c s).offLearning = s.offLearning ∧ ∃ k, (equilibrium c s).sg.coefs = s.sg.coefs.put (4 * c + s.socBand c) {} k ∧
      k.flags = (s.coef c (s.socBand c)).flags ||| 5 ∧ k.firstTemp = s.cellTemp c ∧ k.b = (s.coef c (s.socBand c)).b ∧
      k.slope = (s.coef c (s.socBand c)).slope := by
  unfold equilibrium
  split
  case h_1 hnone => exact absurd (hd.symm.trans hnone) (Option.some_ne_none d)
  case h_2 =>
    rw [if_neg (by rw [hat]; decide)]
    extract_lets band c0 f temp inv p far b slope c' bs r ref bs' s1 n s2
    have hfar : far = none := by
      show farPoint p (s.coef c (s.socBand c)).lo (s.coef c (s.socBand c)).hi = none
      rw [hlo, hhi]
      rfl
    have hs2 : s2.sg = s1.sg ∧ s2.offLearning = s.offLearning := by
      show State.sg (if _ then _ else _) = _ ∧ State.offLearning (if _ then _ else _) = _
      split <;> exact ⟨rfl, rfl⟩
    have hend : (if bs'.tempCo = bs.tempCo then s2 else s2.markItem n 5).sg = s1.sg ∧
        (if bs'.tempCo = bs.tempCo then s2 else s2.markItem n 5).offLearning = s.offLearning := by
      split <;> exact hs2
    refine ⟨hend.2, c', by rw [hend.1]; rfl, ?_, if_neg (ne_true_of_eq_false hfirst), ?_, ?_⟩
    · show c0.flags ||| (if far.isSome = true then 15 else 5) = _
      rw [hfar]
      rfl
    · show (if far.isSome = true then _ else c0.b) = _
      rw [hfar]
      rfl
    · show (if far.isSome = true then _ else c0.slope) = _
      rw [hfar]
      rfl

/-! ### Sage's time (06 R179, R180) -/

@[simp] theorem sample_sg (s : State) (n : Nat) (v : Int) : (s.sample n v).sg = s.sg := by
  unfold State.sample
  dsimp only
  split
  · rw [record_sg]; rfl
  · rfl

/-- The time a cycle gives its foreground, in us: 850, and beyond it the credit that the background of the last cycles leaves (06 R179). -/
def State.foregroundTime (s : State) (work : Nat) : Nat :=
  min (s.sg.fgLeft + work) (850 + if s.sg.fgLeft + work ≤ 850 then 0 else min 150 (s.sg.bgHist.foldl (· + ·) 0 + 150 - 10000))

/-- The foreground work that a cycle carries on, in us. -/
def State.foregroundLeft (s : State) (work : Nat) : Nat := s.sg.fgLeft + work - s.foregroundTime work

/-- The figures of Sage after a cycle that sheds no work: none is left, or it has been carried for fewer than 4 cycles (06 R179, R180). -/
theorem sageCycle_unshed {work : Nat} {s : State} (hunshed : s.foregroundLeft work = 0 ∨ s.sg.carried < 4) :
    (sageCycle work s).sg = { s.sg with
      fgLeft := s.foregroundLeft work
      bgHist := ((if s.sg.fgLeft + work ≤ 850 then 150 else 1000 - s.foregroundTime work) :: s.sg.bgHist).take 99
      carried := if s.foregroundLeft work = 0 then 0 else s.sg.carried + 1
      carries := if s.foregroundLeft work = 0 then s.sg.carries else wrapInc s.sg.carries
      corrDecimated := if s.foregroundLeft work = 0 then false else s.sg.corrDecimated } := by
  unfold sageCycle
  extract_lets g fg spent credit fgTime left bg carried shed
  have hshed : shed = false := by
    refine decide_eq_false (Nat.not_lt.2 ?_)
    show (if s.foregroundLeft work = 0 then 0 else s.sg.carried + 1) ≤ 4
    split
    · decide
    · omega
  split
  rename_i shedLeft s0 hfree
  obtain rfl : (freeIn 0 left s).2 = s0 := by rw [hfree]
  extract_lets s1 s2
  rw [apply_ite State.sg, sample_sg, ite_self, sample_sg, sample_sg]
  simp only [s1, State.onSage_sg, hshed, Bool.or_false, Bool.false_and, Bool.false_eq_true, if_false]
  rfl

/-- Work that fits in 850 us leaves none (06 R179). -/
theorem foregroundLeft_of_fits {work : Nat} {s : State} (hfits : s.sg.fgLeft + work ≤ 850) : s.foregroundLeft work = 0 := by
  rw [State.foregroundLeft, State.foregroundTime, if_pos hfits]
  omega

/-- Work beyond a whole cycle is carried but for the foreground's time and its credit (06 R179). -/
theorem foregroundLeft_of_overruns {work : Nat} {s : State} (hover : 1000 < s.sg.fgLeft + work) :
    s.foregroundLeft work + 850 + min 150 (s.sg.bgHist.foldl (· + ·) 0 + 150 - 10000) = s.sg.fgLeft + work := by
  rw [State.foregroundLeft, State.foregroundTime, if_neg (by omega)]
  omega

theorem foregroundLeft_pos {work : Nat} {s : State} (hover : 1000 < s.sg.fgLeft + work) : s.foregroundLeft work ≠ 0 := by
  have hleft := foregroundLeft_of_overruns hover
  omega

theorem exec_sageCycle {t work : Nat} {s : State} (hruns : s.sageRuns = true) (hturn : (s.begin t).turnOpen 8 (ms 1) 0 = true) :
    exec (.sageCycle t work) s = s.run t fun u => sageCycle work (u.turnTaken 8) := by
  have hmeaning : exec (.sageCycle t work) s = execSageCycle t work s := rfl
  rw [hmeaning, execSageCycle, run_eq, run_eq, if_pos (show (s.begin t).sageRuns = true from hruns), turn_open hturn]

/-- No plan is in force where none is kept (06 R153). -/
theorem planAt_of_none {s : State} (hnone : s.sg.plans = []) (n : Nat) : s.planAt n = none := by
  rw [State.planAt, State.plansInUse, hnone]
  exact congrArg (List.find? _) (ite_self [])

/-- Settles O17: an interval, a sub-block, a fit and a temperature by what its fold over the cells leaves of each cell, learning by whether the cell is in
equilibrium, and a cycle by the work it leaves. -/
theorem impedanceEstimates : Obligations.ImpedanceEstimates := by
  have hinterval (t : Nat) (s : State) : exec (.impedanceIntervalEnd t) s = execImpedanceIntervalEnd t s := rfl
  have hsubblock (t : Nat) (s : State) : exec (.lowBandSubblockEnd t) s = execLowBandSubblockEnd t s := rfl
  have hfit (t : Nat) (s : State) : exec (.equivalentCircuitFit t) s = execEquivalentCircuitFit t s := rfl
  have hlearning (t : Nat) (c : Fin 2048) (s : State) : exec (.equilibriumLearning t c) s = execEquilibriumLearning t c s := rfl
  refine ⟨?noPlan, ?interval, ?subblock, ?fit, ?temperature, ?learnsNone, ?learns, ?fits, ?overruns⟩
  case noPlan =>
    intro t s hnone
    have hplan (n : Nat) : (s.begin t).planAt n = none := planAt_of_none (s := s.begin t) hnone n
    refine ⟨idles_of (hinterval t s) ?_, idles_of (hsubblock t s) ?_, idles_of (hfit t s) ?_⟩
    · simp only [hplan, ite_self]
    · simp only [hplan, ite_self]
    · simp only [hplan, ite_self]
  case interval =>
    intro t p s hruns hplan hturn
    have hkept := closeCells_offSage p ((s.begin t).sweepAbs / 1000 * 1000) s.cfg.allCells ((s.begin t).turnTaken 4)
    refine answers_of (exec_impedanceIntervalEnd hruns hplan hturn)
      ⟨by rw [settle_sg]; rfl, fun c hc => ?_, fun c i hc hi hslot hband hfew hnone => ?_, settled_offSage hkept⟩
    · have hcells := congrArg (fun u : State => u.cfg.allCells) hkept
      rw [settle_sg, keep_sg]
      exact (nextInterval_winBegin (hcells.symm ▸ hc)).trans (congrFun (beginOf_of_offSage hkept) c)
    · have hclosed := closeCells_closes (to_ := (s.begin t).sweepAbs / 1000 * 1000) (s := (s.begin t).turnTaken 4) hi hslot hband ⟨hfew, hnone, rfl⟩ hc
      rw [imp_of_sg (settle_sg ..)]
      exact ⟨hclosed.2, hclosed.1.eligible⟩
  case subblock =>
    intro t p s hruns hplan hturn
    obtain ⟨u, hkept, hmeaning⟩ := exec_lowBandSubblockEnd hruns hplan hturn
    refine ⟨_, hmeaning, by rw [settle_sg]; rfl, fun c hc => ?_, settled_offSage hkept⟩
    have hcells : u.cfg.allCells = s.cfg.allCells := (congrArg (fun u : State => u.cfg.allCells) hkept :)
    rw [settle_sg, keep_sg, nextSubblock_lowBegin (hcells.symm ▸ hc), beginOf_of_offSage hkept]
    rfl
  case fit =>
    intro t p s hruns hplan hturn
    have hkept : (s.cfg.allCells.foldl (fitStep p) ((s.begin t).turnTaken 6)).offFit = ((s.begin t).turnTaken 6).offFit :=
      foldl_keeps State.offFit (fitStep_offFit p) ..
    refine answers_of (exec_equivalentCircuitFit hruns hplan hturn) ⟨fun c hc hfew => ?_,
      settled_turn (fun v : State => { v with sg := {}, ra := {} }) (bare_of_offFit hkept)⟩
    rw [fit_of_sg (settle_sg ..), fit_of_sg (keep_sg ..), begin_cfg, fits_few (s := (s.begin t).turnTaken 6) hc hfew]
    exact ⟨rfl, rfl, rfl, rfl, turnTaken_sweepNo ..⟩
  case temperature =>
    intro t s hruns hturn
    have hkept : (s.cfg.allCells.foldl tIntStep ((s.begin t).turnTaken 7)).offTInt = ((s.begin t).turnTaken 7).offTInt :=
      foldl_keeps State.offTInt tIntStep_offTInt ..
    refine answers_of (exec_internalTemperatureUpdate hruns hturn)
      ⟨fun c hc => ?_, settled_turn (fun v : State => { v with sg := {} }) (bare_of_offTInt hkept)⟩
    rw [settle_sg, keep_sg]
    exact tIntSteps_get hc
  case learnsNone =>
    intro t c s hnot
    refine idles_of (hlearning t c s) ?_
    rw [equilibrium_none (s := s.begin t) hnot, ite_self]
  case learns =>
    intro t c d s hruns hd hat hfirst hlo hhi
    obtain ⟨hkept, k, hcoefs, hflags, htemp, hb, hslope⟩ := equilibrium_first (s := s.begin t) hd hat hfirst hlo hhi
    have hmeaning : exec (.equilibriumLearning t c) s = s.run t (equilibrium c.val) := by
      rw [hlearning, execEquilibriumLearning, run_eq, run_eq, if_pos (show (s.begin t).sageRuns = true from hruns)]
    have hapart := settled_apart (fun u : State => { u with sg := {}, ra := {} }) (s := s) (u := equilibrium c.val (s.begin t)) hkept t
    refine answers_of hmeaning ?_
    have hk : (s.settle (s.keep t (equilibrium c.val (s.begin t)))).coef c.val (s.socBand c.val) = k := by
      rw [State.coef, settle_sg, keep_sg, hcoefs]
      exact Table.get_put_same ..
    rw [hk]
    exact ⟨hflags, htemp, hb, hslope, hapart⟩
  case fits =>
    intro t w s hruns hturn hfits
    have hleft := foregroundLeft_of_fits (s := (s.begin t).turnTaken 8) hfits
    refine answers_of (exec_sageCycle hruns hturn) ?_
    rw [settle_sg, keep_sg, sageCycle_unshed (.inl hleft), hleft, if_pos rfl, if_pos rfl, if_pos rfl]
    refine ⟨rfl, rfl, rfl, ?_, rfl⟩
    exact congrArg (fun b => (b :: s.sg.bgHist).take 99) (if_pos hfits)
  case overruns =>
    intro t w s hruns hturn hover hcarried
    have hleft := foregroundLeft_pos (s := (s.begin t).turnTaken 8) hover
    refine answers_of (exec_sageCycle hruns hturn) ?_
    rw [settle_sg, keep_sg, sageCycle_unshed (s := (s.begin t).turnTaken 8) (.inr hcarried), if_neg hleft, if_neg hleft]
    exact ⟨rfl, rfl, foregroundLeft_of_overruns (s := (s.begin t).turnTaken 8) hover, rfl⟩

end Sys2Proof.Machine

/-! The valve drives: their moves, stalls and homing runs, and the maintenance commands of valves and temperature sensors (10 R269, R277 to R281; 17 R436). -/

namespace Sys2Proof.Machine

open Sys2Proof

/-! ### Reads of a valve and of a temperature channel after a write -/

@[simp] theorem valve_onValve_same (s : State) (v : Nat) (f : Valve → Valve) : (s.onValve v f).valve v = f (s.valve v) := Table.get_upd_same ..

theorem valve_of_valves {a b : State} (h : a.tm.valves = b.tm.valves) (v : Nat) : a.valve v = b.valve v := congrArg (fun tb : Table Valve => tb.get v {}) h

theorem valve_of_tm {a b : State} (h : a.tm = b.tm) (v : Nat) : a.valve v = b.valve v := valve_of_valves (congrArg Therm.valves h) v

@[simp] theorem begin_valve (s : State) (t v : Nat) : (s.begin t).valve v = s.valve v := rfl

theorem settled_valve (s u : State) (t v : Nat) : (s.settle (s.keep t u)).valve v = u.valve v := valve_of_tm (settle_tm ..) v

@[simp] theorem writeValve_bare (s : State) (v : Nat) : (s.writeValve v).bare = s.bare := writeItem_bare ..

@[simp] theorem writeValve_valve (s : State) (v k : Nat) : (s.writeValve v).valve k = s.valve k := valve_of_tm (writeItem_tm ..) k

@[simp] theorem record_valve (s : State) (e : Ev) (n : Nat) (d : List Nat) (v : Nat) : (s.record e n d).valve v = s.valve v := valve_of_tm (record_tm ..) v

theorem tchan_onTchan_same (s : State) (c : Nat) (f : TempChan → TempChan) : (s.onTchan c f).tchan c = f (s.tchan c) := Table.get_upd_same ..

theorem tchan_onTchan_other (s : State) {c k : Nat} (h : k ≠ c) (f : TempChan → TempChan) : (s.onTchan c f).tchan k = s.tchan k :=
  Table.get_upd_other _ h ..

@[simp] theorem healSensor_sensor (s : State) (c : Nat) : ((s.healSensor c).tchan c).sensor = .healthy := congrArg TempChan.sensor (tchan_onTchan_same ..)

theorem healSensor_other (s : State) {c k : Nat} (h : k ≠ c) : (s.healSensor c).tchan k = s.tchan k := tchan_onTchan_other _ h _

theorem tchan_of_tm {a b : State} (h : a.tm = b.tm) (c : Nat) : a.tchan c = b.tchan c := congrArg (fun g : Therm => g.chans.get c {}) h

theorem settled_tchan (s u : State) (t c : Nat) : (s.settle (s.keep t u)).tchan c = u.tchan c := tchan_of_tm (settle_tm ..) c

/-- The state without the thermal parts. -/
def State.offTherm (s : State) : State := { s with tm := {} }

theorem settled_offTherm {s u : State} (h : u.bare.offTherm = s.bare.offTherm) (t : Nat) : (s.settle (s.keep t u)).bare.offTherm = s.bare.offTherm :=
  settled_apart State.offTherm h t

/-! ### The velocity word from a standstill (10 R277, R278) -/

/-- A rotor that stands carries nothing over in 1 000 ticks. -/
theorem ticks_of_standing {x : Valve} (hvel : x.vel = 0) (hacc : x.acc < two32) : x.ticks = (x.acc, 0) := by
  rw [Valve.ticks, hvel]
  exact Prod.ext (Nat.mod_eq_of_lt hacc) (Nat.div_eq_of_lt hacc)

/-- A rotor that stands below its target has nothing to reverse and no stopping distance, so its word rises by the acceleration up to the greatest one. -/
theorem nextVel_rises {x : Valve} (hhoming : x.homing = false) (hvel : x.vel = 0) (hbelow : x.pos < x.target) (accel top : Nat) :
    x.nextVel accel top = (min top (accel * two32 / 1000000000), true) := by
  simp [Valve.nextVel, wordRate, hhoming, hvel, hbelow, sub_eq_zero, hbelow.ne']

/-- A drive that makes no homing run, after a millisecond at a standstill: what the driver measures of it. -/
def Valve.stood (x : Valve) (k : CfgValve) (angle emf : Nat) : Valve :=
  { x with phase := ((x.phase : Int) % 256).toNat, loadAngle := angle, stallRun := x.stallAfter k angle emf, homing := false, homeTravel := 0 }

/-- The greatest velocity word of a move (10 R278, R279). -/
def State.topVel (s : State) (v : Nat) : Nat := if (s.valve v).halfSpeed then (s.valveCfg v).maxVel / 2 else (s.valveCfg v).maxVel

theorem velocityUpdate_rises {v : Nat} {s : State} (hhoming : (s.valve v).homing = false) (hvel : (s.valve v).vel = 0)
    (hbelow : (s.valve v).pos < (s.valve v).target) (hacc : (s.valve v).acc < two32) (angle emf : Nat) :
    velocityUpdate v angle emf s = s.onValve v fun x => { x.stood (s.valveCfg v) angle emf with
      vel := min (s.topVel v) ((s.valveCfg v).accel * two32 / 1000000000), opening := true } := by
  have haway : ((s.valve v).target - (s.valve v).pos).natAbs ≠ 0 := Int.natAbs_ne_zero.mpr (sub_ne_zero.mpr hbelow.ne')
  have hnext := nextVel_rises (x := (s.valve v).stood (s.valveCfg v) angle emf) rfl hvel hbelow (s.valveCfg v).accel (s.topVel v)
  simp only [Valve.stood] at hnext
  simp only [velocityUpdate, ticks_of_standing hvel hacc, hhoming, haway, Nat.le_zero, decide_false, Bool.and_false, Bool.false_and, Bool.false_eq_true,
    false_and, and_false, or_false, if_false, Nat.cast_zero, add_zero, sub_zero, neg_zero, ite_self]
  rw [← State.topVel, hnext]
  rfl

theorem exec_valveVelocityUpdate (t : Nat) (v : Fin 2) (m : MotorIn) (s : State) : exec (.valveVelocityUpdate t v m) s =
    s.run t fun u => if (u.valve v.val).moving then u.turn (0x20 + v.val) (ms 1) (velocityUpdate v.val m.angle m.emf) else u := rfl

/-! ### The end of a move and of its hold time (10 R278) -/

/-- The drive stands on its target. -/
def Valve.Arrived (x : Valve) : Prop := x.moving = true ∧ x.homing = false ∧ x.pos = x.target ∧ x.vel = 0

theorem Valve.arrived_iff {x : Valve} : (x.moving = true ∧ ¬x.homing = true ∧ x.pos = x.target ∧ x.vel = 0) ↔ x.Arrived := by
  rw [Valve.Arrived, Bool.not_eq_true]

/-- The meaning of VALVE_MOVE_END. -/
def moveEnd (v : Nat) (s : State) : State :=
  if (s.valve v).moving ∧ ¬(s.valve v).homing ∧ (s.valve v).pos = (s.valve v).target ∧ (s.valve v).vel = 0 then
    (s.onValve v fun x => { x with
      moving := false, energy := 1, holdUntil := some (s.now + ms (s.valveCfg v).holdMs), stalls := 0, halfSpeed := false }).writeValve v
  else s

theorem exec_valveMoveEnd (t : Nat) (v : Fin 2) (s : State) : exec (.valveMoveEnd t v) s = s.run t (moveEnd v.val) := rfl

theorem moveEnd_under_way {v : Nat} {s : State} (h : ¬(s.valve v).Arrived) : moveEnd v s = s := if_neg (mt Valve.arrived_iff.mp h)

theorem moveEnd_holds {v : Nat} {s : State} (h : (s.valve v).Arrived) : (moveEnd v s).bare = (s.onValve v fun x => { x with
    moving := false, energy := 1, holdUntil := some (s.now + ms (s.valveCfg v).holdMs), stalls := 0, halfSpeed := false }).bare := by
  rw [moveEnd, if_pos (Valve.arrived_iff.mpr h), writeValve_bare]

theorem exec_valveHoldTimeExpiry (t : Nat) (v : Fin 2) (s : State) : exec (.valveHoldTimeExpiry t v) s =
    s.run t fun u => if u.due (u.valve v.val).holdUntil then u.onValve v.val fun x => { x with energy := 0, holdUntil := none } else u := rfl

theorem due_of_reached {s : State} {d : Nat} {o : Option Nat} (ho : o = some d) (h : d ≤ s.now) : s.due o = true := by
  rw [ho]
  exact decide_eq_true h

theorem due_of_ahead {s : State} {o : Option Nat} (h : ∀ d, o = some d → s.now < d) : s.due o = false := by
  cases o with
  | none => rfl
  | some d => exact decide_eq_false (h d rfl).not_ge

/-! ### What a move that begins, and an answered homing, leave of the drive (10 R280, R281; 17 R436) -/

/-- The drive as a move to a target begins, or goes on to it. -/
def Valve.moveBegun (x : Valve) (target : Int) : Valve :=
  if x.moving then { x with target := target } else { x with target := target, moving := true, energy := 2, holdUntil := none, stallRun := 0 }

theorem startMove_valve (s : State) (v : Nat) (target : Int) : (s.startMove v target).valve v = (s.valve v).moveBegun target := by
  unfold State.startMove Valve.moveBegun
  dsimp only
  split
  · rw [valve_onValve_same]
  · rw [valve_onValve_same, writeValve_valve, valve_onValve_same, valve_onValve_same]

theorem Valve.moveBegun_moves (x : Valve) (target : Int) : (x.moveBegun target).moving = true ∧ (x.moveBegun target).target = target ∧
    (x.moveBegun target).retryAt = x.retryAt ∧ (x.moveBegun target).halfSpeed = x.halfSpeed := by
  unfold Valve.moveBegun
  split
  case isTrue hmoving => exact ⟨hmoving, rfl, rfl, rfl⟩
  case isFalse => exact ⟨rfl, rfl, rfl, rfl⟩

theorem onValve_offTherm (s : State) (v : Nat) (f : Valve → Valve) : (s.onValve v f).bare.offTherm = s.bare.offTherm := rfl

theorem startMove_offTherm (s : State) (v : Nat) (target : Int) : (s.startMove v target).bare.offTherm = s.bare.offTherm := by
  unfold State.startMove
  dsimp only
  split
  · rfl
  · rw [onValve_offTherm, writeValve_bare, onValve_offTherm, onValve_offTherm]

@[simp] theorem cmdFinal_tm (s : State) (code status reason : Nat) (r : List Nat) : (s.cmdFinal code status reason r).tm = s.tm :=
  cmdFinal_keeps State.tm (fun _ _ _ _ _ _ => rfl) ..

theorem homeAnswer_valve (s : State) (v : Nat) (ok : Bool) : (s.homeAnswer v ok).valve v = { s.valve v with homeCmd := false } := by
  unfold State.homeAnswer
  split
  case isTrue => rw [valve_of_tm (cmdFinal_tm ..), valve_onValve_same]
  case isFalse hnone =>
    rw [Bool.not_eq_true] at hnone
    rw [← hnone]

theorem refactor_valves (s : State) : s.refactor.tm.valves = s.tm.valves := by
  unfold State.refactor
  dsimp only
  split
  · rw [publish_tm]
    rfl
  · rfl

theorem coolCheck_valve (s : State) (l v : Nat) : (s.coolCheck l).valve v = s.valve v := by
  refine valve_of_valves ?_ v
  unfold State.coolCheck
  dsimp only
  split
  · rw [refactor_valves]
    rfl
  · rfl

/-! ### Stalls (10 R279, R281) -/

/-- Eight milliseconds in a row, of a rotor above the least velocity of stall detection, have shown a stall (10 R279). -/
structure State.Stalls (s : State) (v : Nat) : Prop where
  moving : (s.valve v).moving = true
  fast : ((s.valveCfg v).stallMin : Rat) < wordRate (s.valve v).vel
  shown : 8 ≤ (s.valve v).stallRun

theorem exec_valveStall (t : Nat) (v : Fin 2) (s : State) : exec (.valveStall t v) s = s.run t (valveStall v.val) := rfl

theorem valveStall_none {v : Nat} {s : State}
    (h : (s.valve v).moving = false ∨ wordRate (s.valve v).vel ≤ ((s.valveCfg v).stallMin : Rat) ∨ (s.valve v).stallRun < 8) : valveStall v s = s := by
  rw [← Bool.not_eq_true'] at h
  exact if_pos h

theorem State.Stalls.not_none {v : Nat} {s : State} (h : s.Stalls v) :
    ¬((!(s.valve v).moving) = true ∨ wordRate (s.valve v).vel ≤ ((s.valveCfg v).stallMin : Rat) ∨ (s.valve v).stallRun < 8) := by
  rw [Bool.not_eq_true', h.moving]
  exact not_or.mpr ⟨Bool.false_ne_true ∘ Eq.symm, not_or.mpr ⟨h.fast.not_ge, h.shown.not_gt⟩⟩

theorem valveStall_first {v : Nat} {s : State} (h : s.Stalls v) (hhoming : (s.valve v).homing = false) (hfirst : (s.valve v).stalls = 0) :
    (valveStall v s).bare = (s.onValve v fun x => { x with
      vel := 0, stallRun := 0, uncertain := true, stalls := 1, moving := false, energy := 2, retryAt := some (s.now + sec 1) }).bare := by
  unfold valveStall
  dsimp only
  rw [if_neg h.not_none, if_neg (by rw [hhoming]; exact Bool.false_ne_true), if_neg (by omega), record_bare, writeValve_bare]

theorem valveStall_second {v : Nat} {s : State} (h : s.Stalls v) (hhoming : (s.valve v).homing = false) (hsecond : 1 ≤ (s.valve v).stalls) :
    valveStall v s = (s.onValve v fun x => { x with stalls := 2 }).valveFaulted v := by
  unfold valveStall
  dsimp only
  rw [if_neg h.not_none, if_neg (by rw [hhoming]; exact Bool.false_ne_true), if_pos hsecond]

theorem valveStall_homing {v : Nat} {s : State} (h : s.Stalls v) (hhoming : (s.valve v).homing = true) : valveStall v s = s.homed v := by
  unfold valveStall
  dsimp only
  rw [if_neg h.not_none, if_pos hhoming]

theorem valveFaulted_valve (s : State) (v : Nat) : (s.valveFaulted v).valve v = { s.valve v with
    fault := true, uncertain := true, moving := false, homing := false, vel := 0, energy := 0, retryAt := none, holdUntil := none, homeCmd := false } := by
  unfold State.valveFaulted
  rw [coolCheck_valve, homeAnswer_valve, record_valve, writeValve_valve, valve_onValve_same]

/-- The drive is homed: it stands at the closed stop, position 0, and knows it. -/
structure Valve.AtClosedStop (x : Valve) : Prop where
  pos : x.pos = 0
  certain : x.uncertain = false
  sound : x.fault = false
  homed : x.homed = true
  ended : x.homing = false
  vel : x.vel = 0

theorem Valve.AtClosedStop.moveBegun {x : Valve} (h : x.AtClosedStop) (target : Int) : (x.moveBegun target).AtClosedStop := by
  unfold Valve.moveBegun
  split <;> exact { h with }

/-- The drive homes at the closed stop also where it leaves at once for the target of its loop. -/
theorem homed_atClosedStop (s : State) (v : Nat) : ((s.homed v).valve v).AtClosedStop := by
  unfold State.homed
  extract_lets s1 s2
  have hstop : (s2.valve v).AtClosedStop := by
    have htested : ((s1.homeAnswer v true).testDone 4).valve v = (s1.homeAnswer v true).valve v := rfl
    rw [coolCheck_valve, htested, homeAnswer_valve, writeValve_valve, valve_onValve_same]
    exact ⟨rfl, rfl, rfl, rfl, rfl, rfl⟩
  split
  · exact hstop
  · rw [startMove_valve]
    exact hstop.moveBegun _

/-! ### The retry after a first stall (10 R279) -/

/-- The meaning of VALVE_STALL_RETRY. -/
def stallRetry (v : Nat) (s : State) : State :=
  if s.due (s.valve v).retryAt ∧ ¬(s.valve v).fault then
    (s.onValve v fun x => { x with retryAt := none, halfSpeed := true }).startMove v (s.valve v).target
  else s

theorem exec_valveStallRetry (t : Nat) (v : Fin 2) (s : State) : exec (.valveStallRetry t v) s = s.run t (stallRetry v.val) := rfl

theorem stallRetry_none {v : Nat} {s : State} (h : s.due (s.valve v).retryAt = false ∨ (s.valve v).fault = true) : stallRetry v s = s := by
  refine if_neg fun hretry => ?_
  obtain hahead | hfault := h
  · exact Bool.false_ne_true (hahead.symm.trans hretry.1)
  · exact hretry.2 hfault

theorem stallRetry_valve {v : Nat} {s : State} (hdue : s.due (s.valve v).retryAt = true) (hsound : (s.valve v).fault = false) :
    (stallRetry v s).valve v = Valve.moveBegun { s.valve v with retryAt := none, halfSpeed := true } (s.valve v).target := by
  rw [stallRetry, if_pos ⟨hdue, by rw [hsound]; exact Bool.false_ne_true⟩, startMove_valve, valve_onValve_same]

theorem stallRetry_offTherm (v : Nat) (s : State) : (stallRetry v s).bare.offTherm = s.bare.offTherm := by
  unfold stallRetry
  split
  · rw [startMove_offTherm, onValve_offTherm]
  · rfl

/-! ### HOME_VALVE and CLEAR_SENSOR (10 R269, R281; 17 R436) -/

/-- The state without the thermal parts and the network. -/
def State.offThermNet (s : State) : State := { s with tm := {}, nt := {} }

theorem offThermNet_of_offNet {a b : State} (h : a.bare.offNet = b.bare.offNet) : a.bare.offThermNet = b.bare.offThermNet :=
  (congrArg (fun u : State => ({ u with tm := {} } : State)) h :)

theorem offThermNet_of_offTherm {a b : State} (h : a.bare.offTherm = b.bare.offTherm) : a.bare.offThermNet = b.bare.offThermNet :=
  (congrArg (fun u : State => ({ u with nt := {} } : State)) h :)

theorem settled_command {s v : State} {t : Nat} {m : Maint} (h : v.bare.offThermNet = ((s.begin t).commandTaken m).bare.offThermNet)
    (code status reason : Nat) (r : List Nat) : (s.settle (s.keep t (v.cmdAnswer m code status reason r))).bare.offThermNet = s.bare.offThermNet :=
  settled_apart State.offThermNet ((offThermNet_of_offNet (cmdAnswer_offNet ..)).trans (h.trans (offThermNet_of_offNet (begun_offNet ..)))) t

@[simp] theorem cmdAnswer_tm (s : State) (m : Maint) (code status reason : Nat) (r : List Nat) : (s.cmdAnswer m code status reason r).tm = s.tm := rfl

/-- A command answered without an effect of its own leaves the thermal parts as they are. -/
theorem answers_unchanged {c : Instr} {s : State} {t code status reason : Nat} {m : Maint} {r : List Nat} {body : State → State × Nat × Nat × List Nat}
    (he : exec c s = s.run t fun s => s.maint m code body) (htakes : s.takes m)
    (hbody : body ((s.begin t).commandTaken m) = ((s.begin t).commandTaken m, status, reason, r)) :
    Answers c s fun s' => (s'.tele m.key).client.stored = cmdReply code status reason r ∧ s'.tm = s.tm := by
  refine answers_taken he htakes hbody ?_
  rw [settle_tele, cmdAnswer_stored, settle_tm]
  exact ⟨rfl, rfl⟩

/-- The meaning of HOME_VALVE. -/
def homeValve (valve : Nat) (s : State) : State × Nat × Nat × List Nat :=
  if 2 ≤ valve then (s, stInvalid, 0, [])
  else if !s.pw.serviceEnable || !(s.valveCfg valve).enable || !s.ownValve valve then refuse 13 s
  else (s.startHoming valve true, stStarted, 0, [])

theorem exec_homeValve (t : Nat) (m : Maint) (v : Nat) (s : State) : exec (.homeValve t m v) s = s.run t fun s => s.maint m 0x0602 (homeValve v) := rfl

theorem homeValve_starts {v : Nat} {s : State} (hvalve : v < 2) (hservice : s.pw.serviceEnable = true) (henable : (s.valveCfg v).enable = true)
    (hown : s.ownValve v = true) : homeValve v s = (s.startHoming v true, stStarted, 0, []) := by
  rw [homeValve, if_neg hvalve.not_ge, if_neg (by rw [hservice, henable, hown]; decide)]

theorem startHoming_valve (s : State) (v : Nat) (cmd : Bool) : ((s.startHoming v cmd).valve v).homing = true ∧
    ((s.startHoming v cmd).valve v).moving = true ∧ ((s.startHoming v cmd).valve v).homeTravel = 0 := by
  unfold State.startHoming
  rw [valve_onValve_same, writeValve_valve, valve_onValve_same]
  exact ⟨rfl, rfl, rfl⟩

theorem startHoming_offTherm (s : State) (v : Nat) (cmd : Bool) : (s.startHoming v cmd).bare.offTherm = s.bare.offTherm := by
  unfold State.startHoming
  rw [onValve_offTherm, writeValve_bare, onValve_offTherm]

/-- The meaning of CLEAR_SENSOR. -/
def clearSensor (chan : Nat) (s : State) : State × Nat × Nat × List Nat :=
  if !isChannel chan then (s, stInvalid, 0, []) else if (s.tchan chan).sensor = .broken then done (s.healSensor chan) else done s

theorem exec_clearSensor (t : Nat) (m : Maint) (c : Nat) (s : State) : exec (.clearSensor t m c) s = s.run t fun s => s.maint m 0x0601 (clearSensor c) := rfl

theorem clearSensor_heals {c : Nat} {s : State} (hchannel : isChannel c = true) (hbroken : (s.tchan c).sensor = .broken) :
    clearSensor c s = done (s.healSensor c) := by
  rw [clearSensor, if_neg (by rw [hchannel]; decide), if_pos hbroken]

theorem healSensor_offTherm (s : State) (c : Nat) : (s.healSensor c).bare.offTherm = s.bare.offTherm := rfl

/-! ### The obligation -/

/-- Settles O22: each command by what its meaning leaves of the drive or the channel, in the branch its hypotheses choose. -/
theorem valveDrives : Obligations.ValveDrives := by
  refine ⟨?stands, ?rises, ?underWay, ?arrives, ?holdEnds, ?holds, ?noStall, ?firstStall, ?secondStall, ?closedStop, ?retries, ?waits, ?homeInvalid,
    ?homes, ?clears, ?clearInvalid⟩
  case stands =>
    intro t v m s hstands
    exact idles_of (exec_valveVelocityUpdate ..) (if_neg (ne_true_of_eq_false hstands))
  case rises =>
    intro t v m s x hmoving hhoming hvel hbelow hacc hturn
    have hrises := velocityUpdate_rises (s := (s.begin t).turnTaken (0x20 + v.val)) hhoming hvel hbelow hacc m.angle m.emf
    have hmeaning : exec (.valveVelocityUpdate t v m) s = s.run t fun u => velocityUpdate v.val m.angle m.emf (u.turnTaken (0x20 + v.val)) := by
      rw [exec_valveVelocityUpdate, run_eq, run_eq, if_pos (show ((s.begin t).valve v.val).moving = true from hmoving), turn_open hturn]
    refine answers_of hmeaning ?_
    rw [hrises, settled_valve, valve_onValve_same]
    exact ⟨rfl, rfl, rfl, rfl, settled_turn State.offTherm (onValve_offTherm ..)⟩
  case underWay =>
    intro t v s hnot
    refine idles_of (exec_valveMoveEnd ..) (moveEnd_under_way fun ⟨hmoving, hhoming, hpos, hvel⟩ => ?_)
    obtain h | h | h | h := hnot
    · exact Bool.false_ne_true (h.symm.trans hmoving)
    · exact Bool.false_ne_true (hhoming.symm.trans h)
    · exact h hpos
    · exact h hvel
  case arrives =>
    intro t v s hmoving hhoming hpos hvel
    exact does_of (exec_valveMoveEnd ..) (moveEnd_holds (s := s.begin t) ⟨hmoving, hhoming, hpos, hvel⟩)
  case holdEnds =>
    intro t v d s hhold hreached
    refine does_of (exec_valveHoldTimeExpiry ..) ?_
    rw [begin_valve, if_pos (due_of_reached (s := s.begin t) hhold hreached)]
    rfl
  case holds =>
    intro t v s hahead
    exact idles_of (exec_valveHoldTimeExpiry ..) (if_neg (ne_true_of_eq_false (due_of_ahead (s := s.begin t) hahead)))
  case noStall =>
    intro t v s hnone
    exact idles_of (exec_valveStall ..) (valveStall_none (s := s.begin t) hnone)
  case firstStall =>
    intro t v s hmoving hfast hshown hhoming hfirst
    exact does_of (exec_valveStall ..) (valveStall_first (s := s.begin t) ⟨hmoving, hfast, hshown⟩ hhoming hfirst)
  case secondStall =>
    intro t v s hmoving hfast hshown hhoming hsecond
    refine answers_of (exec_valveStall ..) ?_
    rw [valveStall_second (s := s.begin t) ⟨hmoving, hfast, hshown⟩ hhoming hsecond, settled_valve, valveFaulted_valve]
    exact ⟨rfl, rfl, rfl, rfl, rfl, rfl⟩
  case closedStop =>
    intro t v s hmoving hfast hshown hhoming
    refine answers_of (exec_valveStall ..) ?_
    rw [valveStall_homing (s := s.begin t) ⟨hmoving, hfast, hshown⟩ hhoming, settled_valve]
    obtain ⟨hpos, hcertain, hsound, hhomed, hended, hvel⟩ := homed_atClosedStop (s.begin t) v.val
    exact ⟨hpos, hcertain, hsound, hhomed, hended, hvel⟩
  case retries =>
    intro t v d s hretry hreached hsound
    have hvalve := stallRetry_valve (s := s.begin t) (due_of_reached hretry hreached) hsound
    have hapart : (stallRetry v.val (s.begin t)).bare.offTherm = s.bare.offTherm := stallRetry_offTherm v.val (s.begin t)
    obtain ⟨hmoves, htarget, hretryAt, hhalf⟩ := Valve.moveBegun_moves { s.valve v.val with retryAt := none, halfSpeed := true } (s.valve v.val).target
    refine answers_of (exec_valveStallRetry ..) ?_
    rw [settled_valve, hvalve]
    exact ⟨hretryAt, hhalf, hmoves, htarget, settled_offTherm hapart t⟩
  case waits =>
    intro t v s hnot
    exact idles_of (exec_valveStallRetry ..) (stallRetry_none (s := s.begin t) (hnot.imp_left due_of_ahead))
  case homeInvalid =>
    intro t m v s htakes hvalve
    exact answers_unchanged (exec_homeValve ..) htakes (if_pos hvalve)
  case homes =>
    intro t m v s htakes hvalve hservice henable hown
    have hstarts := homeValve_starts (s := (s.begin t).commandTaken m) hvalve hservice henable hown
    obtain ⟨hhoming, hmoving, htravel⟩ := startHoming_valve ((s.begin t).commandTaken m) v true
    have hapart := offThermNet_of_offTherm (startHoming_offTherm ((s.begin t).commandTaken m) v true)
    refine answers_taken (exec_homeValve ..) htakes hstarts ?_
    rw [settled_valve, valve_of_tm (cmdAnswer_tm ..), settle_tele, cmdAnswer_inFlight]
    exact ⟨hhoming, hmoving, htravel, rfl, settled_command hapart ..⟩
  case clears =>
    intro t m c s htakes hchannel hbroken
    have hheals := clearSensor_heals (s := (s.begin t).commandTaken m) hchannel hbroken
    have hapart := offThermNet_of_offTherm (healSensor_offTherm ((s.begin t).commandTaken m) c)
    refine answers_taken (exec_clearSensor ..) htakes hheals ?_
    simp only [settled_tchan, tchan_of_tm (cmdAnswer_tm ..), settle_tele, cmdAnswer_stored, healSensor_sensor]
    exact ⟨trivial, trivial, fun k hk => healSensor_other _ hk, settled_command hapart ..⟩
  case clearInvalid =>
    intro t m c s htakes hnone
    exact answers_unchanged (exec_clearSensor ..) htakes (if_pos (by rw [hnone]; rfl))

end Sys2Proof.Machine

/-! What a protection decision sets and does, and what settling leaves of it (11 R288 to R292; 12 R315, R324, R332). -/

namespace Sys2Proof.Machine

open Sys2Proof

/-! ### What coils, sequences and records leave of the protection functions -/

@[simp] theorem coilOff_pr (s : State) (k : Nat) : (s.coilOff k).pr = s.pr := by unfold State.coilOff; split <;> rfl

@[simp] theorem coilsOff_pr (s : State) (ks : List Nat) : (s.coilsOff ks).pr = s.pr := foldl_keeps State.pr coilOff_pr ks s

@[simp] theorem dropWaiting_pr (s : State) (ks : List Nat) : (s.dropWaiting ks).pr = s.pr := coilsOff_pr ..

@[simp] theorem setBranch_pr (s : State) (b : Nat) (x : BrState) : (s.setBranch b x).pr = s.pr := rfl

@[simp] theorem openString_pr (s : State) : s.openString.pr = s.pr := by simp [State.openString]

@[simp] theorem openBranch_pr (s : State) (b : Nat) : (s.openBranch b).pr = s.pr := by
  unfold State.openBranch
  dsimp only
  split
  · simp
  · split <;> simp

@[simp] theorem endSequenceOf_pr (s : State) (b : Nat) : (s.endSequenceOf b).pr = s.pr := by
  unfold State.endSequenceOf
  split
  · simp
  · split <;> simp

theorem interruptTest_keeps (s : State) (o : Nat) : (s.interruptTest o).pr = s.pr ∧ (s.interruptTest o).ct = s.ct := by
  unfold State.interruptTest
  dsimp only
  split
  · exact ⟨rfl, rfl⟩
  · exact ⟨record_pr .., record_ct ..⟩

@[simp] theorem interruptTests_pr (s : State) : s.interruptTests.pr = s.pr :=
  (interruptTest_keeps (s.interruptTest 1) 2).1.trans (interruptTest_keeps s 1).1

@[simp] theorem interruptTests_ct (s : State) : s.interruptTests.ct = s.ct :=
  (interruptTest_keeps (s.interruptTest 1) 2).2.trans (interruptTest_keeps s 1).2

@[simp] theorem noteDecision_pr (s : State) (code group subject : Nat) (value : Int) :
    (s.noteDecision code group subject value).pr = { s.pr with lastDecision := s.th.reading } := by
  simp [State.noteDecision]

@[simp] theorem noteDecision_ct (s : State) (code group subject : Nat) (value : Int) : (s.noteDecision code group subject value).ct = s.ct := by
  simp [State.noteDecision]

@[simp] theorem writeLatches_pr (s : State) : s.writeLatches.pr = s.pr := writeItem_pr ..

@[simp] theorem writeLatches_ct (s : State) : s.writeLatches.ct = s.ct := writeItem_ct ..

/-- An entry changes the table of functions alone. -/
theorem setFn_pr (s : State) (f : Fn) : ∃ l, (s.setFn f).pr = { s.pr with fns := l } := by
  unfold State.setFn
  simp only [State.onProt_pr]
  split <;> exact ⟨_, rfl⟩

/-- An entry with a condition, a latch, a demand or a running delay stands in the table. -/
theorem fn_setFn_stands (s : State) {f : Fn} (h : (f.condition || f.latched || f.demanding || f.delaySince.isSome) = true) :
    (s.setFn f).fn f.code f.group = some f := by
  have hnone : (s.pr.fns.filter fun g => !decide (g.code = f.code ∧ g.group = f.group)).find? (fun g => decide (g.code = f.code ∧ g.group = f.group)) = none :=
    List.find?_eq_none.2 fun g hg hkey => by simp [of_decide_eq_true hkey] at hg
  unfold State.setFn State.fn
  simp only [State.onProt_pr, h, if_true]
  rw [List.find?_append, hnone]
  simp

/-! ### Coils that are off with their trip switch open (12 R315) -/

/-- The driver is off and the trip switch open. -/
def Coil.Open (c : Coil) : Prop := c.phase = .off ∧ c.tripClosed = false

theorem coilOff_opens (s : State) (k : Nat) : ((s.coilOff k).coil k).Open := by
  refine ⟨coilOff_phase_same s k, ?_⟩
  unfold State.coilOff
  split <;> exact congrArg Coil.tripClosed (coil_onCoil_same ..)

theorem coilOff_keeps_open {s : State} {j : Nat} (h : (s.coil j).Open) (k : Nat) : ((s.coilOff k).coil j).Open := by
  by_cases hj : j = k
  · subst hj
    exact coilOff_opens ..
  · rwa [coilOff_coil_other s hj]

theorem coilsOff_keep_open {j : Nat} {s : State} (h : (s.coil j).Open) (ks : List Nat) : ((s.coilsOff ks).coil j).Open := by
  induction ks generalizing s with
  | nil => exact h
  | cons k ks ih =>
    rw [coilsOff_cons]
    exact ih (coilOff_keeps_open h k)

theorem coilsOff_open {j : Nat} {ks : List Nat} (s : State) (h : j ∈ ks) : ((s.coilsOff ks).coil j).Open := by
  induction ks generalizing s with
  | nil => exact absurd h List.not_mem_nil
  | cons k ks ih =>
    rw [coilsOff_cons]
    obtain rfl | hks := List.mem_cons.1 h
    · exact coilsOff_keep_open (coilOff_opens s j) ks
    · exact ih _ hks

theorem coilsOff_coil_other {j : Nat} {ks : List Nat} (s : State) (h : j ∉ ks) : (s.coilsOff ks).coil j = s.coil j := by
  induction ks generalizing s with
  | nil => rfl
  | cons k ks ih =>
    obtain ⟨hk, hks⟩ := not_or.1 (mt List.mem_cons.2 h)
    rw [coilsOff_cons, ih _ hks, coilOff_coil_other s hk]

/-- Only the coils that wait are dropped with their sequence (12 R323, R332). -/
theorem dropWaiting_coil {s : State} {k : Nat} (h : (s.coil k).phase ≠ .waiting) (ks : List Nat) : (s.dropWaiting ks).coil k = s.coil k :=
  coilsOff_coil_other s (by simp [h])

theorem openString_opens {k : Nat} (s : State) (hk : k ∈ mainK) : (s.openString.coil k).Open := by
  rw [coil_of_coils (openString_coils s)]
  exact coilsOff_open s hk

theorem onCont_open {s : State} {k : Nat} {f : Cont → Cont} (hf : ∀ c, (f c).coils = c.coils) (h : (s.coil k).Open) : ((s.onCont f).coil k).Open := by
  rwa [coil_of_coils (b := s) (hf s.ct)]

/-- Both contactors of a branch go off with it (11 R288, R290). -/
theorem openBranch_opens {b k : Nat} (s : State) (hk : k ∈ [b + 1, b + 5]) : ((s.openBranch b).coil k).Open := by
  unfold State.openBranch
  extract_lets s1 s2
  have hoff : (s2.coil k).Open := onCont_open (fun _ => rfl) (coilsOff_open s hk)
  clear_value s2
  split
  · exact onCont_open (fun _ => rfl) (coilsOff_keep_open hoff [9, 10, 11])
  · split
    · exact onCont_open (fun _ => rfl) hoff
    · exact hoff

theorem endSequenceOf_coil {s : State} {k : Nat} (h : (s.coil k).phase ≠ .waiting) (b : Nat) : (s.endSequenceOf b).coil k = s.coil k := by
  unfold State.endSequenceOf
  split
  · exact dropWaiting_coil h _
  · split
    · exact dropWaiting_coil h _
    · rfl

/-! ### A new decision (11 R288 to R292) -/

/-- A function has not decided: no condition, latch or demand of it stands, though its delay may run (11 R292). -/
def State.NotDecided (s : State) (code group : Nat) : Prop :=
  ∀ f, s.fn code group = some f → f.condition = false ∧ f.latched = false ∧ f.demanding = false

theorem notDecided_of_none {s : State} {code group : Nat} (h : s.fn code group = none) : s.NotDecided code group := fun f hf => by simp [h] at hf

theorem notDecided_of_entry {s : State} {code group : Nat} {f : Fn} (h : s.fn code group = some f) (hcond : f.condition = false)
    (hlatch : f.latched = false) (hdemand : f.demanding = false) : s.NotDecided code group := fun g hg => by
  obtain rfl : f = g := Option.some.inj (h.symm.trans hg)
  exact ⟨hcond, hlatch, hdemand⟩

/-- The entry of a function that decides now (11 R290 to R292). -/
def State.decisionEntry (s : State) (i : FnInfo) (code group subject : Nat) (value : Int) (cells : List Nat) : Fn :=
  { code := code, group := group, action := i.action, condition := true, latched := i.latched
    demanding := !decide (i.action = .none) || decide (0 < i.clear), decidedAt := s.now, subject := subject, value := value
    cells := cells ++ (((s.fn code group).map fun f => f.cells).getD []).filter fun c => !decide (c ∈ cells) }

/-- A decision is recorded, its entry set, and its latch kept (11 R291, R310). -/
def State.decisionNoted (s : State) (f : Fn) : State :=
  let u := (s.noteDecision f.code f.group f.subject f.value).setFn f
  if f.latched then u.writeLatches else u

/-- The action of a decision (11 R288 to R290); a class C disconnect waits from `since` on, with the sweep `sweep` the first that counts. -/
def State.act (s : State) (i : FnInfo) (group since sweep : Nat) : State :=
  match i.action with
  | .none => s
  | .hold => s
  | .bd =>
    let u := s.onProt fun p => { p with holdBranches := insertN group p.holdBranches }
    if i.cls ≤ 1 then u.openBranch group
    else (u.endSequenceOf group).onProt fun p => { p with waits := p.waits ++ [{ group := group, since := since, sinceSweep := sweep }] }
  | .sd =>
    if i.cls ≤ 1 then s.openString
    else ((s.dropWaiting mainK).onCont fun c => { c with
        step := 0, due := [], joinStep := 0, leaveAt := none, stage := if c.stage = .opened then .opened else .disconnecting }).onProt
      fun p => { p with waits := p.waits ++ [{ group := strGroup, since := since, sinceSweep := sweep }] }

/-- A function that had not decided records its decision, sets its entry and acts. -/
theorem decideFn_acts {s : State} {code group : Nat} {i : FnInfo} (hinfo : s.fnInfo code group = some i) (hnew : s.NotDecided code group)
    (subject : Nat) (value : Int) (cells : List Nat) : s.decideFn code group subject value cells =
      (s.decisionNoted (s.decisionEntry i code group subject value cells)).act i group s.now (s.sweepNo + 1) := by
  unfold State.decideFn State.decisionEntry
  rw [hinfo]
  cases hfn : s.fn code group with
  | none =>
    simp only [Bool.and_true, if_true, Bool.not_true, Bool.false_eq_true, if_false]
    rfl
  | some f =>
    obtain ⟨hcond, hlatch, hdemand⟩ := hnew f hfn
    simp only [hcond, hlatch, hdemand, Bool.or_false, Bool.not_false, Bool.and_true, if_true, Bool.not_true, Bool.false_eq_true, if_false]
    rfl

theorem decisionNoted_ct (s : State) (f : Fn) : (s.decisionNoted f).ct = s.ct := by
  have hset (u : State) : (u.setFn f).ct = u.ct := rfl
  simp [State.decisionNoted, apply_ite State.ct, hset]

/-- Of the protection functions a decision notes the table and its instant. -/
theorem decisionNoted_pr (s : State) (f : Fn) : ∃ l, (s.decisionNoted f).pr = { s.pr with fns := l, lastDecision := s.th.reading } := by
  obtain ⟨l, hset⟩ := setFn_pr (s.noteDecision f.code f.group f.subject f.value) f
  refine ⟨l, ?_⟩
  simp [State.decisionNoted, apply_ite State.pr, hset]

theorem decisionNoted_table (s : State) (f : Fn) : (s.decisionNoted f).table = (s.setFn f).table := by
  have hset := setFn_table_congr (noteDecision_table s f.code f.group f.subject f.value) f
  simp [State.decisionNoted, apply_ite State.table, hset]

@[simp] theorem act_table (s : State) (i : FnInfo) (group since sweep : Nat) : (s.act i group since sweep).table = s.table := by
  have hprot (u : State) (h : Prot → List Nat) : (u.onProt fun p => { p with holdBranches := h p }).table = u.table := rfl
  have hwaits (u : State) (w : Prot → List OpenWait) : (u.onProt fun p => { p with waits := w p }).table = u.table := rfl
  unfold State.act
  split <;> simp [apply_ite State.table, hprot, hwaits]

/-- A new decision sets its entry. -/
theorem decideFn_fn {s : State} {code group : Nat} {i : FnInfo} (hinfo : s.fnInfo code group = some i) (hnew : s.NotDecided code group)
    (subject : Nat) (value : Int) (cells : List Nat) :
    (s.decideFn code group subject value cells).fn code group = some (s.decisionEntry i code group subject value cells) := by
  rw [decideFn_acts hinfo hnew, fn_of_table ((act_table ..).trans (decisionNoted_table ..))]
  exact fn_setFn_stands s (f := s.decisionEntry i code group subject value cells) rfl

/-- A class A or B disconnect of a branch opens it at once, with the string on hold until it is open (11 R288, R290). -/
theorem decideFn_opens_branch {s : State} {code group : Nat} {i : FnInfo} (hinfo : s.fnInfo code group = some i) (hnew : s.NotDecided code group)
    (haction : i.action = .bd) (hcls : i.cls ≤ 1) (subject : Nat) (value : Int) (cells : List Nat) :
    let u := s.decideFn code group subject value cells
    (∀ k ∈ [group + 1, group + 5], (u.coil k).Open) ∧ ∃ l, u.pr.holdBranches = insertN group l := by
  dsimp only
  rw [decideFn_acts hinfo hnew]
  simp only [State.act, haction, hcls, if_true]
  exact ⟨fun k hk => openBranch_opens _ hk, _, by rw [openBranch_pr, State.onProt_pr]⟩

/-- A class A or B disconnect of the string opens it at once (11 R288, R290). -/
theorem decideFn_opens_string {s : State} {code group : Nat} {i : FnInfo} (hinfo : s.fnInfo code group = some i) (hnew : s.NotDecided code group)
    (haction : i.action = .sd) (hcls : i.cls ≤ 1) (subject : Nat) (value : Int) (cells : List Nat) {k : Nat} (hk : k ∈ mainK) :
    ((s.decideFn code group subject value cells).coil k).Open := by
  rw [decideFn_acts hinfo hnew]
  simp only [State.act, haction, hcls, if_true]
  exact openString_opens _ hk

/-- A class C disconnect waits for the current, and leaves the coils that are off or carry current as they are (11 R289, R290). -/
theorem decideFn_waits {s : State} {code group : Nat} {i : FnInfo} (hinfo : s.fnInfo code group = some i) (hnew : s.NotDecided code group)
    (haction : i.action = .bd ∨ i.action = .sd) (hcls : i.cls = 2) (subject : Nat) (value : Int) (cells : List Nat) :
    let u := s.decideFn code group subject value cells
    u.pr.waits = s.pr.waits ++ [{ group := if i.action = .bd then group else strGroup, since := s.now, sinceSweep := s.sweepNo + 1 }] ∧
      ∀ k, (s.coil k).phase ≠ .waiting → u.coil k = s.coil k := by
  dsimp only
  rw [decideFn_acts hinfo hnew]
  generalize s.decisionEntry i code group subject value cells = f
  obtain ⟨l, hpr⟩ := decisionNoted_pr s f
  have hcoil (k : Nat) : (s.decisionNoted f).coil k = s.coil k := coil_of_coils (congrArg Cont.coils (decisionNoted_ct s f)) k
  obtain haction | haction := haction
  · simp only [State.act, haction, hcls, Nat.reduceLeDiff, if_false, if_true]
    refine ⟨by simp [hpr], fun k hk => ?_⟩
    exact (endSequenceOf_coil (s := (s.decisionNoted f).onProt _) ((congrArg Coil.phase (hcoil k)).trans_ne hk) group).trans (hcoil k)
  · simp only [State.act, haction, hcls, Nat.reduceLeDiff, reduceCtorEq, if_false]
    refine ⟨by simp [hpr], fun k hk => ?_⟩
    exact (dropWaiting_coil (s := s.decisionNoted f) ((congrArg Coil.phase (hcoil k)).trans_ne hk) mainK).trans (hcoil k)

/-! ### The demands of the table, and the stop-request that follows (01 R33; 11 R288, R290) -/

theorem mem_insertN {x y : Nat} {l : List Nat} : x ∈ insertN y l ↔ x = y ∨ x ∈ l := by
  induction l with
  | nil => simp [insertN]
  | cons z l ih =>
    unfold insertN
    split
    · simp
    · split
      next hyz => simp [hyz]
      · simp [ih, or_left_comm]

theorem bdActive_of_fn {s : State} {code group : Nat} {f : Fn} (h : s.fn code group = some f) (hdemand : f.demanding = true)
    (haction : f.action = .bd) : s.bdActive group = true :=
  List.any_eq_true.2 ⟨f, List.mem_of_find?_eq_some h, by simp [hdemand, haction, (fn_key h).2]⟩

theorem sdActive_of_fn {s : State} {code group : Nat} {f : Fn} (h : s.fn code group = some f) (hdemand : f.demanding = true)
    (haction : f.action = .sd) : s.sdActive = true :=
  List.any_eq_true.2 ⟨f, List.mem_of_find?_eq_some h, by simp [hdemand, haction]⟩

theorem holdActive_of_fn {s : State} {code group : Nat} {f : Fn} (h : s.fn code group = some f) (hdemand : f.demanding = true)
    (haction : f.action = .hold) : s.holdActive = true :=
  List.any_eq_true.2 ⟨f, List.mem_of_find?_eq_some h, by simp [hdemand, haction]⟩

/-- While an action on the string is in progress the stop-request stands (11 R288, R290). -/
theorem settled_stop_of_action {old s : State}
    (h : (old.settle s).sdActive = true ∨ (old.settle s).holdActive = true ∨ (old.settle s).pr.holdBranches ≠ []) : (old.settle s).rt.islandStop = true := by
  have haction : (old.settle s).stringAction = true := by simpa [State.stringAction, or_assoc] using h
  exact settle_islandStop (by simp [State.holdDemand, haction])

/-- Of the protection functions settling changes the branches that hold alone: one whose contactors are both confirmed open holds no more (11 R290). -/
theorem settleHolds_pr (s : State) : s.settleHolds.pr = { s.pr with holdBranches := s.pr.holdBranches.filter fun b =>
    !(s.confirmedOpen (b + 1) && s.confirmedOpen (b + 5)) && s.bdActive b } := by
  unfold State.settleHolds
  dsimp only
  split <;> rfl

theorem settleHolds_pr_congr {a b : State} (hpr : a.pr = b.pr) (hct : a.ct = b.ct) : a.settleHolds.pr = b.settleHolds.pr := by
  have hopen : a.confirmedOpen = b.confirmedOpen := by
    funext k
    rw [State.confirmedOpen, State.confirmedOpen, coil_of_coils (congrArg Cont.coils hct)]
  have hbd : a.bdActive = b.bdActive := by
    funext k
    rw [State.bdActive, State.bdActive, State.demands, State.demands, hpr]
  rw [settleHolds_pr, settleHolds_pr, hpr, hopen, hbd]

theorem settleTwin_keeps (s : State) : s.settleTwin.pr = s.pr ∧ s.settleTwin.ct = s.ct := by
  unfold State.settleTwin
  dsimp only
  split
  · split
    · exact ⟨rfl, rfl⟩
    · exact ⟨record_pr .., record_ct ..⟩
  · exact ⟨rfl, rfl⟩

theorem settleCan_keeps (s : State) : s.settleCan.pr = s.pr ∧ s.settleCan.ct = s.ct := by
  unfold State.settleCan
  dsimp only
  (repeat' split) <;> exact ⟨rfl, rfl⟩

theorem settleCandidate_pr (s : State) : s.settleCandidate.pr = s.pr := by
  unfold State.settleCandidate
  dsimp only
  split <;> rfl

theorem pr_of_still {a b : State} (h : a.still = b.still) : a.pr = b.pr := (congrArg State.pr h :)

theorem settleOut_pr (s : State) (o : Nat) : (s.settleOut o).pr = s.pr := by
  unfold State.settleOut
  dsimp only
  rw [State.onSafety_pr]
  split
  · rfl
  · exact (interruptTest_keeps s o).1

theorem settle_pr (old s : State) : (old.settle s).pr = s.settleHolds.pr := by
  have hpublished (u : State) : (old.pubChanges u.goosePublish).settlePorts.pr = u.pr :=
    pr_of_still ((settlePorts_still _).trans ((still_of_quiet (pubChanges_quiet ..)).trans (goosePublish_still u)))
  have hwrapped : (if s.ro.wrapped && !old.ro.wrapped then s.record .storeWrapped 0 [] else s).pr = s.pr ∧
      (if s.ro.wrapped && !old.ro.wrapped then s.record .storeWrapped 0 [] else s).ct = s.ct := by
    split
    · exact ⟨record_pr .., record_ct ..⟩
    · exact ⟨rfl, rfl⟩
  unfold State.settle
  dsimp only
  generalize (if s.ro.wrapped && !old.ro.wrapped then s.record .storeWrapped 0 [] else s) = u at hwrapped
  obtain ⟨hpr, hct⟩ := hwrapped
  obtain ⟨htwinPr, htwinCt⟩ := settleTwin_keeps u
  obtain ⟨hcanPr, hcanCt⟩ := settleCan_keeps u.settleTwin
  rw [hpublished, settleOut_pr, settleOut_pr, State.settleStop, State.onRantus_pr, pr_of_still (still_of_quiet (settleShadow_quiet ..)), settleCandidate_pr]
  exact settleHolds_pr_congr (hcanPr.trans (htwinPr.trans hpr)) (hcanCt.trans (htwinCt.trans hct))

/-- But for the branches that hold, the protection functions are as the meaning left them. -/
theorem settled_prot {α : Type} (part : Prot → α) (hpart : ∀ p, part { p with holdBranches := [] } = part p := by intros; rfl) (s u : State) (t : Nat) :
    part (s.settle (s.keep t u)).pr = part u.pr := by
  rw [settle_pr, settleHolds_pr]
  exact (hpart _).symm.trans (hpart u.pr)

/-- A branch that holds keeps the stop-request standing until its negative contactor is confirmed open (11 R288, R290). -/
theorem settled_stop_of_hold {s u : State} {t b : Nat} (hhold : b ∈ u.pr.holdBranches) (hbd : u.bdActive b = true)
    (hopen : u.confirmedOpen (b + 1) = false) : (s.settle (s.keep t u)).rt.islandStop = true := by
  refine settled_stop_of_action (.inr (.inr (List.ne_nil_of_mem (a := b) ?_)))
  rw [settle_pr, settleHolds_pr]
  refine List.mem_filter.2 ⟨hhold, ?_⟩
  have hopen : (s.keep t u).confirmedOpen (b + 1) = false := hopen
  have hbd : (s.keep t u).bdActive b = true := hbd
  simp [hopen, hbd]

end Sys2Proof.Machine

/-! The comparators, the delays of class C and the waits of its disconnects as commands (11 R288 to R292, R302; 25 R576). -/

namespace Sys2Proof.Machine

open Sys2Proof

/-! ### Spans that are over -/

theorem heldFor_of_reached {s : State} {d span : Nat} {o : Option Nat} (ho : o = some d) (h : d + span ≤ s.now) : s.heldFor o span = true := by
  subst ho
  exact decide_eq_true h

theorem heldFor_of_ahead {s : State} {span : Nat} {o : Option Nat} (h : ∀ d, o = some d → s.now < d + span) : s.heldFor o span = false := by
  cases o with
  | none => rfl
  | some d => exact decide_eq_false (Nat.not_le.2 (h d rfl))

/-! ### The comparators (11 R302; 25 R576) -/

theorem exec_comparator (t : Nat) (c : Fin 5) (v : Int) (s : State) : exec (.currentComparatorCrossing t c v) s = s.run t (comparatorCrossing c.val v) := rfl

theorem comparatorCrossing_ignored {c : Nat} {v : Int} {s : State} (h : s.beyondLevel c v = false ∨ s.pw.haltedIsland = true) :
    comparatorCrossing c v s = s := if_pos (by simpa using h)

/-- A crossing that counts: at or beyond its level, on an island that runs. -/
theorem comparatorCrossing_counts {c : Nat} {v : Int} {s : State} (hbeyond : s.beyondLevel c v = true) (hruns : s.pw.haltedIsland = false) :
    ¬(!s.beyondLevel c v || s.pw.haltedIsland) = true := by simp [hbeyond, hruns]

theorem comparatorCrossing_wakes {c : Nat} {v : Int} {s : State} (hbeyond : s.beyondLevel c v = true) (hruns : s.pw.haltedIsland = false)
    (hsleeps : s.pw.state = .hibernate) :
    comparatorCrossing c v s = (s.recordAlways .openCurrent c (octetsOf 4 (wrapInt 4 v))).onPower fun p => { p with latches := p.latches ||| 1 } := by
  unfold comparatorCrossing
  rw [if_neg (comparatorCrossing_counts hbeyond hruns), if_pos hsleeps]
  rfl

/-- Awake, only a comparator with a source in Watch or Run decides: IS with its sensor supply, a branch that is present. -/
theorem comparatorCrossing_blind {c : Nat} {v : Int} {s : State} (hawake : s.pw.state ≠ .hibernate)
    (h : (s.pw.state ≠ .run ∧ s.pw.state ≠ .watch) ∨ (c = 4 ∧ s.acq.hallLost = true) ∨ (c ≠ 4 ∧ s.cfg.hasBranch c = false)) :
    comparatorCrossing c v s = s := by
  unfold comparatorCrossing
  rw [if_neg hawake]
  split
  · rfl
  · split
    next hon =>
      obtain ⟨hrun, hwatch⟩ | ⟨hstring, hlost⟩ | ⟨hbranch, habsent⟩ := h
      · exact absurd hon (not_or.2 ⟨hrun, hwatch⟩)
      · rw [if_pos hstring, if_pos hlost]
      · rw [if_neg hbranch, if_neg (by simp [habsent])]
    · rfl

theorem comparatorCrossing_decides {c : Nat} {v : Int} {s : State} (hbeyond : s.beyondLevel c v = true) (hruns : s.pw.haltedIsland = false)
    (hon : s.pw.state = .run ∨ s.pw.state = .watch) : comparatorCrossing c v s =
      if c = 4 then (if s.acq.hallLost then s else s.decideFn 0x02 strGroup 4 v) else if s.cfg.hasBranch c then s.decideFn 0x01 c c v else s := by
  have hawake : s.pw.state ≠ .hibernate := by
    rintro hsleeps
    simp [hsleeps] at hon
  unfold comparatorCrossing
  rw [if_neg (comparatorCrossing_counts hbeyond hruns), if_neg hawake, if_pos hon]

/-- Function 0x01 decides: its entry stands, its branch opens, and the stop-request holds the string until it is open (11 R288, R290). -/
theorem settled_branch_trip (s : State) {u : State} {t b : Nat} (hnone : u.fn 1 b = none) (v : Int) :
    let s' := s.settle (s.keep t (u.decideFn 0x01 b b v))
    (∃ f, s'.fn 1 b = some f ∧ f.condition = true ∧ f.latched = true ∧ f.demanding = true ∧ f.action = .bd ∧ f.value = v ∧ f.decidedAt = u.now) ∧
      (s'.coil (b + 1)).phase = .off ∧ (s'.coil (b + 5)).phase = .off ∧ (s'.coil (b + 1)).tripClosed = false ∧ s'.bdActive b = true ∧
      (s'.confirmedOpen (b + 1) = false → s'.rt.islandStop = true) := by
  obtain ⟨i, hinfo, haction, hcls, hlatched⟩ : ∃ i, u.fnInfo 0x01 b = some i ∧ i.action = .bd ∧ i.cls ≤ 1 ∧ i.latched = true :=
    ⟨_, rfl, rfl, Nat.zero_le 1, rfl⟩
  have hnew := notDecided_of_none hnone
  have hfn := decideFn_fn hinfo hnew b v []
  have hdemand : (u.decisionEntry i 0x01 b b v []).demanding = true := by simp [State.decisionEntry, haction]
  obtain ⟨hopen, l, hholds⟩ := decideFn_opens_branch hinfo hnew haction hcls b v []
  obtain ⟨hneg, hnegTrip⟩ := hopen (b + 1) (by simp)
  obtain ⟨hpos, -⟩ := hopen (b + 5) (by simp)
  dsimp only
  rw [settled_fn, settled_coil, settled_coil]
  refine ⟨⟨_, hfn, rfl, hlatched, hdemand, haction, rfl, rfl⟩, hneg, hpos, hnegTrip, ?_, fun hconfirmed => ?_⟩
  · exact bdActive_of_fn ((settled_fn ..).trans hfn) hdemand haction
  · refine settled_stop_of_hold (b := b) (by rw [hholds]; exact mem_insertN.2 (.inl rfl)) (bdActive_of_fn hfn hdemand haction) ?_
    rwa [State.confirmedOpen, settled_coil] at hconfirmed

/-- Function 0x02 decides: its entry stands and the string opens (11 R288, R302). -/
theorem settled_string_trip (s : State) {u : State} {t : Nat} (hnone : u.fn 2 strGroup = none) (v : Int) :
    let s' := s.settle (s.keep t (u.decideFn 0x02 strGroup 4 v))
    (∃ f, s'.fn 2 strGroup = some f ∧ f.condition = true ∧ f.latched = true ∧ f.demanding = true ∧ f.action = .sd ∧ f.value = v) ∧
      (∀ k, 1 ≤ k → k ≤ 11 → (s'.coil k).phase = .off ∧ (s'.coil k).tripClosed = false) ∧ s'.rt.islandStop = true ∧ s'.sdActive = true := by
  obtain ⟨i, hinfo, haction, hcls, hlatched⟩ : ∃ i, u.fnInfo 0x02 strGroup = some i ∧ i.action = .sd ∧ i.cls ≤ 1 ∧ i.latched = true :=
    ⟨_, rfl, rfl, Nat.zero_le 1, rfl⟩
  have hnew := notDecided_of_none hnone
  have hfn := (settled_fn s _ t 2 strGroup).trans (decideFn_fn hinfo hnew 4 v [])
  have hdemand : (u.decisionEntry i 0x02 strGroup 4 v []).demanding = true := by simp [State.decisionEntry, haction]
  have hsd := sdActive_of_fn hfn hdemand haction
  refine ⟨⟨_, hfn, rfl, hlatched, hdemand, haction, rfl⟩, fun k hfirst hlast => ?_, ?_, hsd⟩
  · rw [settled_coil]
    exact decideFn_opens_string hinfo hnew haction hcls 4 v [] (mem_mainK hfirst hlast)
  · exact settled_stop_of_action (.inl hsd)

/-! ### The delay of a class C function (11 R289, R292) -/

/-- The meaning of CLASS_C_DELAY_EXPIRY. -/
def delayExpiry (code group : Nat) (s : State) : State :=
  match s.fn code group, s.fnInfo code group with
  | some f, some i =>
    if !f.condition && !f.latched && !f.demanding && s.heldFor f.delaySince (ms i.delay) then s.decideFn code group f.subject f.value f.cells else s
  | _, _ => s

theorem exec_classCDelayExpiry (t code group : Nat) (s : State) : exec (.classCDelayExpiry t code group) s = s.run t (delayExpiry code group) := rfl

theorem delayExpiry_none {code group : Nat} {s : State} (h : s.fn code group = none) : delayExpiry code group s = s := by
  unfold delayExpiry
  rw [h]

theorem delayExpiry_runs {code group : Nat} {f : Fn} {i : FnInfo} {s : State} (hfn : s.fn code group = some f) (hinfo : s.fnInfo code group = some i)
    (h : (f.condition || f.latched || f.demanding) = true ∨ s.heldFor f.delaySince (ms i.delay) = false) : delayExpiry code group s = s := by
  unfold delayExpiry
  rw [hfn, hinfo]
  refine if_neg ?_
  obtain h | h := h
  · simp only [Bool.or_eq_true] at h
    obtain (h | h) | h := h <;> simp [h]
  · simp [h]

theorem delayExpiry_decides {code group : Nat} {f : Fn} {i : FnInfo} {s : State} (hfn : s.fn code group = some f) (hinfo : s.fnInfo code group = some i)
    (hcond : f.condition = false) (hlatch : f.latched = false) (hdemand : f.demanding = false) (hheld : s.heldFor f.delaySince (ms i.delay) = true) :
    delayExpiry code group s = s.decideFn code group f.subject f.value f.cells := by
  unfold delayExpiry
  rw [hfn, hinfo]
  exact if_pos (by simp [hcond, hlatch, hdemand, hheld])

/-! ### The wait of a class C disconnect (11 R289) -/

theorem exec_breakWaitExpiry (t : Nat) (b : Fin 5) (s : State) : exec (.breakWaitExpiry t b) s = s.run t (breakExpiry b.val) := rfl

/-- The waits of a group that are over. -/
def State.waitsOver (s : State) (group : Nat) : List OpenWait :=
  s.pr.waits.filter fun w => decide (w.group = group) && decide (w.since + ms s.cfg.timed.breakMs ≤ s.now)

theorem waitsOver_of_mem {s : State} {group : Nat} {w : OpenWait} (hw : w ∈ s.pr.waits) (hgroup : w.group = group)
    (hover : w.since + ms s.cfg.timed.breakMs ≤ s.now) : (s.waitsOver group).isEmpty = false :=
  List.isEmpty_eq_false_iff.2 (List.ne_nil_of_mem (List.mem_filter.2 ⟨hw, by simp [hgroup, hover]⟩))

theorem waitsOver_of_ahead {s : State} {group : Nat} (h : ∀ w, w ∈ s.pr.waits → w.group = group → s.now < w.since + ms s.cfg.timed.breakMs) :
    (s.waitsOver group).isEmpty = true := by
  refine List.isEmpty_iff.2 (List.filter_eq_nil_iff.2 fun w hw => ?_)
  simp only [Bool.and_eq_true, decide_eq_true_eq, not_and, Nat.not_le]
  exact h w hw

theorem breakExpiry_branch {b : Nat} (hb : b < 4) (s : State) : breakExpiry b s = if (s.waitsOver b).isEmpty then s else s.breakNow b := if_pos hb

theorem breakNow_branch {b : Nat} (hb : b < 4) (s : State) :
    s.breakNow b = (s.onProt fun p => { p with waits := p.waits.filter fun w => !decide (w.group = b) }).openBranch b := if_pos hb

theorem breakNow_string (s : State) :
    s.breakNow strGroup = (s.onProt fun p => { p with waits := p.waits.filter fun w => !decide (w.group = strGroup) }).openString := rfl

/-- The string's wait over, the string opens; with no reset in preparation nothing follows. -/
theorem breakExpiry_string {s : State} (hnone : s.pw.resetHold = none) (hover : (s.waitsOver strGroup).isEmpty = false) :
    breakExpiry strGroup s = s.breakNow strGroup := by
  have hpw : (s.breakNow strGroup).pw = s.pw := pw_of_undecided (openString_undecided _)
  have hmains : (s.breakNow strGroup).ct.mainsOff = true := rfl
  unfold breakExpiry
  dsimp only
  rw [show s.pr.waits.filter _ = s.waitsOver strGroup from rfl, hover]
  simp only [Bool.false_eq_true, if_false]
  rw [if_neg (by decide), hmains]
  simp only [Bool.not_true, Bool.false_and, Bool.false_eq_true, if_false]
  rw [State.resetExpiry, hpw, hnone]

/-! ### The obligation -/

/-- Settles O23: a crossing by the mode and its source, a delay and a wait by whether they are over, and each decision by what its function's action does. -/
theorem protectionDecisions : Obligations.ProtectionDecisions := by
  unfold Obligations.ProtectionDecisions
  refine ⟨?ignored, ?wakes, ?blind, ?branch, ?string, ?unwatched, ?early, ?decides, ?waiting, ?branchBreaks, ?stringBreaks⟩
  case ignored =>
    intro t c v s h
    exact idles_of (exec_comparator ..) (comparatorCrossing_ignored (s := s.begin t) h)
  case wakes =>
    intro t c v s hbeyond hruns hsleeps
    refine does_of (exec_comparator ..) ?_
    rw [comparatorCrossing_wakes (s := s.begin t) hbeyond hruns hsleeps]
    have hrecorded := bare_of_quiet (recordAlways_quiet (s.begin t) .openCurrent c.val (octetsOf 4 (wrapInt 4 v)))
    exact (congrArg (fun u : State => { u with pw := { u.pw with latches := u.pw.latches ||| 1 } }) hrecorded :)
  case blind =>
    intro t c v s hawake h
    exact idles_of (exec_comparator ..) (comparatorCrossing_blind (s := s.begin t) hawake h)
  case branch =>
    intro t c v s hbeyond hruns hon hbranch hpresent hnone
    have hpresent : (s.begin t).cfg.hasBranch c.val = true := hpresent
    have hdecides := comparatorCrossing_decides (s := s.begin t) hbeyond hruns hon
    rw [if_neg hbranch, if_pos hpresent] at hdecides
    refine answers_of (exec_comparator ..) ?_
    rw [hdecides]
    exact settled_branch_trip s (u := s.begin t) hnone v
  case string =>
    intro t c v s hbeyond hruns hon hstring hsupplied hnone
    have hsupplied : ¬(s.begin t).acq.hallLost = true := by simp [hsupplied]
    have hdecides := comparatorCrossing_decides (s := s.begin t) hbeyond hruns hon
    rw [if_pos hstring, if_neg hsupplied] at hdecides
    refine answers_of (exec_comparator ..) ?_
    rw [hdecides]
    exact settled_string_trip s (u := s.begin t) hnone v
  case unwatched =>
    intro t code g s hnone
    exact idles_of (exec_classCDelayExpiry ..) (delayExpiry_none (s := s.begin t) hnone)
  case early =>
    intro t code g f i s hfn hinfo h
    exact idles_of (exec_classCDelayExpiry ..) (delayExpiry_runs (s := s.begin t) hfn hinfo (h.imp id fun h => heldFor_of_ahead h))
  case decides =>
    intro t code g f i d s hfn hinfo hcond hlatch hdemand hdelay hover
    have hdecides := delayExpiry_decides (s := s.begin t) hfn hinfo hcond hlatch hdemand (heldFor_of_reached hdelay hover)
    have hinfo : (s.begin t).fnInfo code g = some i := hinfo
    have hnew : (s.begin t).NotDecided code g := notDecided_of_entry hfn hcond hlatch hdemand
    refine answers_of (exec_classCDelayExpiry ..) ?_
    rw [hdecides]
    have hentry := (settled_fn s _ t code g).trans (decideFn_fn hinfo hnew f.subject f.value f.cells)
    have hdemands (ha : i.action ≠ .none) : ((s.begin t).decisionEntry i code g f.subject f.value f.cells).demanding = true := by
      simp [State.decisionEntry, ha]
    refine ⟨⟨_, hentry, rfl, rfl, rfl, rfl, rfl⟩, fun ha => ?_, fun ha hcls => ?_, fun ha hcls => ?_⟩
    · exact settled_stop_of_action (.inr (.inl (holdActive_of_fn hentry (hdemands (by simp [ha])) ha)))
    · obtain ⟨hwaits, hcoils⟩ := decideFn_waits hinfo hnew (.inl ha) hcls f.subject f.value f.cells
      rw [if_pos ha] at hwaits
      exact ⟨(settled_prot Prot.waits ..).trans hwaits, fun k hk => (settled_coil ..).trans (hcoils k hk)⟩
    · obtain ⟨hwaits, hcoils⟩ := decideFn_waits hinfo hnew (.inr ha) hcls f.subject f.value f.cells
      rw [if_neg (by simp [ha])] at hwaits
      exact ⟨(settled_prot Prot.waits ..).trans hwaits, settled_stop_of_action (.inl (sdActive_of_fn hentry (hdemands (by simp [ha])) ha)),
        fun k hk => (settled_coil ..).trans (hcoils k hk)⟩
  case waiting =>
    intro t b s hb hahead
    refine idles_of (exec_breakWaitExpiry ..) ?_
    rw [breakExpiry_branch hb, if_pos (waitsOver_of_ahead (s := s.begin t) hahead)]
  case branchBreaks =>
    intro t b w s hb hw hgroup hover
    refine answers_of (exec_breakWaitExpiry ..) ?_
    rw [breakExpiry_branch hb, waitsOver_of_mem (s := s.begin t) hw hgroup hover, if_neg Bool.false_ne_true, breakNow_branch hb]
    rw [settled_prot Prot.waits, openBranch_pr, settled_coil, settled_coil]
    exact ⟨fun x => by simp, (openBranch_opens _ (by simp)).1, (openBranch_opens _ (by simp)).1⟩
  case stringBreaks =>
    intro t b w s hb hnone hw hgroup hover
    have hb : b.val = strGroup := hb
    refine answers_of (exec_breakWaitExpiry ..) fun k hfirst hlast => ?_
    rw [hb, breakExpiry_string (s := s.begin t) hnone (waitsOver_of_mem (s := s.begin t) hw hgroup hover), breakNow_string, settled_coil]
    exact (openString_opens _ (mem_mainK hfirst hlast)).1

end Sys2Proof.Machine

/-! Resets of protection functions: of themselves and by command (11 R309, R310; 13 R340, R344; 17 R435, R436). -/

namespace Sys2Proof.Machine

open Sys2Proof

/-! ### The table after a reset -/

theorem resetFn_fns (s : State) (code group : Nat) : (s.resetFn code group).pr.fns = s.pr.fns.filter fun f => !decide (f.code = code ∧ f.group = group) := by
  have hcont (u : State) (f : Cont → Cont) : (u.onCont f).pr = u.pr := rfl
  unfold State.resetFn
  simp only [apply_ite State.pr, writeLatches_pr, record_pr, State.clearFailed, hcont, ite_self]
  rfl

/-- A function that resets takes its entries with it, and no other's. -/
theorem resetWhole_fns (s : State) (code group : Nat) :
    (s.resetWhole code group).pr.fns = s.pr.fns.filter fun f => !decide (f.code = code ∧ f.group = group) := by
  have hsafety (u : State) (f : Safety → Safety) : (u.onSafety f).pr = u.pr := rfl
  unfold State.resetWhole
  simp only [State.clearEpisodes, apply_ite State.pr, hsafety, ite_self]
  exact resetFn_fns ..

/-- Functions reset one after the other. -/
def State.resetAll (s : State) (fs : List Fn) : State := fs.foldl (fun s f => s.resetWhole f.code f.group) s

theorem resetAll_fns (s : State) (fs : List Fn) :
    (s.resetAll fs).pr.fns = s.pr.fns.filter fun f => fs.all fun g => !decide (f.code = g.code ∧ f.group = g.group) := by
  induction fs generalizing s with
  | nil => exact (List.filter_eq_self.2 fun _ _ => rfl).symm
  | cons g fs ih =>
    refine (ih (s.resetWhole g.code g.group)).trans ?_
    rw [resetWhole_fns, List.filter_filter]
    exact List.filter_congr fun f _ => by rw [List.all_cons, Bool.and_comm]

section Filtered

variable {s u : State} {keep : Fn → Bool} {code group : Nat} (hfns : u.pr.fns = s.pr.fns.filter keep)
include hfns

theorem fn_of_dropped (h : ∀ f, f.code = code → f.group = group → keep f = false) : u.fn code group = none := by
  rw [State.fn, hfns]
  refine List.find?_eq_none.2 fun f hf hkey => ?_
  obtain ⟨hcode, hgroup⟩ := of_decide_eq_true hkey
  simp [h f hcode hgroup] at hf

theorem fn_of_kept (h : ∀ f, f.code = code → f.group = group → keep f = true) : u.fn code group = s.fn code group := by
  rw [State.fn, State.fn, hfns, List.find?_filter]
  congr 1
  funext f
  by_cases hkey : f.code = code ∧ f.group = group
  · simp [h f hkey.1 hkey.2]
  · simp [hkey]

end Filtered

/-! ### A function that resets by itself (11 R310) -/

/-- The meaning of AUTOMATIC_RESET. -/
def automaticReset (code group : Nat) (s : State) : State :=
  match s.fn code group, s.fnInfo code group with
  | some f, some i =>
    if !f.latched && !decide (code = 0x0A ∨ code = 0x09) && !f.condition && f.absentSince.isSome && s.heldFor f.absentSince (ms i.clear) then
      s.resetWhole code group
    else s
  | _, _ => s

theorem exec_automaticReset (t code group : Nat) (s : State) : exec (.automaticReset t code group) s = s.run t (automaticReset code group) := rfl

theorem automaticReset_none {code group : Nat} {s : State} (h : s.fn code group = none) : automaticReset code group s = s := by
  unfold automaticReset
  rw [h]

theorem automaticReset_stands {code group : Nat} {f : Fn} {s : State} (hfn : s.fn code group = some f)
    (h : f.latched = true ∨ code = 0x0A ∨ f.condition = true ∨ f.absentSince = none) : automaticReset code group s = s := by
  unfold automaticReset
  rw [hfn]
  cases s.fnInfo code group with
  | none => rfl
  | some i =>
    refine if_neg ?_
    obtain h | h | h | h := h <;> simp [h]

theorem automaticReset_resets {code group d : Nat} {f : Fn} {i : FnInfo} {s : State} (hfn : s.fn code group = some f) (hinfo : s.fnInfo code group = some i)
    (hlatch : f.latched = false) (hthyme : code ≠ 0x0A) (henergy : code ≠ 0x09) (hcond : f.condition = false) (habsent : f.absentSince = some d)
    (hover : d + ms i.clear ≤ s.now) : automaticReset code group s = s.resetWhole code group := by
  unfold automaticReset
  rw [hfn, hinfo]
  have hheld : s.heldFor f.absentSince (ms i.clear) = true := heldFor_of_reached habsent hover
  exact if_pos (by simp [hlatch, hthyme, henergy, hcond, habsent, habsent ▸ hheld])

/-! ### PROTECTION_RESET (11 R309; 17 R435, R436) -/

theorem exec_protectionReset (t : Nat) (m : Maint) (code : Nat) (s : State) :
    exec (.protectionReset t m code) s = s.run t fun s => s.maint m 0x0701 (protectionReset code) := rfl

/-- The latched entries of a code. -/
def State.latchedOf (s : State) (code : Nat) : List Fn := s.pr.fns.filter fun f => f.latched && decide (f.code = code)

theorem mem_latchedOf {s : State} {code : Nat} {f : Fn} : f ∈ s.latchedOf code ↔ f ∈ s.pr.fns ∧ f.latched = true ∧ f.code = code := by
  simp [State.latchedOf]

theorem protectionReset_follower {s : State} (h : s.leads = false) (code : Nat) : protectionReset code s = refuse 1 s := if_pos (by simp [h])

theorem protectionReset_unknown {code : Nat} {s : State} (hleads : s.leads = true) (hall : code ≠ 0xFF) (hcode : code ∉ fnCodes) :
    protectionReset code s = (s, stInvalid, 0, []) := by
  unfold protectionReset
  rw [if_neg (by simp [hleads]), if_pos (by simp [hall, hcode])]

/-- A named function, but for 0x0A, resets with every latched entry that may; one that may not is named. -/
theorem protectionReset_named {code : Nat} {s : State} (hleads : s.leads = true) (hcode : code ∈ fnCodes) (hthyme : code ≠ 0x0A) : protectionReset code s =
    match (s.latchedOf code).find? fun f => !s.mayReset f with
    | some f => (s.resetAll ((s.latchedOf code).filter s.mayReset), stBusy, 0, [f.code])
    | none => (s.resetAll ((s.latchedOf code).filter s.mayReset), stDone, 0, []) := by
  have hall : code ≠ 0xFF := (by decide : ∀ c ∈ fnCodes, c ≠ 0xFF) code hcode
  have hnamed : (s.pr.fns.filter fun f => f.latched && !decide (f.code = 0x0A) && decide (code = 0xFF ∨ f.code = code)) = s.latchedOf code := by
    refine List.filter_congr fun f _ => ?_
    by_cases hf : f.code = code
    · simp [hf, hthyme]
    · simp [hf, hall]
  unfold protectionReset
  rw [if_neg (by simp [hleads]), if_neg (by simp [hcode]), hnamed]
  rfl

theorem protectionReset_done {code : Nat} {s : State} (hleads : s.leads = true) (hcode : code ∈ fnCodes) (hthyme : code ≠ 0x0A)
    (hmay : ∀ f ∈ s.latchedOf code, s.mayReset f = true) : protectionReset code s = (s.resetAll (s.latchedOf code), stDone, 0, []) := by
  have hnone : (s.latchedOf code).find? (fun f => !s.mayReset f) = none := List.find?_eq_none.2 fun f hf => by simp [hmay f hf]
  rw [protectionReset_named hleads hcode hthyme, hnone, List.filter_eq_self.2 hmay]

theorem protectionReset_busy {code : Nat} {f : Fn} {s : State} (hleads : s.leads = true) (hcode : code ∈ fnCodes) (hthyme : code ≠ 0x0A)
    (hf : f ∈ s.latchedOf code) (hstands : s.mayReset f = false) : ∃ v, protectionReset code s = (v, stBusy, 0, [code]) := by
  rw [protectionReset_named hleads hcode hthyme]
  cases hfound : (s.latchedOf code).find? fun f => !s.mayReset f with
  | none => simpa [hstands] using List.find?_eq_none.1 hfound f hf
  | some g =>
    obtain ⟨-, -, hcodeG⟩ := mem_latchedOf.1 (List.mem_of_find?_eq_some hfound)
    exact ⟨_, by rw [← hcodeG]⟩

/-- The latched entries of a code reset: no function of them stands, and the other codes are as they were. -/
theorem resetAll_latchedOf (s : State) (code : Nat) :
    (∀ f ∈ s.latchedOf code, (s.resetAll (s.latchedOf code)).fn code f.group = none) ∧
      ∀ c g, c ≠ code → (s.resetAll (s.latchedOf code)).fn c g = s.fn c g := by
  have hfns := resetAll_fns s (s.latchedOf code)
  refine ⟨fun f hf => fn_of_dropped hfns fun g hcode hgroup => ?_, fun c g hc => fn_of_kept hfns fun f hcode _ => ?_⟩
  · obtain ⟨-, -, hcodeF⟩ := mem_latchedOf.1 hf
    exact List.all_eq_false.2 ⟨f, hf, by simp [hcode, hgroup, hcodeF]⟩
  · refine List.all_eq_true.2 fun g hg => ?_
    obtain ⟨-, -, hcodeG⟩ := mem_latchedOf.1 hg
    simp [hcode, hcodeG, hc]

theorem cmdAnswer_fn (s : State) (m : Maint) (code status reason : Nat) (r : List Nat) (c g : Nat) :
    (s.cmdAnswer m code status reason r).fn c g = s.fn c g := rfl

/-- A command answered without an effect of its own leaves the table of functions as it is. -/
theorem answers_fns_unchanged {c : Instr} {s : State} {t code status reason : Nat} {m : Maint} {r : List Nat} {body : State → State × Nat × Nat × List Nat}
    (he : exec c s = s.run t fun s => s.maint m code body) (htakes : s.takes m)
    (hbody : body ((s.begin t).commandTaken m) = ((s.begin t).commandTaken m, status, reason, r)) :
    Answers c s fun s' => (s'.tele m.key).client.stored = cmdReply code status reason r ∧ s'.pr.fns = s.pr.fns := by
  refine answers_taken he htakes hbody ?_
  rw [settle_tele, cmdAnswer_stored, settled_prot Prot.fns]
  exact ⟨rfl, rfl⟩

end Sys2Proof.Machine

/-! The insulation monitor: its figures at a half-period, and its coupling (11 R306 to R308; 12 R315). -/

namespace Sys2Proof.Machine

open Sys2Proof

/-! ### What decisions leave of the insulation figures -/

/-- R_iso with its quality, the polarity of the half-period, and the means of the one before. -/
def State.isolation (s : State) : Nat × BitVec 8 × Bool × Option Int × Option Int :=
  (s.pr.riso, s.pr.risoQuality, s.pr.injPlus, s.pr.hv5Prev, s.pr.hv4Prev)

theorem isolation_of_pr {a b : State} (h : a.pr = b.pr) : a.isolation = b.isolation := by
  rw [State.isolation, State.isolation, h]

@[simp] theorem setFn_isolation (s : State) (f : Fn) : (s.setFn f).isolation = s.isolation := by
  obtain ⟨l, h⟩ := setFn_pr s f
  rw [State.isolation, h]
  rfl

@[simp] theorem noteDecision_isolation (s : State) (code group subject : Nat) (value : Int) :
    (s.noteDecision code group subject value).isolation = s.isolation := by
  rw [State.isolation, noteDecision_pr]
  rfl

@[simp] theorem writeLatches_isolation (s : State) : s.writeLatches.isolation = s.isolation := isolation_of_pr (writeLatches_pr s)
@[simp] theorem openString_isolation (s : State) : s.openString.isolation = s.isolation := isolation_of_pr (openString_pr s)
@[simp] theorem openBranch_isolation (s : State) (b : Nat) : (s.openBranch b).isolation = s.isolation := isolation_of_pr (openBranch_pr s b)
@[simp] theorem endSequenceOf_isolation (s : State) (b : Nat) : (s.endSequenceOf b).isolation = s.isolation := isolation_of_pr (endSequenceOf_pr s b)
@[simp] theorem dropWaiting_isolation (s : State) (ks : List Nat) : (s.dropWaiting ks).isolation = s.isolation := isolation_of_pr (dropWaiting_pr s ks)
@[simp] theorem onCont_isolation (s : State) (f : Cont → Cont) : (s.onCont f).isolation = s.isolation := rfl

@[simp] theorem decideFn_isolation (s : State) (code group subject : Nat) (value : Int) (cells : List Nat) :
    (s.decideFn code group subject value cells).isolation = s.isolation := by
  have hholds (u : State) (h : Prot → List Nat) : (u.onProt fun p => { p with holdBranches := h p }).isolation = u.isolation := rfl
  have hwaits (u : State) (w : Prot → List OpenWait) : (u.onProt fun p => { p with waits := w p }).isolation = u.isolation := rfl
  unfold State.decideFn
  split
  case h_1 => rfl
  case h_2 i _ =>
    obtain ⟨cls, action, latched, delay, clear⟩ := i
    cases action <;> simp only [apply_ite State.isolation, hholds, hwaits, onCont_isolation, openString_isolation, openBranch_isolation,
      endSequenceOf_isolation, dropWaiting_isolation, writeLatches_isolation, setFn_isolation, noteDecision_isolation, ite_self]

@[simp] theorem evalFn_isolation (s : State) (code group : Nat) (present : Bool) : (s.evalFn code group present).isolation = s.isolation := by
  obtain h | ⟨f, h⟩ := evalFn_cases s code group present
  · rw [h]
  · rw [h, setFn_isolation]

@[simp] theorem evalAndDecide_isolation (s : State) (code group : Nat) (present : Bool) (subject : Nat) (value : Int) (cells : List Nat) :
    (s.evalAndDecide code group present subject value cells).isolation = s.isolation := by
  unfold State.evalAndDecide
  dsimp only
  split
  · split <;> simp [apply_ite State.isolation]
  · split <;> simp [apply_ite State.isolation]

@[simp] theorem watchFn_isolation (s : State) (code group subject : Nat) (value : Int) (cells : List Nat) :
    (s.watchFn code group subject value cells).isolation = s.isolation := by
  unfold State.watchFn
  split
  · split
    · rfl
    · exact evalAndDecide_isolation ..
  · exact evalAndDecide_isolation ..

@[simp] theorem poleStep_isolation (s : State) (x : InsIn) : (s.poleStep x).isolation = s.isolation := by
  have hpoles (u : State) (l : Prot → List (Int × Int × Bool)) : (u.onProt fun p => { p with poleSum := l p }).isolation = u.isolation := rfl
  unfold State.poleStep
  dsimp only
  split
  · split
    · exact hpoles s _
    · rw [evalAndDecide_isolation, hpoles]
  · exact hpoles s _

/-- The pole shift and the insulation levels, evaluated on the figures of a half-period, leave them as they are. -/
theorem insulationHalf_isolation (x : InsIn) (s : State) : (insulationHalf x s).isolation =
    (if s.monitorCoupled then s.isoStep x else s.onProt fun p => { p with risoQuality := qAbsent, hv5Prev := none, hv4Prev := none }).isolation := by
  unfold insulationHalf
  dsimp only
  rw [watchFn_isolation, watchFn_isolation]
  refine (foldl_keeps State.isolation (fun u code => ?_) _ _).trans (poleStep_isolation ..)
  split
  · split
    · exact evalFn_isolation ..
    · rfl
  · rfl

/-! ### The half-period (11 R307) -/

/-- The meaning of INSULATION_HALF_PERIOD. -/
def halfPeriod (x : InsIn) (s : State) : State :=
  if (s.pr.halfAt.isNone || s.heldFor s.pr.halfAt (500000 * s.cfg.ins.period)) && decide (s.pw.state = .run ∨ s.pw.state = .watch) then
    insulationHalf x (s.onProt fun p => { p with halfAt := some s.now })
  else s

theorem exec_insulationHalfPeriod (t : Nat) (x : InsIn) (s : State) : exec (.insulationHalfPeriod t x) s = s.run t (halfPeriod x) := rfl

theorem halfPeriod_off {s : State} (hrun : s.pw.state ≠ .run) (hwatch : s.pw.state ≠ .watch) (x : InsIn) : halfPeriod x s = s :=
  if_neg (by simp [hrun, hwatch])

theorem halfPeriod_ends {s : State} (hon : s.pw.state = .run ∨ s.pw.state = .watch)
    (hover : ∀ h, s.pr.halfAt = some h → h + 500000 * s.cfg.ins.period ≤ s.now) (x : InsIn) :
    halfPeriod x s = insulationHalf x (s.onProt fun p => { p with halfAt := some s.now }) := by
  refine if_pos ?_
  rw [decide_eq_true hon, Bool.and_true]
  cases hhalf : s.pr.halfAt with
  | none => rfl
  | some h => exact Bool.or_eq_true_iff.2 (.inr (heldFor_of_reached rfl (hover h hhalf)))

/-- With HV5 valid and steady over two half-periods whose HV4 means agree, R_iso follows from the change of HV5 under the injection (11 R307). -/
theorem isoStep_isolation {x : InsIn} {v5 p5 : Int} {s : State} (hvalid : x.hv5 = some v5) (hsteady : x.change ≤ 5000)
    (hprev5 : s.pr.hv5Prev = some p5) (hprev4 : s.pr.hv4Prev = some x.hv4) :
    let raw : Rat := ((v5 - p5 : Int) : Rat) / 1000
    let r := isoOf (if s.pr.injPlus then raw else -raw)
    (s.isoStep x).isolation = (r.1, mkQuality true false false false false false false r.2, !s.pr.injPlus, some v5, some x.hv4) := by
  unfold State.isoStep
  simp only [hvalid, hprev5, hprev4, not_lt.2 hsteady, if_false, if_true, sub_zero]
  rfl

/-- An uncoupled monitor has no insulation value (11 R306). -/
theorem halfPeriod_uncoupled {s : State} (hon : s.pw.state = .run ∨ s.pw.state = .watch)
    (hover : ∀ h, s.pr.halfAt = some h → h + 500000 * s.cfg.ins.period ≤ s.now) (huncoupled : s.monitorCoupled = false) (x : InsIn) :
    (halfPeriod x s).isolation = (s.pr.riso, qAbsent, s.pr.injPlus, none, none) := by
  rw [halfPeriod_ends hon hover, insulationHalf_isolation]
  exact congrArg State.isolation (if_neg fun hcoupled => Bool.false_ne_true (huncoupled.symm.trans hcoupled))

theorem halfPeriod_measures {x : InsIn} {v5 p5 : Int} {s : State} (hon : s.pw.state = .run ∨ s.pw.state = .watch)
    (hover : ∀ h, s.pr.halfAt = some h → h + 500000 * s.cfg.ins.period ≤ s.now) (hcoupled : s.monitorCoupled = true) (hvalid : x.hv5 = some v5)
    (hsteady : x.change ≤ 5000) (hprev5 : s.pr.hv5Prev = some p5) (hprev4 : s.pr.hv4Prev = some x.hv4) :
    let raw : Rat := ((v5 - p5 : Int) : Rat) / 1000
    let r := isoOf (if s.pr.injPlus then raw else -raw)
    (halfPeriod x s).isolation = (r.1, mkQuality true false false false false false false r.2, !s.pr.injPlus, some v5, some x.hv4) := by
  rw [halfPeriod_ends hon hover, insulationHalf_isolation]
  exact (congrArg State.isolation (if_pos hcoupled)).trans
    (isoStep_isolation (s := s.onProt fun p => { p with halfAt := some s.now }) hvalid hsteady hprev5 hprev4)

/-- The command that ends a half-period leaves its figures, whatever functions it decides. -/
theorem answers_halfPeriod {s : State} {t riso : Nat} {x : InsIn} {quality : BitVec 8} {plus : Bool} {hv5 hv4 : Option Int}
    (h : (halfPeriod x (s.begin t)).isolation = (riso, quality, plus, hv5, hv4)) : Answers (.insulationHalfPeriod t x) s fun s' =>
      s'.pr.riso = riso ∧ s'.pr.risoQuality = quality ∧ s'.pr.injPlus = plus ∧ s'.pr.hv5Prev = hv5 ∧ s'.pr.hv4Prev = hv4 := by
  refine answers_of (exec_insulationHalfPeriod ..) ?_
  have hfigures := (settled_prot (fun p => (p.riso, p.risoQuality, p.injPlus, p.hv5Prev, p.hv4Prev)) (by intros; rfl) s _ t).trans h
  simpa only [Prod.mk.injEq] using hfigures

/-! ### R_iso from a difference (11 R307) -/

/-- A rounding of open direction stays between integer bounds. -/
theorem roundOpen_mem {a b : Int} {x : Rat} (ha : (a : Rat) ≤ x) (hb : x ≤ (b : Rat)) (tag : Nat) : a ≤ roundOpen tag x ∧ roundOpen tag x ≤ b := by
  have hlow : a ≤ x.floor := Int.le_floor.2 ha
  unfold roundOpen
  split
  next hden =>
    have hx : (x.num : Rat) = x := Rat.den_eq_one_iff x |>.1 hden
    rw [← hx] at ha hb
    exact ⟨Int.cast_le.1 ha, Int.cast_le.1 hb⟩
  next hden =>
    have hne : x ≠ (b : Rat) := by
      rintro rfl
      exact hden rfl
    have hhigh : x.floor < b := Int.floor_lt.2 (lt_of_le_of_ne hb hne)
    split
    · exact ⟨by omega, by omega⟩
    · exact ⟨hlow, hhigh.le⟩

theorem isoOf_low {dv : Rat} (h : dv ≤ 0) : isoOf dv = (10, true) := if_pos h

theorem isoOf_high {dv : Rat} (h : 60 ≤ dv) : isoOf dv = (5000, true) := by
  unfold isoOf
  rw [if_neg (by linarith), if_pos h]

theorem isoOf_bounds (dv : Rat) : 10 ≤ (isoOf dv).1 ∧ (isoOf dv).1 ≤ 5000 := by
  unfold isoOf
  dsimp only
  split
  · decide
  · split
    · decide
    · split
      · decide
      · split
        · decide
        next hlow hhigh =>
          obtain ⟨hge, hle⟩ := roundOpen_mem (a := 10) (b := 5000) (by exact_mod_cast not_lt.1 hlow) (by exact_mod_cast not_lt.1 hhigh) 40
          dsimp only
          omega

/-! ### The coupling (11 R306; 12 R315 to R317) -/

theorem exec_monitorCouplingWaitExpiry (t : Nat) (s : State) : exec (.monitorCouplingWaitExpiry t) s = s.run t State.couple := rfl

theorem couple_waits {s : State} (h : s.mayCouple = false ∨ s.coilOn 12 = true) : s.couple = s := by
  refine if_neg ?_
  obtain h | h := h <;> simp [h]

/-- A coil-on that need not wait starts its pull-in (12 R315, R316). -/
theorem coilOnReq_starts {s : State} {k : Nat} (hused : s.usedK k = true) (hoff : s.coilOn k = false) (hfree : s.ct.queue = [])
    (hmay : s.mayPullIn k = true) : s.coilOnReq k = (s.onCoil k fun c => { c with requestedAt := s.now }).startPullIn k := by
  unfold State.coilOnReq
  rw [if_neg (by simp [hused, hoff]), if_pos (by simp [hfree, hmay])]

theorem startPullIn_coil (s : State) (k : Nat) : (s.startPullIn k).coil k =
    { s.coil k with phase := .pullIn, commandAt := s.now, pullAt := s.now, tripClosed := true, confirmed := false, supplyWait := false } :=
  coil_onCoil_same ..

theorem couple_starts {s : State} (hmay : s.mayCouple = true) (hoff : s.coilOn 12 = false) (hfree : s.ct.queue = []) (hpull : s.mayPullIn 12 = true) :
    (s.couple.coil 12).phase = .pullIn ∧ (s.couple.coil 12).tripClosed = true ∧ (s.couple.coil 12).pullAt = s.now := by
  have hcouple : s.couple = (s.coilOnReq 12).record .monitorCoupled 0 [] := if_pos (by simp [hmay, hoff])
  have hused : s.usedK 12 = true := rfl
  rw [hcouple, coil_of_coils (congrArg Cont.coils (record_ct ..)), coilOnReq_starts hused hoff hfree hpull, startPullIn_coil]
  exact ⟨rfl, rfl, rfl⟩

/-! ### The obligation -/

/-- Settles O24: a function resets by whether its condition has been absent long enough, and the figures are those of the half-period, whatever it decides. -/
theorem protectionResets : Obligations.ProtectionResets := by
  unfold Obligations.ProtectionResets
  refine ⟨?resets, ?stands, ?absent, ?follower, ?unknown, ?done, ?busy, ?off, ?uncoupled, ?measured, fun _ => isoOf_low, fun _ => isoOf_high, isoOf_bounds,
    ?waits, ?couples⟩
  case resets =>
    intro t code g f i d s hfn hinfo hlatch hthyme henergy hcond habsent hover
    have hfns := resetWhole_fns (s.begin t) code g
    refine answers_of (exec_automaticReset ..) ?_
    rw [automaticReset_resets (s := s.begin t) hfn hinfo hlatch hthyme henergy hcond habsent hover, settled_fn]
    refine ⟨fn_of_dropped hfns fun f hcode hgroup => by simp [hcode, hgroup], fun c h hother => ?_⟩
    rw [settled_fn]
    refine fn_of_kept (s := s.begin t) hfns fun f hcode hgroup => ?_
    have hne : ¬(f.code = code ∧ f.group = g) := fun hkey => hother (by rw [← hcode, ← hgroup, hkey.1, hkey.2])
    exact congrArg (!·) (decide_eq_false hne)
  case stands =>
    intro t code g f s hfn h
    exact idles_of (exec_automaticReset ..) (automaticReset_stands (s := s.begin t) hfn h)
  case absent =>
    intro t code g s hnone
    exact idles_of (exec_automaticReset ..) (automaticReset_none (s := s.begin t) hnone)
  case follower =>
    intro t m code s htakes hfollows
    exact answers_fns_unchanged (exec_protectionReset ..) htakes (protectionReset_follower (s := (s.begin t).commandTaken m) hfollows code)
  case unknown =>
    intro t m code s htakes hleads hall hcode
    exact answers_fns_unchanged (exec_protectionReset ..) htakes (protectionReset_unknown (s := (s.begin t).commandTaken m) hleads hall hcode)
  case done =>
    intro t m code s htakes hleads hcode hmay hthyme
    have hmay : ∀ f ∈ ((s.begin t).commandTaken m).latchedOf code, ((s.begin t).commandTaken m).mayReset f = true := fun f hf => by
      obtain ⟨hmem, hlatch, hcodeF⟩ := mem_latchedOf.1 hf
      exact hmay f hmem hcodeF hlatch
    obtain ⟨hreset, hothers⟩ := resetAll_latchedOf ((s.begin t).commandTaken m) code
    refine answers_taken (exec_protectionReset ..) htakes (protectionReset_done hleads hcode hthyme hmay) ?_
    rw [settle_tele, cmdAnswer_stored]
    refine ⟨rfl, fun f hmem hcodeF hlatch => ?_, fun c g hc => ?_⟩
    · rw [settled_fn, cmdAnswer_fn]
      exact hreset f (mem_latchedOf.2 ⟨hmem, hlatch, hcodeF⟩)
    · rw [settled_fn, cmdAnswer_fn]
      exact hothers c g hc
  case busy =>
    intro t m code f s htakes hleads hcode hthyme hmem hcodeF hlatch hstands
    obtain ⟨v, hbusy⟩ := protectionReset_busy (s := (s.begin t).commandTaken m) hleads hcode hthyme (mem_latchedOf.2 ⟨hmem, hlatch, hcodeF⟩) hstands
    refine answers_taken (exec_protectionReset ..) htakes hbusy ?_
    rw [settle_tele, cmdAnswer_stored]
  case off =>
    intro t x s hrun hwatch
    exact idles_of (exec_insulationHalfPeriod ..) (halfPeriod_off (s := s.begin t) hrun hwatch x)
  case uncoupled =>
    intro t x s hon hfirst huncoupled
    have hover : ∀ h, (s.begin t).pr.halfAt = some h → h + 500000 * (s.begin t).cfg.ins.period ≤ (s.begin t).now := fun h hh =>
      absurd (hh.symm.trans hfirst) (by simp)
    obtain ⟨s', hnext, hriso, hquality, -, hhv5, hhv4⟩ := answers_halfPeriod (halfPeriod_uncoupled (s := s.begin t) hon hover huncoupled x)
    exact ⟨s', hnext, hquality, hriso, hhv5, hhv4⟩
  case measured =>
    intro t x v5 p5 s hon hover hcoupled hvalid hsteady hprev5 hprev4
    exact answers_halfPeriod (halfPeriod_measures (s := s.begin t) hon hover hcoupled hvalid hsteady hprev5 hprev4)
  case waits =>
    intro t s h
    exact idles_of (exec_monitorCouplingWaitExpiry ..) (couple_waits (s := s.begin t) h)
  case couples =>
    intro t s hmay hoff hfree hpull
    refine answers_of (exec_monitorCouplingWaitExpiry ..) ?_
    rw [settled_coil]
    exact couple_starts (s := s.begin t) hmay hoff hfree hpull

end Sys2Proof.Machine

/-! GOOSE: the repetition of a dataset, the frames of a subscription, and its silence (17 R438 to R442; 11 R306). -/

namespace Sys2Proof.Machine

open Sys2Proof

/-! ### What settling leaves of the network (17 R423, R441) -/

theorem settled_subs (s u : State) (t : Nat) : (s.settle (s.keep t u)).nt.subs = u.nt.subs := settled_part (fun v => v.nt.subs) s u t

theorem settleTwin_ports (s : State) : s.settleTwin.nt.ports = s.nt.ports := by
  unfold State.settleTwin
  dsimp only
  split
  · split
    · rfl
    · exact record_nt_ports ..
  · rfl

theorem settleCan_ports (s : State) : s.settleCan.nt.ports = s.nt.ports := by
  unfold State.settleCan
  dsimp only
  (repeat' split) <;> rfl

theorem settleHolds_ports (s : State) : s.settleHolds.nt.ports = s.nt.ports := by
  unfold State.settleHolds
  dsimp only
  split <;> rfl

theorem settleCandidate_ports (s : State) : s.settleCandidate.nt.ports = s.nt.ports := by
  unfold State.settleCandidate
  dsimp only
  split <;> rfl

theorem ports_of_quiet {a b : State} (h : a.quiet = b.quiet) : a.nt.ports = b.nt.ports := (congrArg (fun s : State => s.nt.ports) h :)

theorem settleOut_ports (s : State) (o : Nat) : (s.settleOut o).nt.ports = s.nt.ports := by
  unfold State.settleOut State.interruptTest
  dsimp only
  rw [State.onSafety_nt]
  split
  · rfl
  · split
    · rfl
    · exact record_nt_ports ..

theorem goosePublish_ports (s : State) : s.goosePublish.nt.ports = s.nt.ports := by
  have hchange (u : State) (d : Nat) : (u.gooseChange d).nt.ports = u.nt.ports := by
    unfold State.gooseChange
    dsimp only
    split <;> rfl
  unfold State.goosePublish
  split
  · rw [hchange, hchange, hchange]
  · rfl

/-- Settling counts the frames a port sends, and none that it discarded. -/
theorem settlePorts_discarded (s : State) (p : Nat) : (s.settlePorts.nt.ports.get p {}).discarded = (s.nt.ports.get p {}).discarded := by
  unfold State.settlePorts
  refine (foldl_keeps (fun u : State => (u.nt.ports.get p {}).discarded) (fun u e =>
    foldl_keeps (fun u : State => (u.nt.ports.get p {}).discarded) (fun u q => ?_) _ u) _ _).trans rfl
  split
  · rw [State.onNet_nt, Table.get_upd]
    split
    next hpq => rw [hpq]
    · rfl
  · rfl

theorem settle_discarded (old s : State) (p : Nat) : ((old.settle s).nt.ports.get p {}).discarded = (s.nt.ports.get p {}).discarded := by
  have hwrapped : (if s.ro.wrapped && !old.ro.wrapped then s.record .storeWrapped 0 [] else s).nt.ports = s.nt.ports := by
    split
    · exact record_nt_ports ..
    · rfl
  unfold State.settle
  dsimp only
  rw [settlePorts_discarded, ports_of_quiet (pubChanges_quiet ..), goosePublish_ports, settleOut_ports, settleOut_ports, State.settleStop, State.onRantus_nt,
    ports_of_quiet (settleShadow_quiet ..), settleCandidate_ports, settleHolds_ports, settleCan_ports, settleTwin_ports, hwrapped]

theorem port_onPort_same (s : State) (p : Nat) (f : Port → Port) : (s.onPort p f).nt.ports.get p {} = f (s.nt.ports.get p {}) := Table.get_upd_same ..

theorem received_discarded (s : State) (p : Nat) : ((s.received p).nt.ports.get p {}).discarded = (s.nt.ports.get p {}).discarded :=
  (congrArg Port.discarded (port_onPort_same s p fun x => { x with received := wrapInc x.received }) :)

/-! ### Publication (17 R440) -/

/-- The meaning of GOOSE_REPETITION. -/
def gooseRepeat (d : Nat) (s : State) : State :=
  let g := s.nt.pubs.get d {}
  if s.gooseOn && s.due g.nextAt then
    let w := min (max 2 (s.gooseCfg d).maxMs) (2 * g.interval)
    let g1 := { g with sqNum := max 1 (wrapInc g.sqNum), interval := w, nextAt := some (s.now + ms w) }
    (s.onNet fun n => { n with pubs := n.pubs.put d {} g1 }).emit .goose d (s.gooseFrame d g1)
  else s

theorem exec_gooseRepetition (t : Nat) (d : Fin 3) (s : State) : exec (.gooseRepetition t d) s = s.run t (gooseRepeat d.val) := rfl

theorem gooseRepeat_idle {d : Nat} {s : State} (h : s.gooseOn = false ∨ (s.nt.pubs.get d {}).nextAt = none) : gooseRepeat d s = s := by
  refine if_neg ?_
  obtain h | h := h <;> simp [h, State.due]

theorem gooseRepeat_sends {d a : Nat} {s : State} (hon : s.gooseOn = true) (hnext : (s.nt.pubs.get d {}).nextAt = some a) (hdue : a ≤ s.now) :
    let g := s.nt.pubs.get d {}
    let w := min (max 2 (s.gooseCfg d).maxMs) (2 * g.interval)
    wrapped s.cfg { kind := .goose, port := d, bytes := s.gooseFrame d { g with sqNum := max 1 (wrapInc g.sqNum), interval := w, nextAt := some (s.now + ms w) } } ∈
      (gooseRepeat d s).out := by
  have hdue : s.due (s.nt.pubs.get d {}).nextAt = true := due_of_reached hnext hdue
  unfold gooseRepeat
  dsimp only
  rw [if_pos (by simp [hon, hdue])]
  exact emitted (s.onNet _) ..

/-! ### Subscriptions (17 R441, R442) -/

/-- The state of a subscription is replaced. -/
def State.putSub (s : State) (i : Nat) (x : GooseSub) : State := s.onNet fun n => { n with subs := n.subs.put i {} x }

theorem putSub_same (s : State) (i : Nat) (x : GooseSub) : (s.putSub i x).nt.subs.get i {} = x := Table.get_put_same ..

/-- The subscriptions to the APPID of a frame, with their numbers. -/
def State.subsFor (s : State) (f : GooseIn) : List (CfgGooseSub × Nat) := s.cfg.gooseSubs.zipIdx.filter fun e => decide (e.1.appid = f.appid)

/-- A frame agrees with a subscription: identity, configuration revision, member count and stNum, and it is neither a test nor a simulation (17 R441). -/
structure GooseAgrees (f : GooseIn) (k : CfgGooseSub) (x : GooseSub) : Prop where
  cbRef : k.cbRef = f.cbRef
  datSet : k.datSet = f.datSet
  confRev : k.confRev = f.confRev
  count : f.members.length = if k.coupling then 8 else f.count
  member : 1 ≤ k.member
  flags : f.flags = false
  stNum : x.stNum = none ∨ ∃ n, x.stNum = some n ∧ notBefore f.stNum n = true

/-- What a frame does to one subscription (17 R441, R442). -/
def State.gooseTake (s : State) (f : GooseIn) (k : CfgGooseSub) (i : Nat) : State :=
  let x := s.nt.subs.get i {}
  let newer := match x.stNum with | some n => notBefore f.stNum n | none => true
  let count := if k.coupling then 8 else f.count
  match (f.members[k.member - 1]?).join with
  | some v =>
    if decide (k.cbRef = f.cbRef) && decide (k.datSet = f.datSet) && decide (k.confRev = f.confRev) && decide (f.members.length = count) &&
        decide (1 ≤ k.member) && !f.flags && newer then
      let s1 := s.putSub i { x with stNum := some f.stNum, until_ := some (s.now + ms f.ttl), silent := false, value := v }
      if k.coupling then s1.couplingSeen k.string v
      else s1.onProt fun p => { p with gooseTrip := if v then insertN i p.gooseTrip else p.gooseTrip.filter fun j => !decide (j = i) }
    else s.putSub i { x with rejected := wrapInc x.rejected }
  | none => s.putSub i { x with rejected := wrapInc x.rejected }

theorem gooseReceived_off {f : GooseIn} {s : State} (h : s.netOn = false) : gooseReceived f s = s := if_pos (by simp [h])

theorem gooseReceived_on {f : GooseIn} {s : State} (h : s.netOn = true) : gooseReceived f s =
    if (s.subsFor f).isEmpty then (s.received f.port).onPort f.port fun x => { x with discarded := wrapInc x.discarded }
    else (s.subsFor f).foldl (fun u e => u.gooseTake f e.1 e.2) (s.received f.port) := by
  unfold gooseReceived
  rw [if_neg (by simp [h])]
  rfl

theorem gooseReceived_single {f : GooseIn} {k : CfgGooseSub} {i : Nat} {s : State} (h : s.netOn = true) (hsubs : s.subsFor f = [(k, i)]) :
    gooseReceived f s = (s.received f.port).gooseTake f k i := by
  rw [gooseReceived_on h, hsubs]
  rfl

theorem subsFor_of_none {f : GooseIn} {s : State} (h : ∀ k, k ∈ s.cfg.gooseSubs → k.appid ≠ f.appid) : s.subsFor f = [] := by
  refine List.filter_eq_nil_iff.2 fun e he => ?_
  simpa using h e.1 (List.fst_mem_of_mem_zipIdx he)

theorem gooseTake_accepts {f : GooseIn} {k : CfgGooseSub} {i : Nat} {v : Bool} {s : State} (h : GooseAgrees f k (s.nt.subs.get i {}))
    (hvalue : (f.members[k.member - 1]?).join = some v) : s.gooseTake f k i =
      let s1 := s.putSub i { s.nt.subs.get i {} with stNum := some f.stNum, until_ := some (s.now + ms f.ttl), silent := false, value := v }
      if k.coupling then s1.couplingSeen k.string v
      else s1.onProt fun p => { p with gooseTrip := if v then insertN i p.gooseTrip else p.gooseTrip.filter fun j => !decide (j = i) } := by
  obtain ⟨hcb, hdat, hrev, hcount, hmember, hflags, hst⟩ := h
  unfold State.gooseTake
  rw [hvalue]
  refine if_pos ?_
  obtain hst | ⟨n, hst, hnewer⟩ := hst
  · simp [hcb, hdat, hrev, hcount, hmember, hflags, hst]
  · simp [hcb, hdat, hrev, hcount, hmember, hflags, hst, hnewer]

theorem gooseTake_rejects {f : GooseIn} {k : CfgGooseSub} {i : Nat} {s : State}
    (h : ¬GooseAgrees f k (s.nt.subs.get i {}) ∨ (f.members[k.member - 1]?).join = none) :
    s.gooseTake f k i = s.putSub i { s.nt.subs.get i {} with rejected := wrapInc (s.nt.subs.get i {}).rejected } := by
  unfold State.gooseTake
  dsimp only
  split
  next v hvalue =>
    have hdisagrees := h.resolve_right (by simp [hvalue])
    refine if_neg fun hagrees => hdisagrees ?_
    simp only [Bool.and_eq_true, decide_eq_true_eq, Bool.not_eq_true'] at hagrees
    obtain ⟨⟨⟨⟨⟨⟨hcb, hdat⟩, hrev⟩, hcount⟩, hmember⟩, hflags⟩, hst⟩ := hagrees
    refine ⟨hcb, hdat, hrev, hcount, hmember, hflags, ?_⟩
    split at hst
    next n hn => exact .inr ⟨n, hn, hst⟩
    next hn => exact .inl hn
  · rfl

/-! ### The coupling order (11 R306) -/

theorem couplingSeen_undecided (s : State) (string : Nat) (coupled : Bool) : (s.couplingSeen string coupled).undecided = s.undecided := by
  unfold State.couplingSeen
  split
  · rfl
  · split
    · dsimp only
      split
      · exact coilOff_undecided ..
      · rfl
    · split <;> rfl

theorem couplingSeen_subs (s : State) (string : Nat) (coupled : Bool) : (s.couplingSeen string coupled).nt.subs = s.nt.subs :=
  (congrArg (fun u : State => u.nt.subs) (couplingSeen_undecided s string coupled) :)

theorem couplingSeen_gooseTrip (s : State) (string : Nat) (coupled : Bool) : (s.couplingSeen string coupled).pr.gooseTrip = s.pr.gooseTrip := by
  unfold State.couplingSeen
  split
  · rfl
  · split
    · dsimp only
      split
      · rw [coilOff_pr]
        rfl
      · rfl
    · split <;> rfl

/-- An earlier string reports its monitor coupled: K12 goes off. -/
theorem couplingSeen_coupled {s : State} {string : Nat} (hmode : s.cfg.ins.mode = 1) (hearlier : string ∈ s.earlierStrings) :
    ((s.couplingSeen string true).coil 12).phase = .off ∧ (s.couplingSeen string true).pr.coupledSeen.get string 0 = s.now := by
  unfold State.couplingSeen
  rw [if_neg (by simp [hmode, hearlier]), if_pos rfl]
  dsimp only
  split
  next hon =>
    refine ⟨coilOff_phase_same _ 12, ?_⟩
    rw [coilOff_pr]
    exact Table.get_put_same ..
  next hoff => exact ⟨by simpa [State.coilOn] using hoff, Table.get_put_same ..⟩

/-- An earlier string is uncoupled or silent: its wait begins. -/
theorem couplingSeen_uncoupled {s : State} {string : Nat} (hmode : s.cfg.ins.mode = 1) (hearlier : string ∈ s.earlierStrings)
    (hnew : string ∉ s.pr.couple.keys) : (s.couplingSeen string false).pr.couple.get string 0 = s.now := by
  unfold State.couplingSeen
  rw [if_neg (by simp [hmode, hearlier]), if_neg Bool.false_ne_true, if_neg hnew]
  exact Table.get_put_same ..

theorem couplingSeen_silent_coil (s : State) (string c : Nat) : (s.couplingSeen string false).coil c = s.coil c := by
  unfold State.couplingSeen
  split
  · rfl
  · rw [if_neg Bool.false_ne_true]
    split <;> rfl

/-- An accepted value is a trip condition, or goes to the coupling order (17 R442; 11 R306). -/
theorem gooseTake_gives {f : GooseIn} {k : CfgGooseSub} {i : Nat} {v : Bool} {s : State} (h : GooseAgrees f k (s.nt.subs.get i {}))
    (hvalue : (f.members[k.member - 1]?).join = some v) :
    let u := s.gooseTake f k i
    u.nt.subs.get i {} = { s.nt.subs.get i {} with stNum := some f.stNum, until_ := some (s.now + ms f.ttl), silent := false, value := v } ∧
      (k.coupling = false → (i ∈ u.pr.gooseTrip ↔ v = true) ∧ ∀ j, j ≠ i → (j ∈ u.pr.gooseTrip ↔ j ∈ s.pr.gooseTrip)) ∧
      (k.coupling = true → u.pr.gooseTrip = s.pr.gooseTrip ∧
        (v = true → s.cfg.ins.mode = 1 → k.string ∈ s.earlierStrings → (u.coil 12).phase = .off ∧ u.pr.coupledSeen.get k.string 0 = s.now)) := by
  dsimp only
  rw [gooseTake_accepts h hvalue]
  dsimp only
  split
  next hcoupling =>
    refine ⟨?_, fun hplain => absurd (hplain.symm.trans hcoupling) Bool.false_ne_true, fun _ => ⟨couplingSeen_gooseTrip .., ?_⟩⟩
    · rw [couplingSeen_subs, putSub_same]
    · rintro rfl hmode hearlier
      exact couplingSeen_coupled (s := s.putSub i _) hmode hearlier
  next hplain =>
    refine ⟨putSub_same .., fun _ => ?_, fun hcoupling => absurd hcoupling hplain⟩
    rw [State.onProt_pr]
    cases v with
    | false => exact ⟨by simp, fun j hj => by simp [State.putSub, hj]⟩
    | true => exact ⟨by simp [mem_insertN], fun j hj => by simp [State.putSub, mem_insertN, hj]⟩

/-! ### Silence (17 R441, R442; 11 R306) -/

/-- The meaning of GOOSE_SUBSCRIPTION_SILENT. -/
def subscriptionSilent (i : Nat) (s : State) : State :=
  match s.cfg.gooseSubs[i]? with
  | none => s
  | some k =>
    let x := s.nt.subs.get i {}
    if s.netOn && !x.silent && (s.due x.until_ || x.stNum.isNone) then
      let s1 := s.putSub i { x with silent := true, until_ := none }
      if k.coupling then s1.couplingSeen k.string false else s1.record .gooseSilent i []
    else s

theorem exec_gooseSubscriptionSilent (t : Nat) (i : Fin 16) (s : State) : exec (.gooseSubscriptionSilent t i) s = s.run t (subscriptionSilent i.val) := rfl

theorem subscriptionSilent_idle {i : Nat} {s : State} (h : s.netOn = false ∨ s.cfg.gooseSubs[i]? = none ∨ (s.nt.subs.get i {}).silent = true) :
    subscriptionSilent i s = s := by
  unfold subscriptionSilent
  split
  · rfl
  next k hk =>
    refine if_neg ?_
    obtain h | h | h := h
    · simp [h]
    · simp [h] at hk
    · simp [h]

theorem subscriptionSilent_falls {i : Nat} {k : CfgGooseSub} {s : State} (hnet : s.netOn = true) (hsub : s.cfg.gooseSubs[i]? = some k)
    (hheard : (s.nt.subs.get i {}).silent = false) (hover : (s.nt.subs.get i {}).stNum = none ∨ ∃ d, (s.nt.subs.get i {}).until_ = some d ∧ d ≤ s.now) :
    subscriptionSilent i s =
      let s1 := s.putSub i { s.nt.subs.get i {} with silent := true, until_ := none }
      if k.coupling then s1.couplingSeen k.string false else s1.record .gooseSilent i [] := by
  unfold subscriptionSilent
  rw [hsub]
  refine if_pos ?_
  obtain hnone | ⟨d, hd, hdue⟩ := hover
  · simp [hnet, hheard, hnone]
  · simp [hnet, hheard, due_of_reached hd hdue]

/-- A silent subscription keeps its trip condition and the coils; an earlier string of the coupling order begins its wait. -/
theorem subscriptionSilent_keeps {i : Nat} {k : CfgGooseSub} {s : State} (hnet : s.netOn = true) (hsub : s.cfg.gooseSubs[i]? = some k)
    (hheard : (s.nt.subs.get i {}).silent = false) (hover : (s.nt.subs.get i {}).stNum = none ∨ ∃ d, (s.nt.subs.get i {}).until_ = some d ∧ d ≤ s.now) :
    let u := subscriptionSilent i s
    u.nt.subs.get i {} = { s.nt.subs.get i {} with silent := true, until_ := none } ∧ u.pr.gooseTrip = s.pr.gooseTrip ∧
      (k.coupling = true → s.cfg.ins.mode = 1 → k.string ∈ s.earlierStrings → k.string ∉ s.pr.couple.keys → u.pr.couple.get k.string 0 = s.now) ∧
      ∀ c, u.coil c = s.coil c := by
  dsimp only
  rw [subscriptionSilent_falls hnet hsub hheard hover]
  dsimp only
  split
  next hcoupling =>
    refine ⟨?_, couplingSeen_gooseTrip .., fun _ hmode hearlier hnew => ?_, fun c => couplingSeen_silent_coil ..⟩
    · rw [couplingSeen_subs, putSub_same]
    · exact couplingSeen_uncoupled (s := s.putSub i _) hmode hearlier hnew
  next hcoupling =>
    refine ⟨?_, ?_, fun h => absurd h hcoupling, fun c => coil_of_coils (congrArg Cont.coils (record_ct ..)) c⟩
    · rw [record_nt_subs, putSub_same]
    · rw [record_pr]
      rfl

/-! ### The obligation -/

theorem exec_gooseFrameReceived (t : Nat) (f : GooseIn) (s : State) : exec (.gooseFrameReceived t f) s = s.run t (gooseReceived f) := rfl

/-- Settles O43: a dataset by whether its repetition is due, a frame by its subscription and whether it agrees, and a silence by the time to live. -/
theorem goose : Obligations.Goose := by
  unfold Obligations.Goose
  refine ⟨?still, ?repeats, ?off, ?unknown, ?accepted, ?rejected, ?heard, ?silent⟩
  case still =>
    intro t d s h
    exact idles_of (exec_gooseRepetition ..) (gooseRepeat_idle (s := s.begin t) h)
  case repeats =>
    intro t d a s hon hnext hdue
    exact sends_of (exec_gooseRepetition ..) (gooseRepeat_sends (s := s.begin t) hon hnext hdue)
  case off =>
    intro t f s hoff
    exact idles_of (exec_gooseFrameReceived ..) (gooseReceived_off (s := s.begin t) hoff)
  case unknown =>
    intro t f s hnet hnone
    have hdiscards : gooseReceived f (s.begin t) = ((s.begin t).received f.port).onPort f.port fun x => { x with discarded := wrapInc x.discarded } := by
      rw [gooseReceived_on (s := s.begin t) hnet, subsFor_of_none (s := s.begin t) hnone]
      rfl
    refine ⟨does_of (exec_gooseFrameReceived ..) (by rw [hdiscards]; rfl), answers_of (exec_gooseFrameReceived ..) ?_⟩
    rw [settle_discarded, hdiscards]
    exact (congrArg Port.discarded (port_onPort_same ..)).trans (congrArg wrapInc (received_discarded ..))
  case accepted =>
    intro t f k i v s hnet hsubs hcb hdat hrev hcount hmember hflags hvalue hst
    have hagrees : GooseAgrees f k (((s.begin t).received f.port).nt.subs.get i {}) := ⟨hcb, hdat, hrev, hcount, hmember, hflags, hst⟩
    refine answers_of (exec_gooseFrameReceived ..) ?_
    rw [gooseReceived_single (s := s.begin t) hnet hsubs, settled_subs, settled_prot Prot.gooseTrip, settled_prot Prot.coupledSeen, settled_coil]
    exact gooseTake_gives hagrees hvalue
  case rejected =>
    intro t f k i s hnet hsubs h
    have hrejects : ¬GooseAgrees f k (((s.begin t).received f.port).nt.subs.get i {}) ∨ (f.members[k.member - 1]?).join = none := by
      obtain h | h | h | h | h | h | ⟨n, hn, hold⟩ := h
      · exact .inl fun hagrees => h hagrees.cbRef
      · exact .inl fun hagrees => h hagrees.datSet
      · exact .inl fun hagrees => h hagrees.confRev
      · exact .inl fun hagrees => Bool.false_ne_true (hagrees.flags.symm.trans h)
      · exact .inl fun hagrees => absurd hagrees.member (by omega)
      · exact .inr h
      · refine .inl fun hagrees => ?_
        have hn : (((s.begin t).received f.port).nt.subs.get i {}).stNum = some n := hn
        obtain hnone | ⟨m, hm, hnewer⟩ := hagrees.stNum
        · simp [hn] at hnone
        · obtain rfl : n = m := Option.some.inj (hn.symm.trans hm)
          exact Bool.false_ne_true (hold.symm.trans hnewer)
    refine does_of (exec_gooseFrameReceived ..) ?_
    rw [gooseReceived_single (s := s.begin t) hnet hsubs, gooseTake_rejects hrejects]
    rfl
  case heard =>
    intro t i s h
    exact idles_of (exec_gooseSubscriptionSilent ..) (subscriptionSilent_idle (s := s.begin t) h)
  case silent =>
    intro t i k s hnet hsub hheard hover
    refine answers_of (exec_gooseSubscriptionSilent ..) ?_
    simp only [settled_subs, settled_prot Prot.gooseTrip, settled_prot Prot.couple, settled_coil]
    exact subscriptionSilent_keeps (s := s.begin t) hnet hsub hheard hover

end Sys2Proof.Machine

/-! A coil circuit fault at a coil that carries no current: the coil is written back to its table as it was (12 R318). -/

namespace Sys2Proof.Machine

open Sys2Proof

/-! ### The fault of a coil without current -/

/-- The meaning of COIL_CIRCUIT_FAULT. -/
def circuitFault (k current peak : Nat) (s : State) : State :=
  let cutOut := decide (10000 < max current peak)
  let on := s.coilOn k && decide ((s.coil k).phase ≠ .waiting)
  let s1 := s.onCoil k fun c => if on then { c with currentMa := current } else c
  let full : Nat := if s.acq.coilSupply ≤ 0 then 0 else 1000000 * s.pullW k / s.acq.coilSupply.toNat
  let openC := match (s.coil k).phase with
    | .pullIn => decide ((s.coil k).commandAt + ms (s.pullMs k) ≤ s.now) && decide (5 * current < full)
    | .hold => decide (2 * current < s.holdMa k)
    | _ => false
  if on && (cutOut || openC) then (if cutOut then s1.coilOff k else s1).contactorFn 0x23 3 k else s1

theorem exec_coilCircuitFault (t k current peak : Nat) (s : State) :
    exec (.coilCircuitFault t k current peak) s = s.run t (circuitFault k current peak) := rfl

/-- A coil that is off or waits has no current to judge: what was read of it is written back. -/
theorem circuitFault_unenergised {s : State} {k : Nat} (h : s.coilOn k = false ∨ (s.coil k).phase = .waiting) (current peak : Nat) :
    circuitFault k current peak s = s.onCoil k id := by
  have hoff : (s.coilOn k && decide ((s.coil k).phase ≠ .waiting)) = false := by
    obtain hoff | hwaiting := h
    · simp [hoff]
    · simp [hwaiting]
  unfold circuitFault
  simp only [hoff, Bool.false_and, Bool.false_eq_true, if_false]
  rfl

/-- The fault of such a coil has no effect of its own exactly if the table of the coils is as it was once the coil is written back. -/
theorem idles_coilCircuitFault_iff {s : State} {k : Nat} (h : s.coilOn k = false ∨ (s.coil k).phase = .waiting) (t current peak : Nat) :
    Idles (.coilCircuitFault t k current peak) s ↔ s.ct.coils.upd k {} id = s.ct.coils := by
  have heffect : circuitFault k current peak (s.begin t) = (s.begin t).onCoil k id := circuitFault_unenergised (s := s.begin t) h current peak
  constructor
  · rintro ⟨s', hnext, hbare⟩
    obtain ⟨s'', hnext', hwritten⟩ : Answers (.coilCircuitFault t k current peak) s fun s' => s'.ct.coils = s.ct.coils.upd k {} id :=
      answers_of (exec_coilCircuitFault ..) (by rw [settled_coils, heffect]; rfl)
    cases hnext.symm.trans hnext'
    exact hwritten.symm.trans (congrArg (fun v : State => v.ct.coils) hbare :)
  · intro hsame
    refine does_of (exec_coilCircuitFault ..) ?_
    rw [heffect]
    exact congrArg (fun tb : Table Coil => ({ s with ct := { s.ct with coils := tb } } : State).bare) hsame

/-- On a table in canonical form it has none: there, writing back what was read changes nothing. -/
theorem idles_coilCircuitFault_of_canonical {s : State} {k : Nat} (hcanonical : s.ct.coils.wf {} = true)
    (h : s.coilOn k = false ∨ (s.coil k).phase = .waiting) (t current peak : Nat) : Idles (.coilCircuitFault t k current peak) s :=
  (idles_coilCircuitFault_iff h t current peak).2 (congrArg Table.mk (Table.put_get_entries hcanonical k))

/-! ### The obligation -/

/-- The reset state with an entry for K1 that says what an absent one says: every coil reads as at reset, off, but the table is not in canonical form. -/
def storedAtDefault : State := { State.reset with ct := { State.reset.ct with coils := ⟨[(1, {})]⟩ } }

/-- Refutes O25: the clause on a circuit fault of a coil that is off does not ask for a canonical table of the coils. Written back, the value of K1 takes
its redundant entry out of the table, so that the command is not without effect. -/
theorem not_coils : ¬ Obligations.Coils := by
  rintro ⟨-, -, -, -, -, -, -, -, -, -, -, -, -, -, -, hunenergised, -⟩
  have hoff : storedAtDefault.coilOn 1 = false := rfl
  have hsame := (idles_coilCircuitFault_iff (.inl hoff) 0 0 0).1 (hunenergised 0 1 0 0 storedAtDefault (.inl hoff))
  have hwritten : storedAtDefault.ct.coils.upd 1 {} id = {} := by decide
  exact absurd (hwritten.symm.trans hsame) (by decide)

end Sys2Proof.Machine

/-! The safety inputs: what a decision leaves of them, their episodes and faults, and the pulses of their sources (13 R336 to R340, R346). -/

namespace Sys2Proof.Machine

open Sys2Proof

/-! ### What a decision leaves of the safety inputs (11 R288 to R292) -/

/-- The state without what a decision writes: coils and sequences, functions, safe outputs, and the records of it. The safety inputs stay in sight. -/
def State.unacted (s : State) : State := { s.quiet with ct := {}, pr := {}, sf := { s.sf with outputs := {} } }

/-- What the rules of the safety inputs read beside the inputs: the configuration, and the sources that failed. -/
def State.wiring (s : State) : Cfg × List Nat := (s.cfg, s.sf.srcFault)

theorem unacted_of_quiet {a b : State} (h : a.quiet = b.quiet) : a.unacted = b.unacted := (congrArg State.unacted h :)
theorem input_of_unacted {a b : State} (h : a.unacted = b.unacted) (k : Nat) : a.input k = b.input k := (congrArg (fun u : State => u.input k) h :)
theorem wiring_of_unacted {a b : State} (h : a.unacted = b.unacted) : a.wiring = b.wiring := (congrArg State.wiring h :)

@[simp] theorem record_unacted (s : State) (e : Ev) (n : Nat) (d : List Nat) : (s.record e n d).unacted = s.unacted := unacted_of_quiet (record_quiet ..)
@[simp] theorem onCont_unacted (s : State) (f : Cont → Cont) : (s.onCont f).unacted = s.unacted := rfl
@[simp] theorem onCoil_unacted (s : State) (k : Nat) (f : Coil → Coil) : (s.onCoil k f).unacted = s.unacted := rfl
@[simp] theorem onProt_unacted (s : State) (f : Prot → Prot) : (s.onProt f).unacted = s.unacted := rfl
@[simp] theorem setBranch_unacted (s : State) (b : Nat) (x : BrState) : (s.setBranch b x).unacted = s.unacted := rfl
@[simp] theorem setFn_unacted (s : State) (f : Fn) : (s.setFn f).unacted = s.unacted := rfl
@[simp] theorem writeLatches_unacted (s : State) : s.writeLatches.unacted = s.unacted := unacted_of_quiet (writeItem_quiet ..)

@[simp] theorem coilsOff_unacted (s : State) (ks : List Nat) : (s.coilsOff ks).unacted = s.unacted :=
  foldl_keeps State.unacted (fun s k => by simp [State.coilOff, apply_ite State.unacted]) ks s

@[simp] theorem dropWaiting_unacted (s : State) (ks : List Nat) : (s.dropWaiting ks).unacted = s.unacted := coilsOff_unacted ..

@[simp] theorem openString_unacted (s : State) : s.openString.unacted = s.unacted := by simp [State.openString]

@[simp] theorem openBranch_unacted (s : State) (b : Nat) : (s.openBranch b).unacted = s.unacted := by
  simp [State.openBranch, apply_ite State.unacted]

@[simp] theorem endSequenceOf_unacted (s : State) (b : Nat) : (s.endSequenceOf b).unacted = s.unacted := by
  simp [State.endSequenceOf, apply_ite State.unacted]

@[simp] theorem interruptTest_unacted (s : State) (o : Nat) : (s.interruptTest o).unacted = s.unacted := by
  unfold State.interruptTest
  dsimp only
  rw [apply_ite State.unacted, record_unacted]
  exact ite_self _

@[simp] theorem interruptTests_unacted (s : State) : s.interruptTests.unacted = s.unacted := by simp [State.interruptTests]

@[simp] theorem noteDecision_unacted (s : State) (code group subject : Nat) (value : Int) :
    (s.noteDecision code group subject value).unacted = s.unacted := by simp [State.noteDecision]

@[simp] theorem decideFn_unacted (s : State) (code group subject : Nat) (value : Int) (cells : List Nat) :
    (s.decideFn code group subject value cells).unacted = s.unacted := by
  unfold State.decideFn
  split
  case h_1 => rfl
  case h_2 i _ =>
    obtain ⟨cls, action, latched, delay, clear⟩ := i
    cases action <;> simp only [apply_ite State.unacted, onProt_unacted, onCont_unacted, openString_unacted, openBranch_unacted,
      endSequenceOf_unacted, dropWaiting_unacted, writeLatches_unacted, setFn_unacted, noteDecision_unacted, ite_self]

theorem evalFn_unacted (s : State) (code group : Nat) (present : Bool) : (s.evalFn code group present).unacted = s.unacted := by
  obtain h | ⟨f, h⟩ := evalFn_cases s code group present
  · rw [h]
  · rw [h, setFn_unacted]

@[simp] theorem evaluateInputs_unacted (s : State) : s.evaluateInputs.unacted = s.unacted :=
  foldl_keeps State.unacted (fun _ _ => evalFn_unacted ..) _ s

/-! ### Reads of the inputs after a write -/

theorem input_onInput_same (s : State) (i : Nat) (f : SafeIn → SafeIn) : (s.onInput i f).input i = f (s.input i) := Table.get_upd_same ..

theorem input_onInput_other (s : State) {i k : Nat} (h : k ≠ i) (f : SafeIn → SafeIn) : (s.onInput i f).input k = s.input k :=
  Table.get_upd_other _ h ..

/-- A write that keeps a figure of an input keeps it of every input. -/
theorem onInput_keeps {α : Type} (part : SafeIn → α) {f : SafeIn → SafeIn} (hf : ∀ x, part (f x) = part x) (s : State) (i k : Nat) :
    part ((s.onInput i f).input k) = part (s.input k) := by
  by_cases hk : k = i
  · rw [hk, input_onInput_same, hf]
  · rw [input_onInput_other s hk]

/-- So do the writes to a list of inputs. -/
theorem foldl_onInput_keeps {α : Type} (part : SafeIn → α) {f : State → SafeIn → SafeIn} (l : List Nat) (s : State) (k : Nat)
    (hf : ∀ s x, part (f s x) = part x := by intros; rfl) : part ((l.foldl (fun s j => s.onInput j (f s)) s).input k) = part (s.input k) :=
  foldl_keeps (fun u : State => part (u.input k)) (fun u j => onInput_keeps part (hf u) u j k) l s

/-- Writes to the inputs are of no account in what does not read them. -/
theorem foldl_onInput_apart {α : Type} (part : State → α) (hpart : ∀ s j f, part (State.onInput s j f) = part s) (f : State → SafeIn → SafeIn)
    (l : List Nat) (s : State) : part (l.foldl (fun s j => s.onInput j (f s)) s) = part s :=
  foldl_keeps part (fun _ _ => hpart ..) l s

theorem onInput_wiring (s : State) (i : Nat) (f : SafeIn → SafeIn) : (s.onInput i f).wiring = s.wiring := rfl

theorem settled_input (s u : State) (t k : Nat) : (s.settle (s.keep t u)).input k = u.input k := settled_part (fun v : State => v.input k) s u t

theorem srcFault_of_wiring {a b : State} (h : a.wiring = b.wiring) : a.sf.srcFault = b.sf.srcFault := congrArg Prod.snd h

theorem inputFn_of_wiring {a b : State} (h : a.wiring = b.wiring) (i : Nat) : a.inputFn i = b.inputFn i :=
  congrArg (fun w : Cfg × List Nat => w.1.safeIn.fn.getD (i - 1) 0) h

theorem inputSource_of_wiring {a b : State} (h : a.wiring = b.wiring) (i : Nat) : a.inputSource i = b.inputSource i :=
  congrArg (fun w : Cfg × List Nat => w.1.safeIn.source.getD (i - 1) 0) h

theorem mateOf_of_wiring {a b : State} (h : a.wiring = b.wiring) (i : Nat) : a.mateOf i = b.mateOf i := by
  have hcfg : a.cfg = b.cfg := congrArg Prod.fst h
  rw [State.mateOf, State.mateOf, hcfg]

theorem mateOf_ne {s : State} {p j : Nat} (h : s.mateOf (2 * p + 1) = some j) : j ≠ 2 * p + 1 := by
  unfold State.mateOf at h
  split at h
  · simp at h
    omega
  · cases h

theorem mem_inputsOfSource {s : State} {src i : Nat} (h : i ∈ s.inputsOfSource src) : s.inputSource i = src ∧ s.inputFn i ≠ 0 := by
  simpa using (List.mem_filter.1 h).2

theorem inputsOfSource_nodup (s : State) (src : Nat) : (s.inputsOfSource src).Nodup :=
  (List.nodup_range.map (add_left_injective 1)).filter _

/-! ### Episodes and pairs (13 R339, R340) -/

/-- An input but for the marks of its episode (13 R340). -/
def SafeIn.level (x : SafeIn) : SafeIn := { x with episode := false, bothDemand := false }

theorem beginEpisode_level (s : State) (i k : Nat) : ((s.beginEpisode i).input k).level = (s.input k).level :=
  foldl_onInput_keeps SafeIn.level _ s k

theorem beginEpisode_apart {α : Type} (part : State → α) (hpart : ∀ s j f, part (State.onInput s j f) = part s) (s : State) (i : Nat) :
    part (s.beginEpisode i) = part s := foldl_onInput_apart part hpart _ _ s

theorem beginEpisode_episode (s : State) (i : Nat) : ((s.beginEpisode i).input i).episode = true := by
  unfold State.beginEpisode
  rw [State.channelsOf, List.foldl_cons]
  refine List.foldlRecOn (motive := fun u : State => (u.input i).episode = true) _ _ (by rw [input_onInput_same]) fun u hu j _ => ?_
  by_cases hj : i = j
  · rw [← hj, input_onInput_same]
  · rwa [input_onInput_other _ hj]

theorem noteDisagree_keeps {α : Type} (part : SafeIn → α) (hpart : ∀ x d, part { x with disSince := d } = part x) (s : State) (i k : Nat) :
    part ((s.noteDisagree i).input k) = part (s.input k) := by
  unfold State.noteDisagree
  split
  · rfl
  · exact foldl_onInput_keeps part _ s k fun _ _ => hpart ..

theorem noteDisagree_apart {α : Type} (part : State → α) (hpart : ∀ s j f, part (State.onInput s j f) = part s) (s : State) (i : Nat) :
    part (s.noteDisagree i) = part s := by
  unfold State.noteDisagree
  split
  · rfl
  · exact foldl_onInput_apart part hpart _ _ s

/-! ### Faults of inputs (13 R339) -/

/-- An input with a fault code. -/
def SafeIn.faulted (x : SafeIn) (code : Nat) : SafeIn := { x with fault := code, goodPulses := 0 }

/-- No fault is raised at an input that is unused, has the fault already, or whose source failed. -/
abbrev State.FaultBarred (s : State) (i code : Nat) : Prop := s.inputFn i = 0 ∨ (s.input i).fault = code ∨ (s.input i).fault = 3

theorem raiseInputFault_refused {s : State} {i code : Nat} (h : s.FaultBarred i code) :
    s.raiseInputFault i code = s := if_pos h

/-- Of the inputs a fault that is raised writes its own, beside the episodes of the pair. -/
theorem raiseInputFault_raises {s : State} {i code : Nat} (h : ¬s.FaultBarred i code) :
    (s.raiseInputFault i code).unacted = ((s.beginEpisode i).onInput i fun x => x.faulted code).unacted := by
  unfold State.raiseInputFault
  rw [if_neg h]
  simp only [apply_ite State.unacted, decideFn_unacted, interruptTests_unacted, ite_self]
  rfl

theorem raiseInputFault_same {s : State} {i code : Nat} (h : ¬s.FaultBarred i code) :
    ((s.raiseInputFault i code).input i).level = ((s.input i).faulted code).level := by
  rw [input_of_unacted (raiseInputFault_raises h), input_onInput_same]
  exact congrArg (fun x : SafeIn => x.faulted code) (beginEpisode_level s i i)

theorem raiseInputFault_other (s : State) {i k : Nat} (hk : k ≠ i) (code : Nat) : ((s.raiseInputFault i code).input k).level = (s.input k).level := by
  by_cases h : s.FaultBarred i code
  · rw [raiseInputFault_refused h]
  · rw [input_of_unacted (raiseInputFault_raises h), input_onInput_other _ hk, beginEpisode_level]

@[simp] theorem raiseInputFault_wiring (s : State) (i code : Nat) : (s.raiseInputFault i code).wiring = s.wiring := by
  by_cases h : s.FaultBarred i code
  · rw [raiseInputFault_refused h]
  · rw [wiring_of_unacted (raiseInputFault_raises h), onInput_wiring]
    exact beginEpisode_apart State.wiring onInput_wiring s i

theorem fault_of_level {x y : SafeIn} (h : x.level = y.level) : x.fault = y.fault := (congrArg SafeIn.fault h :)

/-- What a fault of one input leaves of every input: each figure but fault, pulses and episode. -/
theorem raiseInputFault_keeps {α : Type} (part : SafeIn → α) (hlevel : ∀ x, part (SafeIn.level x) = part x)
    (hfault : ∀ x code, part (SafeIn.faulted x code) = part x) (s : State) (i code k : Nat) :
    part ((s.raiseInputFault i code).input k) = part (s.input k) := by
  by_cases h : s.FaultBarred i code
  · rw [raiseInputFault_refused h]
  · by_cases hk : k = i
    · rw [hk, ← hlevel, raiseInputFault_same h, hlevel, hfault]
    · rw [← hlevel, raiseInputFault_other s hk, hlevel]

/-- An input whose source failed keeps fault code 3, whatever fault another rule finds. -/
theorem raiseInputFault_keeps_sourceFault {s : State} {k : Nat} (h : (s.input k).fault = 3) (i code : Nat) :
    ((s.raiseInputFault i code).input k).fault = 3 := by
  by_cases hk : k = i
  · subst hk
    rwa [raiseInputFault_refused (.inr (.inr h))]
  · rwa [fault_of_level (raiseInputFault_other s hk code)]

/-- A lone pair is left alone, or both its channels get fault code 2. -/
theorem lonePair_cases (s : State) (i : Nat) : s.lonePair i = s ∨
    ∃ j, s.mateOf i = some j ∧ (s.input j).fault = 0 ∧ s.lonePair i = (s.raiseInputFault i 2).raiseInputFault j 2 := by
  unfold State.lonePair
  split
  · exact .inl rfl
  next j hmate =>
    dsimp only
    split
    next hlone =>
      simp only [Bool.and_eq_true, decide_eq_true_eq] at hlone
      exact .inr ⟨j, hmate, hlone.2, rfl⟩
    · exact .inl rfl

@[simp] theorem lonePair_wiring (s : State) (i : Nat) : (s.lonePair i).wiring = s.wiring := by
  obtain h | ⟨j, -, -, h⟩ := lonePair_cases s i
  · rw [h]
  · rw [h, raiseInputFault_wiring, raiseInputFault_wiring]

theorem lonePair_keeps {α : Type} (part : SafeIn → α) (hlevel : ∀ x, part (SafeIn.level x) = part x)
    (hfault : ∀ x code, part (SafeIn.faulted x code) = part x) (s : State) (i k : Nat) : part ((s.lonePair i).input k) = part (s.input k) := by
  obtain h | ⟨j, -, -, h⟩ := lonePair_cases s i
  · rw [h]
  · rw [h, raiseInputFault_keeps part hlevel hfault, raiseInputFault_keeps part hlevel hfault]

/-- Of another input the rule of the lone pair writes at most its mate without a fault. -/
theorem lonePair_other (s : State) {i k : Nat} (hk : k ≠ i) : ((s.lonePair i).input k).level = (s.input k).level ∨
    (s.mateOf i = some k ∧ (s.input k).fault = 0 ∧ ((s.lonePair i).input k).level = ((s.input k).faulted 2).level) := by
  obtain h | ⟨j, hmate, hfault, h⟩ := lonePair_cases s i
  · exact .inl (by rw [h])
  · have hfirst := raiseInputFault_other s hk 2
    by_cases hj : k = j
    · subst hj
      by_cases hrefused : (s.raiseInputFault i 2).inputFn k = 0
      · exact .inl (by rw [h, raiseInputFault_refused (.inl hrefused), hfirst])
      · have hsound : ((s.raiseInputFault i 2).input k).fault = 0 := (fault_of_level hfirst).trans hfault
        refine .inr ⟨hmate, hfault, ?_⟩
        rw [h, raiseInputFault_same (by simp [hrefused, hsound])]
        exact congrArg (fun x : SafeIn => x.faulted 2) hfirst
    · exact .inl (by rw [h, raiseInputFault_other _ hj, hfirst])

/-! ### A demand, and a return to permit (13 R337, R340, R346) -/

theorem exec_safetyInputDemand (t : Nat) (x : InputRun) (s : State) : exec (.safetyInputDemand t x) s =
    s.run t fun s => if s.filterUs (x.input.val + 1) ≤ x.span then inputDemand (x.input.val + 1) s else s := rfl

theorem exec_safetyInputPermit (t : Nat) (x : InputRun) (s : State) : exec (.safetyInputPermit t x) s =
    s.run t fun s => if s.filterUs (x.input.val + 1) ≤ x.span then inputPermit (x.input.val + 1) s else s := rfl

/-- A demand is taken, before its function decides: the episode, the level, both channels of a pair in demand together, and its disagreement. -/
def State.demandTaken (s : State) (i : Nat) : State :=
  let s1 := ((s.beginEpisode i).onInput i fun x => { x with demand := true, permitSince := none, goodPulses := 0 }).interruptTests
  let both := match s1.mateOf i with | some j => (s1.input j).demand | none => false
  let s2 := if both then (s1.channelsOf i).foldl (fun s k => s.onInput k fun x => { x with
    bothDemand := true, fault := if x.fault = 2 then 0 else x.fault }) s1 else s1
  s2.noteDisagree i

theorem inputDemand_unused {s : State} {i : Nat} (h : s.inputFn i = 0) : inputDemand i s = s := if_pos h

theorem inputDemand_stands {s : State} {i : Nat} (hreads : s.islandReads = true) (hdemand : (s.input i).demand = true)
    (hepisode : (s.input i).episode = true) : inputDemand i s = s := by
  unfold inputDemand
  split
  · rfl
  · rw [if_neg (by simp [hreads]), if_pos ⟨hdemand, hepisode⟩]

theorem inputDemand_takes {s : State} {i : Nat} (hreads : s.islandReads = true) (hused : s.inputFn i ≠ 0) (hpermit : (s.input i).demand = false) :
    inputDemand i s = if s.inputFn i = 1 ∨ s.inputFn i = 2 then (s.demandTaken i).decideFn 0x0B strGroup i 1 else s.demandTaken i := by
  unfold inputDemand
  rw [if_neg hused, if_neg (by simp [hreads]), if_neg (by simp [hpermit])]
  rfl

/-- Level, instant of permit and episode of an input. -/
def SafeIn.demanded (x : SafeIn) : Bool × Option Nat × Bool := (x.demand, x.permitSince, x.episode)

theorem demandTaken_demanded (s : State) (i : Nat) : ((s.demandTaken i).input i).demanded = (true, none, true) := by
  unfold State.demandTaken
  extract_lets s1 both s2
  have hs1 : (s1.input i).demanded = (true, none, true) := by
    rw [input_of_unacted (interruptTests_unacted _), input_onInput_same, SafeIn.demanded, beginEpisode_episode]
  have hs2 : (s2.input i).demanded = (s1.input i).demanded := by
    show ((if both then _ else s1).input i).demanded = _
    split
    · exact foldl_onInput_keeps SafeIn.demanded _ s1 i
    · rfl
  rw [noteDisagree_keeps SafeIn.demanded (fun _ _ => rfl), hs2, hs1]

/-- Taking a demand is of no account in what reads neither inputs nor tests of the outputs. -/
theorem demandTaken_apart {α : Type} (part : State → α) (hpart : ∀ s j f, part (State.onInput s j f) = part s)
    (htests : ∀ s, part (State.interruptTests s) = part s) (s : State) (i : Nat) : part (s.demandTaken i) = part s := by
  unfold State.demandTaken
  extract_lets s1 both s2
  have hs1 : part s1 = part s := (htests _).trans ((hpart ..).trans (beginEpisode_apart part hpart s i))
  have hs2 : part s2 = part s1 := by
    show part (if both then _ else s1) = _
    split
    · exact foldl_onInput_apart part hpart _ _ s1
    · rfl
  rw [noteDisagree_apart part hpart, hs2, hs1]

theorem inputDemand_demanded {s : State} {i : Nat} (hreads : s.islandReads = true) (hused : s.inputFn i ≠ 0) (hpermit : (s.input i).demand = false) :
    ((inputDemand i s).input i).demanded = (true, none, true) := by
  rw [inputDemand_takes hreads hused hpermit]
  split
  · rw [input_of_unacted (decideFn_unacted ..), demandTaken_demanded]
  · exact demandTaken_demanded s i

/-- An input whose function is neither emergency stop nor external trip decides nothing. -/
theorem inputDemand_apart {α : Type} (part : State → α) (hpart : ∀ s j f, part (State.onInput s j f) = part s)
    (htests : ∀ s, part (State.interruptTests s) = part s) {s : State} {i : Nat} (hpermit : (s.input i).demand = false)
    (hstop : s.inputFn i ≠ 1) (htrip : s.inputFn i ≠ 2) : part (inputDemand i s) = part s := by
  by_cases hused : s.inputFn i = 0
  · rw [inputDemand_unused hused]
  · cases hreads : s.islandReads with
    | false =>
      unfold inputDemand
      rw [if_neg hused, if_pos (by simp [hreads]), hpart]
    | true =>
      rw [inputDemand_takes hreads hused hpermit, if_neg (by simp [hstop, htrip])]
      exact demandTaken_apart part hpart htests s i

/-- Function 0x0B decides on an input: its entry stands latched, and the string opens (13 R346; 11 R288). -/
theorem settled_input_trip (s : State) {u : State} {t : Nat} (hnone : u.fn 0x0B strGroup = none) (i : Nat) :
    let s' := s.settle (s.keep t (u.decideFn 0x0B strGroup i 1))
    (∃ f, s'.fn 0x0B strGroup = some f ∧ f.condition = true ∧ f.latched = true ∧ f.demanding = true ∧ f.action = .sd ∧ f.subject = i) ∧
      (∀ k, 1 ≤ k → k ≤ 11 → (s'.coil k).phase = .off) ∧ s'.rt.islandStop = true := by
  obtain ⟨info, hinfo, hcls, haction, hlatched⟩ := trips_input u
  have hnew := notDecided_of_none hnone
  have hfn := (settled_fn s _ t 0x0B strGroup).trans (decideFn_fn hinfo hnew i 1 [])
  have hdemand : (u.decisionEntry info 0x0B strGroup i 1 []).demanding = true := by simp [State.decisionEntry, haction]
  refine ⟨⟨_, hfn, rfl, hlatched, hdemand, haction, rfl⟩, fun k hfirst hlast => ?_, settled_stop_of_action (.inl (sdActive_of_fn hfn hdemand haction))⟩
  rw [settled_coil]
  exact (decideFn_opens_string hinfo hnew haction hcls i 1 [] (mem_mainK hfirst hlast)).1

theorem inputPermit_permitted {s : State} {i : Nat} (hpermit : (s.input i).demand = false) : inputPermit i s = s := if_pos (by simp [hpermit])

/-- Level and instant of permit of an input. -/
def SafeIn.permitted (x : SafeIn) : Bool × Option Nat := (x.demand, x.permitSince)

theorem inputPermit_permits {s : State} {i : Nat} (hdemand : (s.input i).demand = true) :
    ((inputPermit i s).input i).permitted = (false, some s.now) := by
  unfold inputPermit
  rw [if_neg (by simp [hdemand])]
  split
  · rw [input_onInput_same, SafeIn.permitted]
  · rw [input_of_unacted (evaluateInputs_unacted _), lonePair_keeps SafeIn.permitted (fun _ => rfl) (fun _ _ => rfl),
      noteDisagree_keeps SafeIn.permitted (fun _ _ => rfl), input_onInput_same, SafeIn.permitted]

/-! ### One input at a pulse of its source (13 R339, R340) -/

@[simp] theorem pulseSeen_wiring (s : State) (i : Nat) (high : Bool) : (s.pulseSeen i high).wiring = s.wiring := by
  unfold State.pulseSeen
  simp only [apply_ite State.wiring, raiseInputFault_wiring, lonePair_wiring, onInput_wiring, ite_self]

/-- Of another input a pulse writes at most the mate of a pair that is found alone. -/
theorem pulseSeen_other (s : State) {i k : Nat} (hk : k ≠ i) (high : Bool) : ((s.pulseSeen i high).input k).level = (s.input k).level ∨
    (s.mateOf i = some k ∧ (s.input k).fault = 0 ∧ ((s.pulseSeen i high).input k).level = ((s.input k).faulted 2).level) := by
  unfold State.pulseSeen
  split
  · extract_lets s1
    have hs1 : s1.input k = s.input k := input_onInput_other s hk _
    left
    split
    · rw [raiseInputFault_other _ hk, hs1]
    · rw [hs1]
  · extract_lets s1
    have hs1 : s1.input k = s.input k := input_onInput_other s hk _
    split
    · rw [← hs1]
      exact lonePair_other s1 hk
    · exact .inl (by rw [hs1])

/-- The second pulse in a row that an input reads high gives it fault code 1. -/
theorem pulseSeen_missed {s : State} {i : Nat} (hused : s.inputFn i ≠ 0) (hsource : s.inputSource i ∉ s.sf.srcFault) (hrun : 1 ≤ (s.input i).missRun)
    (hfault : (s.input i).fault = 0 ∨ (s.input i).fault = 2) :
    ((s.pulseSeen i true).input i).fault = 1 ∧ ((s.pulseSeen i true).input i).goodPulses = 0 := by
  unfold State.pulseSeen
  rw [if_pos rfl]
  extract_lets s1
  have hsame : (s1.input i).fault = (s.input i).fault := (congrArg SafeIn.fault (input_onInput_same s i _) :)
  have hcount : (s1.input i).missRun = min 2 ((s.input i).missRun + 1) := (congrArg SafeIn.missRun (input_onInput_same s i _) :)
  have hraises : ¬s1.FaultBarred i 1 := by
    rintro (hnone | hfault | hfault)
    · exact hused hnone
    · omega
    · omega
  have htwo : 2 ≤ (s1.input i).missRun := by omega
  rw [if_pos ⟨htwo, hsource⟩]
  have hlevel := raiseInputFault_same hraises
  exact ⟨fault_of_level hlevel, congrArg SafeIn.goodPulses hlevel⟩

/-- An input that saw a pulse in permit (13 R340). -/
def SafeIn.counted (x : SafeIn) : SafeIn := { x with missRun := 0, goodPulses := min 10 (x.goodPulses + 1) }

/-- A pulse seen by an input in permit without a fault is counted. -/
theorem pulseSeen_counted {s : State} {i : Nat} (hfault : (s.input i).fault = 0) (hpermit : (s.input i).demand = false) :
    (s.pulseSeen i false).input i = (s.input i).counted := by
  unfold State.pulseSeen
  rw [if_neg Bool.false_ne_true]
  dsimp only
  rw [if_neg (by simp [hfault]), input_onInput_same]
  simp [SafeIn.counted, hfault, hpermit]

/-- An input whose source failed keeps fault code 3 over the pulses. -/
theorem pulseSeen_keeps_sourceFault {s : State} {k : Nat} (h : (s.input k).fault = 3) (i : Nat) (high : Bool) :
    ((s.pulseSeen i high).input k).fault = 3 := by
  by_cases hk : k = i
  · subst hk
    unfold State.pulseSeen
    split
    · extract_lets s1
      have hs1 : (s1.input k).fault = 3 := (congrArg SafeIn.fault (input_onInput_same s k _)).trans h
      split
      · exact raiseInputFault_keeps_sourceFault hs1 ..
      · exact hs1
    · extract_lets s1
      rw [if_neg (by simp [h]), input_onInput_same]
      simp [h]
  · obtain hlevel | ⟨-, hnone, -⟩ := pulseSeen_other s hk high
    · rwa [fault_of_level hlevel]
    · omega

/-! ### The inputs of a source, one after the other (13 R338 to R340) -/

/-- Where each step but one keeps `P`, that one leads to `Q`, and each step but that one keeps `Q`, a run without repeats leads from `P` to `Q`. -/
theorem foldl_once {f : State → Nat → State} {P Q : State → Prop} {l : List Nat} {i : Nat} {s : State} (hmem : i ∈ l) (hnodup : l.Nodup)
    (hbefore : ∀ u j, j ≠ i → P u → P (f u j)) (hat : ∀ u, P u → Q (f u i)) (hafter : ∀ u j, j ≠ i → Q u → Q (f u j)) (h : P s) : Q (l.foldl f s) := by
  obtain ⟨a, b, rfl⟩ := List.append_of_mem hmem
  obtain ⟨-, hb, hapart⟩ := List.nodup_append.1 hnodup
  have hfirst : P (a.foldl f s) := List.foldlRecOn a f h fun u hu j hj => hbefore u j (hapart j hj i List.mem_cons_self) hu
  rw [List.foldl_append, List.foldl_cons]
  exact List.foldlRecOn b f (hat _ hfirst) fun u hu j hj => hafter u j (fun hji => (List.nodup_cons.1 hb).1 (hji ▸ hj)) hu

/-- The inputs of a source at its pulse. -/
def State.pulses (s : State) (src : Nat) (high : List Nat) : State :=
  (s.inputsOfSource src).foldl (fun s i => s.pulseSeen i (decide (i ∈ high))) s

theorem pulses_wiring (s : State) (src : Nat) (high : List Nat) : (s.pulses src high).wiring = s.wiring :=
  foldl_keeps State.wiring (fun _ _ => pulseSeen_wiring ..) _ s

theorem pulses_missed {s : State} {src i : Nat} {high : List Nat} (hmem : i ∈ s.inputsOfSource src) (hhigh : i ∈ high) (hsource : src ∉ s.sf.srcFault)
    (hrun : 1 ≤ (s.input i).missRun) (hfault : (s.input i).fault = 0) :
    ((s.pulses src high).input i).fault = 1 ∧ ((s.pulses src high).input i).goodPulses = 0 := by
  obtain ⟨hsrc, hused⟩ := mem_inputsOfSource hmem
  refine foldl_once (P := fun u => u.wiring = s.wiring ∧ 1 ≤ (u.input i).missRun ∧ ((u.input i).fault = 0 ∨ (u.input i).fault = 2))
    (Q := fun u => (u.input i).fault = 1 ∧ (u.input i).goodPulses = 0) hmem (inputsOfSource_nodup s src) ?before ?turn ?after ⟨rfl, hrun, .inl hfault⟩
  case before =>
    rintro u j hj ⟨hwiring, hrun, hfault⟩
    refine ⟨(pulseSeen_wiring ..).trans hwiring, ?_⟩
    obtain hlevel | ⟨-, -, hlevel⟩ := pulseSeen_other u hj.symm (decide (j ∈ high))
    · exact ⟨hrun.trans_eq (congrArg SafeIn.missRun hlevel).symm, by rwa [fault_of_level hlevel]⟩
    · exact ⟨hrun.trans_eq (congrArg SafeIn.missRun hlevel).symm, .inr (fault_of_level hlevel)⟩
  case turn =>
    rintro u ⟨hwiring, hrun, hfault⟩
    rw [decide_eq_true hhigh]
    refine pulseSeen_missed ((inputFn_of_wiring hwiring i).trans_ne hused) ?_ hrun hfault
    rwa [srcFault_of_wiring hwiring, inputSource_of_wiring hwiring, hsrc]
  case after =>
    rintro u j hj ⟨hfault, hpulses⟩
    obtain hlevel | ⟨-, hnone, -⟩ := pulseSeen_other u hj.symm (decide (j ∈ high))
    · exact ⟨(fault_of_level hlevel).trans hfault, (congrArg SafeIn.goodPulses hlevel).trans hpulses⟩
    · omega

theorem pulses_counted {s : State} {src i : Nat} {high : List Nat} (hmem : i ∈ s.inputsOfSource src) (hlow : i ∉ high)
    (hfault : (s.input i).fault = 0) (hpermit : (s.input i).demand = false) (hmate : ∀ j, s.mateOf j ≠ some i) :
    ((s.pulses src high).input i).level = (s.input i).counted.level := by
  have hother (u : State) (j : Nat) (hj : j ≠ i) (hwiring : u.wiring = s.wiring) : ((u.pulseSeen j (decide (j ∈ high))).input i).level = (u.input i).level :=
    (pulseSeen_other u hj.symm _).resolve_right fun h => hmate j ((mateOf_of_wiring hwiring j).symm.trans h.1)
  refine (foldl_once (P := fun u => u.wiring = s.wiring ∧ (u.input i).level = (s.input i).level)
    (Q := fun u => u.wiring = s.wiring ∧ (u.input i).level = _) hmem (inputsOfSource_nodup s src) ?before ?turn ?after ⟨rfl, rfl⟩).2
  case before => exact fun u j hj ⟨hwiring, hlevel⟩ => ⟨(pulseSeen_wiring ..).trans hwiring, (hother u j hj hwiring).trans hlevel⟩
  case turn =>
    rintro u ⟨hwiring, hlevel⟩
    have hpermit : (u.input i).demand = false := (congrArg SafeIn.demand hlevel).trans hpermit
    refine ⟨(pulseSeen_wiring ..).trans hwiring, ?_⟩
    rw [decide_eq_false hlow, pulseSeen_counted ((fault_of_level hlevel).trans hfault) hpermit]
    exact congrArg SafeIn.counted hlevel
  case after => exact fun u j hj ⟨hwiring, hlevel⟩ => ⟨(pulseSeen_wiring ..).trans hwiring, (hother u j hj hwiring).trans hlevel⟩

theorem pulses_keep_sourceFault {s : State} {k : Nat} (h : (s.input k).fault = 3) (src : Nat) (high : List Nat) :
    ((s.pulses src high).input k).fault = 3 :=
  List.foldlRecOn (motive := fun u : State => (u.input k).fault = 3) _ _ h fun _ hu i _ => pulseSeen_keeps_sourceFault hu i _

/-! ### The verdict on a source (13 R339) -/

/-- The counts of a source start afresh. -/
def State.sourceSound (s : State) (src : Nat) : State :=
  s.onSafety fun g => { g with srcRun := g.srcRun.put src 0 0, srcGood := g.srcGood.put src 0 0 }

theorem sourcePulse_sound {s : State} {src : Nat} (h : src ∉ s.sf.srcFault) : s.sourcePulse src false = s.sourceSound src := by
  simp [State.sourcePulse, State.sourceSound, h]

/-- A fault code 3 at one input of a failed source. -/
def State.sourceLost (s : State) (i : Nat) : State := (s.onInput i fun x => { x with missRun := 0 }).raiseInputFault i 3

theorem sourceLost_wiring (s : State) (i : Nat) : (s.sourceLost i).wiring = s.wiring := raiseInputFault_wiring ..

theorem sourceLost_fault {s : State} {i : Nat} (hused : s.inputFn i ≠ 0) : ((s.sourceLost i).input i).fault = 3 := by
  unfold State.sourceLost
  by_cases h : ((s.onInput i fun x => { x with missRun := 0 }).input i).fault = 3
  · rwa [raiseInputFault_refused (.inr (.inr h))]
  · refine fault_of_level (raiseInputFault_same ?_)
    rintro (hnone | hfault | hfault)
    · exact hused hnone
    · exact h hfault
    · exact h hfault

theorem sourceLost_keeps_sourceFault {s : State} {k i : Nat} (hk : k ≠ i) (h : (s.input k).fault = 3) : ((s.sourceLost i).input k).fault = 3 := by
  refine raiseInputFault_keeps_sourceFault ?_ i 3
  rwa [input_onInput_other s hk]

/-- The second bad pulse in a row fails the source, and each of its inputs. -/
theorem sourcePulse_fails {s : State} {src : Nat} (hsound : src ∉ s.sf.srcFault) (hrun : 1 ≤ s.sf.srcRun.get src 0) :
    src ∈ (s.sourcePulse src true).sf.srcFault ∧
      ∀ i ∈ s.inputsOfSource src, ((s.sourcePulse src true).input i).fault = 3 := by
  unfold State.sourcePulse
  extract_lets run good s1 ins s2 s3 trip per s4
  have htwo : 2 ≤ run := by
    show 2 ≤ (if true = true then min 2 (s.sf.srcRun.get src 0 + 1) else 0)
    rw [if_pos rfl]
    omega
  have hs3 : s3.wiring = s2.wiring := foldl_keeps State.wiring (fun _ _ => sourceLost_wiring ..) ins s2
  have hs4 : (if per.isEmpty = true then s4 else s4.decideFn 0x31 permitGroup src 3 per).unacted = s3.unacted := by
    rw [apply_ite State.unacted, decideFn_unacted, ite_self]
    show (if trip.isEmpty = true then s3 else s3.decideFn 0x31 strGroup src 3 trip).unacted = _
    rw [apply_ite State.unacted, decideFn_unacted, ite_self]
  have hwiring := (wiring_of_unacted hs4).trans hs3
  rw [if_pos ⟨htwo, hsound⟩]
  refine ⟨?_, fun i hi => ?_⟩
  · rw [srcFault_of_wiring hwiring]
    exact mem_insertN.2 (.inl rfl)
  rw [input_of_unacted hs4]
  refine foldl_once (f := State.sourceLost) (P := fun u => u.wiring = s2.wiring) (Q := fun u => (u.input i).fault = 3) hi (inputsOfSource_nodup s src)
    (fun u j _ h => (sourceLost_wiring u j).trans h) (fun u h => ?_) (fun u j hj h => sourceLost_keeps_sourceFault hj.symm h) rfl
  exact sourceLost_fault ((inputFn_of_wiring h i).trans_ne (mem_inputsOfSource hi).2)

/-! ### TEST_PULSE and DISCREPANCY_TIME_EXPIRY (13 R338, R339) -/

/-- Where the island reads and the turn of the source is open, its pulse is judged. -/
theorem answers_testPulse {t : Nat} {src : Fin 2} {l : List Nat} {v : SourceIn} {s : State} {P : State → Prop} (hreads : s.islandReads = true)
    (hopen : (s.begin t).turnOpen (0x50 + src.val) (1000 * s.cfg.test.periodUs) (500 * s.cfg.test.periodUs * src.val) = true)
    (h : P (s.settle (s.keep t (testPulse (src.val + 1) l v ((s.begin t).turnTaken (0x50 + src.val)))))) : Answers (.testPulse t src l v) s P := by
  have hreads : (s.begin t).islandReads = true := hreads
  have hmeaning : exec (.testPulse t src l v) s = s.run t fun u => testPulse (src.val + 1) l v (u.turnTaken (0x50 + src.val)) := by
    show s.run t _ = _
    rw [run_eq, run_eq, if_pos hreads]
    exact congrArg (fun u => Host.Outcome.next (s.settle (s.keep t u))) (if_pos hopen)
  exact answers_of hmeaning h

/-- The voltages of a source at its pulse are good: 18 V or more outside the pulses, 3 V or less inside (13 R339). -/
theorem testPulse_sound {s : State} {src lo hi : Nat} (hlo : 18000 ≤ lo) (hhi : hi ≤ 3000) (hsource : src ∉ s.sf.srcFault) (l : List Nat) :
    testPulse src l ⟨lo, hi⟩ s = ((s.sourceSound src).pulses src l).evaluateInputs := by
  have hgood : decide (lo < 18000 ∨ 3000 < hi) = false := decide_eq_false (by omega)
  unfold testPulse
  dsimp only
  rw [hgood, sourcePulse_sound hsource]
  rfl

theorem testPulse_bad {s : State} {src lo hi : Nat} (h : lo < 18000 ∨ 3000 < hi) (l : List Nat) :
    testPulse src l ⟨lo, hi⟩ s = ((s.sourcePulse src true).pulses src l).evaluateInputs := by
  unfold testPulse
  dsimp only
  rw [decide_eq_true h]
  rfl

theorem exec_discrepancyTimeExpiry (t : Nat) (p : Fin 4) (s : State) : exec (.discrepancyTimeExpiry t p) s = s.run t (discrepancy p.val) := rfl

theorem discrepancy_early {s : State} {p : Nat} (h : s.mateOf (2 * p + 1) = none ∨
    s.heldFor (s.input (2 * p + 1)).disSince (ms (s.cfg.safeIn.discMs.getD p 100)) = false) : discrepancy p s = s := by
  unfold discrepancy
  dsimp only
  split
  · rfl
  next hmate =>
    obtain hnone | hahead := h
    · rw [hnone] at hmate
      cases hmate
    · rw [hahead, Bool.and_false, if_neg Bool.false_ne_true]

/-- A pair that disagreed for its time gives both channels fault code 2. -/
theorem discrepancy_faults {s : State} {p j : Nat} (hreads : s.islandReads = true) (hmate : s.mateOf (2 * p + 1) = some j)
    (hheld : s.heldFor (s.input (2 * p + 1)).disSince (ms (s.cfg.safeIn.discMs.getD p 100)) = true) (hused : s.inputFn (2 * p + 1) ≠ 0)
    (husedMate : s.inputFn j ≠ 0) (hfault : (s.input (2 * p + 1)).fault = 0) (hfaultMate : (s.input j).fault = 0) :
    ((discrepancy p s).input (2 * p + 1)).fault = 2 ∧ ((discrepancy p s).input j).fault = 2 := by
  have hne := mateOf_ne hmate
  have hboth : discrepancy p s = (s.raiseInputFault (2 * p + 1) 2).raiseInputFault j 2 := by
    unfold discrepancy
    dsimp only
    rw [hmate]
    exact if_pos (by rw [hreads, hheld]; rfl)
  have hfirst := fault_of_level (raiseInputFault_same (s := s) (i := 2 * p + 1) (code := 2) (by simp [hused, hfault]))
  have hmateFault := (fault_of_level (raiseInputFault_other s hne 2)).trans hfaultMate
  have hmateUsed := (inputFn_of_wiring (raiseInputFault_wiring s (2 * p + 1) 2) j).trans_ne husedMate
  rw [hboth]
  exact ⟨(fault_of_level (raiseInputFault_other _ hne.symm 2)).trans hfirst, fault_of_level (raiseInputFault_same (by simp [hmateUsed, hmateFault]))⟩

/-! ### The obligation -/

/-- Settles O28: a demand and a permit by whether the level lasts and the input stands so already, a pulse by what it makes of its source and of each
input in turn, and a pair by whether it disagreed for its time. -/
theorem safetyInputs : Obligations.SafetyInputs := by
  refine ⟨?ignored, ?demands, ?trips, ?undecided, ?stays, ?permits, ?misses, ?counts, ?sourceFails, ?agrees, ?disagrees⟩
  case ignored =>
    intro t i w s h
    refine idles_of (exec_safetyInputDemand ..) (ite_eq_right_iff.2 fun hlasts => ?_)
    obtain hshort | hunused | ⟨hreads, hdemand, hepisode⟩ := h
    · exact absurd hlasts (Nat.not_le.2 hshort)
    · exact inputDemand_unused (s := s.begin t) hunused
    · exact inputDemand_stands (s := s.begin t) hreads hdemand hepisode
  case demands =>
    intro t i w s hlasts hreads hused hpermit
    refine answers_of (exec_safetyInputDemand ..) ?_
    rw [if_pos (show (s.begin t).filterUs (i.val + 1) ≤ w from hlasts), settled_input]
    have hdemanded := inputDemand_demanded (s := s.begin t) hreads hused hpermit
    exact ⟨congrArg Prod.fst hdemanded, congrArg (fun d => d.2.1) hdemanded, congrArg (fun d => d.2.2) hdemanded⟩
  case trips =>
    intro t i w s hlasts hreads hpermit hfn hnone
    have hused : (s.begin t).inputFn (i.val + 1) ≠ 0 := fun h => by
      have hzero : s.inputFn (i.val + 1) = 0 := h
      omega
    have hfresh : ((s.begin t).demandTaken (i.val + 1)).fn 0x0B strGroup = none :=
      (demandTaken_apart (fun u : State => u.fn 0x0B strGroup) (fun _ _ _ => rfl) (fun u => fn_of_table (interruptTests_table u) ..) ..).trans hnone
    refine answers_of (exec_safetyInputDemand ..) ?_
    rw [if_pos (show (s.begin t).filterUs (i.val + 1) ≤ w from hlasts), inputDemand_takes (s := s.begin t) hreads hused hpermit,
      if_pos (show (s.begin t).inputFn (i.val + 1) = 1 ∨ (s.begin t).inputFn (i.val + 1) = 2 from hfn)]
    exact settled_input_trip s hfresh (i.val + 1)
  case undecided =>
    intro t i w s hpermit hstop htrip
    have hpr := inputDemand_apart State.pr (fun _ _ _ => rfl) interruptTests_pr (s := s.begin t) hpermit hstop htrip
    have hct := inputDemand_apart State.ct (fun _ _ _ => rfl) interruptTests_ct (s := s.begin t) hpermit hstop htrip
    refine answers_of (exec_safetyInputDemand ..) ?_
    rw [settled_prot Prot.fns, settled_coils]
    split
    · exact ⟨congrArg Prot.fns hpr, congrArg Cont.coils hct⟩
    · exact ⟨rfl, rfl⟩
  case stays =>
    intro t i w s h
    refine idles_of (exec_safetyInputPermit ..) (ite_eq_right_iff.2 fun hlasts => ?_)
    obtain hshort | hpermit := h
    · exact absurd hlasts (Nat.not_le.2 hshort)
    · exact inputPermit_permitted (s := s.begin t) hpermit
  case permits =>
    intro t i w s hlasts hdemand
    refine answers_of (exec_safetyInputPermit ..) ?_
    rw [if_pos (show (s.begin t).filterUs (i.val + 1) ≤ w from hlasts), settled_input]
    have hpermitted := inputPermit_permits (s := s.begin t) hdemand
    exact ⟨congrArg Prod.fst hpermitted, congrArg Prod.snd hpermitted⟩
  case misses =>
    intro t src l lo hi i s hreads hopen hlo hhi hmem hhigh hsource hrun hfault
    refine answers_testPulse hreads hopen ?_
    rw [settled_input, testPulse_sound (s := (s.begin t).turnTaken _) hlo hhi hsource, input_of_unacted (evaluateInputs_unacted _)]
    exact pulses_missed hmem hhigh hsource hrun hfault
  case counts =>
    intro t src l lo hi i s hreads hopen hlo hhi hmem hlow hsource hfault hpermit hmate
    refine answers_testPulse hreads hopen ?_
    rw [settled_input, testPulse_sound (s := (s.begin t).turnTaken _) hlo hhi hsource, input_of_unacted (evaluateInputs_unacted _)]
    have hlevel := pulses_counted (s := ((s.begin t).turnTaken (0x50 + src.val)).sourceSound (src.val + 1)) hmem hlow hfault hpermit hmate
    exact ⟨(fault_of_level hlevel).trans hfault, congrArg SafeIn.missRun hlevel, congrArg SafeIn.goodPulses hlevel⟩
  case sourceFails =>
    intro t src l lo hi s hreads hopen hbad hsound hrun
    obtain ⟨hfailed, hfaults⟩ := sourcePulse_fails (s := (s.begin t).turnTaken (0x50 + src.val)) hsound hrun
    refine answers_testPulse hreads hopen ?_
    rw [testPulse_bad hbad, settled_part (fun v : State => v.sf.srcFault)]
    refine ⟨?_, fun i hi => ?_⟩
    · rwa [srcFault_of_wiring (wiring_of_unacted (evaluateInputs_unacted _)), srcFault_of_wiring (pulses_wiring ..)]
    · rw [settled_input, input_of_unacted (evaluateInputs_unacted _)]
      exact pulses_keep_sourceFault (hfaults i hi) ..
  case agrees =>
    intro t p s h
    exact idles_of (exec_discrepancyTimeExpiry ..) (discrepancy_early (s := s.begin t) (h.imp_right fun h => heldFor_of_ahead h))
  case disagrees =>
    intro t p j d s hreads hmate hsince hover hused husedMate hfault hfaultMate
    refine answers_of (exec_discrepancyTimeExpiry ..) ?_
    rw [settled_input, settled_input]
    exact discrepancy_faults (s := s.begin t) hreads hmate (heldFor_of_reached hsince hover) hused husedMate hfault hfaultMate

end Sys2Proof.Machine

/-! The queue and its commands, and the front panel (25 R588). -/

namespace Sys2Proof.Machine

open Sys2Proof

/-! ### The queue and its commands -/

/-- Settles O49: the front command runs on the state with the queue's rest, by the definition of a step. -/
theorem stepRunsFrontCommand : Obligations.StepRunsFrontCommand := by
  refine ⟨fun _ _ _ => rfl, fun s hempty => ?_⟩
  rw [step, hempty]

/-- Settles O50: no row of the opcode table gives bits. -/
theorem noWordSpellsACommand : Obligations.NoWordSpellsACommand := fun _ _ _ => ⟨rfl, rfl⟩

/-- A command runs at the greater of the former time and its own (log 1), and leaves the queue. -/
theorem answers_queue_and_time (c : Instr) (s : State) : ∃ t, Answers c s fun s' => s'.pending = s.pending ∧ s'.now = max s.now t := by
  obtain ⟨t, f, he⟩ := exec_runs c s
  exact ⟨t, answers_of he ⟨settle_pending .., settle_now ..⟩⟩

/-- Settles O51: every command runs at a time that is not before the former one. -/
theorem everyCommandAnswers : Obligations.EveryCommandAnswers := by
  intro c s
  obtain ⟨t, s', he, hqueue, hnow⟩ := answers_queue_and_time c s
  exact ⟨s', he, hqueue, hnow ▸ Nat.le_max_left ..⟩

/-! ### The front lights (25 R588) -/

@[simp] theorem lit_eq_steady {b : Bool} : lit b = .steady ↔ b = true := by cases b <;> simp [lit]

theorem leds_of_off {s : State} (hoff : s.pw.state = .off) (h1 : s.pw.feed1 = false) (h2 : s.pw.feed2 = false) : ∀ l ∈ s.leds, l = {} := by
  have hpow : s.powered = false := by simp [State.powered, hoff]
  simp [State.leds, State.ledPower, State.ledModule, State.ledTwin, State.ledTime, State.ledProtection, State.ledService, hpow, hoff, h1, h2, lit]

/-- Light 2 of a module that is not in the recovery ROM, by its power state. -/
theorem ledModule_of_state {s : State} (hrec : s.pw.recovery = false) :
    (s.ledModule.green = .steady ↔ s.pw.state = .run) ∧ (s.ledModule.green = .slowBlink ↔ s.pw.state = .watch) ∧
    (s.ledModule.yellow = .steady ↔ s.pw.state = .starting ∨ s.pw.state = .enteringHib ∨ s.pw.state = .flushing) ∧
    (s.ledModule.red = .steady ↔ s.pw.state = .unconfigured ∨ s.pw.state = .resetLocked) := by
  cases hst : s.pw.state <;> simp [State.ledModule, hrec, hst]

theorem ledTwin_of_role {s : State} (htwin : s.isTwin = true) (hpow : s.powered = true) :
    (s.ledTwin.green = .steady ↔ s.tw.role = .leader) ∧ (s.ledTwin.green = .blink ↔ s.tw.role = .follower) ∧
    (s.ledTwin.yellow = .steady ↔ s.sf.reduced = true) ∧ (s.ledTwin.red = .steady ↔ s.tw.mismatch = true) := by
  cases hrole : s.tw.role <;> simp [State.ledTwin, htwin, hpow, hrole]

theorem ledTime_of_state {s : State} (hpow : s.powered = true) :
    (s.ledTime.green = .steady ↔ s.th.state = .locked) ∧ (s.ledTime.yellow = .steady ↔ s.th.state = .acquiring ∨ s.th.state = .holdover) ∧
    (s.ledTime.red = .steady ↔ s.th.state = .freeRunning ∨ s.th.state = .unaligned) := by
  cases hst : s.th.state <;> simp [State.ledTime, hpow, hst]

/-- Settles O60: each light by the condition it shows. -/
theorem frontPanelLights : Obligations.FrontPanelLights := by
  refine ⟨fun _ => leds_of_off, ?power, ?recovery, fun _ => ledModule_of_state, ?single, fun _ => ledTwin_of_role, fun _ => ledTime_of_state,
    ?protection, ?service⟩
  case power =>
    intro s hpow
    simp [State.ledPower, State.supplyOk, hpow]
  case recovery =>
    intro s hpow hrec
    simp [State.ledModule, hpow, hrec]
  case single =>
    intro s hsingle
    simp [State.ledTwin, hsingle]
  case protection =>
    intro s hpow
    simp [State.ledProtection, hpow, or_assoc]
  case service =>
    intro s hpow
    simp +contextual [State.ledService, hpow, lit]

end Sys2Proof.Machine

/-! The recovery ROM (19 R481). -/

namespace Sys2Proof.Machine

open Sys2Proof

/-- A module that starts, with two releases counted and a reset that waits for its hold. -/
def twoReleases : State :=
  { State.reset with pw := { State.reset.pw with state := .starting, p0 := some 0, serviceEnable := true, recoveryReleases := 2, resetHold := some (2, 4, 0) } }

/-- Refutes O57: the third release enters the recovery ROM, which gives up a reset in hand; the clause says that it stands, without asking that
there is none. -/
theorem not_recoveryReleases : ¬ Obligations.RecoveryReleases := by
  rintro ⟨-, hthird⟩
  obtain ⟨s', he, -, -, -, -, hhold, -⟩ := hthird 0 100 {} 0 twoReleases (by decide) (by decide) (by decide) rfl (by decide) (by decide)
    (.inl rfl) rfl (by decide) rfl rfl
  have hrun : exec (.resetPushbuttonRelease 0 100 {}) twoReleases = twoReleases.run 0 (buttonRelease 100 {}) := rfl
  obtain ⟨s'', he', hnone⟩ := answers_of (P := fun s' => s'.pw.resetHold = none) hrun (by rw [settle_pw]; rfl)
  cases he.symm.trans he'
  exact absurd (hhold.symm.trans hnone) (by decide)

end Sys2Proof.Machine

/-! Update sessions: the taking of an update frame, offers, data, verification and cancels (21 R507 to R514). -/

namespace Sys2Proof.Machine

open Sys2Proof

/-! ### An update frame that is taken (21 R507, R510) -/

/-- A frame of the source in session is noted (21 R507). -/
def State.frameNoted (s : State) (m : Maint) : State :=
  if s.up.session ≠ 0 ∧ s.up.server = m.key then s.onUpdate fun u => { u with lastFrame := s.now } else s

/-- The answer to an update frame, sent and stored for a repeated sequence (21 R510; 15 R391). -/
def State.updateAnswer (s : State) (m : Maint) (rtype : Nat) (p : List Nat) : State :=
  (s.teleSend .update m.key rtype m.seq p).onTele m.key fun y => { y with client := { y.client with stored := p, storedType := rtype } }

@[simp] theorem updateAnswer_up (s : State) (m : Maint) (rtype : Nat) (p : List Nat) : (s.updateAnswer m rtype p).up = s.up := rfl

theorem updateAnswer_stored (s : State) (m : Maint) (rtype : Nat) (p : List Nat) :
    ((s.updateAnswer m rtype p).tele m.key).client.stored = p := by
  unfold State.updateAnswer State.tele State.onTele
  rw [State.onNet_nt, Table.get_upd_same]

@[simp] theorem commandTaken_up (s : State) (m : Maint) : (s.commandTaken m).up = s.up := rfl
@[simp] theorem commandTaken_now (s : State) (m : Maint) : (s.commandTaken m).now = s.now := rfl

/-- A frame of a session that is taken is answered by its meaning, in a state that differs in the network and the note of the frame. -/
theorem updateFrame_of_takes {s : State} {m : Maint} {c : CfgTele} (h : s.sessionTakes m 1 c) (rtype size : Nat) (extra : State → Nat → List Nat)
    (body : State → State × Nat × Nat) :
    s.updateFrame m rtype size extra body =
      let r := match (s.commandTaken m).updateServer m with
        | none => (s.commandTaken m, [stNotAllowed, 0, 0, 0] ++ extra (s.commandTaken m) stNotAllowed)
        | some v =>
          let r := match ((s.commandTaken m).frameNoted m).takeTokens m v (udp size) with
            | some u => body u
            | none => ((s.commandTaken m).frameNoted m, stBusy, 2)
          (r.1, [r.2.1, r.2.2, 0, 0] ++ extra r.1 r.2.1)
      r.1.updateAnswer m rtype r.2 := by
  obtain ⟨hreach, hclient, hopen, hsession, hseq⟩ := h
  have hclient : (s.received (if m.key = 8 then 3 else m.port)).teleCfg m.key = some c := hclient
  have hsession : ¬(m.session = 0 ∨ ((s.received (if m.key = 8 then 3 else m.port)).tele m.key).client.session ≠ m.session) := by
    rintro (h | h)
    · exact hopen h
    · exact h hsession
  have hseq : ((s.received (if m.key = 8 then 3 else m.port)).tele m.key).client.lastSeq < m.seq := hseq
  unfold State.updateFrame State.sessionFrame
  dsimp only
  rw [if_neg (by simp [hreach]), if_neg (by simp), hclient]
  dsimp only
  rw [if_neg hsession, if_neg (by omega), if_neg (by omega), if_neg (by omega)]
  simp only [decide_eq_true_eq]
  rfl

/-- The octets left to a source are neither spent nor filled by the taking of its frame. -/
theorem tokensLeft_noted (s : State) (m : Maint) (v : CfgServer) :
    ((s.commandTaken m).frameNoted m).tokensLeft m v = s.tokensLeft m v := by
  have hbuckets : ((s.commandTaken m).frameNoted m).up.buckets = s.up.buckets := by
    unfold State.frameNoted; split <;> rfl
  have hnow : ((s.commandTaken m).frameNoted m).now = s.now := by
    unfold State.frameNoted; split <;> rfl
  have htele : ((s.commandTaken m).frameNoted m).tele = (s.commandTaken m).tele := by
    unfold State.frameNoted; split <;> rfl
  unfold State.tokensLeft
  rw [hbuckets, hnow, htele]
  split
  case isTrue hkey =>
    have hsession : (s.commandTaken m).tele 8 = { s.tele 8 with client := { (s.tele 8).client with lastSeq := m.seq } } := by
      unfold State.commandTaken State.onTele State.tele
      rw [State.onNet_nt, ← hkey, Table.get_upd_same]
      rfl
    rw [hsession]
  case isFalse => rfl

/-- The state without the network and what every update frame moves of the update state. -/
def State.offFrame (s : State) : State := { s.bare with nt := {}, up := s.upKept }

/-- What the meaning of an update frame finds: the state the command begins with, beside the network, and the instant of the frame noted. -/
structure FrameTaken (s : State) (t : Nat) (m : Maint) (w : State) : Prop where
  rest : w.offFrame = s.offFrame
  now : w.now = max s.now t
  reading : w.th.reading = (s.begin t).th.reading
  lastFrame : w.up.lastFrame = if s.up.session ≠ 0 ∧ s.up.server = m.key then max s.now t else s.up.lastFrame

theorem frameTaken_noted (s : State) (t : Nat) (m : Maint) : FrameTaken s t m (((s.begin t).commandTaken m).frameNoted m) := by
  unfold State.frameNoted
  split
  case isTrue hown => exact ⟨rfl, rfl, rfl, (if_pos hown).symm⟩
  case isFalse hown => exact ⟨rfl, rfl, rfl, (if_neg hown).symm⟩

theorem FrameTaken.takeTokens {s u w : State} {t n : Nat} {m : Maint} {v : CfgServer} (h : FrameTaken s t m w) (hu : w.takeTokens m v n = some u) :
    FrameTaken s t m u := by
  unfold State.takeTokens at hu
  dsimp only at hu
  split at hu
  · cases hu
  · cases hu
    split
    · exact ⟨h.rest, h.now, h.reading, h.lastFrame⟩
    · exact ⟨h.rest, h.now, h.reading, h.lastFrame⟩

section Answering

variable {c : Instr} {s : State} {t rtype size : Nat} {m : Maint} {extra : State → Nat → List Nat} {body : State → State × Nat × Nat} {P : State → Prop}

/-- What the answer to an update frame leaves: the meaning's update state, and the answer stored. -/
theorem answers_updateAnswer {v : State} {p : List Nat} {f : State → State} (he : exec c s = s.run t f) (hf : f (s.begin t) = v.updateAnswer m rtype p)
    (h : ∀ s', s'.up = v.up → (s'.tele m.key).client.stored = p → P s') : Answers c s P := by
  refine answers_of he (h _ ?_ ?_)
  · rw [settle_up, hf]
    rfl
  · rw [settle_tele, hf]
    exact updateAnswer_stored ..

/-- A frame from a client that may not update is answered NOT ALLOWED (21 R507). -/
theorem answers_update_stranger {k : CfgTele} (he : exec c s = s.run t fun s => s.updateFrame m rtype size extra body) (htakes : s.sessionTakes m 1 k)
    (hserver : s.updateServer m = none) (h : ∀ w s', s'.up = s.up → w.up = s.up → (s'.tele m.key).client.stored = [stNotAllowed, 0, 0, 0] ++ extra w stNotAllowed → P s') :
    Answers c s P := by
  have hframe := updateFrame_of_takes (s := s.begin t) htakes rtype size extra body
  have hserver : ((s.begin t).commandTaken m).updateServer m = none := hserver
  rw [hserver] at hframe
  dsimp only at hframe
  exact answers_updateAnswer he hframe fun s' hup hstored => h ((s.begin t).commandTaken m) s' hup rfl hstored

/-- A frame whose source's bucket is too low is BUSY with reason 2 (21 R510). -/
theorem answers_update_starved (he : exec c s = s.run t fun s => s.updateFrame m rtype size extra body) (hstarves : s.updateStarves t m size)
    (h : ∀ w s', s'.upKept = s.upKept → w.upKept = s.upKept → (s'.tele m.key).client.stored = [stBusy, 2, 0, 0] ++ extra w stBusy → P s') : Answers c s P := by
  obtain ⟨k, v, htakes, hserver, hlow⟩ := hstarves
  have hframe := updateFrame_of_takes (s := s.begin t) htakes rtype size extra body
  have hserver : ((s.begin t).commandTaken m).updateServer m = some v := hserver
  have hnone : (((s.begin t).commandTaken m).frameNoted m).takeTokens m v (udp size) = none := by
    unfold State.takeTokens
    rw [tokensLeft_noted]
    exact if_pos hlow
  rw [hserver] at hframe
  dsimp only at hframe
  rw [hnone] at hframe
  have hkept : (((s.begin t).commandTaken m).frameNoted m).upKept = s.upKept := (congrArg State.up (frameTaken_noted s t m).rest :)
  refine answers_updateAnswer he hframe fun s' hup hstored => h _ s' ?_ hkept hstored
  rw [← hkept, State.upKept, hup, State.upKept]

/-- A frame that its bucket holds is answered by its meaning (21 R510). -/
theorem answers_update (he : exec c s = s.run t fun s => s.updateFrame m rtype size extra body) (htakes : s.updateTakes t m size)
    (h : ∀ w, FrameTaken s t m w → ∀ s', s'.up = (body w).1.up → (s'.tele m.key).client.stored = [(body w).2.1, (body w).2.2, 0, 0] ++ extra (body w).1 (body w).2.1 →
      P s') : Answers c s P := by
  obtain ⟨k, v, htakes, hserver, henough⟩ := htakes
  have hframe := updateFrame_of_takes (s := s.begin t) htakes rtype size extra body
  have hserver : ((s.begin t).commandTaken m).updateServer m = some v := hserver
  obtain ⟨w, hw⟩ : ∃ w, (((s.begin t).commandTaken m).frameNoted m).takeTokens m v (udp size) = some w := by
    unfold State.takeTokens
    rw [tokensLeft_noted]
    exact ⟨_, if_neg (not_lt.2 henough)⟩
  rw [hserver] at hframe
  dsimp only at hframe
  rw [hw] at hframe
  exact answers_updateAnswer he hframe (h w ((frameTaken_noted s t m).takeTokens hw))

/-- A frame that its meaning turns away with a status and a reason leaves the update state (21 R510). -/
theorem answers_update_turned {st reason : Nat} {p : List Nat} (he : exec c s = s.run t fun s => s.updateFrame m rtype size extra body)
    (htakes : s.updateTakes t m size) (hbody : ∀ w, FrameTaken s t m w → body w = (w, st, reason)) (hextra : ∀ w, w.upKept = s.upKept → extra w st = p)
    (h : ∀ s', s'.upKept = s.upKept → (s'.tele m.key).client.stored = [st, reason, 0, 0] ++ p → P s') : Answers c s P := by
  refine answers_update he htakes fun w hw s' hup hstored => ?_
  rw [hbody w hw] at hup hstored
  have hkept : w.upKept = s.upKept := (congrArg State.up hw.rest :)
  rw [hextra w hkept] at hstored
  refine h s' ?_ hstored
  rw [← hkept, State.upKept, hup, State.upKept]

end Answering

/-! ### Offers (21 R507, R508, R511 to R513) -/

section Offers

variable {s w : State} {t : Nat} {m : Maint} {h : ImgHeader}

/-- The update state that the meaning of a frame finds. -/
theorem FrameTaken.up (hw : FrameTaken s t m w) : ∃ b, w.up = { s.up with
    buckets := b, lastFrame := if s.up.session ≠ 0 ∧ s.up.server = m.key then max s.now t else s.up.lastFrame } := by
  have hkept : w.upKept = s.upKept := (congrArg State.up hw.rest :)
  refine ⟨w.up.buckets, ?_⟩
  calc w.up = { w.upKept with buckets := w.up.buckets, lastFrame := w.up.lastFrame } := rfl
    _ = _ := by rw [hkept, hw.lastFrame]; rfl

theorem FrameTaken.upKept (hw : FrameTaken s t m w) : w.upKept = s.upKept := (congrArg State.up hw.rest :)
theorem FrameTaken.session (hw : FrameTaken s t m w) : w.up.session = s.up.session := (congrArg Update.session hw.upKept :)
theorem FrameTaken.server (hw : FrameTaken s t m w) : w.up.server = s.up.server := (congrArg Update.server hw.upKept :)
theorem FrameTaken.offer (hw : FrameTaken s t m w) : w.up.offer = s.up.offer := (congrArg Update.offer hw.upKept :)
theorem FrameTaken.offset (hw : FrameTaken s t m w) : w.up.offset = s.up.offset := (congrArg Update.offset hw.upKept :)
theorem FrameTaken.checkpoint (hw : FrameTaken s t m w) : w.up.checkpoint = s.up.checkpoint := (congrArg Update.checkpoint hw.upKept :)
theorem FrameTaken.verifying (hw : FrameTaken s t m w) : w.up.verifying = s.up.verifying := (congrArg Update.verifying hw.upKept :)
theorem FrameTaken.trialKind (hw : FrameTaken s t m w) : w.up.trialKind = s.up.trialKind := (congrArg Update.trialKind hw.upKept :)
theorem FrameTaken.probation (hw : FrameTaken s t m w) : w.up.probation = s.up.probation := (congrArg Update.probation hw.upKept :)
theorem FrameTaken.schedule (hw : FrameTaken s t m w) : w.up.schedule = s.up.schedule := (congrArg Update.schedule hw.upKept :)
theorem FrameTaken.stagedFw (hw : FrameTaken s t m w) : w.up.stagedFw = s.up.stagedFw := (congrArg Update.stagedFw hw.upKept :)
theorem FrameTaken.stagedCfg (hw : FrameTaken s t m w) : w.up.stagedCfg = s.up.stagedCfg := (congrArg Update.stagedCfg hw.upKept :)
theorem FrameTaken.staged (hw : FrameTaken s t m w) (k : Nat) : w.up.staged k = s.up.staged k := (congrArg (·.staged k) hw.upKept :)
theorem FrameTaken.serviceEnable (hw : FrameTaken s t m w) : w.pw.serviceEnable = s.pw.serviceEnable :=
  (congrArg (fun u : State => u.pw.serviceEnable) hw.rest :)
theorem FrameTaken.offerStage (hw : FrameTaken s t m w) (h : ImgHeader) : w.offerStage h = s.offerStage h := (congrArg (·.offerStage h) hw.rest :)

theorem updateOffer_in_session (hopen : w.up.session ≠ 0) : updateOffer m h w = (w, stBusy, 6) := by
  simp [updateOffer, hopen]

theorem updateOffer_without_precedence (hclosed : w.up.session = 0) (hkey : m.key ≠ 8) (hsw : w.pw.serviceEnable = true) :
    updateOffer m h w = (w, stBusy, 9) := by
  simp [updateOffer, hclosed, hkey, hsw]

/-- An offer while no session stands, from a source with precedence: the trial, the staged image, and the header's check decide (21 R511, R512). -/
theorem updateOffer_judged (hclosed : w.up.session = 0) (hprec : m.key = 8 ∨ w.pw.serviceEnable = false) : updateOffer m h w =
    if w.up.trialKind ≠ 0 ∨ w.up.probation.isSome then (w, stBusy, 8)
    else if w.offerStage h = 1 ∨ w.offerStage h = 2 then (w.onUpdate fun u => { u with failedStage := w.offerStage h }, stRefused, 20 + w.offerStage h)
    else if (if h.kind = 1 then w.up.stagedFw else w.up.stagedCfg).isSome then (w, stBusy, 7)
    else if w.offerStage h ≠ 0 then (w.onUpdate fun u => { u with failedStage := w.offerStage h }, stRefused, 20 + w.offerStage h)
    else (w.openUpdate m h, stDone, 0) := by
  have hsw : ¬(m.key ≠ 8 ∧ w.pw.serviceEnable = true) := by
    rintro ⟨hkey, hon⟩
    rcases hprec with h | h
    · exact hkey h
    · exact absurd (h.symm.trans hon) (by decide)
  unfold updateOffer
  dsimp only
  rw [if_neg (not_not.2 hclosed), if_neg hsw]
  by_cases hkind : h.kind = 1 <;> simp only [hkind, if_true, if_false]

/-- The session an accepted offer opens (21 R507, R513). -/
theorem openUpdate_up (w : State) (m : Maint) (h : ImgHeader) :
    (w.openUpdate m h).up.session = (if m.key = 8 then 2 else 1) ∧ (w.openUpdate m h).up.server = m.key ∧ (w.openUpdate m h).up.offer = some h ∧
    (w.openUpdate m h).up.offset = (if w.up.checkDigest = some (h.kind, h.digest) then w.up.checkpoint else 0) ∧
    (w.openUpdate m h).up.verifying = false ∧ (w.openUpdate m h).up.lastFrame = w.now := by
  unfold State.openUpdate
  by_cases hresume : w.up.checkDigest = some (h.kind, h.digest) <;> simp [hresume]

end Offers

/-- An offer that is turned away is answered with no offset, and leaves the update state (21 R511). -/
theorem answers_offer_turned {s : State} {t st reason : Nat} {m : Maint} {h : ImgHeader} {P : State → Prop} (htakes : s.updateTakes t m 512) (hst : st ≠ stDone)
    (hbody : ∀ w, FrameTaken s t m w → updateOffer m h w = (w, st, reason))
    (hP : ∀ s', s'.upKept = s.upKept → (s'.tele m.key).client.stored = [st, reason, 0, 0] ++ octetsOf 4 0 → P s') : Answers (.updateOffer t m h) s P :=
  answers_update_turned rfl htakes hbody (fun w _ => by rw [if_neg hst]) hP

/-! ### Data and verification (21 R510, R513, R514) -/

section Payload

variable {w : State} {m : Maint} {o n : Nat} {h : ImgHeader}

/-- The source is in the session with the image offered (21 R513). -/
def State.inSession (w : State) (m : Maint) (h : ImgHeader) : Prop := w.up.offer = some h ∧ w.up.session ≠ 0 ∧ w.up.server = m.key

theorem updateData_out_of_session (hout : w.up.offer = none ∨ w.up.session = 0 ∨ w.up.server ≠ m.key) : updateData m o n w = (w, stInvalid, 0) := by
  unfold updateData
  split
  · rfl
  · rename_i k hoffer
    rw [if_pos (hout.resolve_left (by simp [hoffer]))]

theorem updateData_elsewhere (hin : w.inSession m h) (hoff : o ≠ w.up.offset) : updateData m o n w = (w, stDone, 0) := by
  obtain ⟨hoffer, hopen, hserver⟩ := hin
  simp [updateData, hoffer, hopen, hserver, hoff]

/-- The checkpoint due at the end `e` of the data taken: each 64 KiB, and the end of the payload (21 R513). -/
def checkpointAt (h : ImgHeader) (e : Nat) : Nat := if e = h.length then e else e / 65536 * 65536

theorem writeCheckpoint_up (w : State) (h : ImgHeader) (c : Nat) :
    (w.writeCheckpoint h c).up = { w.up with checkpoint := c, checkDigest := some (h.kind, h.digest) } := by
  simp [State.writeCheckpoint]

/-- Data up to `e` are taken, and the checkpoint is written where it rises (21 R513). -/
def State.dataTaken (w : State) (h : ImgHeader) (e : Nat) : State :=
  let s1 := w.onUpdate fun u => { u with offset := e }
  if w.up.checkpoint < checkpointAt h e then s1.writeCheckpoint h (checkpointAt h e) else s1

/-- The checkpoint rises to the one due (21 R513). -/
theorem dataTaken_up (w : State) (h : ImgHeader) (e : Nat) : (w.dataTaken h e).up.offset = e ∧
    (w.dataTaken h e).up.checkpoint = max w.up.checkpoint (checkpointAt h e) ∧ (w.dataTaken h e).up.lastFrame = w.up.lastFrame ∧
    (w.dataTaken h e).up.session = w.up.session := by
  unfold State.dataTaken
  dsimp only
  split
  case isTrue hless =>
    rw [writeCheckpoint_up]
    exact ⟨rfl, (max_eq_right hless.le).symm, rfl, rfl⟩
  case isFalse hless => exact ⟨rfl, (max_eq_left (not_lt.1 hless)).symm, rfl, rfl⟩

/-- Data at the next offset are taken (21 R513). -/
theorem updateData_next (hin : w.inSession m h) (hoff : o = w.up.offset) (hlen : n ≤ 1024) (hend : o + n ≤ h.length) :
    updateData m o n w = (w.dataTaken h (o + n), stDone, 0) := by
  obtain ⟨hoffer, hopen, hserver⟩ := hin
  unfold updateData
  rw [hoffer]
  dsimp only
  rw [if_neg (by simp [hopen, hserver]), if_neg (by simp [hoff]), if_neg (by omega)]
  rfl

theorem updateVerify_incomplete (hout : w.up.offer = none ∨ w.up.session = 0 ∨ w.up.server ≠ m.key ∨ ∃ h, w.up.offer = some h ∧ w.up.offset ≠ h.length) :
    updateVerify m w = (w, stInvalid, 0) := by
  unfold updateVerify
  split
  · rfl
  · rename_i k hoffer
    rw [if_pos ?_]
    simpa [hoffer] using hout

/-- A complete payload: its verification begins, unless it runs already (21 R514). -/
theorem updateVerify_complete (hin : w.inSession m h) (hfull : w.up.offset = h.length) : updateVerify m w =
    if w.up.verifying then (w, stBusy, 6)
    else (w.onUpdate fun u => { u with verifying := true, verifyAt := w.now, reply := some (m.key, m.seq) }, stStarted, 0) := by
  obtain ⟨hoffer, hopen, hserver⟩ := hin
  simp [updateVerify, hoffer, hopen, hserver, hfull]

end Payload

/-! ### The end of a verification (21 R514) -/

section Verification

@[simp] theorem verifyAnswer_up (s : State) (st r : Nat) : (s.verifyAnswer st r).up = s.up := by
  unfold State.verifyAnswer
  split
  · rfl
  · dsimp only
    split <;> rfl

@[simp] theorem verifyAnswer_pg (s : State) (st r : Nat) : (s.verifyAnswer st r).pg = s.pg := by
  unfold State.verifyAnswer
  split
  · rfl
  · dsimp only
    split <;> rfl

/-- A directory entry programmed into the copy that is not in force (20 R490). -/
def Plug.program (p : Plug) (e : DirEntry) : Plug := if p.newerIsA then { p with dirB := some e } else { p with dirA := some e }

/-- Programmed under the next sequence, an entry is in force at once (20 R490). -/
theorem program_dir {p : Plug} {e : DirEntry} (hplug : e.plug = p.ident) (hseq : e.seq = wrapInc (p.dir.getD {}).seq) : (p.program e).dir = some e := by
  have hlater (q : Nat) : laterThan (wrapInc q) q = true := laterThan_wrapInc q
  have hearlier (q : Nat) : laterThan q (wrapInc q) = false := laterThan_asymm (hlater q)
  obtain ⟨ident, dirA, dirB⟩ := p
  dsimp only at hplug
  rcases dirA with _ | a <;> rcases dirB with _ | b
  · simp [Plug.program, Plug.newerIsA, Plug.dir, hplug]
  · by_cases hb : b.plug = ident <;> simp_all [Plug.program, Plug.newerIsA, Plug.dir]
  · by_cases ha : a.plug = ident <;> simp_all [Plug.program, Plug.newerIsA, Plug.dir]
  · by_cases ha : a.plug = ident <;> by_cases hb : b.plug = ident <;> by_cases hab : laterThan b.seq a.seq = true <;>
      simp_all [Plug.program, Plug.newerIsA, Plug.dir]

/-- A write of the directory is in force at once. -/
theorem writeDir_dir (s : State) (f : DirEntry → DirEntry) : (s.writeDir f).pg.dir =
    some { f (s.pg.dir.getD {}) with seq := wrapInc (s.pg.dir.getD {}).seq, time := s.th.reading, plug := s.pg.ident } :=
  program_dir (p := s.pg) rfl rfl

theorem program_area (p : Plug) (e : DirEntry) (a : Nat) : (p.program e).area a = p.area a := by
  unfold Plug.program
  split <;> rfl

theorem writeDir_area (s : State) (f : DirEntry → DirEntry) (a : Nat) : (s.writeDir f).pg.area a = s.pg.area a := program_area ..

theorem slot_staged (u : Update) (h : ImgHeader) (k : Nat) :
    (if k = 0 then { u with slotA := some h } else { u with slotB := some h } : Update).slot k = some h := by
  unfold Update.slot
  split <;> rfl

theorem area_staged (p : Plug) (g : Image) (a : Nat) :
    (if a = 0 then { p with area0 := some g } else { p with area1 := some g } : Plug).area a = some g := by
  unfold Plug.area
  split <;> rfl

/-- What a verification that ends leaves of the update state (21 R514). -/
theorem verifyFailed_up (s : State) (stage : Nat) : (s.verifyFailed stage).up = { s.up with lastResult := 6, failedStage := stage } := by
  rw [State.verifyFailed, verifyAnswer_up]
  rfl

theorem verifyFailed_pg (s : State) (stage : Nat) : (s.verifyFailed stage).pg = s.pg := by
  rw [State.verifyFailed, verifyAnswer_pg]
  rfl

theorem stageFirmware_up (s : State) (h : ImgHeader) (l : List Nat) : (s.stageFirmware h l).up.stagedFw = some h ∧
    (s.stageFirmware h l).up.stagedSlot = some (1 - s.up.boot.committed) ∧ (s.stageFirmware h l).up.stagedVersions = l ∧
    (s.stageFirmware h l).up.slot (1 - s.up.boot.committed) = some h := by
  have hslot := slot_staged s.up h (1 - s.up.boot.committed)
  unfold State.stageFirmware State.writeUpdateItem
  rw [writeItem_up]
  exact ⟨rfl, rfl, rfl, hslot⟩

/-- A configuration image is staged in the area that is not active (20 R502). -/
theorem stageConfig_staged (s : State) (g : Image) : (s.stageConfig g).up.stagedCfg = some g.header ∧
    ∃ a d, (s.stageConfig g).pg.dir = some d ∧ d.staged = some a ∧ (s.stageConfig g).pg.area a = some g ∧ d.active ≠ some a := by
  generalize ha : ((s.pg.dir.getD {}).active.map fun a => 1 - a).getD 0 = a
  have hother : (s.pg.dir.getD {}).active ≠ some a := by
    rcases hact : (s.pg.dir.getD {}).active with _ | x
    · simp
    · rw [hact] at ha
      simp only [Option.map_some, Option.getD_some] at ha
      simp only [ne_eq, Option.some.injEq]
      omega
  have hdir := writeDir_dir (s.onPlug fun p => if a = 0 then { p with area0 := some g } else { p with area1 := some g }) fun d => { d with staged := some a }
  have hkept : (State.onPlug s fun p => if a = 0 then { p with area0 := some g } else { p with area1 := some g }).pg.dir = s.pg.dir := by
    rw [State.onPlug_pg]
    split <;> rfl
  unfold State.stageConfig
  dsimp only
  rw [ha]
  rw [hkept] at hdir
  refine ⟨rfl, a, _, hdir, rfl, ?_, hother⟩
  rw [State.onUpdate_pg, writeDir_area, State.onPlug_pg]
  exact area_staged s.pg g a

/-- The payload as read back, under the header offered (21 R514). -/
def verifiedImage (o : ImgHeader) (g : Image) : Image := { header := ImgHeader.withPayload o g.header, records := g.records, cfg := g.cfg }

/-- A verification that runs ends the session, with the image staged or the failed stage kept (21 R514). -/
theorem verificationComplete_runs {s : State} {o : ImgHeader} (hoffer : s.up.offer = some o) (hver : s.up.verifying = true) (hrec : s.pw.recovery = false)
    (g : Image) (l : List Nat) : verificationComplete g l s =
      let h := ImgHeader.withPayload o g.header
      let st := if h.kind = 1 then (if h.hashOk then 0 else 10) else s.imageStage (verifiedImage o g)
      State.onUpdate (if st ≠ 0 then s.verifyFailed st
        else (if h.kind = 1 then s.stageFirmware h l else s.stageConfig (verifiedImage o g)).verifyAnswer stDone 0) Update.endSession := by
  unfold verificationComplete
  rw [hoffer]
  dsimp only
  rw [if_neg (by simp [hver, hrec])]
  rfl

theorem verificationComplete_idles {s : State} (h : s.up.offer = none ∨ s.up.verifying = false ∨ s.pw.recovery = true) (g : Image) (l : List Nat) :
    verificationComplete g l s = s := by
  unfold verificationComplete
  split
  · rfl
  · rename_i o hoffer
    rw [if_pos (by simpa [hoffer] using h)]

/-- The session ended, and why the verification failed (21 R514). -/
theorem verifyFailed_ended (s : State) (st : Nat) : ((s.verifyFailed st).onUpdate Update.endSession).up =
    { s.up with session := 0, offer := none, verifying := false, reply := none, lastResult := 6, failedStage := st } := by
  rw [State.onUpdate_up, verifyFailed_up]
  rfl

/-- Settles O44: a frame by its source and its bucket, an offer, data and a verification by what the session and the header decide. -/
theorem updateSession : Obligations.UpdateSession := by
  refine ⟨?stranger, ?offerStarved, ?dataStarved, ?verifyStarved, ?inSession, ?precedence, ?trial, ?badHeader, ?staged, ?opened, ?dataOutside, ?data,
    ?incomplete, ?complete, ?verifyIdle, ?firmware, ?firmwareBad, ?config, ?silentIdle, ?silent⟩
  case stranger =>
    intro t m h c s htakes hserver
    exact answers_update_stranger rfl htakes hserver fun w s' hup _ hstored => ⟨hup, hstored⟩
  case offerStarved =>
    intro t m h s hstarves
    exact answers_update_starved rfl hstarves fun w s' hkept _ hstored => ⟨hkept, hstored⟩
  case dataStarved =>
    intro t m o n s hstarves
    refine answers_update_starved rfl hstarves fun w s' hkept hw hstored => ⟨hkept, ?_⟩
    have hoffset : w.up.offset = s.up.offset := (congrArg Update.offset hw :)
    have hcheck : w.up.checkpoint = s.up.checkpoint := (congrArg Update.checkpoint hw :)
    rw [hstored, hoffset, hcheck, List.append_assoc]
  case verifyStarved =>
    intro t m s hstarves
    refine answers_update_starved rfl hstarves fun w s' hkept hw hstored => ⟨hkept, ?_⟩
    have hoffset : w.up.offset = s.up.offset := (congrArg Update.offset hw :)
    rw [hstored, verifiedLength, hoffset]
  case inSession =>
    intro t m h s htakes hopen
    exact answers_offer_turned htakes (by decide) (fun w hw => updateOffer_in_session (by rwa [hw.session])) fun s' hkept hstored => ⟨hkept, hstored⟩
  case precedence =>
    intro t m h s htakes hclosed hkey hsw
    exact answers_offer_turned htakes (by decide)
      (fun w hw => updateOffer_without_precedence (by rwa [hw.session]) hkey (by rwa [hw.serviceEnable])) fun s' hkept hstored => ⟨hkept, hstored⟩
  case trial =>
    intro t m h s htakes hclosed hprec htrial
    refine answers_offer_turned htakes (st := stBusy) (reason := 8) (by decide) (fun w hw => ?_) fun s' hkept hstored => ⟨hkept, hstored⟩
    rw [updateOffer_judged (by rwa [hw.session]) (by rwa [hw.serviceEnable]), if_pos (by rwa [hw.trialKind, hw.probation])]
  case badHeader =>
    intro t m h s htakes hclosed hprec htrial hprob hstage
    refine answers_update rfl htakes fun w hw s' hup hstored => ?_
    have hbody : updateOffer m h w = (w.onUpdate fun u => { u with failedStage := s.offerStage h }, stRefused, 20 + s.offerStage h) := by
      rw [updateOffer_judged (by rwa [hw.session]) (by rwa [hw.serviceEnable]), if_neg (by simp [hw.trialKind, hw.probation, htrial, hprob]),
        hw.offerStage, hw.stagedFw, hw.stagedCfg]
      split
      · rfl
      · rename_i hearly
        obtain ⟨hbad, hnone⟩ : s.offerStage h ≠ 0 ∧ (if h.kind = 1 then s.up.stagedFw else s.up.stagedCfg) = none := by tauto
        rw [hnone, if_neg (by simp), if_pos hbad]
    rw [hbody] at hup hstored
    refine ⟨?_, hstored⟩
    rw [State.upKept, hup, ← hw.upKept]
    rfl
  case staged =>
    intro t m h s htakes hclosed hprec htrial hprob h1 h2 hstaged
    refine answers_offer_turned htakes (st := stBusy) (reason := 7) (by decide) (fun w hw => ?_) fun s' hkept hstored => ⟨hkept, hstored⟩
    rw [updateOffer_judged (by rwa [hw.session]) (by rwa [hw.serviceEnable]), if_neg (by simp [hw.trialKind, hw.probation, htrial, hprob]),
      hw.offerStage, hw.stagedFw, hw.stagedCfg, if_neg (by tauto), if_pos hstaged]
  case opened =>
    intro t m h s htakes hclosed hprec htrial hprob hstage hnone at_
    refine answers_update rfl htakes fun w hw s' hup hstored => ?_
    have hbody : updateOffer m h w = (w.openUpdate m h, stDone, 0) := by
      rw [updateOffer_judged (by rwa [hw.session]) (by rwa [hw.serviceEnable]), if_neg (by simp [hw.trialKind, hw.probation, htrial, hprob]),
        hw.offerStage, hw.stagedFw, hw.stagedCfg, hnone, hstage]
      simp
    obtain ⟨hsession, hserver, hoffer, hoffset, hver, hframe⟩ := openUpdate_up w m h
    have hat : (w.openUpdate m h).up.offset = at_ := by
      have hdigest : w.up.checkDigest = s.up.checkDigest := (congrArg Update.checkDigest hw.upKept :)
      rw [hoffset, hdigest, hw.checkpoint]
    rw [hbody] at hup hstored
    rw [hup]
    refine ⟨hsession, hserver, hoffer, hat, hver, hframe.trans hw.now, ?_⟩
    rw [hstored, ← hat]
    rfl
  case dataOutside =>
    intro t m o n s htakes hout
    refine answers_update rfl htakes fun w hw s' hup hstored => ?_
    rw [updateData_out_of_session (by rwa [hw.offer, hw.session, hw.server])] at hup hstored
    rw [hup]
    refine ⟨hw.offset, hw.checkpoint, ?_⟩
    rw [hstored, hw.offset, hw.checkpoint, List.append_assoc]
  case data =>
    intro t m o n h s htakes hoffer hopen hserver
    have hin {w : State} (hw : FrameTaken s t m w) : w.inSession m h :=
      ⟨hw.offer.trans hoffer, by rwa [hw.session], hw.server.trans hserver⟩
    refine ⟨fun helse => ?_, fun hnext hlen hend => ?_⟩
    · refine answers_update_turned (p := octetsOf 4 s.up.offset ++ octetsOf 4 s.up.checkpoint) rfl htakes
        (fun w hw => updateData_elsewhere (hin hw) (by rwa [hw.offset])) (fun w hkept => ?_) fun s' hkept hstored => ⟨hkept, ?_⟩
      · have hoffset : w.up.offset = s.up.offset := (congrArg Update.offset hkept :)
        have hcheck : w.up.checkpoint = s.up.checkpoint := (congrArg Update.checkpoint hkept :)
        rw [hoffset, hcheck]
      · rw [hstored, List.append_assoc]
    · refine answers_update rfl htakes fun w hw s' hup hstored => ?_
      obtain ⟨hoffset, hcheck, hframe, hsession⟩ := dataTaken_up w h (o + n)
      rw [updateData_next (hin hw) (by rwa [hw.offset]) hlen hend] at hup hstored
      rw [hw.checkpoint] at hcheck
      rw [hup]
      refine ⟨hoffset, hcheck, ?_, hsession.trans hw.session, ?_⟩
      · rw [hframe, hw.lastFrame, if_pos ⟨hopen, hserver⟩]
      · rw [hstored, hoffset, hcheck, List.append_assoc]
        rfl
  case incomplete =>
    intro t m s htakes hout
    refine answers_update rfl htakes fun w hw s' hup hstored => ?_
    rw [updateVerify_incomplete (by rwa [hw.offer, hw.session, hw.server, hw.offset])] at hup hstored
    rw [hup]
    refine ⟨hw.verifying, ?_⟩
    rw [hstored, verifiedLength, hw.offset]
  case complete =>
    intro t m h s htakes hoffer hopen hserver hfull
    have hverify {w : State} (hw : FrameTaken s t m w) := updateVerify_complete (m := m) (h := h) (w := w)
      ⟨hw.offer.trans hoffer, by rwa [hw.session], hw.server.trans hserver⟩ (hw.offset.trans hfull)
    refine ⟨fun hver => ?_, fun hver => ?_⟩
    · refine answers_update rfl htakes fun w hw s' hup hstored => ?_
      rw [hverify hw, hw.verifying, hver, if_pos rfl] at hup hstored
      rw [hup]
      refine ⟨(congrArg Update.reply hw.upKept :), ?_⟩
      rw [hstored, verifiedLength, hw.offset]
    · refine answers_update rfl htakes fun w hw s' hup hstored => ?_
      rw [hverify hw, hw.verifying, hver, if_neg (by decide)] at hup hstored
      rw [hup]
      refine ⟨rfl, hw.now, rfl, ?_⟩
      rw [hstored, ← hw.offset]
      rfl
  case verifyIdle =>
    intro t g l s hidle
    exact idles_of rfl (verificationComplete_idles (s := s.begin t) hidle g l)
  case firmware =>
    intro t g l o s hoffer hver hrec hkind hhash
    have hkind : (ImgHeader.withPayload o g.header).kind = 1 := hkind
    have hhash : (ImgHeader.withPayload o g.header).hashOk = true := hhash
    have hruns := verificationComplete_runs (s := s.begin t) hoffer hver hrec g l
    simp only [hkind, hhash, if_true, ne_eq, not_true_eq_false, if_false] at hruns
    obtain ⟨hfw, hslot, hversions, himage⟩ := stageFirmware_up (s.begin t) (ImgHeader.withPayload o g.header) l
    refine answers_of rfl ?_
    rw [settle_up, hruns]
    simp only [State.keep, State.onUpdate_up, verifyAnswer_up]
    exact ⟨hfw, hslot, hversions, rfl, rfl, rfl, himage⟩
  case firmwareBad =>
    intro t g l o s hoffer hver hrec hkind hhash
    have hkind : (ImgHeader.withPayload o g.header).kind = 1 := hkind
    have hhash : (ImgHeader.withPayload o g.header).hashOk = false := hhash
    have hruns := verificationComplete_runs (s := s.begin t) hoffer hver hrec g l
    simp [hkind, hhash] at hruns
    refine answers_of rfl ?_
    rw [settle_up, hruns]
    exact verifyFailed_ended ..
  case config =>
    intro t g l o s hoffer hver hrec hkind
    have hkind : (ImgHeader.withPayload o g.header).kind ≠ 1 := hkind
    have hruns := verificationComplete_runs (s := s.begin t) hoffer hver hrec g l
    have hstage : (s.begin t).imageStage (verifiedImage o g) = s.imageStage (verifiedImage o g) := rfl
    simp only [hkind, if_false, hstage] at hruns
    refine ⟨fun (hbad : s.imageStage (verifiedImage o g) ≠ 0) => ?_, fun (hgood : s.imageStage (verifiedImage o g) = 0) => ?_⟩
    · rw [if_pos hbad] at hruns
      refine answers_of rfl ⟨?_, ?_⟩
      · rw [settle_pg, hruns]
        exact verifyFailed_pg ..
      · rw [settle_up, hruns]
        exact verifyFailed_ended ..
    · rw [if_neg (not_not.2 hgood)] at hruns
      obtain ⟨hcfg, a, d, hdir, hstaged, harea, hother⟩ := stageConfig_staged (s.begin t) (verifiedImage o g)
      refine answers_of rfl ?_
      rw [settle_up, settle_pg, hruns]
      simp only [State.keep, State.onUpdate_up, State.onUpdate_pg, verifyAnswer_up, verifyAnswer_pg]
      exact ⟨hcfg, rfl, a, d, hdir, hstaged, harea, hother⟩
  case silentIdle =>
    intro t s hidle
    refine idles_of rfl (if_neg ?_)
    rintro ⟨hopen, hover⟩
    rcases hidle with h | h
    · exact hopen h
    · exact absurd hover (not_le.2 h)
  case silent =>
    intro t s hopen hover
    have hover : (s.begin t).up.lastFrame + sec 60 ≤ (s.begin t).now := hover
    refine does_of (f := fun s => if s.up.session ≠ 0 ∧ s.up.lastFrame + sec 60 ≤ s.now then s.onUpdate Update.endSession else s) rfl ?_
    rw [if_pos ⟨hopen, hover⟩]
    rfl

end Verification

/-! ### Cancels (21 R508, R509) -/

section Cancels

variable {s w : State} {t k : Nat} {m : Maint}

theorem FrameTaken.precedence (hw : FrameTaken s t m w) (plant : Bool) : w.precedence plant = s.precedence plant :=
  (congrArg (·.precedence plant) hw.rest :)

/-- What the source with precedence staged or scheduled is not another's to cancel (21 R508). -/
def Update.heldByOther (u : Update) (plant : Bool) (k : Nat) : Bool :=
  (u.staged k).isSome && (!((if k = 1 then u.stagedFwPlant else u.stagedCfgPlant) == plant) ||
    (match u.schedule with | some x => decide (x.kind = k) && !(x.plantSource == plant) | none => false))

theorem FrameTaken.heldByOther (hw : FrameTaken s t m w) (plant : Bool) (k : Nat) : w.up.heldByOther plant k = s.up.heldByOther plant k :=
  (congrArg (·.heldByOther plant k) hw.upKept :)

/-- A cancel of an image type: by a source without precedence it is BUSY where the other source holds the image (21 R508, R509). -/
theorem updateCancel_of_type (hk : k = 1 ∨ k = 2) : updateCancel m k w =
    if !w.precedence (!decide (m.key = 8)) && w.up.heldByOther (!decide (m.key = 8)) k then (w, stBusy, 9)
    else ((w.removeStaged k).onUpdate Update.endSession, stDone, 0) := by
  unfold updateCancel
  dsimp only
  rw [if_neg (by omega)]
  rfl

/-- What a cancel leaves: the image and its schedule are gone (21 R509). -/
theorem removeStaged_up (w : State) (k : Nat) : (w.removeStaged k).up = match w.up.staged k with
    | none => w.up
    | some h => { (if k = 1 then { w.up with stagedFw := none, stagedSlot := none, cancelFw := some h.version }
        else { w.up with stagedCfg := none, cancelCfg := some h.version } : Update) with schedule := w.up.schedule.filter fun x => !decide (x.kind = k) } := by
  unfold State.removeStaged
  cases w.up.staged k with
  | none => rfl
  | some h =>
    have hdir (u : State) : (if k = 2 then u.writeDir fun d => { d with staged := none } else u).up = u.up := by split <;> rfl
    dsimp only
    rw [State.writeUpdateItem, writeItem_up, hdir]
    rfl

theorem removeStaged_staged (w : State) (hk : k = 1 ∨ k = 2) : (w.removeStaged k).up.staged k = none := by
  rw [removeStaged_up]
  split
  next h => exact h
  next => rcases hk with rfl | rfl <;> rfl

theorem endSession_staged (u : Update) (k : Nat) : u.endSession.staged k = u.staged k := rfl

/-- A source with precedence cancels (21 R508, R509). -/
theorem answers_cancel {P : State → Prop} (htakes : s.updateTakes t m 4) (hk : k = 1 ∨ k = 2) (hprec : s.precedence (!decide (m.key = 8)) = true)
    (hP : ∀ w, FrameTaken s t m w → ∀ s', s'.up = (w.removeStaged k).up.endSession → (s'.tele m.key).client.stored.head? = some stDone → P s') :
    Answers (.updateCancel t m k) s P := by
  refine answers_update rfl htakes fun w hw s' hup hstored => ?_
  rw [updateCancel_of_type hk, hw.precedence, hprec, if_neg (by simp)] at hup hstored
  refine hP w hw s' hup ?_
  rw [hstored]
  rfl

/-- Without precedence a cancel of what the other holds is BUSY, and leaves the update state (21 R508). -/
theorem answers_cancel_refused {P : State → Prop} (htakes : s.updateTakes t m 4) (hk : k = 1 ∨ k = 2) (hprec : s.precedence (!decide (m.key = 8)) = false)
    (hheld : s.up.heldByOther (!decide (m.key = 8)) k = true) (hP : ∀ s', s'.upKept = s.upKept → (s'.tele m.key).client.stored.head? = some stBusy → P s') :
    Answers (.updateCancel t m k) s P := by
  refine answers_update rfl htakes fun w hw s' hup hstored => ?_
  rw [updateCancel_of_type hk, hw.precedence, hprec, hw.heldByOther, hheld, if_pos (by simp)] at hup hstored
  refine hP s' ?_ ?_
  · rw [State.upKept, hup, ← hw.upKept, State.upKept]
  · rw [hstored]
    rfl

theorem precedence_lost (hsw : s.pw.serviceEnable = decide (m.key ≠ 8)) : s.precedence (!decide (m.key = 8)) = false := by
  by_cases hkey : m.key = 8 <;> simp [State.precedence, hsw, hkey]

theorem precedence_held (hsw : s.pw.serviceEnable = decide (m.key = 8)) : s.precedence (!decide (m.key = 8)) = true := by
  by_cases hkey : m.key = 8 <;> simp [State.precedence, hsw, hkey]

/-- Settles O56: an offer is BUSY while a session stands or X13 has precedence, and a cancel by who has precedence and who holds the image. -/
theorem updatePrecedence : Obligations.UpdatePrecedence := by
  refine ⟨?inSession, ?precedence, ?heldImage, ?heldSchedule, ?cancelled⟩
  case inSession =>
    intro t m h s htakes hopen
    refine answers_offer_turned htakes (by decide) (fun w hw => updateOffer_in_session (by rwa [hw.session])) fun s' hkept hstored => ?_
    exact ⟨(congrArg Update.session hkept :), (congrArg Update.server hkept :), (congrArg Update.offer hkept :), (congrArg Update.offset hkept :),
      by rw [hstored]; rfl⟩
  case precedence =>
    intro t m h s htakes hkey hsw
    have hturned (reason : Nat) (hbody : ∀ w, FrameTaken s t m w → updateOffer m h w = (w, stBusy, reason)) : Answers (.updateOffer t m h) s fun s' =>
        s'.up.session = s.up.session ∧ s'.up.offer = s.up.offer ∧ (s'.tele m.key).client.stored.head? = some stBusy :=
      answers_offer_turned htakes (by decide) hbody fun s' hkept hstored =>
        ⟨(congrArg Update.session hkept :), (congrArg Update.offer hkept :), by rw [hstored]; rfl⟩
    by_cases hopen : s.up.session = 0
    · exact hturned 9 fun w hw => updateOffer_without_precedence (by rwa [hw.session]) hkey (by rwa [hw.serviceEnable])
    · exact hturned 6 fun w hw => updateOffer_in_session (by rwa [hw.session])
  case heldImage =>
    intro t m k s htakes hk hsw hstaged hother
    have hheld : s.up.heldByOther (!decide (m.key = 8)) k = true := by simp [Update.heldByOther, hstaged, hother]
    refine answers_cancel_refused htakes hk (precedence_lost hsw) hheld fun s' hkept hstored => ?_
    exact ⟨(congrArg (·.staged k) hkept :), (congrArg Update.schedule hkept :), hstored⟩
  case heldSchedule =>
    intro t m k x s htakes hk hsw hsched hkind hother
    by_cases hstaged : (s.up.staged k).isSome
    · have hheld : s.up.heldByOther (!decide (m.key = 8)) k = true := by simp [Update.heldByOther, hstaged, hsched, hkind, hother]
      refine answers_cancel_refused htakes hk (precedence_lost hsw) hheld fun s' hkept _ => ?_
      exact (congrArg Update.schedule hkept :)
    · have hfree : s.up.heldByOther (!decide (m.key = 8)) k = false := by simp [Update.heldByOther, hstaged]
      refine answers_update rfl htakes fun w hw s' hup _ => ?_
      have hnone : w.up.staged k = none := by rw [hw.staged]; simpa using hstaged
      rw [updateCancel_of_type hk, hw.heldByOther, hfree, if_neg (by simp)] at hup
      have hkept : (w.removeStaged k).up = w.up := by rw [removeStaged_up, hnone]
      rw [hup, State.onUpdate_up, hkept]
      exact hw.schedule
  case cancelled =>
    intro t m k s htakes hk hsw
    refine answers_cancel htakes hk (precedence_held hsw) fun w hw s' hup hstored => ⟨?_, hstored⟩
    rw [hup, endSession_staged, removeStaged_staged w hk]

end Cancels

end Sys2Proof.Machine

/-! The end of a trial (21 R520). -/

namespace Sys2Proof.Machine

open Sys2Proof

/-- In the recovery ROM a configuration trial that is out of time asks for no reset (19 R476; 21 R520). -/
theorem probationStartTimeout_pw_in_recovery {s : State} (hdue : s.due s.up.trialDeadline = true) (hprob : s.up.probation = none)
    (hkind : s.up.trialKind = 2) (hstate : s.pw.state = .starting) (hrec : s.pw.recovery = true) (i : StartIn) :
    (probationStartTimeout i s).pw = s.pw := by
  have hpw (u : State) (hu : u.pw = s.pw) : (u.revertDir.record .reverted 0 []).pw = s.pw := by
    rw [record_pw, State.revertDir, State.onUpdate_pw]
    split <;> exact hu
  unfold probationStartTimeout
  rw [if_pos (by simp [hdue, hprob])]
  dsimp only
  rw [if_neg (by simp [hkind]), if_pos (by simp [hkind])]
  have hreverted := hpw (s.onUpdate fun u => { u with trialDeadline := none }) rfl
  rw [requestReset_in_recovery (by rw [hreverted, hstate]) (by rw [hreverted, hrec]) (by decide), hreverted]

/-- A start in the trial of a configuration that is out of time, in the recovery ROM. -/
def trialInRecovery : State := { inRecovery with up := { State.reset.up with trialKind := 2, trialDeadline := some 0 } }

/-- Refutes O45: the clause on a configuration trial that is out of time does not exclude the recovery ROM, which only its own reset leaves. -/
theorem not_updateActivation : ¬ Obligations.UpdateActivation := by
  rintro ⟨-, -, -, -, -, -, -, -, -, -, -, -, -, -, -, -, htimeout, -⟩
  obtain ⟨-, hconfig⟩ := htimeout 0 {} 0 trialInRecovery rfl (by decide) rfl rfl
  obtain ⟨s', he, -, hlevel, -⟩ := hconfig rfl rfl
  have hrun : exec (.probationStartTimeout 0 {}) trialInRecovery = trialInRecovery.run 0 (probationStartTimeout {}) := rfl
  obtain ⟨s'', he', hkept⟩ := answers_of (P := fun s' => s'.pw.resetLevel = 0) hrun (by
    rw [settle_pw, State.keep, probationStartTimeout_pw_in_recovery rfl rfl rfl rfl rfl]
    rfl)
  cases he.symm.trans he'
  exact absurd (hlevel.symm.trans hkept) (by decide)

end Sys2Proof.Machine

/-! The event recorder: what its operations do to the open records, the tallies and the store, and its commands (22 R530 to R546; 23 R555, R559). -/

namespace Sys2Proof.Machine

open Sys2Proof

/-! ### Tallies (22 R534) -/

theorem lookup_setEv_same {α : Type} (ev : Ev) (v : α) (l : List (Ev × α)) : (setEv ev v l).lookup ev = some v := by
  induction l with
  | nil => simp [setEv]
  | cons e l ih =>
    obtain ⟨e, w⟩ := e
    by_cases h : e = ev
    · simp [setEv, h]
    · simp [setEv, h, List.lookup_cons, beq_false_of_ne (Ne.symm h), ih]

theorem lookup_setEv_other {α : Type} {ev e : Ev} (h : e ≠ ev) (v : α) (l : List (Ev × α)) : (setEv ev v l).lookup e = l.lookup e := by
  induction l with
  | nil => simp [setEv, List.lookup_cons, beq_false_of_ne h]
  | cons x l ih =>
    obtain ⟨x, w⟩ := x
    by_cases hx : x = ev
    · subst hx
      simp [setEv, List.lookup_cons, beq_false_of_ne h]
    · simp only [setEv, hx, if_false, List.lookup_cons, ih]

theorem tally_counts (s : State) (ev : Ev) : ((s.tally ev).ro.tallies.lookup ev).getD 0 = (s.ro.tallies.lookup ev).getD 0 + 1 ∧
    ∀ e, e ≠ ev → (s.tally ev).ro.tallies.lookup e = s.ro.tallies.lookup e := by
  refine ⟨?_, fun e he => lookup_setEv_other he ..⟩
  rw [State.tally, State.onRosemary_ro, lookup_setEv_same]
  rfl

/-! ### Blocks and the store (22 R535, R537 to R539) -/

theorem commit_starts (r : Rosemary) : r.commit.openBlock.records = [] ∧ r.commit.openBlock.number = wrapInc r.openBlock.number ∧
    r.commit.held.length ≤ r.ringSize ∧ (0 < r.ringSize → r.commit.held.head? = some r.openBlock) ∧ r.commit.nextSeq = r.nextSeq ∧
    r.commit.opened = r.opened := by
  refine ⟨rfl, rfl, List.length_take_le .., fun hring => ?_, rfl, rfl⟩
  obtain ⟨n, hn⟩ := Nat.exists_eq_succ_of_ne_zero hring.ne'
  simp [Rosemary.commit, hn]

/-- A record is discarded beyond the write ceiling, unless exempt (22 R535). -/
def State.discards (s : State) (er : EvRecord) : Prop :=
  65536 < s.ro.windowOctets + er.length ∧ er.ev.exempt = false ∧ er.ev ≠ .suppressionsBeforeStop

/-- A record that is discarded is tallied; the first discard after a window without one tells the octets offered (22 R535). -/
theorem enterStore_discards {s : State} {er : EvRecord} (hfault : s.ro.fault = false) (h : s.discards er) : s.enterStore er =
    ((s.tally er.ev).onRosemary fun r => { r with discardWindow := true },
      if !s.ro.discardWindow && !s.ro.ceiling then s.ro.windowOctets + er.length else 0) := by
  obtain ⟨hover, hexempt, hstop⟩ := h
  unfold State.enterStore
  dsimp only
  rw [if_neg (by simp [hfault]), if_pos (by simp [hover, hexempt, hstop])]

/-- The block that takes the next record: the open one is committed first where the record does not fit (22 R537). -/
def Rosemary.blockFor (r : Rosemary) (len : Nat) : Rosemary := if 1008 < r.openBlock.used + len then r.commit else r

/-- A record that is stored enters the open block (22 R537). -/
theorem enterStore_stores {s : State} {er : EvRecord} (hfault : s.ro.fault = false) (h : ¬ s.discards er) : ∃ since, s.enterStore er =
    ({ s with ro := { s.ro.blockFor er.length with windowOctets := (s.ro.blockFor er.length).windowOctets + er.length
                                                   openBlock := { (s.ro.blockFor er.length).openBlock with
                                                     records := (s.ro.blockFor er.length).openBlock.records ++ [er] }
                                                   openSince := since } }, 0) := by
  have hkeeps : ¬((decide (65536 < s.ro.windowOctets + er.length) && !er.ev.exempt && !decide (er.ev = .suppressionsBeforeStop)) = true) := by
    simpa [State.discards] using h
  unfold State.enterStore
  dsimp only
  rw [if_neg (by simp [hfault]), if_neg hkeeps]
  unfold Rosemary.blockFor
  split
  · exact ⟨_, rfl⟩
  · exact ⟨_, rfl⟩

/-- The figures of the store and of the sequence that a record leaves alone: spares, ring, fault and the ceiling reported. -/
def Rosemary.store (r : Rosemary) : Nat × Nat × Bool × Bool := (r.spares, r.ringSize, r.fault, r.ceiling)

/-- What entering the store leaves alone. -/
theorem enterStore_keeps (s : State) (er : EvRecord) : (s.enterStore er).1.ro.opened = s.ro.opened ∧ (s.enterStore er).1.ro.nextSeq = s.ro.nextSeq ∧
    (s.enterStore er).1.ro.store = s.ro.store ∧ (s.enterStore er).1.ro.buckets = s.ro.buckets := by
  unfold State.enterStore
  dsimp only
  split
  · exact ⟨rfl, rfl, rfl, rfl⟩
  · split
    · exact ⟨rfl, rfl, rfl, rfl⟩
    · split <;> exact ⟨rfl, rfl, rfl, rfl⟩

/-! ### Open records (22 R532 to R534) -/

@[simp] theorem publish_ro (s : State) (o : Nat) (b : List Nat) : (s.publish o b).ro = s.ro := by
  unfold State.publish; split <;> rfl

@[simp] theorem publishEvent_ro (s : State) (r : EvRecord) : (s.publishEvent r).ro = s.ro := publish_ro ..

@[simp] theorem writeItem_ro (s : State) (k : Nat) (p : List Nat) : (s.writeItem k p).ro = s.ro := by
  unfold State.writeItem
  dsimp only
  rw [State.onLearned_ro]
  split <;> rfl

theorem assignSeq_ro (s : State) : s.assignSeq.1 = s.ro.nextSeq ∧ ∃ v, s.assignSeq.2.ro = { s.ro with reservation := v, nextSeq := wrapInc s.ro.nextSeq } := by
  unfold State.assignSeq
  dsimp only
  split
  · refine ⟨rfl, (s.ro.nextSeq + 65536) % two32, ?_⟩
    rw [State.onRosemary_ro, State.writeReservation, writeItem_ro, State.onRosemary_ro]
  · exact ⟨rfl, s.ro.reservation, rfl⟩

/-- A record closed leaves the open ones (22 R533). -/
theorem closeRecord_keeps (s : State) (er : EvRecord) :
    (s.closeRecord er).1.ro.opened = s.ro.opened.filter (fun x => !decide (x.ev = er.ev ∧ x.subject = er.subject)) ∧
    (s.closeRecord er).1.ro.nextSeq = s.ro.nextSeq ∧ (s.closeRecord er).1.ro.store = s.ro.store ∧ (s.closeRecord er).1.ro.buckets = s.ro.buckets := by
  have hpub (u : State) (b : Prop) [Decidable b] (r : EvRecord) : (if b then u else u.publishEvent r).ro = u.ro := by
    split
    · rfl
    · exact publishEvent_ro ..
  unfold State.closeRecord
  dsimp only
  obtain ⟨hopened, hseq, hstore, hbuckets⟩ := enterStore_keeps (if er.repeats = 0 then
    s.onRosemary fun r => { r with opened := r.opened.filter fun x => !decide (x.ev = er.ev ∧ x.subject = er.subject) }
    else (s.onRosemary fun r => { r with opened := r.opened.filter fun x => !decide (x.ev = er.ev ∧ x.subject = er.subject) }).publishEvent
      { er with flags := er.flags ||| 4 }) { er with flags := er.flags ||| 4 }
  rw [hopened, hseq, hstore, hbuckets, hpub]
  exact ⟨rfl, rfl, rfl, rfl⟩

/-- The room for one more open record: a 65th closes the oldest (22 R533). -/
def State.roomMade (s : State) : State × Nat :=
  match s.ro.opened with
  | r :: _ => if 64 ≤ s.ro.opened.length then s.closeRecord r else (s, 0)
  | [] => (s, 0)

theorem roomMade_of_room {s : State} (h : s.ro.opened.length < 64) : s.roomMade = (s, 0) := by
  unfold State.roomMade
  split
  · rw [if_neg (by omega)]
  · rfl

/-- Making room only closes records. -/
theorem roomMade_keeps (s : State) : s.roomMade.1.ro.opened ⊆ s.ro.opened ∧ s.roomMade.1.ro.nextSeq = s.ro.nextSeq ∧ s.roomMade.1.ro.store = s.ro.store := by
  unfold State.roomMade
  split
  · split
    · rename_i r l hl hfull
      obtain ⟨hopened, hseq, hstore, -⟩ := closeRecord_keeps s r
      rw [hopened]
      exact ⟨List.filter_subset_self _, hseq, hstore⟩
    · exact ⟨List.Subset.refl _, rfl, rfl⟩
  · exact ⟨List.Subset.refl _, rfl, rfl⟩

/-- A record as it opens, with its captures (05 R132; 22 R530 to R534). -/
def State.opening (s : State) (ev : Ev) (subject : Nat) (data : List Nat) : EvRecord :=
  { ev := ev, seq := s.ro.nextSeq, time := s.th.reading, timeState := s.timeByte,
    flags := bitsOf [decide (s.cfg.twin.position = 1), s.leads], opTime := s.opTime, cycles := s.pw.powerCycles,
    sweep := s.sweepNo, suppressed := min 65535 ((s.ro.tallies.lookup ev).getD 0), subject := subject, data := data,
    firstAt := s.now, lastAt := s.now, capture := s.sweepRecord
    wave := if ev.code / 256 = 6 then s.acq.ring.take 1 else [] }

/-- Opening a record adds it to the open ones under the next sequence, and takes its event's tally (22 R532 to R534). -/
theorem openRecord_opens (s : State) (ev : Ev) (subject : Nat) (data : List Nat) : (s.openRecord ev subject data).2 = s.roomMade.2 ∧
    ∃ v, (s.openRecord ev subject data).1.ro = { s.roomMade.1.ro with
      reservation := v
      nextSeq := wrapInc s.ro.nextSeq
      opened := s.roomMade.1.ro.opened ++ [s.opening ev subject data]
      tallies := s.roomMade.1.ro.tallies.filter fun e => !decide (e.1 = ev) } := by
  obtain ⟨hn, v, hv⟩ := assignSeq_ro s.roomMade.1
  obtain ⟨-, hseq, -⟩ := roomMade_keeps s
  have hdef : s.openRecord ev subject data = ((s.roomMade.1.assignSeq.2.onRosemary fun r => { r with
      opened := r.opened ++ [{ s.opening ev subject data with seq := s.roomMade.1.assignSeq.1 }]
      tallies := r.tallies.filter fun e => !decide (e.1 = ev) }).publishEvent { s.opening ev subject data with seq := s.roomMade.1.assignSeq.1 },
      s.roomMade.2) := rfl
  rw [hdef, hn, hseq]
  refine ⟨rfl, v, ?_⟩
  rw [publishEvent_ro, State.onRosemary_ro, hv, hseq]
  rfl

theorem openAndReport_of_room {s : State} (h : s.ro.opened.length < 64) (ev : Ev) (subject : Nat) (data : List Nat) :
    s.openAndReport ev subject data = (s.openRecord ev subject data).1 := by
  have hzero : (s.openRecord ev subject data).2 = 0 := by rw [(openRecord_opens ..).1, roomMade_of_room h]
  unfold State.openAndReport
  split
  next heq => rw [heq]
  next hne heq => rw [heq] at hzero; exact absurd hzero hne

/-! ### Occurrences (22 R533, R534) -/

/-- The open record of an event and subject. -/
def Rosemary.openOf (r : Rosemary) (ev : Ev) (n : Nat) : Option EvRecord := r.opened.find? fun r => decide (r.ev = ev ∧ r.subject = n)

theorem openOf_key {r : Rosemary} {ev : Ev} {n : Nat} {x : EvRecord} (h : r.openOf ev n = some x) : x.ev = ev ∧ x.subject = n := by
  simpa using List.find?_some h

section Occurrences

variable {s : State} {ev : Ev} {n : Nat} {d : List Nat} {r : EvRecord}

theorem occur_repeats (h : s.ro.openOf ev n = some r) (hfew : r.repeats + 1 < 65535) : s.occur ev n d = s.replaceOpen (s.repeated r) := by
  have hfew : ¬ 65535 ≤ (s.repeated r).repeats := not_le.2 hfew
  unfold Rosemary.openOf at h
  unfold State.occur
  rw [h]
  dsimp only
  rw [if_neg hfew]

theorem occur_suppressed (h : s.ro.openOf ev n = none) (hexempt : ev.exempt = false) (hempty : s.evTokens ev < 1) : s.occur ev n d = s.tally ev := by
  unfold Rosemary.openOf at h
  unfold State.occur
  rw [h]
  dsimp only
  rw [if_neg (by simp [hexempt]), if_neg (not_le.2 hempty)]

/-- Without an open record an event opens one, with a token of its bucket unless it is exempt. -/
theorem occur_opens (h : s.ro.openOf ev n = none) (hroom : s.ro.opened.length < 64) (hmay : ev.exempt = true ∨ 1 ≤ s.evTokens ev) :
    s.occur ev n d = ((if ev.exempt then s else s.spendToken ev).openRecord ev n d).1 := by
  unfold Rosemary.openOf at h
  unfold State.occur
  rw [h]
  dsimp only
  cases hexempt : ev.exempt
  · have htoken : 1 ≤ s.evTokens ev := hmay.resolve_left (by simp [hexempt])
    rw [if_neg (by decide), if_pos htoken, if_neg (by decide)]
    exact openAndReport_of_room (s := s.spendToken ev) hroom ..
  · rw [if_pos rfl, if_pos rfl]
    exact openAndReport_of_room hroom ..

theorem record_published (hpub : s.publishes = true) : s.record ev n d = (s.closeOld ev n).occur ev n d := by
  unfold State.record
  rw [hpub]
  rfl

theorem closeOld_of_open (h : s.ro.openOf ev n = some r) : s.closeOld ev n = if r.lastAt + sec 1 ≤ s.now then s.closeAndReport r else s := by
  unfold Rosemary.openOf at h
  unfold State.closeOld
  rw [h]

end Occurrences

/-! ### The write ceiling (22 R535) -/

/-- Where no record 0x0D03 is open and its bucket has a token, the ceiling opens one with the octets offered (22 R535). -/
theorem ceilingReached_opens {s : State} (hnone : ∀ x, x ∈ s.ro.opened → x.ev ≠ .writeCeiling) (htoken : 1 ≤ s.evTokens .writeCeiling) (n : Nat) :
    ∃ r, r ∈ (s.ceilingReached n).ro.opened ∧ r.ev = .writeCeiling ∧ r.subject = 0 ∧ r.data = octetsOf 4 n := by
  have hfind : (s.ro.opened.find? fun r => decide (r.ev = .writeCeiling ∧ r.subject = 0)) = none := by
    rw [List.find?_eq_none]
    intro x hx
    simp [hnone x hx]
  obtain ⟨-, v, hv⟩ := openRecord_opens (s.spendToken .writeCeiling) .writeCeiling 0 (octetsOf 4 n)
  refine ⟨(s.spendToken .writeCeiling).opening .writeCeiling 0 (octetsOf 4 n), ?_, rfl, rfl, rfl⟩
  unfold State.ceilingReached
  rw [hfind]
  dsimp only
  rw [if_pos htoken, hv]
  exact List.mem_append_right _ (List.mem_singleton.2 rfl)

/-- The first discard after a window without one opens record 0x0D03 (22 R535). -/
theorem closeAndReport_first_discard {s : State} {er : EvRecord} (hfault : s.ro.fault = false) (hdiscards : s.discards er)
    (hwindow : s.ro.discardWindow = false) (hceiling : s.ro.ceiling = false) (hnone : ∀ x, x ∈ s.ro.opened → x.ev ≠ .writeCeiling)
    (htoken : 1 ≤ s.evTokens .writeCeiling) :
    ∃ r, r ∈ (s.closeAndReport er).ro.opened ∧ r.ev = .writeCeiling ∧ r.subject = 0 ∧ r.data = octetsOf 4 (s.ro.windowOctets + er.length) := by
  generalize hu : (if er.repeats = 0 then
      s.onRosemary fun r => { r with opened := r.opened.filter fun x => !decide (x.ev = er.ev ∧ x.subject = er.subject) }
    else (s.onRosemary fun r => { r with opened := r.opened.filter fun x => !decide (x.ev = er.ev ∧ x.subject = er.subject) }).publishEvent
      { er with flags := er.flags ||| 4 }) = u
  have hro : u.ro = { s.ro with opened := s.ro.opened.filter fun x => !decide (x.ev = er.ev ∧ x.subject = er.subject) } := by
    rw [← hu]
    split
    · rfl
    · rw [publishEvent_ro]
      rfl
  have hquiet : u.quiet = s.quiet := by
    rw [← hu]
    split <;> simp
  have htokens : u.evTokens .writeCeiling = s.evTokens .writeCeiling := by
    have hcfg : u.cfg = s.cfg := (congrArg State.cfg hquiet :)
    have hnow : u.now = s.now := (congrArg State.now hquiet :)
    unfold State.evTokens State.bucketOf
    rw [hcfg, hnow, hro]
  have hclose : s.closeRecord er = ((u.tally er.ev).onRosemary fun r => { r with discardWindow := true }, s.ro.windowOctets + er.length) := by
    have hstore := enterStore_discards (s := u) (er := { er with flags := er.flags ||| 4 }) (by rw [hro, hfault]) (by rw [State.discards, hro]; exact hdiscards)
    rw [hro, hwindow, hceiling] at hstore
    unfold State.closeRecord
    dsimp only
    rw [hu, hstore]
    rfl
  have hpos : s.ro.windowOctets + er.length ≠ 0 := by have := hdiscards.1; omega
  have hreport : s.closeAndReport er = State.ceilingReached ((u.tally er.ev).onRosemary fun r => { r with discardWindow := true })
      (s.ro.windowOctets + er.length) := by
    unfold State.closeAndReport
    rw [hclose]
    split
    next heq => simp only [Prod.mk.injEq] at heq; exact absurd heq.2 hpos
    next heq => simp only [Prod.mk.injEq] at heq; rw [heq.1, heq.2]
  rw [hreport]
  refine ceilingReached_opens (fun x hx => hnone x ?_) (htokens ▸ htoken) _
  have hx : x ∈ u.ro.opened := hx
  rw [hro] at hx
  exact List.mem_of_mem_filter hx

/-- Settles O46: an occurrence by whether its record is open, a closing by whether the store takes it, and a commit by the blocks it leaves. -/
theorem recorderRules : Obligations.RecorderRules := by
  refine ⟨⟨rfl, rfl, rfl, rfl⟩, ?repeats, ?opens, ?suppressed, ?outside, ?young, ?old, ?stored, ?discarded, commit_starts⟩
  case repeats =>
    intro s ev n d r hopen hfew
    obtain ⟨hev, hsub⟩ := openOf_key hopen
    rw [occur_repeats hopen hfew]
    refine ⟨rfl, rfl, rfl, rfl, ?_⟩
    rw [← hev, ← hsub]
    rfl
  case opens =>
    intro s ev n d hnone hroom hmay
    have hopening : (if ev.exempt then s else s.spendToken ev).opening ev n d = s.opening ev n d := by split <;> rfl
    obtain ⟨-, v, hv⟩ := openRecord_opens (if ev.exempt then s else s.spendToken ev) ev n d
    have hroom' : (if ev.exempt then s else s.spendToken ev).ro.opened.length < 64 := by split <;> exact hroom
    rw [roomMade_of_room hroom', hopening] at hv
    rw [occur_opens hnone hroom hmay]
    dsimp only
    rw [hv]
    refine ⟨?_, ?_, ?_, s.opening ev n d, ?_, rfl, rfl, rfl, rfl, rfl, rfl, rfl, rfl, rfl, rfl, rfl⟩ <;> dsimp only <;> split <;> rfl
  case suppressed =>
    intro s ev n d hnone hexempt hempty
    rw [occur_suppressed hnone hexempt hempty]
    obtain ⟨hsame, hother⟩ := tally_counts s ev
    exact ⟨rfl, rfl, hsame, rfl, hother⟩
  case outside =>
    intro s ev n d
    refine ⟨record_bare .., fun hpub => ?_⟩
    unfold State.record
    rw [hpub]
    rfl
  case young =>
    intro s ev n d r hpub hopen hyoung
    rw [record_published hpub, closeOld_of_open hopen, if_neg (not_le.2 hyoung)]
  case old =>
    intro s ev n d r hpub hopen hold
    rw [record_published hpub, closeOld_of_open hopen, if_pos hold]
  case stored =>
    intro s er hfault hmay
    have hkeeps : ¬ s.discards er := by
      rintro ⟨hover, hexempt, hstop⟩
      rcases hmay with h | h | h
      · omega
      · exact absurd (hexempt.symm.trans h) (by decide)
      · exact hstop h
    obtain ⟨since, hstore⟩ := enterStore_stores hfault hkeeps
    rw [hstore]
    dsimp only
    unfold Rosemary.blockFor
    refine ⟨?_, rfl, List.mem_append_right _ (List.mem_singleton.2 rfl), ?_, ?_, fun hfits => ?_, fun hfull => ?_⟩
    · split <;> rfl
    · split <;> rfl
    · split <;> rfl
    · rw [if_neg (not_lt.2 hfits)]
      exact ⟨rfl, rfl⟩
    · rw [if_pos hfull]
      exact ⟨rfl, rfl⟩
  case discarded =>
    intro s er hfault hover hexempt hstop
    rw [enterStore_discards hfault ⟨hover, hexempt, hstop⟩]
    exact ⟨rfl, rfl, rfl, rfl, (tally_counts s er.ev).1,
      fun hwindow hceiling hnone htoken => closeAndReport_first_discard hfault ⟨hover, hexempt, hstop⟩ hwindow hceiling hnone htoken⟩

/-! ### Monitors (22 R543, R546) -/

/-- A monitor's sample is the first above its limit in the window. -/
def State.firstAbove (s : State) (n : Nat) (v : Int) : Prop :=
  (s.monCfg n).limit ≠ 0 ∧ (s.monCfg n).limit < v ∧ (s.dl.windows.get n {}).exceeded = false

/-- What a sample does to the figures of its monitor (22 R543). -/
theorem sample_figures (s : State) (n : Nat) (v : Int) : ∃ u : State, u = { s with dl := u.dl } ∧
    (s.firstAbove n v → s.sample n v = u.record .monitorLimit n (octetsOf 4 (wrapInt 4 v)) ∧ (u.dl.windows.get n {}).exceeded = true) ∧
    (¬ s.firstAbove n v → s.sample n v = u ∧ (u.dl.windows.get n {}).exceeded = (s.dl.windows.get n {}).exceeded) ∧
    (u.dl.windows.get n {}).count = satInc 32 (s.dl.windows.get n {}).count ∧
    (u.dl.cumulative.get n {}).count = satInc 32 (s.dl.cumulative.get n {}).count := by
  have habove : (decide ((s.monCfg n).limit ≠ 0 ∧ (s.monCfg n).limit < v) && !(s.dl.windows.get n {}).exceeded) = true ↔ s.firstAbove n v := by
    simp [State.firstAbove, and_assoc]
  unfold State.sample
  dsimp only
  refine ⟨_, ?_, fun h => ⟨if_pos (habove.2 h), ?_⟩, fun h => ⟨if_neg (mt habove.1 h), ?_⟩, ?_, ?_⟩
  · rfl
  · rw [State.onDill_dl, Table.get_upd_same]
    exact Bool.or_eq_true_iff.2 (.inr (habove.2 h))
  · rw [State.onDill_dl, Table.get_upd_same]
    dsimp only
    rw [Bool.eq_false_iff.2 (mt habove.1 h), Bool.or_false]
  · rw [State.onDill_dl, Table.get_upd_same]
    rfl
  · rw [State.onDill_dl, Table.get_upd_same]
    rfl

/-- A sample is kept in the figures of its monitor, and the first above a limit is recorded besides (22 R546). -/
theorem sample_bare (s : State) (n : Nat) (v : Int) : { (s.sample n v).bare with dl := {} } = { s.bare with dl := {} } := by
  obtain ⟨u, hu, hfirst, helse, -⟩ := sample_figures s n v
  have hbare : { u.bare with dl := {} } = { s.bare with dl := {} } := by rw [hu]; rfl
  by_cases h : s.firstAbove n v
  · rw [(hfirst h).1, record_bare, hbare]
  · rw [(helse h).1, hbare]

theorem windows_bare (s : State) (f : Table MonSet → Table MonSet) :
    (s.onDill fun d => { d with windows := f d.windows }).bare = { s.bare with dl := { s.dl with windows := f s.dl.windows } } := rfl

theorem begin_monCfg (s : State) (t n : Nat) : (s.begin t).monCfg n = s.monCfg n := by
  unfold State.monCfg
  rw [begin_cfg]

/-- What a window end of monitor `n` does in its turn (22 R543, R545). -/
def State.windowEnds (s : State) (n : Nat) : State :=
  let oid := 0x0C001000 + n
  let s1 := s.publish oid (s.monitorRecord n 0 (s.dl.windows.get n {}))
  let s2 := s1.publish oid (s1.monitorRecord n 1 (s1.dl.cumulative.get n {}))
  s2.onDill fun d => { d with windows := d.windows.put n {} { start := s.sweepNo } }

/-- Beside what it publishes, a window end begins the monitor's window anew. -/
theorem windowEnds_bare (s : State) (n : Nat) : (s.windowEnds n).bare =
    { s.bare with dl := { s.dl with windows := s.dl.windows.put n {} { start := s.sweepNo } } } := by
  unfold State.windowEnds
  dsimp only
  rw [windows_bare _ fun w => w.put n {} { start := s.sweepNo }, publish_bare, publish_bare, publish_dl, publish_dl]

/-- A window end, by its instant. -/
def windowEnd (n : Nat) (s : State) : State :=
  if s.powered && s.atWindow (max 1 (s.monCfg n).window) then s.turn (0x30 + n) (sec 1) fun s => s.windowEnds n else s

theorem exec_monitorWindowEnd (t : Nat) (k : Fin 15) (s : State) : exec (.monitorWindowEnd t k) s = s.run t (windowEnd (k.val + 1)) := rfl

theorem does_monitorWindowEnd {t : Nat} {k : Fin 15} {s : State} (hpow : s.powered = true)
    (hwindow : (s.begin t).atWindow (max 1 (s.monCfg (k.val + 1)).window) = true) (hturn : (s.begin t).turnOpen (0x30 + (k.val + 1)) (sec 1) 0 = true) :
    Does (.monitorWindowEnd t k) s { s with dl := { s.dl with windows := s.dl.windows.put (k.val + 1) {} { start := (s.begin t).sweepNo } } } := by
  have hpow : (s.begin t).powered = true := hpow
  rw [← begin_monCfg s t] at hwindow
  refine does_of (exec_monitorWindowEnd ..) ?_
  unfold windowEnd
  rw [if_pos (by simp [hpow, hwindow]), turn_open hturn, windowEnds_bare, turnTaken_sweepNo, turnTaken_bare]
  generalize ({ start := (s.begin t).sweepNo } : MonSet) = m
  rfl

/-- Settles O47: a sample by whether it is the first above its limit, and a window end by the window it begins. -/
theorem monitorLimit : Obligations.MonitorLimit := by
  refine ⟨rfl, ?first, ?further, sample_bare, ?window⟩
  case first =>
    intro s n v hlimit habove hfresh
    obtain ⟨u, hu, hfirst, -⟩ := sample_figures s n v
    obtain ⟨hrec, hexceeded⟩ := hfirst ⟨hlimit, habove, hfresh⟩
    exact ⟨u, hu, hrec, by rwa [hrec, record_dl]⟩
  case further =>
    intro s n v hnot
    obtain ⟨u, hu, -, helse, -⟩ := sample_figures s n v
    obtain ⟨hsame, hkept⟩ := helse (by
      rintro ⟨hlimit, habove, hfresh⟩
      rcases hnot with h | h | h
      · exact hlimit h
      · omega
      · exact absurd (hfresh.symm.trans h) (by decide))
    rw [hsame]
    exact ⟨hu, hkept⟩
  case window =>
    intro t k s hpow hwindow hturn
    obtain ⟨s', he, hbare⟩ := does_monitorWindowEnd hpow hwindow hturn
    refine ⟨s', he, ?_⟩
    have hdl : s'.dl.windows = s.dl.windows.put (k.val + 1) {} { start := (s.begin t).sweepNo } := (congrArg (fun u : State => u.dl.windows) hbare :)
    show (s'.dl.windows.get (k.val + 1) {}).exceeded = false
    rw [hdl, Table.get_put_same]

/-! ### What a record and the settled state leave of the recorder -/

/-- A property of the recorder at a time that reads the open records and the store's figures, and that a closing, an opening and a repeat at that
time keep. -/
structure RecorderKeeps (Q : Rosemary → Nat → Prop) : Prop where
  same : ∀ {r r' : Rosemary} {now : Nat}, r'.opened = r.opened → r'.store = r.store → Q r now → Q r' now
  closes : ∀ {r : Rosemary} {now : Nat} (p : EvRecord → Bool), Q r now → Q { r with opened := r.opened.filter p } now
  opens : ∀ {r : Rosemary} {now : Nat} {x : EvRecord}, x.lastAt = now → Q r now → Q { r with opened := r.opened ++ [x] } now
  repeats : ∀ {r : Rosemary} {now : Nat} {x : EvRecord}, x.lastAt = now → Q r now →
    Q { r with opened := r.opened.map fun y => if y.ev = x.ev ∧ y.subject = x.subject then x else y } now

section Keeping

variable {Q : Rosemary → Nat → Prop} (hQ : RecorderKeeps Q) {s : State}
include hQ

theorem closeRecord_recorder (h : Q s.ro s.now) (r : EvRecord) : Q (s.closeRecord r).1.ro s.now := by
  obtain ⟨hopened, -, hstore, -⟩ := closeRecord_keeps s r
  refine hQ.same ?_ ?_ (hQ.closes (fun x => !decide (x.ev = r.ev ∧ x.subject = r.subject)) h)
  · exact hopened
  · exact hstore

theorem roomMade_recorder (h : Q s.ro s.now) : Q s.roomMade.1.ro s.now := by
  unfold State.roomMade
  split
  · split
    · exact closeRecord_recorder hQ h _
    · exact h
  · exact h

theorem openRecord_recorder (h : Q s.ro s.now) (e : Ev) (n : Nat) (d : List Nat) : Q (s.openRecord e n d).1.ro s.now := by
  obtain ⟨-, v, hv⟩ := openRecord_opens s e n d
  rw [hv]
  refine hQ.same ?_ ?_ (hQ.opens (x := s.opening e n d) rfl (roomMade_recorder hQ h))
  · rfl
  · rfl

theorem replaceOpen_recorder (h : Q s.ro s.now) (r : EvRecord) : Q (s.replaceOpen (s.repeated r)).ro s.now :=
  hQ.repeats (x := s.repeated r) rfl h

theorem tally_recorder (h : Q s.ro s.now) (e : Ev) : Q (s.tally e).ro s.now := by
  refine hQ.same ?_ ?_ h <;> rfl

theorem spendToken_recorder (h : Q s.ro s.now) (e : Ev) : Q (s.spendToken e).ro s.now := by
  refine hQ.same ?_ ?_ h <;> rfl

theorem ceilingReached_recorder (h : Q s.ro s.now) (n : Nat) : Q (s.ceilingReached n).ro s.now := by
  unfold State.ceilingReached
  split
  · exact replaceOpen_recorder hQ h _
  · split
    · exact openRecord_recorder (s := s.spendToken .writeCeiling) hQ (spendToken_recorder hQ h _) ..
    · exact tally_recorder hQ h _

theorem closeAndReport_of_closed {r : EvRecord} (h : Q (s.closeRecord r).1.ro s.now) : Q (s.closeAndReport r).ro s.now := by
  have hnow : (s.closeRecord r).1.now = s.now := (congrArg State.now (closeRecord_quiet s r) :)
  unfold State.closeAndReport
  split
  next hres => rwa [hres] at h
  next hres =>
    rw [hres] at h hnow
    dsimp only at h hnow
    rw [← hnow] at h ⊢
    exact ceilingReached_recorder hQ h _

theorem closeAndReport_recorder (h : Q s.ro s.now) (r : EvRecord) : Q (s.closeAndReport r).ro s.now :=
  closeAndReport_of_closed hQ (closeRecord_recorder hQ h r)

theorem openAndReport_recorder (h : Q s.ro s.now) (e : Ev) (n : Nat) (d : List Nat) : Q (s.openAndReport e n d).ro s.now := by
  have hopened := openRecord_recorder hQ h e n d
  have hnow : (s.openRecord e n d).1.now = s.now := (congrArg State.now (openRecord_quiet s e n d) :)
  unfold State.openAndReport
  split
  next hres => rwa [hres] at hopened
  next hres =>
    rw [hres] at hopened hnow
    dsimp only at hopened hnow
    rw [← hnow] at hopened ⊢
    exact ceilingReached_recorder hQ hopened _

theorem closeOld_recorder (h : Q s.ro s.now) (e : Ev) (n : Nat) : Q (s.closeOld e n).ro s.now := by
  unfold State.closeOld
  split
  · split
    · exact closeAndReport_recorder hQ h _
    · exact h
  · exact h

theorem occur_recorder (h : Q s.ro s.now) (e : Ev) (n : Nat) (d : List Nat) : Q (s.occur e n d).ro s.now := by
  unfold State.occur
  split
  · rename_i r _
    have hrep := replaceOpen_recorder hQ h r
    dsimp only
    split
    · exact closeAndReport_recorder (s := s.replaceOpen (s.repeated r)) hQ hrep _
    · exact hrep
  · split
    · exact openAndReport_recorder hQ h ..
    · split
      · exact openAndReport_recorder (s := s.spendToken e) hQ (spendToken_recorder hQ h e) ..
      · exact tally_recorder hQ h e

theorem record_recorder (h : Q s.ro s.now) (e : Ev) (n : Nat) (d : List Nat) : Q (s.record e n d).ro s.now := by
  have hnow : (s.closeOld e n).now = s.now := (congrArg State.now (closeOld_quiet s e n) :)
  have hclosed := closeOld_recorder hQ h e n
  unfold State.record
  split
  · exact h
  · rw [← hnow] at hclosed ⊢
    exact occur_recorder hQ hclosed ..

theorem record_keeps (h : Q s.ro s.now) (e : Ev) (n : Nat) (d : List Nat) : Q (s.record e n d).ro (s.record e n d).now := by
  rw [record_now]
  exact record_recorder hQ h e n d

theorem settleTwin_recorder (h : Q s.ro s.now) : Q s.settleTwin.ro s.settleTwin.now := by
  unfold State.settleTwin
  dsimp only
  split
  · split
    · exact h
    · refine record_keeps hQ ?_ ..
      exact h
  · exact h

theorem interruptTest_recorder (h : Q s.ro s.now) (o : Nat) : Q (s.interruptTest o).ro (s.interruptTest o).now := by
  unfold State.interruptTest
  dsimp only
  split
  · exact h
  · refine record_keeps hQ ?_ ..
    exact h

theorem settleOut_recorder (h : Q s.ro s.now) (o : Nat) : Q (s.settleOut o).ro (s.settleOut o).now := by
  have htest := interruptTest_recorder hQ h o
  unfold State.settleOut
  dsimp only
  split
  · exact h
  · exact htest

end Keeping

theorem settleTwin_now (s : State) : s.settleTwin.now = s.now := by
  unfold State.settleTwin
  dsimp only
  split
  · split
    · rfl
    · rw [record_now]; rfl
  · rfl

theorem settleOut_now (s : State) (o : Nat) : (s.settleOut o).now = s.now := (congrArg State.now (settleOut_outless s o) :)

@[simp] theorem goosePublish_ro (s : State) : s.goosePublish.ro = s.ro := by
  have hchange (v : State) (k : Nat) : (v.gooseChange k).ro = v.ro := by
    unfold State.gooseChange; dsimp only; split <;> rfl
  unfold State.goosePublish
  split
  · rw [hchange, hchange, hchange]
  · rfl

@[simp] theorem pubIf_ro (s : State) (b : Bool) (o : Nat) (f : State → List Nat) : (s.pubIf b o f).ro = s.ro := by
  unfold State.pubIf; split <;> simp

@[simp] theorem pubChanges_ro (old s : State) : (old.pubChanges s).ro = s.ro := by
  unfold State.pubChanges; simp only [pubIf_ro]

@[simp] theorem settlePorts_ro (s : State) : s.settlePorts.ro = s.ro := by
  unfold State.settlePorts
  refine (foldl_keeps State.ro (fun s e => foldl_keeps State.ro (fun s p => ?_) _ s) _ _).trans rfl
  split <;> rfl

/-- The steps of settling that leave the recorder and the time. -/
theorem settleRest_recorder (old s : State) : ((s.settleCan.settleHolds.settleCandidate.settleShadow old).settleStop).ro = s.ro ∧
    ((s.settleCan.settleHolds.settleCandidate.settleShadow old).settleStop).now = s.now := by
  have hcan (u : State) : u.settleCan.ro = u.ro ∧ u.settleCan.now = u.now := by
    unfold State.settleCan; dsimp only; (repeat' split) <;> exact ⟨rfl, rfl⟩
  have hholds (u : State) : u.settleHolds.ro = u.ro ∧ u.settleHolds.now = u.now := by
    unfold State.settleHolds; dsimp only; split <;> exact ⟨rfl, rfl⟩
  have hcandidate (u : State) : u.settleCandidate.ro = u.ro ∧ u.settleCandidate.now = u.now := by
    unfold State.settleCandidate; dsimp only; split <;> exact ⟨rfl, rfl⟩
  have hshadow (u : State) : (u.settleShadow old).ro = u.ro ∧ (u.settleShadow old).now = u.now := by
    unfold State.settleShadow; dsimp only; split
    · split <;> exact ⟨rfl, rfl⟩
    · exact ⟨rfl, rfl⟩
  have hstop (u : State) : u.settleStop.ro = u.ro ∧ u.settleStop.now = u.now := ⟨rfl, rfl⟩
  rw [(hstop _).1, (hstop _).2, (hshadow _).1, (hshadow _).2, (hcandidate _).1, (hcandidate _).2, (hholds _).1, (hholds _).2]
  exact hcan s

/-- What settling does before it publishes. -/
def State.settleUnpublished (old s : State) : State :=
  let s := if s.ro.wrapped && !old.ro.wrapped then s.record .storeWrapped 0 [] else s
  (((s.settleTwin.settleCan.settleHolds.settleCandidate.settleShadow old).settleStop).settleOut 1).settleOut 2

theorem settle_ro (old s : State) : (old.settle s).ro = (old.settleUnpublished s).ro := by
  have hsettle : old.settle s = (old.pubChanges (old.settleUnpublished s).goosePublish).settlePorts := rfl
  rw [hsettle, settlePorts_ro, pubChanges_ro, goosePublish_ro]

theorem settleUnpublished_now (old s : State) : (old.settleUnpublished s).now = s.now := by
  unfold State.settleUnpublished
  dsimp only
  rw [settleOut_now, settleOut_now, (settleRest_recorder old _).2, settleTwin_now]
  split
  · exact record_now ..
  · rfl

/-- What follows every command records at most, and keeps what records keep. -/
theorem settle_recorder {Q : Rosemary → Nat → Prop} (hQ : RecorderKeeps Q) {s : State} (h : Q s.ro s.now) (old : State) : Q (old.settle s).ro s.now := by
  have hwrapped : Q (if s.ro.wrapped && !old.ro.wrapped then s.record .storeWrapped 0 [] else s).ro
      (if s.ro.wrapped && !old.ro.wrapped then s.record .storeWrapped 0 [] else s).now := by
    split
    · exact record_keeps hQ h ..
    · exact h
  have htwin := settleTwin_recorder hQ hwrapped
  obtain ⟨hro, hnow⟩ := settleRest_recorder old (if s.ro.wrapped && !old.ro.wrapped then s.record .storeWrapped 0 [] else s).settleTwin
  rw [← hro, ← hnow] at htwin
  have houts : Q (old.settleUnpublished s).ro (old.settleUnpublished s).now := settleOut_recorder hQ (settleOut_recorder hQ htwin 1) 2
  rw [settle_ro]
  rwa [settleUnpublished_now] at houts

/-- No record touches the figures of the store. -/
theorem recorderKeeps_store (x : Nat × Nat × Bool × Bool) : RecorderKeeps fun r _ => r.store = x :=
  ⟨fun _ hstore h => hstore.trans h, fun _ h => h, fun _ h => h, fun _ h => h⟩

theorem settled_store (old s : State) : (old.settle s).ro.store = s.ro.store := settle_recorder (recorderKeeps_store _) rfl old

/-- The records of an event and subject that are open occurred last at this time. -/
def Rosemary.OpenNow (ev : Ev) (n : Nat) (r : Rosemary) (now : Nat) : Prop := ∀ x, x ∈ r.opened → x.ev = ev → x.subject = n → x.lastAt = now

theorem recorderKeeps_openNow (ev : Ev) (n : Nat) : RecorderKeeps (Rosemary.OpenNow ev n) where
  same hopened _ h x hx := h x (hopened ▸ hx)
  closes _ h x hx := h x (List.mem_of_mem_filter hx)
  opens hnow h x hx hev hsub := by
    rcases List.mem_append.1 hx with hx | hx
    · exact h x hx hev hsub
    · rw [List.mem_singleton.1 hx, hnow]
  repeats hnow h x hx hev hsub := by
    obtain ⟨y, hy, rfl⟩ := List.mem_map.1 hx
    split
    · exact hnow
    · rename_i hne
      rw [if_neg hne] at hev hsub
      exact h y hy hev hsub

/-! ### The commands of the recorder (22 R533, R538, R539, R543) -/

theorem settled_openNow {u : State} {ev : Ev} {n : Nat} (old : State) (h : u.ro.OpenNow ev n u.now) : (old.settle u).ro.OpenNow ev n u.now :=
  settle_recorder (recorderKeeps_openNow ev n) h old

/-- A record that closes leaves none of its event and subject but what occurs now. -/
theorem closeAndReport_openNow (s : State) (r : EvRecord) : (s.closeAndReport r).ro.OpenNow r.ev r.subject s.now := by
  refine closeAndReport_of_closed (recorderKeeps_openNow r.ev r.subject) fun x hx hev hsub => ?_
  rw [(closeRecord_keeps s r).1] at hx
  obtain ⟨-, hne⟩ := List.mem_filter.1 hx
  simp [hev, hsub] at hne

/-- A commit of the open block, where it is due (22 R538, R539). -/
def blockCommit (good : Bool) (e b : Nat) (s : State) : State :=
  if s.blockDue then
    let s1 := if good then s else s.retire e b
    if s1.ro.fault then s1 else s1.onRosemary Rosemary.commit
  else s

theorem exec_eventBlockCommit (t : Nat) (good : Bool) (e b : Nat) (s : State) :
    exec (.eventBlockCommit t good e b) s = s.run t (blockCommit good e b) := rfl

theorem blockDue_sound {s : State} (h : s.blockDue = true) : s.ro.fault = false := by
  unfold State.blockDue at h
  cases hf : s.ro.fault
  · rfl
  · simp [hf] at h

theorem record_store (s : State) (e : Ev) (n : Nat) (d : List Nat) : (s.record e n d).ro.store = s.ro.store :=
  record_recorder (Q := fun r _ => r.store = s.ro.store) (recorderKeeps_store _) rfl e n d

/-- An erase block retired takes a spare, or its blocks leave the ring (22 R539). -/
theorem retire_store (s : State) (e b : Nat) : (s.retire e b).ro.store =
    if 0 < s.ro.spares then (s.ro.spares - 1, s.ro.ringSize, s.ro.fault, s.ro.ceiling)
    else (s.ro.spares, s.ro.ringSize - b, decide (s.ro.ringSize ≤ b), s.ro.ceiling) := by
  unfold State.retire
  dsimp only
  rw [record_store, State.onRosemary_ro]
  split <;> rfl

/-- The block goes to where the erase block stands, unless the store is at fault. -/
theorem blockCommit_due {s : State} (hdue : s.blockDue = true) (good : Bool) (e b : Nat) : blockCommit good e b s =
    let s1 := if good then s else s.retire e b
    if s1.ro.fault then s1 else s1.onRosemary Rosemary.commit := if_pos hdue

theorem blockCommit_store {s : State} (hdue : s.blockDue = true) (good : Bool) (e b : Nat) : (blockCommit good e b s).ro.store =
    (if good then s else s.retire e b).ro.store := by
  rw [blockCommit_due hdue]
  generalize (if good then s else s.retire e b) = u
  dsimp only
  split <;> rfl

theorem retire_bare (s : State) (e b : Nat) : (s.retire e b).bare = s.bare := record_bare ..

theorem blockCommit_bare (good : Bool) (e b : Nat) (s : State) : (blockCommit good e b s).bare = s.bare := by
  have hretired : (if good then s else s.retire e b).bare = s.bare := by
    split
    · rfl
    · exact retire_bare ..
  unfold blockCommit
  split
  · generalize (if good then s else s.retire e b) = u at hretired
    dsimp only
    split
    · exact hretired
    · exact (onRosemary_bare ..).trans hretired
  · rfl

/-- What a commit leaves of the store's figures. -/
theorem answers_blockCommit {t e b : Nat} {good : Bool} {s : State} {P : State → Prop}
    (h : ∀ s', s'.ro.store = (blockCommit good e b (s.begin t)).ro.store → P s') : Answers (.eventBlockCommit t good e b) s P :=
  answers_of (exec_eventBlockCommit ..) (h _ (settled_store ..))

/-- The window of the write ceiling ends (22 R535). -/
def State.ceilingWindowEnds (s : State) : State :=
  (s.sample 13 (roundOpen 46 ((s.ro.windowOctets : Rat) / 1024))).onRosemary fun r =>
    { r with ceiling := r.discardWindow, discardWindow := false, windowOctets := 0 }

theorem exec_writeCeilingWindow (t : Nat) (s : State) :
    exec (.writeCeilingWindow t) s = s.run t fun s => if s.powered then s.turn 14 (sec 1) State.ceilingWindowEnds else s := rfl

/-- Without a limit on its monitor the window's end only counts. -/
theorem ceilingWindowEnds_counts {s : State} (hlimit : (s.monCfg 13).limit = 0) : s.ceilingWindowEnds.ro.ceiling = s.ro.discardWindow ∧
    (s.ceilingWindowEnds.dl.windows.get 13 {}).count = satInc 32 (s.dl.windows.get 13 {}).count ∧
    (s.ceilingWindowEnds.dl.cumulative.get 13 {}).count = satInc 32 (s.dl.cumulative.get 13 {}).count := by
  obtain ⟨u, hu, -, helse, hwindow, hall⟩ := sample_figures s 13 (roundOpen 46 ((s.ro.windowOctets : Rat) / 1024))
  obtain ⟨hsame, -⟩ := helse fun h => h.1 hlimit
  have hro : u.ro = s.ro := by rw [hu]
  unfold State.ceilingWindowEnds
  rw [hsame, State.onRosemary_dl, State.onRosemary_ro, hro]
  exact ⟨rfl, hwindow, hall⟩

theorem turnTaken_monCfg (s : State) (k n : Nat) : (s.turnTaken k).monCfg n = s.monCfg n := by
  unfold State.monCfg State.turnTaken
  rw [State.onThyme_cfg]

/-! ### Delivery by the plant, and the scrub (23 R555, R559) -/

/-- A window of the plant delivery ends (23 R559). -/
def State.deliveryWindowEnds (s : State) : State :=
  if s.di.lateRun then
    let s1 := s.record .plantDelivery s.di.lateFrom []
    (s1.onDispatch fun d => { d with lateRun := false, cleanWindows := 0 }).onDill fun d => { d with delivery := true }
  else
    let n := min 10 (s.di.cleanWindows + 1)
    (s.onDispatch fun d => { d with cleanWindows := n }).onDill fun d => { d with delivery := d.delivery && decide (n < 10) }

theorem exec_plantDeliveryWindow (t : Nat) (s : State) :
    exec (.plantDeliveryWindow t) s = s.run t fun s => if !s.publishes then s else s.turn 15 (sec 1) State.deliveryWindowEnds := rfl

theorem deliveryWindowEnds_late {s : State} (h : s.di.lateRun = true) : s.deliveryWindowEnds.bare =
    ({ s with di := { s.di with lateRun := false, cleanWindows := 0 }, dl := { s.dl with delivery := true } } : State).bare := by
  unfold State.deliveryWindowEnds
  rw [if_pos h]
  exact record_then_bare (fun u => (u.onDispatch fun d => { d with lateRun := false, cleanWindows := 0 }).onDill fun d => { d with delivery := true }) ..

theorem deliveryWindowEnds_clean {s : State} (h : s.di.lateRun = false) : s.deliveryWindowEnds =
    { s with di := { s.di with cleanWindows := min 10 (s.di.cleanWindows + 1) }
             dl := { s.dl with delivery := s.dl.delivery && decide (s.di.cleanWindows < 9) } } := by
  have hbound : (min 10 (s.di.cleanWindows + 1) < 10) = (s.di.cleanWindows < 9) := propext (by omega)
  unfold State.deliveryWindowEnds
  rw [if_neg (by simp [h])]
  simp only [hbound]
  rfl

/-- A scrub counts the corrected errors, and its task is done (23 R555). -/
def State.scrubbed (s : State) (stores : Bool) (n : Nat) : State :=
  { s with dl := { s.dl with
      corrected := (s.dl.corrected + n) % two32
      lastScrub := if stores then s.dl.lastScrub else s.now
      lastStoreScrub := if stores then s.now else s.dl.lastStoreScrub
      deferred := s.dl.deferred.filter fun x => !decide (x = 6) } }

/-- A scrub, where it is due (23 R555). -/
def scrub (stores : Bool) (n : Nat) (uncorrectable : Bool) (i : StartIn) (s : State) : State :=
  if !s.publishes || !s.scrubDue stores then s
  else if uncorrectable && !stores then (s.scrubbed stores n).requestReset 2 4 i else s.scrubbed stores n

theorem exec_memoryScrub (t : Nat) (stores : Bool) (n : Nat) (u : Bool) (i : StartIn) (s : State) :
    exec (.memoryScrub t stores n u i) s = s.run t (scrub stores n u i) := rfl

theorem interruptTest_dl (s : State) (o : Nat) : (s.interruptTest o).dl = s.dl := (congrArg State.dl (interruptTest_bare s o) :)

/-- While the main supply is on, a reset in preparation leaves the diagnosis. -/
theorem prepareReset_dl {s : State} (hmain : s.mainOn = true) (level cause : Nat) (i : StartIn) : (s.prepareReset level cause i).dl = s.dl := by
  have hcoil (u : State) (k : Nat) : (u.coilOff k).dl = u.dl := by
    unfold State.coilOff
    split <;> rfl
  calc (s.prepareReset level cause i).dl = ((s.endSequences.coilOff 12).interruptTests).dl := by
        unfold State.prepareReset
        rw [if_pos hmain]
        generalize (s.endSequences.coilOff 12).interruptTests = u
        exact State.onPower_dl ..
    _ = (s.endSequences.coilOff 12).dl := by
        unfold State.interruptTests
        rw [interruptTest_dl, interruptTest_dl]
    _ = s.dl := hcoil ..

/-- Settles O48: a closing and a commit by whether they are due, a window by its instant, and a scrub by what it finds. -/
theorem recorderCommands : Obligations.RecorderCommands := by
  refine ⟨?closeBare, ?closed, ?commitBare, ?notDue, ?good, ?spare, ?ring, ?unpowered, ?ceiling, ?between, fun t k s => does_monitorWindowEnd, ?unpublished, ?late,
    ?clean, ?noScrub, ?scrubs, ?resets⟩
  case closeBare =>
    intro t ev n s
    refine does_of (f := fun s => s.closeOld ev n) rfl ?_
    exact (bare_of_quiet (closeOld_quiet ..)).trans (begin_bare ..)
  case closed =>
    intro t ev n r s hopen hold
    obtain ⟨rfl, rfl⟩ := openOf_key hopen
    have hclose : (s.begin t).closeOld r.ev r.subject = (s.begin t).closeAndReport r := by
      exact (closeOld_of_open (s := s.begin t) hopen).trans (if_pos hold)
    refine answers_of (f := fun s => s.closeOld r.ev r.subject) rfl ?_
    rw [hclose]
    exact settled_openNow s (closeAndReport_openNow (s.begin t) r)
  case commitBare =>
    intro t good e b s
    exact does_of (exec_eventBlockCommit ..) ((blockCommit_bare ..).trans (begin_bare ..))
  case notDue =>
    intro t good e b s hdue
    refine answers_blockCommit fun s' hstore => ?_
    have hsame : blockCommit good e b (s.begin t) = s.begin t := if_neg (by simp [hdue])
    rw [hsame] at hstore
    simp only [Rosemary.store, Prod.mk.injEq] at hstore
    obtain ⟨hspares, hring, hfault, -⟩ := hstore
    exact ⟨hspares, hring, hfault⟩
  case good =>
    intro t e b s hdue
    have hcommit : blockCommit true e b (s.begin t) = { s.begin t with ro := s.ro.commit } := by
      have hsound : s.ro.fault = false := blockDue_sound (s := s.begin t) hdue
      rw [blockCommit_due hdue]
      exact if_neg (by simp [hsound])
    refine answers_of (exec_eventBlockCommit ..) ?_
    have hkeep : s.keep t (blockCommit true e b (s.begin t)) = { s.begin t with ro := s.ro.commit } := by rw [hcommit]; rfl
    rw [hkeep]
    have hro : ({ s.begin t with ro := s.ro.commit } : State).ro = s.ro.commit := rfl
    generalize ({ s.begin t with ro := s.ro.commit } : State) = u at *
    have hstore := settled_store s u
    rw [hro] at hstore
    simp only [Rosemary.store, Prod.mk.injEq] at hstore
    obtain ⟨hspares, hring, -⟩ := hstore
    exact ⟨rfl, hspares, hring⟩
  case spare =>
    intro t e b s hdue hspare
    refine answers_blockCommit fun s' hstore => ?_
    have hspare : 0 < (s.begin t).ro.spares := hspare
    rw [blockCommit_store hdue, if_neg (by decide), retire_store, if_pos hspare, blockDue_sound hdue] at hstore
    simp only [Rosemary.store, Prod.mk.injEq] at hstore
    obtain ⟨hspares, hring, hfault, -⟩ := hstore
    exact ⟨hspares, hring, hfault⟩
  case ring =>
    intro t e b s hdue hnone
    refine answers_blockCommit fun s' hstore => ?_
    have hnone' : ¬ 0 < (s.begin t).ro.spares := by rw [begin_ro, hnone]; exact lt_irrefl 0
    rw [blockCommit_store hdue, if_neg (by decide), retire_store, if_neg hnone'] at hstore
    simp only [Rosemary.store, Prod.mk.injEq] at hstore
    obtain ⟨hspares, hring, hfault, -⟩ := hstore
    exact ⟨hspares.trans hnone, hring, hfault⟩
  case unpowered =>
    intro t s hpow
    have hpow : (s.begin t).powered = false := hpow
    refine ⟨idles_of (exec_writeCeilingWindow ..) (if_neg (by simp [hpow])), fun k => idles_of (exec_monitorWindowEnd ..) (if_neg (by simp [hpow]))⟩
  case ceiling =>
    intro t s hpow hlimit hturn
    have hpow : (s.begin t).powered = true := hpow
    have hlimit : (((s.begin t).turnTaken 14).monCfg 13).limit = 0 := by rw [turnTaken_monCfg, begin_monCfg, hlimit]
    obtain ⟨hceiling, hwindow, hall⟩ := ceilingWindowEnds_counts hlimit
    refine answers_of (exec_writeCeilingWindow ..) ?_
    rw [if_pos hpow, turn_open hturn]
    generalize ((s.begin t).turnTaken 14).ceilingWindowEnds = u at *
    have hstore := settled_store s (s.keep t u)
    simp only [Rosemary.store, Prod.mk.injEq] at hstore
    obtain ⟨-, -, -, hkept⟩ := hstore
    rw [settle_dl]
    exact ⟨hkept.trans hceiling, hwindow, hall⟩
  case between =>
    intro t k s hbetween
    rw [← begin_monCfg s t] at hbetween
    exact idles_of (exec_monitorWindowEnd ..) (if_neg (by simp [hbetween]))
  case unpublished =>
    intro t s hpub
    have hpub : (s.begin t).publishes = false := hpub
    exact idles_of (exec_plantDeliveryWindow ..) (if_pos (by simp [hpub]))
  case late =>
    intro t s hpub hturn hlate
    have hpub : (s.begin t).publishes = true := hpub
    refine does_of (exec_plantDeliveryWindow ..) ?_
    rw [if_neg (by simp [hpub]), turn_open hturn, deliveryWindowEnds_late (s := (s.begin t).turnTaken 15) hlate]
    rfl
  case clean =>
    intro t s hpub hturn hclean
    have hpub : (s.begin t).publishes = true := hpub
    refine does_of (exec_plantDeliveryWindow ..) ?_
    rw [if_neg (by simp [hpub]), turn_open hturn, deliveryWindowEnds_clean (s := (s.begin t).turnTaken 15) hclean]
    rfl
  case noScrub =>
    intro t st n u i s hnot
    have hnot : (!(s.begin t).publishes || !(s.begin t).scrubDue st) = true := by
      rcases hnot with h | h
      · have h : (s.begin t).publishes = false := h
        simp [h]
      · simp [h]
    exact idles_of (exec_memoryScrub ..) (if_pos hnot)
  case scrubs =>
    intro t st n u i s hpub hdue hsafe
    have hpub : (s.begin t).publishes = true := hpub
    refine does_of (exec_memoryScrub ..) ?_
    unfold scrub
    rw [if_neg (by simp [hpub, hdue]), if_neg (by rcases hsafe with h | h <;> simp [h])]
    rfl
  case resets =>
    intro t n i s hsingle hstate hdue hhalted hhold hwait hnext hmain
    have hpub : (s.begin t).publishes = true := by
      have h : s.publishes = true := by rcases hstate with h | h <;> simp [State.publishes, h]
      exact h
    have htakes : ((s.begin t).scrubbed false n).TakesReset := ⟨hstate, hhalted, hhold, hwait, hnext⟩
    have hscrub : scrub false n true i (s.begin t) = ((s.begin t).scrubbed false n).prepareReset 2 4 i := by
      unfold scrub
      rw [if_neg (by simp [hpub, hdue]), if_pos (by decide), requestReset_single htakes hsingle]
    obtain ⟨hreset, -⟩ := prepareReset_holds (s := (s.begin t).scrubbed false n) hmain 2 4 i
    have hdl := prepareReset_dl (s := (s.begin t).scrubbed false n) hmain 2 4 i
    refine answers_of (exec_memoryScrub ..) ?_
    rw [hscrub]
    generalize ((s.begin t).scrubbed false n).prepareReset 2 4 i = u at *
    have hheld : (s.settle (s.keep t u)).pw.resetHold = some (2, 4, max s.now t) := by
      rw [settle_pw]
      exact hreset
    refine ⟨hheld, ?_, settle_islandStop ?_⟩
    · rw [settle_dl]
      exact (congrArg Dill.corrected hdl :)
    · rw [State.holdDemand, hheld, Option.isSome_some, Bool.or_true]

end Sys2Proof.Machine
/-! What settling leaves unsent, and the plant ports (17 R422 to R425). -/

namespace Sys2Proof.Machine

open Sys2Proof

/-! ### What a record and settling do not emit -/

/-- No emission of the state is of kind `k`. -/
def State.Withholds (k : EmKind) (s : State) : Prop := s.out.all (fun e => !decide (e.kind = k)) = true

/-- A kind of frame that only a command's own meaning emits: settling emits GOOSE frames, shadow frames and item frames. -/
def EmKind.Own (k : EmKind) : Prop := k ≠ .goose ∧ k ≠ .shadowFrame ∧ k ≠ .itemFrame

section Withheld

variable {k : EmKind} {s : State}

theorem withholds_iff : s.Withholds k ↔ ∀ e, e ∈ s.out → e.kind ≠ k := by simp [State.Withholds]

theorem withholds_begin (s : State) (t : Nat) (k : EmKind) : (s.begin t).Withholds k := rfl

theorem withholds_of_out {u : State} (h : s.Withholds k) (hout : u.out = s.out) : u.Withholds k := by
  unfold State.Withholds
  rwa [hout]

theorem withholds_emit (h : s.Withholds k) {k' : EmKind} (hk : k ≠ k') (p : Nat) (b : List Nat) : (s.emit k' p b).Withholds k := by
  refine withholds_iff.2 fun e he => ?_
  rcases List.mem_append.1 he with he | he
  · exact withholds_iff.1 h e he
  · rw [List.mem_singleton.1 he]
    exact hk.symm

theorem withholds_followSend (h : s.Withholds k) {k' : EmKind} (hk : k ≠ k') (t : Nat) (p : List Nat) : (s.followSend k' t p).Withholds k := by
  rw [State.followSend]
  exact withholds_emit (withholds_of_out h rfl) hk ..

variable (hk : k.Own)
include hk

theorem withholds_writeItem (h : s.Withholds k) (n : Nat) (p : List Nat) : (s.writeItem n p).Withholds k := by
  obtain ⟨-, -, hitem⟩ := hk
  unfold State.writeItem
  dsimp only
  refine withholds_of_out ?_ (State.onLearned_out ..)
  split
  · exact withholds_followSend h hitem ..
  · exact h

theorem withholds_assignSeq (h : s.Withholds k) : s.assignSeq.2.Withholds k := by
  unfold State.assignSeq
  dsimp only
  refine withholds_of_out ?_ (State.onRosemary_out ..)
  split
  · rw [State.writeReservation]
    exact withholds_writeItem hk (withholds_of_out h (State.onRosemary_out ..)) ..
  · exact h

theorem withholds_openRecord (h : s.Withholds k) (e : Ev) (n : Nat) (d : List Nat) : (s.openRecord e n d).1.Withholds k := by
  unfold State.openRecord
  dsimp only
  refine withholds_of_out (withholds_assignSeq hk ?_) ((publishEvent_out ..).trans (State.onRosemary_out ..))
  split
  · split
    · exact withholds_of_out h (closeRecord_out ..)
    · exact h
  · exact h

theorem withholds_ceilingReached (h : s.Withholds k) (n : Nat) : (s.ceilingReached n).Withholds k := by
  unfold State.ceilingReached
  split
  · exact withholds_of_out h (State.onRosemary_out ..)
  · split
    · exact withholds_openRecord hk (withholds_of_out h (State.onRosemary_out ..)) ..
    · exact withholds_of_out h (State.onRosemary_out ..)

theorem withholds_openAndReport (h : s.Withholds k) (e : Ev) (n : Nat) (d : List Nat) : (s.openAndReport e n d).Withholds k := by
  have hopened := withholds_openRecord hk h e n d
  unfold State.openAndReport
  split
  next hres => rwa [hres] at hopened
  next hres => rw [hres] at hopened; exact withholds_ceilingReached hk hopened _

theorem withholds_closeAndReport (h : s.Withholds k) (r : EvRecord) : (s.closeAndReport r).Withholds k := by
  have hclosed : (s.closeRecord r).1.Withholds k := withholds_of_out h (closeRecord_out ..)
  unfold State.closeAndReport
  split
  next hres => rwa [hres] at hclosed
  next hres => rw [hres] at hclosed; exact withholds_ceilingReached hk hclosed _

theorem withholds_occur (h : s.Withholds k) (e : Ev) (n : Nat) (d : List Nat) : (s.occur e n d).Withholds k := by
  have hreplaced (r : EvRecord) : (s.replaceOpen r).Withholds k := withholds_of_out h (State.onRosemary_out ..)
  unfold State.occur
  split
  · dsimp only
    split
    · exact withholds_closeAndReport hk (hreplaced _) _
    · exact hreplaced _
  · split
    · exact withholds_openAndReport hk h ..
    · split
      · exact withholds_openAndReport hk (withholds_of_out h (State.onRosemary_out ..)) ..
      · exact withholds_of_out h (State.onRosemary_out ..)

theorem withholds_record (h : s.Withholds k) (e : Ev) (n : Nat) (d : List Nat) : (s.record e n d).Withholds k := by
  unfold State.record
  split
  · exact h
  · refine withholds_occur hk ?_ ..
    unfold State.closeOld
    split
    · split
      · exact withholds_closeAndReport hk h _
      · exact h
    · exact h

theorem withholds_settleTwin (h : s.Withholds k) : s.settleTwin.Withholds k := by
  unfold State.settleTwin
  dsimp only
  split
  · split
    · exact h
    · refine withholds_record hk (withholds_of_out h ?_) ..
      rw [State.onSafety_out, State.onTwin_out]
  · exact h

theorem withholds_settleShadow (h : s.Withholds k) (old : State) : (s.settleShadow old).Withholds k := by
  obtain ⟨-, hshadow, -⟩ := hk
  unfold State.settleShadow
  dsimp only
  split
  · split
    · exact h
    · exact withholds_followSend h hshadow ..
  · exact h

theorem withholds_settleOut (h : s.Withholds k) (o : Nat) : (s.settleOut o).Withholds k := by
  unfold State.settleOut
  dsimp only
  refine withholds_of_out ?_ (State.onSafety_out ..)
  split
  · exact h
  · unfold State.interruptTest
    dsimp only
    split
    · exact h
    · exact withholds_record hk (withholds_of_out h (State.onSafety_out ..)) ..

theorem withholds_goosePublish (h : s.Withholds k) : s.goosePublish.Withholds k := by
  obtain ⟨hgoose, -, -⟩ := hk
  have hchange {u : State} (h : u.Withholds k) (d : Nat) : (u.gooseChange d).Withholds k := by
    unfold State.gooseChange
    dsimp only
    split
    · exact h
    · exact withholds_emit (withholds_of_out h rfl) hgoose ..
  unfold State.goosePublish
  split
  · exact hchange (hchange (hchange h 0) 1) 2
  · exact h

omit hk in
theorem withholds_settlePorts (h : s.Withholds k) : s.settlePorts.Withholds k := by
  have hout : s.settlePorts.out = sendOrder s.out := by
    unfold State.settlePorts
    refine (foldl_keeps State.out (fun s e => foldl_keeps State.out (fun s p => ?_) _ s) _ _).trans rfl
    split <;> rfl
  refine withholds_iff.2 fun e he => ?_
  rw [hout] at he
  obtain ⟨c, -, he⟩ := List.mem_flatMap.1 he
  exact withholds_iff.1 h e (List.mem_of_mem_filter he)

/-- What a meaning has not emitted, no follow-up emits for it. -/
theorem withholds_settle (h : s.Withholds k) (old : State) : (old.settle s).Withholds k := by
  have hwrapped : (if s.ro.wrapped && !old.ro.wrapped then s.record .storeWrapped 0 [] else s).Withholds k := by
    split
    · exact withholds_record hk h ..
    · exact h
  unfold State.settle
  dsimp only
  refine withholds_settlePorts (withholds_of_out (withholds_goosePublish hk (withholds_settleOut hk (withholds_settleOut hk ?_ 1) 2)) (pubChanges_out ..))
  refine withholds_of_out (withholds_settleShadow hk ?_ old) (State.onRantus_out ..)
  refine withholds_of_out (withholds_settleTwin hk hwrapped) ?_
  rw [settleCandidate_out, settleHolds_out, settleCan_out]

end Withheld

/-! ### The ports (17 R423) -/

/-- A port's figures but for the frames it sent, which settling counts. -/
def Port.unsent (x : Port) : Port := { x with sent := 0 }

theorem settlePorts_unsent (s : State) (p : Nat) : (s.settlePorts.nt.ports.get p {}).unsent = (s.nt.ports.get p {}).unsent := by
  unfold State.settlePorts
  refine (foldl_keeps (fun u : State => (u.nt.ports.get p {}).unsent) (fun u e =>
    foldl_keeps (fun u : State => (u.nt.ports.get p {}).unsent) (fun u q => ?_) _ u) _ _).trans rfl
  split
  · rw [State.onNet_nt, Table.get_upd]
    split
    next hpq => rw [hpq]; rfl
    · rfl
  · rfl

/-- Settling counts the frames a port sends, and changes nothing else of it. -/
theorem settle_unsent (old s : State) (p : Nat) : ((old.settle s).nt.ports.get p {}).unsent = (s.nt.ports.get p {}).unsent := by
  have hwrapped : (if s.ro.wrapped && !old.ro.wrapped then s.record .storeWrapped 0 [] else s).nt.ports = s.nt.ports := by
    split
    · exact record_nt_ports ..
    · rfl
  unfold State.settle
  dsimp only
  rw [settlePorts_unsent, ports_of_quiet (pubChanges_quiet ..), goosePublish_ports, settleOut_ports, settleOut_ports, State.settleStop, State.onRantus_nt,
    ports_of_quiet (settleShadow_quiet ..), settleCandidate_ports, settleHolds_ports, settleCan_ports, settleTwin_ports, hwrapped]

theorem up_of_unsent {x y : Port} (h : x.unsent = y.unsent) : x.up = y.up := (congrArg Port.up h :)

theorem settle_portUp (old s : State) (p : Nat) : (old.settle s).portUp p = s.portUp p := up_of_unsent (settle_unsent old s p)

theorem portUp_onPort (s : State) (p q : Nat) (f : Port → Port) :
    (s.onPort p f).portUp q = if q = p then (f (s.nt.ports.get p {})).up else s.portUp q := by
  unfold State.portUp State.onPort
  rw [State.onNet_nt, Table.get_upd]
  split <;> rfl

theorem record_portUp (s : State) (e : Ev) (n : Nat) (d : List Nat) (p : Nat) : (s.record e n d).portUp p = s.portUp p := by
  unfold State.portUp
  rw [record_nt_ports]

/-- A meaning that leaves the queue: what `E` shows of the state stands after its command. -/
theorem settled_beside (E : State → State) {s u : State} (hqueue : u.pending = s.pending) (h : E u.bare = E s.bare) (t : Nat) :
    E (s.settle (s.keep t u)).bare = E s.bare := by
  have hkeep : (s.keep t u).bare = u.bare := by
    unfold State.keep
    rw [← hqueue]
    rfl
  rw [settle_bare, hkeep, h]

/-! ### The ports' commands -/

/-- The meaning of PLANT_PORT_DOWN. -/
def portDown (p : Nat) (s : State) : State :=
  if !s.portUp p then s
  else
    let s1 := s.onPort p fun x => { x with up := false }
    if p = 3 then s1
    else
      let s2 := s1.record .portDown p []
      if s2.portUp 1 || s2.portUp 2 then s2 else (s2.onNet fun n => { n with netLost := true }).record .networkLost 0 []

theorem exec_plantPortDown (t : Nat) (p : Fin 3) (s : State) : exec (.plantPortDown t p) s = s.run t (portDown (p.val + 1)) := rfl

theorem record_netLost (s : State) (e : Ev) (n : Nat) (d : List Nat) : (s.record e n d).nt.netLost = s.nt.netLost :=
  (congrArg (fun u : State => u.nt.netLost) (record_quiet s e n d) :)

/-- A port that was up is down, and the others stand. -/
theorem portDown_portUp {p : Nat} {s : State} (hup : s.portUp p = true) (q : Nat) : (portDown p s).portUp q = if q = p then false else s.portUp q := by
  have hlost (u : State) (q : Nat) : ((u.onNet fun n => { n with netLost := true }).record .networkLost 0 []).portUp q = u.portUp q := record_portUp ..
  unfold portDown
  rw [if_neg (by simp [hup])]
  dsimp only
  split
  · exact portUp_onPort ..
  · split
    · rw [record_portUp, portUp_onPort]
    · rw [hlost, record_portUp, portUp_onPort]

/-- The plant network is lost when neither plant port is up any more; X13 is none of them. -/
theorem portDown_netLost {p : Nat} {s : State} (hup : s.portUp p = true) : (portDown p s).nt.netLost =
    (s.nt.netLost || (!decide (p = 3) && !((decide (1 ≠ p) && s.portUp 1) || (decide (2 ≠ p) && s.portUp 2)))) := by
  have hother (q : Nat) : (if q = p then false else s.portUp q) = (decide (q ≠ p) && s.portUp q) := by
    by_cases h : q = p <;> simp [h]
  unfold portDown
  rw [if_neg (by simp [hup])]
  dsimp only
  rw [record_portUp, record_portUp, portUp_onPort, portUp_onPort, hother, hother]
  split
  next h3 => simp [h3, State.onPort]
  next h3 =>
    split
    next h => rw [record_netLost, h]; simp [State.onPort]
    next h =>
      rw [record_netLost, Bool.eq_false_iff.2 h, decide_eq_false h3]
      simp

theorem settled_netLost (s u : State) (t : Nat) : (s.settle (s.keep t u)).nt.netLost = u.nt.netLost := settled_part (fun v => v.nt.netLost) s u t

/-- What a port's command leaves of the ports and of the network's state. -/
theorem answers_ports {c : Instr} {t : Nat} {f : State → State} {s : State} {P : State → Prop} (he : exec c s = s.run t f)
    (h : ∀ s', (∀ q, s'.portUp q = (f (s.begin t)).portUp q) → s'.nt.netLost = (f (s.begin t)).nt.netLost → P s') : Answers c s P :=
  answers_of he (h _ (fun q => settle_portUp s (s.keep t _) q) (settled_netLost ..))

/-- The meaning of PLANT_PORT_UP. -/
def portRises (p : Fin 3) (s : State) : State :=
  let s1 := s.onPort (p.val + 1) fun x => { x with up := true }
  if p.val < 2 then s1.onNet fun n => { n with netLost := false } else s1

theorem exec_plantPortUp (t : Nat) (p : Fin 3) (s : State) : exec (.plantPortUp t p) s = s.run t (portRises p) := rfl

theorem portRises_portUp (p : Fin 3) (s : State) (q : Nat) : (portRises p s).portUp q = if q = p.val + 1 then true else s.portUp q := by
  unfold portRises
  dsimp only
  split <;> exact portUp_onPort ..

theorem portRises_netLost (p : Fin 3) (s : State) : (portRises p s).nt.netLost = (s.nt.netLost && decide (p.val = 2)) := by
  unfold portRises
  dsimp only
  split
  · rw [decide_eq_false (by omega), Bool.and_false]
    rfl
  · rw [decide_eq_true (by omega), Bool.and_true]
    rfl

theorem portRises_bare (p : Fin 3) (s : State) : { (portRises p s).bare with nt := {} } = { s.bare with nt := {} } := by
  unfold portRises
  dsimp only
  split <;> rfl

theorem onPort_bare (s : State) (p : Nat) (f : Port → Port) : (s.onPort p f).bare = s.bare := rfl

/-- A supervision frame leaves with the next sequence (17 R422). -/
def supervisionSent (s : State) : State := (s.onNet fun n => { n with prpSeq := (n.prpSeq + 1) % 65536 }).emit .prpSupervision 0 (octetsOf 2 s.nt.prpSeq)

/-- The meaning of PRP_SUPERVISION_TRANSMIT. -/
def supervision (s : State) : State := if !s.netOn then s else s.turn 0x19 (ms s.cfg.plant.prpMs) supervisionSent

theorem exec_prpSupervisionTransmit (t : Nat) (s : State) : exec (.prpSupervisionTransmit t) s = s.run t supervision := rfl

/-- The meaning of ICMP_ECHO_REQUEST. -/
def echoRequest (p : Nat) (own : Bool) (ident : Nat) (s : State) : State :=
  if !s.netOn then s
  else
    let s0 := s.received p
    let b := bucketNow 10 10 s.nt.echoTokens s.nt.echoAt s.now
    if !own then s0.onPort p fun x => { x with discarded := wrapInc x.discarded }
    else if b < 1 then s0.onNet fun n => { n with echoDropped := wrapInc n.echoDropped }
    else (s0.onNet fun n => { n with echoTokens := b - 1, echoAt := some s.now }).emit .icmpReply p (octetsOf 4 ident)

theorem exec_icmpEchoRequest (t : Nat) (p : Fin 3) (own : Bool) (i : Nat) (s : State) :
    exec (.icmpEchoRequest t p own i) s = s.run t (echoRequest (p.val + 1) own i) := rfl

theorem echoRequest_foreign {p i : Nat} {s : State} (hon : s.netOn = true) :
    echoRequest p false i s = (s.received p).onPort p fun x => { x with discarded := wrapInc x.discarded } :=
  (if_neg (by simp [hon])).trans (if_pos rfl)

theorem echoRequest_dropped {p i : Nat} {s : State} (hon : s.netOn = true) (hlow : bucketNow 10 10 s.nt.echoTokens s.nt.echoAt s.now < 1) :
    echoRequest p true i s = (s.received p).onNet fun n => { n with echoDropped := wrapInc n.echoDropped } :=
  (if_neg (by simp [hon])).trans ((if_neg (by simp)).trans (if_pos hlow))

theorem echoRequest_answered {p i : Nat} {s : State} (hon : s.netOn = true) (htoken : 1 ≤ bucketNow 10 10 s.nt.echoTokens s.nt.echoAt s.now) :
    echoRequest p true i s = ((s.received p).onNet fun n =>
      { n with echoTokens := bucketNow 10 10 s.nt.echoTokens s.nt.echoAt s.now - 1, echoAt := some s.now }).emit .icmpReply p (octetsOf 4 i) :=
  (if_neg (by simp [hon])).trans ((if_neg (by simp)).trans (if_neg htoken.not_gt))

/-- The meaning of ADDRESS_RESOLUTION_REQUEST. -/
def addressRequest (p : Nat) (own : Bool) (s : State) : State :=
  if !s.netOn then s else if own then (s.received p).emit .addressReply p [] else s.received p

theorem exec_addressResolutionRequest (t : Nat) (p : Fin 3) (own : Bool) (s : State) :
    exec (.addressResolutionRequest t p own) s = s.run t (addressRequest (p.val + 1) own) := rfl

/-- What a discarded frame counts at its port (17 R423, R425). -/
def Port.discard (why : Nat) (x : Port) : Port :=
  match why with
  | 0 => { x with discarded := wrapInc x.discarded }
  | 1 => { x with duplicates := wrapInc x.duplicates }
  | 2 => { x with wrongLan := wrapInc x.wrongLan }
  | _ => { x with errored := wrapInc x.errored }

/-- The meaning of UNACCEPTED_FRAME_DISCARD. -/
def frameDiscard (p : Nat) (why : Nat) (s : State) : State := if !s.netOn then s else (s.received p).onPort p (Port.discard why)

theorem exec_unacceptedFrameDiscard (t : Nat) (p : Fin 3) (why : Fin 4) (s : State) :
    exec (.unacceptedFrameDiscard t p why) s = s.run t (frameDiscard (p.val + 1) why.val) := rfl

/-- The port's counters after a frame that it does not accept. -/
theorem frameDiscard_port {p why : Nat} {s : State} (hon : s.netOn = true) : (frameDiscard p why s).nt.ports.get p {} =
    ({ s.nt.ports.get p {} with received := wrapInc (s.nt.ports.get p {}).received } : Port).discard why := by
  unfold frameDiscard
  rw [if_neg (by simp [hon]), port_onPort_same]
  exact congrArg (Port.discard why) (port_onPort_same s p fun x => { x with received := wrapInc x.received })

theorem counters_of_unsent {x y : Port} (h : x.unsent = y.unsent) : x.received = y.received ∧ x.discarded = y.discarded ∧ x.duplicates = y.duplicates ∧
    x.wrongLan = y.wrongLan ∧ x.errored = y.errored ∧ x.up = y.up := by
  unfold Port.unsent at h
  simp only [Port.mk.injEq] at h
  simp only [h, and_self]

/-- Settles O41: each port command by whether the ports run and what the frame is. -/
theorem plantPorts : Obligations.PlantPorts := by
  refine ⟨?downAlready, ?down, ?up, ?noPrp, ?prp, ?off, ?foreign, ?dropped, ?echo, ?address, ?discardIdles, ?discards⟩
  case downAlready =>
    intro t p s hdown
    have hsame : portDown (p.val + 1) (s.begin t) = s.begin t := by
      have h : (s.begin t).portUp (p.val + 1) = false := hdown
      exact if_pos (by simp [h])
    refine answers_ports (exec_plantPortDown ..) fun s' hports hlost => ?_
    rw [hsame] at hports hlost
    exact ⟨(hports _).trans hdown, hlost⟩
  case down =>
    intro t p s hup
    have hup : (s.begin t).portUp (p.val + 1) = true := hup
    refine answers_ports (exec_plantPortDown ..) fun s' hports hlost => ⟨?_, fun q hq => ?_, ?_⟩
    · rw [hports, portDown_portUp hup, if_pos rfl]
    · rw [hports, portDown_portUp hup, if_neg hq]
      rfl
    · rw [hlost, portDown_netLost hup]
      fin_cases p <;> simp <;> rfl
  case up =>
    intro t p s
    have hqueue : (portRises p (s.begin t)).pending = s.pending := by
      unfold portRises
      dsimp only
      split <;> rfl
    have hrest := settled_beside (fun v => { v with nt := {} }) hqueue ((portRises_bare p (s.begin t)).trans (by rw [begin_bare])) t
    refine answers_of (exec_plantPortUp ..) ⟨?_, fun q hq => ?_, ?_, hrest⟩
    · rw [settle_portUp]
      exact (portRises_portUp ..).trans (if_pos rfl)
    · rw [settle_portUp]
      exact (portRises_portUp ..).trans (if_neg hq)
    · rw [settled_netLost]
      exact portRises_netLost ..
  case noPrp =>
    intro t s hoff
    have hoff : (s.begin t).netOn = false := hoff
    exact idles_of (exec_prpSupervisionTransmit ..) (if_pos (by simp [hoff]))
  case prp =>
    intro t s hon hturn
    have hon : (s.begin t).netOn = true := hon
    have hmeaning : supervision (s.begin t) = supervisionSent ((s.begin t).turnTaken 0x19) := (if_neg (by simp [hon])).trans (turn_open hturn)
    refine ⟨does_of (exec_prpSupervisionTransmit ..) ?_, sends_of (exec_prpSupervisionTransmit ..) ?_⟩
    · rw [hmeaning]
      rfl
    · rw [hmeaning]
      exact emitted (State.onNet ..) ..
  case off =>
    intro t p o i s hoff
    have hoff : (!(s.begin t).netOn) = true := by
      have h : (s.begin t).netOn = false := hoff
      simp [h]
    exact ⟨idles_of (exec_icmpEchoRequest ..) (if_pos hoff), idles_of (exec_addressResolutionRequest ..) (if_pos hoff)⟩
  case foreign =>
    intro t p i s hon
    have hon : (s.begin t).netOn = true := hon
    have hmeaning := echoRequest_foreign (p := p.val + 1) (i := i) hon
    refine ⟨does_of (exec_icmpEchoRequest ..) (by rw [hmeaning, onPort_bare, received_bare, begin_bare]), answers_of (exec_icmpEchoRequest ..) ?_⟩
    rw [hmeaning]
    have hsilent : (s.keep t (((s.begin t).received (p.val + 1)).onPort (p.val + 1) fun x => { x with discarded := wrapInc x.discarded })).Withholds .icmpReply := rfl
    refine ⟨?_, withholds_iff.1 (withholds_settle ⟨by decide, by decide, by decide⟩ hsilent s)⟩
    rw [settle_discarded]
    refine (congrArg Port.discarded (port_onPort_same ((s.begin t).received (p.val + 1)) ..)).trans (congrArg wrapInc ?_)
    exact received_discarded ..
  case dropped =>
    intro t p i s hon hlow
    have hon : (s.begin t).netOn = true := hon
    refine does_of (exec_icmpEchoRequest ..) ?_
    rw [echoRequest_dropped hon hlow]
    rfl
  case echo =>
    intro t p i s hon htoken
    have hon : (s.begin t).netOn = true := hon
    have hmeaning := echoRequest_answered (p := p.val + 1) (i := i) hon htoken
    refine ⟨sends_of (exec_icmpEchoRequest ..) ?_, does_of (exec_icmpEchoRequest ..) ?_⟩
    · rw [hmeaning]
      exact emitted (State.onNet ..) ..
    · rw [hmeaning, emit_bare]
      rfl
  case address =>
    intro t p s hon
    have hon : (s.begin t).netOn = true := hon
    have hmeaning (own : Bool) : addressRequest (p.val + 1) own (s.begin t) =
        if own then ((s.begin t).received (p.val + 1)).emit .addressReply (p.val + 1) [] else (s.begin t).received (p.val + 1) := if_neg (by simp [hon])
    refine ⟨does_of (exec_addressResolutionRequest ..) ?_, does_of (exec_addressResolutionRequest ..) ?_, sends_of (exec_addressResolutionRequest ..) ?_⟩
    · rw [hmeaning, if_neg (by decide), received_bare, begin_bare]
    · rw [hmeaning, if_pos rfl, emit_bare, received_bare, begin_bare]
    · rw [hmeaning, if_pos rfl]
      exact emitted (State.received ..) ..
  case discardIdles =>
    intro t p w s
    refine does_of (exec_unacceptedFrameDiscard ..) ?_
    unfold frameDiscard
    split
    · exact begin_bare ..
    · rw [onPort_bare, received_bare, begin_bare]
  case discards =>
    intro t p w s hon
    have hon : (s.begin t).netOn = true := hon
    refine answers_of (exec_unacceptedFrameDiscard ..) ?_
    have hport := settle_unsent s (s.keep t (frameDiscard (p.val + 1) w.val (s.begin t))) (p.val + 1)
    have hcounted : ((s.keep t (frameDiscard (p.val + 1) w.val (s.begin t))).nt.ports.get (p.val + 1) {}) =
        ({ s.nt.ports.get (p.val + 1) {} with received := wrapInc (s.nt.ports.get (p.val + 1) {}).received } : Port).discard w.val := frameDiscard_port hon
    rw [hcounted] at hport
    obtain ⟨hreceived, hdiscarded, hduplicates, hwrong, herrored, hup⟩ := counters_of_unsent hport
    dsimp only
    rw [hreceived, hdiscarded, hduplicates, hwrong, herrored, hup]
    fin_cases w <;> exact ⟨rfl, rfl, rfl, rfl, rfl, rfl⟩

end Sys2Proof.Machine
/-! The converter link (chapter 16). -/

namespace Sys2Proof.Machine

open Sys2Proof

/-! ### The command frame (16 R410 to R412) -/

/-- What the converter link knows and holds; the stop-request field is the island's. -/
def State.linkState (s : State) : Rantus := { s.rt with islandStop := false }

theorem settled_linkState (s u : State) (t : Nat) : (s.settle (s.keep t u)).linkState = u.linkState := settled_part State.linkState s u t

/-- The state beside dispatch, the tone requests and the free numbers: what choosing the set-point of a frame does not write. -/
def State.undispatched (s : State) : State := { s with di := {}, sg := {}, freeIdx := 0 }

theorem applyEntry_undispatched (s : State) : s.applyEntry.undispatched = s.undispatched := by
  unfold State.applyEntry State.startRamp
  dsimp only
  split
  · rfl
  · split <;> rfl

theorem stepSetpoint_undispatched (s : State) : s.stepSetpoint.undispatched = s.undispatched := rfl

theorem applyEntry_pw (s : State) : s.applyEntry.pw = s.pw := (congrArg State.pw (applyEntry_undispatched s) :)

theorem stepAfterEntry_pw (s : State) : s.applyEntry.stepSetpoint.pw = s.pw := applyEntry_pw s

theorem frameSetpoint_undispatched (s : State) : s.frameSetpoint.1.undispatched = s.undispatched := by
  unfold State.frameSetpoint
  dsimp only
  split
  · rfl
  · split
    · rfl
    · split <;> rfl

theorem frameSetpoint_di (s : State) : s.frameSetpoint.1.di = s.di := by
  unfold State.frameSetpoint
  dsimp only
  split
  · rfl
  · split
    · rfl
    · split <;> rfl

theorem frameSetpoint_none {s : State} (h : s.pw.state ≠ .run) : s.frameSetpoint.2 = none := by
  unfold State.frameSetpoint
  rw [if_pos (by simp [h])]

theorem toneCheck_untoned (s : State) : { s.toneCheck with sg := {} } = { s with sg := {} } := by
  unfold State.toneCheck
  split
  · rfl
  · split <;> rfl

/-- The state from which the command frame is made, with the set-point it carries (16 R411, R412; 06 R162). -/
def State.frameState (s : State) : State :=
  let r := s.applyEntry.stepSetpoint.frameSetpoint
  (r.1.onRantus fun x => { x with setA := (r.2.getD (0, 0)).2, setValid := r.2.isSome }).toneCheck

/-- The set-point of the command frame. -/
def State.frameCarries (s : State) : Option (Int × Int) := s.applyEntry.stepSetpoint.frameSetpoint.2

theorem commandTransmit_idle {s : State} (h : s.commands = false ∨ s.rt.cycle = s.converterCycle) : commandTransmit s = s := by
  refine if_pos ?_
  obtain h | h := h <;> simp [h]

theorem commandTransmit_sends {s : State} (hon : s.commands = true) (hnew : s.rt.cycle ≠ s.converterCycle) : commandTransmit s =
    ((s.frameState.onRantus fun r => { r with
      cycle := s.converterCycle, frame := s.frameState.commandFrame s.converterCycle s.frameCarries, answered := false, judged := false
      limitSweep := s.lim.hard.sweep }).emit .rantusCommand 0 (s.frameState.commandFrame s.converterCycle s.frameCarries)).timestamp 4
        (s.converterCycle % 65536) := by
  unfold commandTransmit
  rw [if_neg (by simp [hon, hnew])]
  rfl

/-- What choosing a frame's set-point leaves: the converter link but for the set-point itself. -/
theorem frameState_beside (s : State) : s.frameState.rt = { s.rt with setA := (s.frameCarries.getD (0, 0)).2, setValid := s.frameCarries.isSome } ∧
    s.frameState.di = s.applyEntry.stepSetpoint.di := by
  have hview : s.applyEntry.stepSetpoint.frameSetpoint.1.undispatched = s.undispatched :=
    (frameSetpoint_undispatched _).trans ((stepSetpoint_undispatched _).trans (applyEntry_undispatched s))
  have hrt := congrArg State.rt hview
  have hdi := frameSetpoint_di s.applyEntry.stepSetpoint
  unfold State.frameState State.frameCarries
  dsimp only
  generalize s.applyEntry.stepSetpoint.frameSetpoint.1 = u at *
  have htone := toneCheck_untoned (u.onRantus fun x => { x with
    setA := (s.applyEntry.stepSetpoint.frameSetpoint.2.getD (0, 0)).2, setValid := s.applyEntry.stepSetpoint.frameSetpoint.2.isSome })
  have hrt : u.rt = s.rt := hrt
  refine ⟨(congrArg State.rt htone).trans ?_, (congrArg State.di htone).trans hdi⟩
  rw [← hrt]
  rfl

/-- The third octet of the frame is the stop-request field (16 R411). -/
theorem commandFrame_stop (s : State) (c : Nat) (sp : Option (Int × Int)) : (s.commandFrame c sp).getD 2 0 = if s.rt.islandStop then 0xA5 else 0 := rfl

/-- The link after a command frame (16 R411). -/
theorem commandTransmit_rt {s : State} (hon : s.commands = true) (hnew : s.rt.cycle ≠ s.converterCycle) : (commandTransmit s).rt = { s.rt with
    setA := (s.frameCarries.getD (0, 0)).2, setValid := s.frameCarries.isSome, cycle := s.converterCycle, answered := false, judged := false
    frame := s.frameState.commandFrame s.converterCycle s.frameCarries, limitSweep := s.lim.hard.sweep } := by
  obtain ⟨hrt, -⟩ := frameState_beside s
  rw [commandTransmit_sends hon hnew]
  obtain ⟨qs, hstamp⟩ := timestamp_eq ((s.frameState.onRantus fun r => { r with
      cycle := s.converterCycle, frame := s.frameState.commandFrame s.converterCycle s.frameCarries, answered := false, judged := false
      limitSweep := s.lim.hard.sweep }).emit .rantusCommand 0 (s.frameState.commandFrame s.converterCycle s.frameCarries)) 4 (s.converterCycle % 65536)
  rw [hstamp, State.onThyme_rt]
  generalize s.frameState = u at *
  refine (congrArg (fun r : Rantus => { r with
    cycle := s.converterCycle, answered := false, judged := false, frame := u.commandFrame s.converterCycle s.frameCarries
    limitSweep := s.lim.hard.sweep }) hrt :)

theorem commandTransmit_out {s : State} (hon : s.commands = true) (hnew : s.rt.cycle ≠ s.converterCycle) :
    { kind := .rantusCommand, port := 0, bytes := s.frameState.commandFrame s.converterCycle s.frameCarries } ∈ (commandTransmit s).out := by
  rw [commandTransmit_sends hon hnew]
  generalize s.frameState.commandFrame s.converterCycle s.frameCarries = f
  generalize (s.frameState.onRantus fun r => { r with
      cycle := s.converterCycle, frame := f, answered := false, judged := false, limitSweep := s.lim.hard.sweep }) = u
  obtain ⟨qs, hstamp⟩ := timestamp_eq (u.emit .rantusCommand 0 f) 4 (s.converterCycle % 65536)
  rw [hstamp, State.onThyme_out]
  exact emitted u .rantusCommand 0 f

theorem commandSent_di (s : State) (c l : Nat) (f : List Nat) : (((s.onRantus fun r => { r with
    cycle := c, frame := f, answered := false, judged := false, limitSweep := l }).emit .rantusCommand 0 f).timestamp 4 (c % 65536)).di = s.di := by
  obtain ⟨qs, hstamp⟩ := timestamp_eq ((s.onRantus fun r => { r with
    cycle := c, frame := f, answered := false, judged := false, limitSweep := l }).emit .rantusCommand 0 f) 4 (c % 65536)
  rw [hstamp, State.onThyme_di]
  rfl

theorem commandTransmit_di {s : State} (hon : s.commands = true) (hnew : s.rt.cycle ≠ s.converterCycle) :
    (commandTransmit s).di = s.applyEntry.stepSetpoint.di := by
  obtain ⟨-, hdi⟩ := frameState_beside s
  rw [commandTransmit_sends hon hnew, commandSent_di, hdi]

theorem stepSetpoint_off {s : State} (h : s.pw.state ≠ .run) : s.stepSetpoint.di.applied = 0 := by
  unfold State.stepSetpoint
  dsimp only
  rw [State.onDispatch_di, if_pos h]

theorem stepSetpoint_keeps (s : State) : s.stepSetpoint.di.taken = s.di.taken ∧ s.stepSetpoint.di.cycle = s.di.cycle := by
  unfold State.stepSetpoint
  dsimp only
  rw [State.onDispatch_di]
  (repeat' split) <;> exact ⟨rfl, rfl⟩

theorem applyEntry_taken {s : State} (hwaits : s.di.taken = false) (hnow : s.di.applyFrom ≤ s.now) :
    s.applyEntry.di.taken = true ∧ s.applyEntry.di.cycle = s.di.nextCycle := by
  unfold State.applyEntry State.startRamp
  rw [if_neg (by simp [hwaits, hnow])]
  dsimp only
  split
  · exact ⟨rfl, rfl⟩
  · rw [State.onDispatch_di]
    split <;> exact ⟨rfl, rfl⟩

/-! ### The status frame (16 R416, R419) -/

theorem toneCheck_rt (s : State) : s.toneCheck.rt = s.rt := (congrArg State.rt (toneCheck_untoned s) :)

theorem sample_rt (s : State) (n : Nat) (v : Int) : (s.sample n v).rt = s.rt := by
  unfold State.sample
  dsimp only
  split
  · rw [record_rt]
    rfl
  · rfl

/-- What the delays of the link write of its state (16 R417). -/
def Rantus.undelayed (r : Rantus) : Rantus := { r with delaySum := 0, delayCount := 0, delay := 0, delayKnown := false, sentAt := 0 }

theorem linkDelay_undelayed (s : State) (twice : Int) : (s.linkDelay twice).rt.undelayed = s.rt.undelayed := by
  unfold State.linkDelay
  dsimp only
  split
  · rw [State.onRantus_rt, sample_rt]
    rfl
  · split
    · rw [record_rt, State.onRantus_rt, sample_rt]
      rfl
    · rw [State.onRantus_rt, sample_rt]
      rfl

theorem readRantus_undelayed (s : State) (tag : Nat) : (s.readRantus tag).rt.undelayed = s.rt.undelayed := by
  unfold State.readRantus
  dsimp only
  split
  · split <;> rfl
  · rfl

/-- What a used status frame writes of the link, beside its delays (16 R416). -/
theorem useStatus_undelayed (s : State) (f : StatusIn) : (s.useStatus f).rt.undelayed = ({ s.rt with
    conv := f.conv, answered := true, missed := 0, linkLost := false, used := if s.rt.answered then s.rt.used else s.rt.used + 1
    toneUnit := s.rt.toneUnit &&& f.conv.tones } : Rantus).undelayed := by
  have hused : (if (!s.rt.answered) = true then s.rt.used + 1 else s.rt.used) = if s.rt.answered then s.rt.used else s.rt.used + 1 := by
    cases s.rt.answered <;> rfl
  unfold State.useStatus
  dsimp only
  rw [toneCheck_rt]
  have hfault (u : State) (c : Prop) [Decidable c] : (if c then u else u.record .convFault 0 (octetsOf 2 f.conv.faultCode)).rt = u.rt := by
    split
    · rfl
    · exact record_rt ..
  split
  · rw [linkDelay_undelayed, readRantus_undelayed, sample_rt, hfault, State.onRantus_rt, hused]
  · rw [sample_rt, hfault, State.onRantus_rt, hused]

/-- The states in which the converter's status frames are used (16 R410). -/
def State.linkRuns (s : State) : Bool := decide (s.pw.state = .run ∨ s.pw.state = .watch ∨ s.pw.state = .flushing ∨ s.pw.state = .enteringHib)

theorem statusReceived_off {f : StatusIn} {s : State} (h : s.linkRuns = false) : statusReceived f s = s := by
  have h : (!s.linkRuns) = true := by rw [h]; rfl
  exact if_pos h

theorem statusReceived_late {f : StatusIn} {s : State} (hon : s.linkRuns = true) (hlate : 60000 < s.sinceEpoch % 100000) :
    statusReceived f s = s.onRantus fun r => { r with lateFrames := wrapInc r.lateFrames } := by
  have hon : ¬ (!s.linkRuns) = true := by rw [hon]; decide
  exact (if_neg hon).trans (if_pos hlate)

/-- A status frame is well formed, of this string, and echoes the present cycle (16 R416). -/
def State.echoes (s : State) (f : StatusIn) : Prop :=
  f.ok = true ∧ f.string = s.cfg.string.index ∧ f.echoSweep = s.converterCycle / 10 % two32 ∧ f.echoCycle = s.converterCycle % 10

theorem echoes_iff {f : StatusIn} {s : State} : s.echoes f ↔ ¬ (!f.ok || !decide (f.string = s.cfg.string.index) ||
    !decide (f.echoSweep = s.converterCycle / 10 % two32) || !decide (f.echoCycle = s.converterCycle % 10)) = true := by
  simp [State.echoes, and_assoc]

theorem statusReceived_bad {f : StatusIn} {s : State} (hon : s.linkRuns = true) (htime : s.sinceEpoch % 100000 ≤ 60000) (hbad : ¬ s.echoes f) :
    statusReceived f s = s.onRantus fun r => { r with badFrames := wrapInc r.badFrames } := by
  have hon : ¬ (!s.linkRuns) = true := by rw [hon]; decide
  exact (if_neg hon).trans ((if_neg htime.not_gt).trans (if_pos (not_not.1 (mt echoes_iff.2 hbad))))

theorem statusReceived_used {f : StatusIn} {s : State} (hon : s.linkRuns = true) (htime : s.sinceEpoch % 100000 ≤ 60000) (hgood : s.echoes f) :
    statusReceived f s = s.useStatus f := by
  have hon : ¬ (!s.linkRuns) = true := by rw [hon]; decide
  exact (if_neg hon).trans ((if_neg htime.not_gt).trans (if_neg (echoes_iff.1 hgood)))

/-! ### The missed deadline and the synchronisation pulses (16 R414, R419) -/

/-- The cycle in progress awaits its status frame, and the time for it is over (16 R419). -/
def State.overdue (s : State) : Prop :=
  s.commands = true ∧ s.rt.answered = false ∧ s.rt.judged = false ∧ s.rt.cycle = s.converterCycle ∧ 60000 ≤ s.sinceEpoch % 100000

theorem overdue_iff {s : State} : s.overdue ↔ ¬ (!s.commands || s.rt.answered || s.rt.judged || !decide (s.rt.cycle = s.converterCycle) ||
    decide (s.sinceEpoch % 100000 < 60000)) = true := by
  simp [State.overdue, and_assoc]

theorem deadlineMissed_idle {s : State} (h : ¬ s.overdue) : deadlineMissed s = s := if_pos (not_not.1 (mt overdue_iff.2 h))

/-- What a missed cycle writes of the link (16 R419). -/
theorem deadlineMissed_rt {s : State} (h : s.overdue) : (deadlineMissed s).rt = { s.rt with
    missed := s.rt.missed + 1, used := 0, judged := true, toneUnit := 0, linkLost := s.rt.linkLost || decide (10 ≤ s.rt.missed + 1)
    conv := if s.rt.missed + 1 < 3 then s.rt.conv else { s.rt.conv with ready := false, running := false, accepting := false } } := by
  unfold deadlineMissed
  rw [if_neg (overdue_iff.1 h)]
  dsimp only
  split
  · rfl
  · rw [toneCheck_rt]
    rfl

/-- The meaning of CARRIER_SYNC_PULSE. -/
def syncPulse (s : State) : State :=
  if s.commands && s.di.phaseValid && decide (0 < s.rt.conv.carrier) && s.syncInstant then
    (s.onRantus fun r => { r with pulses := wrapInc r.pulses }).emit .carrierSync 0 (octetsOf 2 s.di.phase ++ octetsOf 4 s.rt.conv.carrier)
  else s

theorem exec_carrierSyncPulse (t : Nat) (s : State) : exec (.carrierSyncPulse t) s = s.run t syncPulse := rfl

theorem exec_commandFrameTransmit (t : Nat) (s : State) : exec (.commandFrameTransmit t) s = s.run t commandTransmit := rfl

theorem exec_statusFrameReceived (t : Nat) (f : StatusIn) (s : State) : exec (.statusFrameReceived t f) s = s.run t (statusReceived f) := rfl

theorem exec_statusDeadlineMissed (t : Nat) (s : State) : exec (.statusDeadlineMissed t) s = s.run t deadlineMissed := rfl

/-- Settles O40: a command frame once in its cycle, a status frame by its time and its echo, and a deadline by what the cycle brought. -/
theorem converterLink : Obligations.ConverterLink := by
  refine ⟨?noCommand, ?command, ?statusOff, ?late, ?bad, ?used, ?notOverdue, ?missed, ?noSync, ?sync⟩
  case noCommand =>
    intro t s h
    exact idles_of (exec_commandFrameTransmit ..) (commandTransmit_idle h)
  case command =>
    intro t s hon hnew
    have hstop : (s.begin t).frameState.rt.islandStop = s.rt.islandStop := (congrArg Rantus.islandStop (frameState_beside (s.begin t)).1 :)
    have hrt := commandTransmit_rt (s := s.begin t) hon hnew
    have hout := commandTransmit_out (s := s.begin t) hon hnew
    have hdi := commandTransmit_di (s := s.begin t) hon hnew
    have hlink := (settled_linkState s (commandTransmit (s.begin t)) t).trans (congrArg (fun r : Rantus => { r with islandStop := false }) hrt)
    refine answers_of (exec_commandFrameTransmit ..) ?_
    have hsent := mem_settle (s := s.keep t (commandTransmit (s.begin t))) hout s
    have hdisp : (s.settle (s.keep t (commandTransmit (s.begin t)))).di = (s.begin t).applyEntry.stepSetpoint.di := (settle_di ..).trans hdi
    generalize s.settle (s.keep t (commandTransmit (s.begin t))) = s' at *
    have hframe : s'.rt.frame = (s.begin t).frameState.commandFrame (s.begin t).converterCycle (s.begin t).frameCarries := (congrArg Rantus.frame hlink :)
    refine ⟨(congrArg Rantus.cycle hlink :), (congrArg Rantus.answered hlink :), (congrArg Rantus.judged hlink :), (congrArg Rantus.limitSweep hlink :), ?_, ?_,
      (congrArg Rantus.conv hlink :), (congrArg Rantus.missed hlink :), fun hoff => ?_, fun hwaits hnow => ?_⟩
    · rw [hframe, commandFrame_stop, hstop]
    · rwa [hframe]
    · have hnone : (s.begin t).frameCarries = none := frameSetpoint_none (by rw [stepAfterEntry_pw]; exact hoff)
      have hvalid : s'.rt.setValid = (s.begin t).frameCarries.isSome := (congrArg Rantus.setValid hlink :)
      have hset : s'.rt.setA = ((s.begin t).frameCarries.getD (0, 0)).2 := (congrArg Rantus.setA hlink :)
      rw [hdisp, hvalid, hset, hnone]
      exact ⟨stepSetpoint_off (by rw [applyEntry_pw]; exact hoff), rfl, rfl⟩
    · obtain ⟨htaken, hcycle⟩ := applyEntry_taken (s := s.begin t) hwaits hnow
      obtain ⟨hkeeps, hcount⟩ := stepSetpoint_keeps (s.begin t).applyEntry
      rw [hdisp, hkeeps, hcount]
      exact ⟨htaken, hcycle⟩
  case statusOff =>
    intro t f s hrun hwatch hflush hhib
    have hoff : (s.begin t).linkRuns = false := decide_eq_false (by simp [hrun, hwatch, hflush, hhib])
    exact idles_of (exec_statusFrameReceived ..) (statusReceived_off hoff)
  case late =>
    intro t f s hstate hlate
    have hon : (s.begin t).linkRuns = true := decide_eq_true hstate
    exact does_of (exec_statusFrameReceived ..) (by rw [statusReceived_late hon hlate]; rfl)
  case bad =>
    intro t f s hstate htime hbad
    have hon : (s.begin t).linkRuns = true := decide_eq_true hstate
    have hbad : ¬ (s.begin t).echoes f := by
      rintro ⟨hok, hstring, hsweep, hcycle⟩
      rcases hbad with h | h | h | h
      · exact absurd (hok.symm.trans h) (by decide)
      · exact h hstring
      · exact h hsweep
      · exact h hcycle
    exact does_of (exec_statusFrameReceived ..) (by rw [statusReceived_bad hon htime hbad]; rfl)
  case used =>
    intro t f s hstate htime hok hstring hsweep hcycle
    have hon : (s.begin t).linkRuns = true := decide_eq_true hstate
    refine answers_of (exec_statusFrameReceived ..) ?_
    rw [statusReceived_used hon htime ⟨hok, hstring, hsweep, hcycle⟩]
    have hlink := useStatus_undelayed (s.begin t) f
    have hkept := congrArg Rantus.undelayed (settled_linkState s ((s.begin t).useStatus f) t)
    have hlink := hkept.trans (congrArg (fun r : Rantus => { r with islandStop := false }) hlink)
    generalize s.settle (s.keep t ((s.begin t).useStatus f)) = s' at *
    exact ⟨(congrArg Rantus.conv hlink :), (congrArg Rantus.answered hlink :), (congrArg Rantus.missed hlink :), (congrArg Rantus.linkLost hlink :),
      (congrArg Rantus.used hlink :), (congrArg Rantus.badFrames hlink :), (congrArg Rantus.lateFrames hlink :), (congrArg Rantus.frame hlink :)⟩
  case notOverdue =>
    intro t s h
    refine idles_of (exec_statusDeadlineMissed ..) (deadlineMissed_idle ?_)
    rintro ⟨hon, hanswered, hjudged, hcycle, htime⟩
    rcases h with h | h | h | h | h
    · exact absurd (hon.symm.trans h) (by decide)
    · exact absurd (hanswered.symm.trans h) (by decide)
    · exact absurd (hjudged.symm.trans h) (by decide)
    · exact h hcycle
    · exact absurd h htime.not_gt
  case missed =>
    intro t s hon hanswered hjudged hcycle htime
    have hrt := deadlineMissed_rt (s := s.begin t) ⟨hon, hanswered, hjudged, hcycle, htime⟩
    have hlink := (settled_linkState s (deadlineMissed (s.begin t)) t).trans (congrArg (fun r : Rantus => { r with islandStop := false }) hrt)
    refine answers_of (exec_statusDeadlineMissed ..) ?_
    generalize s.settle (s.keep t (deadlineMissed (s.begin t))) = s' at *
    have hconv : s'.rt.conv = if s.rt.missed + 1 < 3 then s.rt.conv else { s.rt.conv with ready := false, running := false, accepting := false } :=
      (congrArg Rantus.conv hlink :)
    have hten : decide (10 ≤ s.rt.missed + 1) = decide (9 ≤ s.rt.missed) := by simp
    refine ⟨(congrArg Rantus.missed hlink :), (congrArg Rantus.used hlink :), (congrArg Rantus.judged hlink :), ?_, fun hfew => ?_, fun hmany => ?_⟩
    · rw [← hten]
      exact (congrArg Rantus.linkLost hlink :)
    · rw [hconv, if_pos (by omega)]
    · rw [hconv, if_neg (by omega)]
  case noSync =>
    intro t s h
    have h : ¬ ((s.begin t).commands && s.di.phaseValid && decide (0 < s.rt.conv.carrier) && (s.begin t).syncInstant) = true := by
      rcases h with h | h | h | h
      · have h : (s.begin t).commands = false := h
        simp [h]
      all_goals simp [h]
    exact idles_of (exec_carrierSyncPulse ..) (if_neg h)
  case sync =>
    intro t s hon hphase hcarrier hinstant
    have hon : (s.begin t).commands = true := hon
    have hpulse : syncPulse (s.begin t) = ((s.begin t).onRantus fun r => { r with pulses := wrapInc r.pulses }).emit .carrierSync 0
        (octetsOf 2 s.di.phase ++ octetsOf 4 s.rt.conv.carrier) := if_pos (by simp [hon, hphase, hcarrier, hinstant])
    refine ⟨does_of (exec_carrierSyncPulse ..) ?_, sends_of (exec_carrierSyncPulse ..) ?_⟩
    · rw [hpulse]
      rfl
    · rw [hpulse]
      exact emitted (State.onRantus ..) ..

end Sys2Proof.Machine
/-! Telemetry sessions, subscriptions, reads and data frames (17 R428 to R436). -/

namespace Sys2Proof.Machine

open Sys2Proof

/-! ### Sessions -/

theorem settled_nextSession (s u : State) (t : Nat) : (s.settle (s.keep t u)).nt.nextSession = u.nt.nextSession := settled_part (fun v => v.nt.nextSession) s u t

theorem tele_onTele (s : State) (k : Nat) (f : TeleSession → TeleSession) (j : Nat) : (s.onTele k f).tele j = if j = k then f (s.tele k) else s.tele j :=
  Table.get_upd ..

theorem tele_onTele_same (s : State) (k : Nat) (f : TeleSession → TeleSession) : (s.onTele k f).tele k = f (s.tele k) := Table.get_upd_same ..

theorem teleSend_tele (s : State) (k : EmKind) (key n q : Nat) (p : List Nat) (j : Nat) : (s.teleSend k key n q p).tele j = s.tele j := rfl

/-- A frame of a session that is taken is answered by its meaning, and the answer is stored (17 R429). -/
def State.sessionAnswer (s : State) (m : Maint) (kind : EmKind) (rtype : Nat) (p : List Nat) : State :=
  (s.teleSend kind m.key rtype m.seq p).onTele m.key fun y => { y with client := { y.client with stored := p, storedType := rtype } }

section Frames

variable {s : State} {m : Maint} {c : CfgTele} {kind : EmKind} {rtype right : Nat} {plain : Nat → List Nat} {body : State → State × List Nat}

theorem sessionFrame_taken (hkind : kind ≠ .update) (h : s.sessionTakes m 2 c) : s.sessionFrame m true kind rtype right plain body =
    let r := if right < 8 ∧ !c.rights.testBit right then (s.commandTaken m, plain stNotAllowed) else body (s.commandTaken m)
    r.1.sessionAnswer m kind rtype r.2 := by
  obtain ⟨hreach, hclient, hopen, hsession, hseq⟩ := h
  have hclient : (s.received (if m.key = 8 then 3 else m.port)).teleCfg m.key = some c := hclient
  have hsession : ¬(m.session = 0 ∨ ((s.received (if m.key = 8 then 3 else m.port)).tele m.key).client.session ≠ m.session) := by
    rintro (h | h)
    · exact hopen h
    · exact h hsession
  have hseq : ((s.received (if m.key = 8 then 3 else m.port)).tele m.key).client.lastSeq < m.seq := hseq
  unfold State.sessionFrame
  dsimp only
  rw [if_neg hkind, if_neg (by simp [hreach]), if_neg (by simp), hclient]
  dsimp only
  rw [if_neg hsession, if_neg (by omega), if_neg (by omega)]
  rfl

/-- A frame that its session does not take leaves the subscriptions (17 R429). -/
theorem sessionFrame_untaken (hkind : kind ≠ .update) (ok : Bool) (h : s.reach m.key 2 = false ∨ m.session = 0 ∨ (s.tele m.key).client.session ≠ m.session ∨
    m.seq ≤ (s.tele m.key).client.lastSeq) : ((s.sessionFrame m ok kind rtype right plain body).tele m.key).selectors = (s.tele m.key).selectors := by
  unfold State.sessionFrame
  dsimp only
  rw [if_neg hkind]
  generalize (if m.key = 8 then 3 else m.port) = p
  split
  · rfl
  next hreach =>
    split
    · rfl
    · split
      · rfl
      · split
        · rfl
        next hopen =>
          split
          · rfl
          next hrepeat =>
            split
            · rw [tele_onTele_same]
              rfl
            next hlower =>
              have hopen : ¬ (m.session = 0 ∨ (s.tele m.key).client.session ≠ m.session) := hopen
              have hrepeat : ¬ m.seq = (s.tele m.key).client.lastSeq := hrepeat
              have hlower : ¬ m.seq < (s.tele m.key).client.lastSeq := hlower
              rcases h with h | h | h | h
              · simp [h] at hreach
              · exact absurd (.inl h) hopen
              · exact absurd (.inr h) hopen
              · omega

end Frames

theorem sessionAnswer_tele (s : State) (m : Maint) (kind : EmKind) (rtype : Nat) (p : List Nat) : (s.sessionAnswer m kind rtype p).tele m.key =
    { s.tele m.key with client := { (s.tele m.key).client with stored := p, storedType := rtype } } := tele_onTele_same ..

theorem commandTaken_tele (s : State) (m : Maint) : (s.commandTaken m).tele m.key =
    { s.tele m.key with client := { (s.tele m.key).client with lastSeq := m.seq } } := tele_onTele_same ..

/-- What a command that ends in a telemetry session leaves of it. -/
theorem answers_tele {c : Instr} {s u : State} {t k : Nat} {f : State → State} {P : State → Prop} (he : exec c s = s.run t f) (hf : f (s.begin t) = u)
    (h : ∀ s', s'.tele k = u.tele k → P s') : Answers c s P := by
  refine answers_of he (h _ ?_)
  rw [hf]
  exact settle_tele ..

/-! ### Resets of a client's interface (17 R429) -/

/-- The update session of a client ends with its telemetry session (17 R429). -/
def Update.endedFor (u : Update) (key : Nat) : Update :=
  if u.session ≠ 0 ∧ u.server = key then { u with session := 0, offer := none, verifying := false, reply := none } else u

theorem exec_telemetryInterfaceReset (t : Nat) (m : Maint) (ok : Bool) (s : State) : exec (.telemetryInterfaceReset t m ok) s = s.run t (teleReset m ok) := rfl

/-- The state in which a client's next session is open. -/
def State.sessionOpened (s : State) (m : Maint) : State :=
  ({ s.received (if m.key = 8 then 3 else m.port) with nt := { (s.received (if m.key = 8 then 3 else m.port)).nt with nextSession := max 1 (wrapInc s.nt.nextSession) }, up := s.up.endedFor m.key } : State).onTele
    m.key fun x => { x with
      client := { x.client with session := s.nt.nextSession, lastSeq := 0, stored := [] }
      selectors := [], shed := 0, sent10 := 0, dropped := 0, lastDrop := s.now, inFlight := none }

theorem teleReset_opens {m : Maint} {c : CfgTele} {s : State} (hreach : s.reach m.key 1 = true) (hclient : s.teleCfg m.key = some c) : teleReset m true s =
    (s.sessionOpened m).teleSend .teleReady m.key 2 m.seq ([stDone, 0, 0, 0] ++ octetsOf 4 s.nt.nextSession) := by
  have hclient : (s.received (if m.key = 8 then 3 else m.port)).teleCfg m.key = some c := hclient
  have hup (u : State) (p : Nat) (f : Net → Net) : ((u.received p).onNet f).up = u.up := rfl
  unfold teleReset State.sessionOpened Update.endedFor
  rw [if_neg (by simp [hreach]), if_neg (by simp)]
  dsimp only
  rw [hclient]
  dsimp only
  rw [hup]
  by_cases hown : s.up.session ≠ 0 ∧ s.up.server = m.key
  · rw [if_pos hown, if_pos hown]
    rfl
  · rw [if_neg hown, if_neg hown]
    rfl

/-- A client's fresh session (17 R429). -/
def TeleSession.opened (x : TeleSession) (n now : Nat) : TeleSession := { x with
  client := { x.client with session := n, lastSeq := 0, stored := [] }
  selectors := [], shed := 0, sent10 := 0, dropped := 0, lastDrop := now, inFlight := none }

theorem sessionOpened_tele (s : State) (m : Maint) (k : Nat) : (s.sessionOpened m).tele k =
    if k = m.key then (s.tele m.key).opened s.nt.nextSession s.now else s.tele k := by
  unfold State.sessionOpened
  rw [tele_onTele]
  rfl

theorem endedFor_session (u : Update) (key : Nat) : (u.endedFor key).session = if u.server = key then 0 else u.session := by
  unfold Update.endedFor
  by_cases hkey : u.server = key
  · by_cases hnone : u.session = 0 <;> simp [hkey, hnone]
  · simp [hkey]

/-! ### Subscriptions (17 R431) -/

/-- The meaning of SUBSCRIBE, of a frame that is taken. -/
def subscription (m : Maint) (dest : Nat) (sels : List Selector) (s : State) : State × List Nat :=
  match sels.findIdx? fun x => !s.selectorOk x with
  | some i => (s, [stInvalid, 1 + i, 0, 0])
  | none =>
    if 64 < sels.length then (s, [stInvalid, 0, 0, 0])
    else (s.onTele m.key fun x => { x with selectors := sels, port := dest }, [stDone, 0, 0, 0])

theorem exec_subscribe (t : Nat) (m : Maint) (ok : Bool) (d : Nat) (sels : List Selector) (r : Bool) (s : State) : exec (.subscribe t m ok d sels r) s =
    s.run t fun s => s.sessionFrame m ok .teleReply 4 0 (fun st => [st, 0, 0, 0]) (subscription m d sels) := rfl

/-- The object table is the configuration's (24 R561). -/
theorem object_of_cfg {a b : State} (h : a.cfg = b.cfg) (o : Nat) : a.object o = b.object o := by
  unfold State.object State.plainObject
  rw [h]

theorem begin_object (s : State) (t o : Nat) : (s.begin t).object o = s.object o := by
  have hcfg : (s.begin t).cfg = s.cfg := rfl
  generalize s.begin t = u at *
  exact object_of_cfg hcfg o

theorem selectorOk_of_cfg {a b : State} (h : a.cfg = b.cfg) (x : Selector) : a.selectorOk x = b.selectorOk x := by
  unfold State.selectorOk
  rw [object_of_cfg h]

theorem subscription_invalid {m : Maint} {d i : Nat} {sels : List Selector} {s : State} (h : (sels.findIdx? fun x => !s.selectorOk x) = some i) :
    subscription m d sels s = (s, [stInvalid, 1 + i, 0, 0]) := by
  unfold subscription
  rw [h]

theorem subscription_valid {m : Maint} {d : Nat} {sels : List Selector} {s : State} (h : ∀ x, x ∈ sels → s.selectorOk x = true) :
    subscription m d sels s = if 64 < sels.length then (s, [stInvalid, 0, 0, 0])
      else (s.onTele m.key fun x => { x with selectors := sels, port := d }, [stDone, 0, 0, 0]) := by
  have hnone : (sels.findIdx? fun x => !s.selectorOk x) = none := List.findIdx?_eq_none_iff.2 fun x hx => by rw [h x hx]; rfl
  unfold subscription
  rw [hnone]

theorem begun_selectorOk (s : State) (t : Nat) (m : Maint) : ((s.begin t).commandTaken m).selectorOk = s.selectorOk := by
  have hcfg : ((s.begin t).commandTaken m).cfg = s.cfg := rfl
  generalize (s.begin t).commandTaken m = u at *
  exact funext fun x => selectorOk_of_cfg hcfg x

/-- What a subscription that its session takes leaves of the session. -/
theorem answers_subscribe {t : Nat} {m : Maint} {d : Nat} {sels : List Selector} {r : Bool} {c : CfgTele} {s : State} {P : State → Prop}
    (htakes : s.sessionTakes m 2 c) {u : State × List Nat}
    (hu : (if (0 < 8 ∧ !c.rights.testBit 0) then ((s.begin t).commandTaken m, [stNotAllowed, 0, 0, 0]) else subscription m d sels ((s.begin t).commandTaken m)) = u)
    (h : ∀ s', s'.tele m.key = { u.1.tele m.key with client := { (u.1.tele m.key).client with stored := u.2, storedType := 4 } } → P s') :
    Answers (.subscribe t m true d sels r) s P := by
  have htaken := sessionFrame_taken (s := s.begin t) (kind := .teleReply) (rtype := 4) (right := 0) (plain := fun st => [st, 0, 0, 0])
    (body := subscription m d sels) (by decide) htakes
  dsimp only at htaken
  rw [hu] at htaken
  refine answers_tele (k := m.key) (exec_subscribe ..) htaken fun s' hs' => h s' ?_
  rw [hs', sessionAnswer_tele]

/-! ### Reads (17 R430) -/

theorem exec_read (t : Nat) (m : Maint) (ok : Bool) (ids : List Nat) (s : State) : exec (.read t m ok ids) s = s.run t (readObjects m ok ids) := rfl

theorem teleSend_pending (s : State) (k : EmKind) (key n q : Nat) (p : List Nat) : (s.teleSend k key n q p).pending = s.pending := rfl

theorem readObjects_offNet (m : Maint) (ok : Bool) (ids : List Nat) (s : State) : (readObjects m ok ids s).bare.offNet = s.bare.offNet ∧
    (readObjects m ok ids s).pending = s.pending := by
  unfold readObjects
  dsimp only
  generalize (if m.key = 8 then 3 else m.port) = p
  generalize readEntries (if ids.length = 1 then 1416 else 1416 - 6 * (ids.length - 1)) (ids.map fun i => (i, (s.received p).readObject i)) = q
  split
  · exact ⟨rfl, rfl⟩
  · split
    · exact ⟨rfl, rfl⟩
    · split
      · exact ⟨rfl, rfl⟩
      · have hkeeps (u : State) (f : TeleSession → TeleSession) (k : Nat) : ((u.received p).onTele k f).bare.offNet = u.bare.offNet := by
          rw [onTele_offNet, received_bare]
        split
        · split
          · exact ⟨hkeeps .., rfl⟩
          · rw [teleSend_bare, teleSend_pending]
            exact ⟨hkeeps .., rfl⟩
        · split
          · exact ⟨hkeeps .., rfl⟩
          · rw [teleSend_bare, teleSend_pending]
            exact ⟨hkeeps .., rfl⟩

theorem readObjects_unreached {m : Maint} {ok : Bool} {ids : List Nat} {s : State} (h : s.reach m.key 0 = false) : readObjects m ok ids s = s :=
  if_pos (by simp [h])

theorem readObjects_bad {m : Maint} {ok : Bool} {ids : List Nat} {s : State} (hreach : s.reach m.key 0 = true)
    (h : ok = false ∨ ids = [] ∨ 8 < ids.length) : readObjects m ok ids s = s.badTele := by
  have hbad : (!ok || ids.isEmpty || !decide (ids.length ≤ 8)) = true := by
    rcases h with h | h | h
    · simp [h]
    · simp [h]
    · simp [h]
  unfold readObjects
  rw [if_neg (by simp [hreach]), if_pos hbad]

/-- The answer to the read of one object. -/
def State.readAnswer (s : State) (i : Nat) : List Nat := readEntries 1416 [(i, s.readObject i)]

/-- The bucket that reads from a plant client are taken from. -/
def State.requestTokens (s : State) (key : Nat) (c : CfgTele) : Rat :=
  bucketNow c.reqRate c.reqRate (s.tele key).client.tokens (s.tele key).client.filledAt s.now

theorem readObjects_plant {m : Maint} {i : Nat} {c : CfgTele} {s : State} (hreach : s.reach m.key 0 = true) (hkey : m.key ≠ 8)
    (hclient : s.teleCfg m.key = some c) : readObjects m true [i] s =
      if s.requestTokens m.key c < 1 then
        (s.received m.port).onTele m.key fun y => { y with client := { y.client with dropped := wrapInc y.client.dropped } }
      else ((s.received m.port).onTele m.key fun y => { y with client := { y.client with tokens := s.requestTokens m.key c - 1, filledAt := some s.now } }).teleSend
        .teleReply m.key 7 m.seq (s.readAnswer i) := by
  have hclient : (s.received m.port).teleCfg m.key = some c := hclient
  unfold readObjects
  rw [if_neg (by simp [hreach]), if_neg (by simp), if_neg hkey]
  dsimp only
  rw [hclient]
  dsimp only
  rw [if_neg hkey]
  rfl

theorem readObjects_maint {m : Maint} {i : Nat} {c : CfgTele} {s : State} (hreach : s.reach m.key 0 = true) (hkey : m.key = 8)
    (hclient : s.teleCfg m.key = some c)
    (hroom : (udp (s.readAnswer i).length : Rat) ≤ bucketNow c.rate c.depth (s.tele 8).octets (s.tele 8).octetsAt s.now) : readObjects m true [i] s =
      ((s.received 3).onTele 8 fun y => { y with
        octets := bucketNow c.rate c.depth (s.tele 8).octets (s.tele 8).octetsAt s.now - udp (s.readAnswer i).length, octetsAt := some s.now }).teleSend
          .teleReply 8 7 m.seq (s.readAnswer i) := by
  have hclient : (s.received 3).teleCfg 8 = some c := hkey ▸ hclient
  unfold readObjects
  rw [if_neg (by simp [hreach]), if_neg (by simp), if_pos hkey, hkey]
  dsimp only
  rw [hclient]
  dsimp only
  rw [if_pos rfl]
  exact if_neg hroom.not_gt

/-! ### Data frames (17 R432 to R434) -/

theorem exec_dataPublication (t : Nat) (k : Fin 9) (o a b n : Nat) (c : Bool) (s : State) :
    exec (.dataPublication t k o a b n c) s = s.run t (dataPublication k.val o a b n c) := rfl

/-- Nothing is delivered without a session or without a subscription. -/
theorem deliver_none {s : State} {key : Nat} (h : (s.tele key).client.session = 0 ∨ (s.tele key).selectors = []) (o a b n : Nat) (c : Bool) :
    s.deliver key o a b n c = s := by
  refine if_pos ?_
  rcases h with h | h
  · exact .inl h
  · exact .inr (.inl (by simp [h]))

/-- The record of an object in a data frame (17 R432). -/
def State.dataRecord (s : State) (oid : Nat) : List Nat := octetsOf 4 oid ++ octetsOf 2 (s.nt.store.get oid []).length ++ s.nt.store.get oid []

theorem dataRecord_length (s : State) (oid : Nat) : (s.dataRecord oid).length = 6 + (s.nt.store.get oid []).length := by
  unfold State.dataRecord
  rw [List.length_append, List.length_append, octetsOf_length, octetsOf_length]

/-- A publication of one instance that a selector takes goes out in one data frame. -/
theorem deliver_single {s : State} {key o i n : Nat} {ch : Bool} (hsession : (s.tele key).client.session ≠ 0) (hrun : s.pw.state ≠ .flushing)
    (htaken : ((s.tele key).selectors.any fun y => y.takes o i n (s.tele key).shed ch) = true) (hstored : s.nt.store.get (o + i) [] ≠ []) :
    s.deliver key o i i n ch = let r := s.dataFrame key [s.dataRecord (o + i)] false
      if r.2 then r.1.onTele key fun y => { y with shed := min 7 (y.shed + 1) } else r.1 := by
  have hone : (List.range (i + 1 - i)).map (· + i) = [i] := by simp
  unfold State.deliver
  dsimp only
  rw [hone, List.filter_cons_of_pos (by simp [htaken, hstored]), List.filter_nil, List.map_singleton]
  rw [if_neg (by simp [hsession, hrun])]
  rfl

/-- The octet bucket of a session. -/
def State.octetTokens (s : State) (key : Nat) (c : CfgTele) : Rat := bucketNow c.rate c.depth (s.tele key).octets (s.tele key).octetsAt s.now

theorem dataFrame_sent {s : State} {key : Nat} {c : CfgTele} {r : List Nat} (hclient : s.teleCfg key = some c)
    (hroom : (udp (8 + r.length) : Rat) ≤ s.octetTokens key c) : ∃ v, s.dataFrame key [r] false = (v, false) ∧ (∃ e, e ∈ v.out ∧ e.kind = .teleData ∧ e.port = key) ∧
      v.tele key = { s.tele key with
        octets := s.octetTokens key c - udp (8 + r.length), octetsAt := some s.now, dropped := 0, sent10 := (s.tele key).sent10 + udp (8 + r.length) } := by
  have hbody : [r].flatMap id = r := by simp
  have hroom : ¬ bucketNow c.rate c.depth (s.tele key).octets (s.tele key).octetsAt s.now < (udp (8 + r.length) : Rat) := hroom.not_gt
  unfold State.dataFrame
  rw [hclient, hbody]
  dsimp only
  rw [if_neg (by simp [hroom])]
  exact ⟨_, rfl, ⟨_, emitted .., rfl, rfl⟩, (teleSend_tele ..).trans (tele_onTele_same ..)⟩

theorem dataFrame_dropped {s : State} {key : Nat} {c : CfgTele} {r : List Nat} (hclient : s.teleCfg key = some c)
    (hlow : s.octetTokens key c < (udp (8 + r.length) : Rat)) : s.dataFrame key [r] false =
      (s.onTele key fun y => { y with octets := s.octetTokens key c, octetsAt := some s.now, dropped := wrapInc y.dropped, lastDrop := s.now, sent10 := 0 }, true) := by
  have hbody : [r].flatMap id = r := by simp
  have hlow' : bucketNow c.rate c.depth (s.tele key).octets (s.tele key).octetsAt s.now < (udp (8 + r.length) : Rat) := hlow
  unfold State.dataFrame
  rw [hclient, hbody]
  dsimp only
  rw [if_pos (by simp [hlow'])]
  rfl

/-- A publication is due: on a change, or once in its period (17 R433). -/
def State.publicationDue (s : State) (key o i n p top : Nat) (ch : Bool) : Prop :=
  ch = true ∨ p ≠ 0 ∧ top = 0 ∧ i = 0 ∧ s.sweepAbs = n ∧ s.turnOpen ((key + 2) * 0x1000000 + o / 4096) (ms p) 0 = true

/-- A due publication of one instance is delivered, in a state that differs in the marks of the turns alone. -/
theorem dataPublication_due {s : State} {key o i n p top : Nat} {ch : Bool} (hobject : s.object o = some (p, top)) (hdue : s.publicationDue key o i n p top ch) :
    ∃ u : State, dataPublication key o i i n ch s = u.deliver key o i i (if ch then 0 else n / p) ch ∧ u = { s with th := u.th } := by
  unfold dataPublication
  rw [hobject]
  dsimp only
  rcases hdue with rfl | ⟨hperiod, rfl, rfl, hsweep, hturn⟩
  · exact ⟨s, rfl, rfl⟩
  · cases ch
    · refine ⟨s.turnTaken ((key + 2) * 0x1000000 + o / 4096), ?_, rfl⟩
      rw [if_neg (by decide), if_neg (by simp [hperiod, hsweep]), turn_open hturn, if_neg (by decide)]
    · exact ⟨s, rfl, rfl⟩

/-- The meaning of SHED_FACTOR_RELAX. -/
def shedRelax (key : Nat) (s : State) : State :=
  let x := s.tele key
  if x.lastDrop + sec 10 ≤ s.now ∧ 0 < x.shed then
    match s.teleCfg key with
    | none => s
    | some c =>
      let calm := decide (x.sent10 * 100 ≤ 45 * c.rate * 10)
      s.onTele key fun y => { y with shed := if calm then y.shed - 1 else y.shed, lastDrop := s.now, sent10 := 0 }
  else s

theorem exec_shedFactorRelax (t : Nat) (k : Fin 9) (s : State) : exec (.shedFactorRelax t k) s = s.run t (shedRelax k.val) := rfl

/-! ### Commands (17 R435, R436) -/

/-- The meaning of UNKNOWN_COMMAND. -/
def unknownCommand (m : Maint) (code : Nat) (s : State) : State := if code ∈ commandCodes then s else s.maint m code fun s => (s, stInvalid, 0, [])

theorem exec_unknownCommand (t : Nat) (m : Maint) (code : Nat) (s : State) : exec (.unknownCommand t m code) s = s.run t (unknownCommand m code) := rfl

/-- The meaning of CONFIRM_REPLACEMENT. -/
def confirmReplacement (node : Nat) (s : State) : State × Nat × Nat × List Nat :=
  if !s.leads then refuse 1 s
  else if 127 < node then (s, stInvalid, 0, [])
  else if (s.node node).adm ≠ .pending then refuse 13 s
  else done (s.onNode node fun x => { x with adm := .admitted, replacement := false })

theorem exec_confirmReplacement (t : Nat) (m : Maint) (n : Nat) (s : State) :
    exec (.confirmReplacement t m n) s = s.run t fun s => s.maint m 0x0501 (confirmReplacement n) := rfl

theorem cmdAnswer_node (s : State) (m : Maint) (code status reason : Nat) (r : List Nat) (n : Nat) : (s.cmdAnswer m code status reason r).node n = s.node n := rfl

theorem confirmReplacement_refused {n : Nat} {s : State} (h : s.leads = false ∨ 127 < n ∨ (s.node n).adm ≠ .pending) :
    ∃ status reason, confirmReplacement n s = (s, status, reason, []) ∧ cmdReply 0x0501 status reason [] =
      if s.leads = false then cmdReply 0x0501 stRefused 1 [] else if 127 < n then cmdReply 0x0501 stInvalid 0 [] else cmdReply 0x0501 stRefused 13 [] := by
  unfold confirmReplacement
  cases hleads : s.leads
  · exact ⟨stRefused, 1, rfl, rfl⟩
  · by_cases hn : 127 < n
    · exact ⟨stInvalid, 0, by simp [hn], by simp [hn]⟩
    · have hadm : (s.node n).adm ≠ .pending := by simpa [hleads, hn] using h
      exact ⟨stRefused, 13, by simp [hn, hadm, refuse], by simp [hn]⟩

theorem confirmReplacement_done {n : Nat} {s : State} (hleads : s.leads = true) (hn : n ≤ 127) (hadm : (s.node n).adm = .pending) :
    confirmReplacement n s = (s.onNode n fun x => { x with adm := .admitted, replacement := false }, stDone, 0, []) := by
  unfold confirmReplacement
  rw [if_neg (by simp [hleads]), if_neg (by omega), if_neg (by simp [hadm])]
  rfl

/-- Settles O42: each client frame by whether its session takes it, and a publication by what its octet bucket holds. -/
theorem telemetrySessions : Obligations.TelemetrySessions := by
  refine ⟨?resetOff, ?resetBad, ?reset, ?subscribed, ?badSelector, ?tooMany, ?noRight, ?untaken, ?readBeside, ?readOff, ?readBad, ?readPlant, ?readEmpty,
    ?readMaint, ?noPublication, ?publication, ?noRelax, ?relax, ?known, ?unknown, ?refused, ?confirmed⟩
  case resetOff =>
    intro t m k s hreach
    have hreach : (s.begin t).reach m.key 1 = false := hreach
    exact idles_of (exec_telemetryInterfaceReset ..) (if_pos (by simp [hreach]))
  case resetBad =>
    intro t m s hreach
    have hreach : (s.begin t).reach m.key 1 = true := hreach
    have hbad : teleReset m false (s.begin t) = (s.begin t).badTele := (if_neg (by simp [hreach])).trans (if_pos rfl)
    exact does_of (exec_telemetryInterfaceReset ..) (by rw [hbad]; rfl)
  case reset =>
    intro t m c s hreach hclient
    have hmeaning := teleReset_opens (s := s.begin t) hreach hclient
    refine answers_of (exec_telemetryInterfaceReset ..) ?_
    rw [hmeaning]
    have hsent := emitted ((s.begin t).sessionOpened m) .teleReady m.key
      (((s.begin t).sessionOpened m).frame protoTele 2 0 0 m.seq ([stDone, 0, 0, 0] ++ octetsOf 4 (s.begin t).nt.nextSession))
    have hstored (k : Nat) : (s.settle (s.keep t (((s.begin t).sessionOpened m).teleSend .teleReady m.key 2 m.seq
        ([stDone, 0, 0, 0] ++ octetsOf 4 (s.begin t).nt.nextSession)))).tele k =
        if k = m.key then (s.tele m.key).opened s.nt.nextSession (max s.now t) else s.tele k := by
      rw [settle_tele, teleSend_tele, sessionOpened_tele]
      rfl
    have hown := (hstored m.key).trans (if_pos rfl)
    refine ⟨?_, ?_, ?_, ?_, ?_, ?_, ⟨_, mem_settle hsent s, rfl, rfl⟩, ?_, fun k hk => (hstored k).trans (if_neg hk)⟩
    · rw [hown]; rfl
    · rw [hown]; rfl
    · rw [hown]; rfl
    · rw [hown]; rfl
    · rw [hown]; rfl
    · rw [settled_nextSession]; rfl
    · rw [settle_up]
      exact endedFor_session ..
  case subscribed =>
    intro t m sels d r c s htakes hright hok hfew
    rw [← begun_selectorOk s t m] at hok
    refine answers_subscribe (u := (((s.begin t).commandTaken m).onTele m.key fun x => { x with selectors := sels, port := d }, [stDone, 0, 0, 0])) htakes ?_ fun s' hs' => ?_
    · rw [if_neg (by simp [hright]), subscription_valid hok, if_neg (by omega)]
    · rw [hs', tele_onTele_same, commandTaken_tele]
      exact ⟨rfl, rfl, rfl, rfl⟩
  case badSelector =>
    intro t m sels d r c i s htakes hright hbad
    rw [← begun_selectorOk s t m] at hbad
    refine answers_subscribe (u := ((s.begin t).commandTaken m, [stInvalid, 1 + i, 0, 0])) htakes ?_ fun s' hs' => ?_
    · rw [if_neg (by simp [hright]), subscription_invalid hbad]
    · rw [hs', commandTaken_tele]
      exact ⟨rfl, rfl⟩
  case tooMany =>
    intro t m sels d r c s htakes hright hok hmany
    rw [← begun_selectorOk s t m] at hok
    refine answers_subscribe (u := ((s.begin t).commandTaken m, [stInvalid, 0, 0, 0])) htakes ?_ fun s' hs' => ?_
    · rw [if_neg (by simp [hright]), subscription_valid hok, if_pos hmany]
    · rw [hs', commandTaken_tele]
      exact ⟨rfl, rfl⟩
  case noRight =>
    intro t m sels d r c s htakes hright
    refine answers_subscribe (u := ((s.begin t).commandTaken m, [stNotAllowed, 0, 0, 0])) htakes (if_pos ⟨by decide, by simp [hright]⟩) fun s' hs' => ?_
    rw [hs', commandTaken_tele]
    exact ⟨rfl, rfl⟩
  case untaken =>
    intro t m k sels d r s h
    refine answers_tele (k := m.key) (exec_subscribe ..) rfl fun s' hs' => ?_
    rw [hs']
    exact sessionFrame_untaken (s := s.begin t) (by decide) k h
  case readBeside =>
    intro t m k ids s
    obtain ⟨hbare, hqueue⟩ := readObjects_offNet m k ids (s.begin t)
    rw [begin_bare] at hbare
    have hrest := settled_beside State.offNet (s := s) hqueue hbare t
    exact answers_of (exec_read ..) hrest
  case readOff =>
    intro t m k ids s hreach
    exact idles_of (exec_read ..) (readObjects_unreached (s := s.begin t) hreach)
  case readBad =>
    intro t m k ids s hreach hbad
    exact does_of (exec_read ..) (by rw [readObjects_bad (s := s.begin t) hreach hbad]; rfl)
  case readPlant =>
    intro t m i c s hreach hkey hclient htoken
    refine sends_of (exec_read ..) ?_
    have htoken : ¬ (s.begin t).requestTokens m.key c < 1 := htoken.not_gt
    rw [readObjects_plant (s := s.begin t) hreach hkey hclient, if_neg htoken]
    exact emitted ..
  case readEmpty =>
    intro t m i c s hreach hkey hclient hempty
    have hempty : (s.begin t).requestTokens m.key c < 1 := hempty
    refine answers_of (exec_read ..) ?_
    rw [readObjects_plant (s := s.begin t) hreach hkey hclient, if_pos hempty, settle_tele, tele_onTele_same]
    refine ⟨rfl, withholds_iff.1 (withholds_settle ⟨by decide, by decide, by decide⟩ ?_ s)⟩
    exact rfl
  case readMaint =>
    intro t m i c s hreach hkey hclient hroom
    refine sends_of (exec_read ..) ?_
    rw [readObjects_maint (s := s.begin t) hreach hkey hclient hroom]
    exact emitted ..
  case noPublication =>
    intro t k o a b n c s h
    refine does_of (exec_dataPublication ..) ?_
    have hdeliver (u : State) (hu : u.tele k.val = s.tele k.val) (a b n : Nat) (c : Bool) (hnone : (s.tele k.val).client.session = 0 ∨ (s.tele k.val).selectors = []) :
        u.deliver k.val o a b n c = u := deliver_none (by rwa [hu]) ..
    rcases h with h | ⟨rfl, hsweep⟩ | hnone
    · unfold dataPublication
      rw [begin_object, h]
      exact begin_bare ..
    · unfold dataPublication
      split
      · exact begin_bare ..
      · rw [if_neg (by decide), if_pos (.inr hsweep)]
        exact begin_bare ..
    · have hnone : (s.tele k.val).client.session = 0 ∨ (s.tele k.val).selectors = [] := hnone
      unfold dataPublication
      split
      · exact begin_bare ..
      · split
        · rw [hdeliver (s.begin t) rfl _ _ _ _ hnone]
          exact begin_bare ..
        · split
          · exact begin_bare ..
          · unfold State.turn State.turnFrom
            split
            · dsimp only
              rw [hdeliver ((s.begin t).turnTaken _) rfl _ _ _ _ hnone, turnTaken_bare]
              exact begin_bare ..
            · exact begin_bare ..
  case publication =>
    intro t k o i n ch c p top s hrun hobject hdue hclient hsession htaken hstored
    obtain ⟨u, hmeaning, hu⟩ := dataPublication_due (s := s.begin t) ((begin_object ..).trans hobject) hdue
    have htele : u.tele k.val = s.tele k.val := by rw [hu]; rfl
    have hstore : u.nt.store = s.nt.store := by rw [hu]; rfl
    have hstate : u.pw.state = s.pw.state := by rw [hu]; rfl
    have hnow : u.now = max s.now t := by rw [hu]; rfl
    have hclient : u.teleCfg k.val = some c := by rw [hu]; exact hclient
    have htokens : u.octetTokens k.val c = bucketNow c.rate c.depth (s.tele k.val).octets (s.tele k.val).octetsAt (max s.now t) := by
      unfold State.octetTokens
      rw [htele, hnow]
    have hdeliver := deliver_single (s := u) (key := k.val) (o := o) (i := i) (n := if ch then 0 else n / p) (ch := ch) (by rwa [htele]) (by rwa [hstate])
      (by rwa [htele]) (by rwa [hstore])
    have hsize : (u.dataRecord (o + i)).length = 6 + (s.nt.store.get (o + i) []).length := by rw [dataRecord_length, hstore]
    dsimp only
    rw [← htokens, ← hsize]
    refine ⟨fun hroom => ?_, fun hlow => ?_⟩
    · obtain ⟨v, hframe, ⟨e, he, hkind, hport⟩, hv⟩ := dataFrame_sent hclient hroom
      rw [hframe] at hdeliver
      have hmeaning := hmeaning.trans (hdeliver.trans (if_neg Bool.false_ne_true))
      refine answers_of (exec_dataPublication ..) ?_
      rw [hmeaning, settle_tele, hv, htele]
      exact ⟨⟨e, mem_settle (s := s.keep t v) he s, hkind, hport⟩, rfl, rfl, rfl, rfl⟩
    · rw [dataFrame_dropped hclient hlow] at hdeliver
      refine answers_tele (k := k.val) (exec_dataPublication ..) (hmeaning.trans hdeliver) fun s' hs' => ?_
      rw [hs', if_pos rfl, tele_onTele_same, tele_onTele_same, htele, hnow]
      exact ⟨rfl, rfl, rfl⟩
  case noRelax =>
    intro t k s h
    refine idles_of (exec_shedFactorRelax ..) (if_neg ?_)
    rintro ⟨htime, hshed⟩
    rcases h with h | h
    · exact absurd h hshed.ne'
    · exact absurd htime h.not_ge
  case relax =>
    intro t k c s hshed htime hclient
    have hmeaning : shedRelax k.val (s.begin t) = (s.begin t).onTele k.val fun y => { y with
        shed := if decide ((s.tele k.val).sent10 * 100 ≤ 45 * c.rate * 10) then y.shed - 1 else y.shed, lastDrop := max s.now t, sent10 := 0 } := by
      have hclient : (s.begin t).teleCfg k.val = some c := hclient
      unfold shedRelax
      dsimp only
      rw [hclient]
      exact if_pos ⟨htime, hshed⟩
    refine answers_tele (k := k.val) (exec_shedFactorRelax ..) hmeaning fun s' hs' => ?_
    rw [hs', tele_onTele_same]
    exact ⟨if_congr decide_eq_true_iff rfl rfl, rfl, rfl⟩
  case known =>
    intro t m c s hknown
    exact idles_of (exec_unknownCommand ..) (if_pos hknown)
  case unknown =>
    intro t m c s hunknown htakes
    have hmeaning : unknownCommand m c = fun s => s.maint m c fun s => (s, stInvalid, 0, []) := funext fun u => if_neg hunknown
    have hcommand := exec_unknownCommand t m c s
    rw [hmeaning] at hcommand
    refine answers_maint hcommand htakes rfl fun s' _ hstored hrest => ⟨hstored, ?_⟩
    rw [begun_offNet] at hrest
    exact hrest
  case refused =>
    intro t m n s htakes h
    obtain ⟨status, reason, hrefused, hreply⟩ := confirmReplacement_refused (s := (s.begin t).commandTaken m) h
    refine answers_taken (exec_confirmReplacement ..) htakes hrefused ?_
    rw [settle_node, settle_tele, cmdAnswer_stored, cmdAnswer_node, hreply]
    exact ⟨rfl, rfl⟩
  case confirmed =>
    intro t m n s htakes hleads hn hadm
    refine answers_taken (exec_confirmReplacement ..) htakes (confirmReplacement_done (s := (s.begin t).commandTaken m) hleads hn hadm) ?_
    refine ⟨?_, ?_, ?_, fun k hk => ?_⟩
    · rw [settle_node, cmdAnswer_node, node_onNode_same]
    · rw [settle_node, cmdAnswer_node, node_onNode_same]
    · rw [settle_tele, cmdAnswer_stored]
    · rw [settle_node, cmdAnswer_node, node_onNode_other _ hk]
      rfl

end Sys2Proof.Machine
/-! Four statements that speak of every entry of a table and do not ask for a canonical one (14 R357, R367; 18 R458; 19 R473). A table maps its entries and drops those that become
the default, so that a second entry of the same key, which was never read, comes into sight. -/

namespace Sys2Proof.Machine

open Sys2Proof

/-! ### The nodes at a wake -/

/-- Hibernate with the first wake latch set, and two entries for node 0: the first one is read, and the second one holds a learned state only. -/
def twoNodeEntries : State :=
  { State.reset with
    pw := { State.reset.pw with state := .hibernate, latches := 1 }
    ra := { State.reset.ra with nodes := ⟨[(0, { adm := .admitted }), (0, { blockIdent := some 5 })]⟩ } }

/-- Refutes O34: the wake drops the admitted entry of node 0, which is afresh by default, and the node reads as its second entry, with the learned state of another block. -/
theorem not_hibernation : ¬ Obligations.Hibernation := by
  rintro ⟨-, -, -, -, -, -, -, -, -, hwake, -⟩
  obtain ⟨s', he, -, -, -, -, -, -, hafresh, -⟩ := hwake 0 {} twoNodeEntries rfl (by decide) rfl
  have hrun : exec (.wakeSequence 0 {}) twoNodeEntries = twoNodeEntries.run 0 (wakeSequence {}) := rfl
  obtain ⟨s'', he', hread⟩ := answers_of (P := fun s' => (s'.node 0).blockIdent = some 5) hrun (by rw [settle_node]; rfl)
  cases he.symm.trans he'
  exact absurd ((congrArg NodeCtl.blockIdent (hafresh 0)).symm.trans hread) (by decide)

/-! ### The coils at the end of a refresh -/

/-- The end of a refresh (14 R357): the trip switches of a twin open. -/
def refreshExpiry (s : State) : State :=
  if s.isTwin && s.tw.trips && decide (s.tw.lastRefresh + 8000 ≤ s.now) then
    (s.onTwin fun w => { w with trips := false }).onCont fun c => { c with coils := c.coils.mapAll {} fun _ c => { c with tripClosed := false } }
  else s

theorem exec_tripSwitchRefreshExpiry (t : Nat) (s : State) : exec (.tripSwitchRefreshExpiry t) s = s.run t refreshExpiry := rfl

/-- The refresh that ends opens the trip switch of every entry. -/
theorem coils_tripSwitchRefreshExpiry {s : State} {t : Nat} (htwin : s.isTwin = true) (htrips : s.tw.trips = true) (hdue : s.tw.lastRefresh + 8000 ≤ max s.now t) :
    Answers (.tripSwitchRefreshExpiry t) s fun s' => s'.ct.coils = s.ct.coils.mapAll {} fun _ c => { c with tripClosed := false } := by
  refine answers_of (exec_tripSwitchRefreshExpiry ..) ?_
  have hdue' : decide ((s.begin t).tw.lastRefresh + 8000 ≤ (s.begin t).now) = true := decide_eq_true hdue
  have hends : ((s.begin t).isTwin && (s.begin t).tw.trips && decide ((s.begin t).tw.lastRefresh + 8000 ≤ (s.begin t).now)) = true := by
    rw [hdue', begin_tw, htrips, Bool.and_true, Bool.and_true]
    exact htwin
  rw [settled_coils, refreshExpiry, if_pos hends]
  rfl

/-- A twin whose refresh of the trip switches ended, with two entries for K1: the first one is read, and the second one is held closed. -/
def twoCoilEntries : State :=
  { State.reset with
    cfg := { State.reset.cfg with twin := { State.reset.cfg.twin with mode := 1 } }
    tw := { State.reset.tw with trips := true }
    ct := { State.reset.ct with coils := ⟨[(1, { tripClosed := true }), (1, { phase := .hold })]⟩ } }

/-- Refutes O30: opened, the first entry of K1 is the default and goes, and the coil's phase is that of its second entry. -/
theorem not_twinHeartbeats : ¬ Obligations.TwinHeartbeats := by
  rintro ⟨-, -, -, -, -, -, -, -, -, -, -, -, -, -, -, hexpiry, -⟩
  obtain ⟨s', he, -, hcoils⟩ := hexpiry 8000 twoCoilEntries rfl rfl (by decide)
  obtain ⟨s'', he', hread⟩ := coils_tripSwitchRefreshExpiry (s := twoCoilEntries) (t := 8000) rfl rfl (by decide)
  cases he.symm.trans he'
  have hphase : (s'.coil 1).phase = .hold := by
    rw [State.coil, hread]
    rfl
  exact absurd ((hcoils 1).2.symm.trans hphase) (by decide)

/-! ### The coils of a leader that hands over -/

/-- An acknowledged leader whose handover instant has come, with two entries for K1: the first one is read, and the second one has its trip switch closed. -/
def twoHandedEntries : State :=
  { State.reset with
    tw := { State.reset.tw with role := .leader, handoverAt := some 0, handoverAck := true, handoverCause := 6 }
    ct := { State.reset.ct with coils := ⟨[(1, { phase := .hold }), (1, { tripClosed := true })]⟩ } }

/-- Refutes O31: without its phase, the first entry of K1 is the default and goes, and the coil's trip switch is that of its second entry. -/
theorem not_twinHandover : ¬ Obligations.TwinHandover := by
  rintro ⟨-, -, -, -, -, -, -, -, -, -, -, -, -, -, hhands, -⟩
  obtain ⟨s', he, -, -, -, -, -, hcoils⟩ := hhands 0 0 twoHandedEntries rfl (by decide) rfl rfl rfl
  have hrun : exec (.handoverInstant 0) twoHandedEntries = twoHandedEntries.run 0 handoverInstant := rfl
  obtain ⟨s'', he', hread⟩ := answers_of (P := fun s' => (s'.coil 1).tripClosed = true) hrun (by rw [settled_coil]; rfl)
  cases he.symm.trans he'
  exact absurd ((hcoils 1).2.symm.trans hread) (by decide)

/-! ### The CAN channels of a leader -/

theorem settleTwin_cn (s : State) : s.settleTwin.cn = s.cn ∧ s.settleTwin.cfg = s.cfg ∧ s.settleTwin.tw.role = s.tw.role := by
  unfold State.settleTwin
  dsimp only
  split
  · split <;> simp
  · exact ⟨rfl, rfl, rfl⟩

theorem settleCan_cn_congr {a b : State} (hcn : a.cn = b.cn) (hcfg : a.cfg = b.cfg) (hrole : a.tw.role = b.tw.role) : a.settleCan.cn = b.settleCan.cn := by
  unfold State.settleCan State.isTwin State.leads
  rw [hcn, hcfg, hrole]
  rw [apply_ite State.cn, apply_ite State.cn, State.onCan_cn, State.onCan_cn, hcn]

theorem settleHolds_cn (s : State) : s.settleHolds.cn = s.cn := by
  unfold State.settleHolds
  dsimp only
  split <;> rfl

theorem settleCandidate_cn (s : State) : s.settleCandidate.cn = s.cn := by
  unfold State.settleCandidate
  dsimp only
  split <;> rfl

theorem cn_of_quiet {a b : State} (h : a.quiet = b.quiet) : a.cn = b.cn := (congrArg State.cn h :)

theorem settleShadow_cn (s old : State) : (s.settleShadow old).cn = s.cn := cn_of_quiet (settleShadow_quiet s old)
theorem settleOut_cn (s : State) (o : Nat) : (s.settleOut o).cn = s.cn := (congrArg State.cn (settleOut_outless s o) :)
theorem goosePublish_cn (s : State) : s.goosePublish.cn = s.cn := (congrArg State.cn (goosePublish_still s) :)
theorem pubChanges_cn (old s : State) : (old.pubChanges s).cn = s.cn := cn_of_quiet (pubChanges_quiet old s)
theorem settlePorts_cn (s : State) : s.settlePorts.cn = s.cn := (congrArg State.cn (settlePorts_still s) :)

/-- Settling lets the CAN channels follow the twin's role, and does nothing else to them (18 R458). -/
theorem settle_cn (old s : State) : (old.settle s).cn = s.settleCan.cn := by
  have hwrapped : ∀ w, w = (if s.ro.wrapped && !old.ro.wrapped then s.record .storeWrapped 0 [] else s) → w.cn = s.cn ∧ w.cfg = s.cfg ∧ w.tw.role = s.tw.role := by
    rintro w rfl
    split <;> simp
  unfold State.settle
  dsimp only
  generalize (if s.ro.wrapped && !old.ro.wrapped then s.record .storeWrapped 0 [] else s) = w at hwrapped ⊢
  obtain ⟨hcn, hcfg, hrole⟩ := hwrapped w rfl
  obtain ⟨hcn', hcfg', hrole'⟩ := settleTwin_cn w
  refine (settlePorts_cn _).trans ((pubChanges_cn _ _).trans ((goosePublish_cn _).trans ((settleOut_cn _ _).trans ((settleOut_cn _ _).trans ?_))))
  rw [State.settleStop, State.onRantus_cn, settleShadow_cn, settleCandidate_cn, settleHolds_cn]
  exact settleCan_cn_congr (hcn'.trans hcn) (hcfg'.trans hcfg) (hrole'.trans hrole)

/-- A leader of a twin, with two entries for CAN channel 0: the first one is read, and the second one has counted errors. -/
def twoChannelEntries : State :=
  { State.reset with
    cfg := { State.reset.cfg with twin := { State.reset.cfg.twin with mode := 1 } }
    tw := { State.reset.tw with role := .leader }
    cn := { State.reset.cn with chans := ⟨[(0, { }), (0, { tec := 5, state := .restricted })]⟩ } }

/-- Refutes O36: a twin's channels follow its role at every step. The second entry of channel 0 is restricted, so that the entries are mapped; the first one is the default and
goes, and the channel's error counter is that of the second. -/
theorem not_canChannels : ¬ Obligations.CanChannels := by
  rintro ⟨hdue, -⟩
  obtain ⟨-, s', he, htec, -, -⟩ := hdue 0 0 0 twoChannelEntries
  have hrun : exec (.canTransmissionDue 0 0 0) twoChannelEntries = twoChannelEntries.run 0 (canDue 0 0) := rfl
  have heffect : canDue 0 0 (twoChannelEntries.begin 0) = twoChannelEntries.begin 0 := rfl
  obtain ⟨s'', he', hread⟩ := answers_of (P := fun s' => s'.cn.chans = ⟨[(0, { tec := 5, state := .active })]⟩) hrun (by
    rw [heffect, settle_cn]
    rfl)
  cases he.symm.trans he'
  have hread' : (s'.can 0).tec = 5 := by
    rw [State.can, hread]
    rfl
  exact absurd (htec.symm.trans hread') (by decide)

end Sys2Proof.Machine
/-! What settling leaves of the plant master's state, and what sending and taking a frame of dispatch leave of the rest (15 R380, R402 to R404). -/

namespace Sys2Proof.Machine

open Sys2Proof

/-! ### What two states share that differ in what they recorded, published and emitted -/

section
variable {a b : State} (h : a.still = b.still)
include h

theorem ma_of_still : a.ma = b.ma := (congrArg State.ma h :)
theorem di_of_still : a.di = b.di := (congrArg State.di h :)
theorem pw_of_still : a.pw = b.pw := (congrArg State.pw h :)
theorem now_of_still : a.now = b.now := (congrArg State.now h :)
theorem client_of_still (c : Nat) : a.client c = b.client c := congrArg (fun m : Master => m.clients.get c {}) (ma_of_still h)
theorem leads_of_still : a.leads = b.leads := (congrArg State.leads h :)
theorem still_onMaster (f : Master → Master) : (a.onMaster f).still = (b.onMaster f).still := (congrArg (fun v : State => v.onMaster f) h :)
theorem still_onDispatch (f : Dispatch → Dispatch) : (a.onDispatch f).still = (b.onDispatch f).still := (congrArg (fun v : State => v.onDispatch f) h :)

end

@[simp] theorem record_still (s : State) (e : Ev) (n : Nat) (d : List Nat) : (s.record e n d).still = s.still := still_of_quiet (record_quiet ..)
@[simp] theorem publish_still (s : State) (o : Nat) (b : List Nat) : (s.publish o b).still = s.still := still_of_quiet (publish_quiet ..)
@[simp] theorem writeItem_still (s : State) (k : Nat) (p : List Nat) : (s.writeItem k p).still = s.still := still_of_quiet (writeItem_quiet ..)
@[simp] theorem received_still (s : State) (p : Nat) : (s.received p).still = s.still := rfl

/-! ### What settling leaves of the plant master's state (15 R402, R403) -/

theorem settleCandidate_ma_congr {a b : State} (hma : a.ma = b.ma) (hcandidate : a.isCandidate = b.isCandidate) (hdi : a.di = b.di) (hnow : a.now = b.now) :
    a.settleCandidate.ma = b.settleCandidate.ma := by
  unfold State.settleCandidate
  rw [hma, hcandidate, hdi, hnow, apply_ite State.ma, apply_ite State.ma, State.onMaster_ma, State.onMaster_ma, hma]

/-- What candidacy reads: the plant master's state, the candidate's standing, the dispatch and the time of the step. -/
def State.candidacy (s : State) : Master × Bool × Dispatch × Nat := (s.ma, s.isCandidate, s.di, s.now)

theorem record_candidacy (s : State) (e : Ev) (n : Nat) (d : List Nat) : (s.record e n d).candidacy = s.candidacy := by
  have hcandidate : (s.record e n d).isCandidate = s.isCandidate := isCandidate_of_still (record_still ..) (portUp_of_quiet (record_quiet ..))
  rw [State.candidacy, hcandidate, record_ma, record_di, record_now]
  rfl

theorem settleTwin_candidacy (s : State) : s.settleTwin.candidacy = s.candidacy := by
  unfold State.settleTwin
  dsimp only
  split
  · split
    · rfl
    · exact record_candidacy ..
  · rfl

theorem settleCan_candidacy (s : State) : s.settleCan.candidacy = s.candidacy := by
  unfold State.settleCan
  exact (apply_ite State.candidacy ..).trans (ite_self _)

theorem settleHolds_candidacy (s : State) : s.settleHolds.candidacy = s.candidacy := by
  unfold State.settleHolds
  dsimp only
  split <;> rfl

theorem ma_of_quiet {a b : State} (h : a.quiet = b.quiet) : a.ma = b.ma := (congrArg State.ma h :)

theorem settleShadow_ma (s old : State) : (s.settleShadow old).ma = s.ma := ma_of_quiet (settleShadow_quiet s old)
theorem settleOut_ma (s : State) (o : Nat) : (s.settleOut o).ma = s.ma := (congrArg State.ma (settleOut_outless s o) :)
theorem goosePublish_ma (s : State) : s.goosePublish.ma = s.ma := ma_of_still (goosePublish_still s)
theorem pubChanges_ma (old s : State) : (old.pubChanges s).ma = s.ma := ma_of_quiet (pubChanges_quiet old s)
theorem settlePorts_ma (s : State) : s.settlePorts.ma = s.ma := ma_of_still (settlePorts_still s)

/-- Settling lets candidacy follow its conditions, and does nothing else to the plant master's state (15 R402). -/
theorem settle_ma (old s : State) : (old.settle s).ma = s.settleCandidate.ma := by
  have hwrapped : (if s.ro.wrapped && !old.ro.wrapped then s.record .storeWrapped 0 [] else s).candidacy = s.candidacy := by
    split
    · exact record_candidacy ..
    · rfl
  unfold State.settle
  dsimp only
  generalize (if s.ro.wrapped && !old.ro.wrapped then s.record .storeWrapped 0 [] else s) = w at hwrapped ⊢
  have hcandidacy : w.settleTwin.settleCan.settleHolds.candidacy = s.candidacy := by
    rw [settleHolds_candidacy, settleCan_candidacy, settleTwin_candidacy, hwrapped]
  obtain ⟨hma, hcandidate, hdi, hnow⟩ : w.settleTwin.settleCan.settleHolds.ma = s.ma ∧ w.settleTwin.settleCan.settleHolds.isCandidate = s.isCandidate ∧
      w.settleTwin.settleCan.settleHolds.di = s.di ∧ w.settleTwin.settleCan.settleHolds.now = s.now := by
    simpa only [State.candidacy, Prod.mk.injEq] using hcandidacy
  refine (settlePorts_ma _).trans ((pubChanges_ma _ _).trans ((goosePublish_ma _).trans ((settleOut_ma _ _).trans ((settleOut_ma _ _).trans ?_))))
  rw [State.settleStop, State.onRantus_ma, settleShadow_ma]
  exact settleCandidate_ma_congr hma hcandidate hdi hnow

/-- After a step the plant master's state is what the command left, but for candidacy: a claim ends with it, and L0 moves where it begins. -/
theorem settled_ma (s u : State) (t : Nat) : ∃ c l l0, (s.settle (s.keep t u)).ma = { u.ma with candidate := c, claiming := l, l0 := l0 } ∧
    (u.ma.claiming = false → l = false) ∧ (u.isCandidate = u.ma.candidate → l = u.ma.claiming ∧ l0 = u.ma.l0) := by
  have hcandidate : (s.keep t u).isCandidate = u.isCandidate := rfl
  rw [settle_ma]
  unfold State.settleCandidate
  rw [hcandidate]
  dsimp only
  split
  case isTrue hsame => exact ⟨_, _, _, rfl, id, fun _ => ⟨rfl, rfl⟩⟩
  case isFalse hdiffers => exact ⟨_, _, _, rfl, fun hfree => by rw [State.keep, hfree]; rfl, fun hsame => absurd hsame hdiffers⟩

theorem settled_ma_of_candidate {u : State} (h : u.isCandidate = u.ma.candidate) (s : State) (t : Nat) : (s.settle (s.keep t u)).ma = u.ma := by
  rw [settle_ma]
  have hsame : (s.keep t u).isCandidate = (s.keep t u).ma.candidate := h
  rw [State.settleCandidate, if_pos hsame]
  rfl

/-! ### Frames of dispatch: sent, taken and judged (15 R380; 23 R559) -/

/-- The next sequence of a frame type is used. -/
def Master.nextSeq (ftype : Nat) (m : Master) : Master := { m with seqs := m.seqs.put ftype 0 (wrapInc (m.seqs.get ftype 0)) }

theorem dispatchSend_still (s : State) (k : EmKind) (p ftype e : Nat) (l : List Nat) :
    (s.dispatchSend k p ftype e l).still = (s.onMaster (Master.nextSeq ftype)).still := rfl

theorem dispatchSend_portUp (s : State) (k : EmKind) (p ftype e : Nat) (l : List Nat) (q : Nat) : (s.dispatchSend k p ftype e l).portUp q = s.portUp q := rfl

/-- A frame of dispatch is emitted under its kind, to its port. -/
theorem dispatchSend_emits (s : State) (k : EmKind) (p ftype e : Nat) (l : List Nat) : ∃ x, x ∈ (s.dispatchSend k p ftype e l).out ∧ x.kind = k ∧ x.port = p := by
  unfold State.dispatchSend
  exact ⟨_, emitted .., rfl, rfl⟩

theorem mem_dispatchSend {s : State} {x : Emission} (h : x ∈ s.out) (k : EmKind) (p ftype e : Nat) (l : List Nat) : x ∈ (s.dispatchSend k p ftype e l).out := by
  unfold State.dispatchSend
  exact mem_emit h ..

/-- The verdict on a sender, late or not. -/
def Dispatch.judged (late : Bool) (from_ : Nat) (d : Dispatch) : Dispatch := { d with lateRun := late, lateFrom := from_ }

/-- What the judgement of an accepted frame can do: it says whether its sender is late. -/
theorem acceptedDispatch_eq (s : State) (h : DHdr) : ∃ late from_, s.acceptedDispatch h = s.onDispatch (Dispatch.judged late from_) := by
  unfold State.acceptedDispatch
  split
  · exact ⟨true, h.sender, rfl⟩
  · exact ⟨s.di.lateRun, s.di.lateFrom, rfl⟩

theorem acceptedDispatch_ma (s : State) (h : DHdr) : (s.acceptedDispatch h).ma = s.ma := by
  obtain ⟨_, _, heq⟩ := acceptedDispatch_eq s h
  rw [heq]
  rfl

/-- The state with a frame of dispatch received and accepted. -/
def State.dispatchTaken (s : State) (h : DHdr) : State := (s.received h.port).acceptedDispatch h

/-- A taken frame leaves everything but the judgement of its sender. -/
theorem dispatchTaken_still (s : State) (h : DHdr) :
    ∃ late from_, (s.dispatchTaken h).still = (s.onDispatch (Dispatch.judged late from_)).still := by
  obtain ⟨late, from_, heq⟩ := acceptedDispatch_eq (s.received h.port) h
  exact ⟨late, from_, (congrArg State.still heq).trans (still_onDispatch (received_still ..) _)⟩

theorem received_portUp (s : State) (p q : Nat) : (s.received p).portUp q = s.portUp q := by
  unfold State.received State.portUp
  by_cases hpq : q = p
  · subst hpq
    rw [State.onNet_nt, Table.get_upd_same]
  · rw [State.onNet_nt, Table.get_upd_other _ hpq]

theorem dispatchTaken_portUp (s : State) (h : DHdr) (q : Nat) : (s.dispatchTaken h).portUp q = s.portUp q := by
  obtain ⟨late, from_, heq⟩ := acceptedDispatch_eq (s.received h.port) h
  exact (congrArg (fun v : State => v.portUp q) heq).trans (received_portUp ..)

theorem dispatchTaken_ma (s : State) (h : DHdr) : (s.dispatchTaken h).ma = s.ma := acceptedDispatch_ma ..

theorem dispatchTaken_isMaster (s : State) (h : DHdr) : (s.dispatchTaken h).isMaster = s.isMaster := by
  obtain ⟨_, _, hstill⟩ := dispatchTaken_still s h
  exact (congrArg State.isMaster hstill :)

theorem dispatchTaken_isCandidate (s : State) (h : DHdr) : (s.dispatchTaken h).isCandidate = s.isCandidate := by
  obtain ⟨_, _, hstill⟩ := dispatchTaken_still s h
  exact isCandidate_of_still (b := s.onDispatch _) hstill (dispatchTaken_portUp s h)

theorem dispatchTaken_seenEpoch (s : State) (h : DHdr) : (s.dispatchTaken h).seenEpoch = s.seenEpoch := by
  obtain ⟨_, _, hstill⟩ := dispatchTaken_still s h
  exact (congrArg State.seenEpoch hstill :)

/-! ### Taking up and losing the role (15 R402 to R405) -/

theorem cmdAnswer_still (s : State) (m : Maint) (code status reason : Nat) (r : List Nat) : (s.cmdAnswer m code status reason r).still = s.still := rfl
theorem cmdAnswer_portUp (s : State) (m : Maint) (code status reason : Nat) (r : List Nat) (q : Nat) : (s.cmdAnswer m code status reason r).portUp q = s.portUp q := rfl

theorem cmdFinal_still (s : State) (code status reason : Nat) (r : List Nat) : (s.cmdFinal code status reason r).still = s.still :=
  cmdFinal_keeps State.still cmdAnswer_still ..

theorem cmdFinal_portUp (s : State) (code status reason : Nat) (r : List Nat) (q : Nat) : (s.cmdFinal code status reason r).portUp q = s.portUp q :=
  cmdFinal_keeps (fun v => v.portUp q) (fun s m code status reason r => cmdAnswer_portUp s m code status reason r q) ..

theorem mem_cmdFinal {s : State} {x : Emission} (h : x ∈ s.out) (code status reason : Nat) (r : List Nat) : x ∈ (s.cmdFinal code status reason r).out := by
  refine List.foldlRecOn (motive := fun u : State => x ∈ u.out) _ _ h fun u hu k _ => ?_
  split
  · split
    · unfold State.cmdAnswer
      exact mem_emit hu ..
    · exact hu
  · exact hu

/-- What the plant master's state is once the role is lost (15 R404). -/
def Master.lost (m : Master) : Master :=
  { m with holds := false, draining := none, handover := none, spRequests := [], exRequests := [], ops := [], claiming := false }

theorem loseMaster_still (s : State) : s.loseMaster.still = (s.onMaster Master.lost).still := by
  unfold State.loseMaster
  dsimp only
  rw [record_still]
  split
  · exact cmdFinal_still ..
  · rfl

theorem loseMaster_portUp (s : State) (q : Nat) : s.loseMaster.portUp q = s.portUp q := by
  unfold State.loseMaster
  dsimp only
  rw [portUp_of_quiet (record_quiet ..)]
  split
  · exact cmdFinal_portUp ..
  · rfl

theorem loseMaster_ma (s : State) : s.loseMaster.ma = s.ma.lost := ma_of_still (loseMaster_still s)

theorem loseMaster_isCandidate (s : State) : s.loseMaster.isCandidate = s.isCandidate :=
  isCandidate_of_still (b := s.onMaster Master.lost) (loseMaster_still s) (loseMaster_portUp s)

theorem keepEpoch_still (s : State) (e : Nat) : (s.keepEpoch e).still = (s.onMaster fun m => { m with epoch := e }).still := writeItem_still ..

/-- What the plant master's state is once the role is taken with an epoch, before target and set-point are given (15 R404, R405). -/
def Master.taken (e : Nat) (m : Master) : Master :=
  { m with
    epoch := e, holds := true, clients := {}, spRequests := [], exRequests := [], ops := [], claiming := false, draining := none, handover := none
    incoming := none, expired := false, expiryRamp := false, cycle := none, sent := none }

theorem takeMaster_still (s : State) (e : Nat) (f : Master → Master) : (s.takeMaster e f).still = (s.onMaster fun m => f (m.taken e)).still := by
  unfold State.takeMaster
  dsimp only
  rw [record_still]
  exact still_onMaster (keepEpoch_still s e) _

theorem takeMaster_ma (s : State) (e : Nat) (f : Master → Master) : (s.takeMaster e f).ma = f (s.ma.taken e) := ma_of_still (takeMaster_still s e f)

end Sys2Proof.Machine
/-! Requests to the plant master (15 R390 to R397): what taking one writes, how it is answered, and the operations it becomes. -/

namespace Sys2Proof.Machine

open Sys2Proof

/-! ### What a request leaves of the plant master's state -/

/-- The plant master's state without its clients, counters and sequences, and without candidacy: what a request changes only where it is taken. -/
def Master.plant (m : Master) : Master := { m with clients := {}, recent := [], seqs := {}, candidate := false, claiming := false, l0 := 0 }

theorem plant_reads {a b : Master} (h : a.plant = b.plant) : a.spRequests = b.spRequests ∧ a.exRequests = b.exRequests ∧ a.ops = b.ops ∧ a.target = b.target ∧
    a.excluded = b.excluded ∧ a.nextSession = b.nextSession ∧ a.nextOp = b.nextOp :=
  ⟨(congrArg Master.spRequests h :), (congrArg Master.exRequests h :), (congrArg Master.ops h :), (congrArg Master.target h :), (congrArg Master.excluded h :),
    (congrArg Master.nextSession h :), (congrArg Master.nextOp h :)⟩

theorem settled_plant (s u : State) (t : Nat) : (s.settle (s.keep t u)).ma.plant = u.ma.plant := settled_part (fun v : State => v.ma.plant) s u t
theorem settled_client (s u : State) (t c : Nat) : (s.settle (s.keep t u)).client c = u.client c := settled_part (fun v : State => v.client c) s u t

theorem settled_emits {u : State} {x : Emission} (h : x ∈ u.out) (s : State) (t : Nat) : x ∈ (s.settle (s.keep t u)).out := mem_settle (by exact h) s

theorem onClient_plant (s : State) (c : Nat) (f : Client → Client) : (s.onClient c f).ma.plant = s.ma.plant := rfl
theorem count_plant (s : State) (k n : Nat) : (s.count k n).ma.plant = s.ma.plant := rfl
theorem sendResponse_plant (s : State) (c : Nat) (l : List Nat) : (s.sendResponse c l).ma.plant = s.ma.plant := rfl

theorem sendResponse_emits (s : State) (c : Nat) (l : List Nat) : ∃ x, x ∈ (s.sendResponse c l).out ∧ x.kind = .response ∧ x.port = c := dispatchSend_emits ..

theorem respond_plant (s : State) (c session status reason : Nat) (allocated : Int) (horizon : Nat) :
    (s.respond c session status reason allocated horizon).ma.plant = s.ma.plant := by
  unfold State.respond
  split
  · rfl
  · exact (onClient_plant ..).trans (sendResponse_plant ..)

theorem rateExceeded_plant (s : State) (c : Nat) (k : CfgClient) : (s.rateExceeded c k).ma.plant = s.ma.plant := by
  unfold State.rateExceeded
  dsimp only
  split
  · exact (count_plant ..).trans (onClient_plant ..)
  · exact (sendResponse_plant ..).trans ((count_plant ..).trans (onClient_plant ..))

theorem onClient_client (s : State) (c : Nat) (f : Client → Client) : (s.onClient c f).client c = f (s.client c) := by
  unfold State.onClient State.client
  rw [State.onMaster_ma, Table.get_upd_same]

/-- What an answer reads of the plant master's state. -/
theorem responseTo_congr {a b : State} (h : a.ma.avail = b.ma.avail) (status reason : Nat) (allocated : Int) (horizon session : Nat) :
    a.responseTo_ status reason allocated horizon session = b.responseTo_ status reason allocated horizon session := by
  unfold State.responseTo_
  rw [h]

/-- An answer within the session that stands is stored (15 R391). -/
theorem respond_client {s : State} {c session : Nat} (h : (s.client c).session = session) (status reason : Nat) (allocated : Int) (horizon : Nat) :
    (s.respond c session status reason allocated horizon).client c = { s.client c with stored := s.responseTo_ status reason allocated horizon 0 } := by
  unfold State.respond
  rw [if_neg (not_not.2 h)]
  dsimp only
  rw [onClient_client]
  rfl

/-! ### The request frame (15 R380, R391 to R393, R397) -/

theorem request_ignored {s : State} (h : s.isMaster = false) (q : ReqIn) (right : Nat) (body : Nat → State → State) : s.request q right body = s := by
  unfold State.request
  rw [h]
  rfl

theorem request_bad {s : State} {q : ReqIn} (h : s.isMaster = true) (hbad : q.ok = false) (right : Nat) (body : Nat → State → State) :
    s.request q right body = s.badDispatch := by
  unfold State.request
  rw [h, hbad]
  rfl

/-- A token of a client's bucket taken at receipt (15 R397). -/
def State.tokenTaken (s : State) (c : Nat) (k : CfgClient) : State :=
  (s.onClient c fun x => { x with tokens := bucketNow k.rate k.depth (s.client c).tokens (s.client c).filledAt s.now - 1, filledAt := some s.now }).count 0 0

theorem takeToken_eq (s : State) (c : Nat) (k : CfgClient) :
    s.takeToken c k = if bucketNow k.rate k.depth (s.client c).tokens (s.client c).filledAt s.now < 1 then none else some (s.tokenTaken c k) := rfl

theorem tokenTaken_client (s : State) (c : Nat) (k : CfgClient) : (s.tokenTaken c k).client c =
    { s.client c with tokens := bucketNow k.rate k.depth (s.client c).tokens (s.client c).filledAt s.now - 1, filledAt := some s.now } := onClient_client ..

theorem tokenTaken_plant (s : State) (c : Nat) (k : CfgClient) : (s.tokenTaken c k).ma.plant = s.ma.plant := rfl

/-- The state with an admitted request received: a token taken, and its sequence kept. -/
def State.requestTaken (s : State) (q : ReqIn) (c : Nat) (k : CfgClient) : State :=
  ((s.received q.port).tokenTaken c k).onClient c fun x => { x with lastSeq := q.seq, stored := [] }

/-- What a taken request leaves: its client's session stands, with the new sequence and no answer yet, and the plant is as it was. -/
theorem requestTaken_still (s : State) (q : ReqIn) (c : Nat) (k : CfgClient) :
    ∃ clients recent, (s.requestTaken q c k).still = (s.onMaster fun m => { m with clients := clients, recent := recent }).still ∧
      (clients.get c {}).session = (s.client c).session ∧ (clients.get c {}).lastSeq = q.seq ∧ (clients.get c {}).stored = [] := by
  obtain ⟨clients, recent, htoken, hsession⟩ : ∃ clients recent, (s.received q.port).tokenTaken c k =
      (s.received q.port).onMaster (fun m => { m with clients := clients, recent := recent }) ∧ (clients.get c {}).session = (s.client c).session :=
    ⟨_, _, rfl, (congrArg Client.session (tokenTaken_client (s.received q.port) c k) :)⟩
  refine ⟨clients.upd c {} fun x => { x with lastSeq := q.seq, stored := [] }, recent, ?_, ?_⟩
  · rw [State.requestTaken, htoken]
    rfl
  · rw [Table.get_upd_same]
    exact ⟨hsession, rfl, rfl⟩

/-- An admitted request is taken where its client has the right, and answered NOT ALLOWED where it lacks it. -/
theorem request_admitted {s : State} {q : ReqIn} {c : Nat} {k : CfgClient} (h : s.admits q c k) (right : Nat) (body : Nat → State → State) :
    s.request q right body = if k.rights.testBit right then body c (s.requestTaken q c k)
      else (s.requestTaken q c k).respond c q.session stNotAllowed 0 0 s.ma.horizon := by
  obtain ⟨hmaster, hok, hclient, hentry, htoken, hopen, hsession, hseq⟩ := h
  have htaken : (s.received q.port).takeToken c k = some ((s.received q.port).tokenTaken c k) := (takeToken_eq ..).trans (if_neg (not_lt.2 htoken))
  have hentry : (s.received q.port).cfg.clients[c]? = some k := hentry
  have hstands : ¬ (q.session = 0 ∨ (((s.received q.port).tokenTaken c k).client c).session ≠ q.session) := by
    rw [tokenTaken_client]
    exact not_or.2 ⟨hopen, not_not.2 hsession⟩
  have hnew : (((s.received q.port).tokenTaken c k).client c).lastSeq < q.seq := by
    rw [tokenTaken_client]
    exact hseq
  unfold State.request
  rw [hmaster, hok]
  dsimp only [Bool.not_true, Bool.false_eq_true, if_false]
  rw [hclient]
  dsimp only
  rw [hentry]
  dsimp only
  rw [htaken]
  dsimp only
  rw [if_neg hstands, if_neg hnew.ne', if_neg hnew.not_gt]
  cases k.rights.testBit right <;> rfl

/-- A request of another session, or of a repeated or lower sequence, changes nothing in the plant. -/
theorem request_untaken {s : State} {q : ReqIn} {c : Nat} (hclient : q.client = some c)
    (h : q.session = 0 ∨ (s.client c).session ≠ q.session ∨ q.seq ≤ (s.client c).lastSeq) (right : Nat) (body : Nat → State → State) :
    (s.request q right body).ma.plant = s.ma.plant := by
  unfold State.request
  rw [hclient]
  dsimp only
  split
  · rfl
  · split
    · rfl
    · split
      · rfl
      · next k _ =>
        rw [takeToken_eq]
        split
        next => exact rateExceeded_plant ..
        next s1 htaken =>
          obtain rfl : (s.received q.port).tokenTaken c k = s1 := by
            split at htaken
            · cases htaken
            · exact Option.some.inj htaken
          have hplant : ((s.received q.port).tokenTaken c k).ma.plant = s.ma.plant := rfl
          split
          · exact (sendResponse_plant ..).trans hplant
          · next hstands =>
            split
            · split
              · exact hplant
              · exact (sendResponse_plant ..).trans hplant
            · split
              · exact (onClient_plant ..).trans hplant
              · next hother hlower =>
                obtain ⟨hopen, hsession⟩ := not_or.1 hstands
                rw [tokenTaken_client] at hsession hother hlower
                rcases h with h | h | h
                · exact absurd h hopen
                · exact absurd h hsession
                · exact absurd (lt_of_le_of_ne h hother) hlower

theorem requestTaken_plant (s : State) (q : ReqIn) (c : Nat) (k : CfgClient) : (s.requestTaken q c k).ma.plant = s.ma.plant := by
  obtain ⟨_, _, hstill, -⟩ := requestTaken_still s q c k
  exact (congrArg (fun v : State => v.ma.plant) hstill :)

theorem requestTaken_horizon (s : State) (q : ReqIn) (c : Nat) (k : CfgClient) : (s.requestTaken q c k).ma.horizon = s.ma.horizon :=
  (congrArg Master.horizon (requestTaken_plant s q c k) :)

theorem requestTaken_avail (s : State) (q : ReqIn) (c : Nat) (k : CfgClient) : (s.requestTaken q c k).ma.avail = s.ma.avail :=
  (congrArg Master.avail (requestTaken_plant s q c k) :)

theorem requestTaken_plantStrings (s : State) (q : ReqIn) (c : Nat) (k : CfgClient) : (s.requestTaken q c k).plantStrings = s.plantStrings := by
  obtain ⟨_, _, hstill, -⟩ := requestTaken_still s q c k
  exact (congrArg State.plantStrings hstill :)

section
variable {cmd : Instr} {s : State} {t right c : Nat} {q : ReqIn} {k : CfgClient} {body : Nat → State → State}
  (he : exec cmd s = s.run t fun s => s.request q right body) (hadmits : (s.begin t).admits q c k)
include he hadmits

/-- An admitted request with the right is what its body makes of the state that took it. -/
theorem answers_request {v : State} {P : State → Prop} (hright : k.rights.testBit right = true) (hbody : body c ((s.begin t).requestTaken q c k) = v)
    (h : P (s.settle (s.keep t v))) : Answers cmd s P := by
  refine answers_of he ?_
  rwa [request_admitted hadmits, if_pos hright, hbody]

/-- An admitted request that is answered at once has its answer stored under its sequence, and changes nothing in the plant. -/
theorem answers_responded {status reason : Nat} (hbody : (s.begin t).request q right body =
      ((s.begin t).requestTaken q c k).respond c q.session status reason 0 ((s.begin t).requestTaken q c k).ma.horizon) :
    Answers cmd s fun s' => s'.ma.plant = s.ma.plant ∧ (s'.client c).stored = s.responseTo_ status reason 0 s.ma.horizon 0 ∧ (s'.client c).lastSeq = q.seq := by
  obtain ⟨-, -, -, -, -, -, hsession, -⟩ := hadmits
  obtain ⟨_, _, hstill, hstands, hseq, -⟩ := requestTaken_still (s.begin t) q c k
  have hclient := client_of_still hstill c
  have hopen : (((s.begin t).requestTaken q c k).client c).session = q.session := (congrArg Client.session hclient).trans (hstands.trans hsession)
  refine answers_of he ?_
  rw [hbody, settled_plant, respond_plant, settled_client, respond_client hopen, requestTaken_horizon, requestTaken_plant]
  exact ⟨rfl, responseTo_congr (requestTaken_avail ..) .., (congrArg Client.lastSeq hclient).trans hseq⟩

end

/-! ### A request becomes an operation (15 R394, R395) -/

/-- The state with a new operation in flight, its frame sent. -/
def State.operationAdded (s : State) (o : Operation) : State :=
  (s.onMaster fun m => { m with ops := m.ops ++ [o], nextOp := wrapInc m.nextOp }).sendOperation o

/-- The branch and the string of a request are in range for an operation of a kind. -/
def Fits (q : ReqIn) (kind : Nat) : Prop := (if 4 ≤ kind then q.branch ≤ 3 else q.branch = 255) ∧ q.string ≤ 127

/-- The operation a request becomes. -/
def State.operationOf (s : State) (q : ReqIn) (kind c : Nat) : Operation :=
  { ident := s.ma.nextOp, string := q.string, kind := kind, branch := q.branch, deadline := (s.sweepNo + 300) % two32, client := c, session := q.session
    body := q.body kind, receivedAt := s.now, sentAt := s.now }

section
variable {s : State} {q : ReqIn} {kind : Nat} (hkind : kind = 2 ∨ kind = 3 ∨ kind = 4 ∨ kind = 5) (c : Nat)
include hkind

theorem fits_iff : (!(if kind = 4 ∨ kind = 5 then decide (q.branch ≤ 3) else decide (q.branch = 255)) || !decide (q.string ≤ 127)) = false ↔ Fits q kind := by
  unfold Fits
  rcases hkind with rfl | rfl | rfl | rfl <;> simp

theorem newOperation_of_fits (h : Fits q kind) : s.newOperation q kind c =
    if !decide (q.string ∈ s.plantStrings) then s.respond c q.session stRefused 12 0 s.ma.horizon
    else if s.handingOver then s.respond c q.session stBusy 4 0 s.ma.horizon
    else if 2 ≤ (s.ma.ops.filter fun o => decide (o.string = q.string)).length then s.respond c q.session stBusy 1 0 s.ma.horizon
    else s.operationAdded (s.operationOf q kind c) :=
  if_neg (by rw [(fits_iff hkind).2 h]; exact Bool.false_ne_true)

theorem newOperation_invalid (h : ¬ Fits q kind) : s.newOperation q kind c = s.respond c q.session stInvalid 0 0 s.ma.horizon :=
  if_pos (by rwa [← fits_iff hkind, Bool.not_eq_false] at h)

theorem newOperation_unknown (h : Fits q kind) (hunknown : q.string ∉ s.plantStrings) : s.newOperation q kind c = s.respond c q.session stRefused 12 0 s.ma.horizon := by
  rw [newOperation_of_fits hkind c h, decide_eq_false hunknown]
  rfl

variable (hfits : Fits q kind) (hknown : q.string ∈ s.plantStrings)
include hfits hknown

theorem newOperation_handingOver (h : s.handingOver = true) : s.newOperation q kind c = s.respond c q.session stBusy 4 0 s.ma.horizon := by
  rw [newOperation_of_fits hkind c hfits, decide_eq_true hknown, h]
  rfl

variable (hsettled : s.handingOver = false)
include hsettled

theorem newOperation_crowded (h : 2 ≤ (s.ma.ops.filter fun o => decide (o.string = q.string)).length) :
    s.newOperation q kind c = s.respond c q.session stBusy 1 0 s.ma.horizon := by
  rw [newOperation_of_fits hkind c hfits, decide_eq_true hknown, hsettled]
  exact if_pos h

theorem newOperation_taken (h : (s.ma.ops.filter fun o => decide (o.string = q.string)).length < 2) : s.newOperation q kind c =
    s.operationAdded (s.operationOf q kind c) := by
  rw [newOperation_of_fits hkind c hfits, decide_eq_true hknown, hsettled]
  exact if_neg h.not_ge

end

/-! ### Operations in flight (15 R395, R396) -/

theorem opOf_congr {a b : State} (h : a.ma = b.ma) (i : Nat) : a.opOf i = b.opOf i := by
  unfold State.opOf
  rw [h]

theorem opOf_ident {s : State} {i : Nat} {o : Operation} (h : s.opOf i = some o) : o.ident = i := by
  unfold State.opOf at h
  have hfound := List.find?_some h
  exact of_decide_eq_true hfound

theorem sendOperation_ops (s : State) (o : Operation) : (s.sendOperation o).ma.ops = s.ma.ops := rfl
theorem sendOperation_emits (s : State) (o : Operation) : ∃ x, x ∈ (s.sendOperation o).out ∧ x.kind = .operation := by
  obtain ⟨x, hsent, hkind, -⟩ := dispatchSend_emits s .operation 0 5 s.seenEpoch (octetsOf 4 o.ident ++ octetsOf 4 o.deadline ++ o.body)
  exact ⟨x, hsent, hkind⟩

theorem settled_ops (s u : State) (t : Nat) : (s.settle (s.keep t u)).ma.ops = u.ma.ops := settled_part (fun v : State => v.ma.ops) s u t
theorem settled_clients (s u : State) (t : Nat) : (s.settle (s.keep t u)).ma.clients = u.ma.clients := settled_part (fun v : State => v.ma.clients) s u t

theorem operationAdded_ma (s : State) (o : Operation) :
    (s.operationAdded o).ma = Master.nextSeq 5 { s.ma with ops := s.ma.ops ++ [o], nextOp := wrapInc s.ma.nextOp } := rfl

theorem operationAdded_emits (s : State) (o : Operation) : ∃ x, x ∈ (s.operationAdded o).out ∧ x.kind = .operation := sendOperation_emits ..

theorem settled_operationAdded_ops (s u : State) (t : Nat) (o : Operation) : (s.settle (s.keep t (u.operationAdded o))).ma.ops = u.ma.ops ++ [o] :=
  (settled_ops ..).trans (congrArg Master.ops (operationAdded_ma u o))

theorem settled_operationAdded_nextOp (s u : State) (t : Nat) (o : Operation) : (s.settle (s.keep t (u.operationAdded o))).ma.nextOp = wrapInc u.ma.nextOp :=
  (settled_part (fun v : State => v.ma.nextOp) ..).trans (congrArg Master.nextOp (operationAdded_ma u o))

theorem operationAdded_client (s : State) (o : Operation) (c : Nat) : (s.operationAdded o).client c = s.client c :=
  (congrArg (fun m : Master => m.clients.get c {}) (operationAdded_ma s o) :)

/-- What an ended operation leaves: the others in flight, and its answer where its client's session stands (15 R396). -/
theorem endOperation_ops (s : State) (o : Operation) (status reason : Nat) :
    (s.endOperation o status reason).ma.ops = s.ma.ops.filter fun x => !decide (x.ident = o.ident) :=
  (congrArg Master.ops (respond_plant (s.onMaster fun m => { m with ops := m.ops.filter fun x => !decide (x.ident = o.ident) }) ..) :)

theorem endOperation_stored {s : State} {o : Operation} (h : (s.client o.client).session = o.session) (status reason : Nat) :
    ((s.endOperation o status reason).client o.client).stored = s.responseTo_ status reason 0 s.ma.horizon 0 :=
  congrArg Client.stored (respond_client (s := s.onMaster fun m => { m with ops := m.ops.filter fun x => !decide (x.ident = o.ident) }) h ..)

/-- The repeat of an operation's frame, 20 ms after its last sending (15 R395). -/
def operationRepeat (i : Nat) (s : State) : State :=
  match s.opOf i with
  | some o =>
    if s.isMaster && decide (o.sentAt + ms 20 ≤ s.now) then
      (s.onMaster fun m => { m with ops := m.ops.map fun x => if x.ident = i then { x with sentAt := s.now } else x }).sendOperation o
    else s
  | none => s

/-- The end of an operation 450 ms after its receipt (15 R396). -/
def operationExpiry (i : Nat) (s : State) : State :=
  match s.opOf i with
  | some o => if s.isMaster && decide (o.receivedAt + ms 450 ≤ s.now) then s.endOperation o stTimeout 0 else s
  | none => s

/-- The result of an operation, which ends it (15 R395, R396, R404). -/
def operationResult (h : DHdr) (i status reason sweep : Nat) (s : State) : State :=
  if !s.netOn then s
  else if !hdrGood h || !decide (status ≤ 8) then s.badDispatch
  else match (s.dispatchTaken h).opOf i with
    | some o =>
      if (s.dispatchTaken h).isMaster && decide ((s.dispatchTaken h).ma.epoch ≤ h.epoch) && decide (o.string = h.sender) && decide (sweep < two32) then
        (s.dispatchTaken h).endOperation o status reason
      else s.dispatchTaken h
    | none => s.dispatchTaken h

theorem exec_operationFrameRepeat (t i : Nat) (s : State) : exec (.operationFrameRepeat t i) s = s.run t (operationRepeat i) := rfl
theorem exec_operationTimeout (t i : Nat) (s : State) : exec (.operationTimeout t i) s = s.run t (operationExpiry i) := rfl
theorem exec_operationResultReceived (t : Nat) (h : DHdr) (i st r w : Nat) (s : State) :
    exec (.operationResultReceived t h i st r w) s = s.run t (operationResult h i st r w) := rfl

theorem operationRepeat_due {s : State} {i : Nat} {o : Operation} (hop : s.opOf i = some o) (hmaster : s.isMaster = true) (hdue : o.sentAt + ms 20 ≤ s.now) :
    operationRepeat i s = (s.onMaster fun m => { m with ops := m.ops.map fun x => if x.ident = i then { x with sentAt := s.now } else x }).sendOperation o := by
  rw [operationRepeat, hop]
  dsimp only
  rw [hmaster, decide_eq_true hdue]
  rfl

theorem operationExpiry_due {s : State} {i : Nat} {o : Operation} (hop : s.opOf i = some o) (hmaster : s.isMaster = true) (hdue : o.receivedAt + ms 450 ≤ s.now) :
    operationExpiry i s = s.endOperation o stTimeout 0 := by
  rw [operationExpiry, hop]
  dsimp only
  rw [hmaster, decide_eq_true hdue]
  rfl

section
variable {s : State} {h : DHdr} {st : Nat} (hnet : s.netOn = true) (hgood : hdrGood h = true) (hst : st ≤ 8) (i r w : Nat)
include hnet hgood hst

theorem operationResult_taken : operationResult h i st r w s = match s.opOf i with
    | some o => if s.isMaster && decide (s.ma.epoch ≤ h.epoch) && decide (o.string = h.sender) && decide (w < two32) then (s.dispatchTaken h).endOperation o st r
      else s.dispatchTaken h
    | none => s.dispatchTaken h := by
  unfold operationResult
  rw [hnet, hgood, decide_eq_true hst, opOf_congr (dispatchTaken_ma s h), dispatchTaken_isMaster, dispatchTaken_ma]
  rfl

theorem operationResult_unknown (hop : s.opOf i = none) : operationResult h i st r w s = s.dispatchTaken h := by
  rw [operationResult_taken hnet hgood hst, hop]

variable {o : Operation} (hop : s.opOf i = some o)
include hop

theorem operationResult_ends (hmaster : s.isMaster = true) (hepoch : s.ma.epoch ≤ h.epoch) (hstring : o.string = h.sender) (hw : w < two32) :
    operationResult h i st r w s = (s.dispatchTaken h).endOperation o st r := by
  rw [operationResult_taken hnet hgood hst, hop]
  dsimp only
  rw [hmaster, decide_eq_true hepoch, decide_eq_true hstring, decide_eq_true hw]
  rfl

theorem operationResult_stale (hepoch : h.epoch < s.ma.epoch) : operationResult h i st r w s = s.dispatchTaken h := by
  rw [operationResult_taken hnet hgood hst, hop]
  dsimp only
  rw [decide_eq_false hepoch.not_ge, Bool.and_false, Bool.false_and, Bool.false_and]
  rfl

end

theorem operationResult_bad {s : State} {h : DHdr} {st : Nat} (hnet : s.netOn = true) (hbad : hdrGood h = false ∨ 8 < st) (i r w : Nat) :
    operationResult h i st r w s = s.badDispatch := by
  have hbad : (!hdrGood h || !decide (st ≤ 8)) = true := by
    rcases hbad with hbad | hbad
    · rw [hbad]
      rfl
    · rw [decide_eq_false hbad.not_ge, Bool.not_false, Bool.or_true]
  rw [operationResult, hnet, hbad]
  rfl

/-! ### Interface resets (15 R390) -/

/-- The state with the next session opened for a client. -/
def State.dispatchOpened (s : State) (q : ReqIn) (c : Nat) (k : CfgClient) : State :=
  (((s.received q.port).tokenTaken c k).onMaster fun m => { m with nextSession := max 1 (wrapInc m.nextSession) }).onClient c fun x =>
    { x with session := s.ma.nextSession, lastSeq := 0, stored := [] }

theorem dispatchOpened_client (s : State) (q : ReqIn) (c : Nat) (k : CfgClient) : ((s.dispatchOpened q c k).client c).session = s.ma.nextSession ∧
    ((s.dispatchOpened q c k).client c).lastSeq = 0 ∧ ((s.dispatchOpened q c k).client c).stored = [] := by
  rw [State.dispatchOpened, onClient_client]
  exact ⟨rfl, rfl, rfl⟩

theorem dispatchOpened_plant (s : State) (q : ReqIn) (c : Nat) (k : CfgClient) :
    (s.dispatchOpened q c k).ma.plant = ({ s.ma with nextSession := max 1 (wrapInc s.ma.nextSession) } : Master).plant :=
  (onClient_plant ..).trans (congrArg (fun m : Master => { m with nextSession := max 1 (wrapInc m.nextSession) }) (tokenTaken_plant (s.received q.port) c k))

theorem dispatchReset_opens {s : State} {q : ReqIn} {c : Nat} {k : CfgClient} (hmaster : s.isMaster = true) (hok : q.ok = true) (hclient : q.client = some c)
    (hentry : s.cfg.clients[c]? = some k) (htoken : 1 ≤ bucketNow k.rate k.depth (s.client c).tokens (s.client c).filledAt s.now) :
    ∃ answer, dispatchReset q s = (s.dispatchOpened q c k).sendResponse c answer := by
  have htaken : (s.received q.port).takeToken c k = some ((s.received q.port).tokenTaken c k) := (takeToken_eq ..).trans (if_neg (not_lt.2 htoken))
  have hentry : (s.received q.port).cfg.clients[c]? = some k := hentry
  unfold dispatchReset
  rw [hmaster, hok]
  dsimp only [Bool.not_true, Bool.false_eq_true, if_false]
  rw [hclient]
  dsimp only
  rw [hentry]
  dsimp only
  rw [htaken]
  exact ⟨_, rfl⟩

theorem dispatchReset_ignored {s : State} (h : s.isMaster = false) (q : ReqIn) : dispatchReset q s = s := by
  unfold dispatchReset
  rw [h]
  rfl

/-! ### The obligation -/

/-- A command that carries a request frame. -/
def IsRequest (cmd : Instr) (t : Nat) (q : ReqIn) : Prop :=
  cmd = .plantSetpointRequest t q ∨ cmd = .connectRequest t q ∨ cmd = .disconnectRequest t q ∨ cmd = .joinBranchRequest t q ∨ cmd = .leaveBranchRequest t q ∨
    cmd = .excludeString t q ∨ cmd = .includeString t q

theorem exec_of_isRequest {cmd : Instr} {t : Nat} {q : ReqIn} (h : IsRequest cmd t q) : ∃ right body, ∀ s, exec cmd s = s.run t fun s => s.request q right body := by
  rcases h with rfl | rfl | rfl | rfl | rfl | rfl | rfl
  all_goals exact ⟨_, _, fun _ => rfl⟩

theorem exec_operationRequest {cmd : Instr} {t kind : Nat} {q : ReqIn} (h : cmd = .connectRequest t q ∧ kind = 2 ∨ cmd = .disconnectRequest t q ∧ kind = 3 ∨
    cmd = .joinBranchRequest t q ∧ kind = 4 ∨ cmd = .leaveBranchRequest t q ∧ kind = 5) (s : State) :
    exec cmd s = s.run t fun s => s.request q 1 fun c s => s.newOperation q kind c := by
  rcases h with ⟨rfl, rfl⟩ | ⟨rfl, rfl⟩ | ⟨rfl, rfl⟩ | ⟨rfl, rfl⟩
  all_goals rfl

theorem exec_exclusion {cmd : Instr} {t : Nat} {inc : Bool} {q : ReqIn} (h : cmd = .excludeString t q ∧ inc = false ∨ cmd = .includeString t q ∧ inc = true) (s : State) :
    exec cmd s = s.run t fun s => s.request q 2 fun c s => s.exclusion q inc c := by
  rcases h with ⟨rfl, rfl⟩ | ⟨rfl, rfl⟩
  all_goals rfl

/-- What the set-point request does once it is taken (15 R387, R392). -/
def setpointBody (q : ReqIn) (c : Nat) (s : State) : State :=
  if !decide (q.string = 255) || !decide (q.branch = 255) || !decide (q.horizon ≤ 4) then s.respond c q.session stInvalid 0 0 s.ma.horizon
  else s.onMaster fun m => { m with spRequests := m.spRequests ++
    [{ client := c, session := q.session, at_ := s.now, target := q.target, ramp := q.ramp, life := q.life, horizon := q.horizon }] }

theorem exec_plantSetpointRequest (t : Nat) (q : ReqIn) (s : State) : exec (.plantSetpointRequest t q) s = s.run t fun s => s.request q 0 (setpointBody q) := rfl

theorem setpointBody_invalid {q : ReqIn} (h : q.string ≠ 255 ∨ q.branch ≠ 255 ∨ 4 < q.horizon) (c : Nat) (s : State) :
    setpointBody q c s = s.respond c q.session stInvalid 0 0 s.ma.horizon := by
  refine if_pos ?_
  simp only [Bool.or_eq_true, Bool.not_eq_true', decide_eq_false_iff_not, not_le]
  tauto

theorem setpointBody_taken {q : ReqIn} (hstring : q.string = 255) (hbranch : q.branch = 255) (hhorizon : q.horizon ≤ 4) (c : Nat) (s : State) :
    setpointBody q c s = s.onMaster fun m => { m with spRequests := m.spRequests ++
      [{ client := c, session := q.session, at_ := s.now, target := q.target, ramp := q.ramp, life := q.life, horizon := q.horizon }] } := by
  refine if_neg ?_
  simp [hstring, hbranch, hhorizon]

section
variable {q : ReqIn} (hstring : q.string ≤ 127) (hbranch : q.branch = 255) (inc : Bool) (c : Nat) (s : State)
include hstring hbranch

theorem exclusion_of_fits : s.exclusion q inc c = if !decide (q.string ∈ s.plantStrings) then s.respond c q.session stRefused 12 0 s.ma.horizon
    else s.onMaster fun m => { m with exRequests := m.exRequests ++ [(c, q.session, q.string, inc)] } :=
  if_neg (by simp [hstring, hbranch])

theorem exclusion_unknown (h : q.string ∉ s.plantStrings) : s.exclusion q inc c = s.respond c q.session stRefused 12 0 s.ma.horizon := by
  rw [exclusion_of_fits hstring hbranch, decide_eq_false h]
  rfl

theorem exclusion_taken (h : q.string ∈ s.plantStrings) :
    s.exclusion q inc c = s.onMaster fun m => { m with exRequests := m.exRequests ++ [(c, q.session, q.string, inc)] } := by
  rw [exclusion_of_fits hstring hbranch, decide_eq_true h]
  rfl

end

/-- What becomes of a taken request for an operation, by what is out of range, unknown, in progress or in flight (15 R394, R395). -/
theorem answers_operationRequest {t c kind : Nat} {q : ReqIn} {k : CfgClient} {s : State} {cmd : Instr}
    (hcmd : cmd = .connectRequest t q ∧ kind = 2 ∨ cmd = .disconnectRequest t q ∧ kind = 3 ∨ cmd = .joinBranchRequest t q ∧ kind = 4 ∨
      cmd = .leaveBranchRequest t q ∧ kind = 5) (hadmits : (s.begin t).admits q c k) (hright : k.rights.testBit 1 = true) :
    (¬ Fits q kind → Answers cmd s fun s' => s'.ma.ops = s.ma.ops ∧ (s'.client c).stored = s.responseTo_ stInvalid 0 0 s.ma.horizon 0) ∧
    (Fits q kind → q.string ∉ s.plantStrings → Answers cmd s fun s' => s'.ma.ops = s.ma.ops ∧ (s'.client c).stored = s.responseTo_ stRefused 12 0 s.ma.horizon 0) ∧
    (Fits q kind → q.string ∈ s.plantStrings → s.handingOver = true → Answers cmd s fun s' =>
      s'.ma.ops = s.ma.ops ∧ (s'.client c).stored = s.responseTo_ stBusy 4 0 s.ma.horizon 0) ∧
    (Fits q kind → q.string ∈ s.plantStrings → s.handingOver = false → 2 ≤ (s.ma.ops.filter fun o => decide (o.string = q.string)).length → Answers cmd s fun s' =>
      s'.ma.ops = s.ma.ops ∧ (s'.client c).stored = s.responseTo_ stBusy 1 0 s.ma.horizon 0) ∧
    (Fits q kind → q.string ∈ s.plantStrings → s.handingOver = false → (s.ma.ops.filter fun o => decide (o.string = q.string)).length < 2 → Answers cmd s fun s' =>
      s'.ma.ops = s.ma.ops ++ [{ (s.begin t).operationOf q kind c with ident := s.ma.nextOp }] ∧ s'.ma.nextOp = wrapInc s.ma.nextOp ∧
      (∃ e, e ∈ s'.out ∧ e.kind = .operation) ∧ (s'.client c).stored = []) := by
  have hkind : kind = 2 ∨ kind = 3 ∨ kind = 4 ∨ kind = 5 := by
    rcases hcmd with ⟨-, h⟩ | ⟨-, h⟩ | ⟨-, h⟩ | ⟨-, h⟩ <;> simp [h]
  have hexec := exec_operationRequest hcmd s
  have hstrings : ((s.begin t).requestTaken q c k).plantStrings = s.plantStrings := requestTaken_plantStrings ..
  have hplant : ((s.begin t).requestTaken q c k).ma.plant = s.ma.plant := requestTaken_plant ..
  have hhanding : ((s.begin t).requestTaken q c k).handingOver = s.handingOver := (congrArg (fun m : Master => m.draining.isSome || m.handover.isSome) hplant :)
  have hops : ((s.begin t).requestTaken q c k).ma.ops = s.ma.ops := (congrArg Master.ops hplant :)
  have hturned {status reason : Nat} (hbody : ((s.begin t).requestTaken q c k).newOperation q kind c = ((s.begin t).requestTaken q c k).respond c q.session status
      reason 0 ((s.begin t).requestTaken q c k).ma.horizon) :
      Answers cmd s fun s' => s'.ma.ops = s.ma.ops ∧ (s'.client c).stored = s.responseTo_ status reason 0 s.ma.horizon 0 := by
    obtain ⟨s', hnext, hplant, hstored, -⟩ := answers_responded hexec hadmits (by rw [request_admitted hadmits, if_pos hright, hbody])
    exact ⟨s', hnext, (congrArg Master.ops hplant :), hstored⟩
  refine ⟨fun hunfit => hturned (newOperation_invalid hkind c hunfit), fun hfits hunknown => hturned (newOperation_unknown hkind c hfits (by rwa [hstrings])),
    fun hfits hknown hbusy => hturned (newOperation_handingOver hkind c hfits (by rwa [hstrings]) (by rwa [hhanding])),
    fun hfits hknown hfree hcrowd => hturned (newOperation_crowded hkind c hfits (by rwa [hstrings]) (by rwa [hhanding]) (by rwa [hops])),
    fun hfits hknown hfree hroom => ?_⟩
  have htaken := newOperation_taken hkind c hfits (s := (s.begin t).requestTaken q c k) (by rwa [hstrings]) (by rwa [hhanding]) (by rwa [hops])
  refine answers_request hexec hadmits hright htaken ?_
  obtain ⟨_, _, hstill, -, -, hstored⟩ := requestTaken_still (s.begin t) q c k
  have hnow : ((s.begin t).requestTaken q c k).now = max s.now t := now_of_still hstill
  have hsweep : ((s.begin t).requestTaken q c k).sweepNo = (s.begin t).sweepNo := (congrArg State.sweepNo hstill :)
  have hnextOp : ((s.begin t).requestTaken q c k).ma.nextOp = s.ma.nextOp := (congrArg Master.nextOp hplant :)
  have hclient := (client_of_still hstill c)
  obtain ⟨x, hsent, hkind⟩ := operationAdded_emits ((s.begin t).requestTaken q c k) (((s.begin t).requestTaken q c k).operationOf q kind c)
  refine ⟨(settled_operationAdded_ops ..).trans ?_, (settled_operationAdded_nextOp ..).trans (congrArg wrapInc hnextOp), ⟨x, settled_emits hsent s t, hkind⟩, ?_⟩
  · rw [hops, State.operationOf, hnow, hsweep, hnextOp]
    rfl
  · rw [settled_client, operationAdded_client, hclient, State.client]
    exact hstored

/-- Settles O38: each request from what taking it writes, and each operation from what ends it. -/
theorem masterRequests : Obligations.MasterRequests := by
  refine ⟨?reset_idle, ?reset, ?frames, ?right, ?setpoint, ?setpoint_invalid, ?operation, ?exclusion, ?no_operation, ?repeat_, ?timeout, ?result_shut, ?result_bad,
    ?result_unknown, ?result, ?result_stale⟩
  case reset_idle =>
    intro t q s hmaster
    exact idles_of (f := dispatchReset q) rfl (dispatchReset_ignored (by exact hmaster) q)
  case reset =>
    intro t q c k s hmaster hok hclient hentry htoken
    obtain ⟨answer, hreset⟩ := dispatchReset_opens (s := s.begin t) hmaster hok hclient hentry htoken
    obtain ⟨hsession, hseq, hstored⟩ := dispatchOpened_client (s.begin t) q c k
    have hplant := dispatchOpened_plant (s.begin t) q c k
    refine answers_of (f := dispatchReset q) rfl ?_
    rw [hreset]
    generalize (s.begin t).dispatchOpened q c k = u at hsession hseq hstored hplant ⊢
    have hsettled : (s.settle (s.keep t (u.sendResponse c answer))).ma.plant = ({ s.ma with nextSession := max 1 (wrapInc s.ma.nextSession) } : Master).plant :=
      (settled_plant ..).trans hplant
    obtain ⟨-, -, hops, htarget, hexcluded, hnext, -⟩ := plant_reads hsettled
    obtain ⟨x, hsent, hkind, hport⟩ := sendResponse_emits u c answer
    rw [settled_client]
    exact ⟨hsession, hseq, hstored, hnext, ⟨x, settled_emits hsent s t, hkind, hport⟩, htarget, hexcluded, hops⟩
  case frames =>
    intro t q s cmd hcmd
    obtain ⟨right, body, hexec⟩ := exec_of_isRequest hcmd
    refine ⟨fun hmaster => idles_of (hexec s) (request_ignored (by exact hmaster) ..), fun hmaster hbad => does_of (hexec s) ?_, fun c hclient hold =>
      answers_of (hexec s) ?_⟩
    · rw [request_bad (by exact hmaster) hbad]
      rfl
    · have hplant := (settled_plant s ((s.begin t).request q right body) t).trans (request_untaken (s := s.begin t) hclient (by exact hold) right body)
      obtain ⟨hsetpoints, hexclusions, hops, htarget, -⟩ := plant_reads hplant
      exact ⟨hsetpoints, hexclusions, hops, htarget⟩
  case right =>
    intro t q c k s cmd right hadmits hcmd hright
    obtain ⟨body, hexec⟩ : ∃ body, ∀ s, exec cmd s = s.run t fun s => s.request q right body := by
      rcases hcmd with ⟨rfl, rfl⟩ | ⟨rfl, rfl⟩ | ⟨rfl, rfl⟩ | ⟨rfl, rfl⟩ | ⟨rfl, rfl⟩ | ⟨rfl, rfl⟩ | ⟨rfl, rfl⟩
      all_goals exact ⟨_, fun _ => rfl⟩
    obtain ⟨s', hnext, hplant, hstored, hseq⟩ := answers_responded (hexec s) hadmits (by
      rw [request_admitted hadmits, if_neg (by rw [hright]; exact Bool.false_ne_true), requestTaken_horizon])
    obtain ⟨hsetpoints, hexclusions, hops, -⟩ := plant_reads hplant
    exact ⟨s', hnext, hstored, hseq, hsetpoints, hexclusions, hops⟩
  case setpoint =>
    intro t q c k s hadmits hright hstring hbranch hhorizon
    obtain ⟨_, _, hstill, -, hseq, -⟩ := requestTaken_still (s.begin t) q c k
    have hma := ma_of_still hstill
    refine answers_request (exec_plantSetpointRequest t q s) hadmits hright (setpointBody_taken hstring hbranch hhorizon ..) ?_
    rw [now_of_still hstill]
    generalize (s.begin t).requestTaken q c k = u at hma ⊢
    refine ⟨(settled_part (fun v : State => v.ma.spRequests) ..).trans ?_, (settled_part (fun v : State => v.ma.target) ..).trans (congrArg Master.target hma :),
      congrArg Client.lastSeq (settled_client ..) |>.trans ?_⟩
    · rw [State.onMaster_ma, hma]
      rfl
    · exact (congrArg (fun m : Master => (m.clients.get c {}).lastSeq) hma).trans hseq
  case setpoint_invalid =>
    intro t q c k s hadmits hright hinvalid
    obtain ⟨s', hnext, hplant, hstored, -⟩ := answers_responded (exec_plantSetpointRequest t q s) hadmits (by
      rw [request_admitted hadmits, if_pos hright, setpointBody_invalid hinvalid])
    exact ⟨s', hnext, (congrArg Master.spRequests hplant :), hstored⟩
  case operation =>
    intro t q c k s cmd kind hcmd hadmits hright
    exact answers_operationRequest hcmd hadmits hright
  case exclusion =>
    intro t q c k s cmd inc hcmd hadmits hright hstring hbranch
    have hexec := exec_exclusion hcmd s
    have hstrings : ((s.begin t).requestTaken q c k).plantStrings = s.plantStrings := requestTaken_plantStrings ..
    refine ⟨fun hknown => ?_, fun hunknown => ?_⟩
    · refine answers_request hexec hadmits hright (exclusion_taken hstring hbranch inc c _ (by rwa [hstrings])) ?_
      have hplant := requestTaken_plant (s.begin t) q c k
      generalize (s.begin t).requestTaken q c k = u at hplant ⊢
      have hrequests : u.ma.exRequests = s.ma.exRequests := (congrArg Master.exRequests hplant :)
      refine ⟨(settled_part (fun v : State => v.ma.exRequests) ..).trans ?_, (settled_part (fun v : State => v.ma.excluded) ..).trans (congrArg Master.excluded hplant :)⟩
      rw [State.onMaster_ma, hrequests]
    · obtain ⟨s', hnext, hplant, hstored, -⟩ := answers_responded hexec hadmits (by
        rw [request_admitted hadmits, if_pos hright, exclusion_unknown hstring hbranch inc c _ (by rwa [hstrings])])
      exact ⟨s', hnext, (congrArg Master.exRequests hplant :), hstored⟩
  case no_operation =>
    intro t i s hop
    have hop : (s.begin t).opOf i = none := hop
    exact ⟨idles_of (exec_operationFrameRepeat t i s) (by rw [operationRepeat, hop]), idles_of (exec_operationTimeout t i s) (by rw [operationExpiry, hop])⟩
  case repeat_ =>
    intro t i o s hop hmaster hdue
    refine answers_of (exec_operationFrameRepeat t i s) ?_
    rw [operationRepeat_due (s := s.begin t) hop hmaster hdue]
    obtain ⟨x, hsent, hkind⟩ := sendOperation_emits ((s.begin t).onMaster fun m => { m with ops := m.ops.map fun x => if x.ident = i then { x with sentAt := (s.begin t).now } else x }) o
    exact ⟨⟨x, settled_emits hsent s t, hkind⟩, (settled_ops ..).trans (sendOperation_ops ..)⟩
  case timeout =>
    intro t i o s hop hmaster hdue
    refine answers_of (exec_operationTimeout t i s) ?_
    rw [operationExpiry_due (s := s.begin t) hop hmaster hdue, settled_ops, endOperation_ops, settled_client, opOf_ident hop]
    exact ⟨rfl, fun hsession => endOperation_stored (by exact hsession) ..⟩
  case result_shut =>
    intro t h i st r w s hnet
    have hnet : (s.begin t).netOn = false := hnet
    exact idles_of (exec_operationResultReceived ..) (by rw [operationResult, hnet]; rfl)
  case result_bad =>
    intro t h i st r w s hnet hbad
    exact does_of (exec_operationResultReceived ..) (by rw [operationResult_bad (by exact hnet) hbad]; rfl)
  case result_unknown =>
    intro t h i st r w s hnet hgood hst hop
    refine answers_of (exec_operationResultReceived ..) ?_
    rw [operationResult_unknown (s := s.begin t) hnet hgood hst i r w hop, settled_ops, settled_clients, dispatchTaken_ma]
    exact ⟨rfl, rfl⟩
  case result =>
    intro t h i st r w o s hnet hgood hst hop hmaster hepoch hstring hw
    refine answers_of (exec_operationResultReceived ..) ?_
    have hma := dispatchTaken_ma (s.begin t) h
    rw [operationResult_ends (s := s.begin t) hnet hgood hst i r w hop hmaster hepoch hstring hw, settled_ops, endOperation_ops, settled_client, hma, opOf_ident hop]
    refine ⟨rfl, fun hsession => ?_⟩
    have hclient : ((s.begin t).dispatchTaken h).client o.client = s.client o.client := congrArg (fun m : Master => m.clients.get o.client {}) hma
    rw [endOperation_stored (by rwa [hclient]), hma]
    exact responseTo_congr (congrArg Master.avail hma) ..
  case result_stale =>
    intro t h i st r w o s hnet hgood hst hop hepoch
    refine answers_of (exec_operationResultReceived ..) ?_
    rw [operationResult_stale (s := s.begin t) hnet hgood hst i r w hop hepoch, settled_ops, settled_clients, dispatchTaken_ma]
    exact ⟨rfl, rfl⟩

end Sys2Proof.Machine
/-! The dispatch cycle at the plant master: what an allocation and the sending of its multicast leave (15 R381, R386 to R389, R407). -/

namespace Sys2Proof.Machine

open Sys2Proof

/-! ### What an allocation leaves -/

/-- The state without the plant master's and what a record or a publication writes. -/
def State.offMaster (s : State) : State := { s.still with ma := {} }

theorem onMaster_offMaster (s : State) (f : Master → Master) : (s.onMaster f).offMaster = s.offMaster := rfl

theorem offMaster_of_still {a b : State} (h : a.still = b.still) : a.offMaster = b.offMaster := (congrArg State.offMaster h :)
theorem di_of_offMaster {a b : State} (h : a.offMaster = b.offMaster) : a.di = b.di := (congrArg State.di h :)

theorem dispatchSend_ma (s : State) (k : EmKind) (p ftype e : Nat) (l : List Nat) : (s.dispatchSend k p ftype e l).ma = s.ma.nextSeq ftype :=
  ma_of_still (dispatchSend_still ..)

theorem dispatchSend_offMaster (s : State) (k : EmKind) (p ftype e : Nat) (l : List Nat) : (s.dispatchSend k p ftype e l).offMaster = s.offMaster :=
  (offMaster_of_still (dispatchSend_still ..)).trans (onMaster_offMaster ..)

theorem sendResponse_offMaster (s : State) (c : Nat) (l : List Nat) : (s.sendResponse c l).offMaster = s.offMaster := dispatchSend_offMaster ..

theorem respond_offMaster (s : State) (c session status reason : Nat) (allocated : Int) (horizon : Nat) :
    (s.respond c session status reason allocated horizon).offMaster = s.offMaster := by
  unfold State.respond
  split
  · rfl
  · exact (onMaster_offMaster ..).trans (sendResponse_offMaster ..)

theorem recomputeGroup_offMaster (s : State) (cycle f : Nat) : (s.recomputeGroup cycle f).offMaster = s.offMaster := by
  unfold State.recomputeGroup
  dsimp only
  split <;> rfl

/-- The plant master's state without what the carrier groups write: what an allocation sets stays in sight. -/
def Master.ungrouped (m : Master) : Master := { m.plant with groupOf := {}, phases := {}, phasesAt := {}, interleaved := 0 }

theorem ungrouped_of_plant {a b : Master} (h : a.plant = b.plant) : a.ungrouped = b.ungrouped := (congrArg Master.ungrouped h :)

theorem recomputeGroup_ungrouped (s : State) (cycle f : Nat) : (s.recomputeGroup cycle f).ma.ungrouped = s.ma.ungrouped := by
  unfold State.recomputeGroup
  dsimp only
  split <;> rfl

/-- The set-point requests and the exclusions that waited are taken into the cycle (15 R387, R396). -/
def State.requestsTaken (s : State) : State :=
  s.ma.exRequests.foldl (fun (s : State) (e : Nat × Nat × Nat × Bool) => s.onMaster fun m =>
    { m with excluded := if e.2.2.2 then m.excluded.filter fun x => !decide (x = e.2.2.1) else insertN e.2.2.1 m.excluded }) (s.ma.spRequests.foldl State.takeSetpoint s)

theorem requestsTaken_offMaster (s : State) : s.requestsTaken.offMaster = s.offMaster := by
  unfold State.requestsTaken
  rw [foldl_keeps State.offMaster (fun _ _ => onMaster_offMaster ..), foldl_keeps State.offMaster (f := State.takeSetpoint) fun _ _ => onMaster_offMaster ..]

theorem requestsTaken_of_none {s : State} (hsp : s.ma.spRequests = []) (hex : s.ma.exRequests = []) : s.requestsTaken = s := by
  rw [State.requestsTaken, hsp, hex]
  rfl

/-- What the allocation of cycle `c` sets of the plant master's state, its requests taken (15 R386, R387). -/
def State.cycleMaster (s : State) (c shed expiry now : Nat) : Master :=
  let cycle := (2 * c) % two32
  let p := s.ma.move expiry
  let h := s.ma.horizon
  let alloc := s.allocation p cycle h
  let cap := s.capacity cycle h
  { s.ma with
    inForce := p, allocated := sumI (alloc.map fun e => e.2), limited := decide (((if p < 0 then cap.2 else cap.1 : Int) : Rat) < absR p), setpoints := alloc
    spRequests := [], exRequests := [], cycle := some c, shedding := decide (0 < shed)
    streams := s.ma.streams.mapAll {} fun _ x =>
      let up := (if x.pend then 1 else 0) + (if shed = 2 then 1 else 0)
      if up = 0 then x else { x with decim := min 7 (x.decim + up), pend := false, lastDiscard := now }
    avail := (List.range 5).map fun i => s.capacity cycle i
    eligible := (s.plantStrings.filter (s.eligibleIn cycle)).length }

/-- The state once a cycle is set and its carrier groups are followed (15 R388, R389). -/
def State.cycleGrouped (s : State) (c shed : Nat) : State :=
  (s.requestsTaken.onMaster fun _ => s.requestsTaken.cycleMaster c shed s.cfg.alloc.expiry s.now).recomputeGroups ((2 * c) % two32)

/-- An allocation takes the requests, sets the cycle, follows the carrier groups, and answers the requests. -/
theorem allocateCycle_eq (s : State) (c shed : Nat) : ∃ status total horizon n, s.allocateCycle c shed =
    s.ma.exRequests.foldl (fun s e => s.respond e.1 e.2.1 stDone 0 total horizon)
      (s.ma.spRequests.foldl (fun s r => s.respond r.client r.session status 0 total r.horizon)
        ((s.cycleGrouped c shed).onMaster fun m => { m with interleaved := n })) := by
  unfold State.allocateCycle
  exact ⟨_, _, _, _, rfl⟩

theorem cycleGrouped_ungrouped (s : State) (c shed : Nat) : (s.cycleGrouped c shed).ma.ungrouped = (s.requestsTaken.cycleMaster c shed s.cfg.alloc.expiry s.now).ungrouped :=
  foldl_keeps (fun v : State => v.ma.ungrouped) (fun v f => recomputeGroup_ungrouped v _ f) ..

theorem cycleGrouped_offMaster (s : State) (c shed : Nat) : (s.cycleGrouped c shed).offMaster = s.offMaster :=
  (foldl_keeps State.offMaster (fun v f => recomputeGroup_offMaster v _ f) ..).trans ((onMaster_offMaster ..).trans (requestsTaken_offMaster s))

theorem interleaved_ungrouped (s : State) (n : Nat) : (s.onMaster fun m => { m with interleaved := n }).ma.ungrouped = s.ma.ungrouped := rfl

theorem allocateCycle_ungrouped (s : State) (c shed : Nat) : (s.allocateCycle c shed).ma.ungrouped = (s.requestsTaken.cycleMaster c shed s.cfg.alloc.expiry s.now).ungrouped := by
  obtain ⟨status, total, horizon, n, heq⟩ := allocateCycle_eq s c shed
  rw [heq, foldl_keeps (fun v : State => v.ma.ungrouped) (fun _ _ => ungrouped_of_plant (respond_plant ..)),
    foldl_keeps (fun v : State => v.ma.ungrouped) (fun _ _ => ungrouped_of_plant (respond_plant ..)), interleaved_ungrouped, cycleGrouped_ungrouped]

theorem allocateCycle_offMaster (s : State) (c shed : Nat) : (s.allocateCycle c shed).offMaster = s.offMaster := by
  obtain ⟨status, total, horizon, n, heq⟩ := allocateCycle_eq s c shed
  rw [heq, foldl_keeps State.offMaster (fun _ _ => respond_offMaster ..), foldl_keeps State.offMaster (fun _ _ => respond_offMaster ..), onMaster_offMaster,
    cycleGrouped_offMaster]

/-- What can be read of the plant master's state whatever the carrier groups are. -/
theorem ungrouped_reads {a b : Master} (h : a.ungrouped = b.ungrouped) : a.holds = b.holds ∧ a.epoch = b.epoch ∧ a.target = b.target ∧ a.inForce = b.inForce ∧
    a.ramp = b.ramp ∧ a.horizon = b.horizon ∧ a.excluded = b.excluded ∧ a.incoming = b.incoming ∧ a.cycle = b.cycle ∧ a.spRequests = b.spRequests ∧
    a.exRequests = b.exRequests ∧ a.allocated = b.allocated ∧ a.setpoints = b.setpoints :=
  ⟨(congrArg Master.holds h :), (congrArg Master.epoch h :), (congrArg Master.target h :), (congrArg Master.inForce h :), (congrArg Master.ramp h :),
    (congrArg Master.horizon h :), (congrArg Master.excluded h :), (congrArg Master.incoming h :), (congrArg Master.cycle h :), (congrArg Master.spRequests h :),
    (congrArg Master.exRequests h :), (congrArg Master.allocated h :), (congrArg Master.setpoints h :)⟩

/-! ### What the multicast leaves (15 R381, R405, R407) -/

/-- The state a multicast leaves: its cycle is the one sent, and the sequences of its frames are used. -/
theorem sendHandover_ma (s : State) : ∃ seqs, s.sendHandover.ma = { s.ma with seqs := seqs } := by
  unfold State.sendHandover
  split
  · exact ⟨_, rfl⟩
  · exact ⟨_, dispatchSend_ma ..⟩

theorem sendHandover_offMaster (s : State) : s.sendHandover.offMaster = s.offMaster := by
  unfold State.sendHandover
  split
  · rfl
  · exact dispatchSend_offMaster ..

theorem mem_sendHandover {s : State} {x : Emission} (h : x ∈ s.out) : x ∈ s.sendHandover.out := by
  unfold State.sendHandover
  split
  · exact h
  · exact mem_dispatchSend h ..

/-- The multicast of a cycle as its frame is sent, before the handover frame and the plant record. -/
theorem sendMulticast_eq (s : State) (c : Nat) : ∃ frame record, s.sendMulticast c =
    (((s.onMaster fun m => { m with sent := some c }).dispatchSend .multicast 0 1 s.ma.epoch frame).sendHandover).publish 0x0B001000 record := ⟨_, _, rfl⟩

theorem sendMulticast_ma (s : State) (c : Nat) : ∃ seqs, (s.sendMulticast c).ma = { s.ma with sent := some c, seqs := seqs } := by
  obtain ⟨frame, record, heq⟩ := sendMulticast_eq s c
  obtain ⟨seqs, hma⟩ := sendHandover_ma ((s.onMaster fun m => { m with sent := some c }).dispatchSend .multicast 0 1 s.ma.epoch frame)
  refine ⟨seqs, ?_⟩
  rw [heq, publish_ma, hma, dispatchSend_ma]
  rfl

theorem sendMulticast_offMaster (s : State) (c : Nat) : (s.sendMulticast c).offMaster = s.offMaster := by
  obtain ⟨frame, record, heq⟩ := sendMulticast_eq s c
  rw [heq, offMaster_of_still (publish_still ..), sendHandover_offMaster, dispatchSend_offMaster]
  rfl

theorem sendMulticast_emits (s : State) (c : Nat) : ∃ x, x ∈ (s.sendMulticast c).out ∧ x.kind = .multicast := by
  obtain ⟨frame, record, heq⟩ := sendMulticast_eq s c
  obtain ⟨x, hsent, hkind, -⟩ := dispatchSend_emits (s.onMaster fun m => { m with sent := some c }) .multicast 0 1 s.ma.epoch frame
  refine ⟨x, ?_, hkind⟩
  rw [heq, publish_out]
  exact mem_sendHandover hsent

end Sys2Proof.Machine
/-! The election of the plant master, its loss and its handover (15 R402 to R405). -/

namespace Sys2Proof.Machine

open Sys2Proof

/-! ### Claims sent and repeated (15 R403) -/

theorem sendClaim_ma (s : State) (epoch : Nat) (abandoned : Bool) : (s.sendClaim epoch abandoned).ma = s.ma.nextSeq 8 := dispatchSend_ma ..

theorem sendClaim_isCandidate (s : State) (epoch : Nat) (abandoned : Bool) : (s.sendClaim epoch abandoned).isCandidate = s.isCandidate :=
  (isCandidate_of_still (dispatchSend_still ..) fun _ => dispatchSend_portUp .. : (s.sendClaim epoch abandoned).isCandidate = (s.onMaster (Master.nextSeq 8)).isCandidate)

theorem sendClaim_emits (s : State) (epoch : Nat) (abandoned : Bool) : ∃ x, x ∈ (s.sendClaim epoch abandoned).out ∧ x.kind = .claim := by
  obtain ⟨x, hsent, hkind, -⟩ := dispatchSend_emits s .claim 0 8 s.seenEpoch
    (octetsOf 4 epoch ++ [s.masterRank.getD 0, if abandoned then 1 else 0, 0, 0] ++ octetsOf 4 (s.sweepAt s.ma.l0))
  exact ⟨x, hsent, hkind⟩

/-- The first claim, once the master timeout and the rank's stagger have passed since L0. -/
def claimSend (s : State) : State :=
  if s.isCandidate && s.ma.candidate && !s.ma.holds && !s.ma.claiming &&
      decide (s.ma.l0 + ms (s.cfg.elect.timeout + s.masterRank.getD 0 * s.cfg.elect.stagger) ≤ s.now) then
    (s.onMaster fun m => { m with claiming := true, claimAt := s.now, claimSent := s.now, claimEpoch := wrapInc s.seenEpoch }).sendClaim (wrapInc s.seenEpoch) false
  else s

/-- A claim repeated every 2 ms. -/
def claimRepeat (s : State) : State :=
  if s.ma.claiming && s.isCandidate && decide (s.ma.claimSent + ms 2 ≤ s.now) then
    (s.onMaster fun m => { m with claimSent := s.now }).sendClaim s.ma.claimEpoch false
  else s

/-- What the plant master's state is once a claim is won (15 R404). -/
def Master.elected (horizon : Nat) (m : Master) : Master :=
  { m.taken m.claimEpoch with
    target := sumI (m.stats.entries.map fun e => e.2.applied), inForce := (sumI (m.stats.entries.map fun e => e.2.applied) : Rat), ramp := 0, lifeUntil := none
    horizon := horizon, excluded := [] }

/-- The end of the claim window. -/
def claimWindow (s : State) : State :=
  if s.ma.claiming && s.isCandidate && decide (s.ma.claimAt + ms s.cfg.elect.claim ≤ s.now) then
    let sum := sumI (s.ma.stats.entries.map fun e => e.2.applied)
    s.takeMaster s.ma.claimEpoch fun m => { m with
      target := sum, inForce := (sum : Rat), ramp := 0, lifeUntil := none, horizon := s.cfg.alloc.horizon, excluded := [] }
  else s

theorem exec_claimSend (t : Nat) (s : State) : exec (.claimSend t) s = s.run t claimSend := rfl
theorem exec_claimRepeat (t : Nat) (s : State) : exec (.claimRepeat t) s = s.run t claimRepeat := rfl
theorem exec_claimWindowExpiry (t : Nat) (s : State) : exec (.claimWindowExpiry t) s = s.run t claimWindow := rfl

theorem claimSend_idle {s : State} (h : s.isCandidate = false ∨ s.ma.candidate = false ∨ s.ma.holds = true ∨ s.ma.claiming = true ∨
    s.now < s.ma.l0 + ms (s.cfg.elect.timeout + s.masterRank.getD 0 * s.cfg.elect.stagger)) : claimSend s = s := by
  refine if_neg ?_
  rcases h with h | h | h | h | h
  all_goals simp [h]

theorem claimSend_due {s : State} (hcandidate : s.isCandidate = true) (hstanding : s.ma.candidate = true) (hfree : s.ma.holds = false) (hnew : s.ma.claiming = false)
    (hdue : s.ma.l0 + ms (s.cfg.elect.timeout + s.masterRank.getD 0 * s.cfg.elect.stagger) ≤ s.now) : claimSend s =
      (s.onMaster fun m => { m with claiming := true, claimAt := s.now, claimSent := s.now, claimEpoch := wrapInc s.seenEpoch }).sendClaim (wrapInc s.seenEpoch) false :=
  if_pos (by rw [hcandidate, hstanding, hfree, hnew, decide_eq_true hdue]; rfl)

theorem claimRepeat_idle {s : State} (h : s.ma.claiming = false ∨ s.isCandidate = false ∨ s.now < s.ma.claimSent + ms 2) : claimRepeat s = s := by
  refine if_neg ?_
  rcases h with h | h | h
  all_goals simp [h]

theorem claimRepeat_due {s : State} (hclaiming : s.ma.claiming = true) (hcandidate : s.isCandidate = true) (hdue : s.ma.claimSent + ms 2 ≤ s.now) :
    claimRepeat s = (s.onMaster fun m => { m with claimSent := s.now }).sendClaim s.ma.claimEpoch false :=
  if_pos (by rw [hclaiming, hcandidate, decide_eq_true hdue]; rfl)

theorem claimWindow_idle {s : State} (h : s.ma.claiming = false ∨ s.isCandidate = false ∨ s.now < s.ma.claimAt + ms s.cfg.elect.claim) : claimWindow s = s := by
  refine if_neg ?_
  rcases h with h | h | h
  all_goals simp [h]

/-- A candidate whose claim window ends is the plant master. -/
theorem claimWindow_ma {s : State} (hclaiming : s.ma.claiming = true) (hcandidate : s.isCandidate = true) (hdue : s.ma.claimAt + ms s.cfg.elect.claim ≤ s.now) :
    (claimWindow s).ma = s.ma.elected s.cfg.alloc.horizon := by
  rw [claimWindow, if_pos (by rw [hclaiming, hcandidate, decide_eq_true hdue]; rfl)]
  exact takeMaster_ma ..

/-! ### Claims received (15 R403, R404) -/

/-- The claim of another string takes the role from a plant master of a lower epoch. -/
def State.claimHeard (s : State) (epoch : Nat) : State := if s.isMaster && decide (s.ma.epoch < epoch) then s.loseMaster else s

/-- The claim of another string is better than the own one, or than the one this module would make. -/
def State.outclassed (s : State) (epoch rank : Nat) : Bool :=
  let mine := if s.ma.claiming then s.ma.claimEpoch else wrapInc s.seenEpoch
  decide (mine < epoch) || (decide (mine = epoch) && decide (rank < s.masterRank.getD 256))

/-- A claim of another string against the own: a better one makes a candidate abandon its claim, and its send time is the new L0. -/
def State.claimWeighed (s : State) (epoch rank l0 : Nat) : State :=
  if s.outclassed epoch rank && s.ma.candidate then
    (if s.ma.claiming then s.sendClaim s.ma.claimEpoch true else s).onMaster fun m => { m with claiming := false, l0 := l0 }
  else s

section
variable {s : State} {h : DHdr} (hnet : s.netOn = true) (hgood : hdrGood h = true) (epoch rank : Nat)
include hnet

theorem claimReceived_bad (hbad : hdrGood h = false) (abandoned : Bool) : claimReceived h epoch rank abandoned s = s.badDispatch := by
  rw [claimReceived, hnet, hbad]
  rfl

include hgood

theorem claimReceived_good (abandoned : Bool) : claimReceived h epoch rank abandoned s =
    if h.sender = s.cfg.string.index ∨ abandoned = true then s.dispatchTaken h
    else ((s.dispatchTaken h).claimHeard epoch).claimWeighed epoch rank (s.localOf h.sent.ns) := by
  simp only [claimReceived, hnet, hgood, Bool.not_true, Bool.false_eq_true, if_false]
  rfl

theorem claimReceived_own {abandoned : Bool} (hown : h.sender = s.cfg.string.index ∨ abandoned = true) :
    claimReceived h epoch rank abandoned s = s.dispatchTaken h := by
  rw [claimReceived_good hnet hgood, if_pos hown]

theorem claimReceived_other (hother : h.sender ≠ s.cfg.string.index) :
    claimReceived h epoch rank false s = ((s.dispatchTaken h).claimHeard epoch).claimWeighed epoch rank (s.localOf h.sent.ns) := by
  rw [claimReceived_good hnet hgood, if_neg (not_or.2 ⟨hother, Bool.false_ne_true⟩)]

end

theorem claimHeard_free {s : State} (h : s.ma.holds = false) (epoch : Nat) : s.claimHeard epoch = s := by
  have hmaster : s.isMaster = false := by
    rw [State.isMaster, h]
    rfl
  rw [State.claimHeard, hmaster]
  rfl

theorem claimHeard_isCandidate (s : State) (epoch : Nat) : (s.claimHeard epoch).isCandidate = s.isCandidate := by
  unfold State.claimHeard
  split
  · exact loseMaster_isCandidate s
  · rfl

theorem claimHeard_incoming (s : State) (epoch : Nat) : (s.claimHeard epoch).ma.incoming = s.ma.incoming := by
  unfold State.claimHeard
  split
  · rw [loseMaster_ma]
    rfl
  · rfl

theorem claimHeard_loses {s : State} {epoch : Nat} (hmaster : s.isMaster = true) (h : s.ma.epoch < epoch) : s.claimHeard epoch = s.loseMaster :=
  if_pos (by rw [hmaster, decide_eq_true h]; rfl)

/-- What weighing a claim leaves of the plant master's state. -/
theorem claimWeighed_ma (s : State) (epoch rank l0 : Nat) : ∃ seqs claiming l, (s.claimWeighed epoch rank l0).ma = { s.ma with seqs := seqs, claiming := claiming, l0 := l } := by
  unfold State.claimWeighed
  split
  · rw [State.onMaster_ma]
    split
    · exact ⟨(s.ma.nextSeq 8).seqs, false, l0, congrArg (fun m : Master => { m with claiming := false, l0 := l0 }) (sendClaim_ma ..)⟩
    · exact ⟨s.ma.seqs, false, l0, rfl⟩
  · exact ⟨s.ma.seqs, s.ma.claiming, s.ma.l0, rfl⟩

section
variable {s : State} {epoch rank : Nat} (hclaiming : s.ma.claiming = true)
include hclaiming

theorem outclassed_iff : s.outclassed epoch rank = true ↔ s.ma.claimEpoch < epoch ∨ s.ma.claimEpoch = epoch ∧ rank < s.masterRank.getD 256 := by
  rw [State.outclassed, if_pos hclaiming]
  simp

theorem claimWeighed_better (l0 : Nat) (hcandidate : s.ma.candidate = true) (h : s.ma.claimEpoch < epoch ∨ s.ma.claimEpoch = epoch ∧ rank < s.masterRank.getD 256) :
    s.claimWeighed epoch rank l0 = (s.sendClaim s.ma.claimEpoch true).onMaster fun m => { m with claiming := false, l0 := l0 } := by
  rw [State.claimWeighed, (outclassed_iff hclaiming).2 h, hcandidate, if_pos hclaiming]
  rfl

theorem claimWeighed_worse (l0 : Nat) (h : epoch < s.ma.claimEpoch ∨ s.ma.claimEpoch = epoch ∧ s.masterRank.getD 256 ≤ rank) : s.claimWeighed epoch rank l0 = s := by
  have hworse : s.outclassed epoch rank = false := by
    rw [← Bool.not_eq_true, outclassed_iff hclaiming]
    omega
  rw [State.claimWeighed, hworse]
  rfl

end

/-! ### A planned handover (15 R405) -/

/-- MASTER_HAND_OVER: the named candidate is to take the role once no operation is in flight. -/
def handOverBody (string : Nat) (s : State) : State × Nat × Nat × List Nat :=
  if !s.leads then refuse 1 s
  else if 127 < string then (s, stInvalid, 0, [])
  else if !s.isMaster || !s.candidateString string || s.handingOver then refuse 13 s
  else (s.onMaster fun x => { x with draining := some (string, s.now) }, stStarted, 0, [])

/-- The end of the wait for operations in flight, or of its 500 ms. -/
def handoverDrained (s : State) : State :=
  match s.ma.draining with
  | none => s
  | some (target, since_) =>
    if !s.isMaster then s
    else if s.ma.ops.isEmpty then
      (s.onMaster fun m => { m with draining := none, handover := some (target, (2 * (s.nextCycle + 10)) % two32) }).sendHandover.cmdFinal 0x0B01 stDone 0 []
    else if since_ + ms 500 ≤ s.now then
      ({ s.onMaster fun m => { m with draining := none } with freeIdx := s.freeIdx + 1 } : State).cmdFinal 0x0B01 stBusy (Config.freeNat s.freeIdx % 256) []
    else s

theorem exec_masterHandOver (t : Nat) (m : Maint) (string : Nat) (s : State) :
    exec (.masterHandOver t m string) s = s.run t fun s => s.maint m 0x0B01 (handOverBody string) := rfl
theorem exec_masterHandoverDrained (t : Nat) (s : State) : exec (.masterHandoverDrained t) s = s.run t handoverDrained := rfl
theorem exec_masterHandoverFrameReceived (t : Nat) (h : DHdr) (i : Nat) (f : Handover) (s : State) :
    exec (.masterHandoverFrameReceived t h i f) s = s.run t (handoverFrameReceived h i f) := rfl
theorem exec_masterHandoverCycle (t : Nat) (s : State) : exec (.masterHandoverCycle t) s = s.run t handoverCycle := rfl

section
variable {s : State} {i : Nat}

theorem handOverBody_follower (h : s.leads = false) : handOverBody i s = refuse 1 s := by
  rw [handOverBody, h]
  rfl

theorem handOverBody_invalid (h : s.leads = true) (hi : 127 < i) : handOverBody i s = (s, stInvalid, 0, []) := by
  rw [handOverBody, h]
  exact if_pos hi

theorem handOverBody_refused (h : s.leads = true) (hi : i ≤ 127) (hfails : s.isMaster = false ∨ s.candidateString i = false ∨ s.handingOver = true) :
    handOverBody i s = refuse 13 s := by
  have hfails : (!s.isMaster || !s.candidateString i || s.handingOver) = true := by
    rcases hfails with hfails | hfails | hfails <;> simp [hfails]
  simp only [handOverBody, h, Bool.not_true, Bool.false_eq_true, if_false]
  rw [if_neg hi.not_gt, if_pos hfails]

theorem handOverBody_started (hmaster : s.isMaster = true) (hi : i ≤ 127) (hcandidate : s.candidateString i = true) (hfree : s.handingOver = false) :
    handOverBody i s = (s.onMaster fun x => { x with draining := some (i, s.now) }, stStarted, 0, []) := by
  have hleads : s.leads = true := by
    simp only [State.isMaster, Bool.and_eq_true] at hmaster
    exact hmaster.1.2
  simp [handOverBody, hleads, hi.not_gt, hmaster, hcandidate, hfree]

end

section
variable {s : State} {i d : Nat} (hdraining : s.ma.draining = some (i, d))
include hdraining

theorem handoverDrained_sends (hmaster : s.isMaster = true) (hops : s.ma.ops = []) : handoverDrained s =
    (s.onMaster fun m => { m with draining := none, handover := some (i, (2 * (s.nextCycle + 10)) % two32) }).sendHandover.cmdFinal 0x0B01 stDone 0 [] := by
  rw [handoverDrained, hdraining]
  dsimp only
  rw [hmaster, hops]
  rfl

theorem handoverDrained_waits (hmaster : s.isMaster = true) (hops : s.ma.ops ≠ []) : handoverDrained s =
    if d + ms 500 ≤ s.now then
      ({ s.onMaster fun m => { m with draining := none } with freeIdx := s.freeIdx + 1 } : State).cmdFinal 0x0B01 stBusy (Config.freeNat s.freeIdx % 256) []
    else s := by
  have hbusy : s.ma.ops.isEmpty = false := by simpa using hops
  unfold handoverDrained
  simp only [hdraining, hmaster, hbusy, Bool.not_true, Bool.false_eq_true, if_false]

end

theorem handoverDrained_idle {s : State} (h : s.ma.draining = none ∨ s.isMaster = false) : handoverDrained s = s := by
  unfold handoverDrained
  split
  · rfl
  · next hdraining =>
    rcases h with h | h
    · cases h.symm.trans hdraining
    · rw [h]
      rfl

/-- The handover frame of a named cycle is sent. -/
theorem sendHandover_emits {s : State} {i n : Nat} (h : s.ma.handover = some (i, n)) : ∃ x, x ∈ s.sendHandover.out ∧ x.kind = .masterHandover := by
  unfold State.sendHandover
  rw [h]
  dsimp only
  obtain ⟨x, hsent, hkind, -⟩ := dispatchSend_emits s .masterHandover 0 9 s.ma.epoch (octetsOf 4 (wrapInc s.ma.epoch) ++ octetsOf 4 n ++ [i, s.ma.horizon, 0, 0] ++
    enc [(4, s.ma.target), (4, roundOpen 42 s.ma.inForce), fN 4 s.ma.ramp, fN 4 (match s.ma.lifeUntil with | some u => (u - s.now + 999999) / 1000000 | none => 0),
      fN 16 (maskOf 128 s.ma.excluded), fN 4 0])
  exact ⟨x, hsent, hkind⟩

/-! ### The handover frame (15 R404, R405) -/

section
variable {s : State} {h : DHdr} {i : Nat} {f : Handover} (hnet : s.netOn = true)
include hnet

theorem handoverFrameReceived_bad (hbad : hdrGood h = false ∨ 127 < i ∨ 4 < f.horizon ∨ f.cycle % 2 = 1) : handoverFrameReceived h i f s = s.badDispatch := by
  have hbad : (!hdrGood h || !decide (i ≤ 127) || !decide (f.horizon ≤ 4) || !decide (f.cycle % 2 = 0)) = true := by
    rcases hbad with hbad | hbad | hbad | hbad
    · simp [hbad]
    · simp [hbad]
    · simp [hbad]
    · simp [hbad]
  rw [handoverFrameReceived, hnet, hbad]
  rfl

variable (hgood : hdrGood h = true) (hi : i ≤ 127) (hhorizon : f.horizon ≤ 4) (hcycle : f.cycle % 2 = 0)
include hgood hi hhorizon hcycle

theorem handoverFrameReceived_good : handoverFrameReceived h i f s =
    if h.sender = s.cfg.string.index then s.dispatchTaken h
    else if h.epoch < s.seenEpoch then s.dispatchTaken h
    else if decide (i = s.cfg.string.index) && ((s.dispatchTaken h).claimHeard f.epoch).isCandidate then
      ((s.dispatchTaken h).claimHeard f.epoch).onMaster fun m => { m with incoming := some f }
    else (s.dispatchTaken h).claimHeard f.epoch := by
  have hgood : (!hdrGood h || !decide (i ≤ 127) || !decide (f.horizon ≤ 4) || !decide (f.cycle % 2 = 0)) = false := by simp [hgood, hi, hhorizon, hcycle]
  simp only [handoverFrameReceived, hnet, hgood, Bool.not_true, Bool.false_eq_true, if_false]
  rw [← dispatchTaken_seenEpoch s h]
  rfl

theorem handoverFrameReceived_old (hold : h.sender = s.cfg.string.index ∨ h.epoch < s.seenEpoch) : handoverFrameReceived h i f s = s.dispatchTaken h := by
  rw [handoverFrameReceived_good hnet hgood hi hhorizon hcycle]
  split
  · rfl
  · next hother => rw [if_pos (hold.resolve_left hother)]

theorem handoverFrameReceived_new (hother : h.sender ≠ s.cfg.string.index) (hepoch : s.seenEpoch ≤ h.epoch) : handoverFrameReceived h i f s =
    if decide (i = s.cfg.string.index) && ((s.dispatchTaken h).claimHeard f.epoch).isCandidate then
      ((s.dispatchTaken h).claimHeard f.epoch).onMaster fun m => { m with incoming := some f }
    else (s.dispatchTaken h).claimHeard f.epoch := by
  rw [handoverFrameReceived_good hnet hgood hi hhorizon hcycle, if_neg hother, if_neg hepoch.not_gt]

end

/-! ### The handover cycle (15 R405) -/

/-- The old plant master holds no role from the handover cycle on. -/
def State.roleHanded (s : State) : State :=
  if s.ma.holds && s.handedBy s.thisCycle then
    s.onMaster fun m => { m with holds := false, handover := none, clients := {}, spRequests := [], exRequests := [] }
  else s

theorem roleHanded_still (s : State) : ∃ m, s.roleHanded.still = (s.onMaster fun _ => m).still ∧ m.incoming = s.ma.incoming := by
  unfold State.roleHanded
  split
  · exact ⟨_, rfl, rfl⟩
  · exact ⟨s.ma, rfl, rfl⟩

theorem roleHanded_portUp (s : State) (p : Nat) : s.roleHanded.portUp p = s.portUp p := by
  unfold State.roleHanded
  split <;> rfl

/-- The role a handover frame brings. -/
def Handover.taken (f : Handover) (now : Nat) (m : Master) : Master :=
  { m with target := f.target, inForce := (f.inForce : Rat), ramp := f.ramp, horizon := f.horizon, excluded := f.excluded
           lifeUntil := if f.life = 0 then none else some (now + ms f.life) }

/-- The named candidate takes the role at the handover cycle, allocates it and sends its multicast. -/
def State.roleTaken (s : State) (now : Nat) : State :=
  match s.ma.incoming with
  | none => s
  | some f =>
    if s.isCandidate && notBefore ((2 * s.thisCycle) % two32) f.cycle then
      ((s.takeMaster f.epoch (f.taken now)).allocateCycle (s.takeMaster f.epoch (f.taken now)).thisCycle 0).sendMulticast (s.takeMaster f.epoch (f.taken now)).thisCycle
    else s

theorem handoverCycle_eq (s : State) : handoverCycle s = s.roleHanded.roleTaken s.now := rfl

theorem roleHanded_incoming (s : State) : s.roleHanded.ma.incoming = s.ma.incoming := by
  obtain ⟨m, hstill, hincoming⟩ := roleHanded_still s
  exact (congrArg Master.incoming (ma_of_still hstill)).trans hincoming

theorem handoverCycle_of_none {s : State} (h : s.ma.incoming = none) : handoverCycle s = s.roleHanded := by
  rw [handoverCycle_eq, State.roleTaken, roleHanded_incoming, h]

theorem takeMaster_thisCycle (s : State) (e : Nat) (f : Master → Master) : (s.takeMaster e f).thisCycle = s.thisCycle :=
  (congrArg State.thisCycle (takeMaster_still s e f) :)

/-- The target of a handover takes the role and sends the multicast of the handover cycle. -/
theorem handoverCycle_takes {s : State} {f : Handover} (hincoming : s.ma.incoming = some f) (hcandidate : s.isCandidate = true)
    (hcycle : notBefore ((2 * s.thisCycle) % two32) f.cycle = true) : ∃ u m, u.ma = f.taken s.now (Master.taken f.epoch m) ∧
      handoverCycle s = (State.allocateCycle u s.thisCycle 0).sendMulticast s.thisCycle := by
  obtain ⟨m, hstill, -⟩ := roleHanded_still s
  have hcandidate : s.roleHanded.isCandidate = true :=
    (isCandidate_of_still (b := s.onMaster fun _ => m) hstill (roleHanded_portUp s)).trans hcandidate
  have hthis : s.roleHanded.thisCycle = s.thisCycle := (congrArg State.thisCycle hstill :)
  refine ⟨s.roleHanded.takeMaster f.epoch (f.taken s.now), s.roleHanded.ma, takeMaster_ma .., ?_⟩
  rw [handoverCycle_eq, State.roleTaken, roleHanded_incoming, hincoming]
  dsimp only
  rw [takeMaster_thisCycle, hthis, hcandidate, hcycle]
  rfl

end Sys2Proof.Machine
/-! The obligation on the plant master's election and handover (15 R402 to R405). -/

namespace Sys2Proof.Machine

open Sys2Proof

theorem exec_claimReceived (t : Nat) (h : DHdr) (e r : Nat) (a : Bool) (s : State) : exec (.claimReceived t h e r a) s = s.run t (claimReceived h e r a) := rfl

/-- What a sent claim leaves once the step is settled: what the candidate set, with candidacy as it was. -/
theorem settled_claim_ma (s : State) (t : Nat) (f : Master → Master) (hcandidate : s.isCandidate = true) (hstanding : (f s.ma).candidate = true) (epoch : Nat) (abandoned : Bool) :
    (s.settle (s.keep t (((s.begin t).onMaster f).sendClaim epoch abandoned))).ma = (f s.ma).nextSeq 8 := by
  rw [settled_ma_of_candidate, sendClaim_ma]
  · rfl
  · rw [sendClaim_isCandidate, sendClaim_ma]
    exact hcandidate.trans hstanding.symm

/-- A claim weighed while the role is held or taken: what the role leaves of the plant master's state stays. -/
theorem settled_claimWeighed (s u : State) (t epoch rank l0 : Nat) : ∃ seqs claiming candidate l,
    (s.settle (s.keep t (u.claimWeighed epoch rank l0))).ma = { u.ma with seqs := seqs, claiming := claiming, candidate := candidate, l0 := l } := by
  obtain ⟨seqs, claiming, l, hma⟩ := claimWeighed_ma u epoch rank l0
  obtain ⟨c, claiming', l', hsettled, -⟩ := settled_ma s (u.claimWeighed epoch rank l0) t
  exact ⟨seqs, claiming', c, l', hsettled.trans (by rw [hma])⟩

/-- What a claim that is better than the own one leaves. -/
theorem settled_abandoned (s u : State) (t l0 : Nat) (hcandidate : u.isCandidate = true) (hstanding : u.ma.candidate = true) :
    (s.settle (s.keep t ((u.sendClaim u.ma.claimEpoch true).onMaster fun m => { m with claiming := false, l0 := l0 }))).ma =
      { u.ma.nextSeq 8 with claiming := false, l0 := l0 } := by
  rw [settled_ma_of_candidate, State.onMaster_ma, sendClaim_ma]
  rw [State.onMaster_ma, sendClaim_ma]
  exact ((sendClaim_isCandidate u u.ma.claimEpoch true).trans hcandidate).trans hstanding.symm

theorem dispatchTaken_masterRank (s : State) (h : DHdr) : (s.dispatchTaken h).masterRank = s.masterRank := by
  obtain ⟨_, _, hstill⟩ := dispatchTaken_still s h
  exact (congrArg State.masterRank hstill :)

/-- A better claim makes a candidate abandon its own. -/
theorem claimReceived_better {s : State} {h : DHdr} {e r : Nat} (hnet : s.netOn = true) (hgood : hdrGood h = true) (hother : h.sender ≠ s.cfg.string.index)
    (hfree : s.ma.holds = false) (hstanding : s.ma.candidate = true) (hclaiming : s.ma.claiming = true)
    (hbetter : s.ma.claimEpoch < e ∨ s.ma.claimEpoch = e ∧ r < s.masterRank.getD 256) : claimReceived h e r false s =
      ((s.dispatchTaken h).sendClaim (s.dispatchTaken h).ma.claimEpoch true).onMaster fun m => { m with claiming := false, l0 := s.localOf h.sent.ns } := by
  have hma := dispatchTaken_ma s h
  rw [claimReceived_other hnet hgood e r hother, claimHeard_free (by rwa [hma]),
    claimWeighed_better (by rwa [hma]) _ (by rwa [hma]) (by rwa [hma, dispatchTaken_masterRank])]

/-- A claim that is no better leaves the own one. -/
theorem claimReceived_worse {s : State} {h : DHdr} {e r : Nat} (hnet : s.netOn = true) (hgood : hdrGood h = true)
    (hfree : s.ma.holds = false) (hclaiming : s.ma.claiming = true)
    (hworse : e < s.ma.claimEpoch ∨ s.ma.claimEpoch = e ∧ s.masterRank.getD 256 ≤ r) : claimReceived h e r false s = s.dispatchTaken h := by
  have hma := dispatchTaken_ma s h
  by_cases hown : h.sender = s.cfg.string.index
  · exact claimReceived_own hnet hgood e r (.inl hown)
  · rw [claimReceived_other hnet hgood e r hown, claimHeard_free (by rwa [hma]), claimWeighed_worse (by rwa [hma]) _ (by rwa [hma, dispatchTaken_masterRank])]

theorem answers_claimReceived_better (t : Nat) (h : DHdr) (e r : Nat) (s : State) (hnet : s.netOn = true) (hgood : hdrGood h = true) (hother : h.sender ≠ s.cfg.string.index)
    (hfree : s.ma.holds = false) (hcandidate : s.isCandidate = true) (hstanding : s.ma.candidate = true) (hclaiming : s.ma.claiming = true)
    (hbetter : s.ma.claimEpoch < e ∨ s.ma.claimEpoch = e ∧ r < s.masterRank.getD 256) :
    Answers (.claimReceived t h e r false) s fun s' => s'.ma.claiming = false ∧ s'.ma.l0 = (s.begin t).localOf h.sent.ns ∧ ∃ e, e ∈ s'.out ∧ e.kind = .claim := by
  have hbetter := claimReceived_better (s := s.begin t) hnet hgood hother hfree hstanding hclaiming hbetter
  have hcandidate := (dispatchTaken_isCandidate (s.begin t) h).trans hcandidate
  have hma := dispatchTaken_ma (s.begin t) h
  have hstanding : ((s.begin t).dispatchTaken h).ma.candidate = true := (congrArg Master.candidate hma).trans hstanding
  refine answers_of (exec_claimReceived ..) ?_
  rw [hbetter]
  generalize (s.begin t).dispatchTaken h = u at hstanding hcandidate ⊢
  generalize (s.begin t).localOf h.sent.ns = l0
  obtain ⟨x, hsent, hkind⟩ := sendClaim_emits u u.ma.claimEpoch true
  rw [settled_abandoned s u t l0 hcandidate hstanding]
  exact ⟨rfl, rfl, x, settled_emits (by rwa [State.onMaster_out]) s t, hkind⟩

theorem answers_claimReceived_worse (t : Nat) (h : DHdr) (e r : Nat) (s : State) (hnet : s.netOn = true) (hgood : hdrGood h = true)
    (hfree : s.ma.holds = false) (hcandidate : s.isCandidate = true) (hstanding : s.ma.candidate = true) (hclaiming : s.ma.claiming = true)
    (hworse : e < s.ma.claimEpoch ∨ s.ma.claimEpoch = e ∧ s.masterRank.getD 256 ≤ r) :
    Answers (.claimReceived t h e r false) s fun s' => s'.ma.claiming = true ∧ s'.ma.l0 = s.ma.l0 ∧ s'.ma.claimEpoch = s.ma.claimEpoch := by
  have hma := dispatchTaken_ma (s.begin t) h
  have hstands : ((s.begin t).dispatchTaken h).isCandidate = ((s.begin t).dispatchTaken h).ma.candidate := by
    rw [hma]
    exact ((dispatchTaken_isCandidate (s.begin t) h).trans hcandidate).trans hstanding.symm
  refine answers_of (exec_claimReceived ..) ?_
  rw [claimReceived_worse (s := s.begin t) hnet hgood hfree hclaiming hworse, settled_ma_of_candidate hstands, hma]
  exact ⟨hclaiming, rfl, rfl⟩

/-- A claim of a higher epoch takes the role from a plant master. -/
theorem answers_claimReceived_higher (t : Nat) (h : DHdr) (e r : Nat) (s : State) (hnet : s.netOn = true) (hgood : hdrGood h = true) (hother : h.sender ≠ s.cfg.string.index)
    (hmaster : s.isMaster = true) (hepoch : s.ma.epoch < e) : Answers (.claimReceived t h e r false) s fun s' =>
      s'.ma.holds = false ∧ s'.ma.ops = [] ∧ s'.ma.spRequests = [] ∧ s'.ma.draining = none ∧ s'.ma.handover = none := by
  refine answers_of (exec_claimReceived ..) ?_
  have hloses : ((s.begin t).dispatchTaken h).claimHeard e = ((s.begin t).dispatchTaken h).loseMaster :=
    claimHeard_loses ((dispatchTaken_isMaster (s.begin t) h).trans hmaster) (by rw [dispatchTaken_ma]; exact hepoch)
  obtain ⟨seqs, claiming, c, l, hma⟩ := settled_claimWeighed s (((s.begin t).dispatchTaken h).loseMaster) t e r ((s.begin t).localOf h.sent.ns)
  rw [claimReceived_other (s := s.begin t) hnet hgood e r hother, hloses, hma, loseMaster_ma]
  exact ⟨rfl, rfl, rfl, rfl, rfl⟩

/-- The candidate whose claim window ends holds the role, with the sum of the applied set-points as target and no session. -/
theorem answers_claimWindowExpiry (t : Nat) (s : State) (hclaiming : s.ma.claiming = true) (hcandidate : s.isCandidate = true) (hdue : s.ma.claimAt + ms s.cfg.elect.claim ≤ max s.now t) :
    Answers (.claimWindowExpiry t) s fun s' => let sum := sumI (s.ma.stats.entries.map fun e => e.2.applied)
      s'.ma.holds = true ∧ s'.ma.epoch = s.ma.claimEpoch ∧ s'.ma.target = sum ∧ s'.ma.inForce = (sum : Rat) ∧ s'.ma.horizon = s.cfg.alloc.horizon ∧
        s'.ma.lifeUntil = none ∧ s'.ma.clients = {} ∧ s'.ma.ops = [] ∧ s'.ma.claiming = false := by
  refine answers_of (exec_claimWindowExpiry t s) ?_
  have hwon := claimWindow_ma (s := s.begin t) hclaiming hcandidate hdue
  generalize claimWindow (s.begin t) = u at hwon ⊢
  obtain ⟨c, claiming, l, hma, hends, -⟩ := settled_ma s u t
  rw [hma]
  exact ⟨(congrArg Master.holds hwon :), (congrArg Master.epoch hwon :), (congrArg Master.target hwon :), (congrArg Master.inForce hwon :),
    (congrArg Master.horizon hwon :), (congrArg Master.lifeUntil hwon :), (congrArg Master.clients hwon :), (congrArg Master.ops hwon :),
    hends (congrArg Master.claiming hwon :)⟩

/-- With no operation in flight the handover frame names the cycle ten after the next. -/
theorem answers_masterHandoverDrained (t i d : Nat) (s : State) (hdraining : s.ma.draining = some (i, d)) (hmaster : s.isMaster = true) (hops : s.ma.ops = []) :
    Answers (.masterHandoverDrained t) s fun s' => s'.ma.draining = none ∧ s'.ma.handover = some (i, (2 * ((s.begin t).nextCycle + 10)) % two32) ∧
      ∃ e, e ∈ s'.out ∧ e.kind = .masterHandover := by
  refine answers_of (exec_masterHandoverDrained t s) ?_
  rw [handoverDrained_sends (s := s.begin t) hdraining hmaster hops]
  generalize hv : ((s.begin t).onMaster fun m => { m with draining := none, handover := some (i, (2 * ((s.begin t).nextCycle + 10)) % two32) }) = v
  have hhandover : v.ma.handover = some (i, (2 * ((s.begin t).nextCycle + 10)) % two32) := by rw [← hv, State.onMaster_ma]
  have hdrained : v.ma.draining = none := by rw [← hv, State.onMaster_ma]
  obtain ⟨x, hsent, hkind⟩ := sendHandover_emits hhandover
  obtain ⟨seqs, hma⟩ := sendHandover_ma v
  have hfinal : (v.sendHandover.cmdFinal 0x0B01 stDone 0 []).ma = { v.ma with seqs := seqs } := (ma_of_still (cmdFinal_still ..)).trans hma
  obtain ⟨c, claiming, l, hsettled, -⟩ := settled_ma s (v.sendHandover.cmdFinal 0x0B01 stDone 0 []) t
  rw [hsettled, hfinal]
  exact ⟨hdrained, hhandover, x, settled_emits (mem_cmdFinal hsent ..) s t, hkind⟩

/-- After 500 ms the wait for the operations in flight ends without a handover. -/
theorem answers_masterHandoverDrained_late (t i d : Nat) (s : State) (hdraining : s.ma.draining = some (i, d)) (hmaster : s.isMaster = true) (hops : s.ma.ops ≠ [])
    (hlate : d + ms 500 ≤ max s.now t) : Answers (.masterHandoverDrained t) s fun s' =>
      s'.ma.draining = none ∧ s'.ma.handover = s.ma.handover ∧ s'.ma.ops = s.ma.ops ∧ s'.freeIdx = s.freeIdx + 1 := by
  refine answers_of (exec_masterHandoverDrained t s) ?_
  rw [handoverDrained_waits (s := s.begin t) hdraining hmaster hops, if_pos (by exact hlate)]
  generalize Config.freeNat (s.begin t).freeIdx % 256 = reason
  generalize hv : ({ (s.begin t).onMaster fun m => { m with draining := none } with freeIdx := (s.begin t).freeIdx + 1 } : State) = v
  have hma : v.ma = { s.ma with draining := none } := by rw [← hv]; rfl
  have hidx : v.freeIdx = s.freeIdx + 1 := by rw [← hv]; rfl
  have hfinal := cmdFinal_still v 0x0B01 stBusy reason []
  generalize v.cmdFinal 0x0B01 stBusy reason [] = u at hfinal ⊢
  obtain ⟨c, claiming, l, hsettled, -⟩ := settled_ma s u t
  rw [hsettled, ma_of_still hfinal, hma, settle_freeIdx]
  exact ⟨rfl, rfl, rfl, (congrArg State.freeIdx hfinal :).trans hidx⟩

/-- The target of a handover keeps its frame, and a plant master of a lower epoch loses the role. -/
theorem answers_masterHandoverFrame (t : Nat) (h : DHdr) (i : Nat) (f : Handover) (s : State) (hnet : s.netOn = true) (hgood : hdrGood h = true) (hi : i ≤ 127)
    (hhorizon : f.horizon ≤ 4) (hcycle : f.cycle % 2 = 0) (hother : h.sender ≠ s.cfg.string.index) (hepoch : s.seenEpoch ≤ h.epoch) :
    Answers (.masterHandoverFrameReceived t h i f) s fun s' =>
      s'.ma.incoming = (if i = s.cfg.string.index ∧ s.isCandidate = true then some f else s.ma.incoming) ∧
        (s.isMaster = true → s.ma.epoch < f.epoch → s'.ma.holds = false) := by
  refine answers_of (exec_masterHandoverFrameReceived ..) ?_
  rw [handoverFrameReceived_new (s := s.begin t) hnet hgood hi hhorizon hcycle hother hepoch]
  have hma := dispatchTaken_ma (s.begin t) h
  have hcandidate : (((s.begin t).dispatchTaken h).claimHeard f.epoch).isCandidate = s.isCandidate := (claimHeard_isCandidate ..).trans (dispatchTaken_isCandidate (s.begin t) h)
  have hincoming : (((s.begin t).dispatchTaken h).claimHeard f.epoch).ma.incoming = s.ma.incoming := by
    rw [claimHeard_incoming, hma]
    rfl
  have hloses : s.isMaster = true → s.ma.epoch < f.epoch → (((s.begin t).dispatchTaken h).claimHeard f.epoch).ma.holds = false := by
    intro hmaster hlower
    rw [claimHeard_loses ((dispatchTaken_isMaster (s.begin t) h).trans hmaster) (by rw [hma]; exact hlower), loseMaster_ma]
    rfl
  rw [hcandidate, show (s.begin t).cfg.string.index = s.cfg.string.index from rfl]
  generalize ((s.begin t).dispatchTaken h).claimHeard f.epoch = v at hincoming hloses ⊢
  by_cases hnamed : i = s.cfg.string.index ∧ s.isCandidate = true
  · have htakes : (decide (i = s.cfg.string.index) && s.isCandidate) = true := by simpa using hnamed
    obtain ⟨c, claiming, l, hsettled, -⟩ := settled_ma s (v.onMaster fun m => { m with incoming := some f }) t
    rw [if_pos htakes, if_pos hnamed, hsettled]
    exact ⟨rfl, hloses⟩
  · have hkeeps : ¬ (decide (i = s.cfg.string.index) && s.isCandidate) = true := by simpa using hnamed
    obtain ⟨c, claiming, l, hsettled, -⟩ := settled_ma s v t
    rw [if_neg hkeeps, if_neg hnamed, hsettled]
    exact ⟨hincoming, hloses⟩

/-- The old plant master holds no role from the handover cycle on, and sends no multicast. -/
theorem answers_masterHandoverCycle_ends (t : Nat) (s : State) (hincoming : s.ma.incoming = none) (hholds : s.ma.holds = true)
    (hhanded : (s.begin t).handedBy (s.begin t).thisCycle = true) : Answers (.masterHandoverCycle t) s fun s' =>
      s'.ma.holds = false ∧ s'.ma.handover = none ∧ s'.ma.clients = {} ∧ s'.ma.target = s.ma.target ∧ s'.Withholds .multicast := by
  refine answers_of (exec_masterHandoverCycle t s) ?_
  rw [handoverCycle_of_none (s := s.begin t) hincoming, State.roleHanded, if_pos (by rw [hhanded, begin_ma, hholds]; rfl)]
  obtain ⟨c, claiming, l, hma, -⟩ := settled_ma s
    ((s.begin t).onMaster fun m => { m with holds := false, handover := none, clients := {}, spRequests := [], exRequests := [] }) t
  have hsilent := withholds_of_out (u := s.keep t ((s.begin t).onMaster fun m =>
    { m with holds := false, handover := none, clients := {}, spRequests := [], exRequests := [] })) (withholds_begin s t .multicast) rfl
  rw [hma]
  exact ⟨rfl, rfl, rfl, rfl, withholds_settle ⟨by decide, by decide, by decide⟩ hsilent s⟩

/-- The target takes role and set-point at the handover cycle, and sends its multicast. -/
theorem answers_masterHandoverCycle_takes (t : Nat) (f : Handover) (s : State) (hincoming : s.ma.incoming = some f) (hcandidate : s.isCandidate = true)
    (hcycle : notBefore ((2 * (s.begin t).thisCycle) % two32) f.cycle = true) : Answers (.masterHandoverCycle t) s fun s' =>
      s'.ma.holds = true ∧ s'.ma.epoch = f.epoch ∧ s'.ma.target = f.target ∧ s'.ma.ramp = f.ramp ∧ s'.ma.horizon = f.horizon ∧ s'.ma.excluded = f.excluded ∧
        s'.ma.incoming = none ∧ s'.ma.sent = some (s.begin t).thisCycle ∧ ∃ e, e ∈ s'.out ∧ e.kind = .multicast := by
  refine answers_of (exec_masterHandoverCycle t s) ?_
  obtain ⟨u, m, hu, htaken⟩ := handoverCycle_takes (s := s.begin t) hincoming hcandidate hcycle
  rw [htaken]
  have hallocated := allocateCycle_ungrouped u (s.begin t).thisCycle 0
  have hnone : u.requestsTaken = u := requestsTaken_of_none (congrArg Master.spRequests hu) (congrArg Master.exRequests hu)
  rw [hnone] at hallocated
  generalize (s.begin t).thisCycle = n at hallocated ⊢
  generalize u.allocateCycle n 0 = v at hallocated ⊢
  obtain ⟨hholds, hepoch, htarget, -, hramp, hhorizon, hexcluded, hgone, -⟩ := ungrouped_reads hallocated
  obtain ⟨seqs, hsent⟩ := sendMulticast_ma v n
  obtain ⟨x, hx, hkind⟩ := sendMulticast_emits v n
  obtain ⟨c, claiming, l, hma, -⟩ := settled_ma s (v.sendMulticast n) t
  rw [hma, hsent]
  exact ⟨hholds.trans (congrArg Master.holds hu :), hepoch.trans (congrArg Master.epoch hu :), htarget.trans (congrArg Master.target hu :),
    hramp.trans (congrArg Master.ramp hu :), hhorizon.trans (congrArg Master.horizon hu :), hexcluded.trans (congrArg Master.excluded hu :),
    hgone.trans (congrArg Master.incoming hu :), rfl, x, settled_emits hx s t, hkind⟩

/-- Settles O39: each step of an election and of a handover from what it leaves of the plant master's state. -/
theorem masterElection : Obligations.MasterElection := by
  refine ⟨?send_idle, ?send, ?repeat_idle, ?repeat_, ?claim_shut, ?claim_bad, ?claim_own, answers_claimReceived_higher, answers_claimReceived_better, answers_claimReceived_worse, ?window_idle, answers_claimWindowExpiry,
    ?named_follower, ?named_invalid, ?named_refused, ?named, ?drained_idle, answers_masterHandoverDrained, answers_masterHandoverDrained_late, ?drained_waits, ?frame_shut, ?frame_bad, ?frame_old, answers_masterHandoverFrame,
    ?cycle_idle, answers_masterHandoverCycle_ends, answers_masterHandoverCycle_takes⟩
  case send_idle =>
    intro t s h
    exact idles_of (exec_claimSend t s) (claimSend_idle (s := s.begin t) h)
  case send =>
    intro t s hcandidate hstanding hfree hnew hdue
    refine answers_of (exec_claimSend t s) ?_
    rw [claimSend_due (s := s.begin t) hcandidate hstanding hfree hnew hdue]
    obtain ⟨x, hsent, hkind⟩ := sendClaim_emits ((s.begin t).onMaster fun m => { m with
      claiming := true, claimAt := (s.begin t).now, claimSent := (s.begin t).now, claimEpoch := wrapInc (s.begin t).seenEpoch }) (wrapInc (s.begin t).seenEpoch) false
    rw [settled_claim_ma s t _ hcandidate hstanding]
    exact ⟨rfl, rfl, rfl, rfl, hfree, x, settled_emits hsent s t, hkind⟩
  case repeat_idle =>
    intro t s h
    exact idles_of (exec_claimRepeat t s) (claimRepeat_idle (s := s.begin t) h)
  case repeat_ =>
    intro t s hclaiming hcandidate hdue
    refine answers_of (exec_claimRepeat t s) ?_
    rw [claimRepeat_due (s := s.begin t) hclaiming hcandidate hdue]
    obtain ⟨x, hsent, hkind⟩ := sendClaim_emits ((s.begin t).onMaster fun m => { m with claimSent := (s.begin t).now }) (s.begin t).ma.claimEpoch false
    obtain ⟨c, claiming, l, hma, -⟩ := settled_ma s (((s.begin t).onMaster fun m => { m with claimSent := (s.begin t).now }).sendClaim (s.begin t).ma.claimEpoch false) t
    rw [hma, sendClaim_ma]
    exact ⟨rfl, rfl, rfl, x, settled_emits hsent s t, hkind⟩
  case claim_shut =>
    intro t h e r a s hnet
    have hnet : (s.begin t).netOn = false := hnet
    exact idles_of (exec_claimReceived ..) (by rw [claimReceived, hnet]; rfl)
  case claim_bad =>
    intro t h e r a s hnet hbad
    exact does_of (exec_claimReceived ..) (by rw [claimReceived_bad (s := s.begin t) hnet _ _ hbad]; rfl)
  case claim_own =>
    intro t h e r a s hnet hgood hown
    refine answers_of (exec_claimReceived ..) ?_
    obtain ⟨c, claiming, l, hma, -⟩ := settled_ma s ((s.begin t).dispatchTaken h) t
    rw [claimReceived_own (s := s.begin t) hnet hgood e r hown, hma, dispatchTaken_ma]
    exact ⟨rfl, rfl, rfl⟩
  case window_idle =>
    intro t s h
    exact idles_of (exec_claimWindowExpiry t s) (claimWindow_idle (s := s.begin t) h)
  case named_follower =>
    intro t m i s htakes hleads
    exact answers_maint (exec_masterHandOver ..) htakes (handOverBody_follower (by exact hleads)) fun s' _ hstored hbare =>
      ⟨hstored, (congrArg (fun v : State => v.ma.draining) (hbare.trans (by rw [commandTaken_offNet, begin_bare])) :)⟩
  case named_invalid =>
    intro t m i s htakes hleads hi
    exact answers_maint (exec_masterHandOver ..) htakes (handOverBody_invalid (by exact hleads) hi) fun s' _ hstored hbare =>
      ⟨hstored, (congrArg (fun v : State => v.ma.draining) (hbare.trans (by rw [commandTaken_offNet, begin_bare])) :)⟩
  case named_refused =>
    intro t m i s htakes hleads hi hfails
    exact answers_maint (exec_masterHandOver ..) htakes (handOverBody_refused (by exact hleads) hi (by exact hfails)) fun s' _ hstored hbare =>
      ⟨hstored, (congrArg (fun v : State => v.ma.draining) (hbare.trans (by rw [commandTaken_offNet, begin_bare])) :)⟩
  case named =>
    intro t m i s htakes hmaster hi hcandidate hfree
    refine answers_taken (exec_masterHandOver ..) htakes (handOverBody_started (s := (s.begin t).commandTaken m) hmaster hi hcandidate hfree) ?_
    have hholds : s.ma.holds = true := by
      simp only [State.isMaster, Bool.and_eq_true] at hmaster
      exact hmaster.1.1
    rw [settle_tele, cmdAnswer_inFlight]
    exact ⟨rfl, settled_part (fun v : State => v.ma.draining) .., (settled_part (fun v : State => v.ma.holds) ..).trans hholds⟩
  case drained_idle =>
    intro t s h
    exact idles_of (exec_masterHandoverDrained t s) (handoverDrained_idle (s := s.begin t) h)
  case drained_waits =>
    intro t i d s hdraining hops hearly
    refine idles_of (exec_masterHandoverDrained t s) ?_
    cases hmaster : (s.begin t).isMaster
    case false => exact handoverDrained_idle (.inr hmaster)
    case true => rw [handoverDrained_waits (s := s.begin t) hdraining hmaster hops, if_neg (by exact hearly.not_ge)]
  case frame_shut =>
    intro t h i f s hnet
    have hnet : (s.begin t).netOn = false := hnet
    exact idles_of (exec_masterHandoverFrameReceived ..) (by rw [handoverFrameReceived, hnet]; rfl)
  case frame_bad =>
    intro t h i f s hnet hbad
    exact does_of (exec_masterHandoverFrameReceived ..) (by rw [handoverFrameReceived_bad (s := s.begin t) hnet hbad]; rfl)
  case frame_old =>
    intro t h i f s hnet hgood hi hhorizon hcycle hold
    refine answers_of (exec_masterHandoverFrameReceived ..) ?_
    obtain ⟨c, claiming, l, hma, -⟩ := settled_ma s ((s.begin t).dispatchTaken h) t
    rw [handoverFrameReceived_old (s := s.begin t) hnet hgood hi hhorizon hcycle (by exact hold), hma, dispatchTaken_ma]
    exact ⟨rfl, rfl⟩
  case cycle_idle =>
    intro t s hincoming hhandover
    refine idles_of (exec_masterHandoverCycle t s) ?_
    rw [handoverCycle_of_none (s := s.begin t) hincoming, State.roleHanded, State.handedBy, begin_ma, hhandover, Bool.and_false]
    rfl

end Sys2Proof.Machine
/-! The set-point multicast at a string (15 R381, R383, R389). -/

namespace Sys2Proof.Machine

open Sys2Proof

/-! ### A multicast judged (15 R381, R383) -/

/-- The states in which a multicast is judged. -/
def State.hearsMulticast (s : State) : Prop := s.pw.state = .run ∨ s.pw.state = .watch ∨ s.pw.state = .enteringHib

/-- A master epoch above the one kept is kept (15 R402). -/
def State.epochHeard (s : State) (epoch : Nat) : State := if s.ma.epoch < epoch then s.keepEpoch epoch else s

/-- The frame is not the next one of the master heard last. -/
def Dispatch.misses (d : Dispatch) (h : DHdr) : Bool :=
  match d.mcastSeq with
  | some q => decide (d.master = some h.sender) && !decide (h.seq = wrapInc q)
  | none => false

/-- The master heard last is the sender of an accepted multicast (15 R383). -/
def Dispatch.heard (h : DHdr) (now : Nat) (gap : Bool) (d : Dispatch) : Dispatch :=
  { d with
    masterEpoch := h.epoch, master := some h.sender, mcastSeq := some h.seq, heardAt := some now, masterLost := false
    lateRun := d.lateRun || gap
    lateFrom := if gap then h.sender else d.lateFrom }

/-- The state with a multicast accepted, before a leader takes its entry. -/
def State.multicastTaken (s : State) (h : DHdr) (m : McIn) : State :=
  let m0 := s.sweepStart m.cycle
  let s3 := ((s.dispatchTaken h).claimHeard h.epoch).epochHeard h.epoch
  ((s3.onDispatch (Dispatch.heard h s.now ((s.dispatchTaken h).di.misses h))).onMaster fun x => { x with l0 := s.localOf m0, claiming := false }).sample 0xA
    (roundOpen 46 (((s.th.reading - m0 : Nat) : Rat) / 1000))

theorem exec_setpointMulticastReceived (t : Nat) (h : DHdr) (m : McIn) (s : State) : exec (.setpointMulticastReceived t h m) s = s.run t (multicastReceived h m) := rfl

theorem multicastReceived_bad {h : DHdr} (hbad : hdrGood h = false) (m : McIn) (s : State) : multicastReceived h m s = s.badDispatch := by
  simp only [multicastReceived, hbad, Bool.not_false, if_true]

section
variable {h : DHdr} {m : McIn} {s : State} (hgood : hdrGood h = true)
include hgood

theorem multicastReceived_deaf (hdeaf : ¬ s.hearsMulticast) : multicastReceived h m s = s := by
  have hdeaf : (!decide (s.pw.state = .run ∨ s.pw.state = .watch ∨ s.pw.state = .enteringHib)) = true := by
    rw [decide_eq_false (by exact hdeaf)]
    rfl
  simp only [multicastReceived, hgood, hdeaf, Bool.not_true, Bool.false_eq_true, if_false, if_true]

/-- A multicast with a good header is judged by the parity of its cycle, its master epoch and its age. -/
theorem multicastReceived_judged (hears : s.hearsMulticast) : multicastReceived h m s =
    if m.cycle % 2 = 1 then (s.received h.port).onDispatch fun d => { d with invalid := wrapInc d.invalid }
    else if h.epoch < s.seenEpoch then (s.received h.port).onDispatch fun d => { d with stale := wrapInc d.stale }
    else if s.sweepStart m.cycle + cycleNs < s.th.reading then (s.received h.port).onDispatch fun d => { d with late := wrapInc d.late }
    else if (s.multicastTaken h m).leads then (s.multicastTaken h m).takeEntry m (s.localOf (s.sweepStart m.cycle))
    else s.multicastTaken h m := by
  have hears : (!decide (s.pw.state = .run ∨ s.pw.state = .watch ∨ s.pw.state = .enteringHib)) = false := by
    rw [decide_eq_true (by exact hears)]
    rfl
  simp only [multicastReceived, hgood, hears, Bool.not_true, Bool.false_eq_true, if_false]
  rfl

end

/-! ### What an accepted multicast leaves (15 R383, R404) -/

theorem claimHeard_still (s : State) (epoch : Nat) : ∃ m, (s.claimHeard epoch).still = (s.onMaster fun _ => m).still := by
  unfold State.claimHeard
  split
  · exact ⟨s.ma.lost, loseMaster_still s⟩
  · exact ⟨s.ma, rfl⟩

theorem epochHeard_still (s : State) (epoch : Nat) : (s.epochHeard epoch).still = (s.onMaster fun m => { m with epoch := max m.epoch epoch }).still := by
  unfold State.epochHeard
  split
  next hhigher => rw [keepEpoch_still, State.onMaster, State.onMaster, max_eq_right hhigher.le]
  next hlower => rw [State.onMaster, max_eq_left (not_lt.1 hlower)]

theorem epochHeard_ma (s : State) (epoch : Nat) : (s.epochHeard epoch).ma = { s.ma with epoch := max s.ma.epoch epoch } := ma_of_still (epochHeard_still s epoch)

theorem sample_still (s : State) (n : Nat) (v : Int) : ∃ d, (s.sample n v).still = { s.still with dl := d } := by
  unfold State.sample
  dsimp only
  split
  · exact ⟨_, record_still ..⟩
  · exact ⟨_, rfl⟩

section
variable {x s : State} {F : Dispatch → Dispatch} {ma : Master}

/-- A sample of a state that differs in the dispatch and the plant master's state. -/
theorem sampled_still (h : x.still = ((s.onDispatch F).onMaster fun _ => ma).still) (G : Dispatch → Dispatch) (f : Master → Master) (n : Nat) (v : Int) :
    ∃ d, (((x.onDispatch G).onMaster f).sample n v).still = (((s.onDispatch fun y => G (F y)).onMaster fun _ => f ma).onDill fun _ => d).still := by
  obtain ⟨d, hsample⟩ := sample_still ((x.onDispatch G).onMaster f) n v
  exact ⟨d, hsample.trans (congrArg (fun w : State => { w with dl := d }) (still_onMaster (still_onDispatch h G) f))⟩

theorem sampled_reads {d : Dill} (h : x.still = (((s.onDispatch F).onMaster fun _ => ma).onDill fun _ => d).still) :
    x.di = F s.di ∧ x.ma = ma ∧ x.leads = s.leads ∧ x.now = s.now :=
  ⟨di_of_still h, ma_of_still h, (leads_of_still h).trans rfl, (now_of_still h).trans rfl⟩

end

theorem heard_judged (h : DHdr) (now : Nat) (gap late : Bool) (from_ : Nat) (d : Dispatch) : ∃ late' from', Dispatch.heard h now gap (d.judged late from_) =
    (d.heard h now false).judged late' from' := ⟨late || gap, if gap then h.sender else from_, rfl⟩

/-- An accepted multicast makes its sender the master heard last, and ends a claim (15 R383, R403). -/
theorem multicastTaken_reads (s : State) (h : DHdr) (m : McIn) :
    (∃ late from_, (s.multicastTaken h m).di = (Dispatch.heard h s.now false s.di).judged late from_) ∧ (s.multicastTaken h m).leads = s.leads ∧
      (s.multicastTaken h m).now = s.now := by
  obtain ⟨late, from_, htaken⟩ := dispatchTaken_still s h
  obtain ⟨m1, hheard⟩ := claimHeard_still (s.dispatchTaken h) h.epoch
  have hepoch := (epochHeard_still ((s.dispatchTaken h).claimHeard h.epoch) h.epoch).trans (still_onMaster (hheard.trans (still_onMaster htaken _)) _)
  obtain ⟨d, hsampled⟩ := sampled_still (F := Dispatch.judged late from_) (s := s) hepoch (Dispatch.heard h s.now ((s.dispatchTaken h).di.misses h))
    (fun x => { x with l0 := s.localOf (s.sweepStart m.cycle), claiming := false }) 0xA (roundOpen 46 (((s.th.reading - s.sweepStart m.cycle : Nat) : Rat) / 1000))
  obtain ⟨hdi, -, hleads, hnow⟩ := sampled_reads hsampled
  obtain ⟨late', from', hjudged⟩ := heard_judged h s.now ((s.dispatchTaken h).di.misses h) late from_ s.di
  exact ⟨⟨late', from', hdi.trans hjudged⟩, hleads, hnow⟩

theorem multicastTaken_ma (s : State) (h : DHdr) (m : McIn) : ∃ epoch l0, (s.multicastTaken h m).ma =
    { ((s.dispatchTaken h).claimHeard h.epoch).ma with epoch := epoch, l0 := l0, claiming := false } := by
  obtain ⟨d, hsample⟩ := sample_still ((((s.dispatchTaken h).claimHeard h.epoch).epochHeard h.epoch |>.onDispatch (Dispatch.heard h s.now ((s.dispatchTaken h).di.misses h))).onMaster
    fun x => { x with l0 := s.localOf (s.sweepStart m.cycle), claiming := false }) 0xA (roundOpen 46 (((s.th.reading - s.sweepStart m.cycle : Nat) : Rat) / 1000))
  have hma : (s.multicastTaken h m).ma = { (((s.dispatchTaken h).claimHeard h.epoch).epochHeard h.epoch).ma with l0 := s.localOf (s.sweepStart m.cycle), claiming := false } :=
    (congrArg State.ma hsample :)
  exact ⟨_, _, hma.trans (by rw [epochHeard_ma])⟩

/-- What taking the entry of a multicast leaves of the dispatch (15 R381, R383, R389). -/
def Dispatch.entered (m : McIn) (from_ : Nat) (valid : Bool) (phase : Option (Nat × Nat)) (d : Dispatch) : Dispatch :=
  { d with
    setpoint := (m.entry.getD {}).setpoint, entryValid := (m.entry.getD {}).valid, nextCycle := m.cycle, taken := false, decim := (m.entry.getD {}).decim
    applyFrom := from_, phaseValid := valid, newPhase := phase }

theorem takePhase_di (s : State) (e : McEntry) : ∃ valid phase, (s.takePhase e).di = { s.di with phaseValid := valid, newPhase := phase } := by
  unfold State.takePhase
  rw [State.onDispatch_di]
  split
  · exact ⟨_, _, rfl⟩
  · split
    · exact ⟨_, _, rfl⟩
    · split
      · split <;> exact ⟨_, _, rfl⟩
      · exact ⟨_, _, rfl⟩

theorem requestRun_di (s : State) : s.requestRun.di = s.di := by
  unfold State.requestRun
  split <;> rfl

theorem requestRun_ma (s : State) : s.requestRun.ma = s.ma := by
  unfold State.requestRun
  split <;> rfl

theorem takeEntry_ma (s : State) (m : McIn) (m0 : Nat) : (s.takeEntry m m0).ma = s.ma := by
  unfold State.takeEntry
  dsimp only
  split
  · rw [requestRun_ma]
    rfl
  · rfl

theorem takeEntry_di (s : State) (m : McIn) (m0 : Nat) : ∃ valid phase, (s.takeEntry m m0).di = s.di.entered m (max (m0 + 500000) s.now) valid phase := by
  unfold State.takeEntry
  dsimp only
  obtain ⟨valid, phase, hphase⟩ := takePhase_di (s.onDispatch fun d => { d with
    setpoint := (m.entry.getD {}).setpoint, entryValid := (m.entry.getD {}).valid, nextCycle := m.cycle, taken := false, decim := (m.entry.getD {}).decim
    applyFrom := max (m0 + 500000) s.now }) (m.entry.getD {})
  refine ⟨valid, phase, ?_⟩
  split
  · rw [requestRun_di, hphase]
    rfl
  · rw [hphase]
    rfl

/-- What an accepted multicast leaves of the plant master's state and of the dispatch, for a leader and for a follower. -/
theorem multicastReceived_accepted {h : DHdr} {m : McIn} {s : State} (hgood : hdrGood h = true) (hears : s.hearsMulticast) (heven : m.cycle % 2 = 0)
    (hepoch : s.seenEpoch ≤ h.epoch) (htimely : s.th.reading ≤ s.sweepStart m.cycle + cycleNs) : (multicastReceived h m s).ma = (s.multicastTaken h m).ma ∧
      (s.leads = true → ∃ late from_ valid phase, (multicastReceived h m s).di =
        ((Dispatch.heard h s.now false s.di).judged late from_).entered m (max (s.localOf (s.sweepStart m.cycle) + 500000) s.now) valid phase) ∧
      (s.leads = false → ∃ late from_, (multicastReceived h m s).di = (Dispatch.heard h s.now false s.di).judged late from_) := by
  obtain ⟨⟨late, from_, hdi⟩, hleads, hnow⟩ := multicastTaken_reads s h m
  rw [multicastReceived_judged hgood hears, if_neg (by rw [heven]; exact Nat.zero_ne_one), if_neg hepoch.not_gt, if_neg htimely.not_gt, hleads]
  cases s.leads
  case true =>
    obtain ⟨valid, phase, hentered⟩ := takeEntry_di (s.multicastTaken h m) m (s.localOf (s.sweepStart m.cycle))
    rw [hnow, hdi] at hentered
    exact ⟨takeEntry_ma .., fun _ => ⟨late, from_, valid, phase, hentered⟩, nofun⟩
  case false => exact ⟨rfl, nofun, fun _ => ⟨late, from_, hdi⟩⟩

end Sys2Proof.Machine
/-! The dispatch cycle: the commands of a cycle at the strings and at the plant master, the statuses and the streams (15 R381 to R389, R399). -/

namespace Sys2Proof.Machine

open Sys2Proof

/-! ### What is due at a string (15 R383, R389) -/

/-- The hold of the entry ends without a multicast. -/
def lossHold (s : State) : State :=
  if s.leads && !s.di.masterLost && s.heldFor s.di.heardAt (ms s.cfg.alloc.holdMs) then
    ((s.onDispatch fun d => { d with masterLost := true, entryValid := false, taken := true }).startRamp s.now).record .masterLost 0 []
  else s

/-- A new carrier phase is applied. -/
def carrierPhase (s : State) : State :=
  match s.di.newPhase with
  | some (p, r) =>
    if s.leads && decide (s.sweepNo % 1000 = 0) && decide (r + ms 20 ≤ s.now) then
      s.onDispatch fun d => { d with phase := p, phaseValid := true, phaseSweep := s.sweepNo, newPhase := none }
    else s
  | none => s

theorem exec_masterLossHoldExpiry (t : Nat) (s : State) : exec (.masterLossHoldExpiry t) s = s.run t lossHold := rfl
theorem exec_carrierPhaseApply (t : Nat) (s : State) : exec (.carrierPhaseApply t) s = s.run t carrierPhase := rfl

theorem lossHold_idle {s : State} (h : s.leads = false ∨ s.di.masterLost = true ∨ s.di.heardAt = none) : lossHold s = s := by
  refine if_neg ?_
  rcases h with h | h | h
  all_goals simp [h, State.heldFor]

/-- The state at the end of the hold: the entry no longer stands, and the applied set-point begins its ramp to zero. -/
def State.holdEnded (s : State) : State :=
  ((s.onDispatch fun d => { d with masterLost := true, entryValid := false, taken := true }).startRamp s.now).record .masterLost 0 []

theorem lossHold_due {s : State} {d : Nat} (hleads : s.leads = true) (hheard : s.di.masterLost = false) (hat : s.di.heardAt = some d)
    (hdue : d + ms s.cfg.alloc.holdMs ≤ s.now) :
    lossHold s = s.holdEnded :=
  if_pos (by rw [hleads, hheard, hat, State.heldFor, decide_eq_true hdue]; rfl)

theorem startRamp_di (s : State) (from_ : Nat) : ∃ ramping at_, (s.startRamp from_).di = { s.di with ramping := ramping, rampAt := at_ } ∧
    (s.di.applying = true → ramping = true) := by
  unfold State.startRamp
  rw [State.onDispatch_di]
  split
  next => exact ⟨true, from_, rfl, fun _ => rfl⟩
  next hstands => exact ⟨s.di.ramping, s.di.rampAt, rfl, fun happlying => by simpa [happlying] using hstands⟩

theorem holdEnded_di (s : State) : ∃ ramping at_, s.holdEnded.di =
    { s.di with masterLost := true, entryValid := false, taken := true, ramping := ramping, rampAt := at_ } ∧ (s.di.applying = true → ramping = true) := by
  obtain ⟨ramping, at_, hdi, hramps⟩ := startRamp_di (s.onDispatch fun d => { d with masterLost := true, entryValid := false, taken := true }) s.now
  exact ⟨ramping, at_, (record_di ..).trans hdi, hramps⟩

theorem holdEnded_beside (s : State) : ({ s.holdEnded.bare with di := {}, freeIdx := 0 } : State) = { s.bare with di := {}, freeIdx := 0 } := by
  rw [State.holdEnded, record_bare]
  rfl

theorem carrierPhase_idle {s : State} (h : s.di.newPhase = none ∨ s.leads = false ∨ s.sweepNo % 1000 ≠ 0) : carrierPhase s = s := by
  unfold carrierPhase
  split
  next hphase =>
    rcases h with h | h | h
    · cases h.symm.trans hphase
    · rw [h]
      rfl
    · rw [decide_eq_false h, Bool.and_false]
      rfl
  next => rfl

theorem carrierPhase_due {s : State} {p r : Nat} (hphase : s.di.newPhase = some (p, r)) (hleads : s.leads = true) (hsweep : s.sweepNo % 1000 = 0) (hdue : r + ms 20 ≤ s.now) :
    carrierPhase s = s.onDispatch fun d => { d with phase := p, phaseValid := true, phaseSweep := s.sweepNo, newPhase := none } := by
  rw [carrierPhase, hphase]
  dsimp only
  rw [hleads, decide_eq_true hsweep, decide_eq_true hdue]
  rfl

/-! ### What is due at the plant master (15 R381, R386, R387) -/

/-- The allocation of the next cycle, once. -/
def dispatchAllocation (shed : Nat) (s : State) : State :=
  if s.isMaster && decide (1600000 ≤ s.sinceEpoch % cycleNs) && !decide (s.ma.cycle = some s.nextCycle) && !s.handedBy s.nextCycle then s.allocateCycle s.nextCycle shed
  else s

/-- The multicast of the cycle that was allocated, once. -/
def multicastSend (s : State) : State :=
  if s.isMaster && decide (s.ma.cycle = some s.thisCycle) && !decide (s.ma.sent = some s.thisCycle) && !s.handedBy s.thisCycle then s.sendMulticast s.thisCycle else s

/-- The end of a set-point's lifetime. -/
def lifetimeExpiry (s : State) : State :=
  if s.isMaster && s.due s.ma.lifeUntil && s.ma.spRequests.isEmpty then
    (s.onMaster fun m => { m with target := 0, expiryRamp := true, expired := true, lifeUntil := none }).record .setpointExpired 0 []
  else s

theorem exec_dispatchAllocation (t : Nat) (shed : Fin 3) (s : State) : exec (.dispatchAllocation t shed) s = s.run t (dispatchAllocation shed.val) := rfl
theorem exec_setpointMulticastSend (t : Nat) (s : State) : exec (.setpointMulticastSend t) s = s.run t multicastSend := rfl
theorem exec_setpointLifetimeExpiry (t : Nat) (s : State) : exec (.setpointLifetimeExpiry t) s = s.run t lifetimeExpiry := rfl

theorem handedBy_of_none {s : State} (h : s.ma.handover = none) (c : Nat) : s.handedBy c = false := by
  rw [State.handedBy, h]

theorem dispatchAllocation_idle {s : State} (h : s.isMaster = false ∨ s.ma.cycle = some s.nextCycle ∨ s.sinceEpoch % cycleNs < 1600000) (shed : Nat) :
    dispatchAllocation shed s = s := by
  refine if_neg ?_
  rcases h with h | h | h
  · rw [h]
    exact Bool.false_ne_true
  · rw [decide_eq_true h]
    simp
  · rw [decide_eq_false h.not_ge]
    simp

theorem dispatchAllocation_due {s : State} (hmaster : s.isMaster = true) (htime : 1600000 ≤ s.sinceEpoch % cycleNs) (hnew : s.ma.cycle ≠ some s.nextCycle)
    (hkeeps : s.ma.handover = none) (shed : Nat) : dispatchAllocation shed s = s.allocateCycle s.nextCycle shed :=
  if_pos (by rw [hmaster, decide_eq_true htime, decide_eq_false hnew, handedBy_of_none hkeeps]; rfl)

theorem multicastSend_idle {s : State} (h : s.isMaster = false ∨ s.ma.cycle ≠ some s.thisCycle ∨ s.ma.sent = some s.thisCycle) : multicastSend s = s := by
  refine if_neg ?_
  rcases h with h | h | h
  · rw [h]
    exact Bool.false_ne_true
  · rw [decide_eq_false h]
    simp
  · rw [decide_eq_true h]
    simp

theorem multicastSend_due {s : State} (hmaster : s.isMaster = true) (hcycle : s.ma.cycle = some s.thisCycle) (hnew : s.ma.sent ≠ some s.thisCycle)
    (hkeeps : s.ma.handover = none) : multicastSend s = s.sendMulticast s.thisCycle :=
  if_pos (by rw [hmaster, decide_eq_true hcycle, decide_eq_false hnew, handedBy_of_none hkeeps]; rfl)

theorem lifetimeExpiry_idle {s : State} (h : s.isMaster = false ∨ s.ma.lifeUntil = none) : lifetimeExpiry s = s := by
  refine if_neg ?_
  rcases h with h | h
  all_goals simp [h, State.due]

theorem lifetimeExpiry_due {s : State} {d : Nat} (hmaster : s.isMaster = true) (hlife : s.ma.lifeUntil = some d) (hdue : d ≤ s.now) (hnone : s.ma.spRequests = []) :
    lifetimeExpiry s = (s.onMaster fun m => { m with target := 0, expiryRamp := true, expired := true, lifeUntil := none }).record .setpointExpired 0 [] :=
  if_pos (by rw [hmaster, hlife, State.due, decide_eq_true hdue, hnone]; rfl)

/-! ### Statuses and streams of the strings (15 R384, R385, R399) -/

/-- The state with a string's status kept. -/
def State.statusKept (s : State) (h : DHdr) (x : StringStat) : State :=
  (s.dispatchTaken h).onMaster fun m => { m with stats := m.stats.put h.sender {} { x with at_ := s.now, timeState := h.timeState } }

theorem exec_stringStatusReceived (t : Nat) (h : DHdr) (x : StringStat) (s : State) : exec (.stringStatusReceived t h x) s = s.run t (stringStatus h x) := rfl
theorem exec_streamFrameIngest (t : Nat) (h : DHdr) (f : StreamIn) (s : State) : exec (.streamFrameIngest t h f) s = s.run t (streamIngest h f) := rfl

theorem localise_still (s : State) (i n : Nat) : (s.localise i n).still = s.still := publish_still ..

section
variable {s : State} {h : DHdr} {x : StringStat} (hnet : s.netOn = true)
include hnet

theorem stringStatus_bad (hbad : (hdrGood h && statusGood x) = false) : stringStatus h x s = s.badDispatch := by
  have hbad : (!hdrGood h || !statusGood x) = true := by rw [← Bool.not_and, hbad, Bool.not_false]
  simp only [stringStatus, hnet, hbad, Bool.not_true, Bool.false_eq_true, if_false, if_true]

/-- A good status is kept; a new action makes the plant master localise, which only publishes. -/
theorem stringStatus_still (hgood : hdrGood h = true) (hstatus : statusGood x = true) : (stringStatus h x s).still = (s.statusKept h x).still := by
  have heq : stringStatus h x s = s.statusKept h x ∨ ∃ n, stringStatus h x s = (s.statusKept h x).localise h.sender n := by
    simp only [stringStatus, hnet, hgood, hstatus, Bool.not_true, Bool.or_self, Bool.false_eq_true, if_false]
    split
    · exact .inr ⟨_, rfl⟩
    · exact .inl rfl
  rcases heq with heq | ⟨n, heq⟩
  · rw [heq]
  · rw [heq, localise_still]

end

/-- The tokens of a string's bucket at a rate, 8 ms deep (15 R399). -/
def Stream.level (x : Stream) (rate : Rat) (now : Nat) : Rat :=
  match x.filledAt with
  | none => rate * 8 / 1000
  | some t0 => min (rate * 8 / 1000) (x.tokens + rate * ((now - t0 : Nat) : Rat) / 1000000000)

/-- A stream after a frame: it takes its octets of the bucket, and what it brings is kept; without tokens it is discarded, and the decimation is to double. -/
def Stream.ingested (x : Stream) (f : StreamIn) (level : Rat) (now : Nat) : Stream :=
  if level < (f.octets : Rat) then { x with tokens := level, filledAt := some now, pend := true, lastDiscard := now }
  else { x with
    tokens := level - f.octets, filledAt := some now
    kept := (f.cells ++ x.kept).filter fun e => decide ((f.sweep + two32 - e.1) % two32 ≤ 10000 ∨ two32 / 2 ≤ (f.sweep + two32 - e.1) % two32) }

theorem streamIngest_idle {s : State} (h : s.netOn = false ∨ s.ma.holds = false) (hdr : DHdr) (f : StreamIn) : streamIngest hdr f s = s := by
  refine if_pos ?_
  rcases h with h | h
  all_goals simp [h]

theorem count_streams (s : State) (k n : Nat) : (s.count k n).ma.streams = s.ma.streams := rfl

/-- A stream frame changes its string's stream alone of the streams (15 R399). -/
theorem streamIngest_streams {s : State} {h : DHdr} (hnet : s.netOn = true) (hholds : s.ma.holds = true) (hrole : s.tw.role = .leader ∨ s.tw.role = .follower)
    (hgood : hdrGood h = true) (f : StreamIn) : (streamIngest h f s).ma.streams = s.ma.streams.put h.sender {}
      ((s.ma.streams.get h.sender {}).ingested f ((s.ma.streams.get h.sender {}).level ((Config.streamRate h.sender : Rat) * 105 / 100) s.now) s.now) := by
  have hma : ((s.received h.port).acceptedDispatch h).ma = s.ma := dispatchTaken_ma s h
  have hput (y : Stream) (k : Nat) : ((((s.received h.port).acceptedDispatch h).onMaster fun m => { m with streams := m.streams.put h.sender {} y }).count k f.octets).ma.streams =
      s.ma.streams.put h.sender {} y := by rw [count_streams, State.onMaster_ma, hma]
  simp only [streamIngest, hnet, hholds, hrole, hgood, hma, decide_true, Bool.not_true, Bool.or_self, Bool.false_eq_true, if_false]
  cases hfill : (s.ma.streams.get h.sender {}).filledAt
  all_goals
    simp only [Stream.ingested, Stream.level, hfill]
    rw [apply_ite (fun v : State => v.ma.streams), apply_ite (s.ma.streams.put h.sender {}), hput, hput]

/-- The relief of a stream's decimation after 10 s without a discard. -/
def streamRelax (i : Nat) (s : State) : State :=
  let x := s.ma.streams.get i {}
  if 0 < x.decim ∧ x.lastDiscard + sec 10 ≤ s.now then
    s.onMaster fun m => { m with streams := m.streams.put i {} { x with decim := x.decim - 1, lastDiscard := s.now } }
  else s

theorem exec_streamDecimationRelax (t i : Nat) (s : State) : exec (.streamDecimationRelax t i) s = s.run t (streamRelax i) := rfl

end Sys2Proof.Machine
/-! The obligation on the dispatch cycle (15 R381 to R389, R399). -/

namespace Sys2Proof.Machine

open Sys2Proof

theorem settled_di (s u : State) (t : Nat) : (s.settle (s.keep t u)).di = u.di := settle_di ..

/-- An accepted multicast, once the step is settled. -/
theorem answers_multicast (t : Nat) (h : DHdr) (m : McIn) (s : State) (hgood : hdrGood h = true) (hears : s.pw.state = .run ∨ s.pw.state = .watch ∨ s.pw.state = .enteringHib)
    (heven : m.cycle % 2 = 0) (hepoch : s.seenEpoch ≤ h.epoch) (htimely : (s.begin t).th.reading ≤ (s.begin t).sweepStart m.cycle + 2000000) :
    Answers (.setpointMulticastReceived t h m) s fun s' => s'.di.masterEpoch = h.epoch ∧ s'.di.master = some h.sender ∧ s'.di.heardAt = some (max s.now t) ∧
      s'.di.masterLost = false ∧ s'.di.mcastSeq = some h.seq ∧ (s.isMaster = true → s.ma.epoch < h.epoch → s'.ma.holds = false ∧ s'.ma.ops = []) ∧
      s'.ma.claiming = false ∧ s'.di.late = s.di.late ∧ s'.di.stale = s.di.stale ∧ s'.di.invalid = s.di.invalid ∧
      (s.leads = true → s'.di.setpoint = (m.entry.getD {}).setpoint ∧ s'.di.entryValid = (m.entry.getD {}).valid ∧ s'.di.nextCycle = m.cycle ∧ s'.di.taken = false ∧
        s'.di.applyFrom = max ((s.begin t).localOf ((s.begin t).sweepStart m.cycle) + 500000) (max s.now t)) ∧
      (s.leads = false → s'.di.setpoint = s.di.setpoint ∧ s'.di.entryValid = s.di.entryValid ∧ s'.di.taken = s.di.taken) := by
  obtain ⟨hma, hleader, hfollower⟩ := multicastReceived_accepted (s := s.begin t) hgood hears heven hepoch htimely
  obtain ⟨epoch, l0, htaken⟩ := multicastTaken_ma (s.begin t) h m
  have hloses : s.isMaster = true → s.ma.epoch < h.epoch → (((s.begin t).dispatchTaken h).claimHeard h.epoch).ma = s.ma.lost := by
    intro hmaster hlower
    have hsame := dispatchTaken_ma (s.begin t) h
    rw [claimHeard_loses ((dispatchTaken_isMaster (s.begin t) h).trans hmaster) (by rw [hsame]; exact hlower), loseMaster_ma, hsame]
    rfl
  rw [htaken] at hma
  refine answers_of (exec_setpointMulticastReceived ..) ?_
  generalize ((s.begin t).dispatchTaken h).claimHeard h.epoch = w at hloses hma
  generalize multicastReceived h m (s.begin t) = u at hma hleader hfollower ⊢
  obtain ⟨c, claiming, l, hsettled, hends, -⟩ := settled_ma s u t
  rw [hsettled, settled_di, hma]
  have hlost : s.isMaster = true → s.ma.epoch < h.epoch → w.ma.holds = false ∧ w.ma.ops = [] := fun hmaster hlower => by
    rw [hloses hmaster hlower]
    exact ⟨rfl, rfl⟩
  have hunclaimed : claiming = false := hends (by rw [hma])
  cases hleads : s.leads
  case true =>
    obtain ⟨late, from_, valid, phase, hdi⟩ := hleader hleads
    rw [hdi]
    exact ⟨rfl, rfl, rfl, rfl, rfl, hlost, hunclaimed, rfl, rfl, rfl, fun _ => ⟨rfl, rfl, rfl, rfl, rfl⟩, nofun⟩
  case false =>
    obtain ⟨late, from_, hdi⟩ := hfollower hleads
    rw [hdi]
    exact ⟨rfl, rfl, rfl, rfl, rfl, hlost, hunclaimed, rfl, rfl, rfl, nofun, fun _ => ⟨rfl, rfl, rfl⟩⟩

/-- The allocation of a cycle, once the step is settled. -/
theorem answers_allocation (t : Nat) (x : Fin 3) (s : State) (hmaster : s.isMaster = true) (htime : 1600000 ≤ (s.begin t).sinceEpoch % cycleNs)
    (hnew : s.ma.cycle ≠ some (s.begin t).nextCycle) (hkeeps : s.ma.handover = none) : Answers (.dispatchAllocation t x) s fun s' =>
      s'.ma.cycle = some (s.begin t).nextCycle ∧ s'.ma.spRequests = [] ∧ s'.ma.exRequests = [] ∧
      s'.ma.allocated = sumI (s'.ma.setpoints.map fun e => e.2) ∧ s'.di = s.di ∧
      (s.ma.spRequests = [] → s.ma.exRequests = [] → s'.ma.inForce = s.ma.move s.cfg.alloc.expiry ∧ s'.ma.target = s.ma.target ∧
        s'.ma.setpoints = s.allocation (s.ma.move s.cfg.alloc.expiry) (2 * (s.begin t).nextCycle % two32) s.ma.horizon) := by
  refine answers_of (exec_dispatchAllocation ..) ?_
  rw [dispatchAllocation_due (s := s.begin t) hmaster htime hnew hkeeps]
  have hallocated := allocateCycle_ungrouped (s.begin t) (s.begin t).nextCycle x.val
  have hdi := di_of_offMaster (allocateCycle_offMaster (s.begin t) (s.begin t).nextCycle x.val)
  have hnone : s.ma.spRequests = [] → s.ma.exRequests = [] → (s.begin t).requestsTaken = s.begin t := requestsTaken_of_none (s := s.begin t)
  generalize (s.begin t).nextCycle = n at hallocated hdi ⊢
  generalize (s.begin t).allocateCycle n x.val = v at hallocated hdi ⊢
  generalize (s.begin t).requestsTaken = r at hallocated hnone
  obtain ⟨c, claiming, l, hsettled, -⟩ := settled_ma s v t
  obtain ⟨-, -, htarget, hforce, -, -, -, -, hcycle, hsp, hex, hsum, hsetpoints⟩ := ungrouped_reads hallocated
  rw [hsettled, settled_di]
  have htotal : v.ma.allocated = sumI (v.ma.setpoints.map fun e => e.2) := by
    rw [hsum, hsetpoints]
    rfl
  refine ⟨hcycle, hsp, hex, htotal, hdi, fun hnosp hnoex => ?_⟩
  rw [hnone hnosp hnoex] at hforce htarget hsetpoints
  exact ⟨hforce, htarget, hsetpoints⟩

/-- A good status of a string, once the step is settled. -/
theorem answers_stringStatus (t : Nat) (h : DHdr) (x : StringStat) (s : State) (hnet : s.netOn = true) (hgood : hdrGood h = true) (hstatus : statusGood x = true) :
    Answers (.stringStatusReceived t h x) s fun s' => s'.ma.stats.get h.sender {} = { x with at_ := max s.now t, timeState := h.timeState } ∧
      (∀ i, i ≠ h.sender → s'.ma.stats.get i {} = s.ma.stats.get i {}) ∧ s'.ma.setpoints = s.ma.setpoints ∧ s'.ma.streams = s.ma.streams ∧
      s'.di.badFrames = s.di.badFrames ∧ s'.pw = { s.pw with opTimeNs := s'.pw.opTimeNs } := by
  refine answers_of (exec_stringStatusReceived ..) ?_
  obtain ⟨late, from_, htaken⟩ := dispatchTaken_still (s.begin t) h
  have hstill := (stringStatus_still (s := s.begin t) hnet hgood hstatus).trans (still_onMaster htaken _)
  generalize stringStatus h x (s.begin t) = u at hstill ⊢
  have hma := ma_of_still hstill
  have hdi := di_of_still hstill
  have hpw : u.pw = (s.begin t).pw := (pw_of_still hstill).trans rfl
  obtain ⟨c, claiming, l, hsettled, -⟩ := settled_ma s u t
  have hsettledPw : (s.settle (s.keep t u)).pw = u.pw := settle_pw ..
  rw [hsettled, settled_di, hsettledPw, hma, hdi, hpw]
  exact ⟨Table.get_put_same .., fun i hi => Table.get_put_other _ hi .., rfl, rfl, rfl, rfl⟩

/-- A frame of a stream at the plant master or its follower, once the step is settled. -/
theorem answers_streamFrame (t : Nat) (h : DHdr) (f : StreamIn) (s : State) (hnet : s.netOn = true) (hholds : s.ma.holds = true)
    (hrole : s.tw.role = .leader ∨ s.tw.role = .follower) (hgood : hdrGood h = true) :
    Answers (.streamFrameIngest t h f) s fun s' => s'.ma.streams = s.ma.streams.put h.sender {}
      ((s.ma.streams.get h.sender {}).ingested f ((s.ma.streams.get h.sender {}).level ((Config.streamRate h.sender : Rat) * 105 / 100) (max s.now t)) (max s.now t)) :=
  answers_of (exec_streamFrameIngest ..)
    ((settled_part (fun v : State => v.ma.streams) ..).trans (streamIngest_streams (s := s.begin t) hnet hholds hrole hgood f))

theorem ingested_discarded {x : Stream} {f : StreamIn} {level : Rat} (h : level < (f.octets : Rat)) (now : Nat) :
    x.ingested f level now = { x with tokens := level, filledAt := some now, pend := true, lastDiscard := now } := if_pos h

theorem ingested_reads (x : Stream) (f : StreamIn) (level : Rat) (now : Nat) : (x.ingested f level now).filledAt = some now ∧ (x.ingested f level now).decim = x.decim := by
  unfold Stream.ingested
  split <;> exact ⟨rfl, rfl⟩

theorem ingested_taken {x : Stream} {f : StreamIn} {level : Rat} (h : (f.octets : Rat) ≤ level) (now : Nat) :
    (x.ingested f level now).tokens = level - f.octets ∧ (x.ingested f level now).pend = x.pend ∧ (x.ingested f level now).lastDiscard = x.lastDiscard := by
  rw [Stream.ingested, if_neg (not_lt.2 h)]
  exact ⟨rfl, rfl, rfl⟩

theorem streamRelax_due {s : State} {i : Nat} (hdecim : 0 < (s.ma.streams.get i {}).decim) (hquiet : (s.ma.streams.get i {}).lastDiscard + sec 10 ≤ s.now) :
    (streamRelax i s).ma.streams = s.ma.streams.put i {} { s.ma.streams.get i {} with decim := (s.ma.streams.get i {}).decim - 1, lastDiscard := s.now } := by
  rw [streamRelax, if_pos ⟨hdecim, hquiet⟩]
  rfl

/-- Settles O37: each command of the dispatch cycle from what it leaves of the dispatch and of the plant master's state. -/
theorem dispatchCycle : Obligations.DispatchCycle := by
  refine ⟨?bad, ?deaf, ?odd, ?stale, ?late, answers_multicast, ?loss_idle, ?loss, ?phase_idle, ?phase, ?allocation_idle, answers_allocation, ?send_idle, ?send,
    ?life_idle, ?life, ?status_shut, ?status_bad, answers_stringStatus, ?stream_idle, ?stream, ?relax_idle, ?relax⟩
  case bad =>
    intro t h m s hbad
    exact does_of (exec_setpointMulticastReceived ..) (by rw [multicastReceived_bad hbad]; rfl)
  case deaf =>
    intro t h m s hgood hrun hwatch hentering
    exact idles_of (exec_setpointMulticastReceived ..) (multicastReceived_deaf hgood (by rintro (h | h | h); exacts [hrun h, hwatch h, hentering h]))
  case odd =>
    intro t h m s hgood hears hodd
    exact does_of (exec_setpointMulticastReceived ..) (by rw [multicastReceived_judged (s := s.begin t) hgood hears, if_pos hodd]; rfl)
  case stale =>
    intro t h m s hgood hears heven hstale
    have hodd : ¬ m.cycle % 2 = 1 := by omega
    exact does_of (exec_setpointMulticastReceived ..) (by rw [multicastReceived_judged (s := s.begin t) hgood hears, if_neg hodd, if_pos (by exact hstale)]; rfl)
  case late =>
    intro t h m s hgood hears heven hepoch hlate
    have hodd : ¬ m.cycle % 2 = 1 := by omega
    exact does_of (exec_setpointMulticastReceived ..) (by
      rw [multicastReceived_judged (s := s.begin t) hgood hears, if_neg hodd, if_neg (by exact hepoch.not_gt), if_pos (by exact hlate)]
      rfl)
  case loss_idle =>
    intro t s h
    exact idles_of (exec_masterLossHoldExpiry t s) (lossHold_idle (s := s.begin t) h)
  case loss =>
    intro t d s hleads hheard hat hdue
    refine answers_of (exec_masterLossHoldExpiry t s) ?_
    rw [lossHold_due (s := s.begin t) hleads hheard hat hdue]
    obtain ⟨ramping, at_, hdi, hramps⟩ := holdEnded_di (s.begin t)
    rw [settled_di, hdi]
    have hbeside := holdEnded_beside (s.begin t)
    rw [begin_bare] at hbeside
    exact ⟨rfl, rfl, rfl, hramps, settled_apart (fun v => { v with di := {}, freeIdx := 0 }) (s := s) (u := (s.begin t).holdEnded) hbeside t⟩
  case phase_idle =>
    intro t s h
    exact idles_of (exec_carrierPhaseApply t s) (carrierPhase_idle (s := s.begin t) h)
  case phase =>
    intro t p r s hphase hleads hsweep hdue
    exact does_of (exec_carrierPhaseApply t s) (by rw [carrierPhase_due (s := s.begin t) hphase hleads hsweep hdue]; rfl)
  case allocation_idle =>
    intro t x s h
    exact idles_of (exec_dispatchAllocation t x s) (dispatchAllocation_idle (s := s.begin t) h _)
  case send_idle =>
    intro t s h
    exact idles_of (exec_setpointMulticastSend t s) (multicastSend_idle (s := s.begin t) h)
  case send =>
    intro t s hmaster hcycle hnew hkeeps
    refine answers_of (exec_setpointMulticastSend t s) ?_
    rw [multicastSend_due (s := s.begin t) hmaster hcycle hnew hkeeps]
    obtain ⟨seqs, hma⟩ := sendMulticast_ma (s.begin t) (s.begin t).thisCycle
    obtain ⟨e, hsent, hkind⟩ := sendMulticast_emits (s.begin t) (s.begin t).thisCycle
    have hdi := di_of_offMaster (sendMulticast_offMaster (s.begin t) (s.begin t).thisCycle)
    generalize (s.begin t).sendMulticast (s.begin t).thisCycle = u at hma hsent hdi ⊢
    obtain ⟨c, claiming, l, hsettled, -⟩ := settled_ma s u t
    rw [hsettled, settled_di, hma]
    exact ⟨rfl, ⟨e, settled_emits hsent s t, hkind⟩, rfl, rfl, hdi⟩
  case life_idle =>
    intro t s h
    exact idles_of (exec_setpointLifetimeExpiry t s) (lifetimeExpiry_idle (s := s.begin t) h)
  case life =>
    intro t d s hmaster hlife hdue hnone
    exact does_of (exec_setpointLifetimeExpiry t s) (by rw [lifetimeExpiry_due (s := s.begin t) hmaster hlife hdue hnone, record_bare]; rfl)
  case status_shut =>
    intro t h x s hnet
    have hnet : (s.begin t).netOn = false := hnet
    exact idles_of (exec_stringStatusReceived ..) (by rw [stringStatus, hnet]; rfl)
  case status_bad =>
    intro t h x s hnet hbad
    exact does_of (exec_stringStatusReceived ..) (by rw [stringStatus_bad (s := s.begin t) hnet hbad]; rfl)
  case stream_idle =>
    intro t h f s hidle
    exact idles_of (exec_streamFrameIngest ..) (streamIngest_idle (s := s.begin t) hidle h f)
  case stream =>
    intro t h f s hnet hholds hrole hgood
    obtain ⟨s', hnext, hstreams⟩ := answers_streamFrame t h f s hnet hholds hrole hgood
    intro x rate b
    refine ⟨s', hnext, ?_⟩
    dsimp only
    rw [hstreams, Table.get_put_same]
    obtain ⟨hfilled, hdecim⟩ := ingested_reads x f b (max s.now t)
    refine ⟨hfilled, hdecim, fun i hi => Table.get_put_other _ hi .., fun hlow => ?_, fun hfull => ingested_taken hfull _⟩
    have hdiscarded := ingested_discarded (x := x) hlow (max s.now t)
    exact ⟨congrArg Stream.tokens hdiscarded, congrArg Stream.pend hdiscarded, congrArg Stream.lastDiscard hdiscarded, (congrArg Stream.kept hdiscarded :)⟩
  case relax_idle =>
    intro t i s h
    exact idles_of (exec_streamDecimationRelax t i s) (if_neg fun hdue => (h ▸ hdue.1).false)
  case relax =>
    intro t i s hdecim hquiet
    refine answers_of (exec_streamDecimationRelax t i s) ?_
    have hrelaxes := streamRelax_due (s := s.begin t) hdecim hquiet
    generalize streamRelax i (s.begin t) = u at hrelaxes ⊢
    have hstreams := (settled_part (fun v : State => v.ma.streams) s u t).trans hrelaxes
    generalize s.settle (s.keep t u) = s' at hstreams ⊢
    have hstreams : s'.ma.streams = s.ma.streams.put i {}
      { s.ma.streams.get i {} with decim := (s.ma.streams.get i {}).decim - 1, lastDiscard := max s.now t } := hstreams
    rw [hstreams, Table.get_put_same]
    exact ⟨rfl, rfl, fun j hj => Table.get_put_other _ hj ..⟩

end Sys2Proof.Machine
